-- ==== Sys2Proof/Word.lean ====
section
/-! DEFINITION. The word types and their plainest arithmetic: bytes, 32-bit words, bits and fields of a number,
and the sparse tables in which the model keeps whatever the manual numbers. -/

namespace Sys2Proof

/-- A byte as the manual stores and sends it. -/
abbrev Byte := BitVec 8

/-- A 32-bit word: a record, a queue slot. -/
abbrev Word := BitVec 32

/-- Bit `i` of a number, bit 0 the least significant (R4). -/
def bit (v : Int) (i : Nat) : Bool := v.toNat.testBit i

/-- The field `[hi:lo]` of a number (R4). -/
def field (v : Int) (hi lo : Nat) : Nat := v.toNat / 2 ^ lo % 2 ^ (hi - lo + 1)

/-- A number with bit `i` set. -/
def withBit (v : Int) (i : Nat) : Int := ((v.toNat ||| 2 ^ i : Nat) : Int)

/-- A number with the bits of a mask cleared. -/
def withoutBits (v mask : Int) : Int := ((v.toNat - (v.toNat &&& mask.toNat) : Nat) : Int)

/-- A number held between two bounds. -/
def clampInt (lo hi v : Int) : Int := if v < lo then lo else if hi < v then hi else v

/-- A flag as the number a BOOL object holds (R439). -/
def b2i (b : Bool) : Int := if b then 1 else 0

/-- A table indexed by `κ` in which an entry not listed reads as `d` gives it. -/
def Sparse.get {κ α : Type} [DecidableEq κ] (d : κ → α) : List (κ × α) → κ → α
  | [], k => d k
  | (k', v) :: t, k => if k' = k then v else Sparse.get d t k

/-- Places an entry in rising order of `ord`, in place of an entry of the same key. -/
def Sparse.insert {κ α : Type} [DecidableEq κ] (ord : κ → Nat) (k : κ) (v : α) : List (κ × α) → List (κ × α)
  | [] => [(k, v)]
  | (k', v') :: t =>
    if k' = k then (k, v) :: t
    else if ord k < ord k' then (k, v) :: (k', v') :: t
    else (k', v') :: Sparse.insert ord k v t

/-- Takes an entry out of a table. -/
def Sparse.erase {κ α : Type} [DecidableEq κ] (k : κ) : List (κ × α) → List (κ × α)
  | [] => []
  | (k', v') :: t => if k' = k then Sparse.erase k t else (k', v') :: Sparse.erase k t

/-- Writes an entry of a table; an entry equal to what an unlisted key reads as is taken out,
so that equal tables are equal data. -/
def Sparse.put {κ α : Type} [DecidableEq κ] [DecidableEq α] (d : κ → α) (ord : κ → Nat)
    (l : List (κ × α)) (k : κ) (v : α) : List (κ × α) :=
  if v = d k then Sparse.erase k l else Sparse.insert ord k v l

/-- The canonical form of a table: keys strictly rising, and no entry equal to what an unlisted key reads as. -/
def Sparse.wf {κ α : Type} [DecidableEq α] (d : κ → α) (ord : κ → Nat) : List (κ × α) → Bool
  | [] => true
  | [(k, v)] => decide (v ≠ d k)
  | (k, v) :: (k', v') :: t => decide (v ≠ d k) && decide (ord k < ord k') && Sparse.wf d ord ((k', v') :: t)

end Sys2Proof
end

