-- ==== Sys2Proof/Config.lean ====
section
/-! DEFINITION. What an implementation fixes and the manual leaves open: constants without a body, so that nothing
can be proved of their values. Each is named in a log entry. -/

namespace Sys2Proof.Config

/-- The place of a rounding that the manual does not state (log entry 4). -/
inductive RoundSite where
  | scaling | coefFade | pathFade | dcBlocker | record | farrow | mean | rms | holdMean | stat | ripen | ratio | cicScale | fir | leadEst | cjc | slewRate | clkScale | other
deriving DecidableEq, Repr, Inhabited

/-- Whether a quotient that is not whole is rounded up at a place (log entry 4). -/
opaque roundUp : RoundSite → Int → Int → Bool

/-- What a counter of a width reads after it passes its greatest value (log entry 8). -/
opaque counterPast : (greatest : Int) → Int

/-- The hub address of this hub, 0x1FF when it has none; the manual does not say how it is given (R355; log entry 9). -/
opaque hubAddress : Nat

/-- The identity of this part in TRAIN blocks and member records (R329, R601; log entry 9). -/
opaque partId : Nat

/-- A value the manual leaves open, the `n`-th that the machine meets (log entry 5). -/
opaque freeValue : Nat → Nat

/-- What a stream of ones alone stands for, 2^-8 LSB; the manual does not give the modulators' full scale (log entry 7). -/
opaque fullOnes : Int

/-- The output of a halfband stage of a preset over its 63 newest inputs, newest first; the manual gives no coefficients
(R165; log entry 7). -/
opaque halfband : (preset stage : Nat) → List Int → Int

/-- The output of the notch at a frequency, 0 for 50 Hz and 1 for 60 Hz, over its newest inputs, the present one first, and its
newest outputs; the manual gives no coefficients (R178; log entry 7). -/
opaque notch : (frequency : Nat) → (inputs outputs : List Int) → Int

/-- The coefficient, in 2.30, of a power of μ at a tap of the interpolator, tap 0 at the newest sample (R180; log entry 7). -/
opaque farrowTap : (power tap : Nat) → Int

/-- An output of stage 3 of a path from a coefficient bank whose parity has failed, in a tick (R176; log entry 7). -/
opaque spoiledFir : (bank path k : Nat) → (tick : Int) → Int

/-- Bytes the manual leaves open: the `n`-th draw, of a length (random numbers, R537 and R540; log entry 5). -/
opaque freeBytes : Nat → Nat → List Byte

/-- The SHA-256 hash of R536, R540, R541 and the like (log entry 6). -/
opaque sha256 : List Byte → List Byte

/-- The ECDSA check of a signature by a public key (R537 to R541; log entry 6). -/
opaque ecdsaVerify : (pub msg sig : List Byte) → Bool

/-- The shared secret of the key exchange of R537 (log entry 6). -/
opaque ecdh : (priv pub : List Byte) → List Byte

/-- The public point of a private key (R537; log entry 6). -/
opaque publicOf : List Byte → List Byte

/-- The key derivation of R537 and R540 (log entry 6). -/
opaque kdf : (secret info : List Byte) → List Byte

/-- The tag of AES-256-GCM over header and body (R455; log entry 6). -/
opaque gcmTag : (key nonce aad body : List Byte) → List Byte

/-- The key stream of AES-256-GCM, of a length (R455; log entry 6). -/
opaque gcmStream : (key nonce : List Byte) → Nat → List Byte

/-- The output of the 63-tap filter of R260, whose coefficients the manual does not give, over its 63 inputs (log entry 14). -/
opaque ripenFir : List Int → Int

/-- The management core on which the firmware service of a code runs, 0 A or 1 B; none for an unknown code
(R472, R473: the codes are listed with the firmware release; log entry 21). -/
opaque mailService : Nat → Option Nat

/-- The entry, index × 256 + subindex, under which a DICT_MIRROR frame carries the excitation calibration of a channel, and
its bytes; the manual names neither (R432; log entry 22). -/
opaque excMirrorPlace : Nat
opaque excMirrorBytes : (chan : Nat) → (offset gainPos gainNeg : Int) → List Byte

/-- A stream segment, or a capture region, of a cave layout has bytes in a test region; the manual does not give the addresses
of the layout's parts (R292, R563; log entry 25). -/
opaque inTestRegion : (segments regionMib : Nat) → (capture : Bool) → (i region : Nat) → Bool

/-- What production wrote into a firmware image slot (R541; log entry 26). -/
opaque factoryImage : (slot : Nat) → List Byte

/-- The device private key; only the cryptographic engine uses it (R536; log entry 6). -/
opaque deviceKey : List Byte

/-- A signature by the device key (R537; log entry 6). -/
opaque ecdsaSign : (priv msg : List Byte) → List Byte

end Sys2Proof.Config
end

