-- ==== Sys2Proof/Machine/Objects.lean ====
section
/-! DEFINITION. The object dictionary of the hub: one name for every row of the manual's object tables
(`Obj`), its place, type, access, role and range (`ObjInfo`, `objTable`) and its default (`Obj.dflt`).
The names are the manual's own, so they are written as the manual writes them. Every name carries in its
comment the index and subindex, and the chapter and rule of spec/ whose table holds it. -/

namespace Sys2Proof.Machine

/-- The objects of the dictionary (R438, R439), one constructor per table row.
An object of several instances (channels, banks, inputs, entries) is one name with an instance number. -/
inductive Obj where
  /-- 0x1000:01 STR RO; 00_scope R2: Ordering code without the variant suffix -/
  | PART_NUMBER
  /-- 0x1000:02 U8 RO; 00_scope R2: Silicon stepping; high nibble is the letter (0xB = B), low nibble is the digit -/
  | STEPPING
  /-- 0x1000:03 U8 RO; 00_scope R2: 0 = FB-I, 1 = FB-E; other values are not used -/
  | VARIANT
  /-- 0x1680:01 U8 RO; 01_architecture R637: 0 = STOPPED, 1 = RUNNING, 2 = INVALID -/
  | FRAME_STATE
  /-- 0x1680:02 U8 RO; 01_architecture R637: Number of the END step, or 255 when the table has none -/
  | FRAME_END_STEP
  /-- 0x1680:03 U64 RO; 01_architecture R637: Grid index of the last completed tick -/
  | FRAME_TICK
  /-- 0x1680:04 U8 RWS; 01_architecture R637: 0 = table generated by firmware, 1 = table as written to 0x1681 -/
  | FRAME_SOURCE
  /-- 0x1680:05 U8 RO; 01_architecture R637: Number of the first step refused by the rules of R23; valid when FRAME_STATE is 2 -/
  | FRAME_BAD_STEP
  /-- 0x1681:00–0x1681:FF U32 RWS; 01_architecture R637: Step n, encoded as in R21; n is the subindex -/
  | FRAME_STEP_n
  /-- 0x6800:01 VT80 RO; 02_time_and_grid R71: VT at the cycle the read is served -/
  | VT_NOW
  /-- 0x6800:02 U8 RO; 02_time_and_grid R71: State, codes of R52 -/
  | VT_STATE
  /-- 0x6800:03 U8 RWS; 02_time_and_grid R71: Source, codes of R48 -/
  | VT_SOURCE
  /-- 0x6800:04 U32 RW; 02_time_and_grid R71: 8.24 ns per cycle; range of R39; owner rule of R45 -/
  | VT_INCREMENT
  /-- 0x6800:05 U8 RW; 02_time_and_grid R71: 0 firmware, 1 host -/
  | SERVO_OWNER
  /-- 0x6800:06 U32 RW; 02_time_and_grid R71: ns, 100–1,000,000; shared with PT -/
  | STEP_THRESHOLD
  /-- 0x6800:07 VT80 CMD; 02_time_and_grid R71: Set VT; only while stopped -/
  | VT_LOAD
  /-- 0x6800:08 I64 CMD; 02_time_and_grid R71: Offset to slew, 2^-16 ns -/
  | VT_SLEW
  /-- 0x6800:09 I64 RO; 02_time_and_grid R71: Slew still to run, 2^-16 ns -/
  | SLEW_REMAINING
  /-- 0x6800:0A U16 RW; 02_time_and_grid R71: ppm, 1–500; shared with PT -/
  | SLEW_RATE
  /-- 0x6800:0B I64 RO; 02_time_and_grid R71: Latest source offset, 2^-16 ns -/
  | PHASE_ERROR
  /-- 0x6800:0C U32 RW; 02_time_and_grid R71: ns, 1–1,000 -/
  | LOCK_WINDOW
  /-- 0x6800:0D U16 RW; 02_time_and_grid R71: Servo cycles, 1–1,000 -/
  | QUALIFY_COUNT
  /-- 0x6800:0E U16 RW; 02_time_and_grid R71: Servo cycles averaged, 1–60,000 -/
  | HOLDOVER_AVG
  /-- 0x6800:0F U32 RO; 02_time_and_grid R71: Increment in holdover -/
  | HOLD_INCREMENT
  /-- 0x6800:10 U32 RW; 02_time_and_grid R71: ms before FREE -/
  | HOLDOVER_LIMIT
  /-- 0x6800:11 U16 RW; 02_time_and_grid R71: ms, 2–1,000 -/
  | TIMEOUT_RING
  /-- 0x6800:12 U16 RW; 02_time_and_grid R71: ms, 100–60,000 -/
  | TIMEOUT_PT
  /-- 0x6800:13 U16 RW; 02_time_and_grid R71: ms, 1,100–60,000 -/
  | TIMEOUT_PPS
  /-- 0x6800:14 U32 RO; 02_time_and_grid R71: ms in HOLDOVER and FREE; 0 otherwise -/
  | HOLDOVER_TIME
  /-- 0x6801:01 VT80 RWS; 02_time_and_grid R71: Grid instant 0; R59 -/
  | VAT_EPOCH
  /-- 0x6801:02 U64 RO; 02_time_and_grid R71: Grid index of VT_NOW -/
  | GRID_INDEX
  /-- 0x6801:03 VT80 RO; 02_time_and_grid R71: VT of grid instant GRID_INDEX -/
  | GRID_INSTANT
  /-- 0x6802:01 U8 RO; 02_time_and_grid R71: 0 OFF, 1 LOCKING, 2 LOCKED -/
  | MODCLK_STATE
  /-- 0x6802:02 I32 RO; 02_time_and_grid R71: Mean phase over the last tick, 2^-16 ns -/
  | MODCLK_PHASE
  /-- 0x6802:03 U32 RO; 02_time_and_grid R71: Losses of lock since reset -/
  | MODCLK_UNLOCKS
  /-- 0x6803:01 VT80 RO; 02_time_and_grid R71: PT at the cycle the read is served -/
  | PT_NOW
  /-- 0x6803:02 U8 RO; 02_time_and_grid R71: Codes of R52 -/
  | PT_STATE
  /-- 0x6803:03 U32 RW; 02_time_and_grid R71: As VT_INCREMENT -/
  | PT_INCREMENT
  /-- 0x6803:04 I64 CMD; 02_time_and_grid R71: As VT_SLEW -/
  | PT_SLEW
  /-- 0x6803:05 I64 RWS; 02_time_and_grid R71: VT − PT target, ns -/
  | VT_PT_OFFSET
  /-- 0x6803:06 I64 RO; 02_time_and_grid R71: PT slew still to run, 2^-16 ns; R44 -/
  | PT_SLEW_REMAINING
  /-- 0x6804:01 U64 RO; 02_time_and_grid R71: Keeper count -/
  | KT_NOW
  /-- 0x6804:02 U8 RO; 02_time_and_grid R71: 0 crystal, 1 internal RC -/
  | KT_CLOCK
  /-- 0x6804:03 U8 RW; 02_time_and_grid R71: 0 crystal with fall-back to RC, 1 RC only -/
  | KT_CLOCK_SEL
  /-- 0x6805:01 U8 RWS; 02_time_and_grid R71: 0 TCXO, 1 CLK10_IN -/
  | CLK_REF_SEL
  /-- 0x6805:02 BOOL RO; 02_time_and_grid R71: CLK10_IN toggling -/
  | CLK10_PRESENT
  /-- 0x6805:03 BOOL RW; 02_time_and_grid R71: Sample PPS_IN -/
  | PPS_IN_ENABLE
  /-- 0x6805:04 U8 RW; 02_time_and_grid R71: 0 rising, 1 falling -/
  | PPS_IN_EDGE
  /-- 0x6805:05 I32 RW; 02_time_and_grid R71: ns subtracted from the edge stamp -/
  | PPS_IN_DELAY
  /-- 0x6805:06 VT80 RO; 02_time_and_grid R71: Corrected VT of the last edge -/
  | PPS_IN_LAST
  /-- 0x6805:07 U8 RW; 02_time_and_grid R71: 0 off, 1 VT, 2 PT -/
  | PPS_OUT_MODE
  /-- 0x6805:08 U32 RW; 02_time_and_grid R71: µs, 1–500,000 -/
  | PPS_OUT_WIDTH
  /-- 0x6805:09 I32 RW; 02_time_and_grid R71: ns lead, −1,000 to 1,000 -/
  | PPS_OUT_DELAY
  /-- 0x6805:0A U8 RO; 02_time_and_grid R71: Reference in use: 0 TCXO, 1 CLK10_IN; R65 -/
  | CLK_REF_ACTIVE
  /-- 0x1140:01 U8 RWS; 02_time_and_grid R72: 0 off, 1 slave-only, 2 master-capable, 3 grandmaster -/
  | PTP_MODE
  /-- 0x1140:02 U8 RWS; 02_time_and_grid R72: 0–127 -/
  | PTP_DOMAIN
  /-- 0x1140:03 U8 RWS; 02_time_and_grid R72: 0 UDP/IPv4, 1 IEEE 802.3 -/
  | PTP_TRANSPORT
  /-- 0x1140:04 U8 RWS; 02_time_and_grid R72: 0 E2E, 1 P2P -/
  | PTP_DELAY_MECH
  /-- 0x1140:05 BOOL RWS; 02_time_and_grid R72: Transmit one-step -/
  | PTP_ONE_STEP
  /-- 0x1140:06 I32 RWS; 02_time_and_grid R72: −1 to 1 -/
  | PTP_LOG_SYNC
  /-- 0x1140:07 I32 RWS; 02_time_and_grid R72: 0 to 4 -/
  | PTP_LOG_ANNOUNCE
  /-- 0x1140:08 U8 RWS; 02_time_and_grid R72: 2 to 10 intervals -/
  | PTP_ANNOUNCE_TIMEOUT
  /-- 0x1140:09 I32 RWS; 02_time_and_grid R72: 0 to 5; Delay_Req or Pdelay_Req interval -/
  | PTP_LOG_DELAY_REQ
  /-- 0x1140:0A U8 RW; 02_time_and_grid R72: priority1 -/
  | PTP_PRIORITY1
  /-- 0x1140:0B U8 RW; 02_time_and_grid R72: priority2 -/
  | PTP_PRIORITY2
  /-- 0x1140:0C U8 RO; 02_time_and_grid R72: portState enumeration of IEEE 1588-2019 -/
  | PTP_PORT_STATE
  /-- 0x1140:0D U64 RO; 02_time_and_grid R72: Grandmaster clockIdentity -/
  | PTP_GM_IDENTITY
  /-- 0x1140:0E I64 RO; 02_time_and_grid R72: Mean path delay, 2^-16 ns -/
  | PTP_MEAN_DELAY
  /-- 0x1140:0F I64 RO; 02_time_and_grid R72: Offset from master, 2^-16 ns -/
  | PTP_OFFSET
  /-- 0x1140:10 U16 RW; 02_time_and_grid R72: ns added to transmit stamps -/
  | PHY_TX_LATENCY
  /-- 0x1140:11 U16 RW; 02_time_and_grid R72: ns subtracted from receive stamps -/
  | PHY_RX_LATENCY
  /-- 0x3000+c:01 U8 RW; 03_channel_front_ends R110: Codes of R77; 8 is set only by R79 -/
  | CH_MODE
  /-- 0x3000+c:02 U8 RW; 03_channel_front_ends R110: Codes of R78 -/
  | CH_RANGE
  /-- 0x3000+c:03 I32 RW; 03_channel_front_ends R110: Excitation, 10 µA units, −150 to 150 -/
  | CH_EXC
  /-- 0x3000+c:04 BOOL RW; 03_channel_front_ends R110: 100 nA pull, R83 -/
  | BURNOUT
  /-- 0x3000+c:05 I32 RW; 03_channel_front_ends R110: Offset correction, record LSB -/
  | CAL_OFFSET
  /-- 0x3000+c:06 U32 RW; 03_channel_front_ends R110: Gain correction, 2.30 fixed point -/
  | CAL_GAIN
  /-- 0x3000+c:07 I32 RW; 03_channel_front_ends R110: Live path delay, 2^-16 ns -/
  | GROUP_DELAY
  /-- 0x3000+c:08 I32 RO; 03_channel_front_ends R110: Spare offset for this input, refreshed each visit -/
  | SPARE_OFFSET
  /-- 0x3000+c:09 U32 RO; 03_channel_front_ends R110: Spare gain for this input, 2.30 -/
  | SPARE_GAIN
  /-- 0x3000+c:0A I32 RW; 03_channel_front_ends R110: Spare path delay for this input, 2^-16 ns -/
  | SPARE_DELAY
  /-- 0x3000+c:0B U8 RO; 03_channel_front_ends R110: Codes of R93 -/
  | CH_PRESENCE
  /-- 0x3000+c:0C U8 RO; 03_channel_front_ends R110: Codes of R91 -/
  | CH_WIRE_FAULT
  /-- 0x3000+c:0D U32 RO; 03_channel_front_ends R110: Entries into ABSENT -/
  | CH_ABSENT_COUNT
  /-- 0x3000+c:0E U32 RO; 03_channel_front_ends R110: Entries into FAULT -/
  | CH_FAULT_COUNT
  /-- 0x3000+c:0F U8 RO; 03_channel_front_ends R110: 0 live, 1 spare, 2 none -/
  | CH_SERVED_BY
  /-- 0x3000+c:10 — CMD; 03_channel_front_ends R110: Calibrate, R102 -/
  | CH_CALIBRATE
  /-- 0x3000+c:11 I32 RW; 03_channel_front_ends R110: Fixed lead resistance that the record holds, by R639, mΩ: in RTD2 both leads together; in RTD3 the BREFb lead, used until the first LEAD execution by R123 -/
  | LEAD_OFFSET
  /-- 0x2000+b:01 BOOL RWS; 03_channel_front_ends R111: Bank acquires -/
  | BANK_ENABLE
  /-- 0x2000+b:02 U8 RW; 03_channel_front_ends R111: R82 -/
  | GUARD_MODE
  /-- 0x2000+b:03 U8 RW; 03_channel_front_ends R111: Input 0–15 for GUARD_MODE 2 -/
  | GUARD_SOURCE
  /-- 0x2000+b:04 U8 RO; 03_channel_front_ends R111: Codes of R88 -/
  | COMP_LINK_STATE
  /-- 0x2000+b:05 U8 RO; 03_channel_front_ends R111: Last good STATUS -/
  | COMP_STATUS
  /-- 0x2000+b:06 U16 RO; 03_channel_front_ends R111: Last good LOOP_FAULT -/
  | COMP_LOOP_FAULT
  /-- 0x2000+b:07 U32 RO; 03_channel_front_ends R111: Bad exchanges -/
  | COMP_ERRORS
  /-- 0x2000+b:08 U16 RO; 03_channel_front_ends R111: Companion VERSION -/
  | COMP_VERSION
  /-- 0x2000+b:09 U16 RW; 03_channel_front_ends R111: Loop power mask, R86 -/
  | COMP_LOOP_POWER
  /-- 0x2000+b:0A U32 RO; 03_channel_front_ends R111: Bits of R108 -/
  | BANK_CAUSE
  /-- 0x2000+b:0B U32 CMD; 03_channel_front_ends R111: Clears the bits set in the value -/
  | BANK_CAUSE_CLEAR
  /-- 0x2000+b:0C BOOL RW; 03_channel_front_ends R111: Shadow rotation on -/
  | SHADOW_ENABLE
  /-- 0x2000+b:0D U16 RW; 03_channel_front_ends R111: Output samples, 64–65,535 -/
  | SHADOW_DWELL
  /-- 0x2000+b:0E U32 RW; 03_channel_front_ends R111: Record LSB -/
  | SHADOW_MEAN_LIMIT
  /-- 0x2000+b:0F U32 RW; 03_channel_front_ends R111: Record LSB -/
  | SHADOW_RMS_LIMIT
  /-- 0x2000+b:10 U64 RO; 03_channel_front_ends R111: [63:60] verdict 0 pass, 1 mismatch, 2 none; [59:56] input; [55:0] grid index of dwell start -/
  | SHADOW_LAST
  /-- 0x2000+b:11 U32 RO; 03_channel_front_ends R111: Mismatch verdicts -/
  | SHADOW_MISMATCHES
  /-- 0x2000+b:12 U32 RO; 03_channel_front_ends R111: Dwells without verdict -/
  | SHADOW_SKIPS
  /-- 0x2000+b:13 U32 RO; 03_channel_front_ends R111: Arbitrations passing both -/
  | SHADOW_UNRESOLVED
  /-- 0x2000+b:14 U8 RO; 03_channel_front_ends R111: Codes of R104 -/
  | SPARE_STATE
  /-- 0x2000+b:15 U8 RO; 03_channel_front_ends R111: Input served or shadowed -/
  | SPARE_CHANNEL
  /-- 0x2000+b:16 U8 RW; 03_channel_front_ends R111: Output samples, 2–64 -/
  | TAKEOVER_FADE
  /-- 0x2000+b:17 U16 RW; 03_channel_front_ends R111: ppm of FS -/
  | ARB_LIMIT
  /-- 0x2000+b:18 U32 RW; 03_channel_front_ends R111: Ω -/
  | OPEN_LIMIT
  /-- 0x2000+b:19 U16 RW; 03_channel_front_ends R111: mΩ -/
  | SHORT_LIMIT
  /-- 0x2000+b:1A U16 RW; 03_channel_front_ends R111: µA -/
  | LOOP_ABSENT_LIMIT
  /-- 0x2000+b:1B U16 RW; 03_channel_front_ends R111: µA -/
  | REV_LIMIT
  /-- 0x2000+b:1C U16 RW; 03_channel_front_ends R111: Grid ticks, 4–65,535 -/
  | REQUAL_TICKS
  /-- 0x2000+b:1D U8 RW; 03_channel_front_ends R111: [5:4] trier converter, [3:0] entry -/
  | CJC_ENTRY
  /-- 0x2000+b:1E BLOB RW; 03_channel_front_ends R111: 8 points: I16 temperature in 0.01 °C, I32 µV -/
  | CJC_TABLE
  /-- 0x2000+b:1F — CMD; 03_channel_front_ends R111: R103 -/
  | BANK_DELAY_CAL
  /-- 0x2000+b:20 U16 RO; 03_channel_front_ends R111: Last FAULT_LATCH value read from the YQP16, R86 -/
  | COMP_FAULT_LATCH
  /-- 0x2100+b:01 U8 RW; 04_scan_tables_and_validity R134: Entries per pass, 0–32; 0 runs the bank without a table -/
  | SCAN_LENGTH
  /-- 0x2100+b:02 U8 RO; 04_scan_tables_and_validity R134: Codes of R132 -/
  | SCAN_STATE
  /-- 0x2100+b:03 U8 RO; 04_scan_tables_and_validity R134: Entry now running -/
  | SCAN_ENTRY
  /-- 0x2100+b:04 U8 RO; 04_scan_tables_and_validity R134: Execution of that entry, 0–15 -/
  | SCAN_EXECUTION
  /-- 0x2100+b:05 U64 RO; 04_scan_tables_and_validity R134: Pass number p of R113 -/
  | SCAN_PASS
  /-- 0x2100+b:06 U32 RO; 04_scan_tables_and_validity R134: Pass length L, grid ticks -/
  | SCAN_PASS_TICKS
  /-- 0x2100+b:07 U64 RO; 04_scan_tables_and_validity R134: Grid index of pass 0 -/
  | SCAN_START
  /-- 0x2100+b:08 U16 RW; 04_scan_tables_and_validity R134: Grid ticks, 4–4,095 -/
  | EXC_SETTLE
  /-- 0x2100+b:09 U16 RW; 04_scan_tables_and_validity R134: Grid ticks, 64–65,535 -/
  | LOOP_SETTLE
  /-- 0x2100+b:0A U8 CMD; 04_scan_tables_and_validity R134: 1 hold, 0 release; R132 -/
  | SCAN_HOLD
  /-- 0x2100+b:0B U8 RO; 04_scan_tables_and_validity R134: First entry refused by R131; 0x20 for SCAN_LENGTH; 0xFF none -/
  | SCAN_BAD_ENTRY
  /-- 0x2100+b:0C U32 RO; 04_scan_tables_and_validity R134: Acting inputs of test entries left without a verdict, R120 -/
  | SCAN_INCONCLUSIVE
  /-- 0x2100+b:0D U32 RO; 04_scan_tables_and_validity R134: Acting inputs of test entries given a verdict, R120 -/
  | SCAN_TESTS
  /-- 0x2100+b:10–0x2100+b:2F U64 RW; 04_scan_tables_and_validity R134: Entry n = subindex − 0x10, encoded as in R116 -/
  | SCAN_ENTRY_n
  /-- 0x2100+b:30–0x2100+b:3F I32 RO; 04_scan_tables_and_validity R134: Lead estimate of input i = subindex − 0x30, mΩ; R123 -/
  | LEAD_EST_i
  /-- 0x2100+b:40–0x2100+b:4F U64 RO; 04_scan_tables_and_validity R134: WHEY records of input i = subindex − 0x40; R129 -/
  | WHEY_COUNT_i
  /-- 0x2200+t:01 U8 RW; 05_trier_converters R161: Codes of R143 -/
  | TRIER_MODE
  /-- 0x2200+t:02 U8 RO; 05_trier_converters R161: Codes of R152 -/
  | TRIER_STATE
  /-- 0x2200+t:03 U8 RW; 05_trier_converters R161: Entries per pass, 0–16 -/
  | SEQ_LENGTH
  /-- 0x2200+t:04 U8 RW; 05_trier_converters R161: GRID cadence, 0–15 -/
  | TRIER_CAD
  /-- 0x2200+t:05 U16 RW; 05_trier_converters R161: Trier clocks, 0–624 -/
  | TRIG_DELAY
  /-- 0x2200+t:06 U8 CMD; 05_trier_converters R161: Start a SINGLE pass -/
  | START
  /-- 0x2200+t:07 U8 RW; 05_trier_converters R161: R147, 0–15 -/
  | ABORT_LIMIT
  /-- 0x2200+t:08 U32 RW; 05_trier_converters R161: Grid ticks, 64–16,777,215 -/
  | STALE_TICKS
  /-- 0x2200+t:09 U32 RO; 05_trier_converters R161: Completed passes -/
  | PASS_COUNT
  /-- 0x2200+t:0A U32 RO; 05_trier_converters R161: Skipped passes and ignored STARTs -/
  | PASS_SKIPS
  /-- 0x2200+t:0B U32 RO; 05_trier_converters R161: Aborted sequence conversions -/
  | ABORTS
  /-- 0x2200+t:0C U32 CMD; 05_trier_converters R161: Entry word, R146 -/
  | INJ_REQUEST
  /-- 0x2200+t:0D U64 RO; 05_trier_converters R161: Word of R141 -/
  | INJ_RESULT
  /-- 0x2200+t:0E U32 RO; 05_trier_converters R161: Refused requests -/
  | INJ_REFUSED
  /-- 0x2200+t:0F U8 CMD; 05_trier_converters R161: R149 -/
  | CAL_START
  /-- 0x2200+t:10 U8 RO; 05_trier_converters R161: 0 none, 1 pending, 2 running, 3 done, 4 fault -/
  | CAL_STATE
  /-- 0x2200+t:11 I32 RO; 05_trier_converters R161: Offset correction, LSB × 2^-8 -/
  | TRIER_CAL_OFFSET
  /-- 0x2200+t:12 U32 RO; 05_trier_converters R161: Gain correction, 2.30 -/
  | TRIER_CAL_GAIN
  /-- 0x2200+t:13 I32 RW; 05_trier_converters R161: R140, 16.16 -/
  | LIN_GAIN
  /-- 0x2200+t:14 I32 RW; 05_trier_converters R161: R140, 0.01 °C -/
  | LIN_OFFSET
  /-- 0x2200+t:15 U8 RW; 05_trier_converters R161: Queue for words; 0xFF none -/
  | TRIER_QUEUE
  /-- 0x2200+t:16 U64 RO; 05_trier_converters R161: Grid index g of the start of the latest completed pass -/
  | PASS_GRID
  /-- 0x2200+t:17 U32 RO; 05_trier_converters R161: [0] skip, [1] window, [2] refused request, [3] commit refused, [4] calibration done, [5] calibration fault, [6] calibration refused, [7] abort limit, [8] fenced; [31:9] reserved -/
  | TRIER_CAUSE
  /-- 0x2200+t:18 U32 CMD; 05_trier_converters R161: Clears the bits set in the value -/
  | TRIER_CAUSE_CLEAR
  /-- 0x2200+t:19 U8 RO; 05_trier_converters R161: R156; 0xFF none -/
  | SEQ_BAD_ENTRY
  /-- 0x2204+t:10–0x2204+t:1F U32 RW; 05_trier_converters R161: Entry n = subindex − 0x10, R138 -/
  | SEQ_ENTRY_n
  /-- 0x2204+t:20–0x2204+t:2F U32 RW; 05_trier_converters R161: Limits of entry n = subindex − 0x20, R142 -/
  | WINDOW_n
  /-- 0x2208+t:10–0x2208+t:1F U64 RO; 05_trier_converters R161: Latest word of entry n = subindex − 0x10 -/
  | RESULT_n
  /-- 0x220C:01 U8 RWS; 05_trier_converters R161: [3:0] group members, R145 -/
  | SIMUL_MASK
  /-- 0x220C:02 U8 CMD; 05_trier_converters R161: Bank to calibrate, R158 -/
  | EXC_CAL
  /-- 0x220C:03 U8 RW; 05_trier_converters R161: Converter used by EXC_CAL -/
  | EXC_CAL_TRIER
  /-- 0x220C:04 U32 RO; 05_trier_converters R161: [31:24] bank; [23:16] 0 idle, 1 running, 2 done, 3 refused, 4 fault; [15:0] largest gain correction, ppm -/
  | EXC_CAL_STATUS
  /-- 0x4000+b:01 U8 RW; 06_harp_decimation R197: Bank requested, 0 or 1; a commit that changes it requests a swap, R172 -/
  | COEF_ACTIVE
  /-- 0x4000+b:02 U8 RO; 06_harp_decimation R197: Bank in use -/
  | COEF_IN_USE
  /-- 0x4000+b:03 U8 CMD; 06_harp_decimation R197: Request a swap to the bank written, R172 -/
  | COEF_SWAP
  /-- 0x4000+b:04 U8 RO; 06_harp_decimation R197: Codes of R174 -/
  | COEF_STATE
  /-- 0x4000+b:05 U8 RO; 06_harp_decimation R197: Target of a deferred request; 0xFF none -/
  | COEF_PENDING
  /-- 0x4000+b:06 U16 RW; 06_harp_decimation R197: Output samples, 2–256 -/
  | COEF_FADE
  /-- 0x4000+b:07 U32 RO; 06_harp_decimation R197: Completed swaps -/
  | SWAP_COUNT
  /-- 0x4000+b:08 U32 RO; 06_harp_decimation R197: Deferred requests -/
  | SWAP_DEFERRED
  /-- 0x4000+b:09 U32 RO; 06_harp_decimation R197: Replaced requests -/
  | SWAP_REPLACED
  /-- 0x4000+b:0A U8 RW; 06_harp_decimation R197: Codes of R178 -/
  | NOTCH_MODE
  /-- 0x4000+b:0B U16 RW; 06_harp_decimation R197: Bit i: DC blocker on input i -/
  | DCB_ENABLE
  /-- 0x4000+b:0C U16 RW; 06_harp_decimation R197: Bit i: estimate of input i held; acts at once, R188 -/
  | DCB_FREEZE
  /-- 0x4000+b:0D BOOL RW; 06_harp_decimation R197: R188 -/
  | DCB_AUTO_FREEZE
  /-- 0x4000+b:0E I32 RW; 06_harp_decimation R197: Delay added to every path of the lane, 2^-16 ns -/
  | LANE_TRIM
  /-- 0x4000+b:0F U32 RO; 06_harp_decimation R197: Residue mismatches -/
  | RESIDUE_ERRORS
  /-- 0x4000+b:10 U32 RO; 06_harp_decimation R197: Coefficient parity failures -/
  | COEF_PARITY_ERRORS
  /-- 0x4000+b:11 U32 RO; 06_harp_decimation R197: R192 -/
  | DRAINS_ABANDONED
  /-- 0x4000+b:12 U32 RO; 06_harp_decimation R197: Bits of R196; [31:10] reserved -/
  | LANE_CAUSE
  /-- 0x4000+b:13 U32 CMD; 06_harp_decimation R197: Clears the bits set in the value -/
  | LANE_CAUSE_CLEAR
  /-- 0x4000+b:14 U64 RO; 06_harp_decimation R197: Grid index at which priming ends -/
  | PRIME_END
  /-- 0x4000+b:20–0x4000+b:2F U8 RW; 06_harp_decimation R197: Preset of input i = subindex − 0x20, codes of R165 -/
  | PRESET_i
  /-- 0x4000+b:30–0x4000+b:3F U8 RW; 06_harp_decimation R197: k of R187 for input i = subindex − 0x30, 4–24 -/
  | DCB_SHIFT_i
  /-- 0x4000+b:40–0x4000+b:4F I32 RO; 06_harp_decimation R197: e of input i = subindex − 0x40, record LSB × 2^-8 -/
  | DCB_ESTIMATE_i
  /-- 0x4000+b:50–0x4000+b:5F U32 RO; 06_harp_decimation R197: CLIP records of input i = subindex − 0x50 -/
  | CLIP_COUNT_i
  /-- 0x4000+b:60–0x4000+b:6F U32 RO; 06_harp_decimation R197: Latest μ of the path serving input i = subindex − 0x60, R180 -/
  | FD_MU_i
  /-- 0x4000+b:70 U32 RO; 06_harp_decimation R197: Latest μ of path S -/
  | FD_MU_SPARE
  /-- 0x4040+2b+k:01–0x4040+2b+k:05 BLOB RW; 06_harp_decimation R198: Compensation FIR of preset p = subindex − 1: 48 I32 in 2.30, R170 -/
  | COEF_p
  /-- 0x4040+2b+k:06 U32 RO; 06_harp_decimation R198: CRC-32C over the five committed BLOBs in subindex order -/
  | COEF_CRC
  /-- 0x4040+2b+k:07 U32 RW; 06_harp_decimation R198: Free label for the coefficient set, kept in the journal with each change -/
  | COEF_LABEL
  /-- 0x4080:01 U8 RW; 06_harp_decimation R199: Mismatches per lane per 64,000 grid ticks before the fence of R169, 1–255 -/
  | RESIDUE_LIMIT
  /-- 0x4080:02 U8 RO; 06_harp_decimation R199: Output samples of priming, R171 -/
  | PRIME_SAMPLES
  /-- 0x4800+u:01 U8 RW; 07_rennet_capture R234: Codes of R203 -/
  | TRIG_COND
  /-- 0x4800+u:02 U16 RW; 07_rennet_capture R234: Source channel 0–511 -/
  | TRIG_SOURCE
  /-- 0x4800+u:03 U8 RW; 07_rennet_capture R234: 0 rising, 1 falling, 2 either -/
  | TRIG_EDGE
  /-- 0x4800+u:04 I32 RW; 07_rennet_capture R234: Record LSB -/
  | LEVEL_A
  /-- 0x4800+u:05 I32 RW; 07_rennet_capture R234: Record LSB; RUNT upper level -/
  | LEVEL_B
  /-- 0x4800+u:06 U32 RW; 07_rennet_capture R234: Record LSB, 0 to 2^23 -/
  | HYST
  /-- 0x4800+u:07 U32 RW; 07_rennet_capture R234: Output samples of the source -/
  | TIME_A
  /-- 0x4800+u:08 U32 RW; 07_rennet_capture R234: Output samples of the source -/
  | TIME_B
  /-- 0x4800+u:09 U8 RW; 07_rennet_capture R234: R204 -/
  | PW_QUAL
  /-- 0x4800+u:0A U32 RW; 07_rennet_capture R234: Record LSB per output sample, R207 -/
  | SLEW_LIMIT
  /-- 0x4800+u:0B U8 RW; 07_rennet_capture R234: Line 0–15; 0xFF none -/
  | BCAST_OUT
  /-- 0x4800+u:0C U16 RW; 07_rennet_capture R234: Bit n: take line n -/
  | BCAST_IN
  /-- 0x4800+u:0D U8 RW; 07_rennet_capture R234: Region 0–15; 0xFF none -/
  | CAP_REGION
  /-- 0x4800+u:0E U16 RW; 07_rennet_capture R234: First captured channel -/
  | CAP_FIRST
  /-- 0x4800+u:0F U16 RW; 07_rennet_capture R234: Channels, 1–512 -/
  | CAP_COUNT
  /-- 0x4800+u:10 U32 RW; 07_rennet_capture R234: Records per channel before T′ -/
  | CAP_PRE
  /-- 0x4800+u:11 U32 RW; 07_rennet_capture R234: Records per channel from T′, at least 1 -/
  | CAP_POST
  /-- 0x4800+u:12 U8 RW; 07_rennet_capture R234: 0 AUTO, 1 NORMAL, 2 CIRCULAR; R214 -/
  | CAP_MODE
  /-- 0x4800+u:13 BOOL RW; 07_rennet_capture R234: Hold until CAP_RELEASE; R216 -/
  | CAP_KEEP
  /-- 0x4800+u:14 U8 RW; 07_rennet_capture R234: Queue for closed captures; 0xFF none -/
  | CAP_QUEUE
  /-- 0x4800+u:15 U32 RW; 07_rennet_capture R234: Hold-off, output samples; R211 -/
  | REARM_SAMPLES
  /-- 0x4800+u:16 U8 RW; 07_rennet_capture R234: Histogram unit 0–15; 0xFF none -/
  | CAP_HIST
  /-- 0x4800+u:17 U8 RW; 07_rennet_capture R234: Persistence map 0–3; 0xFF none -/
  | CAP_PMAP
  /-- 0x4800+u:18 U16 RW; 07_rennet_capture R234: Offset from CAP_FIRST of the bound channel -/
  | CAP_STAT_INPUT
  /-- 0x4800+u:19 U8 RO; 07_rennet_capture R234: Codes of R218 -/
  | UNIT_STATE
  /-- 0x4800+u:1A U8 RO; 07_rennet_capture R234: 1 normal, 2 circular -/
  | CAP_MODE_NOW
  /-- 0x4800+u:1B U8 CMD; 07_rennet_capture R234: R208 -/
  | TRIG_FORCE
  /-- 0x4800+u:1C U8 CMD; 07_rennet_capture R234: Release a DONE group, R216 -/
  | CAP_RELEASE
  /-- 0x4800+u:1D U32 RO; 07_rennet_capture R234: Conditions met -/
  | FIRE_COUNT
  /-- 0x4800+u:1E U32 RO; 07_rennet_capture R234: Triggers accepted or joined -/
  | ACCEPT_COUNT
  /-- 0x4800+u:1F U32 RO; 07_rennet_capture R234: R211 case 2 -/
  | EARLY_COUNT
  /-- 0x4800+u:20 U32 RO; 07_rennet_capture R234: R211 case 3 and R213 -/
  | REARM_COUNT
  /-- 0x4800+u:21 U32 RO; 07_rennet_capture R234: R211 cases 1 and 4 -/
  | LATE_COUNT
  /-- 0x4800+u:22 U32 RO; 07_rennet_capture R234: Records skipped, R201 -/
  | SKIP_COUNT
  /-- 0x4800+u:23 U32 RO; 07_rennet_capture R234: R231 -/
  | LOST_COUNT
  /-- 0x4800+u:24 U64 RO; 07_rennet_capture R234: T of the latest accepted trigger -/
  | LAST_TRIGGER
  /-- 0x4800+u:25 BLOB RO; 07_rennet_capture R234: 64-byte header of the latest closed capture, R220 -/
  | CAP_HEADER
  /-- 0x4800+u:26 U32 RO; 07_rennet_capture R234: Bits of R233; [31:15] reserved -/
  | UNIT_CAUSE
  /-- 0x4800+u:27 U32 CMD; 07_rennet_capture R234: Clears the bits set in the value -/
  | UNIT_CAUSE_CLEAR
  /-- 0x4800+u:28 U8 RO; 07_rennet_capture R234: Subindex refused by R229; 0xFF none -/
  | UNIT_BAD_FIELD
  /-- 0x4800+u:29 U32 RO; 07_rennet_capture R234: Records per channel now held before the trigger sample, b of R211 -/
  | CAP_HELD
  /-- 0x5000+b:01 U16 RW; 08_press_reduction R269: Output samples per interval, 2–4,096 -/
  | AVG_N
  /-- 0x5000+b:02 U16 RW; 08_press_reduction R269: Least records used for a valid mean, R250 -/
  | AVG_MIN_USED
  /-- 0x5000+b:03 U32 RW; 08_press_reduction R269: Output samples per statistics window -/
  | STAT_N
  /-- 0x5000+b:04 U8 RW; 08_press_reduction R269: 0 grid, 1 scan pass; R249 -/
  | ALIGN
  /-- 0x5000+b:05 U32 RO; 08_press_reduction R269: Compressed blocks emitted -/
  | BLOCKS
  /-- 0x5000+b:06 U32 RO; 08_press_reduction R269: Blocks emitted VERBATIM -/
  | BLOCKS_VERBATIM
  /-- 0x5000+b:07 U64 RO; 08_press_reduction R269: Record bits entered into compression -/
  | BITS_IN
  /-- 0x5000+b:08 U64 RO; 08_press_reduction R269: Block bits emitted -/
  | BITS_OUT
  /-- 0x5000+b:09 U32 RO; 08_press_reduction R269: R248 -/
  | VERIFY_FAILS
  /-- 0x5000+b:0A U32 RO; 08_press_reduction R269: Stream packets lost, R241 -/
  | STREAM_DROPPED
  /-- 0x5000+b:0B U32 RO; 08_press_reduction R269: R250 -/
  | AVG_SHORT
  /-- 0x5000+b:10–0x5000+b:1F U8 RW; 08_press_reduction R269: Outputs of input i = subindex − 0x10, R238 -/
  | OUT_SEL_i
  /-- 0x5000+b:20–0x5000+b:2F U8 RW; 08_press_reduction R269: Slowest preset for input i = subindex − 0x20, R259 -/
  | RIPEN_FLOOR_i
  /-- 0x5000+b:30–0x5000+b:3F U64 RO; 08_press_reduction R269: Ripened records of input i = subindex − 0x30 -/
  | RIPENED_i
  /-- 0x5020+h:01 BOOL RW; 08_press_reduction R270: Count when unbound -/
  | HIST_ENABLE
  /-- 0x5020+h:02 U16 RW; 08_press_reduction R270: Source channel when unbound -/
  | HIST_SOURCE
  /-- 0x5020+h:03 I32 RW; 08_press_reduction R270: Lower edge of bin 0, record LSB -/
  | HIST_BASE
  /-- 0x5020+h:04 U8 RW; 08_press_reduction R270: Bin width 2^HIST_SHIFT LSB, 0–14 -/
  | HIST_SHIFT
  /-- 0x5020+h:05 U32 RW; 08_press_reduction R270: Output samples; 0 until HIST_CLOSE -/
  | HIST_WINDOW
  /-- 0x5020+h:06 BOOL RW; 08_press_reduction R270: Form a packet at each close -/
  | HIST_EMIT
  /-- 0x5020+h:07 U8 CMD; 08_press_reduction R270: Close the window, R253 -/
  | HIST_CLOSE
  /-- 0x5020+h:08 U8 RO; 08_press_reduction R270: Codes of R255 -/
  | HIST_STATE
  /-- 0x5020+h:09 U64 RO; 08_press_reduction R270: First index of the last closed window -/
  | HIST_FROM
  /-- 0x5020+h:0A U64 RO; 08_press_reduction R270: Last index of the last closed window -/
  | HIST_TO
  /-- 0x5020+h:0B U32 RO; 08_press_reduction R270: Last closed window -/
  | HIST_UNDER
  /-- 0x5020+h:0C U32 RO; 08_press_reduction R270: Last closed window -/
  | HIST_OVER
  /-- 0x5020+h:0D U32 RO; 08_press_reduction R270: Last closed window -/
  | HIST_EXCLUDED
  /-- 0x5020+h:0E BLOB RO; 08_press_reduction R270: 1,024 U32 bins of the last closed window -/
  | HIST_BINS
  /-- 0x5020+h:0F U32 RO; 08_press_reduction R270: Closes since reset -/
  | HIST_CLOSES
  /-- 0x5030+m:01 U8 RO; 08_press_reduction R271: Codes of R258 -/
  | PMAP_STATE
  /-- 0x5030+m:02 U8 CMD; 08_press_reduction R271: R256 -/
  | PMAP_CLEAR
  /-- 0x5030+m:03 U8 CMD; 08_press_reduction R271: R256 -/
  | PMAP_READOUT
  /-- 0x5030+m:04 U32 RO; 08_press_reduction R271: Captures accumulated since the last clear -/
  | PMAP_CAPTURES
  /-- 0x5030+m:05 U16 RO; 08_press_reduction R271: Largest cell -/
  | PMAP_MAX
  /-- 0x5030+m:06 U8 RO; 08_press_reduction R271: [0] clear deferred, [1] readout deferred -/
  | PMAP_PENDING
  /-- 0x5040:01 U8 RO; 08_press_reduction R272: Codes of R263 -/
  | RIPEN_STATE
  /-- 0x5040:02 U32 RO; 08_press_reduction R272: Segment being ripened -/
  | RIPEN_SEGMENT
  /-- 0x5040:03 U32 RO; 08_press_reduction R272: Segment held pending -/
  | RIPEN_PENDING
  /-- 0x5040:04 U32 RO; 08_press_reduction R272: Segments ripened -/
  | RIPEN_DONE
  /-- 0x5040:05 U32 RO; 08_press_reduction R272: Requests refused -/
  | RIPEN_BEHIND
  /-- 0x5040:06 U32 RO; 08_press_reduction R272: Segments abandoned at a fence -/
  | RIPEN_ABANDONED
  /-- 0x5041:01 U8 RWS; 08_press_reduction R272: Queue for RAW and COMPRESSED -/
  | STREAM_QUEUE
  /-- 0x5041:02 U8 RWS; 08_press_reduction R272: Queue for AVERAGED and STATS -/
  | REDUCED_QUEUE
  /-- 0x5041:03 U8 RWS; 08_press_reduction R272: Queue for HISTOGRAM and PMAP -/
  | STAT_QUEUE
  /-- 0x5041:04 U8 RW; 08_press_reduction R272: R248, 1–255 -/
  | VERIFY_LIMIT
  /-- 0x5041:05 U32 RO; 08_press_reduction R272: Bits of R268; [31:12] reserved -/
  | PRESS_CAUSE
  /-- 0x5041:06 U32 CMD; 08_press_reduction R272: Clears the bits set in the value -/
  | PRESS_CAUSE_CLEAR
  /-- 0x5041:07 U32 RO; 08_press_reduction R272: [31:16] index, [7:0] subindex of the first refused field -/
  | PRESS_BAD_FIELD
  /-- 0x5041:08 U32 RO; 08_press_reduction R272: Highest output buffer fill since reset, bytes -/
  | BUFFER_HIGH
  /-- 0x5041:09 U32 RO; 08_press_reduction R272: R241 -/
  | REDUCED_DROPPED
  /-- 0x5800+q:01 U32 RWS; 09_queues_and_cave R311: Slots, a power of two from 4,096 to 2,097,152; R273 -/
  | QUEUE_DEPTH
  /-- 0x5800+q:02 U8 RWS; 09_queues_and_cave R311: 0 LENGTH, 1 MARK -/
  | QUEUE_FRAMING
  /-- 0x5800+q:03 U8 RWS; 09_queues_and_cave R311: R278 -/
  | QUEUE_DRAIN
  /-- 0x5800+q:04 BOOL RW; 09_queues_and_cave R311: Append E2E, R288 -/
  | QUEUE_E2E
  /-- 0x5800+q:05 U32 CMD; 09_queues_and_cave R311: [0] FLUSH, [1] DROP_REST -/
  | QUEUE_CONTROL
  /-- 0x5800+q:06 U32 RO; 09_queues_and_cave R311: Slots in use -/
  | QUEUE_FILL
  /-- 0x5800+q:07 U32 RO; 09_queues_and_cave R311: Whole packets waiting -/
  | QUEUE_PACKETS
  /-- 0x5800+q:08 U8 RO; 09_queues_and_cave R311: [0] EMPTY, [1] FULL, [2] HIGH, [3] FENCED, [4] consumer within a packet -/
  | QUEUE_STATUS
  /-- 0x5800+q:09 U32 RW; 09_queues_and_cave R311: Slots -/
  | QUEUE_HIGH_WATER
  /-- 0x5800+q:0A U32 RO; 09_queues_and_cave R311: SEQ of the next packet -/
  | QUEUE_SEQ
  /-- 0x5800+q:0B BLOB RO; 09_queues_and_cave R311: Whole packets, R280 -/
  | QUEUE_READ
  /-- 0x5800+q:0C U16 RW; 09_queues_and_cave R311: ms, 0–10,000 -/
  | QUEUE_READ_WAIT
  /-- 0x5800+q:0D U32 CMD; 09_queues_and_cave R311: Acknowledge to SEQ, R296 -/
  | STREAM_ACK
  /-- 0x5800+q:0E U32 RO; 09_queues_and_cave R311: Last SEQ acknowledged -/
  | ACKED_SEQ
  /-- 0x5800+q:0F U32 RO; 09_queues_and_cave R311: R284 -/
  | FLUSHED_PACKETS
  /-- 0x5800+q:10 U32 RO; 09_queues_and_cave R311: R283 -/
  | DROPPED_WORDS
  /-- 0x5800+q:11 U32 RO; 09_queues_and_cave R311: R308 -/
  | FENCED_DROPS
  /-- 0x5800+q:12 U32 RO; 09_queues_and_cave R311: Highest fill since reset -/
  | MAX_FILL
  /-- 0x5810:01 U32 RO; 09_queues_and_cave R312: Bits of R310; [31:16] reserved -/
  | QC_CAUSE
  /-- 0x5810:02 U32 CMD; 09_queues_and_cave R312: Clears the bits set in the value -/
  | QC_CAUSE_CLEAR
  /-- 0x5810:03 U32 RO; 09_queues_and_cave R312: SEQ of the next LOSS packet -/
  | LOSS_SEQ
  /-- 0x5820:01 U8 RO; 09_queues_and_cave R313: 0 ABSENT, 1 TRAINING, 2 READY, 3 SELF_REFRESH, 4 FAILED -/
  | CAVE_STATE
  /-- 0x5820:02 U32 RO; 09_queues_and_cave R313: MiB found at training -/
  | CAVE_FITTED
  /-- 0x5820:03 U32 RWS; 09_queues_and_cave R313: Segments of 16 MiB -/
  | STREAM_SEGMENTS
  /-- 0x5820:04 U32 RWS; 09_queues_and_cave R313: Size of each capture region, MiB -/
  | REGION_MIB
  /-- 0x5820:05 U32 RO; 09_queues_and_cave R313: Spare and save space -/
  | SPARE_MIB
  /-- 0x5820:06 U8 RO; 09_queues_and_cave R313: 0 none, 1 ring too small, 2 spare too small, 3 unacknowledged data -/
  | LAYOUT_BAD
  /-- 0x5820:07 U8 CMD; 09_queues_and_cave R313: Give up all unacknowledged data, R293 -/
  | CAVE_DISCARD
  /-- 0x5820:08 U64 RO; 09_queues_and_cave R313: R294 -/
  | ECC_CORRECTED
  /-- 0x5820:09 U32 RO; 09_queues_and_cave R313: R294 -/
  | ECC_UNCORRECTABLE
  /-- 0x5820:0A U16 RW; 09_queues_and_cave R313: 1–720 -/
  | SCRUB_HOURS
  /-- 0x5820:0B U32 RO; 09_queues_and_cave R313: R288 -/
  | PCRC_FAILS
  /-- 0x5821:01 U8 RW; 09_queues_and_cave R314: 0 KEEP_NEWEST, 1 RIPEN -/
  | OVERFLOW_POLICY
  /-- 0x5821:02 U8 RO; 09_queues_and_cave R314: R298 -/
  | RESERVE_SEGMENTS
  /-- 0x5821:03 U16 RW; 09_queues_and_cave R314: Segments, 1 to STREAM_SEGMENTS − 8 -/
  | RIPEN_LOW_WATER
  /-- 0x5821:04 U32 RO; 09_queues_and_cave R314: FREE segments -/
  | SEG_FREE
  /-- 0x5821:05 U32 RO; 09_queues_and_cave R314: ACKED segments -/
  | SEG_ACKED
  /-- 0x5821:06 U32 RO; 09_queues_and_cave R314: HELD and RIPENING segments -/
  | SEG_HELD
  /-- 0x5821:07 U64 RO; 09_queues_and_cave R314: Bytes of unacknowledged packets -/
  | UNACKED_BYTES
  /-- 0x5821:08 U64 RO; 09_queues_and_cave R314: R304 -/
  | OLDEST_INDEX
  /-- 0x5821:09 U64 RO; 09_queues_and_cave R314: Bytes written since the layout was applied -/
  | WRITE_BYTES
  /-- 0x5821:0A U64 RO; 09_queues_and_cave R314: Packets, R301 -/
  | LOST_RECLAIMED
  /-- 0x5821:0B U64 RO; 09_queues_and_cave R314: Packets, R301 -/
  | LOST_PRESS
  /-- 0x5821:0C U64 RO; 09_queues_and_cave R314: Packets, R301 -/
  | LOST_FENCE
  /-- 0x5821:0D U64 RO; 09_queues_and_cave R314: Packets, R301 -/
  | LOST_UNREADABLE
  /-- 0x5821:0E U64 RO; 09_queues_and_cave R314: Packets, R301 -/
  | LOST_DISCARD
  /-- 0x5821:0F U32 RO; 09_queues_and_cave R314: R299 -/
  | RIPEN_REQUESTS
  /-- 0x5821:10 U64 RO; 09_queues_and_cave R314: Packets, R301 -/
  | LOST_WITHDRAWN
  /-- 0x5830+n:01 U64 CMD; 09_queues_and_cave R315: R303 -/
  | MARK_SET
  /-- 0x5830+n:02 U64 RO; 09_queues_and_cave R315: Index the mark stands at -/
  | MARK_INDEX
  /-- 0x5830+n:03 U8 RO; 09_queues_and_cave R315: 0 UNSET, 1 VALID, 2 SNAPPED -/
  | MARK_STATE
  /-- 0x5830+n:04 U64 RO; 09_queues_and_cave R315: Grid ticks overtaken since set -/
  | MARK_OVERTAKEN
  /-- 0x5830+n:05 U8 CMD; 09_queues_and_cave R315: Sets UNSET -/
  | MARK_CLEAR
  /-- 0x5830+n:06 U8 RO; 09_queues_and_cave R315: Least RIPE at the mark -/
  | MARK_RIPE
  /-- 0x5840:01 U64 RW; 09_queues_and_cave R316: Grid index -/
  | REPLAY_FROM
  /-- 0x5840:02 U8 RW; 09_queues_and_cave R316: Mark 0–15; 0xFF uses REPLAY_FROM -/
  | REPLAY_MARK
  /-- 0x5840:03 U64 RW; 09_queues_and_cave R316: Last write tick; 0 the tick of acceptance -/
  | REPLAY_TO
  /-- 0x5840:04 U8 RW; 09_queues_and_cave R316: 0xFF endpoint; queue 0–15 -/
  | REPLAY_DEST
  /-- 0x5840:05 U16 RW; 09_queues_and_cave R316: Bit q: replay queue q -/
  | REPLAY_QUEUES
  /-- 0x5840:06 U8 CMD; 09_queues_and_cave R316: R305 -/
  | REPLAY_START
  /-- 0x5840:07 U8 CMD; 09_queues_and_cave R316: R306 -/
  | REPLAY_STOP
  /-- 0x5840:08 U8 RO; 09_queues_and_cave R316: Codes of R306 -/
  | REPLAY_STATE
  /-- 0x5840:09 U64 RO; 09_queues_and_cave R316: Copies made -/
  | REPLAY_PACKETS
  /-- 0x5840:0A U64 RO; 09_queues_and_cave R316: R305 -/
  | REPLAY_SKIPPED_TICKS
  /-- 0x5850+r:01 U32 RW; 09_queues_and_cave R317: Byte offset of the next read, a multiple of 4 -/
  | REGION_OFFSET
  /-- 0x5850+r:02 BLOB RO; 09_queues_and_cave R317: 1,024 bytes from REGION_OFFSET, R309 -/
  | REGION_DATA
  /-- 0x5880+b:10–0x5880+b:1F U64 RO; 09_queues_and_cave R317: Stream records of input i = subindex − 0x10 lost, R301 -/
  | LOST_i
  /-- 0x6000+l:01 BOOL RWS; 10_ring_lanes R348: Lane in use -/
  | LANE_ENABLE
  /-- 0x6000+l:02 U8 RO; 10_ring_lanes R348: Codes of R337 -/
  | LANE_STATE
  /-- 0x6000+l:03 BOOL RO; 10_ring_lanes R348: Inversion found, R330 -/
  | RX_INVERTED
  /-- 0x6000+l:04 U8 RO; 10_ring_lanes R348: Physical receiver serving this logical lane, R331 -/
  | RX_PHYS
  /-- 0x6000+l:05 U32 RO; 10_ring_lanes R348: W0 of the last usable TRAIN block -/
  | FAR_ID
  /-- 0x6000+l:06 U16 RO; 10_ring_lanes R348: W2 [31:16] of the last usable TRAIN block -/
  | FAR_VERSION
  /-- 0x6000+l:07 U8 RW; 10_ring_lanes R348: 400 + 100 × code mV peak-to-peak differential, codes 0–7 -/
  | TX_SWING
  /-- 0x6000+l:08 U8 RW; 10_ring_lanes R348: Post-cursor de-emphasis, code dB, 0–7 -/
  | TX_DEEMPH
  /-- 0x6000+l:09 U8 RW; 10_ring_lanes R348: Pre-cursor de-emphasis, code dB, 0–3 -/
  | TX_PRE
  /-- 0x6000+l:0A U8 RO; 10_ring_lanes R348: Codes of R338 -/
  | RX_ADAPT_STATE
  /-- 0x6000+l:0B U8 RO; 10_ring_lanes R348: Equaliser peaking code in use -/
  | RX_CTLE
  /-- 0x6000+l:0C BLOB RO; 10_ring_lanes R348: 5 decision-feedback taps, I8 each -/
  | RX_DFE
  /-- 0x6000+l:0D U32 RO; 10_ring_lanes R348: R327 -/
  | HEADER_ERRORS
  /-- 0x6000+l:0E U32 RO; 10_ring_lanes R348: R327 -/
  | BSN_ERRORS
  /-- 0x6000+l:0F U32 RO; 10_ring_lanes R348: R322 -/
  | STUFF_ERRORS
  /-- 0x6000+l:10 U64 RO; 10_ring_lanes R348: Stuff bits removed by the receiver -/
  | STUFF_BITS
  /-- 0x6000+l:11 U32 RO; 10_ring_lanes R348: R328 -/
  | LOCK_LOSSES
  /-- 0x6000+l:12 U32 RO; 10_ring_lanes R348: R335 and R337 -/
  | RETRIES
  /-- 0x6000+l:13 U16 RO; 10_ring_lanes R348: UI, R334 -/
  | SKEW
  /-- 0x6000+l:14 U32 RO; 10_ring_lanes R348: µs from DETECT to ACTIVE, last bring-up -/
  | BRINGUP_TIME
  /-- 0x6000+l:15 U8 RW; 10_ring_lanes R348: Codes of R344; acts at once in TEST -/
  | PAT_MODE
  /-- 0x6000+l:16 U32 RW; 10_ring_lanes R348: Pattern 6 -/
  | PAT_USER
  /-- 0x6000+l:17 U64 RO; 10_ring_lanes R348: R344 -/
  | PAT_ERRORS
  /-- 0x6000+l:18 U64 RO; 10_ring_lanes R348: R344 -/
  | PAT_BITS
  /-- 0x6000+l:19 BOOL RO; 10_ring_lanes R348: Checker synchronised -/
  | PAT_SYNC
  /-- 0x6000+l:1A U8 CMD; 10_ring_lanes R348: 1 enter TEST, 0 leave -/
  | LANE_TEST
  /-- 0x6000+l:1B U16 CMD; 10_ring_lanes R348: R345 -/
  | INJECT
  /-- 0x6000+l:1C U32 RO; 10_ring_lanes R348: Injections applied -/
  | INJECTED
  /-- 0x6008+p:01 U8 RO; 10_ring_lanes R349: Codes of R343 -/
  | PORT_STATE
  /-- 0x6008+p:02 U8 RW; 10_ring_lanes R349: 0 Active, 1 Hush, 2 Rest; acts at once by R339 -/
  | PORT_POWER
  /-- 0x6008+p:03 U8 RO; 10_ring_lanes R349: Lanes carrying traffic -/
  | PORT_LANES
  /-- 0x6008+p:04 BOOL RO; 10_ring_lanes R349: R331 -/
  | PORT_REVERSED
  /-- 0x6008+p:05 U16 RW; 10_ring_lanes R349: µs, 100–60,000 -/
  | PORT_WAIT
  /-- 0x6008+p:06 U16 RW; 10_ring_lanes R349: µs, 1,000–60,000 -/
  | BRINGUP_LIMIT
  /-- 0x6008+p:07 U8 RO; 10_ring_lanes R349: R336 -/
  | FAULT_CODE
  /-- 0x6008+p:08 U32 RO; 10_ring_lanes R349: R341 -/
  | DROPS
  /-- 0x6008+p:09 VT80 RO; 10_ring_lanes R349: VT of the last change of PORT_STATE -/
  | PORT_CHANGED
  /-- 0x600B:01 BOOL RO; 10_ring_lanes R349: R319 -/
  | REFCLK_PRESENT
  /-- 0x600B:02 I32 RO; 10_ring_lanes R349: RINGCLK against the time-unit reference, ppm × 2^-8 -/
  | REFCLK_PPM
  /-- 0x600B:03 U32 RO; 10_ring_lanes R349: Bits of R347; [31:15] reserved -/
  | LN_CAUSE
  /-- 0x600B:04 U32 CMD; 10_ring_lanes R349: Clears the bits set in the value -/
  | LN_CAUSE_CLEAR
  /-- 0x6010+p:01 U8 RO; 11_ring_link_layer R382: Codes of R377 -/
  | LINK_STATE
  /-- 0x6010+p:02 U8 RO; 11_ring_link_layer R382: Codes of R376 for the last failure; 0 none -/
  | LINK_FAIL_CAUSE
  /-- 0x6010+p:03 U64 RO; 11_ring_link_layer R382: R351 -/
  | BCRC_ERRORS
  /-- 0x6010+p:04 U32 RO; 11_ring_link_layer R382: R356, R358 -/
  | FCRC_ERRORS
  /-- 0x6010+p:05 U32 RO; 11_ring_link_layer R382: R356 -/
  | FRAMES_STOMPED
  /-- 0x6010+p:06 U64 RO; 11_ring_link_layer R382: Frames sent -/
  | FRAMES_TX
  /-- 0x6010+p:07 U64 RO; 11_ring_link_layer R382: Frames received with good FCRC -/
  | FRAMES_RX
  /-- 0x6010+p:08 U64 RO; 11_ring_link_layer R382: Frames forwarded out of this port -/
  | FRAMES_FORWARDED
  /-- 0x6010+p:09 U32 RO; 11_ring_link_layer R382: R371 -/
  | TRANSIT_DROPS
  /-- 0x6010+p:0A U32 RO; 11_ring_link_layer R382: R371 -/
  | PAUSES_SENT
  /-- 0x6010+p:0B U32 RO; 11_ring_link_layer R382: R371 -/
  | PAUSES_RECEIVED
  /-- 0x6010+p:0C BOOL RO; 11_ring_link_layer R382: Bulk held by a received PAUSE -/
  | PAUSED
  /-- 0x6010+p:0D U64 RO; 11_ring_link_layer R382: R365 -/
  | WRAPPED_FRAMES
  /-- 0x6010+p:0E U32 RO; 11_ring_link_layer R382: R377 -/
  | FAILURES
  /-- 0x6010+p:0F U16 RW; 11_ring_link_layer R382: R376, 1–255 -/
  | LINK_ERR_LIMIT
  /-- 0x6010+p:10 U16 RW; 11_ring_link_layer R382: ms, 10–60,000 -/
  | REJOIN_HOLD
  /-- 0x6010+p:11 U32 RO; 11_ring_link_layer R382: Highest transit buffer fill, bytes -/
  | TRANSIT_HIGH
  /-- 0x6010+p:12 VT80 RO; 11_ring_link_layer R382: VT of the last change of LINK_STATE -/
  | LINK_CHANGED
  /-- 0x6013:01 U8 RO; 11_ring_link_layer R383: R362; 0xFF unknown -/
  | RING_POSITION
  /-- 0x6013:02 U8 RO; 11_ring_link_layer R383: N from the latest beacon -/
  | RING_SIZE
  /-- 0x6013:03 U8 RO; 11_ring_link_layer R383: HOPS of the last DIR 0 beacon -/
  | HOPS_EAST
  /-- 0x6013:04 U8 RO; 11_ring_link_layer R383: HOPS of the last DIR 1 beacon -/
  | HOPS_WEST
  /-- 0x6013:05 U8 RO; 11_ring_link_layer R383: 0 East, 1 West, 0xFF none; R368 -/
  | DATA_DIR
  /-- 0x6013:06 U8 RW; 11_ring_link_layer R383: 0 East, 1 West, 0xFF follow R368 -/
  | DIR_FORCE
  /-- 0x6013:07 U32 RO; 11_ring_link_layer R383: From the latest beacon -/
  | SPLIT_MASK
  /-- 0x6013:08 U64 RO; 11_ring_link_layer R383: Bit a: LINK_ID a in the failed set, R367 -/
  | FAILED_LINKS
  /-- 0x6013:09 U16 RW; 11_ring_link_layer R383: ms, 2–1,000 -/
  | BEACON_TIMEOUT
  /-- 0x6013:0A U32 RO; 11_ring_link_layer R383: Latest accepted -/
  | BEACON_SEQ
  /-- 0x6013:0B U32 RO; 11_ring_link_layer R383: Endpoint followed -/
  | ENDPOINT_ID
  /-- 0x6013:0C U16 RO; 11_ring_link_layer R383: This hub's ring protocol version -/
  | RING_VERSION
  /-- 0x6013:0D U8 RO; 11_ring_link_layer R383: Requests held, 0–16 -/
  | RESEND_PENDING
  /-- 0x6013:0E U32 RO; 11_ring_link_layer R383: R372 -/
  | RESEND_REQUESTS
  /-- 0x6013:0F U64 RO; 11_ring_link_layer R383: R372 -/
  | RESEND_PACKETS
  /-- 0x6013:10 U32 RO; 11_ring_link_layer R383: R372 -/
  | RESEND_GONE
  /-- 0x6013:11 U32 RO; 11_ring_link_layer R383: R364, R365 -/
  | HOPS_DISCARDS
  /-- 0x6013:12 U32 RO; 11_ring_link_layer R383: Bits of R381 -/
  | RL_CAUSE
  /-- 0x6013:13 U32 CMD; 11_ring_link_layer R383: Clears the bits set in the value -/
  | RL_CAUSE_CLEAR
  /-- 0x6810:01 U8 RO; 12_ring_time_transfer R410: 0 NONE, 1 FOLLOWER, 2 STANDBY, 3 GRANDMASTER -/
  | RT_ROLE
  /-- 0x6810:02 U8 RW; 12_ring_time_transfer R410: Candidate priority; lower wins -/
  | RT_PRIORITY
  /-- 0x6810:03 U16 RO; 12_ring_time_transfer R410: Hub address followed; 0x1FF none -/
  | RT_GM
  /-- 0x6810:04 BOOL RO; 12_ring_time_transfer R410: GM_HOLD of the last usable SYNC -/
  | RT_GM_HOLD
  /-- 0x6810:05 U8 RO; 12_ring_time_transfer R410: R395 -/
  | RT_PATHS
  /-- 0x6810:06 I64 RO; 12_ring_time_transfer R410: D, 2^-16 ns -/
  | RT_PATH_DIFF
  /-- 0x6810:07 I64 RO; 12_ring_time_transfer R410: 2^-16 ns -/
  | RT_DSUM_ERR
  /-- 0x6810:08 I64 RO; 12_ring_time_transfer R410: R396, 2^-16 ns -/
  | RT_LOOP_E
  /-- 0x6810:09 I64 RO; 12_ring_time_transfer R410: R396, 2^-16 ns -/
  | RT_LOOP_W
  /-- 0x6810:0A I64 RO; 12_ring_time_transfer R410: (LOOP_E − LOOP_W) / 2, 2^-16 ns -/
  | RT_RING_ASYM
  /-- 0x6810:0B U8 RO; 12_ring_time_transfer R410: [0] asymmetry, [1] delay sum -/
  | RT_FAULT
  /-- 0x6810:0C U8 CMD; 12_ring_time_transfer R410: R398 -/
  | RT_FAULT_CLEAR
  /-- 0x6810:0D U32 RW; 12_ring_time_transfer R410: ps, 500–1,000,000 -/
  | ASYM_LIMIT
  /-- 0x6810:0E U32 RW; 12_ring_time_transfer R410: ps, 500–1,000,000 -/
  | DSUM_LIMIT
  /-- 0x6810:0F U8 RW; 12_ring_time_transfer R410: Servo cycles, 1–100 -/
  | ASYM_CYCLES
  /-- 0x6810:10 U16 RW; 12_ring_time_transfer R410: Servo cycles, 1–1,000 -/
  | ASYM_CLEAR
  /-- 0x6810:11 U32 RW; 12_ring_time_transfer R410: ps, 1,000–1,000,000 -/
  | DELAY_STEP_LIMIT
  /-- 0x6810:12 U16 RW; 12_ring_time_transfer R410: ms, 32–1,000 -/
  | GM_TIMEOUT
  /-- 0x6810:13 I64 RO; 12_ring_time_transfer R410: Own-source offset of a STANDBY candidate, 2^-16 ns -/
  | RT_OWN_OFFSET
  /-- 0x6810:14 U8 RO; 12_ring_time_transfer R410: Unexpired eligible candidates -/
  | RT_CANDIDATES
  /-- 0x6810:15 U16 RO; 12_ring_time_transfer R410: SYNC_SEQ of the last usable SYNC -/
  | RT_SYNC_SEQ
  /-- 0x6814+p:01 U8 RO; 12_ring_time_transfer R411: 0 NONE, 1 QUALIFYING, 2 QUALIFIED, 3 STEP -/
  | DELAY_STATE
  /-- 0x6814+p:02 I64 RO; 12_ring_time_transfer R411: m, 2^-16 ns -/
  | LINK_DELAY
  /-- 0x6814+p:03 I64 RO; 12_ring_time_transfer R411: m before the last step or disqualification -/
  | LINK_DELAY_PREV
  /-- 0x6814+p:04 I64 RO; 12_ring_time_transfer R411: Last accepted or held-out raw delay -/
  | DELAY_RAW
  /-- 0x6814+p:05 U32 RO; 12_ring_time_transfer R411: R389 -/
  | DELAY_STEPS
  /-- 0x6814+p:06 I64 RW; 12_ring_time_transfer R411: 2^-16 ns, −10,000 ns to 10,000 ns; R399 -/
  | ASYM_CORR
  /-- 0x6814+p:07 U8 RO; 12_ring_time_transfer R411: Logical lane of the markers -/
  | TIMING_LANE
  /-- 0x6814+p:08 I64 RO; 12_ring_time_transfer R411: Mean offset of this side, last servo cycle; R395, R406 -/
  | PORT_OFFSET
  /-- 0x6814+p:09 U32 RO; 12_ring_time_transfer R411: R394 -/
  | SYNC_USED
  /-- 0x6814+p:0A U32 RO; 12_ring_time_transfer R411: R394 -/
  | SYNC_UNUSABLE
  /-- 0x6814+p:0B U32 RO; 12_ring_time_transfer R411: R388 -/
  | DRESP_MISSED
  /-- 0x7000:01 BOOL RWS; 13_twin_operation R436: Unit is part of a twin -/
  | TWIN_ENABLE
  /-- 0x7000:02 U8 RWS; 13_twin_operation R436: 0 A, 1 B; per unit -/
  | TWIN_SIDE
  /-- 0x7000:03 U8 RWS; 13_twin_operation R436: Side that acts when neither does -/
  | TWIN_PREFER
  /-- 0x7000:04 U16 RW; 13_twin_operation R436: Hub address of the witness; 0x1FF none -/
  | WITNESS_ADDR
  /-- 0x7000:05 U16 RW; 13_twin_operation R436: KT counts, 256–32,768, a multiple of 16 -/
  | LEASE_TERM
  /-- 0x7000:06 U16 RW; 13_twin_operation R436: KT counts, 8–256 -/
  | HB_PERIOD
  /-- 0x7000:07 U16 RW; 13_twin_operation R436: KT counts; at least 3 × HB_PERIOD and at most LEASE_TERM / 4 -/
  | HB_TIMEOUT
  /-- 0x7000:08 U16 RW; 13_twin_operation R436: KT counts; at most LEASE_TERM / 4 -/
  | WITNESS_RENEW
  /-- 0x7000:09 U8 RO; 13_twin_operation R436: Codes of R427 -/
  | TWIN_STATE
  /-- 0x7000:0A U8 RO; 13_twin_operation R436: From the last heartbeat; 0xFF none -/
  | PARTNER_STATE
  /-- 0x7000:0B U8 RO; 13_twin_operation R436: 0 none, 1 partner, 2 witness, 3 both -/
  | LEASE_SOURCE
  /-- 0x7000:0C U64 RO; 13_twin_operation R436: KT, R421 -/
  | LEASE_EXPIRY
  /-- 0x7000:0D U64 RO; 13_twin_operation R436: KT, R422 -/
  | CLAIM_AT
  /-- 0x7000:0E U8 CMD; 13_twin_operation R436: Hand over, R428 -/
  | TWIN_SWITCH
  /-- 0x7000:0F U64 RO; 13_twin_operation R436: s of the last switch, R431 -/
  | SWITCH_INDEX
  /-- 0x7000:10 U32 RO; 13_twin_operation R436: Entries into ACTING -/
  | SWITCH_COUNT
  /-- 0x7000:11 U32 RO; 13_twin_operation R436: R425 -/
  | STANDDOWN_COUNT
  /-- 0x7000:12 U32 RO; 13_twin_operation R436: Heartbeat losses -/
  | HB_LOSSES
  /-- 0x7000:13 U32 RO; 13_twin_operation R436: R429 -/
  | COMP_UNCONFIRMED
  /-- 0x7000:14 BOOL RW; 13_twin_operation R436: R432 -/
  | TWIN_ADOPT
  /-- 0x7000:15 U64 RO; 13_twin_operation R436: Bytes still to copy -/
  | SYNC_REMAINING
  /-- 0x7000:16 U64 RO; 13_twin_operation R436: [63:32] first, [31:0] last SEQ missing, R433 -/
  | HISTORY_GAP
  /-- 0x7000:17 U32 RW; 13_twin_operation R436: ns, 10–10,000 -/
  | TWIN_TIME_LIMIT
  /-- 0x7000:18 U32 RO; 13_twin_operation R436: Bits of R435; [31:16] reserved -/
  | TWIN_CAUSE
  /-- 0x7000:19 U32 CMD; 13_twin_operation R436: Clears the bits set in the value -/
  | TWIN_CAUSE_CLEAR
  /-- 0x7000:1A U32 RO; 13_twin_operation R436: R417 -/
  | TWIN_DIGEST
  /-- 0x7010+w:01 U16 RO; 13_twin_operation R437: Twin hub address; 0x1FF free -/
  | WIT_TWIN
  /-- 0x7010+w:02 U8 RO; 13_twin_operation R437: 0 A, 1 B, 0xFF none -/
  | WIT_HOLDER
  /-- 0x7010+w:03 U64 RO; 13_twin_operation R437: KT, R426 -/
  | WIT_GRANT_END
  /-- 0x7010+w:04 U32 RO; 13_twin_operation R437: Grants sent -/
  | WIT_GRANTS
  /-- 0x7010+w:05 U32 RO; 13_twin_operation R437: RESULT 1, 2 and 4 sent -/
  | WIT_REFUSALS
  /-- 0x7018:01 BOOL RW; 13_twin_operation R437: This hub answers WREQ -/
  | WITNESS_ENABLE
  /-- 0x7018:02 U32 RO; 13_twin_operation R437: Requests refused for want of a slot -/
  | WIT_NO_SLOT
  /-- 0x1010:01 U16 RO; 14_object_dictionary R471: Entries staged -/
  | STAGED_COUNT
  /-- 0x1010:02 U32 RO; 14_object_dictionary R471: R449 -/
  | STAGED_DIGEST
  /-- 0x1010:03 U32 RO; 14_object_dictionary R471: R449 -/
  | CFG_DIGEST
  /-- 0x1010:04 U32 CMD; 14_object_dictionary R471: Commit staging; value is the expected STAGED_DIGEST; R446 -/
  | COMMIT_NOW
  /-- 0x1010:05 BLOB CMD; 14_object_dictionary R471: 12 bytes: U64 G, U32 expected digest; R32 to R35 -/
  | COMMIT_ARM
  /-- 0x1010:06 U64 CMD; 14_object_dictionary R471: Cancel the armed commit for G; REFUSED when another G is armed or none -/
  | COMMIT_CANCEL
  /-- 0x1010:07 — CMD; 14_object_dictionary R471: Empty staging, R447 -/
  | STAGE_DISCARD
  /-- 0x1010:08 U64 RO; 14_object_dictionary R471: G of the armed commit; all ones when none -/
  | ARMED_INDEX
  /-- 0x1010:09 U32 RO; 14_object_dictionary R471: Digest of the armed commit -/
  | ARMED_DIGEST
  /-- 0x1010:0A U64 RO; 14_object_dictionary R471: G of the last commit that stood -/
  | LAST_COMMIT_INDEX
  /-- 0x1010:0B U32 RO; 14_object_dictionary R471: R448 -/
  | COMMIT_COUNT
  /-- 0x1010:0C U32 RO; 14_object_dictionary R471: R448 -/
  | COMMIT_REFUSALS
  /-- 0x1010:0D U32 RO; 14_object_dictionary R471: Bytes of staged values, R444 -/
  | STAGE_BYTES
  /-- 0x1010:0E U32 RO; 14_object_dictionary R471: R448 -/
  | COMMIT_PARTS_REFUSED
  /-- 0x1010:0F — CMD; 14_object_dictionary R471: R451 -/
  | RESTORE_DEFAULTS
  /-- 0x1010:10 — CMD; 14_object_dictionary R471: R450 -/
  | CFG_SAVE
  /-- 0x1010:11 U32 RO; 14_object_dictionary R471: R450 -/
  | CFG_SAVED_DIGEST
  /-- 0x1010:12 BOOL RO; 14_object_dictionary R471: The mark of RESTORE_DEFAULTS is set, R451 -/
  | STAGED_DEFAULTS
  /-- 0x1100:01 U8 RWS; 14_object_dictionary R471: 0 off, 1 SGMII 1,000 Mb/s, 2 RMII 100 Mb/s, 3 RMII 10 Mb/s -/
  | ETH_MODE
  /-- 0x1100:02 U64 RO; 14_object_dictionary R471: [47:0] MAC address -/
  | MAC_ADDRESS
  /-- 0x1100:03 U32 RWS; 14_object_dictionary R471: IPv4 address, 192.168.0.100 -/
  | IP_ADDRESS
  /-- 0x1100:04 U32 RWS; 14_object_dictionary R471: Netmask -/
  | IP_NETMASK
  /-- 0x1100:05 U32 RWS; 14_object_dictionary R471: Gateway; 0 none -/
  | IP_GATEWAY
  /-- 0x1100:06 U16 RWS; 14_object_dictionary R471: UDP port of R468, 1,024–65,535 -/
  | ACCESS_PORT
  /-- 0x1100:07 U8 RO; 14_object_dictionary R471: 0 down, 1 10 Mb/s, 2 100 Mb/s, 3 1,000 Mb/s -/
  | ETH_LINK
  /-- 0x1100:08 U32 RO; 14_object_dictionary R471: Frames dropped, fragments included -/
  | ETH_RX_DROPPED
  /-- 0x1120:01 BOOL RWS; 14_object_dictionary R471: SPI host port in use -/
  | SPI_ENABLE
  /-- 0x1120:02 U32 RO; 14_object_dictionary R471: R469 -/
  | SPI_ERRORS
  /-- 0x1130:01 U16 RW; 14_object_dictionary R471: s, 5–3,600 -/
  | SESSION_IDLE
  /-- 0x1130:02 U8 RW; 14_object_dictionary R471: [0] UDP, [1] SPI, [2] ring; a message on a path not set is dropped and counted in PATH_DROPS -/
  | ACCESS_PATHS
  /-- 0x1130:03 U8 RO; 14_object_dictionary R471: 0–8 -/
  | SESSIONS_OPEN
  /-- 0x1130:04 U32 RO; 14_object_dictionary R471: R455 -/
  | AUTH_FAILS
  /-- 0x1130:05 U32 RO; 14_object_dictionary R471: Requests answered SEQUENCE or dropped, R465 -/
  | SEQ_REJECTS
  /-- 0x1130:06 U32 RO; 14_object_dictionary R471: Messages dropped by ACCESS_PATHS -/
  | PATH_DROPS
  /-- 0x1130:07 U64 RO; 14_object_dictionary R471: Requests executed -/
  | MESSAGES
  /-- 0x1200:01 U32 RO; 15_mailboxes_locks_journal R502: SEQ of the newest entry -/
  | JRN_HEAD
  /-- 0x1200:02 U32 RO; 15_mailboxes_locks_journal R502: SEQ of the oldest current entry -/
  | JRN_OLDEST
  /-- 0x1200:03 U32 RW; 15_mailboxes_locks_journal R502: R499 -/
  | JRN_HOST_MARK
  /-- 0x1200:04 U32 RW; 15_mailboxes_locks_journal R502: Entries, 1,024–64,512 -/
  | JRN_ALERT
  /-- 0x1200:05 BOOL RW; 15_mailboxes_locks_journal R502: R496 -/
  | JRN_MIRROR
  /-- 0x1200:06 U8 RO; 15_mailboxes_locks_journal R502: 0 off, 1 copying, 2 current, 3 failed -/
  | JRN_MIRROR_STATE
  /-- 0x1200:07 U32 RO; 15_mailboxes_locks_journal R502: R497 -/
  | JRN_REPAIRED
  /-- 0x1200:08 U32 RO; 15_mailboxes_locks_journal R502: R490, R497 -/
  | JRN_FAULTS
  /-- 0x1200:09 U32 RO; 15_mailboxes_locks_journal R502: BOOT entries written -/
  | JRN_BOOTS
  /-- 0x1201:01 BLOB RO; 15_mailboxes_locks_journal R502: 78 bytes, R500 -/
  | STATE_SUMMARY
  /-- 0x1220:00–0x1223:FF BLOB RO; 15_mailboxes_locks_journal R502: Page p = 256 × (index − 0x1220) + subindex, 2,048 bytes, R498 -/
  | JRN_PAGE_p
  /-- 0x1300:00–0x1300:1F U8 RO; 15_mailboxes_locks_journal R503: Lock n = subindex; a read acquires or renews, R485 -/
  | LOCK_n
  /-- 0x1301:01 U8 CMD; 15_mailboxes_locks_journal R503: Free lock n, owner only, R486 -/
  | LOCK_RELEASE
  /-- 0x1301:02 U8 CMD; 15_mailboxes_locks_journal R503: Free lock n, R486 -/
  | LOCK_FORCE
  /-- 0x1301:03 U32 RW; 15_mailboxes_locks_journal R503: KT counts (60 s), 32,768–2^31 -/
  | LOCK_TIMEOUT
  /-- 0x1301:04 BOOL RW; 15_mailboxes_locks_journal R503: Owner reads renew, R487 -/
  | LOCK_RENEW
  /-- 0x1301:05 U32 RO; 15_mailboxes_locks_journal R503: R487 -/
  | LOCK_EXPIRED
  /-- 0x1301:06 U32 RO; 15_mailboxes_locks_journal R503: R485 -/
  | LOCK_CONTESTED
  /-- 0x1310+k:01 U8 CMD; 15_mailboxes_locks_journal R504: Bind to the service written, R473 -/
  | MBX_OPEN
  /-- 0x1310+k:02 — CMD; 15_mailboxes_locks_journal R504: R473 -/
  | MBX_CLOSE
  /-- 0x1310+k:03 U8 RO; 15_mailboxes_locks_journal R504: 0 FREE, 1 OPEN, 2 CROSSED -/
  | MBX_STATE
  /-- 0x1310+k:04 U8 RO; 15_mailboxes_locks_journal R504: Owner id of R484 of the bound session -/
  | MBX_OWNER
  /-- 0x1310+k:05 U8 RO; 15_mailboxes_locks_journal R504: Service code bound -/
  | MBX_SERVICE
  /-- 0x1310+k:06 BLOB CMD; 15_mailboxes_locks_journal R504: 16-byte notice, R475 -/
  | MBX_POST
  /-- 0x1310+k:07 BLOB RO; 15_mailboxes_locks_journal R504: Oldest outbound notice, R476 -/
  | MBX_TAKE
  /-- 0x1310+k:08 U16 CMD; 15_mailboxes_locks_journal R504: Acknowledge outbound notices to NSEQ, R478 -/
  | MBX_ACK_RX
  /-- 0x1310+k:09 U16 RO; 15_mailboxes_locks_journal R504: R478 -/
  | MBX_ACK_TX
  /-- 0x1310+k:0A — CMD; 15_mailboxes_locks_journal R504: R479 -/
  | MBX_EMPTY_ARM
  /-- 0x1310+k:0B U8 RO; 15_mailboxes_locks_journal R504: [6:4] outbound slots used, [2:0] inbound slots used -/
  | MBX_FILL
  /-- 0x1310+k:0C BLOB WO; 15_mailboxes_locks_journal R504: U32 offset, then bytes, R477 -/
  | MBX_TX_DATA
  /-- 0x1310+k:0D BLOB RO; 15_mailboxes_locks_journal R504: Outbound window, 32,768 bytes -/
  | MBX_RX_DATA
  /-- 0x1310+k:0E U32 RO; 15_mailboxes_locks_journal R504: R475 -/
  | MBX_POST_FULL
  /-- 0x1310+k:0F U32 RO; 15_mailboxes_locks_journal R504: R481 -/
  | MBX_CROSSINGS
  /-- 0x1310+k:10 U32 RO; 15_mailboxes_locks_journal R504: R478 -/
  | MBX_ACK_LATE
  /-- 0x1318:01 U32 RW; 15_mailboxes_locks_journal R504: KT counts (1 s), 1,024–2^31 -/
  | MBX_ACK_TIMEOUT
  /-- 0x1318:02 U32 RW; 15_mailboxes_locks_journal R504: KT counts (10 s), 1,024–2^31 -/
  | MBX_CROSS_TIMEOUT
  /-- 0x1318:03 U32 RO; 15_mailboxes_locks_journal R504: Bits of R501; [31:14] reserved -/
  | MJ_CAUSE
  /-- 0x1318:04 U32 CMD; 15_mailboxes_locks_journal R504: Clears the bits set in the value -/
  | MJ_CAUSE_CLEAR
  /-- 0x1400+n:01 U32 RW; 16_events_fences_integrity R529: R507 -/
  | EV_ROUTE
  /-- 0x1400+n:02 U32 RO; 16_events_fences_integrity R529: Accepted raises since reset, R506 -/
  | EV_COUNT
  /-- 0x1400+n:03 VT80 RO; 16_events_fences_integrity R529: VT of the latest accepted raise -/
  | EV_LAST
  /-- 0x1400+n:04 BOOL RO; 16_events_fences_integrity R529: R506, R509 -/
  | EV_PENDING
  /-- 0x1400+n:05 — CMD; 16_events_fences_integrity R529: Clear EV_PENDING, R509 -/
  | EV_ACK
  /-- 0x1400+n:06 U32 RO; 16_events_fences_integrity R529: Raises held or undelivered, R510, R511 -/
  | EV_UNSENT
  /-- 0x1020:01 U8 RO; 16_events_fences_integrity R530: Bit k: IRQk_N driven low -/
  | IRQ_STATE
  /-- 0x1020:02 BLOB RO; 16_events_fences_integrity R530: 32 bytes; bit n of byte floor(n / 8) at bit n mod 8: EV_PENDING of n -/
  | EV_PENDING_MAP
  /-- 0x1020:03 BLOB CMD; 16_events_fences_integrity R530: 32 bytes, laid out as EV_PENDING_MAP; acknowledges each set bit -/
  | EV_ACK_MAP
  /-- 0x1020:04–0x1020:07 U16 RO; 16_events_fences_integrity R530: k = subindex − 4, R508 -/
  | IRQ_FIRST_k
  /-- 0x1780+c:01 U64 RO; 16_events_fences_integrity R531: Bit i: instance i fenced -/
  | FENCED
  /-- 0x1780+c:02 U8 CMD; 16_events_fences_integrity R531: Fence the instance written -/
  | FENCE_SET
  /-- 0x1780+c:03 U8 CMD; 16_events_fences_integrity R531: Lift the fence of the instance written, R520 -/
  | FENCE_LIFT
  /-- 0x1780+c:04 BOOL RW; 16_events_fences_integrity R531: R513 -/
  | FENCE_AUTO
  /-- 0x1780+c:05 U32 RO; 16_events_fences_integrity R531: Fences entered -/
  | FENCE_ENTRIES
  /-- 0x1780+c:06 U32 RO; 16_events_fences_integrity R531: R519 -/
  | FENCE_SUPPRESSED
  /-- 0x1780+c:07 U32 RO; 16_events_fences_integrity R531: [31:24] instance, [23:16] cause code of R514 of the latest fence; [15:0] reserved -/
  | FENCE_LAST
  /-- 0x178A:01 I32 RW; 16_events_fences_integrity R532: Substituted record value, −2^23 to 2^23 − 1, R516 -/
  | FENCE_VALUE
  /-- 0x178A:02 U8 RW; 16_events_fences_integrity R532: R514, R523, 1–255 -/
  | PARITY_LIMIT
  /-- 0x178A:03 U32 RO; 16_events_fences_integrity R532: R523 -/
  | BUS_PARITY_ERRORS
  /-- 0x178A:04 U64 RO; 16_events_fences_integrity R532: R524 -/
  | CURD_ECC_CORRECTED
  /-- 0x178A:05 U32 RO; 16_events_fences_integrity R532: R524 -/
  | CURD_ECC_UNCORRECTABLE
  /-- 0x178A:06 U32 RO; 16_events_fences_integrity R532: R525 -/
  | MRAM_ECC_CORRECTED
  /-- 0x178A:07 U32 RO; 16_events_fences_integrity R532: R525 -/
  | MRAM_ECC_UNCORRECTABLE
  /-- 0x178A:08 U32 RO; 16_events_fences_integrity R532: R526 -/
  | TRANSIT_ECC_CORRECTED
  /-- 0x178A:09 U32 RO; 16_events_fences_integrity R532: R526 -/
  | TRANSIT_ECC_UNCORRECTABLE
  /-- 0x178A:0A U32 RO; 16_events_fences_integrity R532: Bits of R528; [31:8] reserved -/
  | FI_CAUSE
  /-- 0x178A:0B U32 CMD; 16_events_fences_integrity R532: Clears the bits set in the value -/
  | FI_CAUSE_CLEAR
  /-- 0x1500:01 U8 RO; 17_security_debug_power R560: Codes of R533 -/
  | SEC_STATE
  /-- 0x1500:02 — CMD; 17_security_debug_power R560: Open to Closed, R534 -/
  | SEC_CLOSE
  /-- 0x1500:03 — CMD; 17_security_debug_power R560: End a reopening -/
  | SEC_RECLOSE
  /-- 0x1500:04 U32 CMD; 17_security_debug_power R560: R534 -/
  | SEC_REVOKE
  /-- 0x1500:05 BLOB CMD; 17_security_debug_power R560: 8–32 bytes, R540 -/
  | REOPEN_PASSWORD
  /-- 0x1500:06 BLOB RO; 17_security_debug_power R560: 48 bytes, R540 -/
  | REOPEN_CHALLENGE
  /-- 0x1500:07 BLOB CMD; 17_security_debug_power R560: 65 bytes, R540 -/
  | REOPEN_RESPONSE
  /-- 0x1500:08 U32 RO; 17_security_debug_power R560: KT counts -/
  | REOPEN_REMAINING
  /-- 0x1500:09 U32 RW; 17_security_debug_power R560: KT counts (8 h), 1,966,080–2,831,155,200 -/
  | REOPEN_TERM
  /-- 0x1500:0A BLOB CMD; 17_security_debug_power R560: 8–32 bytes, R540 -/
  | PASSWORD_SET
  /-- 0x1500:0B U32 RO; 17_security_debug_power R560: R540 -/
  | PASSWORD_FAILS
  /-- 0x1500:0C U64 RO; 17_security_debug_power R560: KT, R540 -/
  | PASSWORD_LOCKED_UNTIL
  /-- 0x1500:0D U32 RO; 17_security_debug_power R560: R539 -/
  | PROVE_FAILS
  /-- 0x1500:0E U32 RO; 17_security_debug_power R560: Bits of R558; [31:14] reserved -/
  | SEC_CAUSE
  /-- 0x1500:0F U32 CMD; 17_security_debug_power R560: Clears the bits set in the value -/
  | SEC_CAUSE_CLEAR
  /-- 0x1501:01–0x1501:04 BLOB RW; 17_security_debug_power R560: Public key of role r = subindex − 1, R536 -/
  | ROLE_KEY_r
  /-- 0x1502:01–0x1502:04 BLOB RO; 17_security_debug_power R560: 32 bytes, slot k = subindex − 1 -/
  | FW_KEY_HASH_k
  /-- 0x1502:05 U8 RO; 17_security_debug_power R560: [3:0] slot revoked -/
  | FW_KEY_REVOKED
  /-- 0x1502:06 U8 RO; 17_security_debug_power R560: 0–64 -/
  | ROLLBACK_MIN
  /-- 0x1502:07 BLOB RO; 17_security_debug_power R560: 64 bytes -/
  | DEVICE_PUB
  /-- 0x1502:08 BLOB RO; 17_security_debug_power R560: 64 bytes -/
  | SERVICE_ROOT
  /-- 0x1502:09 U8 CMD; 17_security_debug_power R560: Revoke slot 0–3, R536 -/
  | FW_KEY_REVOKE
  /-- 0x1503:01 U8 RO; 17_security_debug_power R560: 0 A, 1 B -/
  | FW_RUNNING
  /-- 0x1503:02 U32 RO; 17_security_debug_power R560: VERSION of slot A; 0 when invalid -/
  | FW_VERSION_A
  /-- 0x1503:03 U32 RO; 17_security_debug_power R560: VERSION of slot B; 0 when invalid -/
  | FW_VERSION_B
  /-- 0x1503:04 U8 RO; 17_security_debug_power R560: 0 IDLE, 1 RECEIVING, 2 VERIFIED, 3 REJECTED, 4 TRIAL, 5 CONFIRMED -/
  | FW_STATE
  /-- 0x1503:05 BLOB WO; 17_security_debug_power R560: U32 offset, then up to 61,440 bytes, R543 -/
  | FW_STAGE
  /-- 0x1503:06 — CMD; 17_security_debug_power R560: R543 -/
  | FW_VERIFY
  /-- 0x1503:07 U8 CMD; 17_security_debug_power R560: 0 at next start, 1 now, R543 -/
  | FW_ACTIVATE
  /-- 0x1503:08 — CMD; 17_security_debug_power R560: R543 -/
  | FW_CONFIRM
  /-- 0x1503:09 U32 RW; 17_security_debug_power R560: KT counts (10 min), 1,966,080–2,831,155,200 -/
  | FW_TRIAL_TIME
  /-- 0x1503:0A U8 RO; 17_security_debug_power R560: Slot written by FW_STAGE -/
  | FW_STAGE_SLOT
  /-- 0x1503:0B U8 RO; 17_security_debug_power R560: Slot tried first at the next start -/
  | BOOT_NEXT
  /-- 0x1504:01 U8 CMD; 17_security_debug_power R560: Requested level 0–2 -/
  | DEBUG_SET
  /-- 0x1504:02 U8 RO; 17_security_debug_power R560: R546 -/
  | DEBUG_EFFECTIVE
  /-- 0x1504:03 U8 RO; 17_security_debug_power R560: [0] core A, [1] core B halted -/
  | DEBUG_HALTED
  /-- 0x1600:01 U8 RO; 17_security_debug_power R561: Codes of R550 -/
  | PWR_STATE
  /-- 0x1600:02 U8 CMD; 17_security_debug_power R561: 0 RUN, 1 DIM, 2 VIGIL, 3 OFF, 4 OFF with data loss (Service) -/
  | PWR_REQUEST
  /-- 0x1600:03 VT80 RO; 17_security_debug_power R561: VT of the last change of PWR_STATE -/
  | PWR_CHANGED
  /-- 0x1600:04 I32 RO; 17_security_debug_power R561: 0.01 °C, R553 -/
  | PWR_DIE_TEMP
  /-- 0x1600:05 U32 RO; 17_security_debug_power R561: Bits of R559; [31:8] reserved -/
  | PW_CAUSE
  /-- 0x1600:06 U32 CMD; 17_security_debug_power R561: Clears the bits set in the value -/
  | PW_CAUSE_CLEAR
  /-- 0x1601:01 BOOL RW; 17_security_debug_power R561: R550 -/
  | PWR_DIM_ENABLE
  /-- 0x1601:02 U32 RW; 17_security_debug_power R561: Slots, 4,096–2,097,152, R552 -/
  | PWR_DIM_BURST
  /-- 0x1601:03 U16 RW; 17_security_debug_power R561: Grid ticks, 1–65,535 -/
  | PWR_DIM_CAVE_HOLD
  /-- 0x1601:04 BOOL RW; 17_security_debug_power R561: Gate idle cores in DIM -/
  | PWR_CORE_GATE
  /-- 0x1601:05 U8 RW; 17_security_debug_power R561: 0 Active, 1 Hush, 2 Rest -/
  | PWR_VIGIL_PORTS
  /-- 0x1601:06 U8 RW; 17_security_debug_power R561: 0 self-refresh, 1 off, R549 -/
  | PWR_VIGIL_CAVE
  /-- 0x1601:07 BOOL RW; 17_security_debug_power R561: Ethernet on in VIGIL -/
  | PWR_VIGIL_ETH
  /-- 0x1601:08 BOOL RW; 17_security_debug_power R561: Time unit on in VIGIL -/
  | PWR_VIGIL_TIME
  /-- 0x1601:09 BOOL RW; 17_security_debug_power R561: R550 -/
  | PWR_AUTO_VIGIL
  /-- 0x1601:0A U32 RW; 17_security_debug_power R561: s, 1–86,400 -/
  | PWR_AUTO_DELAY
  /-- 0x1601:0B U8 RW; 17_security_debug_power R561: [0] WAKE_N, [1] PWR_WAKE_AT -/
  | PWR_WAKE_MASK
  /-- 0x1601:0C U64 RW; 17_security_debug_power R561: KT of the alarm; 0 none -/
  | PWR_WAKE_AT
  /-- 0x1601:0D U8 RW; 17_security_debug_power R561: State after a wake boot: 0 RUN, 2 VIGIL -/
  | PWR_WAKE_STATE
  /-- 0x1601:0E U16 RW; 17_security_debug_power R561: 0.01 °C, 8,000–12,500 -/
  | PWR_HOT_LIMIT
  /-- 0x1601:0F U8 RW; 17_security_debug_power R561: 0 event only, 1 stop and enter VIGIL -/
  | PWR_HOT_ACTION
  /-- 0x1700:01 U8 CMD; 18_self_test_repair_life R587: 1 Quick, 2 Full; R565 -/
  | ST_RUN
  /-- 0x1700:02 — CMD; 18_self_test_repair_life R587: End the run at the next step boundary -/
  | ST_STOP
  /-- 0x1700:03 U8 RO; 18_self_test_repair_life R587: 0 IDLE, 1 RUNNING, 2 RESTORING -/
  | ST_STATE
  /-- 0x1700:04 U8 RO; 18_self_test_repair_life R587: Last run: 0 none, 1 SEALING, 2 on demand, 3 start -/
  | ST_ORIGIN
  /-- 0x1700:05 U8 RO; 18_self_test_repair_life R587: Item running; 0xFF none -/
  | ST_ITEM
  /-- 0x1700:06 U8 RW; 18_self_test_repair_life R587: 0 none, 1 Quick, 2 Full -/
  | ST_SEAL_PROFILE
  /-- 0x1700:07 BOOL RO; 18_self_test_repair_life R587: R569 -/
  | ST_SEALED
  /-- 0x1700:08 U64 RO; 18_self_test_repair_life R587: KT of the last seal -/
  | ST_SEAL_KT
  /-- 0x1700:09 U32 RW; 18_self_test_repair_life R587: min, 60–525,600; R566 -/
  | ST_SEAL_VALID
  /-- 0x1700:0A BOOL RW; 18_self_test_repair_life R587: R570, R577 -/
  | ST_AUTO_REPAIR
  /-- 0x1700:0B U16 RO; 18_self_test_repair_life R587: Test region owed a restore, R572 -/
  | ST_SAVE_PENDING
  /-- 0x1700:0C BLOB RO; 18_self_test_repair_life R587: 64 bytes; bit c of byte floor(c / 8): EXCn of channel c failed -/
  | ST_EXC_FAILED
  /-- 0x1700:0D BLOB RO; 18_self_test_repair_life R587: 64 bytes, laid out likewise; R580 -/
  | ST_CAL_LOST
  /-- 0x1700:0E U32 RO; 18_self_test_repair_life R587: Bits of R586; [31:8] reserved -/
  | ST_CAUSE
  /-- 0x1700:0F U32 CMD; 18_self_test_repair_life R587: Clears the bits set in the value -/
  | ST_CAUSE_CLEAR
  /-- 0x1710+i:01 U64 RO; 18_self_test_repair_life R587: Item i = index − 0x1710, R567 -/
  | ST_RESULT_i
  /-- 0x1710+i:02 U64 RO; 18_self_test_repair_life R587: [63:32] golden signature, [31:16] terminal count for the fitted cave; [15:0] reserved -/
  | ST_GOLDEN_i
  /-- 0x1710+i:03 U32 RO; 18_self_test_repair_life R587: Elements failed since reset -/
  | ST_FAILS_i
  /-- 0x1710+i:04 U64 RO; 18_self_test_repair_life R587: KT at which the item last ended -/
  | ST_LAST_KT
  /-- 0x1720:01 U8 RO; 18_self_test_repair_life R587: Map entries in use, 0–64 -/
  | REPAIR_COUNT
  /-- 0x1720:02 U32 RO; 18_self_test_repair_life R587: Entry waiting, R577; 0 none -/
  | REPAIR_PROPOSED
  /-- 0x1720:03 — CMD; 18_self_test_repair_life R587: Write the waiting entry -/
  | REPAIR_ACCEPT
  /-- 0x1720:04 U8 CMD; 18_self_test_repair_life R587: Empty soft entry 0–63 -/
  | REPAIR_CLEAR
  /-- 0x1720:05 U8 CMD; 18_self_test_repair_life R587: Blow entry 0–63, R578 -/
  | REPAIR_FUSE
  /-- 0x1720:06 U8 RO; 18_self_test_repair_life R587: Fuse entries unused -/
  | FUSE_FREE
  /-- 0x1720:07 U32 RO; 18_self_test_repair_life R587: R578, R579 -/
  | FUSE_MARGIN_FAILS
  /-- 0x1720:08 U32 RO; 18_self_test_repair_life R587: [31:24] cave spare regions, [23:16] banks with a spare, [15:0] spare memory rows -/
  | SPARES_LEFT
  /-- 0x1730:00–0x1730:3F U32 RO; 18_self_test_repair_life R587: Map entry n = subindex, R576 -/
  | REPAIR_ENTRY_n
  /-- 0x1740:00–0x1740:2F U32 RO; 18_self_test_repair_life R587: Fuse entry n = subindex, R576 -/
  | FUSE_ENTRY_n
  /-- 0x1750:01 U32 RO; 18_self_test_repair_life R587: Powered hours, R585 -/
  | LIFE_HOURS
  /-- 0x1750:02 BLOB RO; 18_self_test_repair_life R587: 17 U32 hours, bins of 10 °C from −40 °C -/
  | LIFE_TJ_HIST
  /-- 0x1750:03 U32 RO; 18_self_test_repair_life R587: ppm of 350,640 equivalent hours -/
  | LIFE_CONSUMED
  /-- 0x7800:01 U32 RWS; 19_startup_and_vat_membership R612: Identity of the vat; in VAT_DIGEST, R602 -/
  | VAT_ID
  /-- 0x7800:02 U8 RW; 19_startup_and_vat_membership R612: Major versions, 0–15; R604 -/
  | VAT_FW_WINDOW
  /-- 0x7800:03 U16 RW; 19_startup_and_vat_membership R612: Servo cycles, 1–1,000; R604 -/
  | VAT_SPLIT_CYCLES
  /-- 0x7800:04 U16 RW; 19_startup_and_vat_membership R612: ms, 10–10,000; R601 -/
  | MEMBER_PERIOD
  /-- 0x7800:05 U8 RW; 19_startup_and_vat_membership R612: 0 wait for ACQ_START, 1 start by R594 -/
  | AUTO_START
  /-- 0x7800:06 BOOL RW; 19_startup_and_vat_membership R612: R594 code 5 -/
  | START_NEED_LOCK
  /-- 0x7800:07 U32 RW; 19_startup_and_vat_membership R612: ms, 1,000–3,600,000; R598 -/
  | START_LIMIT
  /-- 0x7800:08 U32 RW; 19_startup_and_vat_membership R612: Grid ticks, 1–16,777,215; R598 -/
  | RECOVERY_TICKS
  /-- 0x7801:01 — CMD; 19_startup_and_vat_membership R612: R594 -/
  | ACQ_START
  /-- 0x7801:02 — CMD; 19_startup_and_vat_membership R612: R597 -/
  | ACQ_STOP
  /-- 0x7801:03 — CMD; 19_startup_and_vat_membership R612: R610 -/
  | VAT_LEAVE
  /-- 0x7801:04 — CMD; 19_startup_and_vat_membership R612: R611 -/
  | VAT_REJOIN
  /-- 0x7801:05 U8 CMD; 19_startup_and_vat_membership R612: 1 NORMAL, 2 TEST; R598 -/
  | SERVICE_PHASE_SET
  /-- 0x7802:01 U8 RO; 19_startup_and_vat_membership R612: Codes of R592 -/
  | START_STATE
  /-- 0x7802:02 U8 RO; 19_startup_and_vat_membership R612: Codes of R588 -/
  | RESET_CAUSE
  /-- 0x7802:03 U8 RO; 19_startup_and_vat_membership R612: 0 none, 1 sealing, 2 supply trip, 3 thermal trip -/
  | OFF_CAUSE
  /-- 0x7802:04 U8 RO; 19_startup_and_vat_membership R612: Code of R594 of the last refusal; 0 none -/
  | START_REFUSAL
  /-- 0x7802:05 U8 RO; 19_startup_and_vat_membership R612: Codes of R598 -/
  | SERVICE_PHASE
  /-- 0x7802:06 U32 RO; 19_startup_and_vat_membership R612: Bit b: bank b qualified, R596 -/
  | START_QUALIFIED
  /-- 0x7802:07 U64 RO; 19_startup_and_vat_membership R612: Grid index at which START_UP ended -/
  | START_DONE_INDEX
  /-- 0x7802:08 U32 RO; 19_startup_and_vat_membership R612: µs from BOOT to READY -/
  | BOOT_TIME
  /-- 0x7803:01 U8 RO; 19_startup_and_vat_membership R612: Codes of R605 -/
  | VAT_STATE
  /-- 0x7803:02 U8 RO; 19_startup_and_vat_membership R612: Bits of R604; [7] reserved -/
  | VAT_DISAGREE
  /-- 0x7803:03 U32 RO; 19_startup_and_vat_membership R612: R602 -/
  | VAT_DIGEST
  /-- 0x7803:04 U16 RO; 19_startup_and_vat_membership R612: Hub address of the reference; 0x1FF none -/
  | VAT_REFERENCE
  /-- 0x7803:05 U8 RO; 19_startup_and_vat_membership R612: Unexpired records held, 0–32 -/
  | VAT_MEMBER_COUNT
  /-- 0x7803:06 BLOB RO; 19_startup_and_vat_membership R612: 512 bytes: the record of ring position k at byte 16k; zeros when none -/
  | VAT_MEMBERS
  /-- 0x7803:07 VT80 RO; 19_startup_and_vat_membership R612: VT of the last change of VAT_STATE -/
  | VAT_STATE_CHANGED
deriving DecidableEq, Repr, Inhabited

/-- The types of R439. -/
inductive ObjType where
  | none | bool | u8 | u16 | u32 | u64 | i32 | i64 | vt80 | str | blob
deriving DecidableEq, Repr, Inhabited

/-- The access codes of R10. -/
inductive Access where
  | ro | rw | wo | rws | cmd
deriving DecidableEq, Repr, Inhabited

/-- The roles of R11, lowest first. -/
inductive Role where
  | observer | operator | engineer | service
deriving DecidableEq, Repr, Inhabited

/-- The rank of a role, and the code of ROLE in R461. -/
def Role.rank : Role → Nat
  | .observer => 0
  | .operator => 1
  | .engineer => 2
  | .service => 3

/-- What the Default column of a row holds (R442). -/
inductive DefaultKind where
  | value | production | generated | perPart | dash
deriving DecidableEq, Repr, Inhabited

/-- One row of an object table: its place in the dictionary and its checks.
`lo`, `hi` and `extra` are the range of R440; where the Meaning column gives none they are the range of the type. -/
structure ObjInfo where
  obj   : Obj
  index : Nat
  count : Nat
  sub   : Nat
  subs  : Nat
  type  : ObjType
  access : Access
  role  : Role
  kind  : DefaultKind
  lo    : Int
  hi    : Int
  extra : List Int
deriving DecidableEq, Repr, Inhabited

/-- Rows 0 to 59 of the object tables, in the order of the chapters. -/
def objTable0 : List ObjInfo := [
  ⟨.PART_NUMBER, 0x1000, 1, 0x01, 1, .str, .ro, .observer, .value, 0, 0, []⟩,
  ⟨.STEPPING, 0x1000, 1, 0x02, 1, .u8, .ro, .observer, .value, 0, 255, []⟩,
  ⟨.VARIANT, 0x1000, 1, 0x03, 1, .u8, .ro, .observer, .perPart, 0, 255, []⟩,
  ⟨.FRAME_STATE, 0x1680, 1, 0x01, 1, .u8, .ro, .observer, .value, 0, 255, []⟩,
  ⟨.FRAME_END_STEP, 0x1680, 1, 0x02, 1, .u8, .ro, .observer, .value, 0, 255, []⟩,
  ⟨.FRAME_TICK, 0x1680, 1, 0x03, 1, .u64, .ro, .observer, .value, 0, 18446744073709551615, []⟩,
  ⟨.FRAME_SOURCE, 0x1680, 1, 0x04, 1, .u8, .rws, .engineer, .value, 0, 1, []⟩,
  ⟨.FRAME_BAD_STEP, 0x1680, 1, 0x05, 1, .u8, .ro, .observer, .value, 0, 255, []⟩,
  ⟨.FRAME_STEP_n, 0x1681, 1, 0x00, 256, .u32, .rws, .engineer, .generated, 0, 4294967295, []⟩,
  ⟨.VT_NOW, 0x6800, 1, 0x01, 1, .vt80, .ro, .observer, .value, 0, 18446744073709551615999999999, []⟩,
  ⟨.VT_STATE, 0x6800, 1, 0x02, 1, .u8, .ro, .observer, .value, 0, 255, []⟩,
  ⟨.VT_SOURCE, 0x6800, 1, 0x03, 1, .u8, .rws, .engineer, .value, 0, 3, []⟩,
  ⟨.VT_INCREMENT, 0x6800, 1, 0x04, 1, .u32, .rw, .engineer, .value, 0, 4294967295, []⟩,
  ⟨.SERVO_OWNER, 0x6800, 1, 0x05, 1, .u8, .rw, .engineer, .value, 0, 1, []⟩,
  ⟨.STEP_THRESHOLD, 0x6800, 1, 0x06, 1, .u32, .rw, .engineer, .value, 100, 1000000, []⟩,
  ⟨.VT_LOAD, 0x6800, 1, 0x07, 1, .vt80, .cmd, .engineer, .dash, 0, 18446744073709551615999999999, []⟩,
  ⟨.VT_SLEW, 0x6800, 1, 0x08, 1, .i64, .cmd, .engineer, .dash, (-9223372036854775808), 9223372036854775807, []⟩,
  ⟨.SLEW_REMAINING, 0x6800, 1, 0x09, 1, .i64, .ro, .observer, .value, (-9223372036854775808), 9223372036854775807, []⟩,
  ⟨.SLEW_RATE, 0x6800, 1, 0x0A, 1, .u16, .rw, .engineer, .value, 1, 500, []⟩,
  ⟨.PHASE_ERROR, 0x6800, 1, 0x0B, 1, .i64, .ro, .observer, .value, (-9223372036854775808), 9223372036854775807, []⟩,
  ⟨.LOCK_WINDOW, 0x6800, 1, 0x0C, 1, .u32, .rw, .engineer, .value, 1, 1000, []⟩,
  ⟨.QUALIFY_COUNT, 0x6800, 1, 0x0D, 1, .u16, .rw, .engineer, .value, 1, 1000, []⟩,
  ⟨.HOLDOVER_AVG, 0x6800, 1, 0x0E, 1, .u16, .rw, .engineer, .value, 1, 60000, []⟩,
  ⟨.HOLD_INCREMENT, 0x6800, 1, 0x0F, 1, .u32, .ro, .observer, .value, 0, 4294967295, []⟩,
  ⟨.HOLDOVER_LIMIT, 0x6800, 1, 0x10, 1, .u32, .rw, .engineer, .value, 0, 4294967295, []⟩,
  ⟨.TIMEOUT_RING, 0x6800, 1, 0x11, 1, .u16, .rw, .engineer, .value, 2, 1000, []⟩,
  ⟨.TIMEOUT_PT, 0x6800, 1, 0x12, 1, .u16, .rw, .engineer, .value, 100, 60000, []⟩,
  ⟨.TIMEOUT_PPS, 0x6800, 1, 0x13, 1, .u16, .rw, .engineer, .value, 1100, 60000, []⟩,
  ⟨.HOLDOVER_TIME, 0x6800, 1, 0x14, 1, .u32, .ro, .observer, .value, 0, 4294967295, []⟩,
  ⟨.VAT_EPOCH, 0x6801, 1, 0x01, 1, .vt80, .rws, .engineer, .value, 0, 18446744073709551615999999999, []⟩,
  ⟨.GRID_INDEX, 0x6801, 1, 0x02, 1, .u64, .ro, .observer, .value, 0, 18446744073709551615, []⟩,
  ⟨.GRID_INSTANT, 0x6801, 1, 0x03, 1, .vt80, .ro, .observer, .value, 0, 18446744073709551615999999999, []⟩,
  ⟨.MODCLK_STATE, 0x6802, 1, 0x01, 1, .u8, .ro, .observer, .value, 0, 255, []⟩,
  ⟨.MODCLK_PHASE, 0x6802, 1, 0x02, 1, .i32, .ro, .observer, .value, (-2147483648), 2147483647, []⟩,
  ⟨.MODCLK_UNLOCKS, 0x6802, 1, 0x03, 1, .u32, .ro, .observer, .value, 0, 4294967295, []⟩,
  ⟨.PT_NOW, 0x6803, 1, 0x01, 1, .vt80, .ro, .observer, .value, 0, 18446744073709551615999999999, []⟩,
  ⟨.PT_STATE, 0x6803, 1, 0x02, 1, .u8, .ro, .observer, .value, 0, 255, []⟩,
  ⟨.PT_INCREMENT, 0x6803, 1, 0x03, 1, .u32, .rw, .engineer, .value, 0, 4294967295, []⟩,
  ⟨.PT_SLEW, 0x6803, 1, 0x04, 1, .i64, .cmd, .engineer, .dash, (-9223372036854775808), 9223372036854775807, []⟩,
  ⟨.VT_PT_OFFSET, 0x6803, 1, 0x05, 1, .i64, .rws, .engineer, .value, (-9223372036854775808), 9223372036854775807, []⟩,
  ⟨.PT_SLEW_REMAINING, 0x6803, 1, 0x06, 1, .i64, .ro, .observer, .value, (-9223372036854775808), 9223372036854775807, []⟩,
  ⟨.KT_NOW, 0x6804, 1, 0x01, 1, .u64, .ro, .observer, .value, 0, 18446744073709551615, []⟩,
  ⟨.KT_CLOCK, 0x6804, 1, 0x02, 1, .u8, .ro, .observer, .value, 0, 255, []⟩,
  ⟨.KT_CLOCK_SEL, 0x6804, 1, 0x03, 1, .u8, .rw, .service, .value, 0, 1, []⟩,
  ⟨.CLK_REF_SEL, 0x6805, 1, 0x01, 1, .u8, .rws, .engineer, .value, 0, 1, []⟩,
  ⟨.CLK10_PRESENT, 0x6805, 1, 0x02, 1, .bool, .ro, .observer, .value, 0, 1, []⟩,
  ⟨.PPS_IN_ENABLE, 0x6805, 1, 0x03, 1, .bool, .rw, .engineer, .value, 0, 1, []⟩,
  ⟨.PPS_IN_EDGE, 0x6805, 1, 0x04, 1, .u8, .rw, .engineer, .value, 0, 1, []⟩,
  ⟨.PPS_IN_DELAY, 0x6805, 1, 0x05, 1, .i32, .rw, .engineer, .value, (-2147483648), 2147483647, []⟩,
  ⟨.PPS_IN_LAST, 0x6805, 1, 0x06, 1, .vt80, .ro, .observer, .value, 0, 18446744073709551615999999999, []⟩,
  ⟨.PPS_OUT_MODE, 0x6805, 1, 0x07, 1, .u8, .rw, .engineer, .value, 0, 2, []⟩,
  ⟨.PPS_OUT_WIDTH, 0x6805, 1, 0x08, 1, .u32, .rw, .engineer, .value, 1, 500000, []⟩,
  ⟨.PPS_OUT_DELAY, 0x6805, 1, 0x09, 1, .i32, .rw, .engineer, .value, (-1000), 1000, []⟩,
  ⟨.CLK_REF_ACTIVE, 0x6805, 1, 0x0A, 1, .u8, .ro, .observer, .value, 0, 255, []⟩,
  ⟨.PTP_MODE, 0x1140, 1, 0x01, 1, .u8, .rws, .engineer, .value, 0, 3, []⟩,
  ⟨.PTP_DOMAIN, 0x1140, 1, 0x02, 1, .u8, .rws, .engineer, .value, 0, 127, []⟩,
  ⟨.PTP_TRANSPORT, 0x1140, 1, 0x03, 1, .u8, .rws, .engineer, .value, 0, 1, []⟩,
  ⟨.PTP_DELAY_MECH, 0x1140, 1, 0x04, 1, .u8, .rws, .engineer, .value, 0, 1, []⟩,
  ⟨.PTP_ONE_STEP, 0x1140, 1, 0x05, 1, .bool, .rws, .engineer, .value, 0, 1, []⟩,
  ⟨.PTP_LOG_SYNC, 0x1140, 1, 0x06, 1, .i32, .rws, .engineer, .value, (-1), 1, []⟩]

/-- Rows 60 to 119 of the object tables, in the order of the chapters. -/
def objTable1 : List ObjInfo := [
  ⟨.PTP_LOG_ANNOUNCE, 0x1140, 1, 0x07, 1, .i32, .rws, .engineer, .value, 0, 4, []⟩,
  ⟨.PTP_ANNOUNCE_TIMEOUT, 0x1140, 1, 0x08, 1, .u8, .rws, .engineer, .value, 2, 10, []⟩,
  ⟨.PTP_LOG_DELAY_REQ, 0x1140, 1, 0x09, 1, .i32, .rws, .engineer, .value, 0, 5, []⟩,
  ⟨.PTP_PRIORITY1, 0x1140, 1, 0x0A, 1, .u8, .rw, .engineer, .value, 0, 255, []⟩,
  ⟨.PTP_PRIORITY2, 0x1140, 1, 0x0B, 1, .u8, .rw, .engineer, .value, 0, 255, []⟩,
  ⟨.PTP_PORT_STATE, 0x1140, 1, 0x0C, 1, .u8, .ro, .observer, .value, 0, 255, []⟩,
  ⟨.PTP_GM_IDENTITY, 0x1140, 1, 0x0D, 1, .u64, .ro, .observer, .value, 0, 18446744073709551615, []⟩,
  ⟨.PTP_MEAN_DELAY, 0x1140, 1, 0x0E, 1, .i64, .ro, .observer, .value, (-9223372036854775808), 9223372036854775807, []⟩,
  ⟨.PTP_OFFSET, 0x1140, 1, 0x0F, 1, .i64, .ro, .observer, .value, (-9223372036854775808), 9223372036854775807, []⟩,
  ⟨.PHY_TX_LATENCY, 0x1140, 1, 0x10, 1, .u16, .rw, .engineer, .value, 0, 65535, []⟩,
  ⟨.PHY_RX_LATENCY, 0x1140, 1, 0x11, 1, .u16, .rw, .engineer, .value, 0, 65535, []⟩,
  ⟨.CH_MODE, 0x3000, 512, 0x01, 1, .u8, .rw, .engineer, .value, 0, 7, []⟩,
  ⟨.CH_RANGE, 0x3000, 512, 0x02, 1, .u8, .rw, .engineer, .value, 0, 4, []⟩,
  ⟨.CH_EXC, 0x3000, 512, 0x03, 1, .i32, .rw, .engineer, .value, (-150), 150, []⟩,
  ⟨.BURNOUT, 0x3000, 512, 0x04, 1, .bool, .rw, .engineer, .value, 0, 1, []⟩,
  ⟨.CAL_OFFSET, 0x3000, 512, 0x05, 1, .i32, .rw, .service, .production, (-2147483648), 2147483647, []⟩,
  ⟨.CAL_GAIN, 0x3000, 512, 0x06, 1, .u32, .rw, .service, .production, 0, 4294967295, []⟩,
  ⟨.GROUP_DELAY, 0x3000, 512, 0x07, 1, .i32, .rw, .service, .production, (-2147483648), 2147483647, []⟩,
  ⟨.SPARE_OFFSET, 0x3000, 512, 0x08, 1, .i32, .ro, .observer, .production, (-2147483648), 2147483647, []⟩,
  ⟨.SPARE_GAIN, 0x3000, 512, 0x09, 1, .u32, .ro, .observer, .production, 0, 4294967295, []⟩,
  ⟨.SPARE_DELAY, 0x3000, 512, 0x0A, 1, .i32, .rw, .service, .production, (-2147483648), 2147483647, []⟩,
  ⟨.CH_PRESENCE, 0x3000, 512, 0x0B, 1, .u8, .ro, .observer, .value, 0, 255, []⟩,
  ⟨.CH_WIRE_FAULT, 0x3000, 512, 0x0C, 1, .u8, .ro, .observer, .value, 0, 255, []⟩,
  ⟨.CH_ABSENT_COUNT, 0x3000, 512, 0x0D, 1, .u32, .ro, .observer, .value, 0, 4294967295, []⟩,
  ⟨.CH_FAULT_COUNT, 0x3000, 512, 0x0E, 1, .u32, .ro, .observer, .value, 0, 4294967295, []⟩,
  ⟨.CH_SERVED_BY, 0x3000, 512, 0x0F, 1, .u8, .ro, .observer, .value, 0, 255, []⟩,
  ⟨.CH_CALIBRATE, 0x3000, 512, 0x10, 1, .none, .cmd, .service, .dash, 0, 0, []⟩,
  ⟨.LEAD_OFFSET, 0x3000, 512, 0x11, 1, .i32, .rw, .engineer, .value, (-2147483648), 2147483647, []⟩,
  ⟨.BANK_ENABLE, 0x2000, 32, 0x01, 1, .bool, .rws, .engineer, .value, 0, 1, []⟩,
  ⟨.GUARD_MODE, 0x2000, 32, 0x02, 1, .u8, .rw, .engineer, .value, 0, 2, []⟩,
  ⟨.GUARD_SOURCE, 0x2000, 32, 0x03, 1, .u8, .rw, .engineer, .value, 0, 15, []⟩,
  ⟨.COMP_LINK_STATE, 0x2000, 32, 0x04, 1, .u8, .ro, .observer, .value, 0, 255, []⟩,
  ⟨.COMP_STATUS, 0x2000, 32, 0x05, 1, .u8, .ro, .observer, .value, 0, 255, []⟩,
  ⟨.COMP_LOOP_FAULT, 0x2000, 32, 0x06, 1, .u16, .ro, .observer, .value, 0, 65535, []⟩,
  ⟨.COMP_ERRORS, 0x2000, 32, 0x07, 1, .u32, .ro, .observer, .value, 0, 4294967295, []⟩,
  ⟨.COMP_VERSION, 0x2000, 32, 0x08, 1, .u16, .ro, .observer, .value, 0, 65535, []⟩,
  ⟨.COMP_LOOP_POWER, 0x2000, 32, 0x09, 1, .u16, .rw, .engineer, .value, 0, 65535, []⟩,
  ⟨.BANK_CAUSE, 0x2000, 32, 0x0A, 1, .u32, .ro, .observer, .value, 0, 4294967295, []⟩,
  ⟨.BANK_CAUSE_CLEAR, 0x2000, 32, 0x0B, 1, .u32, .cmd, .operator, .dash, 0, 4294967295, []⟩,
  ⟨.SHADOW_ENABLE, 0x2000, 32, 0x0C, 1, .bool, .rw, .engineer, .value, 0, 1, []⟩,
  ⟨.SHADOW_DWELL, 0x2000, 32, 0x0D, 1, .u16, .rw, .engineer, .value, 64, 65535, []⟩,
  ⟨.SHADOW_MEAN_LIMIT, 0x2000, 32, 0x0E, 1, .u32, .rw, .engineer, .value, 0, 4294967295, []⟩,
  ⟨.SHADOW_RMS_LIMIT, 0x2000, 32, 0x0F, 1, .u32, .rw, .engineer, .value, 0, 4294967295, []⟩,
  ⟨.SHADOW_LAST, 0x2000, 32, 0x10, 1, .u64, .ro, .observer, .value, 0, 18446744073709551615, []⟩,
  ⟨.SHADOW_MISMATCHES, 0x2000, 32, 0x11, 1, .u32, .ro, .observer, .value, 0, 4294967295, []⟩,
  ⟨.SHADOW_SKIPS, 0x2000, 32, 0x12, 1, .u32, .ro, .observer, .value, 0, 4294967295, []⟩,
  ⟨.SHADOW_UNRESOLVED, 0x2000, 32, 0x13, 1, .u32, .ro, .observer, .value, 0, 4294967295, []⟩,
  ⟨.SPARE_STATE, 0x2000, 32, 0x14, 1, .u8, .ro, .observer, .value, 0, 255, []⟩,
  ⟨.SPARE_CHANNEL, 0x2000, 32, 0x15, 1, .u8, .ro, .observer, .value, 0, 255, []⟩,
  ⟨.TAKEOVER_FADE, 0x2000, 32, 0x16, 1, .u8, .rw, .engineer, .value, 2, 64, []⟩,
  ⟨.ARB_LIMIT, 0x2000, 32, 0x17, 1, .u16, .rw, .engineer, .value, 0, 65535, []⟩,
  ⟨.OPEN_LIMIT, 0x2000, 32, 0x18, 1, .u32, .rw, .engineer, .value, 0, 4294967295, []⟩,
  ⟨.SHORT_LIMIT, 0x2000, 32, 0x19, 1, .u16, .rw, .engineer, .value, 0, 65535, []⟩,
  ⟨.LOOP_ABSENT_LIMIT, 0x2000, 32, 0x1A, 1, .u16, .rw, .engineer, .value, 0, 65535, []⟩,
  ⟨.REV_LIMIT, 0x2000, 32, 0x1B, 1, .u16, .rw, .engineer, .value, 0, 65535, []⟩,
  ⟨.REQUAL_TICKS, 0x2000, 32, 0x1C, 1, .u16, .rw, .engineer, .value, 4, 65535, []⟩,
  ⟨.CJC_ENTRY, 0x2000, 32, 0x1D, 1, .u8, .rw, .engineer, .value, 0, 63, []⟩,
  ⟨.CJC_TABLE, 0x2000, 32, 0x1E, 1, .blob, .rw, .engineer, .value, 0, 0, []⟩,
  ⟨.BANK_DELAY_CAL, 0x2000, 32, 0x1F, 1, .none, .cmd, .service, .dash, 0, 0, []⟩,
  ⟨.COMP_FAULT_LATCH, 0x2000, 32, 0x20, 1, .u16, .ro, .observer, .value, 0, 65535, []⟩]

/-- Rows 120 to 179 of the object tables, in the order of the chapters. -/
def objTable2 : List ObjInfo := [
  ⟨.SCAN_LENGTH, 0x2100, 32, 0x01, 1, .u8, .rw, .engineer, .value, 0, 32, []⟩,
  ⟨.SCAN_STATE, 0x2100, 32, 0x02, 1, .u8, .ro, .observer, .value, 0, 255, []⟩,
  ⟨.SCAN_ENTRY, 0x2100, 32, 0x03, 1, .u8, .ro, .observer, .value, 0, 255, []⟩,
  ⟨.SCAN_EXECUTION, 0x2100, 32, 0x04, 1, .u8, .ro, .observer, .value, 0, 255, []⟩,
  ⟨.SCAN_PASS, 0x2100, 32, 0x05, 1, .u64, .ro, .observer, .value, 0, 18446744073709551615, []⟩,
  ⟨.SCAN_PASS_TICKS, 0x2100, 32, 0x06, 1, .u32, .ro, .observer, .value, 0, 4294967295, []⟩,
  ⟨.SCAN_START, 0x2100, 32, 0x07, 1, .u64, .ro, .observer, .value, 0, 18446744073709551615, []⟩,
  ⟨.EXC_SETTLE, 0x2100, 32, 0x08, 1, .u16, .rw, .engineer, .value, 4, 4095, []⟩,
  ⟨.LOOP_SETTLE, 0x2100, 32, 0x09, 1, .u16, .rw, .engineer, .value, 64, 65535, []⟩,
  ⟨.SCAN_HOLD, 0x2100, 32, 0x0A, 1, .u8, .cmd, .operator, .dash, 0, 255, []⟩,
  ⟨.SCAN_BAD_ENTRY, 0x2100, 32, 0x0B, 1, .u8, .ro, .observer, .value, 0, 255, []⟩,
  ⟨.SCAN_INCONCLUSIVE, 0x2100, 32, 0x0C, 1, .u32, .ro, .observer, .value, 0, 4294967295, []⟩,
  ⟨.SCAN_TESTS, 0x2100, 32, 0x0D, 1, .u32, .ro, .observer, .value, 0, 4294967295, []⟩,
  ⟨.SCAN_ENTRY_n, 0x2100, 32, 0x10, 32, .u64, .rw, .engineer, .value, 0, 18446744073709551615, []⟩,
  ⟨.LEAD_EST_i, 0x2100, 32, 0x30, 16, .i32, .ro, .observer, .value, (-2147483648), 2147483647, []⟩,
  ⟨.WHEY_COUNT_i, 0x2100, 32, 0x40, 16, .u64, .ro, .observer, .value, 0, 18446744073709551615, []⟩,
  ⟨.TRIER_MODE, 0x2200, 4, 0x01, 1, .u8, .rw, .engineer, .value, 0, 3, []⟩,
  ⟨.TRIER_STATE, 0x2200, 4, 0x02, 1, .u8, .ro, .observer, .value, 0, 255, []⟩,
  ⟨.SEQ_LENGTH, 0x2200, 4, 0x03, 1, .u8, .rw, .engineer, .value, 0, 16, []⟩,
  ⟨.TRIER_CAD, 0x2200, 4, 0x04, 1, .u8, .rw, .engineer, .value, 0, 15, []⟩,
  ⟨.TRIG_DELAY, 0x2200, 4, 0x05, 1, .u16, .rw, .engineer, .value, 0, 624, []⟩,
  ⟨.START, 0x2200, 4, 0x06, 1, .u8, .cmd, .operator, .dash, 0, 255, []⟩,
  ⟨.ABORT_LIMIT, 0x2200, 4, 0x07, 1, .u8, .rw, .engineer, .value, 0, 15, []⟩,
  ⟨.STALE_TICKS, 0x2200, 4, 0x08, 1, .u32, .rw, .engineer, .value, 64, 16777215, []⟩,
  ⟨.PASS_COUNT, 0x2200, 4, 0x09, 1, .u32, .ro, .observer, .value, 0, 4294967295, []⟩,
  ⟨.PASS_SKIPS, 0x2200, 4, 0x0A, 1, .u32, .ro, .observer, .value, 0, 4294967295, []⟩,
  ⟨.ABORTS, 0x2200, 4, 0x0B, 1, .u32, .ro, .observer, .value, 0, 4294967295, []⟩,
  ⟨.INJ_REQUEST, 0x2200, 4, 0x0C, 1, .u32, .cmd, .engineer, .dash, 0, 4294967295, []⟩,
  ⟨.INJ_RESULT, 0x2200, 4, 0x0D, 1, .u64, .ro, .observer, .value, 0, 18446744073709551615, []⟩,
  ⟨.INJ_REFUSED, 0x2200, 4, 0x0E, 1, .u32, .ro, .observer, .value, 0, 4294967295, []⟩,
  ⟨.CAL_START, 0x2200, 4, 0x0F, 1, .u8, .cmd, .engineer, .dash, 0, 255, []⟩,
  ⟨.CAL_STATE, 0x2200, 4, 0x10, 1, .u8, .ro, .observer, .value, 0, 255, []⟩,
  ⟨.TRIER_CAL_OFFSET, 0x2200, 4, 0x11, 1, .i32, .ro, .observer, .production, (-2147483648), 2147483647, []⟩,
  ⟨.TRIER_CAL_GAIN, 0x2200, 4, 0x12, 1, .u32, .ro, .observer, .production, 0, 4294967295, []⟩,
  ⟨.LIN_GAIN, 0x2200, 4, 0x13, 1, .i32, .rw, .engineer, .value, (-2147483648), 2147483647, []⟩,
  ⟨.LIN_OFFSET, 0x2200, 4, 0x14, 1, .i32, .rw, .engineer, .value, (-2147483648), 2147483647, []⟩,
  ⟨.TRIER_QUEUE, 0x2200, 4, 0x15, 1, .u8, .rw, .engineer, .value, 0, 15, [255]⟩,
  ⟨.PASS_GRID, 0x2200, 4, 0x16, 1, .u64, .ro, .observer, .value, 0, 18446744073709551615, []⟩,
  ⟨.TRIER_CAUSE, 0x2200, 4, 0x17, 1, .u32, .ro, .observer, .value, 0, 4294967295, []⟩,
  ⟨.TRIER_CAUSE_CLEAR, 0x2200, 4, 0x18, 1, .u32, .cmd, .operator, .dash, 0, 4294967295, []⟩,
  ⟨.SEQ_BAD_ENTRY, 0x2200, 4, 0x19, 1, .u8, .ro, .observer, .value, 0, 255, []⟩,
  ⟨.SEQ_ENTRY_n, 0x2204, 4, 0x10, 16, .u32, .rw, .engineer, .value, 0, 4294967295, []⟩,
  ⟨.WINDOW_n, 0x2204, 4, 0x20, 16, .u32, .rw, .engineer, .value, 0, 4294967295, []⟩,
  ⟨.RESULT_n, 0x2208, 4, 0x10, 16, .u64, .ro, .observer, .value, 0, 18446744073709551615, []⟩,
  ⟨.SIMUL_MASK, 0x220C, 1, 0x01, 1, .u8, .rws, .engineer, .value, 0, 15, []⟩,
  ⟨.EXC_CAL, 0x220C, 1, 0x02, 1, .u8, .cmd, .service, .dash, 0, 255, []⟩,
  ⟨.EXC_CAL_TRIER, 0x220C, 1, 0x03, 1, .u8, .rw, .service, .value, 0, 3, []⟩,
  ⟨.EXC_CAL_STATUS, 0x220C, 1, 0x04, 1, .u32, .ro, .observer, .value, 0, 4294967295, []⟩,
  ⟨.COEF_ACTIVE, 0x4000, 32, 0x01, 1, .u8, .rw, .engineer, .value, 0, 1, []⟩,
  ⟨.COEF_IN_USE, 0x4000, 32, 0x02, 1, .u8, .ro, .observer, .value, 0, 255, []⟩,
  ⟨.COEF_SWAP, 0x4000, 32, 0x03, 1, .u8, .cmd, .operator, .dash, 0, 255, []⟩,
  ⟨.COEF_STATE, 0x4000, 32, 0x04, 1, .u8, .ro, .observer, .value, 0, 255, []⟩,
  ⟨.COEF_PENDING, 0x4000, 32, 0x05, 1, .u8, .ro, .observer, .value, 0, 255, []⟩,
  ⟨.COEF_FADE, 0x4000, 32, 0x06, 1, .u16, .rw, .engineer, .value, 2, 256, []⟩,
  ⟨.SWAP_COUNT, 0x4000, 32, 0x07, 1, .u32, .ro, .observer, .value, 0, 4294967295, []⟩,
  ⟨.SWAP_DEFERRED, 0x4000, 32, 0x08, 1, .u32, .ro, .observer, .value, 0, 4294967295, []⟩,
  ⟨.SWAP_REPLACED, 0x4000, 32, 0x09, 1, .u32, .ro, .observer, .value, 0, 4294967295, []⟩,
  ⟨.NOTCH_MODE, 0x4000, 32, 0x0A, 1, .u8, .rw, .engineer, .value, 0, 3, []⟩,
  ⟨.DCB_ENABLE, 0x4000, 32, 0x0B, 1, .u16, .rw, .engineer, .value, 0, 65535, []⟩,
  ⟨.DCB_FREEZE, 0x4000, 32, 0x0C, 1, .u16, .rw, .operator, .value, 0, 65535, []⟩]

/-- Rows 180 to 239 of the object tables, in the order of the chapters. -/
def objTable3 : List ObjInfo := [
  ⟨.DCB_AUTO_FREEZE, 0x4000, 32, 0x0D, 1, .bool, .rw, .engineer, .value, 0, 1, []⟩,
  ⟨.LANE_TRIM, 0x4000, 32, 0x0E, 1, .i32, .rw, .service, .value, (-2147483648), 2147483647, []⟩,
  ⟨.RESIDUE_ERRORS, 0x4000, 32, 0x0F, 1, .u32, .ro, .observer, .value, 0, 4294967295, []⟩,
  ⟨.COEF_PARITY_ERRORS, 0x4000, 32, 0x10, 1, .u32, .ro, .observer, .value, 0, 4294967295, []⟩,
  ⟨.DRAINS_ABANDONED, 0x4000, 32, 0x11, 1, .u32, .ro, .observer, .value, 0, 4294967295, []⟩,
  ⟨.LANE_CAUSE, 0x4000, 32, 0x12, 1, .u32, .ro, .observer, .value, 0, 4294967295, []⟩,
  ⟨.LANE_CAUSE_CLEAR, 0x4000, 32, 0x13, 1, .u32, .cmd, .operator, .dash, 0, 4294967295, []⟩,
  ⟨.PRIME_END, 0x4000, 32, 0x14, 1, .u64, .ro, .observer, .value, 0, 18446744073709551615, []⟩,
  ⟨.PRESET_i, 0x4000, 32, 0x20, 16, .u8, .rw, .engineer, .value, 0, 4, []⟩,
  ⟨.DCB_SHIFT_i, 0x4000, 32, 0x30, 16, .u8, .rw, .engineer, .value, 4, 24, []⟩,
  ⟨.DCB_ESTIMATE_i, 0x4000, 32, 0x40, 16, .i32, .ro, .observer, .value, (-2147483648), 2147483647, []⟩,
  ⟨.CLIP_COUNT_i, 0x4000, 32, 0x50, 16, .u32, .ro, .observer, .value, 0, 4294967295, []⟩,
  ⟨.FD_MU_i, 0x4000, 32, 0x60, 16, .u32, .ro, .observer, .value, 0, 4294967295, []⟩,
  ⟨.FD_MU_SPARE, 0x4000, 32, 0x70, 1, .u32, .ro, .observer, .value, 0, 4294967295, []⟩,
  ⟨.COEF_p, 0x4040, 64, 0x01, 5, .blob, .rw, .engineer, .production, 0, 0, []⟩,
  ⟨.COEF_CRC, 0x4040, 64, 0x06, 1, .u32, .ro, .observer, .production, 0, 4294967295, []⟩,
  ⟨.COEF_LABEL, 0x4040, 64, 0x07, 1, .u32, .rw, .engineer, .value, 0, 4294967295, []⟩,
  ⟨.RESIDUE_LIMIT, 0x4080, 1, 0x01, 1, .u8, .rw, .engineer, .value, 1, 255, []⟩,
  ⟨.PRIME_SAMPLES, 0x4080, 1, 0x02, 1, .u8, .ro, .observer, .value, 0, 255, []⟩,
  ⟨.TRIG_COND, 0x4800, 16, 0x01, 1, .u8, .rw, .engineer, .value, 0, 6, []⟩,
  ⟨.TRIG_SOURCE, 0x4800, 16, 0x02, 1, .u16, .rw, .engineer, .value, 0, 511, []⟩,
  ⟨.TRIG_EDGE, 0x4800, 16, 0x03, 1, .u8, .rw, .engineer, .value, 0, 2, []⟩,
  ⟨.LEVEL_A, 0x4800, 16, 0x04, 1, .i32, .rw, .engineer, .value, (-2147483648), 2147483647, []⟩,
  ⟨.LEVEL_B, 0x4800, 16, 0x05, 1, .i32, .rw, .engineer, .value, (-2147483648), 2147483647, []⟩,
  ⟨.HYST, 0x4800, 16, 0x06, 1, .u32, .rw, .engineer, .value, 0, 8388608, []⟩,
  ⟨.TIME_A, 0x4800, 16, 0x07, 1, .u32, .rw, .engineer, .value, 0, 4294967295, []⟩,
  ⟨.TIME_B, 0x4800, 16, 0x08, 1, .u32, .rw, .engineer, .value, 0, 4294967295, []⟩,
  ⟨.PW_QUAL, 0x4800, 16, 0x09, 1, .u8, .rw, .engineer, .value, 0, 3, []⟩,
  ⟨.SLEW_LIMIT, 0x4800, 16, 0x0A, 1, .u32, .rw, .engineer, .value, 0, 4294967295, []⟩,
  ⟨.BCAST_OUT, 0x4800, 16, 0x0B, 1, .u8, .rw, .engineer, .value, 0, 15, [255]⟩,
  ⟨.BCAST_IN, 0x4800, 16, 0x0C, 1, .u16, .rw, .engineer, .value, 0, 65535, []⟩,
  ⟨.CAP_REGION, 0x4800, 16, 0x0D, 1, .u8, .rw, .engineer, .value, 0, 15, [255]⟩,
  ⟨.CAP_FIRST, 0x4800, 16, 0x0E, 1, .u16, .rw, .engineer, .value, 0, 65535, []⟩,
  ⟨.CAP_COUNT, 0x4800, 16, 0x0F, 1, .u16, .rw, .engineer, .value, 1, 512, []⟩,
  ⟨.CAP_PRE, 0x4800, 16, 0x10, 1, .u32, .rw, .engineer, .value, 0, 4294967295, []⟩,
  ⟨.CAP_POST, 0x4800, 16, 0x11, 1, .u32, .rw, .engineer, .value, 1, 4294967295, []⟩,
  ⟨.CAP_MODE, 0x4800, 16, 0x12, 1, .u8, .rw, .engineer, .value, 0, 2, []⟩,
  ⟨.CAP_KEEP, 0x4800, 16, 0x13, 1, .bool, .rw, .engineer, .value, 0, 1, []⟩,
  ⟨.CAP_QUEUE, 0x4800, 16, 0x14, 1, .u8, .rw, .engineer, .value, 0, 15, [255]⟩,
  ⟨.REARM_SAMPLES, 0x4800, 16, 0x15, 1, .u32, .rw, .engineer, .value, 0, 4294967295, []⟩,
  ⟨.CAP_HIST, 0x4800, 16, 0x16, 1, .u8, .rw, .engineer, .value, 0, 15, [255]⟩,
  ⟨.CAP_PMAP, 0x4800, 16, 0x17, 1, .u8, .rw, .engineer, .value, 0, 3, [255]⟩,
  ⟨.CAP_STAT_INPUT, 0x4800, 16, 0x18, 1, .u16, .rw, .engineer, .value, 0, 65535, []⟩,
  ⟨.UNIT_STATE, 0x4800, 16, 0x19, 1, .u8, .ro, .observer, .value, 0, 255, []⟩,
  ⟨.CAP_MODE_NOW, 0x4800, 16, 0x1A, 1, .u8, .ro, .observer, .value, 0, 255, []⟩,
  ⟨.TRIG_FORCE, 0x4800, 16, 0x1B, 1, .u8, .cmd, .operator, .dash, 0, 255, []⟩,
  ⟨.CAP_RELEASE, 0x4800, 16, 0x1C, 1, .u8, .cmd, .operator, .dash, 0, 255, []⟩,
  ⟨.FIRE_COUNT, 0x4800, 16, 0x1D, 1, .u32, .ro, .observer, .value, 0, 4294967295, []⟩,
  ⟨.ACCEPT_COUNT, 0x4800, 16, 0x1E, 1, .u32, .ro, .observer, .value, 0, 4294967295, []⟩,
  ⟨.EARLY_COUNT, 0x4800, 16, 0x1F, 1, .u32, .ro, .observer, .value, 0, 4294967295, []⟩,
  ⟨.REARM_COUNT, 0x4800, 16, 0x20, 1, .u32, .ro, .observer, .value, 0, 4294967295, []⟩,
  ⟨.LATE_COUNT, 0x4800, 16, 0x21, 1, .u32, .ro, .observer, .value, 0, 4294967295, []⟩,
  ⟨.SKIP_COUNT, 0x4800, 16, 0x22, 1, .u32, .ro, .observer, .value, 0, 4294967295, []⟩,
  ⟨.LOST_COUNT, 0x4800, 16, 0x23, 1, .u32, .ro, .observer, .value, 0, 4294967295, []⟩,
  ⟨.LAST_TRIGGER, 0x4800, 16, 0x24, 1, .u64, .ro, .observer, .value, 0, 18446744073709551615, []⟩,
  ⟨.CAP_HEADER, 0x4800, 16, 0x25, 1, .blob, .ro, .observer, .value, 0, 0, []⟩,
  ⟨.UNIT_CAUSE, 0x4800, 16, 0x26, 1, .u32, .ro, .observer, .value, 0, 4294967295, []⟩,
  ⟨.UNIT_CAUSE_CLEAR, 0x4800, 16, 0x27, 1, .u32, .cmd, .operator, .dash, 0, 4294967295, []⟩,
  ⟨.UNIT_BAD_FIELD, 0x4800, 16, 0x28, 1, .u8, .ro, .observer, .value, 0, 255, []⟩,
  ⟨.CAP_HELD, 0x4800, 16, 0x29, 1, .u32, .ro, .observer, .value, 0, 4294967295, []⟩]

/-- Rows 240 to 299 of the object tables, in the order of the chapters. -/
def objTable4 : List ObjInfo := [
  ⟨.AVG_N, 0x5000, 32, 0x01, 1, .u16, .rw, .engineer, .value, 2, 4096, []⟩,
  ⟨.AVG_MIN_USED, 0x5000, 32, 0x02, 1, .u16, .rw, .engineer, .value, 0, 65535, []⟩,
  ⟨.STAT_N, 0x5000, 32, 0x03, 1, .u32, .rw, .engineer, .value, 0, 4294967295, []⟩,
  ⟨.ALIGN, 0x5000, 32, 0x04, 1, .u8, .rw, .engineer, .value, 0, 1, []⟩,
  ⟨.BLOCKS, 0x5000, 32, 0x05, 1, .u32, .ro, .observer, .value, 0, 4294967295, []⟩,
  ⟨.BLOCKS_VERBATIM, 0x5000, 32, 0x06, 1, .u32, .ro, .observer, .value, 0, 4294967295, []⟩,
  ⟨.BITS_IN, 0x5000, 32, 0x07, 1, .u64, .ro, .observer, .value, 0, 18446744073709551615, []⟩,
  ⟨.BITS_OUT, 0x5000, 32, 0x08, 1, .u64, .ro, .observer, .value, 0, 18446744073709551615, []⟩,
  ⟨.VERIFY_FAILS, 0x5000, 32, 0x09, 1, .u32, .ro, .observer, .value, 0, 4294967295, []⟩,
  ⟨.STREAM_DROPPED, 0x5000, 32, 0x0A, 1, .u32, .ro, .observer, .value, 0, 4294967295, []⟩,
  ⟨.AVG_SHORT, 0x5000, 32, 0x0B, 1, .u32, .ro, .observer, .value, 0, 4294967295, []⟩,
  ⟨.OUT_SEL_i, 0x5000, 32, 0x10, 16, .u8, .rw, .engineer, .value, 0, 255, []⟩,
  ⟨.RIPEN_FLOOR_i, 0x5000, 32, 0x20, 16, .u8, .rw, .engineer, .value, 0, 255, []⟩,
  ⟨.RIPENED_i, 0x5000, 32, 0x30, 16, .u64, .ro, .observer, .value, 0, 18446744073709551615, []⟩,
  ⟨.HIST_ENABLE, 0x5020, 16, 0x01, 1, .bool, .rw, .engineer, .value, 0, 1, []⟩,
  ⟨.HIST_SOURCE, 0x5020, 16, 0x02, 1, .u16, .rw, .engineer, .value, 0, 65535, []⟩,
  ⟨.HIST_BASE, 0x5020, 16, 0x03, 1, .i32, .rw, .engineer, .value, (-2147483648), 2147483647, []⟩,
  ⟨.HIST_SHIFT, 0x5020, 16, 0x04, 1, .u8, .rw, .engineer, .value, 0, 14, []⟩,
  ⟨.HIST_WINDOW, 0x5020, 16, 0x05, 1, .u32, .rw, .engineer, .value, 0, 4294967295, []⟩,
  ⟨.HIST_EMIT, 0x5020, 16, 0x06, 1, .bool, .rw, .engineer, .value, 0, 1, []⟩,
  ⟨.HIST_CLOSE, 0x5020, 16, 0x07, 1, .u8, .cmd, .operator, .dash, 0, 255, []⟩,
  ⟨.HIST_STATE, 0x5020, 16, 0x08, 1, .u8, .ro, .observer, .value, 0, 255, []⟩,
  ⟨.HIST_FROM, 0x5020, 16, 0x09, 1, .u64, .ro, .observer, .value, 0, 18446744073709551615, []⟩,
  ⟨.HIST_TO, 0x5020, 16, 0x0A, 1, .u64, .ro, .observer, .value, 0, 18446744073709551615, []⟩,
  ⟨.HIST_UNDER, 0x5020, 16, 0x0B, 1, .u32, .ro, .observer, .value, 0, 4294967295, []⟩,
  ⟨.HIST_OVER, 0x5020, 16, 0x0C, 1, .u32, .ro, .observer, .value, 0, 4294967295, []⟩,
  ⟨.HIST_EXCLUDED, 0x5020, 16, 0x0D, 1, .u32, .ro, .observer, .value, 0, 4294967295, []⟩,
  ⟨.HIST_BINS, 0x5020, 16, 0x0E, 1, .blob, .ro, .observer, .value, 0, 0, []⟩,
  ⟨.HIST_CLOSES, 0x5020, 16, 0x0F, 1, .u32, .ro, .observer, .value, 0, 4294967295, []⟩,
  ⟨.PMAP_STATE, 0x5030, 4, 0x01, 1, .u8, .ro, .observer, .value, 0, 255, []⟩,
  ⟨.PMAP_CLEAR, 0x5030, 4, 0x02, 1, .u8, .cmd, .operator, .dash, 0, 255, []⟩,
  ⟨.PMAP_READOUT, 0x5030, 4, 0x03, 1, .u8, .cmd, .operator, .dash, 0, 255, []⟩,
  ⟨.PMAP_CAPTURES, 0x5030, 4, 0x04, 1, .u32, .ro, .observer, .value, 0, 4294967295, []⟩,
  ⟨.PMAP_MAX, 0x5030, 4, 0x05, 1, .u16, .ro, .observer, .value, 0, 65535, []⟩,
  ⟨.PMAP_PENDING, 0x5030, 4, 0x06, 1, .u8, .ro, .observer, .value, 0, 255, []⟩,
  ⟨.RIPEN_STATE, 0x5040, 1, 0x01, 1, .u8, .ro, .observer, .value, 0, 255, []⟩,
  ⟨.RIPEN_SEGMENT, 0x5040, 1, 0x02, 1, .u32, .ro, .observer, .value, 0, 4294967295, []⟩,
  ⟨.RIPEN_PENDING, 0x5040, 1, 0x03, 1, .u32, .ro, .observer, .value, 0, 4294967295, []⟩,
  ⟨.RIPEN_DONE, 0x5040, 1, 0x04, 1, .u32, .ro, .observer, .value, 0, 4294967295, []⟩,
  ⟨.RIPEN_BEHIND, 0x5040, 1, 0x05, 1, .u32, .ro, .observer, .value, 0, 4294967295, []⟩,
  ⟨.RIPEN_ABANDONED, 0x5040, 1, 0x06, 1, .u32, .ro, .observer, .value, 0, 4294967295, []⟩,
  ⟨.STREAM_QUEUE, 0x5041, 1, 0x01, 1, .u8, .rws, .engineer, .value, 0, 255, []⟩,
  ⟨.REDUCED_QUEUE, 0x5041, 1, 0x02, 1, .u8, .rws, .engineer, .value, 0, 255, []⟩,
  ⟨.STAT_QUEUE, 0x5041, 1, 0x03, 1, .u8, .rws, .engineer, .value, 0, 255, []⟩,
  ⟨.VERIFY_LIMIT, 0x5041, 1, 0x04, 1, .u8, .rw, .engineer, .value, 1, 255, []⟩,
  ⟨.PRESS_CAUSE, 0x5041, 1, 0x05, 1, .u32, .ro, .observer, .value, 0, 4294967295, []⟩,
  ⟨.PRESS_CAUSE_CLEAR, 0x5041, 1, 0x06, 1, .u32, .cmd, .operator, .dash, 0, 4294967295, []⟩,
  ⟨.PRESS_BAD_FIELD, 0x5041, 1, 0x07, 1, .u32, .ro, .observer, .value, 0, 4294967295, []⟩,
  ⟨.BUFFER_HIGH, 0x5041, 1, 0x08, 1, .u32, .ro, .observer, .value, 0, 4294967295, []⟩,
  ⟨.REDUCED_DROPPED, 0x5041, 1, 0x09, 1, .u32, .ro, .observer, .value, 0, 4294967295, []⟩,
  ⟨.QUEUE_DEPTH, 0x5800, 16, 0x01, 1, .u32, .rws, .engineer, .value, 4096, 2097152, []⟩,
  ⟨.QUEUE_FRAMING, 0x5800, 16, 0x02, 1, .u8, .rws, .engineer, .value, 0, 1, []⟩,
  ⟨.QUEUE_DRAIN, 0x5800, 16, 0x03, 1, .u8, .rws, .engineer, .value, 0, 2, []⟩,
  ⟨.QUEUE_E2E, 0x5800, 16, 0x04, 1, .bool, .rw, .engineer, .value, 0, 1, []⟩,
  ⟨.QUEUE_CONTROL, 0x5800, 16, 0x05, 1, .u32, .cmd, .engineer, .dash, 0, 4294967295, []⟩,
  ⟨.QUEUE_FILL, 0x5800, 16, 0x06, 1, .u32, .ro, .observer, .value, 0, 4294967295, []⟩,
  ⟨.QUEUE_PACKETS, 0x5800, 16, 0x07, 1, .u32, .ro, .observer, .value, 0, 4294967295, []⟩,
  ⟨.QUEUE_STATUS, 0x5800, 16, 0x08, 1, .u8, .ro, .observer, .value, 0, 255, []⟩,
  ⟨.QUEUE_HIGH_WATER, 0x5800, 16, 0x09, 1, .u32, .rw, .engineer, .value, 0, 4294967295, []⟩,
  ⟨.QUEUE_SEQ, 0x5800, 16, 0x0A, 1, .u32, .ro, .observer, .value, 0, 4294967295, []⟩]

/-- Rows 300 to 359 of the object tables, in the order of the chapters. -/
def objTable5 : List ObjInfo := [
  ⟨.QUEUE_READ, 0x5800, 16, 0x0B, 1, .blob, .ro, .operator, .dash, 0, 0, []⟩,
  ⟨.QUEUE_READ_WAIT, 0x5800, 16, 0x0C, 1, .u16, .rw, .operator, .value, 0, 10000, []⟩,
  ⟨.STREAM_ACK, 0x5800, 16, 0x0D, 1, .u32, .cmd, .operator, .dash, 0, 4294967295, []⟩,
  ⟨.ACKED_SEQ, 0x5800, 16, 0x0E, 1, .u32, .ro, .observer, .value, 0, 4294967295, []⟩,
  ⟨.FLUSHED_PACKETS, 0x5800, 16, 0x0F, 1, .u32, .ro, .observer, .value, 0, 4294967295, []⟩,
  ⟨.DROPPED_WORDS, 0x5800, 16, 0x10, 1, .u32, .ro, .observer, .value, 0, 4294967295, []⟩,
  ⟨.FENCED_DROPS, 0x5800, 16, 0x11, 1, .u32, .ro, .observer, .value, 0, 4294967295, []⟩,
  ⟨.MAX_FILL, 0x5800, 16, 0x12, 1, .u32, .ro, .observer, .value, 0, 4294967295, []⟩,
  ⟨.QC_CAUSE, 0x5810, 1, 0x01, 1, .u32, .ro, .observer, .value, 0, 4294967295, []⟩,
  ⟨.QC_CAUSE_CLEAR, 0x5810, 1, 0x02, 1, .u32, .cmd, .operator, .dash, 0, 4294967295, []⟩,
  ⟨.LOSS_SEQ, 0x5810, 1, 0x03, 1, .u32, .ro, .observer, .value, 0, 4294967295, []⟩,
  ⟨.CAVE_STATE, 0x5820, 1, 0x01, 1, .u8, .ro, .observer, .value, 0, 255, []⟩,
  ⟨.CAVE_FITTED, 0x5820, 1, 0x02, 1, .u32, .ro, .observer, .value, 0, 4294967295, []⟩,
  ⟨.STREAM_SEGMENTS, 0x5820, 1, 0x03, 1, .u32, .rws, .engineer, .value, 0, 4294967295, []⟩,
  ⟨.REGION_MIB, 0x5820, 1, 0x04, 1, .u32, .rws, .engineer, .value, 0, 4294967295, []⟩,
  ⟨.SPARE_MIB, 0x5820, 1, 0x05, 1, .u32, .ro, .observer, .value, 0, 4294967295, []⟩,
  ⟨.LAYOUT_BAD, 0x5820, 1, 0x06, 1, .u8, .ro, .observer, .value, 0, 255, []⟩,
  ⟨.CAVE_DISCARD, 0x5820, 1, 0x07, 1, .u8, .cmd, .service, .dash, 0, 255, []⟩,
  ⟨.ECC_CORRECTED, 0x5820, 1, 0x08, 1, .u64, .ro, .observer, .value, 0, 18446744073709551615, []⟩,
  ⟨.ECC_UNCORRECTABLE, 0x5820, 1, 0x09, 1, .u32, .ro, .observer, .value, 0, 4294967295, []⟩,
  ⟨.SCRUB_HOURS, 0x5820, 1, 0x0A, 1, .u16, .rw, .engineer, .value, 1, 720, []⟩,
  ⟨.PCRC_FAILS, 0x5820, 1, 0x0B, 1, .u32, .ro, .observer, .value, 0, 4294967295, []⟩,
  ⟨.OVERFLOW_POLICY, 0x5821, 1, 0x01, 1, .u8, .rw, .engineer, .value, 0, 1, []⟩,
  ⟨.RESERVE_SEGMENTS, 0x5821, 1, 0x02, 1, .u8, .ro, .observer, .value, 0, 255, []⟩,
  ⟨.RIPEN_LOW_WATER, 0x5821, 1, 0x03, 1, .u16, .rw, .engineer, .value, 0, 65535, []⟩,
  ⟨.SEG_FREE, 0x5821, 1, 0x04, 1, .u32, .ro, .observer, .value, 0, 4294967295, []⟩,
  ⟨.SEG_ACKED, 0x5821, 1, 0x05, 1, .u32, .ro, .observer, .value, 0, 4294967295, []⟩,
  ⟨.SEG_HELD, 0x5821, 1, 0x06, 1, .u32, .ro, .observer, .value, 0, 4294967295, []⟩,
  ⟨.UNACKED_BYTES, 0x5821, 1, 0x07, 1, .u64, .ro, .observer, .value, 0, 18446744073709551615, []⟩,
  ⟨.OLDEST_INDEX, 0x5821, 1, 0x08, 1, .u64, .ro, .observer, .value, 0, 18446744073709551615, []⟩,
  ⟨.WRITE_BYTES, 0x5821, 1, 0x09, 1, .u64, .ro, .observer, .value, 0, 18446744073709551615, []⟩,
  ⟨.LOST_RECLAIMED, 0x5821, 1, 0x0A, 1, .u64, .ro, .observer, .value, 0, 18446744073709551615, []⟩,
  ⟨.LOST_PRESS, 0x5821, 1, 0x0B, 1, .u64, .ro, .observer, .value, 0, 18446744073709551615, []⟩,
  ⟨.LOST_FENCE, 0x5821, 1, 0x0C, 1, .u64, .ro, .observer, .value, 0, 18446744073709551615, []⟩,
  ⟨.LOST_UNREADABLE, 0x5821, 1, 0x0D, 1, .u64, .ro, .observer, .value, 0, 18446744073709551615, []⟩,
  ⟨.LOST_DISCARD, 0x5821, 1, 0x0E, 1, .u64, .ro, .observer, .value, 0, 18446744073709551615, []⟩,
  ⟨.RIPEN_REQUESTS, 0x5821, 1, 0x0F, 1, .u32, .ro, .observer, .value, 0, 4294967295, []⟩,
  ⟨.LOST_WITHDRAWN, 0x5821, 1, 0x10, 1, .u64, .ro, .observer, .value, 0, 18446744073709551615, []⟩,
  ⟨.MARK_SET, 0x5830, 16, 0x01, 1, .u64, .cmd, .operator, .dash, 0, 18446744073709551615, []⟩,
  ⟨.MARK_INDEX, 0x5830, 16, 0x02, 1, .u64, .ro, .observer, .value, 0, 18446744073709551615, []⟩,
  ⟨.MARK_STATE, 0x5830, 16, 0x03, 1, .u8, .ro, .observer, .value, 0, 255, []⟩,
  ⟨.MARK_OVERTAKEN, 0x5830, 16, 0x04, 1, .u64, .ro, .observer, .value, 0, 18446744073709551615, []⟩,
  ⟨.MARK_CLEAR, 0x5830, 16, 0x05, 1, .u8, .cmd, .operator, .dash, 0, 255, []⟩,
  ⟨.MARK_RIPE, 0x5830, 16, 0x06, 1, .u8, .ro, .observer, .value, 0, 255, []⟩,
  ⟨.REPLAY_FROM, 0x5840, 1, 0x01, 1, .u64, .rw, .operator, .value, 0, 18446744073709551615, []⟩,
  ⟨.REPLAY_MARK, 0x5840, 1, 0x02, 1, .u8, .rw, .operator, .value, 0, 15, [255]⟩,
  ⟨.REPLAY_TO, 0x5840, 1, 0x03, 1, .u64, .rw, .operator, .value, 0, 18446744073709551615, []⟩,
  ⟨.REPLAY_DEST, 0x5840, 1, 0x04, 1, .u8, .rw, .operator, .value, 0, 15, [255]⟩,
  ⟨.REPLAY_QUEUES, 0x5840, 1, 0x05, 1, .u16, .rw, .operator, .value, 0, 65535, []⟩,
  ⟨.REPLAY_START, 0x5840, 1, 0x06, 1, .u8, .cmd, .operator, .dash, 0, 255, []⟩,
  ⟨.REPLAY_STOP, 0x5840, 1, 0x07, 1, .u8, .cmd, .operator, .dash, 0, 255, []⟩,
  ⟨.REPLAY_STATE, 0x5840, 1, 0x08, 1, .u8, .ro, .observer, .value, 0, 255, []⟩,
  ⟨.REPLAY_PACKETS, 0x5840, 1, 0x09, 1, .u64, .ro, .observer, .value, 0, 18446744073709551615, []⟩,
  ⟨.REPLAY_SKIPPED_TICKS, 0x5840, 1, 0x0A, 1, .u64, .ro, .observer, .value, 0, 18446744073709551615, []⟩,
  ⟨.REGION_OFFSET, 0x5850, 16, 0x01, 1, .u32, .rw, .operator, .value, 0, 4294967295, []⟩,
  ⟨.REGION_DATA, 0x5850, 16, 0x02, 1, .blob, .ro, .operator, .dash, 0, 0, []⟩,
  ⟨.LOST_i, 0x5880, 32, 0x10, 16, .u64, .ro, .observer, .value, 0, 18446744073709551615, []⟩,
  ⟨.LANE_ENABLE, 0x6000, 5, 0x01, 1, .bool, .rws, .engineer, .value, 0, 1, []⟩,
  ⟨.LANE_STATE, 0x6000, 5, 0x02, 1, .u8, .ro, .observer, .value, 0, 255, []⟩,
  ⟨.RX_INVERTED, 0x6000, 5, 0x03, 1, .bool, .ro, .observer, .value, 0, 1, []⟩]

/-- Rows 360 to 419 of the object tables, in the order of the chapters. -/
def objTable6 : List ObjInfo := [
  ⟨.RX_PHYS, 0x6000, 5, 0x04, 1, .u8, .ro, .observer, .value, 0, 255, []⟩,
  ⟨.FAR_ID, 0x6000, 5, 0x05, 1, .u32, .ro, .observer, .value, 0, 4294967295, []⟩,
  ⟨.FAR_VERSION, 0x6000, 5, 0x06, 1, .u16, .ro, .observer, .value, 0, 65535, []⟩,
  ⟨.TX_SWING, 0x6000, 5, 0x07, 1, .u8, .rw, .engineer, .value, 0, 7, []⟩,
  ⟨.TX_DEEMPH, 0x6000, 5, 0x08, 1, .u8, .rw, .engineer, .value, 0, 7, []⟩,
  ⟨.TX_PRE, 0x6000, 5, 0x09, 1, .u8, .rw, .engineer, .value, 0, 3, []⟩,
  ⟨.RX_ADAPT_STATE, 0x6000, 5, 0x0A, 1, .u8, .ro, .observer, .value, 0, 255, []⟩,
  ⟨.RX_CTLE, 0x6000, 5, 0x0B, 1, .u8, .ro, .observer, .value, 0, 255, []⟩,
  ⟨.RX_DFE, 0x6000, 5, 0x0C, 1, .blob, .ro, .observer, .value, 0, 0, []⟩,
  ⟨.HEADER_ERRORS, 0x6000, 5, 0x0D, 1, .u32, .ro, .observer, .value, 0, 4294967295, []⟩,
  ⟨.BSN_ERRORS, 0x6000, 5, 0x0E, 1, .u32, .ro, .observer, .value, 0, 4294967295, []⟩,
  ⟨.STUFF_ERRORS, 0x6000, 5, 0x0F, 1, .u32, .ro, .observer, .value, 0, 4294967295, []⟩,
  ⟨.STUFF_BITS, 0x6000, 5, 0x10, 1, .u64, .ro, .observer, .value, 0, 18446744073709551615, []⟩,
  ⟨.LOCK_LOSSES, 0x6000, 5, 0x11, 1, .u32, .ro, .observer, .value, 0, 4294967295, []⟩,
  ⟨.RETRIES, 0x6000, 5, 0x12, 1, .u32, .ro, .observer, .value, 0, 4294967295, []⟩,
  ⟨.SKEW, 0x6000, 5, 0x13, 1, .u16, .ro, .observer, .value, 0, 65535, []⟩,
  ⟨.BRINGUP_TIME, 0x6000, 5, 0x14, 1, .u32, .ro, .observer, .value, 0, 4294967295, []⟩,
  ⟨.PAT_MODE, 0x6000, 5, 0x15, 1, .u8, .rw, .service, .value, 0, 8, []⟩,
  ⟨.PAT_USER, 0x6000, 5, 0x16, 1, .u32, .rw, .service, .value, 0, 4294967295, []⟩,
  ⟨.PAT_ERRORS, 0x6000, 5, 0x17, 1, .u64, .ro, .observer, .value, 0, 18446744073709551615, []⟩,
  ⟨.PAT_BITS, 0x6000, 5, 0x18, 1, .u64, .ro, .observer, .value, 0, 18446744073709551615, []⟩,
  ⟨.PAT_SYNC, 0x6000, 5, 0x19, 1, .bool, .ro, .observer, .value, 0, 1, []⟩,
  ⟨.LANE_TEST, 0x6000, 5, 0x1A, 1, .u8, .cmd, .service, .dash, 0, 255, []⟩,
  ⟨.INJECT, 0x6000, 5, 0x1B, 1, .u16, .cmd, .service, .dash, 0, 65535, []⟩,
  ⟨.INJECTED, 0x6000, 5, 0x1C, 1, .u32, .ro, .observer, .value, 0, 4294967295, []⟩,
  ⟨.PORT_STATE, 0x6008, 3, 0x01, 1, .u8, .ro, .observer, .value, 0, 255, []⟩,
  ⟨.PORT_POWER, 0x6008, 3, 0x02, 1, .u8, .rw, .engineer, .value, 0, 2, []⟩,
  ⟨.PORT_LANES, 0x6008, 3, 0x03, 1, .u8, .ro, .observer, .value, 0, 255, []⟩,
  ⟨.PORT_REVERSED, 0x6008, 3, 0x04, 1, .bool, .ro, .observer, .value, 0, 1, []⟩,
  ⟨.PORT_WAIT, 0x6008, 3, 0x05, 1, .u16, .rw, .engineer, .value, 100, 60000, []⟩,
  ⟨.BRINGUP_LIMIT, 0x6008, 3, 0x06, 1, .u16, .rw, .engineer, .value, 1000, 60000, []⟩,
  ⟨.FAULT_CODE, 0x6008, 3, 0x07, 1, .u8, .ro, .observer, .value, 0, 255, []⟩,
  ⟨.DROPS, 0x6008, 3, 0x08, 1, .u32, .ro, .observer, .value, 0, 4294967295, []⟩,
  ⟨.PORT_CHANGED, 0x6008, 3, 0x09, 1, .vt80, .ro, .observer, .value, 0, 18446744073709551615999999999, []⟩,
  ⟨.REFCLK_PRESENT, 0x600B, 1, 0x01, 1, .bool, .ro, .observer, .value, 0, 1, []⟩,
  ⟨.REFCLK_PPM, 0x600B, 1, 0x02, 1, .i32, .ro, .observer, .value, (-2147483648), 2147483647, []⟩,
  ⟨.LN_CAUSE, 0x600B, 1, 0x03, 1, .u32, .ro, .observer, .value, 0, 4294967295, []⟩,
  ⟨.LN_CAUSE_CLEAR, 0x600B, 1, 0x04, 1, .u32, .cmd, .operator, .dash, 0, 4294967295, []⟩,
  ⟨.LINK_STATE, 0x6010, 3, 0x01, 1, .u8, .ro, .observer, .value, 0, 255, []⟩,
  ⟨.LINK_FAIL_CAUSE, 0x6010, 3, 0x02, 1, .u8, .ro, .observer, .value, 0, 255, []⟩,
  ⟨.BCRC_ERRORS, 0x6010, 3, 0x03, 1, .u64, .ro, .observer, .value, 0, 18446744073709551615, []⟩,
  ⟨.FCRC_ERRORS, 0x6010, 3, 0x04, 1, .u32, .ro, .observer, .value, 0, 4294967295, []⟩,
  ⟨.FRAMES_STOMPED, 0x6010, 3, 0x05, 1, .u32, .ro, .observer, .value, 0, 4294967295, []⟩,
  ⟨.FRAMES_TX, 0x6010, 3, 0x06, 1, .u64, .ro, .observer, .value, 0, 18446744073709551615, []⟩,
  ⟨.FRAMES_RX, 0x6010, 3, 0x07, 1, .u64, .ro, .observer, .value, 0, 18446744073709551615, []⟩,
  ⟨.FRAMES_FORWARDED, 0x6010, 3, 0x08, 1, .u64, .ro, .observer, .value, 0, 18446744073709551615, []⟩,
  ⟨.TRANSIT_DROPS, 0x6010, 3, 0x09, 1, .u32, .ro, .observer, .value, 0, 4294967295, []⟩,
  ⟨.PAUSES_SENT, 0x6010, 3, 0x0A, 1, .u32, .ro, .observer, .value, 0, 4294967295, []⟩,
  ⟨.PAUSES_RECEIVED, 0x6010, 3, 0x0B, 1, .u32, .ro, .observer, .value, 0, 4294967295, []⟩,
  ⟨.PAUSED, 0x6010, 3, 0x0C, 1, .bool, .ro, .observer, .value, 0, 1, []⟩,
  ⟨.WRAPPED_FRAMES, 0x6010, 3, 0x0D, 1, .u64, .ro, .observer, .value, 0, 18446744073709551615, []⟩,
  ⟨.FAILURES, 0x6010, 3, 0x0E, 1, .u32, .ro, .observer, .value, 0, 4294967295, []⟩,
  ⟨.LINK_ERR_LIMIT, 0x6010, 3, 0x0F, 1, .u16, .rw, .engineer, .value, 1, 255, []⟩,
  ⟨.REJOIN_HOLD, 0x6010, 3, 0x10, 1, .u16, .rw, .engineer, .value, 10, 60000, []⟩,
  ⟨.TRANSIT_HIGH, 0x6010, 3, 0x11, 1, .u32, .ro, .observer, .value, 0, 4294967295, []⟩,
  ⟨.LINK_CHANGED, 0x6010, 3, 0x12, 1, .vt80, .ro, .observer, .value, 0, 18446744073709551615999999999, []⟩,
  ⟨.RING_POSITION, 0x6013, 1, 0x01, 1, .u8, .ro, .observer, .value, 0, 255, []⟩,
  ⟨.RING_SIZE, 0x6013, 1, 0x02, 1, .u8, .ro, .observer, .value, 0, 255, []⟩,
  ⟨.HOPS_EAST, 0x6013, 1, 0x03, 1, .u8, .ro, .observer, .value, 0, 255, []⟩,
  ⟨.HOPS_WEST, 0x6013, 1, 0x04, 1, .u8, .ro, .observer, .value, 0, 255, []⟩]

/-- Rows 420 to 479 of the object tables, in the order of the chapters. -/
def objTable7 : List ObjInfo := [
  ⟨.DATA_DIR, 0x6013, 1, 0x05, 1, .u8, .ro, .observer, .value, 0, 255, []⟩,
  ⟨.DIR_FORCE, 0x6013, 1, 0x06, 1, .u8, .rw, .engineer, .value, 0, 1, [255]⟩,
  ⟨.SPLIT_MASK, 0x6013, 1, 0x07, 1, .u32, .ro, .observer, .value, 0, 4294967295, []⟩,
  ⟨.FAILED_LINKS, 0x6013, 1, 0x08, 1, .u64, .ro, .observer, .value, 0, 18446744073709551615, []⟩,
  ⟨.BEACON_TIMEOUT, 0x6013, 1, 0x09, 1, .u16, .rw, .engineer, .value, 2, 1000, []⟩,
  ⟨.BEACON_SEQ, 0x6013, 1, 0x0A, 1, .u32, .ro, .observer, .value, 0, 4294967295, []⟩,
  ⟨.ENDPOINT_ID, 0x6013, 1, 0x0B, 1, .u32, .ro, .observer, .value, 0, 4294967295, []⟩,
  ⟨.RING_VERSION, 0x6013, 1, 0x0C, 1, .u16, .ro, .observer, .value, 0, 65535, []⟩,
  ⟨.RESEND_PENDING, 0x6013, 1, 0x0D, 1, .u8, .ro, .observer, .value, 0, 255, []⟩,
  ⟨.RESEND_REQUESTS, 0x6013, 1, 0x0E, 1, .u32, .ro, .observer, .value, 0, 4294967295, []⟩,
  ⟨.RESEND_PACKETS, 0x6013, 1, 0x0F, 1, .u64, .ro, .observer, .value, 0, 18446744073709551615, []⟩,
  ⟨.RESEND_GONE, 0x6013, 1, 0x10, 1, .u32, .ro, .observer, .value, 0, 4294967295, []⟩,
  ⟨.HOPS_DISCARDS, 0x6013, 1, 0x11, 1, .u32, .ro, .observer, .value, 0, 4294967295, []⟩,
  ⟨.RL_CAUSE, 0x6013, 1, 0x12, 1, .u32, .ro, .observer, .value, 0, 4294967295, []⟩,
  ⟨.RL_CAUSE_CLEAR, 0x6013, 1, 0x13, 1, .u32, .cmd, .operator, .dash, 0, 4294967295, []⟩,
  ⟨.RT_ROLE, 0x6810, 1, 0x01, 1, .u8, .ro, .observer, .value, 0, 255, []⟩,
  ⟨.RT_PRIORITY, 0x6810, 1, 0x02, 1, .u8, .rw, .engineer, .value, 0, 255, []⟩,
  ⟨.RT_GM, 0x6810, 1, 0x03, 1, .u16, .ro, .observer, .value, 0, 65535, []⟩,
  ⟨.RT_GM_HOLD, 0x6810, 1, 0x04, 1, .bool, .ro, .observer, .value, 0, 1, []⟩,
  ⟨.RT_PATHS, 0x6810, 1, 0x05, 1, .u8, .ro, .observer, .value, 0, 255, []⟩,
  ⟨.RT_PATH_DIFF, 0x6810, 1, 0x06, 1, .i64, .ro, .observer, .value, (-9223372036854775808), 9223372036854775807, []⟩,
  ⟨.RT_DSUM_ERR, 0x6810, 1, 0x07, 1, .i64, .ro, .observer, .value, (-9223372036854775808), 9223372036854775807, []⟩,
  ⟨.RT_LOOP_E, 0x6810, 1, 0x08, 1, .i64, .ro, .observer, .value, (-9223372036854775808), 9223372036854775807, []⟩,
  ⟨.RT_LOOP_W, 0x6810, 1, 0x09, 1, .i64, .ro, .observer, .value, (-9223372036854775808), 9223372036854775807, []⟩,
  ⟨.RT_RING_ASYM, 0x6810, 1, 0x0A, 1, .i64, .ro, .observer, .value, (-9223372036854775808), 9223372036854775807, []⟩,
  ⟨.RT_FAULT, 0x6810, 1, 0x0B, 1, .u8, .ro, .observer, .value, 0, 255, []⟩,
  ⟨.RT_FAULT_CLEAR, 0x6810, 1, 0x0C, 1, .u8, .cmd, .engineer, .dash, 0, 255, []⟩,
  ⟨.ASYM_LIMIT, 0x6810, 1, 0x0D, 1, .u32, .rw, .engineer, .value, 500, 1000000, []⟩,
  ⟨.DSUM_LIMIT, 0x6810, 1, 0x0E, 1, .u32, .rw, .engineer, .value, 500, 1000000, []⟩,
  ⟨.ASYM_CYCLES, 0x6810, 1, 0x0F, 1, .u8, .rw, .engineer, .value, 1, 100, []⟩,
  ⟨.ASYM_CLEAR, 0x6810, 1, 0x10, 1, .u16, .rw, .engineer, .value, 1, 1000, []⟩,
  ⟨.DELAY_STEP_LIMIT, 0x6810, 1, 0x11, 1, .u32, .rw, .engineer, .value, 1000, 1000000, []⟩,
  ⟨.GM_TIMEOUT, 0x6810, 1, 0x12, 1, .u16, .rw, .engineer, .value, 32, 1000, []⟩,
  ⟨.RT_OWN_OFFSET, 0x6810, 1, 0x13, 1, .i64, .ro, .observer, .value, (-9223372036854775808), 9223372036854775807, []⟩,
  ⟨.RT_CANDIDATES, 0x6810, 1, 0x14, 1, .u8, .ro, .observer, .value, 0, 255, []⟩,
  ⟨.RT_SYNC_SEQ, 0x6810, 1, 0x15, 1, .u16, .ro, .observer, .value, 0, 65535, []⟩,
  ⟨.DELAY_STATE, 0x6814, 3, 0x01, 1, .u8, .ro, .observer, .value, 0, 255, []⟩,
  ⟨.LINK_DELAY, 0x6814, 3, 0x02, 1, .i64, .ro, .observer, .value, (-9223372036854775808), 9223372036854775807, []⟩,
  ⟨.LINK_DELAY_PREV, 0x6814, 3, 0x03, 1, .i64, .ro, .observer, .value, (-9223372036854775808), 9223372036854775807, []⟩,
  ⟨.DELAY_RAW, 0x6814, 3, 0x04, 1, .i64, .ro, .observer, .value, (-9223372036854775808), 9223372036854775807, []⟩,
  ⟨.DELAY_STEPS, 0x6814, 3, 0x05, 1, .u32, .ro, .observer, .value, 0, 4294967295, []⟩,
  ⟨.ASYM_CORR, 0x6814, 3, 0x06, 1, .i64, .rw, .engineer, .value, (-655360000), 655360000, []⟩,
  ⟨.TIMING_LANE, 0x6814, 3, 0x07, 1, .u8, .ro, .observer, .value, 0, 255, []⟩,
  ⟨.PORT_OFFSET, 0x6814, 3, 0x08, 1, .i64, .ro, .observer, .value, (-9223372036854775808), 9223372036854775807, []⟩,
  ⟨.SYNC_USED, 0x6814, 3, 0x09, 1, .u32, .ro, .observer, .value, 0, 4294967295, []⟩,
  ⟨.SYNC_UNUSABLE, 0x6814, 3, 0x0A, 1, .u32, .ro, .observer, .value, 0, 4294967295, []⟩,
  ⟨.DRESP_MISSED, 0x6814, 3, 0x0B, 1, .u32, .ro, .observer, .value, 0, 4294967295, []⟩,
  ⟨.TWIN_ENABLE, 0x7000, 1, 0x01, 1, .bool, .rws, .engineer, .value, 0, 1, []⟩,
  ⟨.TWIN_SIDE, 0x7000, 1, 0x02, 1, .u8, .rws, .service, .value, 0, 1, []⟩,
  ⟨.TWIN_PREFER, 0x7000, 1, 0x03, 1, .u8, .rws, .engineer, .value, 0, 1, []⟩,
  ⟨.WITNESS_ADDR, 0x7000, 1, 0x04, 1, .u16, .rw, .engineer, .value, 0, 511, []⟩,
  ⟨.LEASE_TERM, 0x7000, 1, 0x05, 1, .u16, .rw, .engineer, .value, 256, 32768, []⟩,
  ⟨.HB_PERIOD, 0x7000, 1, 0x06, 1, .u16, .rw, .engineer, .value, 8, 256, []⟩,
  ⟨.HB_TIMEOUT, 0x7000, 1, 0x07, 1, .u16, .rw, .engineer, .value, 0, 65535, []⟩,
  ⟨.WITNESS_RENEW, 0x7000, 1, 0x08, 1, .u16, .rw, .engineer, .value, 0, 65535, []⟩,
  ⟨.TWIN_STATE, 0x7000, 1, 0x09, 1, .u8, .ro, .observer, .value, 0, 255, []⟩,
  ⟨.PARTNER_STATE, 0x7000, 1, 0x0A, 1, .u8, .ro, .observer, .value, 0, 255, []⟩,
  ⟨.LEASE_SOURCE, 0x7000, 1, 0x0B, 1, .u8, .ro, .observer, .value, 0, 255, []⟩,
  ⟨.LEASE_EXPIRY, 0x7000, 1, 0x0C, 1, .u64, .ro, .observer, .value, 0, 18446744073709551615, []⟩,
  ⟨.CLAIM_AT, 0x7000, 1, 0x0D, 1, .u64, .ro, .observer, .value, 0, 18446744073709551615, []⟩]

/-- Rows 480 to 539 of the object tables, in the order of the chapters. -/
def objTable8 : List ObjInfo := [
  ⟨.TWIN_SWITCH, 0x7000, 1, 0x0E, 1, .u8, .cmd, .operator, .dash, 0, 255, []⟩,
  ⟨.SWITCH_INDEX, 0x7000, 1, 0x0F, 1, .u64, .ro, .observer, .value, 0, 18446744073709551615, []⟩,
  ⟨.SWITCH_COUNT, 0x7000, 1, 0x10, 1, .u32, .ro, .observer, .value, 0, 4294967295, []⟩,
  ⟨.STANDDOWN_COUNT, 0x7000, 1, 0x11, 1, .u32, .ro, .observer, .value, 0, 4294967295, []⟩,
  ⟨.HB_LOSSES, 0x7000, 1, 0x12, 1, .u32, .ro, .observer, .value, 0, 4294967295, []⟩,
  ⟨.COMP_UNCONFIRMED, 0x7000, 1, 0x13, 1, .u32, .ro, .observer, .value, 0, 4294967295, []⟩,
  ⟨.TWIN_ADOPT, 0x7000, 1, 0x14, 1, .bool, .rw, .engineer, .value, 0, 1, []⟩,
  ⟨.SYNC_REMAINING, 0x7000, 1, 0x15, 1, .u64, .ro, .observer, .value, 0, 18446744073709551615, []⟩,
  ⟨.HISTORY_GAP, 0x7000, 1, 0x16, 1, .u64, .ro, .observer, .value, 0, 18446744073709551615, []⟩,
  ⟨.TWIN_TIME_LIMIT, 0x7000, 1, 0x17, 1, .u32, .rw, .engineer, .value, 10, 10000, []⟩,
  ⟨.TWIN_CAUSE, 0x7000, 1, 0x18, 1, .u32, .ro, .observer, .value, 0, 4294967295, []⟩,
  ⟨.TWIN_CAUSE_CLEAR, 0x7000, 1, 0x19, 1, .u32, .cmd, .operator, .dash, 0, 4294967295, []⟩,
  ⟨.TWIN_DIGEST, 0x7000, 1, 0x1A, 1, .u32, .ro, .observer, .value, 0, 4294967295, []⟩,
  ⟨.WIT_TWIN, 0x7010, 8, 0x01, 1, .u16, .ro, .observer, .value, 0, 65535, []⟩,
  ⟨.WIT_HOLDER, 0x7010, 8, 0x02, 1, .u8, .ro, .observer, .value, 0, 255, []⟩,
  ⟨.WIT_GRANT_END, 0x7010, 8, 0x03, 1, .u64, .ro, .observer, .value, 0, 18446744073709551615, []⟩,
  ⟨.WIT_GRANTS, 0x7010, 8, 0x04, 1, .u32, .ro, .observer, .value, 0, 4294967295, []⟩,
  ⟨.WIT_REFUSALS, 0x7010, 8, 0x05, 1, .u32, .ro, .observer, .value, 0, 4294967295, []⟩,
  ⟨.WITNESS_ENABLE, 0x7018, 1, 0x01, 1, .bool, .rw, .engineer, .value, 0, 1, []⟩,
  ⟨.WIT_NO_SLOT, 0x7018, 1, 0x02, 1, .u32, .ro, .observer, .value, 0, 4294967295, []⟩,
  ⟨.STAGED_COUNT, 0x1010, 1, 0x01, 1, .u16, .ro, .observer, .value, 0, 65535, []⟩,
  ⟨.STAGED_DIGEST, 0x1010, 1, 0x02, 1, .u32, .ro, .observer, .dash, 0, 4294967295, []⟩,
  ⟨.CFG_DIGEST, 0x1010, 1, 0x03, 1, .u32, .ro, .observer, .dash, 0, 4294967295, []⟩,
  ⟨.COMMIT_NOW, 0x1010, 1, 0x04, 1, .u32, .cmd, .engineer, .dash, 0, 4294967295, []⟩,
  ⟨.COMMIT_ARM, 0x1010, 1, 0x05, 1, .blob, .cmd, .engineer, .dash, 0, 0, []⟩,
  ⟨.COMMIT_CANCEL, 0x1010, 1, 0x06, 1, .u64, .cmd, .engineer, .dash, 0, 18446744073709551615, []⟩,
  ⟨.STAGE_DISCARD, 0x1010, 1, 0x07, 1, .none, .cmd, .engineer, .dash, 0, 0, []⟩,
  ⟨.ARMED_INDEX, 0x1010, 1, 0x08, 1, .u64, .ro, .observer, .value, 0, 18446744073709551615, []⟩,
  ⟨.ARMED_DIGEST, 0x1010, 1, 0x09, 1, .u32, .ro, .observer, .value, 0, 4294967295, []⟩,
  ⟨.LAST_COMMIT_INDEX, 0x1010, 1, 0x0A, 1, .u64, .ro, .observer, .value, 0, 18446744073709551615, []⟩,
  ⟨.COMMIT_COUNT, 0x1010, 1, 0x0B, 1, .u32, .ro, .observer, .value, 0, 4294967295, []⟩,
  ⟨.COMMIT_REFUSALS, 0x1010, 1, 0x0C, 1, .u32, .ro, .observer, .value, 0, 4294967295, []⟩,
  ⟨.STAGE_BYTES, 0x1010, 1, 0x0D, 1, .u32, .ro, .observer, .value, 0, 4294967295, []⟩,
  ⟨.COMMIT_PARTS_REFUSED, 0x1010, 1, 0x0E, 1, .u32, .ro, .observer, .value, 0, 4294967295, []⟩,
  ⟨.RESTORE_DEFAULTS, 0x1010, 1, 0x0F, 1, .none, .cmd, .engineer, .dash, 0, 0, []⟩,
  ⟨.CFG_SAVE, 0x1010, 1, 0x10, 1, .none, .cmd, .engineer, .dash, 0, 0, []⟩,
  ⟨.CFG_SAVED_DIGEST, 0x1010, 1, 0x11, 1, .u32, .ro, .observer, .value, 0, 4294967295, []⟩,
  ⟨.STAGED_DEFAULTS, 0x1010, 1, 0x12, 1, .bool, .ro, .observer, .value, 0, 1, []⟩,
  ⟨.ETH_MODE, 0x1100, 1, 0x01, 1, .u8, .rws, .engineer, .value, 0, 3, []⟩,
  ⟨.MAC_ADDRESS, 0x1100, 1, 0x02, 1, .u64, .ro, .observer, .production, 0, 18446744073709551615, []⟩,
  ⟨.IP_ADDRESS, 0x1100, 1, 0x03, 1, .u32, .rws, .engineer, .value, 0, 4294967295, []⟩,
  ⟨.IP_NETMASK, 0x1100, 1, 0x04, 1, .u32, .rws, .engineer, .value, 0, 4294967295, []⟩,
  ⟨.IP_GATEWAY, 0x1100, 1, 0x05, 1, .u32, .rws, .engineer, .value, 0, 4294967295, []⟩,
  ⟨.ACCESS_PORT, 0x1100, 1, 0x06, 1, .u16, .rws, .engineer, .value, 1024, 65535, []⟩,
  ⟨.ETH_LINK, 0x1100, 1, 0x07, 1, .u8, .ro, .observer, .value, 0, 255, []⟩,
  ⟨.ETH_RX_DROPPED, 0x1100, 1, 0x08, 1, .u32, .ro, .observer, .value, 0, 4294967295, []⟩,
  ⟨.SPI_ENABLE, 0x1120, 1, 0x01, 1, .bool, .rws, .engineer, .value, 0, 1, []⟩,
  ⟨.SPI_ERRORS, 0x1120, 1, 0x02, 1, .u32, .ro, .observer, .value, 0, 4294967295, []⟩,
  ⟨.SESSION_IDLE, 0x1130, 1, 0x01, 1, .u16, .rw, .engineer, .value, 5, 3600, []⟩,
  ⟨.ACCESS_PATHS, 0x1130, 1, 0x02, 1, .u8, .rw, .service, .value, 0, 7, []⟩,
  ⟨.SESSIONS_OPEN, 0x1130, 1, 0x03, 1, .u8, .ro, .observer, .value, 0, 255, []⟩,
  ⟨.AUTH_FAILS, 0x1130, 1, 0x04, 1, .u32, .ro, .observer, .value, 0, 4294967295, []⟩,
  ⟨.SEQ_REJECTS, 0x1130, 1, 0x05, 1, .u32, .ro, .observer, .value, 0, 4294967295, []⟩,
  ⟨.PATH_DROPS, 0x1130, 1, 0x06, 1, .u32, .ro, .observer, .value, 0, 4294967295, []⟩,
  ⟨.MESSAGES, 0x1130, 1, 0x07, 1, .u64, .ro, .observer, .value, 0, 18446744073709551615, []⟩,
  ⟨.JRN_HEAD, 0x1200, 1, 0x01, 1, .u32, .ro, .observer, .dash, 0, 4294967295, []⟩,
  ⟨.JRN_OLDEST, 0x1200, 1, 0x02, 1, .u32, .ro, .observer, .dash, 0, 4294967295, []⟩,
  ⟨.JRN_HOST_MARK, 0x1200, 1, 0x03, 1, .u32, .rw, .operator, .value, 0, 4294967295, []⟩,
  ⟨.JRN_ALERT, 0x1200, 1, 0x04, 1, .u32, .rw, .engineer, .value, 1024, 64512, []⟩,
  ⟨.JRN_MIRROR, 0x1200, 1, 0x05, 1, .bool, .rw, .engineer, .value, 0, 1, []⟩]

/-- Rows 540 to 599 of the object tables, in the order of the chapters. -/
def objTable9 : List ObjInfo := [
  ⟨.JRN_MIRROR_STATE, 0x1200, 1, 0x06, 1, .u8, .ro, .observer, .value, 0, 255, []⟩,
  ⟨.JRN_REPAIRED, 0x1200, 1, 0x07, 1, .u32, .ro, .observer, .value, 0, 4294967295, []⟩,
  ⟨.JRN_FAULTS, 0x1200, 1, 0x08, 1, .u32, .ro, .observer, .value, 0, 4294967295, []⟩,
  ⟨.JRN_BOOTS, 0x1200, 1, 0x09, 1, .u32, .ro, .observer, .value, 0, 4294967295, []⟩,
  ⟨.STATE_SUMMARY, 0x1201, 1, 0x01, 1, .blob, .ro, .observer, .dash, 0, 0, []⟩,
  ⟨.JRN_PAGE_p, 0x1220, 4, 0x00, 256, .blob, .ro, .observer, .dash, 0, 0, []⟩,
  ⟨.LOCK_n, 0x1300, 1, 0x00, 32, .u8, .ro, .operator, .value, 0, 255, []⟩,
  ⟨.LOCK_RELEASE, 0x1301, 1, 0x01, 1, .u8, .cmd, .operator, .dash, 0, 255, []⟩,
  ⟨.LOCK_FORCE, 0x1301, 1, 0x02, 1, .u8, .cmd, .service, .dash, 0, 255, []⟩,
  ⟨.LOCK_TIMEOUT, 0x1301, 1, 0x03, 1, .u32, .rw, .engineer, .value, 32768, 2147483648, []⟩,
  ⟨.LOCK_RENEW, 0x1301, 1, 0x04, 1, .bool, .rw, .engineer, .value, 0, 1, []⟩,
  ⟨.LOCK_EXPIRED, 0x1301, 1, 0x05, 1, .u32, .ro, .observer, .value, 0, 4294967295, []⟩,
  ⟨.LOCK_CONTESTED, 0x1301, 1, 0x06, 1, .u32, .ro, .observer, .value, 0, 4294967295, []⟩,
  ⟨.MBX_OPEN, 0x1310, 8, 0x01, 1, .u8, .cmd, .operator, .dash, 0, 255, []⟩,
  ⟨.MBX_CLOSE, 0x1310, 8, 0x02, 1, .none, .cmd, .operator, .dash, 0, 0, []⟩,
  ⟨.MBX_STATE, 0x1310, 8, 0x03, 1, .u8, .ro, .observer, .value, 0, 255, []⟩,
  ⟨.MBX_OWNER, 0x1310, 8, 0x04, 1, .u8, .ro, .observer, .value, 0, 255, []⟩,
  ⟨.MBX_SERVICE, 0x1310, 8, 0x05, 1, .u8, .ro, .observer, .value, 0, 255, []⟩,
  ⟨.MBX_POST, 0x1310, 8, 0x06, 1, .blob, .cmd, .operator, .dash, 0, 0, []⟩,
  ⟨.MBX_TAKE, 0x1310, 8, 0x07, 1, .blob, .ro, .operator, .dash, 0, 0, []⟩,
  ⟨.MBX_ACK_RX, 0x1310, 8, 0x08, 1, .u16, .cmd, .operator, .dash, 0, 65535, []⟩,
  ⟨.MBX_ACK_TX, 0x1310, 8, 0x09, 1, .u16, .ro, .observer, .value, 0, 65535, []⟩,
  ⟨.MBX_EMPTY_ARM, 0x1310, 8, 0x0A, 1, .none, .cmd, .operator, .dash, 0, 0, []⟩,
  ⟨.MBX_FILL, 0x1310, 8, 0x0B, 1, .u8, .ro, .observer, .value, 0, 255, []⟩,
  ⟨.MBX_TX_DATA, 0x1310, 8, 0x0C, 1, .blob, .wo, .operator, .dash, 0, 0, []⟩,
  ⟨.MBX_RX_DATA, 0x1310, 8, 0x0D, 1, .blob, .ro, .operator, .dash, 0, 0, []⟩,
  ⟨.MBX_POST_FULL, 0x1310, 8, 0x0E, 1, .u32, .ro, .observer, .value, 0, 4294967295, []⟩,
  ⟨.MBX_CROSSINGS, 0x1310, 8, 0x0F, 1, .u32, .ro, .observer, .value, 0, 4294967295, []⟩,
  ⟨.MBX_ACK_LATE, 0x1310, 8, 0x10, 1, .u32, .ro, .observer, .value, 0, 4294967295, []⟩,
  ⟨.MBX_ACK_TIMEOUT, 0x1318, 1, 0x01, 1, .u32, .rw, .engineer, .value, 1024, 2147483648, []⟩,
  ⟨.MBX_CROSS_TIMEOUT, 0x1318, 1, 0x02, 1, .u32, .rw, .engineer, .value, 1024, 2147483648, []⟩,
  ⟨.MJ_CAUSE, 0x1318, 1, 0x03, 1, .u32, .ro, .observer, .value, 0, 4294967295, []⟩,
  ⟨.MJ_CAUSE_CLEAR, 0x1318, 1, 0x04, 1, .u32, .cmd, .operator, .dash, 0, 4294967295, []⟩,
  ⟨.EV_ROUTE, 0x1400, 256, 0x01, 1, .u32, .rw, .engineer, .value, 0, 4294967295, []⟩,
  ⟨.EV_COUNT, 0x1400, 256, 0x02, 1, .u32, .ro, .observer, .value, 0, 4294967295, []⟩,
  ⟨.EV_LAST, 0x1400, 256, 0x03, 1, .vt80, .ro, .observer, .value, 0, 18446744073709551615999999999, []⟩,
  ⟨.EV_PENDING, 0x1400, 256, 0x04, 1, .bool, .ro, .observer, .value, 0, 1, []⟩,
  ⟨.EV_ACK, 0x1400, 256, 0x05, 1, .none, .cmd, .operator, .dash, 0, 0, []⟩,
  ⟨.EV_UNSENT, 0x1400, 256, 0x06, 1, .u32, .ro, .observer, .value, 0, 4294967295, []⟩,
  ⟨.IRQ_STATE, 0x1020, 1, 0x01, 1, .u8, .ro, .observer, .value, 0, 255, []⟩,
  ⟨.EV_PENDING_MAP, 0x1020, 1, 0x02, 1, .blob, .ro, .observer, .value, 0, 0, []⟩,
  ⟨.EV_ACK_MAP, 0x1020, 1, 0x03, 1, .blob, .cmd, .operator, .dash, 0, 0, []⟩,
  ⟨.IRQ_FIRST_k, 0x1020, 1, 0x04, 4, .u16, .ro, .observer, .value, 0, 65535, []⟩,
  ⟨.FENCED, 0x1780, 10, 0x01, 1, .u64, .ro, .observer, .value, 0, 18446744073709551615, []⟩,
  ⟨.FENCE_SET, 0x1780, 10, 0x02, 1, .u8, .cmd, .service, .dash, 0, 255, []⟩,
  ⟨.FENCE_LIFT, 0x1780, 10, 0x03, 1, .u8, .cmd, .service, .dash, 0, 255, []⟩,
  ⟨.FENCE_AUTO, 0x1780, 10, 0x04, 1, .bool, .rw, .engineer, .value, 0, 1, []⟩,
  ⟨.FENCE_ENTRIES, 0x1780, 10, 0x05, 1, .u32, .ro, .observer, .value, 0, 4294967295, []⟩,
  ⟨.FENCE_SUPPRESSED, 0x1780, 10, 0x06, 1, .u32, .ro, .observer, .value, 0, 4294967295, []⟩,
  ⟨.FENCE_LAST, 0x1780, 10, 0x07, 1, .u32, .ro, .observer, .value, 0, 4294967295, []⟩,
  ⟨.FENCE_VALUE, 0x178A, 1, 0x01, 1, .i32, .rw, .engineer, .value, (-8388608), 8388607, []⟩,
  ⟨.PARITY_LIMIT, 0x178A, 1, 0x02, 1, .u8, .rw, .engineer, .value, 1, 255, []⟩,
  ⟨.BUS_PARITY_ERRORS, 0x178A, 1, 0x03, 1, .u32, .ro, .observer, .value, 0, 4294967295, []⟩,
  ⟨.CURD_ECC_CORRECTED, 0x178A, 1, 0x04, 1, .u64, .ro, .observer, .value, 0, 18446744073709551615, []⟩,
  ⟨.CURD_ECC_UNCORRECTABLE, 0x178A, 1, 0x05, 1, .u32, .ro, .observer, .value, 0, 4294967295, []⟩,
  ⟨.MRAM_ECC_CORRECTED, 0x178A, 1, 0x06, 1, .u32, .ro, .observer, .value, 0, 4294967295, []⟩,
  ⟨.MRAM_ECC_UNCORRECTABLE, 0x178A, 1, 0x07, 1, .u32, .ro, .observer, .value, 0, 4294967295, []⟩,
  ⟨.TRANSIT_ECC_CORRECTED, 0x178A, 1, 0x08, 1, .u32, .ro, .observer, .value, 0, 4294967295, []⟩,
  ⟨.TRANSIT_ECC_UNCORRECTABLE, 0x178A, 1, 0x09, 1, .u32, .ro, .observer, .value, 0, 4294967295, []⟩,
  ⟨.FI_CAUSE, 0x178A, 1, 0x0A, 1, .u32, .ro, .observer, .value, 0, 4294967295, []⟩]

/-- Rows 600 to 659 of the object tables, in the order of the chapters. -/
def objTable10 : List ObjInfo := [
  ⟨.FI_CAUSE_CLEAR, 0x178A, 1, 0x0B, 1, .u32, .cmd, .operator, .dash, 0, 4294967295, []⟩,
  ⟨.SEC_STATE, 0x1500, 1, 0x01, 1, .u8, .ro, .observer, .perPart, 0, 255, []⟩,
  ⟨.SEC_CLOSE, 0x1500, 1, 0x02, 1, .none, .cmd, .service, .dash, 0, 0, []⟩,
  ⟨.SEC_RECLOSE, 0x1500, 1, 0x03, 1, .none, .cmd, .engineer, .dash, 0, 0, []⟩,
  ⟨.SEC_REVOKE, 0x1500, 1, 0x04, 1, .u32, .cmd, .service, .dash, 0, 4294967295, []⟩,
  ⟨.REOPEN_PASSWORD, 0x1500, 1, 0x05, 1, .blob, .cmd, .engineer, .dash, 0, 0, []⟩,
  ⟨.REOPEN_CHALLENGE, 0x1500, 1, 0x06, 1, .blob, .ro, .observer, .dash, 0, 0, []⟩,
  ⟨.REOPEN_RESPONSE, 0x1500, 1, 0x07, 1, .blob, .cmd, .observer, .dash, 0, 0, []⟩,
  ⟨.REOPEN_REMAINING, 0x1500, 1, 0x08, 1, .u32, .ro, .observer, .value, 0, 4294967295, []⟩,
  ⟨.REOPEN_TERM, 0x1500, 1, 0x09, 1, .u32, .rw, .service, .value, 1966080, 2831155200, []⟩,
  ⟨.PASSWORD_SET, 0x1500, 1, 0x0A, 1, .blob, .cmd, .service, .dash, 0, 0, []⟩,
  ⟨.PASSWORD_FAILS, 0x1500, 1, 0x0B, 1, .u32, .ro, .observer, .value, 0, 4294967295, []⟩,
  ⟨.PASSWORD_LOCKED_UNTIL, 0x1500, 1, 0x0C, 1, .u64, .ro, .observer, .value, 0, 18446744073709551615, []⟩,
  ⟨.PROVE_FAILS, 0x1500, 1, 0x0D, 1, .u32, .ro, .observer, .value, 0, 4294967295, []⟩,
  ⟨.SEC_CAUSE, 0x1500, 1, 0x0E, 1, .u32, .ro, .observer, .value, 0, 4294967295, []⟩,
  ⟨.SEC_CAUSE_CLEAR, 0x1500, 1, 0x0F, 1, .u32, .cmd, .operator, .dash, 0, 4294967295, []⟩,
  ⟨.ROLE_KEY_r, 0x1501, 1, 0x01, 4, .blob, .rw, .service, .value, 0, 0, []⟩,
  ⟨.FW_KEY_HASH_k, 0x1502, 1, 0x01, 4, .blob, .ro, .observer, .perPart, 0, 0, []⟩,
  ⟨.FW_KEY_REVOKED, 0x1502, 1, 0x05, 1, .u8, .ro, .observer, .perPart, 0, 255, []⟩,
  ⟨.ROLLBACK_MIN, 0x1502, 1, 0x06, 1, .u8, .ro, .observer, .perPart, 0, 255, []⟩,
  ⟨.DEVICE_PUB, 0x1502, 1, 0x07, 1, .blob, .ro, .observer, .perPart, 0, 0, []⟩,
  ⟨.SERVICE_ROOT, 0x1502, 1, 0x08, 1, .blob, .ro, .observer, .perPart, 0, 0, []⟩,
  ⟨.FW_KEY_REVOKE, 0x1502, 1, 0x09, 1, .u8, .cmd, .service, .dash, 0, 255, []⟩,
  ⟨.FW_RUNNING, 0x1503, 1, 0x01, 1, .u8, .ro, .observer, .dash, 0, 255, []⟩,
  ⟨.FW_VERSION_A, 0x1503, 1, 0x02, 1, .u32, .ro, .observer, .dash, 0, 4294967295, []⟩,
  ⟨.FW_VERSION_B, 0x1503, 1, 0x03, 1, .u32, .ro, .observer, .dash, 0, 4294967295, []⟩,
  ⟨.FW_STATE, 0x1503, 1, 0x04, 1, .u8, .ro, .observer, .value, 0, 255, []⟩,
  ⟨.FW_STAGE, 0x1503, 1, 0x05, 1, .blob, .wo, .engineer, .dash, 0, 0, []⟩,
  ⟨.FW_VERIFY, 0x1503, 1, 0x06, 1, .none, .cmd, .engineer, .dash, 0, 0, []⟩,
  ⟨.FW_ACTIVATE, 0x1503, 1, 0x07, 1, .u8, .cmd, .engineer, .dash, 0, 255, []⟩,
  ⟨.FW_CONFIRM, 0x1503, 1, 0x08, 1, .none, .cmd, .engineer, .dash, 0, 0, []⟩,
  ⟨.FW_TRIAL_TIME, 0x1503, 1, 0x09, 1, .u32, .rw, .engineer, .value, 1966080, 2831155200, []⟩,
  ⟨.FW_STAGE_SLOT, 0x1503, 1, 0x0A, 1, .u8, .ro, .observer, .dash, 0, 255, []⟩,
  ⟨.BOOT_NEXT, 0x1503, 1, 0x0B, 1, .u8, .ro, .observer, .value, 0, 255, []⟩,
  ⟨.DEBUG_SET, 0x1504, 1, 0x01, 1, .u8, .cmd, .service, .dash, 0, 255, []⟩,
  ⟨.DEBUG_EFFECTIVE, 0x1504, 1, 0x02, 1, .u8, .ro, .observer, .value, 0, 255, []⟩,
  ⟨.DEBUG_HALTED, 0x1504, 1, 0x03, 1, .u8, .ro, .observer, .value, 0, 255, []⟩,
  ⟨.PWR_STATE, 0x1600, 1, 0x01, 1, .u8, .ro, .observer, .value, 0, 255, []⟩,
  ⟨.PWR_REQUEST, 0x1600, 1, 0x02, 1, .u8, .cmd, .engineer, .dash, 0, 255, []⟩,
  ⟨.PWR_CHANGED, 0x1600, 1, 0x03, 1, .vt80, .ro, .observer, .value, 0, 18446744073709551615999999999, []⟩,
  ⟨.PWR_DIE_TEMP, 0x1600, 1, 0x04, 1, .i32, .ro, .observer, .value, (-2147483648), 2147483647, []⟩,
  ⟨.PW_CAUSE, 0x1600, 1, 0x05, 1, .u32, .ro, .observer, .value, 0, 4294967295, []⟩,
  ⟨.PW_CAUSE_CLEAR, 0x1600, 1, 0x06, 1, .u32, .cmd, .operator, .dash, 0, 4294967295, []⟩,
  ⟨.PWR_DIM_ENABLE, 0x1601, 1, 0x01, 1, .bool, .rw, .engineer, .value, 0, 1, []⟩,
  ⟨.PWR_DIM_BURST, 0x1601, 1, 0x02, 1, .u32, .rw, .engineer, .value, 4096, 2097152, []⟩,
  ⟨.PWR_DIM_CAVE_HOLD, 0x1601, 1, 0x03, 1, .u16, .rw, .engineer, .value, 1, 65535, []⟩,
  ⟨.PWR_CORE_GATE, 0x1601, 1, 0x04, 1, .bool, .rw, .engineer, .value, 0, 1, []⟩,
  ⟨.PWR_VIGIL_PORTS, 0x1601, 1, 0x05, 1, .u8, .rw, .engineer, .value, 0, 2, []⟩,
  ⟨.PWR_VIGIL_CAVE, 0x1601, 1, 0x06, 1, .u8, .rw, .engineer, .value, 0, 1, []⟩,
  ⟨.PWR_VIGIL_ETH, 0x1601, 1, 0x07, 1, .bool, .rw, .engineer, .value, 0, 1, []⟩,
  ⟨.PWR_VIGIL_TIME, 0x1601, 1, 0x08, 1, .bool, .rw, .engineer, .value, 0, 1, []⟩,
  ⟨.PWR_AUTO_VIGIL, 0x1601, 1, 0x09, 1, .bool, .rw, .engineer, .value, 0, 1, []⟩,
  ⟨.PWR_AUTO_DELAY, 0x1601, 1, 0x0A, 1, .u32, .rw, .engineer, .value, 1, 86400, []⟩,
  ⟨.PWR_WAKE_MASK, 0x1601, 1, 0x0B, 1, .u8, .rw, .engineer, .value, 0, 3, []⟩,
  ⟨.PWR_WAKE_AT, 0x1601, 1, 0x0C, 1, .u64, .rw, .engineer, .value, 0, 18446744073709551615, []⟩,
  ⟨.PWR_WAKE_STATE, 0x1601, 1, 0x0D, 1, .u8, .rw, .engineer, .value, 0, 0, [2]⟩,
  ⟨.PWR_HOT_LIMIT, 0x1601, 1, 0x0E, 1, .u16, .rw, .engineer, .value, 8000, 12500, []⟩,
  ⟨.PWR_HOT_ACTION, 0x1601, 1, 0x0F, 1, .u8, .rw, .engineer, .value, 0, 1, []⟩,
  ⟨.ST_RUN, 0x1700, 1, 0x01, 1, .u8, .cmd, .engineer, .dash, 0, 255, []⟩,
  ⟨.ST_STOP, 0x1700, 1, 0x02, 1, .none, .cmd, .engineer, .dash, 0, 0, []⟩]

/-- Rows 660 to 717 of the object tables, in the order of the chapters. -/
def objTable11 : List ObjInfo := [
  ⟨.ST_STATE, 0x1700, 1, 0x03, 1, .u8, .ro, .observer, .value, 0, 255, []⟩,
  ⟨.ST_ORIGIN, 0x1700, 1, 0x04, 1, .u8, .ro, .observer, .value, 0, 255, []⟩,
  ⟨.ST_ITEM, 0x1700, 1, 0x05, 1, .u8, .ro, .observer, .value, 0, 255, []⟩,
  ⟨.ST_SEAL_PROFILE, 0x1700, 1, 0x06, 1, .u8, .rw, .engineer, .value, 0, 2, []⟩,
  ⟨.ST_SEALED, 0x1700, 1, 0x07, 1, .bool, .ro, .observer, .value, 0, 1, []⟩,
  ⟨.ST_SEAL_KT, 0x1700, 1, 0x08, 1, .u64, .ro, .observer, .value, 0, 18446744073709551615, []⟩,
  ⟨.ST_SEAL_VALID, 0x1700, 1, 0x09, 1, .u32, .rw, .engineer, .value, 60, 525600, []⟩,
  ⟨.ST_AUTO_REPAIR, 0x1700, 1, 0x0A, 1, .bool, .rw, .service, .value, 0, 1, []⟩,
  ⟨.ST_SAVE_PENDING, 0x1700, 1, 0x0B, 1, .u16, .ro, .observer, .value, 0, 65535, []⟩,
  ⟨.ST_EXC_FAILED, 0x1700, 1, 0x0C, 1, .blob, .ro, .observer, .value, 0, 0, []⟩,
  ⟨.ST_CAL_LOST, 0x1700, 1, 0x0D, 1, .blob, .ro, .observer, .value, 0, 0, []⟩,
  ⟨.ST_CAUSE, 0x1700, 1, 0x0E, 1, .u32, .ro, .observer, .value, 0, 4294967295, []⟩,
  ⟨.ST_CAUSE_CLEAR, 0x1700, 1, 0x0F, 1, .u32, .cmd, .operator, .dash, 0, 4294967295, []⟩,
  ⟨.ST_RESULT_i, 0x1710, 8, 0x01, 1, .u64, .ro, .observer, .value, 0, 18446744073709551615, []⟩,
  ⟨.ST_GOLDEN_i, 0x1710, 8, 0x02, 1, .u64, .ro, .observer, .production, 0, 18446744073709551615, []⟩,
  ⟨.ST_FAILS_i, 0x1710, 8, 0x03, 1, .u32, .ro, .observer, .value, 0, 4294967295, []⟩,
  ⟨.ST_LAST_KT, 0x1710, 8, 0x04, 1, .u64, .ro, .observer, .value, 0, 18446744073709551615, []⟩,
  ⟨.REPAIR_COUNT, 0x1720, 1, 0x01, 1, .u8, .ro, .observer, .value, 0, 255, []⟩,
  ⟨.REPAIR_PROPOSED, 0x1720, 1, 0x02, 1, .u32, .ro, .observer, .value, 0, 4294967295, []⟩,
  ⟨.REPAIR_ACCEPT, 0x1720, 1, 0x03, 1, .none, .cmd, .service, .dash, 0, 0, []⟩,
  ⟨.REPAIR_CLEAR, 0x1720, 1, 0x04, 1, .u8, .cmd, .service, .dash, 0, 255, []⟩,
  ⟨.REPAIR_FUSE, 0x1720, 1, 0x05, 1, .u8, .cmd, .service, .dash, 0, 255, []⟩,
  ⟨.FUSE_FREE, 0x1720, 1, 0x06, 1, .u8, .ro, .observer, .value, 0, 255, []⟩,
  ⟨.FUSE_MARGIN_FAILS, 0x1720, 1, 0x07, 1, .u32, .ro, .observer, .value, 0, 4294967295, []⟩,
  ⟨.SPARES_LEFT, 0x1720, 1, 0x08, 1, .u32, .ro, .observer, .dash, 0, 4294967295, []⟩,
  ⟨.REPAIR_ENTRY_n, 0x1730, 1, 0x00, 64, .u32, .ro, .observer, .value, 0, 4294967295, []⟩,
  ⟨.FUSE_ENTRY_n, 0x1740, 1, 0x00, 48, .u32, .ro, .observer, .perPart, 0, 4294967295, []⟩,
  ⟨.LIFE_HOURS, 0x1750, 1, 0x01, 1, .u32, .ro, .observer, .value, 0, 4294967295, []⟩,
  ⟨.LIFE_TJ_HIST, 0x1750, 1, 0x02, 1, .blob, .ro, .observer, .value, 0, 0, []⟩,
  ⟨.LIFE_CONSUMED, 0x1750, 1, 0x03, 1, .u32, .ro, .observer, .value, 0, 4294967295, []⟩,
  ⟨.VAT_ID, 0x7800, 1, 0x01, 1, .u32, .rws, .engineer, .value, 0, 4294967295, []⟩,
  ⟨.VAT_FW_WINDOW, 0x7800, 1, 0x02, 1, .u8, .rw, .engineer, .value, 0, 15, []⟩,
  ⟨.VAT_SPLIT_CYCLES, 0x7800, 1, 0x03, 1, .u16, .rw, .engineer, .value, 1, 1000, []⟩,
  ⟨.MEMBER_PERIOD, 0x7800, 1, 0x04, 1, .u16, .rw, .engineer, .value, 10, 10000, []⟩,
  ⟨.AUTO_START, 0x7800, 1, 0x05, 1, .u8, .rw, .engineer, .value, 0, 1, []⟩,
  ⟨.START_NEED_LOCK, 0x7800, 1, 0x06, 1, .bool, .rw, .engineer, .value, 0, 1, []⟩,
  ⟨.START_LIMIT, 0x7800, 1, 0x07, 1, .u32, .rw, .engineer, .value, 1000, 3600000, []⟩,
  ⟨.RECOVERY_TICKS, 0x7800, 1, 0x08, 1, .u32, .rw, .engineer, .value, 1, 16777215, []⟩,
  ⟨.ACQ_START, 0x7801, 1, 0x01, 1, .none, .cmd, .operator, .dash, 0, 0, []⟩,
  ⟨.ACQ_STOP, 0x7801, 1, 0x02, 1, .none, .cmd, .operator, .dash, 0, 0, []⟩,
  ⟨.VAT_LEAVE, 0x7801, 1, 0x03, 1, .none, .cmd, .engineer, .dash, 0, 0, []⟩,
  ⟨.VAT_REJOIN, 0x7801, 1, 0x04, 1, .none, .cmd, .engineer, .dash, 0, 0, []⟩,
  ⟨.SERVICE_PHASE_SET, 0x7801, 1, 0x05, 1, .u8, .cmd, .operator, .dash, 0, 255, []⟩,
  ⟨.START_STATE, 0x7802, 1, 0x01, 1, .u8, .ro, .observer, .value, 0, 255, []⟩,
  ⟨.RESET_CAUSE, 0x7802, 1, 0x02, 1, .u8, .ro, .observer, .dash, 0, 255, []⟩,
  ⟨.OFF_CAUSE, 0x7802, 1, 0x03, 1, .u8, .ro, .observer, .value, 0, 255, []⟩,
  ⟨.START_REFUSAL, 0x7802, 1, 0x04, 1, .u8, .ro, .observer, .value, 0, 255, []⟩,
  ⟨.SERVICE_PHASE, 0x7802, 1, 0x05, 1, .u8, .ro, .observer, .value, 0, 255, []⟩,
  ⟨.START_QUALIFIED, 0x7802, 1, 0x06, 1, .u32, .ro, .observer, .value, 0, 4294967295, []⟩,
  ⟨.START_DONE_INDEX, 0x7802, 1, 0x07, 1, .u64, .ro, .observer, .value, 0, 18446744073709551615, []⟩,
  ⟨.BOOT_TIME, 0x7802, 1, 0x08, 1, .u32, .ro, .observer, .value, 0, 4294967295, []⟩,
  ⟨.VAT_STATE, 0x7803, 1, 0x01, 1, .u8, .ro, .observer, .value, 0, 255, []⟩,
  ⟨.VAT_DISAGREE, 0x7803, 1, 0x02, 1, .u8, .ro, .observer, .value, 0, 255, []⟩,
  ⟨.VAT_DIGEST, 0x7803, 1, 0x03, 1, .u32, .ro, .observer, .dash, 0, 4294967295, []⟩,
  ⟨.VAT_REFERENCE, 0x7803, 1, 0x04, 1, .u16, .ro, .observer, .value, 0, 65535, []⟩,
  ⟨.VAT_MEMBER_COUNT, 0x7803, 1, 0x05, 1, .u8, .ro, .observer, .value, 0, 255, []⟩,
  ⟨.VAT_MEMBERS, 0x7803, 1, 0x06, 1, .blob, .ro, .observer, .dash, 0, 0, []⟩,
  ⟨.VAT_STATE_CHANGED, 0x7803, 1, 0x07, 1, .vt80, .ro, .observer, .value, 0, 18446744073709551615999999999, []⟩]

/-- Every row of the object tables (R439, R440, R441): the checks of R462 read their data here. -/
def objTable : List ObjInfo :=
  objTable0 ++ objTable1 ++ objTable2 ++ objTable3 ++ objTable4 ++ objTable5 ++ objTable6 ++ objTable7 ++ objTable8 ++ objTable9 ++ objTable10 ++ objTable11

/-- The Default column (R11, R442) as a number, by instance.
DESIGN CHOICE, log entry 2: an entry whose default is production, per part or a dash starts at 0,
and the three gain corrections start at 2^30, the nominal value. -/
def Obj.dflt (o : Obj) (i : Nat) : Int :=
  match o with
  | .QUEUE_DEPTH => if i = 0 then 2097152 else if i ≤ 2 then 262144 else 65536
  | .QUEUE_HIGH_WATER => if i = 0 then 1572864 else if i ≤ 2 then 196608 else 49152
  | .QUEUE_DRAIN => if i ≤ 2 then 0 else 2
  | .RX_PHYS => (i % 2 : Nat)
  | .HIST_BASE => -8388608
  | .PTP_LOG_ANNOUNCE | .PTP_PORT_STATE | .GUARD_MODE | .SHADOW_ENABLE | .DCB_AUTO_FREEZE | .CAP_COUNT
  | .CAP_KEEP | .CAP_MODE_NOW | .AVG_MIN_USED | .HIST_EMIT | .REDUCED_QUEUE | .QUEUE_FRAMING | .QUEUE_STATUS
  | .OVERFLOW_POLICY | .REPLAY_QUEUES | .LANE_ENABLE | .TWIN_ADOPT | .WITNESS_ENABLE | .SPI_ENABLE
  | .JRN_MIRROR | .LOCK_RENEW | .FENCE_AUTO | .PWR_DIM_ENABLE | .PWR_CORE_GATE | .PWR_VIGIL_ETH
  | .PWR_VIGIL_TIME | .ST_SEAL_PROFILE | .ST_AUTO_REPAIR | .VAT_FW_WINDOW | .START_NEED_LOCK => 1
  | .PRESET_i | .OUT_SEL_i | .STAT_QUEUE | .RESERVE_SEGMENTS | .ASYM_CYCLES | .PWR_WAKE_STATE => 2
  | .PTP_ANNOUNCE_TIMEOUT | .EXC_CAL_TRIER | .TX_DEEMPH | .PWR_WAKE_MASK => 3
  | .ABORT_LIMIT | .RESIDUE_LIMIT | .RIPEN_FLOOR_i | .VERIFY_LIMIT | .TX_SWING | .PARITY_LIMIT => 4
  | .TRIER_CAD => 6
  | .ACCESS_PATHS => 7
  | .TIMEOUT_RING | .TAKEOVER_FADE => 8
  | .BEACON_TIMEOUT => 10
  | .DCB_SHIFT_i => 12
  | .HIST_SHIFT => 14
  | .QUALIFY_COUNT | .COEF_FADE | .LINK_ERR_LIMIT | .ASYM_CLEAR | .VAT_SPLIT_CYCLES => 16
  | .EV_ROUTE => 17
  | .SCRUB_HOURS => 24
  | .EXC_SETTLE | .RIPEN_LOW_WATER | .HB_PERIOD => 32
  | .TWIN_TIME_LIMIT => 40
  | .PRIME_SAMPLES | .FUSE_FREE => 48
  | .LOCK_WINDOW => 50
  | .SESSION_IDLE | .PWR_AUTO_DELAY => 60
  | .REQUAL_TICKS | .HYST | .AVG_N | .GM_TIMEOUT | .PWR_DIM_CAVE_HOLD => 64
  | .SLEW_RATE | .QUEUE_READ_WAIT | .REJOIN_HOLD | .MEMBER_PERIOD => 100
  | .PTP_PRIORITY1 | .PTP_PRIORITY2 | .RT_PRIORITY | .HB_TIMEOUT => 128
  | .STEPPING => 176
  | .ARB_LIMIT => 200
  | .SPARE_CHANNEL | .SCAN_BAD_ENTRY | .TRIER_QUEUE | .SEQ_BAD_ENTRY | .COEF_PENDING | .BCAST_OUT
  | .CAP_REGION | .CAP_QUEUE | .CAP_HIST | .CAP_PMAP | .UNIT_BAD_FIELD | .REPLAY_MARK | .REPLAY_DEST
  | .RING_POSITION | .HOPS_EAST | .HOPS_WEST | .DATA_DIR | .DIR_FORCE | .PARTNER_STATE | .WIT_HOLDER
  | .ST_ITEM => 255
  | .RING_VERSION | .WITNESS_RENEW => 256
  | .SHADOW_MEAN_LIMIT => 400
  | .RT_GM | .WITNESS_ADDR | .WIT_TWIN | .VAT_REFERENCE => 511
  | .SHADOW_RMS_LIMIT => 800
  | .STEP_THRESHOLD | .HOLDOVER_AVG | .SHORT_LIMIT | .LOOP_ABSENT_LIMIT | .REV_LIMIT => 1000
  | .SHADOW_DWELL | .CAP_PRE | .CAP_POST | .STAT_N => 1024
  | .LEASE_TERM => 1312
  | .TIMEOUT_PPS => 1500
  | .PORT_WAIT | .ASYM_LIMIT | .DSUM_LIMIT => 2000
  | .TIMEOUT_PT => 3000
  | .BRINGUP_LIMIT => 5000
  | .LOOP_SETTLE | .STALE_TICKS => 6400
  | .HOLDOVER_LIMIT | .DELAY_STEP_LIMIT => 10000
  | .ST_SEAL_VALID => 10080
  | .PWR_HOT_LIMIT => 12000
  | .MBX_ACK_TIMEOUT => 32768
  | .ACCESS_PORT => 47120
  | .JRN_ALERT => 49152
  | .START_LIMIT => 60000
  | .RECOVERY_TICKS => 64000
  | .IRQ_FIRST_k | .ST_SAVE_PENDING => 65535
  | .LIN_GAIN => 65536
  | .PPS_OUT_WIDTH | .OPEN_LIMIT => 100000
  | .MBX_CROSS_TIMEOUT => 327680
  | .PWR_DIM_BURST => 1048576
  | .LOCK_TIMEOUT => 1966080
  | .FW_TRIAL_TIME => 19660800
  | .VT_INCREMENT | .HOLD_INCREMENT | .PT_INCREMENT => 33554432
  | .REOPEN_TERM => 943718400
  | .CAL_GAIN | .SPARE_GAIN | .TRIER_CAL_GAIN => 1073741824
  | .WINDOW_n => 2147450880
  | .IP_ADDRESS => 3232235620
  | .IP_NETMASK => 4294967040
  | .RIPEN_SEGMENT | .RIPEN_PENDING | .PRESS_BAD_FIELD | .ACKED_SEQ | .JRN_HOST_MARK => 4294967295
  | .ARMED_INDEX => 18446744073709551615
  | _ => 0

/-- Whether an entry is staged (R443, R436): the RW and RWS objects of 0x2000–0x50FF, 0x5800–0x580F and 0x7000,
but for those their chapter makes act at once (DCB_FREEZE by R188; the limit TWIN_TIME_LIMIT by R436, DEDUCED, log entry 3). -/
def ObjInfo.staged (r : ObjInfo) : Bool :=
  (r.access == .rw || r.access == .rws) &&
  ((0x2000 ≤ r.index && r.index ≤ 0x50FF) || (0x5800 ≤ r.index && r.index ≤ 0x580F) || r.index == 0x7000) &&
  r.obj != .DCB_FREEZE && r.obj != .TWIN_TIME_LIMIT

/-- A parameter by R452: an RW or RWS entry whose default is neither production nor per part. -/
def ObjInfo.parameter (r : ObjInfo) : Bool :=
  (r.access == .rw || r.access == .rws) && r.kind != .production && r.kind != .perPart

/-- The row that holds an index and subindex, with the instance number the subindex and index select. -/
def objAt (index sub : Nat) : Option (ObjInfo × Nat) :=
  match objTable.find? (fun r => r.index ≤ index && index < r.index + r.count && r.sub ≤ sub && sub < r.sub + r.subs) with
  | some r => some (r, (index - r.index) * r.subs + (sub - r.sub))
  | none => none

/-- Whether any row stands at an index (R438): NO_SUBINDEX is answered there, NO_OBJECT elsewhere. -/
def objIndexDefined (index : Nat) : Bool :=
  objTable.any (fun r => r.index ≤ index && index < r.index + r.count)

/-- The row of a name. -/
def Obj.info (o : Obj) : ObjInfo :=
  (objTable.find? (fun r => r.obj == o)).getD default

end Sys2Proof.Machine
end

