-- ==== Sys2Proof/Machine/Types.lean ====
section
/-! DEFINITION. The data that commands carry and that the state holds: dictionary values, ring frames, the part that
a master plays in a command, and what the world outside gives the hub in one grid tick. -/

namespace Sys2Proof.Machine

/-- One object of one instance. -/
structure Key where
  obj  : Obj
  inst : Nat
deriving DecidableEq, Repr, Inhabited

/-- The place of a key in the order of a store. -/
def Key.code (k : Key) : Nat := k.inst * 1024 + k.obj.ctorIdx

/-- A dictionary value (R439): none for a command without a value, a number, or the bytes of a STR or BLOB. -/
inductive Val where
  | unit
  | num (v : Int)
  | bytes (b : List Byte)
deriving DecidableEq, Repr, Inhabited

/-- The error codes of R463, by name. -/
inductive Err where
  | ok | noObject | noSubindex | typeMismatch | badLength | outOfRange | readOnly | writeOnly | running | role
  | refused | commitArmed | stageFull | commitLate | commitDigest | discordant | notActing | segmented | notDone
  | busy | path | fenced | session | badOp | sequence
deriving DecidableEq, Repr, Inhabited

/-- The code of an error on the wire (R463). -/
def Err.code : Err → Nat
  | .ok => 0x00 | .noObject => 0x01 | .noSubindex => 0x02 | .typeMismatch => 0x03 | .badLength => 0x04
  | .outOfRange => 0x05 | .readOnly => 0x06 | .writeOnly => 0x07 | .running => 0x08 | .role => 0x09
  | .refused => 0x0A | .commitArmed => 0x0B | .stageFull => 0x0C | .commitLate => 0x0D | .commitDigest => 0x0E
  | .discordant => 0x0F | .notActing => 0x10 | .segmented => 0x11 | .notDone => 0x12 | .busy => 0x13
  | .path => 0x14 | .fenced => 0x15 | .session => 0x16 | .badOp => 0x17 | .sequence => 0x18

/-- Where a write or command comes from: the SOURCE codes of R492, the masters of R484 and R467. -/
inductive Origin where
  | hub | coreA | coreB | spi | udp | ring | twin
deriving DecidableEq, Repr, Inhabited

/-- The SOURCE code of R492. -/
def Origin.code : Origin → Nat
  | .hub => 0 | .coreA => 1 | .coreB => 2 | .spi => 3 | .udp => 4 | .ring => 5 | .twin => 6

/-- Who issues a dictionary command: its origin, the role it holds (R441), and the session it runs in (0 for none). -/
structure Who where
  origin  : Origin
  role    : Role
  session : Nat
deriving DecidableEq, Repr, Inhabited

/-- The owner id of R484. -/
def Who.owner (w : Who) : Nat :=
  match w.origin with
  | .coreA => 0x10
  | .coreB => 0x20
  | .spi => 0x30 + w.session
  | .udp => 0x40 + w.session
  | .ring => 0x40 + w.session
  | .twin => 0x50
  | .hub => 0

/-- A ring frame (R355), its payload as bytes. `srcKind`/`dstKind` are bits [15:14] of SRC and DST,
`srcPos`/`dstPos` bits [13:9] and `srcAddr`/`dstAddr` bits [8:0]. -/
structure Frame where
  cls      : Nat
  resent   : Bool
  bothways : Bool
  link     : Bool
  srcKind  : Nat
  srcPos   : Nat
  srcAddr  : Nat
  dstKind  : Nat
  dstPos   : Nat
  dstAddr  : Nat
  hops     : Nat
  wrapped  : Bool
  fseq     : Nat
  payload  : List Byte
  /-- FCRC is to be sent, or was received, complemented (R356, R357). -/
  stomped  : Bool := false
deriving DecidableEq, Repr, Inhabited

/-- What FCRC and BCRC showed of a received frame (R354, R356, R526). -/
inductive FrameCheck where
  /-- FCRC holds. -/
  | good
  /-- The stored FCRC is the complement of the computed one. -/
  | stomped
  /-- FCRC fails, or the length or class is not allowed. -/
  | bad
  /-- An uncorrectable error in the transit buffer. -/
  | transitEcc
deriving DecidableEq, Repr, Inhabited

/-- A 32-bit record (R194) with the channel, preset and grid index attached to it. `value` is bits [31:8] as a signed number,
`flags` the flag byte. -/
structure Rec where
  chan  : Nat
  preset : Nat
  index : Int
  value : Int
  flags : Nat
  /-- A parity bit for each byte of the record, formed by stage 10 for the record bus. -/
  par   : Nat := 0
deriving DecidableEq, Repr, Inhabited

/-- The bitstream of a modulator, 16 for S, in the 128 modulator clocks of a tick; bit 0 is the earliest (R95). -/
structure Bitstream where
  bank : Nat
  mod  : Nat
  bits : Nat
deriving DecidableEq, Repr, Inhabited

/-- The loop current of a LOOP channel over a tick, in µA: the greatest magnitude and the greatest signed value. -/
structure LoopCurrent where
  chan   : Nat
  maxMag : Int
  maxVal : Int
deriving DecidableEq, Repr, Inhabited

/-- What a word of the curd store with an uncorrectable error held (R524). -/
inductive CurdFault where
  | queueSlot (q : Fin 16) (word : Nat)
  | pressBuffer (packet : Nat)
  | ripenBuffer
  | capture (u : Fin 16)
  | other
deriving DecidableEq, Repr, Inhabited

/-- What the analogue side and the clocks give the hub in one grid tick (R61, R81, R89, R95, R523). DESIGN CHOICE, log entry 7: a
modulator that `bits` does not list gives 0 and 1 by turns. -/
structure TickIn where
  /-- Mean phase of the modulator clock over the tick, 2^-16 ns (R61). -/
  phase      : Int
  /-- Channels whose excitation output did not hold its current for the whole tick (R81). -/
  compliance : List Nat
  /-- Channels whose overload comparator showed positive overload for the whole tick (R89, R119). -/
  overPos    : List Nat
  /-- Channels whose overload comparator showed any overload in the tick (R95, R190). -/
  overAny    : List Nat
  /-- Loop currents of LOOP channels (R89, R91). -/
  loops      : List LoopCurrent
  /-- Bitstreams of the interval that the tick latches. -/
  bits       : List Bitstream
  /-- Modulators whose bias current left its window in the tick (R95). -/
  bias       : List (Nat × Nat)
  /-- Records whose byte parity fails at a consumer of the record bus (R523), by channel. -/
  parity     : List Nat
  /-- Uncorrectable curd store errors that reads of the tick found (R524). -/
  curdBad    : List CurdFault
  /-- Channels whose compression block, should acquisition stop before the next tick, fails the checker of R248. -/
  badBlocks  : List Nat
deriving DecidableEq, Repr, Inhabited

/-- The path of an access message (R464, R467). -/
inductive Path where
  | udp | spi | ring
deriving DecidableEq, Repr, Inhabited

/-- The binding of a session (R464): source address and port over UDP, ENDPOINT_ID and SRC over the ring. -/
structure Binding where
  path : Path := .udp
  addr : Nat := 0
  port : Nat := 0
deriving DecidableEq, Repr, Inhabited

/-- An access message (R453). -/
structure Msg where
  magic   : Nat
  version : Nat
  op      : Nat
  flags   : Nat
  status  : Nat
  session : Nat
  mseq    : Nat
  body    : List Byte
  tag     : List Byte
deriving DecidableEq, Repr, Inhabited

/-- A notice (R474). -/
structure Notice where
  nseq   : Nat
  code   : Nat
  nflags : Nat
  offset : Nat
  length : Nat
  param  : Nat
deriving DecidableEq, Repr, Inhabited

/-- A PTP message that the port takes (R68): its kind, the sender's rank data, the sequence number of a request and the times it
carries, PT in 2^-16 ns. A Pdelay_Resp without a t3 is followed by its Follow_Up. -/
inductive PtpMsg where
  | announce (gm : Nat) (priority1 clockClass priority2 : Nat)
  | sync (tx : Int) (rx : Int)
  | followUp (tx : Int)
  | delayResp (rx : Int)
  | delayReq (seq : Nat) (rx : Int)
  | pdelayReq (seq : Nat) (rx : Int)
  | pdelayResp (t2 : Int) (t3 : Option Int) (rx : Int)
  | pdelayFollowUp (t3 : Int)
  | management
deriving DecidableEq, Repr, Inhabited

/-- What the test port's TAP is given (R545, R546): a public instruction, the private one that selects the debug port, any
other, or Test-Logic-Reset (TRST_N low likewise). -/
inductive Tap where
  | reset | bypass | idcode | sample | extest | clamp | highz | debugPort | other
deriving DecidableEq, Repr, Inhabited

/-- An element that a test finds failed (R562, R575). -/
inductive TestFail where
  /-- A modulator of a bank, 16 for S. -/
  | modulator (bank : Fin 32) (m : Fin 17)
  /-- An excitation output. -/
  | exc (c : Fin 512)
  | trier (t : Fin 4)
  /-- A row of a curd store array. -/
  | curdRow (array : Fin 256) (row : Fin 512)
  /-- A row of a core array; arrays 0 to 15 are core A's, 16 to 31 core B's. -/
  | coreRow (array : Fin 32) (row : Fin 1024)
  /-- A row of the transit buffer of a ring port. -/
  | transitRow (p : Fin 2) (array : Fin 32) (row : Fin 1024)
  | lane (l : Fin 5)
  | caveRegion (t : Fin 256)
deriving DecidableEq, Repr, Inhabited

/-- What INIT finds as it loads MRAM and the fuses (R544, R579, R580). -/
structure BootFound where
  /-- The stored configuration meets an uncorrectable error. -/
  cfgBad  : Bool
  /-- Copies of the repair map that fail: 0, 1 or 2. -/
  mapBad  : Nat
  /-- Fuse entries that differ at the margin level, and those whose nominal read cannot be corrected. -/
  margins : List (Fin 48)
  unread  : List (Fin 48)
  /-- Channels both of whose calibration copies fail. -/
  calBad  : List (Fin 512)
deriving DecidableEq, Repr, Inhabited

/-- What cave training ends with (R591, R592): the size fitted, whether training succeeded, whether the contents are still
there, and whether the replay index passes its check. -/
structure CaveFound where
  fitted  : Nat
  trained : Bool
  kept    : Bool
  indexOk : Bool
deriving DecidableEq, Repr, Inhabited
/-- What an uncorrectable error has taken from a packet's cells (R301): nothing, bytes behind its header and map, or those too. -/
inductive Damage where
  | none | body | header
deriving DecidableEq, Repr, Inhabited

end Sys2Proof.Machine
end

