-- ==== Sys2Proof/Syntax.lean ====
section
/-! DEFINITION. The commands of the block: one constructor for every row of spec/opcode_table.json, in the order of
the table. A command that a master writes through the dictionary names the master (`Who`). -/

namespace Sys2Proof

open Sys2Proof.Machine

/-- The happenings that the hub takes from outside or brings to ripeness itself, one constructor per table row. -/
inductive Instr where
  /-- GRID_TICK (R20): Tick n begins 1 µs after grid instant n and the frame sequencer runs the frame table's steps in order, one every 40 ns. -/
  | gridTick (tin : TickIn)
  /-- EVENT_HOLDOFF_END (R510): At the end of an event's hold-off one report or notice carries the raises counted meanwhile. -/
  | eventHoldoffEnd (n : Fin 256)
  /-- ACQ_START (R594): A start command is judged in table order and, when accepted, applies layout, RWS values and pending commits, generates the frame table and starts acquisition. -/
  | acqStart (w : Who)
  /-- AUTO_START (R594): With AUTO_START 1 the hub issues the start itself in the first servo cycle after READY in which it would pass and the vat is concordant. -/
  | autoStart
  /-- ACQ_STOP (R597): A stop command ends acquisition after the current tick, switching off excitation, closing blocks and cutting captures. -/
  | acqStop (w : Who)
  /-- FRAME_TABLE_WRITE (R25): A write to FRAME_SOURCE or a frame table step returns an INVALID sequencer to STOPPED and clears FRAME_BAD_STEP. -/
  | frameTableWrite (w : Who) (n : Option (Fin 256)) (v : Nat)
  /-- COMMIT_ARM (R635): An arming command for a scheduled commit is judged in order of repeat, discordance, armed commit, lateness and digest, and armed otherwise. -/
  | commitArm (w : Who) (g digest : Nat)
  /-- COMMIT_CANCEL (R471): A cancel command disarms the armed scheduled commit for the G named. -/
  | commitCancel (w : Who) (g : Nat)
  /-- COMMIT_NOW (R446): An immediate commit with the expected staged digest is applied in the first tick after acceptance, or at once while stopped. -/
  | commitNow (w : Who) (digest : Nat)
  /-- SCHEDULED_COMMIT_DUE (R26): An armed scheduled commit reaches tick G−1 and is applied by its COMMIT steps. -/
  | scheduledCommitDue
  /-- STAGE_DISCARD (R447): A discard command empties staging and clears the defaults mark. -/
  | stageDiscard (w : Who)
  /-- RESTORE_DEFAULTS (R451): A command stages the default of every staged entry whose default is a value, by setting STAGED_DEFAULTS. -/
  | restoreDefaults (w : Who)
  /-- CFG_SAVE (R450): A command stores the committed values of every RW and RWS entry in MRAM and sets CFG_SAVED_DIGEST. -/
  | cfgSave (w : Who)
  /-- SERVO_CYCLE (R47): At each VT millisecond boundary the hub takes the latest source offset, tests time-outs and windows and applies the VT state table. -/
  | servoCycle
  /-- PT_SERVO_CYCLE (R44): At each PT millisecond boundary PT's own servo cycle runs its source, slew and state rules. -/
  | ptServoCycle
  /-- TIME_SOURCE_LOST (R50): The source time-out matures with no valid offset; EV 0x03 is raised once and the state table enters HOLDOVER where it applies. -/
  | timeSourceLost
  /-- HOLDOVER_LIMIT_REACHED (R54): HOLDOVER_TIME reaches HOLDOVER_LIMIT and VT_STATE enters FREE with EV 0x02. -/
  | holdoverLimitReached
  /-- VT_INCREMENT_WRITE (R39): A write of VT_INCREMENT within ±500 ppm by the servo owner takes effect on the next time-unit cycle; others are refused. -/
  | vtIncrementWrite (w : Who) (v : Int)
  /-- VT_SLEW (R41): A write of VT_SLEW adds an offset to SLEW_REMAINING unless it would exceed STEP_THRESHOLD. -/
  | vtSlew (w : Who) (v : Int)
  /-- PT_SLEW (R44): A write of PT_SLEW adds an offset to PT_SLEW_REMAINING under the same limits as VT. -/
  | ptSlew (w : Who) (v : Int)
  /-- TIME_SLEW_DONE (R42): SLEW_REMAINING of VT or PT reaches 0 and EV 0x06 is raised. -/
  | timeSlewDone (pt : Bool)
  /-- VT_LOAD (R43): A VT_LOAD command sets VT while the sequencer is STOPPED and clears SLEW_REMAINING. -/
  | vtLoad (w : Who) (v : Int)
  /-- SERVO_OWNER_WRITE (R46): A change of SERVO_OWNER takes effect at the end of the servo cycle and raises EV 0x07. -/
  | servoOwnerWrite (w : Who) (v : Int)
  /-- VAT_EPOCH_WRITE (R59): A write of VAT_EPOCH with non-zero nanoseconds or fraction is refused with EV 0x05. -/
  | vatEpochWrite (w : Who) (v : Int)
  /-- CLK_REF_SEL_WRITE (R65): A write of CLK_REF_SEL while stopped selects the TCXO or, when present, CLK10_IN. -/
  | clkRefSelWrite (w : Who) (v : Int)
  /-- CLK10_LOST (R65): CLK10_IN without an edge for 1 µs while in use switches both PLLs to the TCXO, scales the increment and may enter holdover. -/
  | clk10Lost (ratio : Nat)
  /-- MODCLK_LOCKED (R61): The modulator PLL phase stays within 4 ns for 64 ticks and EV 0x08 is raised. -/
  | modclkLocked
  /-- MODCLK_UNLOCK (R61): The modulator clock phase exceeds 30 ns in a tick; EV 0x09 is raised and MODCLK_UNLOCKS counts it. -/
  | modclkUnlock
  /-- PPS_IN_EDGE (R64): A PPS_IN edge is stamped in VT and PT, corrected by PPS_IN_DELAY, or refused when outside STEP_THRESHOLD. -/
  | ppsInEdge (rising : Bool)
  /-- PPS_IN_MISSING (R64): No PPS_IN edge arrives for TIMEOUT_PPS and EV 0x0B is raised. -/
  | ppsInMissing
  /-- PPS_OUT_PULSE (R66): PPS_OUT pulses at each whole second of the selected base, led by PPS_OUT_DELAY. -/
  | ppsOutPulse
  /-- PTP_MESSAGE_RX (R68): A PTP event or general message on the management port is stamped and handled by the ordinary clock. -/
  | ptpMessageRx (domain : Nat) (m : PtpMsg)
  /-- KEEPER_CLOCK_FAIL (R72): The 32.768 kHz crystal stops and the keeper switches to its RC without missing a count, raising EV 0x10. -/
  | keeperClockFail
  /-- COMP_RESPONSE_RX (R88): A YQP16 response frame is judged good or bad and drives the companion link state table. -/
  | compResponseRx (b : Fin 32) (resp : BitVec 48)
  /-- COMP_SYNC_TIMEOUT (R88): A companion link in SYNC without 8 consecutive good exchanges for 256 ticks goes LOST. -/
  | compSyncTimeout (b : Fin 32)
  /-- CHANNEL_ABSENT (R90): Presence fails in 3 consecutive ticks and the channel becomes ABSENT, marking records from the first failing tick. -/
  | channelAbsent (c : Fin 512)
  /-- CHANNEL_REQUALIFY (R93): Presence passes for REQUAL_TICKS consecutive ticks and an ABSENT channel enters REQUALIFY. -/
  | channelRequalify (c : Fin 512)
  /-- CHANNEL_RELEASED (R640): A channel in REQUALIFY becomes PRESENT in tick e + P at the end of its invalid span. -/
  | channelReleased (c : Fin 512)
  /-- MODULATOR_FAILED (R95): A modulator fails its bitstream monitor in 2 consecutive ticks and is declared failed. -/
  | modulatorFailed (b : Fin 32) (m : Fin 17)
  /-- SPARE_SETTLED (R96): The spare's SETTLE span ends and it moves to ROTATE for shadowing or FADE_IN for calibration. -/
  | spareSettled (b : Fin 32)
  /-- SHADOW_VERDICT (R97): At the end of a ROTATE dwell the comparator gives pass, mismatch or no verdict and stores SHADOW_LAST. -/
  | shadowVerdict (b : Fin 32)
  /-- SPARE_FADE_DONE (R104): A FADE_IN or FADE_OUT cross-fade ends and the spare moves to ARBITRATE, COVER, SETTLE, FAILED or OFF. -/
  | spareFadeDone (b : Fin 32)
  /-- ARBITRATE_VERDICT (R99): After 4,096 ticks of live and spare tests the arbitration decides TAKEN, hand-back, resumed rotation or LOST. -/
  | arbitrateVerdict (b : Fin 32) (live spare : List Int)
  /-- CH_CALIBRATE (R102): A calibrate command queues or starts an in-place calibration of a channel's live modulator under spare cover. -/
  | chCalibrate (w : Who) (c : Fin 512)
  /-- CALIBRATION_DONE (R102): A channel calibration ends, CAL_OFFSET and CAL_GAIN are written and the next queued request is served. -/
  | calibrationDone (b : Fin 32) (offset : Int) (gain : Nat)
  /-- BANK_DELAY_CAL (R103): A command while stopped drives a step onto the bank's test bus to measure group delays. -/
  | bankDelayCal (w : Who) (b : Fin 32)
  /-- BANK_DELAY_CAL_DONE (R103): After 256 ticks the hub writes GROUP_DELAY and SPARE_DELAY and sets cause bit [11]. -/
  | bankDelayCalDone (b : Fin 32) (live spare : List Int)
  /-- BANK_CAUSE_CLEAR (R108): A write clears the masked bits of BANK_CAUSE, a new cause in the same tick winning. -/
  | bankCauseClear (w : Who) (b : Fin 32) (mask : Nat)
  /-- SCAN_EXECUTION_BOUNDARY (R114): A scan entry execution ends and the next begins, switching the acting inputs' front end at the COMMIT step of tick s−1. -/
  | scanExecutionBoundary (b : Fin 32)
  /-- SCAN_TEST_VERDICT (R120): When the last record of a test entry leaves the harp, its verdicts are combined and handed to the channels. -/
  | scanTestVerdict (b : Fin 32)
  /-- LEAD_EXECUTION_DONE (R123): A LEAD execution ends and LEAD_EST is written from the mean of its usable records. -/
  | leadExecutionDone (b : Fin 32)
  /-- SCAN_HOLD (R132): A write of 1 to SCAN_HOLD holds the table, returning inputs to committed settings at the next execution boundary. -/
  | scanHold (w : Who) (b : Fin 32)
  /-- SCAN_RELEASE (R132): A write of 0 to SCAN_HOLD resumes a held table at the next pass boundary or cancels a waiting hold. -/
  | scanRelease (w : Who) (b : Fin 32)
  /-- TRIER_PASS_ARMED_START (R144): An armed GRID pass begins sampling at grid instant m+1 plus TRIG_DELAY, or is skipped when the converter is busy. -/
  | trierPassArmedStart (t : Fin 4)
  /-- TRIER_CONVERSION_DONE (R152): A trier conversion completes, its result word is written and the converter starts its next work. -/
  | trierConversionDone (t : Fin 4) (raw : Int)
  /-- TRIER_START (R143): A START command begins one SINGLE pass, or is counted in PASS_SKIPS during a pass. -/
  | trierStart (w : Who) (t : Fin 4)
  /-- INJ_REQUEST (R146): An entry word written to INJ_REQUEST enters the injected slot and may abort a sequence conversion, or is refused. -/
  | injRequest (w : Who) (t : Fin 4) (word : Nat)
  /-- TRIER_CAL_START (R149): A CAL_START makes a calibration pending behind injected and running conversions, or is refused. -/
  | trierCalStart (w : Who) (t : Fin 4)
  /-- TRIER_CAL_STEP_DONE (R150): A 40 µs calibration step ends; the converter serves the slot, continues or applies new coefficients after step 63. -/
  | trierCalStepDone (t : Fin 4) (offset : Int) (gain : Nat)
  /-- TRIER_POWERED (R152): A converter powered by a commit of TRIER_MODE becomes able to convert after 20 µs. -/
  | trierPowered (t : Fin 4)
  /-- CJC_STALE (R157): The cold-junction result becomes older than STALE_TICKS and the bank's TC records carry WHEY. -/
  | cjcStale (b : Fin 32)
  /-- TRIER_CAUSE_CLEAR (R161): A write clears the masked bits of TRIER_CAUSE. -/
  | trierCauseClear (w : Who) (t : Fin 4) (mask : Nat)
  /-- EXC_CAL (R158): A bank number written while stopped starts the excitation calibration of its 16 outputs. -/
  | excCal (w : Who) (b : Nat)
  /-- EXC_CAL_DONE (R158): The excitation calibration of a bank ends, storing corrections or reporting a fault.
  `cut`: its converter, which is OFF, cannot measure the points that are left. -/
  | excCalDone (b : Fin 32) (cut : Bool)
  /-- RESIDUE_MISMATCH (R168): A CIC residue mismatch restarts the path's chain, marks WHEY and counts the error. -/
  | residueMismatch (b : Fin 32) (path : Fin 17)
  /-- COEF_SWAP (R172): A write to COEF_SWAP requests a coefficient bank swap with effect index n+2. -/
  | coefSwap (w : Who) (b : Fin 32) (k : Nat)
  /-- SWAP_REQUEST_JUDGED (R174): A swap request is judged in tick S−1, starting a fade or being deferred into COEF_PENDING. -/
  | swapRequestJudged (b : Fin 32)
  /-- PRIMING_END (R174): In tick PRIME_END−1 priming ends and any pending request is taken up. -/
  | primingEnd (b : Fin 32)
  /-- COEF_FADE_END (R173): In tick E−1 the coefficient fade ends, COEF_IN_USE changes and held contents and pending requests are applied. -/
  | coefFadeEnd (b : Fin 32)
  /-- COEF_PARITY_FAIL (R176): A coefficient parity failure reloads the bank from MRAM and marks the affected records WHEY. -/
  | coefParityFail (b : Fin 32) (k : Fin 2) (paths : List Nat)
  /-- DCB_FREEZE_WRITE (R188): A write to DCB_FREEZE holds or frees the DC estimate of each input from its next record. -/
  | dcbFreezeWrite (w : Who) (b : Fin 32) (v : Nat)
  /-- LANE_CAUSE_CLEAR (R196): A write clears the masked bits of LANE_CAUSE. -/
  | laneCauseClear (w : Who) (b : Fin 32) (mask : Nat)
  /-- TRIG_TIMEOUT_MATURES (R206): A TIMEOUT unit's count of TIME_A output samples since the last qualifying edge matures and the condition is met. -/
  | trigTimeoutMatures (u : Fin 16)
  /-- TRIG_FORCE (R208): A TRIG_FORCE command makes the unit's condition met on the next record of its source. -/
  | trigForce (w : Who) (u : Fin 16)
  /-- CAPTURE_CLOSE (R216): POST_HELD reaches CAP_POST; the capture closes, CAP_SEQ advances, the header CRC is formed and the group is DONE. -/
  | captureClose (r : Fin 16)
  /-- CAPTURE_PUSH_DONE (R216): The last word of a capture pushed to CAP_QUEUE is written and the group is released. -/
  | capturePushDone (r : Fin 16)
  /-- CAP_RELEASE (R216): A CAP_RELEASE releases a DONE group with CAP_KEEP 1 from the next tick. -/
  | capRelease (w : Who) (u : Fin 16)
  /-- VAT_TRIGGER_RX (R375): A VAT_TRIGGER Event frame is received, delivered once per source and forwarded. -/
  | vatTriggerRx (p : Fin 2) (f : Frame)
  /-- BROADCAST_DELIVERY (R225): A broadcast received in tick m is delivered in tick m+1 to every unit taking its line and judged with its own T. -/
  | broadcastDelivery
  /-- UNIT_CAUSE_CLEAR (R233): A write clears the masked bits of UNIT_CAUSE. -/
  | unitCauseClear (w : Who) (u : Fin 16) (mask : Nat)
  /-- COMPRESSED_BLOCK_CLOSE (R243): A compression block closes at its grid boundary or early and the stream unit forms a COMPRESSED packet. -/
  | compressedBlockClose (b : Fin 32) (bad : List Nat)
  /-- AVERAGING_INTERVAL_CLOSE (R249): An averaging interval closes and an AVERAGED packet is formed. -/
  | averagingIntervalClose (b : Fin 32)
  /-- STATS_WINDOW_CLOSE (R251): A statistics window closes and a STATS packet is formed. -/
  | statsWindowClose (b : Fin 32)
  /-- HIST_WINDOW_CLOSE (R253): A histogram window reaches its boundary or capture close and its counts are copied to the readout. -/
  | histWindowClose (h : Fin 16)
  /-- HIST_CLOSE (R253): A HIST_CLOSE command closes the window at the CLOSE step of its tick. -/
  | histClose (w : Who) (h : Fin 16)
  /-- PMAP_READOUT (R256): A PMAP_READOUT starts 32 PMAP packets, one per tick, or is deferred while a bound capture is in POST. -/
  | pmapReadout (w : Who) (m : Fin 4)
  /-- PMAP_READOUT_DONE (R258): The last readout packet is formed; cause bit [4] is set and a pending clear acts. -/
  | pmapReadoutDone (m : Fin 4)
  /-- PMAP_CLEAR (R256): A PMAP_CLEAR resets the map, or is deferred behind a readout or a capture in POST. -/
  | pmapClear (w : Who) (m : Fin 4)
  /-- RIPEN_REQUEST_RX (R263): The ripen engine takes, holds or refuses a ripening request from the cave manager. -/
  | ripenRequestRx
  /-- RIPEN_SEGMENT_DONE (R263): The ripen engine has written a segment, reports completion and the cave manager replaces the originals. -/
  | ripenSegmentDone
  /-- PRESS_CAUSE_CLEAR (R268): A write clears the masked bits of PRESS_CAUSE. -/
  | pressCauseClear (w : Who) (mask : Nat)
  /-- CAVE_WRITE_PACKET (R295): The cave writer takes a packet from a CAVE-drained queue and writes it to the stream ring, choosing a new segment when needed. -/
  | caveWritePacket (q : Fin 16)
  /-- QUEUE_READ (R280): A dictionary read of QUEUE_READ takes one whole packet, answers SEGMENTED, or waits up to QUEUE_READ_WAIT. -/
  | queueRead (w : Who) (q : Fin 16) (room : Nat)
  /-- QUEUE_READ_WAIT_EXPIRY (R280): QUEUE_READ_WAIT matures with no readable packet and an empty result is returned. -/
  | queueReadWaitExpiry (q : Fin 16)
  /-- QUEUE_FLUSH (R284): FLUSH empties the queue at once, discarding a producer's remaining words. -/
  | queueFlush (w : Who) (q : Fin 16)
  /-- QUEUE_DROP_REST (R283): DROP_REST discards the rest of the consumer's current packet. -/
  | queueDropRest (w : Who) (q : Fin 16)
  /-- STREAM_ACK (R296): A STREAM_ACK acknowledges every packet of the queue up to the SEQ written, or is refused beyond the last written. -/
  | streamAck (w : Who) (q : Fin 16) (seq : Nat)
  /-- CAVE_DISCARD (R293): A command gives up all unacknowledged data, accounted with cause DISCARD. -/
  | caveDiscard (w : Who)
  /-- CAVE_SCRUB_PASS (R294): The patrol scrubber reads and corrects the whole cave once every SCRUB_HOURS. -/
  | caveScrubPass (corrected : Nat) (bad : Nat) (hurt : List (Nat × Nat × Damage))
  /-- MARK_SET (R303): A MARK_SET places a rewind mark at a grid index, refused beyond the current tick. -/
  | markSet (w : Who) (n : Fin 16) (m : Nat)
  /-- MARK_CLEAR (R315): A MARK_CLEAR sets the mark UNSET. -/
  | markClear (w : Who) (n : Fin 16)
  /-- REPLAY_START (R305): A REPLAY_START copies retained packets from a mark or index to REPLAY_TO towards the destination. -/
  | replayStart (w : Who)
  /-- REPLAY_STOP (R306): A REPLAY_STOP cuts a running replay. -/
  | replayStop (w : Who)
  /-- REPLAY_DONE (R306): The last packet up to REPLAY_TO is copied and the replay is DONE. -/
  | replayDone
  /-- REGION_DATA_READ (R309): A read of REGION_DATA returns 1,024 bytes from REGION_OFFSET and advances it. -/
  | regionDataRead (w : Who) (r : Fin 16) (bad : Bool)
  /-- QC_CAUSE_CLEAR (R310): A write clears the masked bits of QC_CAUSE. -/
  | qcCauseClear (w : Who) (mask : Nat)
  /-- RING_SEND_PACKET (R372): The ring port reads a packet from the stream ring and sends it once as a Data frame in DATA_DIR when room exists. -/
  | ringSendPacket
  /-- RINGCLK_LOST (R319): RINGCLK has no edge for 1 µs; every lane goes OFF and EV 0x9E is raised. -/
  | ringclkLost
  /-- RINGCLK_RESTORED (R319): RINGCLK has been present for 100 µs and the lanes restart from DETECT. -/
  | ringclkRestored (ppm : Int)
  /-- BLOCK_RECEIVED (R327): A received block's header is checked and the block is passed on, counted or discarded. -/
  | blockReceived (l : Fin 5) (header payload : Nat) (stuffs viols errs : Nat)
  /-- TRANSMIT_BLOCK (R369): At each transmit block the member chooses express, transit or own bulk traffic, or IDLE where due. -/
  | transmitBlock (p : Fin 3)
  /-- LANE_LOST (R328): An ACTIVE lane loses headers, amplitude or clock lock and re-enters DETECT with EV 0x91. -/
  | laneLost (l : Fin 5) (analogue : Bool)
  /-- SIGNAL_DETECTED (R337): A lane in DETECT sees signal for 10 µs without a break and enters LOCK. -/
  | signalDetected (l : Fin 5)
  /-- CDR_LOCKED (R337): Clock recovery locks and the lane enters ALIGN. -/
  | cdrLocked (l : Fin 5)
  /-- CDR_LOCK_TIMEOUT (R337): A lane in LOCK without lock for 100 µs returns to DETECT. -/
  | cdrLockTimeout (l : Fin 5)
  /-- ALIGNMENT_FOUND (R330): 32 valid headers are found; inversion and lane reversal are corrected and adaptation starts. -/
  | alignmentFound (l : Fin 5) (inverted : Bool) (bsn : Nat) (w0 w1 w2 : Nat)
  /-- ADAPTATION_DONE (R332): Receiver adaptation completes, ADAPT_DONE is set and READY is sent. -/
  | adaptationDone (l : Fin 5) (ctle : Nat) (dfe : List Byte)
  /-- LANE_ACTIVE (R333): A ready lane that has received 8 usable TRAIN blocks with READY switches to live blocks at a BSN multiple of 64. -/
  | laneActive (l : Fin 5) (skew : Nat)
  /-- BRINGUP_LIMIT_EXPIRY (R335): A lane not ACTIVE within BRINGUP_LIMIT restarts at DETECT with EV 0x99. -/
  | bringupLimitExpiry (l : Fin 5)
  /-- PORT_WAIT_EXPIRY (R343): PORT_WAIT elapses with one lane ACTIVE and the port goes to ONE. -/
  | portWaitExpiry (p : Fin 2)
  /-- PORT_FAULT_RETRY (R336): A port in FAULT retries bring-up from DETECT every 10 ms. -/
  | portFaultRetry (p : Fin 3)
  /-- PORT_HUSH_REQUEST (R339): A request for Hush sends HUSH_REQ on every lane of the port and waits for the ACK. -/
  | portHushRequest (w : Who) (p : Fin 3)
  /-- PORT_REST_REQUEST (R339): A request for Rest sends REST_REQ on every lane of the port and waits for the ACK. -/
  | portRestRequest (w : Who) (p : Fin 3)
  /-- PORT_ACTIVE_REQUEST (R339): A request for Active makes a port in Hush or Rest exit, resuming IDLE blocks or retraining. -/
  | portActiveRequest (w : Who) (p : Fin 3)
  /-- HUSH_ACK_TIMEOUT (R339): No ACK arrives within 64 blocks; the port stays Active and EV 0x9A is raised. -/
  | hushAckTimeout (p : Fin 3)
  /-- HUSH_REQ_RX (R339): A received HUSH_REQ is answered with HUSH_ACK unless the hub must refuse. -/
  | hushReqRx (p : Fin 3)
  /-- HUSH_ACK_RX (R339): A received HUSH_ACK lets both ends send 8 CONTROL blocks and go electrically idle. -/
  | hushAckRx (p : Fin 3)
  /-- REST_REQ_RX (R339): A received REST_REQ is answered with REST_ACK unless the hub must refuse. -/
  | restReqRx (p : Fin 3)
  /-- REST_ACK_RX (R339): A received REST_ACK completes agreement on Rest. -/
  | restAckRx (p : Fin 3)
  /-- LANE_DROP_RX (R341): A received LANE_DROP makes the far end map traffic to the surviving lane and retrain the named lane. -/
  | laneDropRx (p : Fin 2) (lane : Fin 2)
  /-- LANE_ADD_RX (R342): A received LANE_ADD is answered with LANE_ADD_ACK naming the BSN at which striping resumes. -/
  | laneAddRx (p : Fin 2) (lane : Fin 2) (bsnAt : Nat)
  /-- LANE_ADD_ACK_RX (R342): A received LANE_ADD_ACK confirms the BSN_AT and the port returns to TWO there. -/
  | laneAddAckRx (p : Fin 2) (lane : Fin 2) (bsnAt : Nat)
  /-- LANE_ADD_SEND (R342): The end that first finds the retrained lane ready at both ends sends LANE_ADD. -/
  | laneAddSend (p : Fin 2)
  /-- LANE_TEST_ENTER (R337): A write of 1 to LANE_TEST puts the lane in TEST, sending PAT_MODE. -/
  | laneTestEnter (w : Who) (l : Fin 5)
  /-- LANE_TEST_LEAVE (R337): A write of 0 to LANE_TEST returns the lane to DETECT. -/
  | laneTestLeave (w : Who) (l : Fin 5)
  /-- INJECT_LINE_BIT (R345): INJECT kind 0 inverts one line bit per block, the given number of times. -/
  | injectLineBit (w : Who) (l : Fin 5) (n : Nat)
  /-- INJECT_HEADER_BIT (R345): INJECT kind 1 inverts bit [15] of the next header. -/
  | injectHeaderBit (w : Who) (l : Fin 5) (n : Nat)
  /-- INJECT_STUFF (R345): INJECT kind 2 omits a stuff bit or sends one extra equal bit. -/
  | injectStuff (w : Who) (l : Fin 5) (n : Nat)
  /-- INJECT_PAYLOAD_BIT (R345): INJECT kind 3 inverts one payload bit of the next DATA block. -/
  | injectPayloadBit (w : Who) (l : Fin 5) (n : Nat)
  /-- LN_CAUSE_CLEAR (R347): A write clears the masked bits of LN_CAUSE. -/
  | lnCauseClear (w : Who) (mask : Nat)
  /-- FRAME_RECEIVED (R364): A frame received on a ring port is checked and taken, forwarded, wrapped or discarded. -/
  | frameReceived (p : Fin 3) (bytes : List Byte) (stamp : Int) (corrected : Nat) (ecc : Bool)
  /-- BEACON_RX (R362): A BEACON sets the ring position, hop counts and split, and clears failed links on its side. -/
  | beaconRx (p : Fin 2) (f : Frame)
  /-- BEACON_TIMEOUT (R363): No beacon arrives on one side for BEACON_TIMEOUT and that side counts as broken. -/
  | beaconTimeout (p : Fin 2)
  /-- LINK_NOTICE_RX (R373): A LINK_NOTICE adds or removes a LINK_ID in the failed set, or reports degradation. -/
  | linkNoticeRx (p : Fin 2) (f : Frame)
  /-- LINK_KILL_RX (R376): A good LINK_KILL fails the link of the port with cause 3. -/
  | linkKillRx (p : Fin 2) (f : Frame)
  /-- REJOIN_HOLD_EXPIRY (R377): REJOIN_HOLD elapses without a failure cause and the link goes UP, ending the wrap. -/
  | rejoinHoldExpiry (p : Fin 2)
  /-- PAUSE_RX (R371): A received PAUSE holds new bulk frames on the port for QUANTA. -/
  | pauseRx (p : Fin 2) (f : Frame)
  /-- PAUSE_QUANTA_EXPIRY (R371): The QUANTA of a PAUSE elapses and bulk frames may begin again. -/
  | pauseQuantaExpiry (p : Fin 2)
  /-- PAUSE_REPEAT (R371): While the transit fill stays above one half the hub repeats PAUSE every 50 µs. -/
  | pauseRepeat (p : Fin 2)
  /-- ACK_RX (R372): An ACK Service frame from the endpoint is applied as STREAM_ACK. -/
  | ackRx (p : Fin 2) (f : Frame)
  /-- RESEND_RX (R372): A RESEND is queued and served by resending retained packets or answering RESEND_GONE. -/
  | resendRx (p : Fin 2) (f : Frame)
  /-- DICT_REQ_RX (R470): An access message arrives in a DICT_REQ Service frame and is handed to the dictionary engine. -/
  | dictReqRx (p : Fin 2) (f : Frame)
  /-- RL_CAUSE_CLEAR (R381): A write clears the masked bits of RL_CAUSE. -/
  | rlCauseClear (w : Who) (mask : Nat)
  /-- DREQ_SEND (R388): A member sends a DREQ on each qualified port every 125 µs. -/
  | dreqSend (p : Fin 3)
  /-- DREQ_RX (R388): A received DREQ is answered with a DRESP within 2 µs. -/
  | dreqRx (p : Fin 3) (f : Frame) (t : Int)
  /-- DRESP_RX (R389): A DRESP gives a raw delay that is accepted, held out or discarded and drives DELAY_STATE. -/
  | drespRx (p : Fin 3) (f : Frame) (t4 : Int)
  /-- DRESP_TIMEOUT (R388): No DRESP arrives within 100 µs of T1 and the exchange counts in DRESP_MISSED. -/
  | drespTimeout (p : Fin 3)
  /-- SYNC_SEND (R391): The grandmaster sends a SYNC out of each ring port at every 125 µs VT instant. -/
  | syncSend
  /-- SYNC_RX (R392): A received SYNC is stamped, judged usable and relayed with delay, correction and residence added. -/
  | syncRx (p : Fin 2) (f : Frame) (t : Int)
  /-- ANNOUNCE_SEND (R402): An eligible candidate sends an ANNOUNCE out of both ring ports every 16 ms. -/
  | announceSend
  /-- ANNOUNCE_RX (R402): A new ANNOUNCE is taken, passed on and may change the best candidate. -/
  | announceRx (p : Fin 2) (f : Frame)
  /-- GM_ENTRY_EXPIRY (R402): A candidate's ASEQ has not advanced for GM_TIMEOUT and its entry expires. -/
  | gmEntryExpiry
  /-- BECOME_GRANDMASTER (R404): A candidate best for 1 ms begins sending SYNCs and raises EV 0x13. -/
  | becomeGrandmaster
  /-- CHECK_SEND (R406): Each twin unit sends a CHECK on the twin port every 125 µs. -/
  | checkSend
  /-- CHECK_RX (R406): A received CHECK updates PORT_OFFSET of the twin port. -/
  | checkRx (f : Frame) (t : Int)
  /-- ASYM_CORR_WRITE (R399): A write of ASYM_CORR acts on SYNCs from the next block period and raises EV 0x1F. -/
  | asymCorrWrite (w : Who) (p : Fin 3) (v : Int)
  /-- RT_FAULT_CLEAR (R398): A write clears both RT_FAULT bits and raises EV 0x17. -/
  | rtFaultClear (w : Who) (v : Nat)
  /-- HEARTBEAT_SEND (R422): Each twin unit sends a HEARTBEAT every HB_PERIOD with its requests and grants. -/
  | heartbeatSend
  /-- HEARTBEAT_RX (R427): A partner HEARTBEAT updates grants, leases and the twin state table. -/
  | heartbeatRx (f : Frame)
  /-- HEARTBEAT_TIMEOUT (R427): No heartbeat arrives for HB_TIMEOUT and the twin state table acts on a lost heartbeat. -/
  | heartbeatTimeout
  /-- LEASE_EXPIRY (R425): KT reaches LEASE_EXPIRY in ACTING and the unit stands down into CLAIMING. -/
  | leaseExpiry
  /-- CLAIM_AT_REACHED (R424): A unit in CLAIMING reaches CLAIM_AT and sends WREQ CLAIM to the witness. -/
  | claimAtReached
  /-- WITNESS_RENEW_TIMER (R423): Every WITNESS_RENEW a unit repeats WREQ RENEW or CLAIM to the witness. -/
  | witnessRenewTimer
  /-- WREQ_RX (R426): A witness handles a WREQ in its twin's slot, granting, refusing or releasing. -/
  | wreqRx (p : Fin 2) (f : Frame) (also : Option Frame)
  /-- WGRANT_RX (R424): A WGRANT grants a lease, refuses a claim, or is answered with RELEASE outside CLAIMING and ACTING. -/
  | wgrantRx (p : Fin 2) (f : Frame)
  /-- WITNESS_SLOT_EXPIRY (R426): A witness slot with no WREQ for 4 × LEASE_TERM is freed. -/
  | witnessSlotExpiry (w : Fin 8)
  /-- MIRROR_RX (R415): A standby takes the acting unit's compliance flags of a tick from a MIRROR frame. -/
  | mirrorRx (f : Frame)
  /-- DICT_MIRROR_RX (R417): A DICT_MIRROR applies a shared object write or commit arming as from the twin agent. -/
  | dictMirrorRx (f : Frame) (exc : List (Nat × Int × Int × Int))
  /-- CAVE_COPY_RX (R432): A CAVE_COPY fragment is written into the standby's stream ring under its original write tick. -/
  | caveCopyRx (f : Frame)
  /-- SYNC_COPY_COMPLETE (R432): Resynchronisation copy completes and a SYNCING unit enters STANDBY. -/
  | syncCopyComplete
  /-- TWIN_SWITCH (R428): A TWIN_SWITCH to the acting unit starts a handover at index H, or is refused. -/
  | twinSwitch (w : Who) (v : Nat)
  /-- HANDOVER_CANCEL (R428): The grant has not arrived by H−64 and the handover is cancelled. -/
  | handoverCancel
  /-- HANDOVER_AT_H (R429): At grid instant H the former unit stands by and the new unit asserts TWIN_ACT_N and acts. -/
  | handoverAtH
  /-- TWIN_SEEN_CHECK (R429): At tick H+4 each bank without TWIN_SEEN counts in COMP_UNCONFIRMED. -/
  | twinSeenCheck
  /-- TWIN_CAUSE_CLEAR (R435): A write clears the masked bits of TWIN_CAUSE. -/
  | twinCauseClear (w : Who) (mask : Nat)
  /-- UDP_DATAGRAM_RX (R468): A UDP datagram on ACCESS_PORT delivers one access message to the dictionary engine. -/
  | udpDatagramRx (sip sport dip dport : Nat) (fragment : Bool) (data : List Byte)
  /-- ARP_REQUEST (R468): The hub answers an ARP request on the management port. -/
  | arpRequest (sip tip : Nat)
  /-- ICMP_ECHO (R468): The hub answers an ICMP echo request on the management port. -/
  | icmpEcho (sip dip : Nat) (data : List Byte)
  /-- SPI_STATUS (R469): The SPI STATUS command returns readiness, buffer and session bits and the response length. -/
  | spiStatus (cmd : Byte)
  /-- SPI_MSG_WRITE (R469): The SPI MSG_WRITE command takes one access message when SPI_CS_N rises. -/
  | spiMsgWrite (data : List Byte)
  /-- SPI_MSG_READ (R469): The SPI MSG_READ command sends the pending response, stalling on SPI_RDY. -/
  | spiMsgRead (n : Nat)
  /-- SPI_QUEUE_READ (R469): The SPI QUEUE_READ command sends a queue's words with tag bytes, stalling on SPI_RDY. -/
  | spiQueueRead (q : Nat) (words : Nat)
  /-- OPEN (R537): An OPEN starts a session for a role with an ephemeral key exchange. -/
  | open
  /-- PROVE (R539): A PROVE is judged against the role key and admits the session or ends it. -/
  | prove
  /-- CLOSE (R456): A CLOSE ends the session after the response. -/
  | close
  /-- READ (R457): A READ returns committed or staged values of up to 255 entries of one grid tick. -/
  | read (bad : List Nat) (hurt : Bool)
  /-- WRITE (R458): A WRITE checks all items, then applies them in order, stopping at the first refusal. -/
  | write
  /-- SEG_READ (R459): A SEG_READ returns a segment of a BLOB from OFFSET, taking a queue packet at offset 0 of QUEUE_READ. -/
  | segRead (bad : List Nat) (hurt : Bool)
  /-- SEG_WRITE (R459): A SEG_WRITE adds a segment to the session buffer and applies the BLOB on LAST. -/
  | segWrite
  /-- DESCRIBE (R461): A DESCRIBE returns an entry's type, access, role, flags, default and name. -/
  | describe
  /-- KEEP (R456): A KEEP resets the session's idle time. -/
  | keep
  /-- DICT_WRITE (R462): A write of a register without a row of its own is checked and staged or applied. -/
  | dictWrite (w : Who) (index sub type : Nat) (value : List Byte)
  /-- SESSION_IDLE_EXPIRY (R464): A session without a message for SESSION_IDLE ends. -/
  | sessionIdleExpiry
  /-- MBX_OPEN (R473): MBX_OPEN binds a FREE mailbox channel to the session and a service. -/
  | mbxOpen (w : Who) (k : Fin 8) (service : Nat)
  /-- MBX_CLOSE (R473): MBX_CLOSE frees the channel and empties its slots. -/
  | mbxClose (w : Who) (k : Fin 8)
  /-- MBX_POST (R475): A host notice is placed in a free inbound slot, or refused when full or malformed. -/
  | mbxPost (w : Who) (k : Fin 8) (notice : Notice)
  /-- MBX_TAKE (R476): A read of MBX_TAKE returns the oldest outbound notice and frees its slot. -/
  | mbxTake (w : Who) (k : Fin 8)
  /-- MBX_ACK_RX (R478): A host write acknowledges outbound notices up to an NSEQ. -/
  | mbxAckRx (w : Who) (k : Fin 8) (nseq : Nat)
  /-- MBX_EMPTY_ARM (R479): The empty interrupt is armed and fires when all inbound slots are empty. -/
  | mbxEmptyArm (w : Who) (k : Fin 8)
  /-- MBX_TX_DATA (R477): A write stores bytes into the inbound window at the given offset. -/
  | mbxTxData (w : Who) (k : Fin 8) (offset : Nat) (data : List Byte)
  /-- MBX_SERVICE_POST (R475): A firmware service places an outbound notice when a slot is free, raising EV 0xC0. -/
  | mbxServicePost (k : Fin 8) (notice : Notice) (data : List Byte)
  /-- MBX_SERVICE_TAKE (R480): A firmware service takes an inbound notice when it holds room to answer. -/
  | mbxServiceTake (k : Fin 8)
  /-- MBX_SERVICE_ACK (R478): A service finishes an inbound notice with ACK_WANTED and MBX_ACK_TX changes, raising EV 0xC2. -/
  | mbxServiceAck (k : Fin 8) (nseq : Nat)
  /-- MBX_ACK_TIMEOUT (R478): A taken outbound notice with ACK_WANTED stays unacknowledged for MBX_ACK_TIMEOUT and is counted late. -/
  | mbxAckTimeout (k : Fin 8)
  /-- MBX_CROSS_TIMEOUT (R482): A channel CROSSED for MBX_CROSS_TIMEOUT is closed. -/
  | mbxCrossTimeout (k : Fin 8)
  /-- LOCK_READ (R485): A read of a lock register acquires or renews it, or returns the other owner. -/
  | lockRead (w : Who) (n : Fin 32)
  /-- LOCK_RELEASE (R486): The owner frees a lock, others are refused. -/
  | lockRelease (w : Who) (n : Fin 32)
  /-- LOCK_FORCE (R486): A LOCK_FORCE frees a lock whoever holds it. -/
  | lockForce (w : Who) (n : Fin 32)
  /-- LOCK_TIMEOUT_EXPIRY (R487): A lock not renewed for LOCK_TIMEOUT is freed with EV 0xC5. -/
  | lockTimeoutExpiry (n : Fin 32)
  /-- JRN_PAGE_READ (R497): A journal page read is served from MRAM, repaired from the mirror, or returns HOLEs. -/
  | jrnPageRead (w : Who) (p : Fin 1024) (bad : List Nat)
  /-- JRN_MIRROR_WRITE (R496): Each journal entry is written to the cave mirror within 1 ms of its MRAM write. -/
  | jrnMirrorWrite (bad : Bool)
  /-- JRN_MIRROR_COPY_DONE (R496): The copy of every MRAM slot into the mirror after a start ends and JRN_MIRROR_STATE reads current. -/
  | jrnMirrorCopyDone
  /-- JRN_HOST_MARK_WRITE (R499): A write of JRN_HOST_MARK records the host's read point; JRN_ALERT fires when the gap reaches the limit. -/
  | jrnHostMarkWrite (w : Who) (seq : Nat)
  /-- MJ_CAUSE_CLEAR (R501): A write clears the masked bits of MJ_CAUSE. -/
  | mjCauseClear (w : Who) (mask : Nat)
  /-- EV_ACK (R509): EV_ACK clears EV_PENDING of an event, a raise in the same cycle winning. -/
  | evAck (w : Who) (n : Fin 256)
  /-- EV_ACK_MAP (R530): A write of EV_ACK_MAP acknowledges every event whose bit is set. -/
  | evAckMap (w : Who) (map : List Byte)
  /-- FENCE_SET (R518): FENCE_SET fences an instance, refused for the last management core. -/
  | fenceSet (w : Who) (cls : Fin 10) (n : Nat)
  /-- FENCE_LIFT (R520): FENCE_LIFT ends a fence at the end of the tick and restarts the instance by class. -/
  | fenceLift (w : Who) (cls : Fin 10) (n : Nat)
  /-- EXC_SUPPLY_OVERCURRENT (R514): A bank's excitation supply current above 48 mA for 64 ticks fences the bank. -/
  | excSupplyOvercurrent (b : Fin 32)
  /-- CORE_WATCHDOG_EXPIRY (R514): A management core watchdog not served for 100 ms fences the core, or restarts the hub for the last core. -/
  | coreWatchdogExpiry (core : Fin 2)
  /-- CURD_SCRUB_PASS (R524): The curd store scrubber reads the whole store once a second, correcting single-bit errors. -/
  | curdScrubPass (corrected : Nat) (bad : List CurdFault)
  /-- FI_CAUSE_CLEAR (R528): A write clears the masked bits of FI_CAUSE. -/
  | fiCauseClear (w : Who) (mask : Nat)
  /-- SEC_CLOSE (R534): SEC_CLOSE blows the CLOSED fuse, refused while the Engineer key is zero. -/
  | secClose (w : Who)
  /-- SEC_RECLOSE (R533): SEC_RECLOSE ends a reopening and returns the hub to Closed. -/
  | secReclose (w : Who)
  /-- SEC_REVOKE (R534): SEC_REVOKE with its key value revokes the hub, erasing keys and ending sessions. -/
  | secRevoke (w : Who) (v : Nat)
  /-- REOPEN_PASSWORD (R540): A password matching the record reopens the hub; failures count and lock out. -/
  | reopenPassword (w : Who) (pw : List Byte)
  /-- REOPEN_CHALLENGE (R540): A read of REOPEN_CHALLENGE returns a fresh 48-byte challenge, replacing the previous one. -/
  | reopenChallenge (w : Who)
  /-- REOPEN_RESPONSE (R540): A valid signed response within 300 s reopens the hub at the granted debug level. -/
  | reopenResponse (w : Who) (r : List Byte)
  /-- REOPEN_EXPIRED (R556): REOPEN_REMAINING reaches 0 and the hub returns to Closed. -/
  | reopenExpired
  /-- PASSWORD_SET (R540): A Service session sets a new password record with a fresh salt. -/
  | passwordSet (w : Who) (pw : List Byte)
  /-- FW_KEY_REVOKE (R536): FW_KEY_REVOKE blows a key slot's revoked fuse, refused for the running or last slot. -/
  | fwKeyRevoke (w : Who) (k : Nat)
  /-- FW_STAGE (R543): A FW_STAGE write fills the non-running image slot at an offset. -/
  | fwStage (w : Who) (data : List Byte)
  /-- FW_VERIFY (R543): FW_VERIFY checks the staged image and sets VERIFIED or REJECTED. -/
  | fwVerify (w : Who)
  /-- FW_ACTIVATE_NEXT_START (R543): FW_ACTIVATE 0 makes the verified slot the trial image at the next start. -/
  | fwActivateNextStart (w : Who)
  /-- FW_ACTIVATE_NOW (R543): FW_ACTIVATE 1 restarts the hub at once into the trial image. -/
  | fwActivateNow (w : Who)
  /-- FW_CONFIRM (R543): FW_CONFIRM makes the trial image preferred and raises ROLLBACK_MIN. -/
  | fwConfirm (w : Who)
  /-- FW_TRIAL_EXPIRY (R543): FW_TRIAL_TIME matures unconfirmed and the hub restarts into the former image. -/
  | fwTrialExpiry
  /-- DEBUG_SET (R546): DEBUG_SET requests a debug level and DEBUG_EFFECTIVE is recomputed. -/
  | debugSet (w : Who) (v : Nat)
  /-- TAP_INSTRUCTION (R545): A TAP instruction is executed or acts as BYPASS by the effective debug level. -/
  | tapInstruction (t : Tap)
  /-- DEBUG_HALT (R548): The debug port halts a management core, whose services move to the other core. -/
  | debugHalt (core : Fin 2)
  /-- SEC_CAUSE_CLEAR (R558): A write clears the masked bits of SEC_CAUSE. -/
  | secCauseClear (w : Who) (mask : Nat)
  /-- PWR_REQUEST_RUN (R550): PWR_REQUEST 0 returns the hub from VIGIL or DIM to RUN. -/
  | pwrRequestRun (w : Who)
  /-- PWR_REQUEST_DIM (R550): PWR_REQUEST 1 moves a running hub into DIM. -/
  | pwrRequestDim (w : Who)
  /-- PWR_REQUEST_VIGIL (R550): PWR_REQUEST 2 moves a stopped hub into VIGIL, refused while running. -/
  | pwrRequestVigil (w : Who)
  /-- PWR_REQUEST_OFF (R550): PWR_REQUEST 3 with no unacknowledged data enters SEALING. -/
  | pwrRequestOff (w : Who)
  /-- PWR_REQUEST_OFF_DATA_LOSS (R550): PWR_REQUEST 4 from a Service session enters SEALING whatever data is unacknowledged. -/
  | pwrRequestOffDataLoss (w : Who)
  /-- SEALING_COMPLETE (R550): The sealing test ends and the hub enters OFF with SLEEP_N low. -/
  | sealingComplete
  /-- WAKE_N_WAKE (R550): WAKE_N falling and held low for 100 µs wakes the hub from OFF or VIGIL. -/
  | wakeNWake
  /-- PWR_WAKE_AT_ALARM (R550): KT reaches a non-zero PWR_WAKE_AT and the hub wakes from OFF. -/
  | pwrWakeAtAlarm
  /-- PWR_AUTO_DELAY_EXPIRY (R550): With PWR_AUTO_VIGIL 1 the hub stopped for PWR_AUTO_DELAY enters VIGIL. -/
  | pwrAutoDelayExpiry
  /-- SUPPLY_TRIP (R550): VDD_CORE below 0.72 V for 2 µs puts the hub in OFF at once without a test. -/
  | supplyTrip
  /-- THERMAL_TRIP (R550): The hottest die sensor above 140 °C puts the hub in OFF at once. -/
  | thermalTrip
  /-- DIE_TEMP_SAMPLE (R553): Once per millisecond the power manager reads the die sensors and acts on PWR_HOT_LIMIT. -/
  | dieTempSample (temp : Int)
  /-- CORE_PLL_UNLOCK (R551): The core PLL loses lock, relocks and EV 0xE3 is raised. -/
  | corePllUnlock
  /-- CAVE_DIM_WAKE (R552): In DIM a queue reaching PWR_DIM_BURST, a WAKE step or a read brings the cave out of self-refresh. -/
  | caveDimWake
  /-- CAVE_DIM_HOLD_EXPIRY (R552): PWR_DIM_CAVE_HOLD ticks after the last work the cave re-enters self-refresh. -/
  | caveDimHoldExpiry
  /-- PW_CAUSE_CLEAR (R559): A write clears the masked bits of PW_CAUSE. -/
  | pwCauseClear (w : Who) (mask : Nat)
  /-- ST_RUN_QUICK (R565): ST_RUN 1 starts an on-demand Quick test run. -/
  | stRunQuick (w : Who)
  /-- ST_RUN_FULL (R565): ST_RUN 2 starts an on-demand Full test run. -/
  | stRunFull (w : Who)
  /-- ST_STOP (R565): ST_STOP ends a test run at the next step boundary. -/
  | stStop (w : Who)
  /-- TEST_STEP_END (R564): A test step ends; its compare word enters the MISR, failures are acted on and the item may end or abort. -/
  | testStepEnd (compare : Nat) (failed : List TestFail)
  /-- REGION_RESTORE_DONE (R572): A tested cave region is copied back from its save slot and ST_SAVE_PENDING clears. -/
  | regionRestoreDone
  /-- REPAIR_ACCEPT (R577): REPAIR_ACCEPT writes the waiting proposed entry to the repair map. -/
  | repairAccept (w : Who)
  /-- REPAIR_CLEAR (R577): REPAIR_CLEAR empties a soft repair entry from the next start. -/
  | repairClear (w : Who) (n : Nat)
  /-- REPAIR_FUSE (R578): REPAIR_FUSE starts blowing a map entry into the next free fuse entry. -/
  | repairFuse (w : Who) (n : Nat)
  /-- FUSE_BLOW_DONE (R578): After 2 ms the fuse entry is read at margin and FUSED is set or the entry stays soft. -/
  | fuseBlowDone (good : Bool)
  /-- MRAM_PATROL (R583): The MRAM patrol rewrites every word at least once in 30 days. -/
  | mramPatrol (corrected bad : Nat)
  /-- LIFE_RECORD_UPDATE (R585): Once an hour the life record adds powered hours and consumed life. -/
  | lifeRecordUpdate
  /-- ST_CAUSE_CLEAR (R586): A write clears the masked bits of ST_CAUSE. -/
  | stCauseClear (w : Who) (mask : Nat)
  /-- KEEPER_POR (R588): VDD_AON rises through 0.70 V, clearing the keeper domain and KT. -/
  | keeperPor
  /-- RST_N_ASSERT (R589): RST_N held low resets every function outside the keeper and releases TWIN_ACT_N. -/
  | rstNAssert (held : Nat)
  /-- RST_N_RELEASE (R589): RST_N high with VDD_CORE in range begins the boot. -/
  | rstNRelease
  /-- BOOT_COMPLETE (R592): The boot ROM finds a valid image and copies it, or enters recovery when none is valid. -/
  | bootComplete (bad : List (Fin 2))
  /-- INIT_COMPLETE (R592): INIT loads configuration, repairs and calibration, finds the journal head and goes to SELFTEST or BRINGUP. -/
  | initComplete (x : BootFound)
  /-- CAVE_TRAINING_DONE (R591): Cave training ends, the stream ring is rebuilt or started empty and the hub becomes READY after any restore. -/
  | caveTrainingDone (x : CaveFound)
  /-- START_LIMIT_EXPIRY (R598): START_LIMIT elapses since the start and SERVICE_PHASE goes to NORMAL. -/
  | startLimitExpiry
  /-- RECOVERY_TICKS_EXPIRY (R598): RECOVERY_TICKS pass since the latest recovery cause and SERVICE_PHASE returns to NORMAL. -/
  | recoveryTicksExpiry
  /-- SERVICE_PHASE_NORMAL (R598): SERVICE_PHASE_SET 1 sets SERVICE_PHASE to NORMAL. -/
  | servicePhaseNormal (w : Who)
  /-- SERVICE_PHASE_TEST (R598): SERVICE_PHASE_SET 2 sets SERVICE_PHASE to TEST. -/
  | servicePhaseTest (w : Who)
  /-- MEMBER_RECORD_SEND (R601): A hub sends its member record both ways every MEMBER_PERIOD, on change and on entering JOINING. -/
  | memberRecordSend
  /-- MEMBER_RECORD_RX (R601): A received member record is stored in VAT_MEMBERS and answered by the reference for a joiner. -/
  | memberRecordRx (p : Fin 2) (f : Frame)
  /-- MEMBER_RECORD_EXPIRY (R601): A member record with no newer one for 4 × MEMBER_PERIOD expires. -/
  | memberRecordExpiry
  /-- VAT_LEAVE (R610): VAT_LEAVE while stopped sets LEFT and withdraws the hub as a candidate. -/
  | vatLeave (w : Who)
  /-- VAT_REJOIN (R611): VAT_REJOIN clears LEFT and the hub enters JOINING. -/
  | vatRejoin (w : Who)
  /-- CLK10_PRESENT (R65): CLK10_IN starts toggling again and CLK10_PRESENT is set, so a later write of CLK_REF_SEL can select it. -/
  | clk10Present
  /-- VDD_CORE_SETTLED (R624): After a wake from OFF, VDD_CORE has been within its range for 5 ms without a break, and the keeper lets the boot begin with the wake cause. -/
  | vddCoreSettled
  /-- PTP_ANNOUNCE_TIMEOUT (R68): No Announce arrives for PTP_ANNOUNCE_TIMEOUT intervals, and the PTP port changes state, which steers PT and raises EV 0x0E. -/
  | ptpAnnounceTimeout
  /-- PTP_MESSAGE_TX (R68): At each Sync, Announce or Delay_Req interval set by PTP_LOG_SYNC, PTP_LOG_ANNOUNCE and PTP_LOG_DELAY_REQ, the ordinary clock sends the message and stamps it. -/
  | ptpMessageTx
  /-- TX_PLL_LOCKED (R337): The lane transmitter PLL started in DETECT locks within 150 µs, and the lane begins sending TRAIN blocks. -/
  | txPllLocked (l : Fin 5)
  /-- DEBUG_RESUME (R545): Through the debug port, the debugger resumes or steps a halted management core, which returns its services and may let DIM be requested again. -/
  | debugResume (core : Fin 2)
deriving DecidableEq, Repr

end Sys2Proof
end

