-- ==== Sys2Proof/Decode.lean ====
section
/-! DEFINITION. Commands spelled by words: the rows of spec/opcode_table.json give no bits to any command, so that no
word spells one. -/

namespace Sys2Proof

/-- The command that a word spells by the table's bits: no row of the table gives bits, so none (log entry 1). -/
def decodeTableWord (_nbits _w : Nat) : Option Instr := none

end Sys2Proof
end

