-- ==== Sys2Proof/Machine/Flags.lean ====
section
/-! DEFINITION. Flags and checks: the flag byte of a record, the checksums of every format, the cause bits of every
cause register with the event each raises, and the comparisons of sequence numbers. -/

namespace Sys2Proof.Machine

/-! ### The flag byte of a record (R194) -/

def flagMark : Nat := 0x01
def flagFence : Nat := 0x02
def flagHold : Nat := 0x04
def flagSpare : Nat := 0x08
def flagAbsent : Nat := 0x10
def flagClip : Nat := 0x20
def flagBlend : Nat := 0x40
def flagWhey : Nat := 0x80

/-- The flag byte from its eight conditions (R194). -/
def flagByte (whey blend clip absent spare hold fence : Bool) : Nat :=
  (if whey then flagWhey else 0) + (if blend then flagBlend else 0) + (if clip then flagClip else 0) +
  (if absent then flagAbsent else 0) + (if spare then flagSpare else 0) + (if hold then flagHold else 0) +
  (if fence then flagFence else 0)

/-- Whether a flag stands in a flag byte. -/
def hasFlag (flags flag : Nat) : Bool := flags / flag % 2 == 1

/-- A record as its 32-bit word (R194): value in [31:8], flags in [7:0]. -/
def Rec.word (r : Rec) : Word := BitVec.ofInt 24 r.value ++ BitVec.ofNat 8 r.flags

/-- The parity of each byte of a record's word, least significant byte first (R194). -/
def Rec.parity (r : Rec) : Nat :=
  (List.range 4).foldl (fun m k =>
    if ((List.range 8).countP (fun j => r.word.getLsbD (8 * k + j))) % 2 = 1 then m + 2 ^ k else m) 0

/-- The record with its parity formed (R194). -/
def Rec.sealed (r : Rec) : Rec := { r with par := r.parity }

/-! ### Checksums -/

/-- One bit of a checksum that shifts left: width `w`, polynomial `p`. -/
def crcLeftBit (w p : Nat) (crc : Nat) (b : Bool) : Nat :=
  let top := crc.testBit (w - 1)
  let shifted := crc * 2 % 2 ^ w
  if top != b then shifted ^^^ p else shifted

/-- The bits of a byte, most significant first. -/
def byteBits (b : Byte) : List Bool :=
  [b.toNat.testBit 7, b.toNat.testBit 6, b.toNat.testBit 5, b.toNat.testBit 4,
   b.toNat.testBit 3, b.toNat.testBit 2, b.toNat.testBit 1, b.toNat.testBit 0]

/-- The low `n` bits of a number, most significant first. -/
def natBits : Nat → Nat → List Bool
  | 0, _ => []
  | n + 1, v => v.testBit n :: natBits n v

/-- CRC-8, x^8 + x^2 + x + 1, initial value 0, MSB first (R85, R491). -/
def crc8Bits (bits : List Bool) : Nat := bits.foldl (crcLeftBit 8 0x07) 0

/-- CRC-8 over bytes. -/
def crc8 (bytes : List Byte) : Nat := crc8Bits (bytes.flatMap byteBits)

/-- CRC-16, x^16 + x^12 + x^5 + 1, initial value 0xFFFF, MSB first (R351). -/
def crc16Bits (bits : List Bool) : Nat := bits.foldl (crcLeftBit 16 0x1021) 0xFFFF

/-- One bit of a reflected checksum. -/
def crcRightBit (p : Nat) (crc : Nat) : Nat :=
  if crc % 2 = 1 then (crc / 2) ^^^ p else crc / 2

/-- One byte of a reflected checksum. -/
def crcRightByte (p : Nat) (crc : Nat) (b : Byte) : Nat :=
  let c0 := crc ^^^ b.toNat
  crcRightBit p (crcRightBit p (crcRightBit p (crcRightBit p
    (crcRightBit p (crcRightBit p (crcRightBit p (crcRightBit p c0)))))))

/-- A reflected 32-bit checksum with all-ones initial value and final inversion. -/
def crc32With (p : Nat) (bytes : List Byte) : Nat :=
  bytes.foldl (crcRightByte p) 0xFFFFFFFF ^^^ 0xFFFFFFFF

/-- CRC-32 of IEEE 802.3 (R356). -/
def crc32 (bytes : List Byte) : Nat := crc32With 0xEDB88320 bytes

/-- CRC-32C (R288). -/
def crc32c (bytes : List Byte) : Nat := crc32With 0x82F63B78 bytes

/-! ### Sequence numbers -/

/-- Serial arithmetic (R287, R478): `a` precedes `b` among numbers of `w` bits. -/
def precedes (w a b : Nat) : Bool :=
  let d := (b + 2 ^ w - a % 2 ^ w) % 2 ^ w
  d != 0 && d < 2 ^ (w - 1)

/-! ### Cause bits and events -/

/-- The event that a bit of a cause register raises when it goes from 0 to 1, by register, instance and bit
(R108, R196, R233, R268, R310, R347, R381, R435, R501, R528, R558, R559, R586).
TRIER_CAUSE raises its events by the rules of its own chapter. -/
def causeEvent (o : Obj) (i b : Nat) : Option Nat :=
  match o with
  | .BANK_CAUSE => some (0x20 + i)
  | .LANE_CAUSE => some (0x50 + b)
  | .UNIT_CAUSE => some (0x60 + b)
  | .PRESS_CAUSE => some (0x70 + b)
  | .QC_CAUSE => some (0x80 + b)
  | .LN_CAUSE => some (0x90 + b)
  | .RL_CAUSE => match b with
    | 0 => some 0xA0 | 1 => some 0xA1 | 5 => some 0xA2 | 3 => some 0xA3 | 4 => some 0xA4 | 6 => some 0xA5
    | 7 => some 0xA6 | 8 => some 0xA7 | 9 => some 0xA8 | 10 => some 0xA9 | 11 => some 0xAA | 12 => some 0xAB
    | 14 => some 0xAC | _ => none
  | .TWIN_CAUSE => some (0xB0 + b)
  | .MJ_CAUSE => some (0xC0 + b)
  | .SEC_CAUSE => some (0xD0 + b)
  | .PW_CAUSE => some (0xE0 + b)
  | .ST_CAUSE => some (0xF0 + b)
  | .FI_CAUSE => some (0xF8 + b)
  | _ => none

end Sys2Proof.Machine
end

