-- ==== Sys2Proof/Machine/State.lean ====
section
/-! DEFINITION. The state of the hub as plain data: the object dictionary's contents, everything the manual gives the
hub beside them, chapter by chapter, the queue of commands that wait, and the machine right after reset. -/

namespace Sys2Proof.Machine

/-- The contents of the numeric objects: an object not listed holds its default. -/
abbrev Store := List (Key × Int)

/-- The contents of the STR and BLOB objects: an object not listed holds its default. -/
abbrev Blobs := List (Key × List Byte)

/-! ### Time bases (02_time_and_grid) -/

/-- The time unit and the keeper count: what R38 to R69 hold beside the objects. Times are in 2^-24 ns. -/
structure TimeUnit where
  /-- Time-unit clock cycles of 2 ns since reset, the base of every duration in µs and ms. -/
  cycle : Nat := 0
  /-- The VT accumulator (R38), whole seconds included. -/
  vt : Int := 0
  /-- The PT accumulator (R44). -/
  pt : Int := 0
  /-- VT slew still to run; SLEW_REMAINING is its top part (R41, R42). -/
  vtSlew : Int := 0
  /-- PT slew still to run (R44). -/
  ptSlew : Int := 0
  /-- KT (R72). -/
  kt : Nat := 0
  /-- Part of a keeper period gone, in units of 1/500,000,000 period. -/
  ktPhase : Nat := 0
  /-- A SERVO_OWNER written and not yet in effect (R46). -/
  ownerNext : Option Int := none
  /-- VT millisecond of the last servo cycle (R47), and PT's. -/
  servoMs : Int := 0
  ptMs : Int := 0
  /-- The latest valid offset of the VT source since the last servo cycle, 2^-16 ns (R47, R49). -/
  offset : Option Int := none
  /-- The latest valid offset of PT (R69). -/
  ptOffset : Option Int := none
  /-- Servo cycles without a valid offset, and whether EV 0x03 stands for this loss (R50). -/
  lostRun : Nat := 0
  lostRaised : Bool := false
  ptLostRun : Nat := 0
  ptLostRaised : Bool := false
  /-- Cycle at which the present servo cycle began (R47). -/
  servoAt : Nat := 0
  /-- Consecutive qualifying servo cycles (R54). -/
  qualify : Nat := 0
  ptQualify : Nat := 0
  /-- Sum and number of the increments of the cycles spent in ACQUIRING (R54). -/
  acqSum : Int := 0
  acqCount : Nat := 0
  ptAcqSum : Int := 0
  ptAcqCount : Nat := 0
  /-- Increments of the latest servo cycles without slew deviations, newest first (R55). -/
  incs : List Int := []
  ptIncs : List Int := []
  /-- PT's own holdover increment and time (R69). -/
  ptHoldInc : Int := 33554432
  ptHoldTime : Nat := 0
  /-- First grid instant of each VT state, newest first: whether its records carry HOLD (R56). -/
  holdLog : List (Int × Bool) := []
  /-- The same by trier clock, for the sampling instants of R141. -/
  holdClocks : List (Int × Bool) := []
  /-- First grid instant of each modulator clock state, newest first: whether it is LOCKED (R63). -/
  lockLog : List (Int × Bool) := []
  /-- Per-tick phases of R61, newest first. -/
  phases : List Int := []
  /-- Consecutive ticks with a phase of 4 ns or less, and whether the last tick's phase exceeded 30 ns (R61). -/
  phaseGood : Nat := 0
  phaseBad : Bool := false
  /-- Cycle of the last PPS_IN edge or of its last EV 0x0B (R64). -/
  ppsSince : Nat := 0
  ppsRaised : Bool := false
  /-- Whole second of the last PPS_OUT pulse, and whether the pulse is high since a cycle (R66). -/
  ppsOutSecond : Int := 0
  ppsOut : Bool := false
  ppsOutSince : Nat := 0
  /-- A slew is being worked off and EV 0x06 is due at its end (R42, R44). -/
  vtSlewing : Bool := false
  ptSlewing : Bool := false
  /-- The bits of the holdover increments of VT and PT below the reported ones, 2^-32 of a unit, and what they have
  added up to (R55). -/
  holdFrac : Int := 0
  holdAcc : Int := 0
  ptHoldFrac : Int := 0
  ptHoldAcc : Int := 0
  /-- The last accepted increment write and slew write: their cycle and what they replaced (R57). -/
  incWrite : Option (Nat × Int) := none
  slewWrite : Option (Nat × Int × Bool) := none
  /-- The PT stamp of the last PPS_IN edge, 2^-16 ns (R64, R67). -/
  ppsPt : Int := 0
  /-- CLK10_IN was lost while in use and has not been selected again (R65). -/
  clkLost : Bool := false
  /-- HOLDOVER was entered from LOCKED to PPS_IN (R69). -/
  heldPps : Bool := false
  /-- The crystal has stopped and the keeper runs on its RC (R72). -/
  rcFallback : Bool := false
deriving DecidableEq, Repr, Inhabited

/-- The PTP port beside its objects (R68). -/
structure PtpPort where
  /-- Sequence numbers of the messages sent: Sync, Announce, delay request. -/
  syncSeq : Nat := 0
  announceSeq : Nat := 0
  delaySeq : Nat := 0
  /-- Cycle of the last Announce received. -/
  announceAt : Nat := 0
  /-- Cycle of the last message of each kind sent. -/
  syncAt : Nat := 0
  sentAnnounceAt : Nat := 0
  delayAt : Nat := 0
  /-- Origin and receive stamps of the last Sync, PT in 2^-16 ns. -/
  syncTx : Int := 0
  syncRx : Int := 0
  /-- Transmit stamp of the last delay request. -/
  delayTx : Int := 0
  /-- The masters heard: identity, rank by the comparison of IEEE 1588, and the cycle of the last Announce (log entry 12). -/
  foreign : List (Nat × List Nat × Nat) := []
  /-- The stamps of a two-step Pdelay_Resp that waits for its follow-up: t2, and its receive stamp. -/
  pdelay : Option (Int × Int) := none
deriving DecidableEq, Repr, Inhabited

/-! ### Frame sequencer (01_architecture) -/

/-- The frame sequencer beside its objects (R20 to R27). -/
structure Sequencer where
  /-- The next tick to run while RUNNING. -/
  next : Int := 0
  /-- Whether a COMMIT step ran in the last tick (R26). -/
  commitRan : Bool := false
  /-- An immediate commit accepted and not yet applied (R446). -/
  immediate : Bool := false
  /-- Records that left the harp in the tick, in channel order (the record bus). -/
  bus : List Rec := []
  /-- Instances, class × 64 + instance, that a CLOSE and an EMIT step of the tick named (R21), and those of its LATCH and COMMIT
  steps. -/
  closes : List Nat := []
  emits : List Nat := []
  latches : List Nat := []
  commits : List Nat := []
  /-- Channels whose block fails the checker should acquisition stop in the tick (R248). -/
  badBlocks : List Nat := []
deriving DecidableEq, Repr, Inhabited

/-! ### Channels, banks, companions and spares (03_channel_front_ends) -/

/-- What a mark puts on a record. -/
inductive MarkKind where
  | whey | absent
deriving DecidableEq, Repr, Inhabited

/-- The cause of a mark, by which an open mark is closed. -/
inductive MarkTag where
  | presence | fault | span | execution | divider | requal
deriving DecidableEq, Repr, Inhabited

/-- Records of index `lo` to `hi` carry a flag (R90, R92, R125, R640); an open mark has no `hi`. -/
structure Mark where
  kind : MarkKind
  tag  : MarkTag
  lo   : Int
  hi   : Option Int
deriving DecidableEq, Repr, Inhabited

/-- The path that gives a channel's records from an index on (R184). -/
inductive Serve where
  | live | spare | fadeIn (n : Nat) | fadeOut (n : Nat)
deriving DecidableEq, Repr, Inhabited

/-- Stages 1 to 5 of a path (R163). Registers of the CIC hold a value and its residue modulo 7 (R168); lists of samples are
newest first, the samples in 2^-8 LSB. -/
structure Body where
  /-- The first grid instant whose bits the chain takes. -/
  since : Int := 0
  ints  : List (Nat × Nat) := []
  combs : List (Nat × Nat) := []
  /-- CIC outputs of the latched interval that no ADVANCE has taken, with the modulator clock of each, oldest first. -/
  cic   : List (Int × Int) := []
  /-- Inputs of the halfband stages, and of the compensation FIR. -/
  halfs : List (Nat × List Int) := []
  fir   : List Int := []
  /-- Inputs and outputs of the notches: at 2k + f for coefficient bank k and frequency f. -/
  notch : List (Nat × List Int × List Int) := []
  /-- The six newest inputs of stage 5, from both coefficient banks. -/
  outs  : List (Int × Int) := []
deriving DecidableEq, Repr, Inhabited

/-- A chain of a path: its preset, the first index it gives (R191), and its stages. -/
structure Chain where
  preset : Nat := 2
  start  : Int := 0
  body   : Body := {}
deriving DecidableEq, Repr, Inhabited

/-- A chain in the drain context: it gives the records of index below `stop` (R191). -/
structure Drain where
  chain : Chain
  stop  : Int
deriving DecidableEq, Repr, Inhabited

/-- The settings a record is taken under (R26, R77, R78, R183): those in force at its index. -/
structure ChanCfg where
  mode : Int := 0
  range : Int := 0
  exc : Int := 0
  offset : Int := 0
  gain : Int := 1073741824
  lead : Int := 0
  delay : Int := 0
  spareDelay : Int := 0
  dcb : Bool := false
  dcbShift : Int := 12
  autoFreeze : Bool := true
  trim : Int := 0
  notch : Int := 0
  /-- CJC_TABLE of the bank while the mode is TC (R80). -/
  cjcTable : List Byte := []
deriving DecidableEq, Repr, Inhabited

/-- What the control plane keeps for a channel beside its objects. -/
structure Chan where
  /-- Consecutive ticks in which presence failed, and the first of them (R90). -/
  failRun  : Nat := 0
  failFrom : Int := 0
  /-- The detector's result of the tick, not yet counted (R94): the tick, and whether presence failed. -/
  verdict  : Option (Int × Bool) := none
  /-- Consecutive ticks in which presence passed, and the first of them (R93). -/
  passRun  : Nat := 0
  passFrom : Int := 0
  /-- The tick e + P at which REQUALIFY ends (R640). -/
  release  : Int := 0
  /-- The test kind whose fault is latched: 3 WIRE, 4 SUPPLY, 5 PROBE (R92). -/
  faultKind : Nat := 0
  marks    : List Mark := []
  /-- Serving paths by first index, newest first. -/
  serve    : List (Int × Serve) := []
  /-- Settings by first index, newest first. -/
  cfgs     : List (Int × ChanCfg) := []
  /-- Sign of the excitation a scan entry gives, by first index, newest first: 1 as committed, −1 reversed, 0 off. -/
  exc      : List (Int × Int) := []
  chain    : Chain := {}
  drain    : Option Drain := none
  /-- An abandoned drain whose records leave in the next tick (R192). -/
  flush    : Option Drain := none
  /-- Index spans of the sample hold (R186). -/
  holds    : List (Int × Int) := []
  /-- The last value before stage 8, 2^-8 LSB, not held (R186). -/
  lastVal  : Int := 0
  /-- Whether a LEAD execution has given LEAD_EST (R123). -/
  leadDone : Bool := false
  /-- Ticks with overload, newest first (R190). -/
  overs    : List Int := []
deriving DecidableEq, Repr, Inhabited

/-- A companion command frame (R85): opcode, sequence, register and data. -/
structure CompCmd where
  opc  : Nat
  seq  : Nat
  reg  : Nat
  data : Nat
deriving DecidableEq, Repr, Inhabited

/-- What the spare's visit is for (R104). -/
inductive Visit where
  | shadow | calibrate | mismatch
deriving DecidableEq, Repr, Inhabited

/-- The spare modulator of a bank beside its objects (R96 to R105). -/
structure Spare where
  visit     : Visit := .shadow
  /-- Input last visited; 15 before the first visit. -/
  last      : Nat := 15
  /-- Input to visit first after a fence lift (R520). -/
  firstNext : Option Nat := none
  /-- The last index of the invalid span after the spare connects to the input (R96). -/
  spanEnd   : Int := 0
  /-- First and last index of the dwell (R96). -/
  from_     : Int := 0
  upto      : Int := 0
  /-- Tick in which the present stage ends (R99, R102). -/
  stageEnd  : Int := 0
  /-- Index at which the live modulator left its input, and at which it is back (R99, R102). -/
  off       : Option (Int × Int) := none
  /-- Compared pairs, sum and sum of squares of their differences in 2^-8 LSB (R97). -/
  pairs     : Nat := 0
  diffSum   : Int := 0
  diffSq    : Nat := 0
  spoiled   : Bool := false
  /-- Live channels that failed while the spare arbitrates (R105). -/
  claimants : List Nat := []
  /-- Whether the fade is after a failed arbitration of the spare (R99). -/
  thenFailed : Bool := false
  /-- The coefficients of the calibration in COVER are written (R102). -/
  calDone : Bool := false
  /-- Path S: its chain, the one in its drain context (R191), and the last index of its records that carry WHEY on account of
  coefficient parity (R97, R176). -/
  chain   : Chain := {}
  drain   : Option Drain := none
  flush   : Option Drain := none
  wheyTo  : Option Int := none
deriving DecidableEq, Repr, Inhabited

/-- What the control plane keeps for a bank beside its objects. -/
structure Bank where
  /-- Companion exchange (R84 to R88). -/
  seq      : Nat := 0
  sent     : Option CompCmd := none
  goodRun  : Nat := 0
  badRun   : Nat := 0
  syncTicks : Nat := 0
  versionRead : Bool := false
  /-- WRITE exchanges that wait, in register order: register and value (R87). -/
  writes   : List (Nat × Nat) := []
  /-- The values planned for registers 0x01 to 0x04. -/
  plan     : List (Nat × Nat) := []
  /-- Tick whose exchange carried the present DIVIDER, and inputs whose invalid span waits for it (R124). -/
  dividerAt : Option Int := none
  dividerWait : List (Nat × Int) := []
  /-- Whether FAULT_LATCH is to be read (R86). -/
  latchDue : Bool := false
  /-- Whether a good WRITE has applied the probe register (R119). -/
  probeLive : Bool := false
  /-- Consecutive monitor failures by modulator, 16 for S, and modulators failed (R95). -/
  monRuns  : List (Nat × Nat) := []
  failed   : List Nat := []
  /-- Live modulators replaced by a repair (R100). -/
  replaced : List Nat := []
  spare    : Spare := {}
  /-- Calibration requests that wait, by input (R102). -/
  calQueue : List Nat := []
  /-- A calibration without cover in progress: input, and the cycle in which it ends. -/
  calNow   : Option (Nat × Nat) := none
  /-- A BANK_DELAY_CAL in progress: the cycle in which it ends (R103). -/
  delayCal : Option Nat := none
  /-- Cold-junction temperature by tick, newest first, and whether it may be used (R157). -/
  cjc      : List (Int × Int × Bool) := []
deriving DecidableEq, Repr, Inhabited

/-! ### Scan tables (04_scan_tables_and_validity) -/

/-- What an execution of a test or LEAD entry has found of one acting input (R119, R123). -/
structure ExecStat where
  /-- Sums (2^-8 LSB) and counts of usable records of the first and second half. -/
  sumA : Int := 0
  numA : Nat := 0
  sumB : Int := 0
  numB : Nat := 0
  /-- Ticks of the second half with and without positive overload, and with any overload. -/
  above : Nat := 0
  clear : Nat := 0
  any : Nat := 0
  /-- Good responses that count, and those with a hit. -/
  polls : Nat := 0
  hits : Nat := 0
  /-- Consecutive ticks with the loop current below −REV_LIMIT. -/
  revRun : Nat := 0
deriving DecidableEq, Repr, Inhabited

/-- One execution of a scan entry (R112 to R120); `kind` is that in effect, MEASURE for a test skipped by EVERY. -/
structure Exec where
  entry : Nat := 0
  number : Nat := 0
  kind : Nat := 0
  pass : Nat := 0
  /-- First index and the index after the last. -/
  start : Int := 0
  stop : Int := 0
  /-- Acting inputs, as a mask. -/
  mask : Nat := 0
  /-- Last index of the invalid span of its switch, by input; and of the second half of WIRE. -/
  spanA : List (Nat × Int) := []
  spanB : List (Nat × Int) := []
  stats : List (Nat × ExecStat) := []
deriving DecidableEq, Repr, Inhabited

/-- The executions of one entry in one pass, until their verdicts are taken (R120). -/
structure TestRun where
  entry : Nat := 0
  kind : Nat := 0
  pass : Nat := 0
  execs : List Exec := []
  /-- Whether the last execution of the entry has ended. -/
  closed : Bool := false
  /-- Acting inputs whose verdict is not yet taken. -/
  left : List Nat := []
  /-- Whether a fenced tick fell into an execution (R133). -/
  fenced : Bool := false
deriving DecidableEq, Repr, Inhabited

/-- A bank's scanner beside its objects. -/
structure Scan where
  holdWait : Bool := false
  /-- The pass boundary at which a released table resumes (R132). -/
  resume : Option Int := none
  current : Option Exec := none
  runs : List TestRun := []
deriving DecidableEq, Repr, Inhabited

/-! ### Trier converters (05_trier_converters) -/

/-- A piece of work of a converter (R152). -/
inductive TrierWork where
  | none | sequence (entry : Nat) | injected (word : Nat) | calibrate (step : Nat)
deriving DecidableEq, Repr, Inhabited

/-- A converter beside its objects. Times are trier clocks of 25 ns since VAT_EPOCH. -/
structure Trier where
  work : TrierWork := .none
  /-- Clocks at which the work began, of its sampling instant, and at which it ends. -/
  begun : Int := 0
  sampled : Int := 0
  ends : Int := 0
  /-- The next entry of the pass in progress. -/
  pass : Option Nat := none
  passGrid : Int := 0
  /-- The injected slot (R146, R148). -/
  slot : Option Nat := none
  /-- Aborts of the present entry in the pass, and whether its conversion is a restart (R147, R141). -/
  aborts : Nat := 0
  restarted : Bool := false
  /-- A START waits for its pass (R143, R153). -/
  startDue : Bool := false
  /-- Entry word, limits, linearisation and queue under which the work in progress began (R156). -/
  word : Nat := 0
  window : Nat := 0
  linGain : Int := 0
  linOffset : Int := 0
  queue : Nat := 255
  /-- A calibration pending, and the next step of one that runs (R149, R150). -/
  calPending : Bool := false
  calNext : Option Nat := none
  /-- The GRID passes armed, by grid instant, oldest first (R144). -/
  armed : List Int := []
  /-- The clocks in which a request, a calibration and a start of a pass were last accepted (R154). -/
  injAt : Option Int := none
  calAt : Option Int := none
  startAt : Option Int := none
  /-- ABORT_LIMIT under which the work in progress began (R156). -/
  abortLimit : Nat := 0
  /-- Clock at which the converter can first convert after a commit powered it (R152). -/
  readyAt : Option Int := none
  /-- A commit takes effect at the end of the present work (R152, R156). -/
  offDue : Bool := false
  cutDue : Bool := false
  /-- Clock of the sampling instant of the last result by entry (R157). -/
  stamps : List (Nat × Int) := []
deriving DecidableEq, Repr, Inhabited

/-- A result word that waits for a queue (R142, R290): converter, queue, tick of completion, grid index, word. -/
structure TrierWord where
  trier : Nat
  queue : Nat
  tick  : Int
  grid  : Int
  word  : BitVec 64
deriving DecidableEq, Repr, Inhabited

/-- The excitation calibration of R158: the bank in progress, and the corrections stored by channel: offset in 0.1 nA and gains in
ppm for each polarity. -/
structure ExcCal where
  bank : Option Nat := none
  /-- Points done of the 48, +1.5 mA, 0 and −1.5 mA of each input, with the sums of their 16 values in 0.1 µA, oldest first. -/
  sums : List Int := []
  /-- Cycle at which the present point has settled; its conversions done and their sum; whether one is under way. -/
  readyAt : Nat := 0
  count : Nat := 0
  sum : Int := 0
  waiting : Bool := false
  stored : List (Nat × Int × Int × Int) := []
  applied : List (Nat × Int × Int × Int) := []
deriving DecidableEq, Repr, Inhabited

/-! ### Harp lanes (06_harp_decimation) -/

/-- A swap of coefficient banks by index: records before `s` come from `old`, the first `n` outputs from `s` fade to `new`. -/
structure CoefSeg where
  s : Int
  old : Nat
  new : Nat
  n : Nat
deriving DecidableEq, Repr, Inhabited

/-- A harp lane beside its objects. -/
structure Lane where
  /-- Swap requests not yet judged: target, S, and whether a commit made it (R172, R195). -/
  requests : List (Nat × Int × Bool) := []
  segs : List CoefSeg := []
  /-- E and the target of the fade in progress (R173). -/
  fadeEnd : Int := 0
  fadeTo : Nat := 0
  /-- Coefficients that hold below a grid index, oldest first: the index, bank, preset and bytes (R26, R171, R174). -/
  former : List (Int × Nat × Nat × List Byte) := []
  /-- Banks whose parity failed: bank, paths, and the tick from which the reloaded contents serve (R176). -/
  reload : List (Nat × List Nat × Int) := []
  /-- Ticks of residue mismatches and of bus parity failures, newest first (R169, R523). -/
  residues : List Int := []
  parities : List Int := []
  /-- Whether cause bit [1] is due in the first tick (R172). -/
  swapAtStart : Bool := false
deriving DecidableEq, Repr, Inhabited

/-! ### Events and fences (16_events_fences_integrity) -/

/-- The delivery of one event (R510, R511). -/
structure EvDelivery where
  /-- Raises since the last report, saturating; whether a report is held for want of a direction. -/
  count : Nat := 0
  held : Bool := false
  /-- Cycle at which the hold-off ends; none when it does not run. -/
  until_ : Option Nat := none
  mbxCount : Nat := 0
  mbxWaiting : Bool := false
  mbxUntil : Option Nat := none
  /-- Cycle of the latest accepted raise (R509). -/
  raisedAt : Option Nat := none
deriving DecidableEq, Repr, Inhabited

/-- What happened to the fence of one instance in a tick (R521). -/
structure FenceTick where
  tick : Int := 0
  auto : Bool := false
  lifted : Bool := false
deriving DecidableEq, Repr, Inhabited

/-- Cause bits set in a cycle of their register, for R109. -/
structure CauseTick where
  tick : Int := 0
  mask : Nat := 0
  /-- Those that raised their event in the tick. -/
  raised : Nat := 0
deriving DecidableEq, Repr, Inhabited

/-! ### Dictionary access (14_object_dictionary) -/

/-- An item of a READ or WRITE (R457, R458): its entry; type code and value in a WRITE. -/
structure Item where
  index : Nat
  sub   : Nat
  type  : Nat := 0
  value : List Byte := []
deriving DecidableEq, Repr, Inhabited

/-- A request being executed: where its response goes and under what, what has been served and what is left. One that is
held waits for a commit (R446) or for a packet of a queue until a cycle (R280). -/
structure Held where
  dest      : Binding := {}
  /-- TAG of the DICT_REQ (R470). -/
  tag     : Nat := 0
  op      : Nat := 0
  staged  : Bool := false
  session : Nat := 0
  mseq    : Nat := 0
  role    : Role := .observer
  /-- Key of the responses; empty where the response goes in clear (R455). -/
  keyOut  : List Byte := []
  /-- Response items, their number and the first error among them (R453). -/
  done    : List Byte := []
  count   : Nat := 0
  err     : Nat := 0
  todo    : List Item := []
  /-- OFFSET of a SEG_READ (R459). -/
  offset  : Nat := 0
  wait    : Option (Nat × Nat) := none
deriving DecidableEq, Repr, Inhabited

/-- A session (R464, R465). -/
structure Session where
  open_    : Bool := false
  admitted : Bool := false
  role     : Role := .observer
  binding  : Binding := {}
  /-- Keys of the two directions (R455), and the hash over which PROVE signs (R537). -/
  keyIn    : List Byte := []
  keyOut   : List Byte := []
  transcript : List Byte := []
  /-- Greatest MSEQ executed and which of the last 64 were executed (R465). -/
  mseq     : Nat := 0
  window   : List Nat := []
  /-- The responses to the last 4 requests, newest first. -/
  kept     : List (Nat × Msg) := []
  /-- Cycle of the last message (R464). -/
  lastAt   : Nat := 0
  /-- The segment buffer of R459 and R460: entry, bytes, and the queue a held packet came from. -/
  segKey   : Option Key := none
  segBuf   : List Byte := []
  segQueue : Option Nat := none
  /-- Bytes of a held packet already served (R460). -/
  segPos   : Nat := 0
  /-- A request that waits for a packet (R280, R460). -/
  parked   : Option Held := none
deriving DecidableEq, Repr, Inhabited

/-- What the SPI host port last read, for the level of SPI_RDY (R279, R469). -/
inductive SpiRead where
  | queue (q : Nat)
  | response
deriving DecidableEq, Repr, Inhabited

/-- The dictionary engine and its transports beside the objects (R444 to R470). -/
structure Engine where
  /-- Entries staged one by one (R444). -/
  staged : List (Key × Val) := []
  /-- Values of a commit whose instances no COMMIT step has named yet (R21; log entry 123). -/
  owed : List (Key × Val) := []
  /-- MRAM image of CFG_SAVE (R450). -/
  saved : Option (List (Key × Val)) := none
  /-- G and digest of the armed commit (R34). -/
  armed : Option (Nat × Nat) := none
  /-- The copy of R18: status objects of the latest completed tick, and whether one was taken since the start. -/
  snap : Store := []
  snapBytes : Blobs := []
  snapTaken : Bool := false
  sessions : List (Nat × Session) := []
  /-- Messages that wait on each path (R467): SPI, UDP, ring. -/
  spiIn : List Msg := []
  udpIn : List (Binding × Msg) := []
  ringIn : List (Binding × Nat × Msg) := []
  /-- The request whose COMMIT_NOW waits for its tick: the engine takes no message meanwhile (R446). -/
  late : Option Held := none
  /-- What the SPI host port reads: the level of SPI_RDY follows it (R279). -/
  spiRead : Option SpiRead := none
  /-- The response pending on SPI (R469). -/
  spiOut : List Msg := []
  /-- Service payloads of the responses held for want of a direction (R470). -/
  ringHeld : List (List Byte) := []
deriving DecidableEq, Repr, Inhabited

/-! ### Mailboxes, locks and the journal (15_mailboxes_locks_journal) -/

/-- A mailbox channel beside its objects (R472 to R482). -/
structure Mailbox where
  inbox   : List Notice := []
  outbox  : List Notice := []
  inWin   : List (Nat × Byte) := []
  outWin  : List (Nat × Byte) := []
  /-- NSEQ of the last notice placed in each direction. -/
  inSeq   : Nat := 0
  outSeq  : Nat := 0
  /-- Host acknowledgement of outbound notices, and NSEQ of the latest taken. -/
  ackRx   : Nat := 0
  taken   : Nat := 0
  /-- Outbound notices with ACK_WANTED taken and not acknowledged: NSEQ, KT of the take, counted late. -/
  unacked : List (Nat × Nat × Bool) := []
  /-- Inbound notices with ACK_WANTED taken or waiting that MBX_ACK_TX does not cover. -/
  inWanted : List Nat := []
  /-- Outbound notices held back in firmware (R475). -/
  held    : List Notice := []
  emptyArmed : Bool := false
  /-- KT at which the channel became CROSSED. -/
  crossedAt : Nat := 0
  session : Nat := 0
deriving DecidableEq, Repr, Inhabited

/-- The renewal of a lock: KT of the last acquisition or renewal (R487). -/
structure Lock where
  renewedAt : Nat := 0
deriving DecidableEq, Repr, Inhabited

/-- The journal beside its objects (R490 to R499). -/
structure Journal where
  /-- Entries in MRAM by slot. -/
  slots : List (Nat × List Byte) := []
  /-- Entries in the cave mirror by slot. -/
  mirror : List (Nat × List Byte) := []
  /-- Slots whose mirror write is still due, with the entry (R496). -/
  mirrorDue : List (Nat × List Byte) := []
  /-- MRAM slots whose cells do not verify or read uncorrectably (R490, R497, R525). -/
  badSlots : List Nat := []
  /-- SEQ of the next entry. -/
  next : Nat := 0
  /-- KT and VT (2^-16 ns) of the newest anchor. -/
  anchor : Option (Nat × Int) := none
  /-- SEQ of the latest BOOT entry. -/
  boot : Nat := 0
deriving DecidableEq, Repr, Inhabited

/-! ### Lanes of the ring (10_ring_lanes) and the link layer (11_ring_link_layer) -/

/-- A serial lane beside its objects (R318 to R348). -/
structure SerLane where
  /-- LANE_ENABLE in force (R348). -/
  enabled : Bool := true
  /-- The transmitter PLL is locked and TRAIN blocks are sent (R337). -/
  txLocked : Bool := false
  /-- TX_SWING, TX_DEEMPH and TX_PRE in force: taken at each entry into DETECT (R348). -/
  drive : List Int := [4, 3, 0]
  /-- Cycle at which the present state began, and at which DETECT was left (R335, R337). -/
  stateAt : Nat := 0
  leftAt : Nat := 0
  /-- BSN of the last valid header, and consecutive headers that R328 counts. -/
  lastBsn : Option Nat := none
  badRun : Nat := 0
  adaptDone : Bool := false
  /-- The lane has left Rest: its adaptation starts from the stored coefficients (R332). -/
  warm : Bool := false
  /-- LANE of the far transmitter, consecutive usable TRAIN blocks with READY (R331, R333). -/
  farLane : Option Nat := none
  readyRun : Nat := 0
  /-- BSN from which the transmitter sends live blocks (R333), and from which it carries traffic (R342). -/
  liveAt : Option Nat := none
  stripeAt : Option Nat := none
  /-- Consecutive IDLE blocks received (R338), in Hush valid headers in a row (R339); and blocks sent since the last IDLE (R323). -/
  idleRun : Nat := 0
  sinceIdle : Nat := 0
  /-- Command words of CONTROL blocks that wait (R340). -/
  ctl : List Nat := []
  /-- Injections that wait: kind and number (R345), and blocks waited for a stuff bit. -/
  injects : List (Nat × Nat) := []
  stuffWait : Nat := 0
  /-- The last line bit sent and the length of its run (R322). -/
  lastBit : Bool := false
  run : Nat := 0
  /-- The pattern checker (R344): error-free bits in a row, bits and errors of the present 1,024, an error since synchronising. -/
  patGood : Nat := 0
  patBits : Nat := 0
  patErrs : Nat := 0
  patRaised : Bool := false
  /-- The generator and the checker (R344): the register of a PRBS, and the place in a fixed pattern. -/
  txReg : Nat := 2147483647
  txPhase : Nat := 0
  rxReg : Nat := 0
  rxPhase : Nat := 0
deriving DecidableEq, Repr, Inhabited

/-- A port beside its objects: its lanes as one link, and its link layer (R341 to R380). -/
structure Link where
  /-- BSN of the next block, equal on the lanes of the port (R320). -/
  bsn : Nat := 0
  /-- Physical lanes that carry traffic, as a mask (R341, R343). -/
  traffic : Nat := 0
  /-- Cycle at which the first lane entered ACTIVE (R343), and at which FAULT began (R336). -/
  waitFrom : Option Nat := none
  faultAt : Nat := 0
  /-- A Hush (1) or Rest (2) request that waits for its ACK, and the blocks it has waited (R339). -/
  request : Nat := 0
  reqBlocks : Nat := 0
  /-- CONTROL blocks still to send before electrical idle, and their command word (R339). -/
  closing : Nat := 0
  closeWord : Nat := 0
  /-- A LANE_ADD sent and not answered: its lane and BSN_AT (R342). -/
  adding : Option (Nat × Nat) := none
  /-- Frames that wait for the port with their rank in the order of R369: 0 Time, 1 LINK_KILL and PAUSE, 2 Twin,
  3 BEACON and LINK_NOTICE, 4 Event, 5 transit, 6 Service responses, 7 resent Data, 8 live Data, 9 replay copies. -/
  tx : List (Nat × Frame) := []
  /-- Frames in progress by stream: the words not yet sent. -/
  cur : List (Nat × List Nat) := []
  /-- Bytes of the frame in progress by stream (R353), and the streams that wait for a frame start (R354). -/
  rx : List (Nat × List Byte) := []
  waiting : List Nat := [0, 1, 2]
  /-- Frames received whole and not yet taken (R353). -/
  arrived : List (List Byte) := []
  /-- The far port does not fit (R360). -/
  misfit : Bool := false
  /-- Receive block periods of this port, and those in which DATA blocks failed or were missing, newest first (R376). -/
  period : Nat := 0
  badPeriods : List Nat := []
  /-- Cycle at which HOLD began (R377). -/
  holdAt : Nat := 0
  /-- Block period in which the received QUANTA ends, and cycle of the last PAUSE sent for this port's transit buffer (R371). -/
  pauseEnd : Nat := 0
  pauseSentAt : Nat := 0
  pausing : Bool := false
  /-- A PAUSE sent stands: QUANTA 0 follows when the fill falls below 1/4. -/
  pauseOut : Bool := false
  /-- Cycle of the last beacon of this side, and whether its loss stands (R363). -/
  beaconAt : Nat := 0
  sideBroken : Bool := false
deriving DecidableEq, Repr, Inhabited

/-- A RESEND request held (R372). -/
structure Resend where
  queue : Nat
  first : Nat
  count : Nat
  tag   : Nat
  /-- The first packet not held has been answered for. -/
  begun : Bool := false
deriving DecidableEq, Repr, Inhabited

/-- A usable SYNC of the present servo cycle (R393 to R397): its sequence, offset, DSUM with the link delay, the mean of its
loop delays when valid, and whether no fault stood. Times are in 2^-16 ns. -/
structure SyncNote where
  seq  : Nat
  off  : Int
  dsum : Int
  loop : Option (Int × Int)
  used : Bool
deriving DecidableEq, Repr, Inhabited

/-- The link delay measurement of a port and what its Time frames brought in the present servo cycle (R388 to R397). -/
structure TimePort where
  /-- Next DSEQ, cycle of the last DREQ, and the exchange that waits: DSEQ and, once its marker has left, T1 and its cycle. -/
  dseq : Nat := 0
  dreqAt : Option Nat := none
  open_ : Option (Nat × Option (Int × Nat)) := none
  /-- The last accepted raw delays, newest first, and those held out (R389). -/
  raws : List Int := []
  held : List Int := []
  syncs : List SyncNote := []
  /-- Returned own SYNCs of the grandmaster: sequence and loop delay (R396). -/
  loops : List (Nat × Int) := []
  /-- Offsets of CHECKs (R406), and CSEQ and cycle of the last CHECK sent. -/
  checks : List Int := []
  cseq : Nat := 0
  checkAt : Option Nat := none
  /-- Block period of the last write of ASYM_CORR, and the correction that still acts in it (R399). -/
  corrIn : Option (Nat × Int) := none
deriving DecidableEq, Repr, Inhabited

/-- A candidate for grandmaster as its ANNOUNCE gave it (R402). -/
structure Candidate where
  addr : Nat
  aseq : Nat
  prio : Nat
  eligible : Bool
  at_  : Nat
deriving DecidableEq, Repr, Inhabited

/-- Ring time transfer beside its objects (12_ring_time_transfer). -/
structure RingTime where
  ports : List (Nat × TimePort) := []
  cands : List Candidate := []
  /-- Next SYNC_SEQ, the VT instant of the last SYNC in units of 125,000 ns, and the loop delays to send (R391, R396). -/
  syncSeq : Nat := 0
  syncFor : Int := -1
  loopE : Int := 0
  loopW : Int := 0
  loopValid : Bool := false
  /-- ASEQ and cycle of the last ANNOUNCE sent. -/
  aseq : Nat := 0
  announceAt : Option Nat := none
  /-- Cycle since which this hub is best, and whether it sends SYNCs (R404). -/
  bestAt : Nat := 0
  sending : Bool := false
  /-- No eligible candidate remains and EV 0x1D has been raised (R403). -/
  none_ : Bool := false
  /-- Consecutive checked cycles beyond and within each limit (R398). -/
  asymBad : Nat := 0
  asymGood : Nat := 0
  dsumBad : Nat := 0
  dsumGood : Nat := 0
  /-- ASYM_CORR was written in this servo cycle (R407). -/
  corrected : Bool := false
deriving DecidableEq, Repr, Inhabited

/-- The ring beside its objects. -/
structure Ring where
  /-- Next FSEQ by class (R355). -/
  fseq : List (Nat × Nat) := []
  /-- Frames with DST all already delivered: SRC, class, FSEQ, newest first (R364). -/
  seen : List (Nat × Nat × Nat) := []
  /-- The latest beacon: SPLIT_VALID. -/
  splitValid : Bool := false
  resends : List Resend := []
deriving DecidableEq, Repr, Inhabited

/-! ### Twin operation (13_twin_operation) -/

/-- A twin unit beside its objects (R412 to R433). Counts are in KT. -/
structure Twin where
  /-- KT of the last heartbeat received; none before one, and whether its loss stands (R427). -/
  hbAt : Option Nat := none
  lost : Bool := true
  /-- What the last heartbeat gave: digest, firmware version, RING_VERSION. -/
  digest : Nat := 0
  firmware : Nat := 0
  ringVersion : Nat := 0
  /-- KT of the last heartbeat sent, and of the last WREQ. -/
  sentAt : Option Nat := none
  wreqAt : Option Nat := none
  /-- The partner's latest request and LAST_REQ_RX (R422). -/
  reqRx : Option Nat := none
  reqAt : Option Nat := none
  /-- Expiries that the partner and the witness have given (R421). -/
  byPartner : Nat := 0
  byWitness : Nat := 0
  /-- STANDBY sends REQ and acts on the first grant (R427). -/
  asks : Bool := false
  /-- The unit renews at the witness (R423). -/
  renews : Bool := false
  /-- Synchronised with the acting partner (R427), or the copy is complete. -/
  synced : Bool := false
  /-- H of a handover of this unit while ACTING: accepted, acknowledged, granted (R428). -/
  giving : Option Int := none
  acked : Bool := false
  granted : Bool := false
  /-- H of a handover towards this unit, and whether the grant is held. -/
  taking : Option Int := none
  holds : Bool := false
  /-- First index from which the unit acts or does not, newest first (R415, R431). -/
  actLog : List (Int × Bool) := []
  /-- TWIN_ACT_N is asserted. -/
  act : Bool := false
  /-- Tick of the switch after which TWIN_SEEN is checked (R429). -/
  seenFrom : Option Int := none
  /-- MSEQ of the next DICT_MIRROR (R419). -/
  mseq : Nat := 0
  /-- Compliance flags received by grid index, newest first (R415). -/
  mirrors : List (Int × List Byte) := []
  /-- Fragments of a packet being copied: SEQ, the next fragment, bytes; and the first and last SEQ still to be copied (R432). -/
  copy : Option (Nat × Nat × List Byte) := none
  copyFrom : Nat := 0
  copyTo : Nat := 0
  /-- Acquisition is stopped to adopt the partner's configuration (R432). -/
  adopting : Bool := false
  /-- The unit claims from SYNCING (R433). -/
  gap : Bool := false
  /-- The SEQ of STREAM_QUEUE that the last heartbeat gave. -/
  theirSeq : Nat := 0
  /-- A resynchronisation is under way, SYNC_INDEX, the SEQ of this unit's first packet of STREAM_QUEUE at or after it, and whether
  the retained packets before that one have been copied (R432). -/
  aligning : Bool := false
  syncIndex : Int := 0
  firstSeq : Option Nat := none
  copied : Bool := false
  /-- Consecutive servo cycles with PORT_OFFSET beyond TWIN_TIME_LIMIT (R435). -/
  split : Nat := 0
deriving DecidableEq, Repr, Inhabited

/-- A witness slot beside its objects (R426): KT of its last WREQ, and the lease term it named. -/
structure WitSlot where
  at_ : Nat := 0
  term : Nat := 0
  /-- The side last granted, 0xFF none, for EV 0xBF (R435). -/
  last : Int := 0xFF
deriving DecidableEq, Repr, Inhabited


/-! ### Queues, packets and the cave (09_queues_and_cave) -/

/-- A slot of a queue (R273, R281): its word, none while it is reserved; the end mark; whether the curd store found an
uncorrectable error in it (R524). -/
structure Slot where
  word : Option Word
  mark : Bool := false
  bad  : Bool := false
deriving DecidableEq, Repr, Inhabited

/-- What a producer's packet still has to write, of how many words (R277). -/
structure Incoming where
  words   : List Word
  total   : Nat
deriving DecidableEq, Repr, Inhabited

/-- A queue beside its objects. -/
structure Queue where
  wp : Nat := 0
  rp : Nat := 0
  slots : List Slot := []
  incoming : Option Incoming := none
  /-- The consumer is within a packet: words still to read in LENGTH mode, 0 in MARK mode (R283). -/
  reading : Option Nat := none
  /-- Depth, framing and drain applied at the last start (R273, R311). -/
  depth : Nat := 0
  framing : Nat := 0
  drain : Nat := 0
  /-- Dictionary reads that wait, oldest first: the cycle at which the wait matures, and the bytes the response can take
  (R280). -/
  waiting : List (Nat × Nat) := []
deriving DecidableEq, Repr, Inhabited

/-- A packet (R286): its header, payload and checks as stored. -/
structure Packet where
  queue   : Nat
  pflags  : Nat
  seq     : Nat
  grid    : Nat
  hub     : Nat
  ptype   : Nat
  payload : List Byte
  pcrc    : Nat
  e2e     : Option Nat
deriving DecidableEq, Repr, Inhabited

/-- The states of a segment (R297). -/
inductive SegState where
  | writing | held | acked | ripening | ripeOpen
deriving DecidableEq, Repr, Inhabited

/-- A packet in the stream ring: its write tick, its damage (R294, R301), whether a ring port has sent it (R372), and whether it
has been accounted as UNREADABLE (R301). -/
structure Stored where
  tick   : Int
  pkt    : Packet
  damage : Damage := .none
  sent   : Bool := false
  lost   : Bool := false
deriving DecidableEq, Repr, Inhabited

/-- A segment of the stream ring that is not FREE (R295, R297), with its packets in order and the span of write ticks its
index entry keeps. -/
structure Segment where
  id    : Nat
  state : SegState
  pkts  : List Stored := []
  bytes : Nat := 0
  lo    : Int := 0
  hi    : Int := 0
deriving DecidableEq, Repr, Inhabited

/-- Lost packets of one cause and queue, not yet reported (R301): number, FROM and TO, and records by channel. -/
structure Loss where
  cause   : Nat
  queue   : Nat
  packets : Nat
  lo      : Int
  hi      : Int
  counts  : List (Nat × Nat) := []
deriving DecidableEq, Repr, Inhabited

/-- The cave and its managers beside the objects. -/
structure Cave where
  /-- Segments that are not FREE, in time order. -/
  ring : List Segment := []
  /-- Segments of the layout in force, and those withdrawn from the pool (R293, R301). -/
  total : Nat := 0
  withdrawn : List Nat := []
  /-- Size of each capture region in force, MiB. -/
  regionMib : Nat := 0
  /-- SEQ of the last packet of each queue written. -/
  lastSeq : List (Nat × Nat) := []
  /-- The ripening request issued to the engine and not yet taken (R299). -/
  request : Option Nat := none
  /-- Write tick from which the replay reads on, its end, and the packets of that tick already copied (R305). -/
  replayAt : Int := 0
  replayTo : Int := 0
  replayDone : Nat := 0
  /-- Losses whose LOSS packet is not yet written (R301). -/
  losses : List Loss := []
  /-- Segments reclaimed in the present tick, oldest first, whose accounts and marks wait for its EMIT step (R295, R307). -/
  reclaims : List Segment := []
  /-- Cycle in which the last pass of the patrol scrubber ended (R294). -/
  scrubAt : Nat := 0
deriving DecidableEq, Repr, Inhabited

/-! ### Rennet (07_rennet_capture) -/

/-- A trigger unit's detector (R201 to R207): comparators undefined as none. -/
structure Detector where
  cmpA : Option Bool := none
  cmpB : Option Bool := none
  /-- Index of the open positive and negative pulse's first edge (R204). -/
  posFrom : Option Int := none
  negFrom : Option Int := none
  /-- A positive runt is open, and a negative one (R205). -/
  posRunt : Bool := false
  negRunt : Bool := false
  /-- e of R206, and whether the unit waits for the next edge. -/
  base : Option Int := none
  fired : Bool := false
  /-- The previous tested value, and the two slew detectors (R207). -/
  prev : Option Int := none
  slewUp : Bool := false
  slewDown : Bool := false
deriving DecidableEq, Repr, Inhabited

/-- A trigger unit beside its objects. -/
structure TrigUnit where
  det : Detector := {}
  force : Bool := false
  /-- A of R212 for a unit without region; and records below this index are skipped after a commit (R228). -/
  armFrom : Option Int := none
  skipTo : Int := 0
  /-- The condition matured in this tick and waits for TRIG_TIMEOUT_MATURES: the record. -/
  matured : Option Rec := none
  /-- Index of the newest record of the source that has left the harp. -/
  seen : Option Int := none
  /-- Line of the broadcast it took part in with the present capture, 0xFF none; and whether it came by broadcast. -/
  line : Nat := 255
  cond : Nat := 0
  value : Int := 0
deriving DecidableEq, Repr, Inhabited

/-- A capture region and its group (R209 to R220). -/
structure Region where
  /-- UNIT_STATE of the group. -/
  state : Nat := 0
  /-- Leader's capture objects in force, the leader, and the preset of the captured channels. -/
  first : Nat := 0
  count : Nat := 0
  pre   : Nat := 0
  post  : Nat := 0
  keep  : Bool := true
  queue : Nat := 255
  hist  : Nat := 255
  pmap  : Nat := 255
  stat  : Nat := 0
  rearm : Nat := 0
  mode  : Nat := 0
  leader : Nat := 0
  preset : Nat := 2
  /-- Records taken, oldest first: index and one word for each channel; the number of index rows written since arming. -/
  rows : List (Int × List Word) := []
  written : Nat := 0
  /-- A of R211. -/
  armFrom : Option Int := none
  trig : Int := 0
  tPrime : Int := 0
  preHeld : Nat := 0
  postHeld : Nat := 0
  late : Nat := 0
  mask : Nat := 0
  circular : Bool := false
  bcast : Bool := false
  forced : Bool := false
  sent : Bool := false
  origin : Nat := 0
  originUnit : Nat := 0
  lineSent : Nat := 255
  fenced : Bool := false
  seq : Nat := 0
  /-- Header of the capture held, and the data words in index order. -/
  header : List Byte := []
  data : List Word := []
  dataStart : Nat := 0
  /-- DATA_START of the capture held, and the words of its data area (R219). -/
  heldStart : Nat := 0
  heldSize : Nat := 0
  /-- Released in this tick: arming begins with the next (R216, R232). -/
  release : Bool := false
  /-- Parts still to push: GRID and payload (R216, R289). -/
  parts : List (Int × List Byte) := []
  pushing : Bool := false
  /-- Ticks of uncorrectable cave errors in the region, newest first (R514). -/
  errors : List Int := []
  /-- An uncorrectable curd store error fell on what circulates (R524). -/
  hurt : Bool := false
deriving DecidableEq, Repr, Inhabited

/-- A broadcast received and waiting for delivery: line, hub, unit, T, tick of reception (R225). -/
structure Bcast where
  line : Nat
  hub  : Nat
  unit : Nat
  t    : Int
  tick : Int
deriving DecidableEq, Repr, Inhabited

/-! ### Press (08_press_reduction) -/

/-- An open compression block of a channel: records of index `first` to below `stop` (R243). -/
structure Block where
  preset : Nat
  first  : Int
  stop   : Int
  /-- It ends before the boundary of R243. -/
  cut    : Bool := false
  recs   : List Rec := []
  /-- It was open at the lift of a fence, so it is given as under the fence (R264, R520). -/
  sub    : Bool := false
deriving DecidableEq, Repr, Inhabited

/-- An averaging interval or statistics window of a channel (R249 to R251). -/
structure Win where
  preset : Nat
  first  : Int
  stop   : Int
  cut    : Bool := false
  used   : Nat := 0
  sum    : Int := 0
  sumSq  : Nat := 0
  min_   : Int := 0
  max_   : Int := 0
  /-- OR of the flags of used records, and of all records. -/
  flagsUsed : Nat := 0
  flagsAll  : Nat := 0
  /-- It was open at the lift of a fence (R264, R520). -/
  sub : Bool := false
deriving DecidableEq, Repr, Inhabited

/-- The stream unit's configuration by record index (R237). -/
structure PressCfg where
  sel : List Nat := []
  avgN : Nat := 64
  avgMin : Nat := 1
  statN : Nat := 1024
  align : Nat := 0
  /-- SCAN_START and the pass length while the bank runs a scan table, else 0 and 0 (R249). -/
  pass : Int × Nat := (0, 0)
deriving DecidableEq, Repr, Inhabited

/-- A stream unit beside its objects. -/
structure StreamUnit where
  cfgs   : List (Int × PressCfg) := []
  blocks : List (Nat × Block) := []
  avgs   : List (Nat × Win) := []
  stats  : List (Nat × Win) := []
  /-- Indexes at which blocks of a channel are cut by a commit or a start (R243). -/
  cuts   : List (Nat × Int) := []
  /-- Indexes at which a new SCAN_START cuts intervals and windows aligned to passes (R249). -/
  passCuts : List Int := []
  /-- RAW records of this tick. -/
  raw    : List Rec := []
  /-- Ticks of verify failures, newest first (R248). -/
  fails  : List Int := []
deriving DecidableEq, Repr, Inhabited

/-- A histogram unit's configuration by record index (R237). -/
structure HistCfg where
  source : Nat := 0
  base   : Int := 0
  shift  : Nat := 0
  window : Nat := 0
  emit   : Bool := true
deriving DecidableEq, Repr, Inhabited

/-- The counts of a histogram window (R252, R253). -/
structure HistWin where
  bins : List (Nat × Nat) := []
  under : Nat := 0
  above : Nat := 0
  excluded : Nat := 0
  from_ : Option Int := none
  to_ : Int := 0
  /-- Preset of the records counted (R239). -/
  preset : Nat := 2
  /-- End of the window, if it has one. -/
  stop : Option Int := none
  saturated : Bool := false
  /-- It was open at the lift of a fence (R264, R520). -/
  sub : Bool := false
deriving DecidableEq, Repr, Inhabited

/-- A histogram unit beside its objects (R252 to R255). -/
structure Hist where
  cfgs : List (Int × HistCfg) := []
  /-- The window in progress, and windows whose end has passed and that no CLOSE step has closed yet, oldest first. -/
  live : HistWin := {}
  done : List HistWin := []
  /-- The region that binds the unit. -/
  bound : Option Nat := none
  /-- Tick of the latest close (R267). -/
  closedAt : Option Int := none
  /-- A HIST_CLOSE waits for a CLOSE step that names the unit. -/
  want : Bool := false
  /-- Unbound records below `since`, and those from `until_` on, are not counted (R237, R255). -/
  since : Int := 0
  until_ : Option Int := none
deriving DecidableEq, Repr, Inhabited

/-- A persistence map beside its objects (R256 to R258). -/
structure PMap where
  cells : List (Nat × Nat) := []
  bound : Bool := false
  /-- Units whose cause bit [12] a cell of this map set (R227, R256). -/
  units : List Nat := []
  /-- The next packet of a readout in progress, and the first tick it may be formed in. -/
  next : Option Nat := none
  start : Int := 0
  preset : Nat := 0
deriving DecidableEq, Repr, Inhabited

/-- A packet formed by the press and not yet in a queue (R241): its class 0 stream, 1 reduced, 2 statistics; its unit. -/
structure PressPacket where
  cls   : Nat
  unit  : Nat
  queue : Nat
  ptype : Nat
  grid  : Int
  payload : List Byte
deriving DecidableEq, Repr, Inhabited

/-- The press beside its objects. -/
structure Press where
  units : List (Nat × StreamUnit) := []
  hists : List (Nat × Hist) := []
  /-- STREAM_QUEUE, REDUCED_QUEUE and STAT_QUEUE by first index, newest first (R237). -/
  queues : List (Int × Nat × Nat × Nat) := []
  maps  : List (Nat × PMap) := []
  buffer : List PressPacket := []
  /-- Packets formed and not yet offered. -/
  fresh : List PressPacket := []
  /-- The last 31 records of each channel and preset of the segment ripened before (R262): channel, preset, records. -/
  tails : List (Nat × Nat × List Rec) := []
deriving DecidableEq, Repr, Inhabited


/-! ### Security, debug and power states (17_security_debug_power) -/

/-- The security logic, the firmware slots and the test port beside their objects (R533 to R548). Times are in KT. -/
structure Security where
  /-- The password record in MRAM: salt and hash; empty for none (R536). -/
  password : List Byte := []
  /-- The challenge last read and the KT of the read (R540). -/
  challenge : Option (List Byte × Nat) := none
  /-- The debug level granted by a challenge, and the end of the reopen term (R540). -/
  granted : Nat := 0
  reopenEnd : Nat := 0
  /-- The debug level requested by DEBUG_SET (R546). -/
  asked : Nat := 0
  /-- The TAP instruction in effect, and whether a refusal has been reported since Test-Logic-Reset (R546). -/
  tap : Tap := .bypass
  tapRefused : Bool := false
  /-- Contents of the image slots that were written since production: 0 A, 1 B (R541, R543). -/
  images : List (Nat × List Byte) := []
  /-- The trial image, and the KT at which its trial boot ran (R543). -/
  trial : Option Nat := none
  trialAt : Nat := 0
deriving DecidableEq, Repr, Inhabited

/-- The power manager and the keeper beside their objects (R549 to R553). -/
structure Power where
  /-- The hub is in OFF (R550). -/
  off : Bool := false
  /-- The keeper waits for VDD_CORE after a wake (R624). -/
  settling : Bool := false
  /-- Cause code of a wake source latched in SEALING (R550). -/
  wake : Option Nat := none
  /-- A shutdown waits for a handover of the twin (R427): the value of PWR_REQUEST. -/
  leaving : Bool := false
  /-- Cycle since which FRAME_STATE is STOPPED (R550). -/
  stoppedAt : Nat := 0
  /-- Tick at which the cave's last work in DIM ended (R552). -/
  caveIdleAt : Option Int := none
  /-- KT of the last wake: a request for a lower state in the same keeper period is refused (R557). -/
  wokenAt : Option Nat := none
deriving DecidableEq, Repr, Inhabited

/-! ### Self-test, repair and service life (18_self_test_repair_life) -/

/-- A test run beside its objects (R562 to R573). -/
structure SelfTest where
  /-- Greatest item of the profile: 6 for Quick, 7 for Full. -/
  last : Nat := 6
  /-- MISR, step counter, failed elements and those repaired of the item that runs. -/
  misr : Nat := 0xFFFFFFFF
  step : Nat := 0
  failed : Nat := 0
  repaired : Nat := 0
  /-- An abort of the item, and an end of the run, at the next step boundary (R571). -/
  abort : Bool := false
  stop : Bool := false
  /-- A run ended or went on from a cave item cut short, and waits for the region's restore (R571, R572). -/
  cut : Bool := false
  /-- A start that waits for the run to end (R571). -/
  start : Option Who := none
  /-- A fuse being blown: map entry and fuse entry, and the cycle at which it is done (R578). -/
  fuse : Option (Nat × Nat × Nat) := none
  /-- Soft entries that REPAIR_CLEAR empties at the next start (R577). -/
  clears : List Nat := []
  /-- KT of the last update of the life record; in OFF the counts of the hour begun (R585). -/
  lifeAt : Nat := 0
  /-- The part of an hour's consumption below 1 ppm, in 10^-9 ppm (R585). -/
  lifePart : Nat := 0
  /-- Curd store rows without repair, as array and row, and cave test regions withdrawn (R575). -/
  rowsOut : List (Nat × Nat) := []
  regionsOut : List Nat := []
  /-- Fuse entries that did not read at margin and are unusable (R578), or that the last power-on could not read (R579). -/
  badFuses : List Nat := []
deriving DecidableEq, Repr, Inhabited

/-! ### Start-up and vat membership (19_startup_and_vat_membership) -/

/-- The start sequence beside its objects (R588 to R599). -/
structure Boot where
  /-- RST_N is low; the cause code of the boot under way; its first cycle. -/
  rstLow : Bool := true
  cause : Nat := 0
  at_ : Nat := 0
  /-- Causes found at boot, set when the event controller starts: masks of SEC_CAUSE, PW_CAUSE and ST_CAUSE. -/
  sec : Nat := 0
  pw : Nat := 0
  st : Nat := 0
  /-- SEQ of the cave's contents kept by self-refresh (R590), with ACKED_SEQ and the marks of the replay index (R591). -/
  caveKept : Bool := false
  index : Store := []
  /-- The cave is trained and READY waits for a restore (R592). -/
  trained : Bool := false
  /-- AUTO_START has acted since entry into READY (R594). -/
  autoDone : Bool := false
  /-- Cycle of the last start, and the tick of the latest recovery cause (R598). -/
  startedAt : Nat := 0
  recoveryAt : Int := 0
  /-- LEFT as CFG_SAVE stored it (R610, R612). -/
  leftSaved : Bool := false
  /-- Channels that have left REQUALIFY since the start (R596). -/
  qualified : List Nat := []
deriving DecidableEq, Repr, Inhabited

/-- Vat membership beside its objects (R600 to R611). -/
structure Vat where
  /-- The latest record of each ring position with the cycle of its arrival. -/
  recs : List (Nat × List Byte × Nat) := []
  /-- The record last sent and its cycle. -/
  sent : List Byte := []
  sentAt : Option Nat := none
  /-- A jump was refused in this servo cycle, and the number of such cycles in a row (R604). -/
  jump : Bool := false
  split : Nat := 0
  /-- A second eligible candidate was heard since the last servo cycle (R604). -/
  second : Bool := false
  /-- LEFT holds (R610). -/
  left : Bool := false
deriving DecidableEq, Repr, Inhabited


/-! ### Outputs and answers -/

/-- What leaves the hub: frames on ring ports and the twin port, companion command frames, blocks, answers, datagrams. -/
inductive Out where
  /-- A frame that a port begins to send: 0 East, 1 West, 2 Twin. -/
  | frame (port : Nat) (f : Frame)
  /-- A companion command frame of a bank, 48 bits (R85). -/
  | companion (bank : Nat) (word : Nat)
  /-- A response message on a path (R453). -/
  | message (dest : Binding) (m : Msg)
  /-- A PTP message sent: kind and sequence (R68). -/
  | ptp (kind : Nat) (seq : Nat) (stamp : Int) (clockClass : Nat) (udp noChecksum : Bool)
  /-- An ARP or ICMP echo reply (R468). -/
  | ethReply (kind : Nat) (addr : Nat) (data : List Byte)
  /-- Bytes returned on the SPI host port (R469). -/
  | spi (data : List Byte)
  /-- The line bits of a block that a lane sends: their number and, first bit most significant, the bits (R320 to R322). -/
  | block (lane : Nat) (bits : Nat) (line : Nat)
deriving DecidableEq, Repr, Inhabited

/-- The hub's answer to the latest command of a master: the error code and the value returned. -/
structure Answer where
  err : Err := .ok
  val : Val := .unit
deriving DecidableEq, Repr, Inhabited

/-- Why the machine stops with a fault. No meaning of this block raises one:
every access the manual calls wrong is answered by an error code. -/
inductive Fault where
  /-- Never raised; the interface asks for a type. Safe. -/
  | none
deriving DecidableEq, Repr

/-- Why a command is refused by the model. -/
inductive Refusal where
  /-- A command without a meaning yet, by its mnemonic; raised by exec only. Safe: the machine stops. -/
  | notModelled (mnemonic : String)
deriving DecidableEq, Repr

/-- The state of the hub. -/
structure State where
  /-- The numeric objects of the dictionary, those not at their default. -/
  obj      : Store := []
  /-- The STR and BLOB objects, those not at their default. -/
  blob     : Blobs := []
  time     : TimeUnit := {}
  ptp      : PtpPort := {}
  frame    : Sequencer := {}
  chans    : List (Nat × Chan) := []
  banks    : List (Nat × Bank) := []
  scans    : List (Nat × Scan) := []
  triers   : List (Nat × Trier) := []
  lanes    : List (Nat × Lane) := []
  events   : List (Nat × EvDelivery) := []
  fences   : List (Nat × FenceTick) := []
  causes   : List (Key × CauseTick) := []
  engine   : Engine := {}
  mail     : List (Nat × Mailbox) := []
  locks    : List (Nat × Lock) := []
  journal  : Journal := {}
  serLanes : List (Nat × SerLane) := []
  links    : List (Nat × Link) := []
  ringTime : RingTime := {}
  twin     : Twin := {}
  wits     : List (Nat × WitSlot) := []
  ring     : Ring := {}
  excCal   : ExcCal := {}
  /-- Ticks of uncorrectable curd store errors in the storage of a press unit, a trigger unit or a queue, class × 64 +
  instance, newest first (R514). -/
  curdBad  : List (Nat × List Int) := []
  queues   : List (Nat × Queue) := []
  cave     : Cave := {}
  units    : List (Nat × TrigUnit) := []
  regions  : List (Nat × Region) := []
  bcasts   : List Bcast := []
  press    : Press := {}
  /-- Trier words that wait for a queue (R290). -/
  trierOut : List TrierWord := []
  sec      : Security := {}
  power    : Power := {}
  test     : SelfTest := {}
  boot     : Boot := {}
  vat      : Vat := {}
  /-- Draws of free values so far (log entry 5). -/
  draws    : Nat := 0
  /-- What left the hub, oldest first. -/
  out      : List Out := []
  answer   : Answer := {}
  /-- The commands that wait, first in, first out. -/
  pending  : List Instr := []
deriving DecidableEq, Repr

/-- The machine right after keeper power-on: every object at its default, every clock of account at 0, nothing held. -/
def State.reset : State := {}

end Sys2Proof.Machine
end

