-- ==== Sys2Proof/Machine/Ops.lean ====
section
/-! DEFINITION. The named operations over the state that every chapter uses: reading and writing objects and tables,
the grid index, counters, events and their delivery, cause registers, fences, frames handed to a port, the journal, and
the judging of a dictionary command. -/

namespace Sys2Proof.Machine

open Sys2Proof

/-! ### Objects and tables -/

/-- The default of a numeric object. -/
def objDefault (k : Key) : Int := k.obj.dflt k.inst

/-- A numeric object of an instance. -/
def State.get (s : State) (o : Obj) (i : Nat) : Int := Sparse.get objDefault s.obj ⟨o, i⟩

/-- Writes a numeric object. -/
def State.put (s : State) (o : Obj) (i : Nat) (v : Int) : State :=
  { s with obj := Sparse.put objDefault Key.code s.obj ⟨o, i⟩ v }

/-- The eight points of CJC_TABLE for type K: I16 in 0.01 °C and I32 in µV, little-endian (R80).
PRESUMED, log entry 10: the EMF table of IEC 60584 at −40, −20, 0, 20, 40, 60, 80 and 100 °C. -/
def typeKTable : List Byte :=
  [0x60, 0xF0, 0x09, 0xFA, 0xFF, 0xFF,  0x30, 0xF8, 0xF6, 0xFC, 0xFF, 0xFF,
   0x00, 0x00, 0x00, 0x00, 0x00, 0x00,  0xD0, 0x07, 0x1E, 0x03, 0x00, 0x00,
   0xA0, 0x0F, 0x4C, 0x06, 0x00, 0x00,  0x70, 0x17, 0x84, 0x09, 0x00, 0x00,
   0x40, 0x1F, 0xC3, 0x0C, 0x00, 0x00,  0x10, 0x27, 0x00, 0x10, 0x00, 0x00]

/-- The default of a STR or BLOB object: the type K table, the part number, and zeros in the stated length.
DESIGN CHOICE, log entry 2, for those whose default is production or per part. -/
def blobDefault (k : Key) : List Byte :=
  match k.obj with
  | .PART_NUMBER => [0x59, 0x51, 0x48, 0x35, 0x31, 0x32, 0x30]
  | .CJC_TABLE => typeKTable
  | .COEF_p => List.replicate 192 0
  | .CAP_HEADER => List.replicate 64 0
  | .HIST_BINS => List.replicate 4096 0
  | .RX_DFE => List.replicate 5 0
  | .ST_EXC_FAILED => List.replicate 64 0
  | .ST_CAL_LOST => List.replicate 64 0
  | .ROLE_KEY_r => List.replicate 64 0
  | .FW_KEY_HASH_k => List.replicate 32 0
  | .DEVICE_PUB => List.replicate 64 0
  | .SERVICE_ROOT => List.replicate 64 0
  | .LIFE_TJ_HIST => List.replicate 68 0
  | _ => []

/-- A STR or BLOB object. -/
def State.getBytes (s : State) (o : Obj) (i : Nat) : List Byte := Sparse.get blobDefault s.blob ⟨o, i⟩

/-- Writes a STR or BLOB object. -/
def State.putBytes (s : State) (o : Obj) (i : Nat) (v : List Byte) : State :=
  { s with blob := Sparse.put blobDefault Key.code s.blob ⟨o, i⟩ v }

/-- The count after `v` in a counter whose greatest value is `greatest`.
What follows the greatest value is open where the manual does not state it (log entry 8). -/
def countNext (greatest v : Int) : Int :=
  if v < greatest then v + 1 else Config.counterPast greatest % (greatest + 1)

/-- Counts once in a U32 counter. -/
def State.bump (s : State) (o : Obj) (i : Nat) : State := s.put o i (countNext 4294967295 (s.get o i))

/-- Counts `n` in a counter of 64 bits, modulo its width (log entry 8). -/
def State.add64 (s : State) (o : Obj) (i : Nat) (n : Int) : State :=
  let v := s.get o i + n
  s.put o i (if v < 18446744073709551616 then v else Config.counterPast 18446744073709551615 % 18446744073709551616)

/-- Counts `n` in a U32 counter (log entry 8). -/
def State.add32 (s : State) (o : Obj) (i : Nat) (n : Nat) : State :=
  let v := s.get o i + n
  s.put o i (if v < 4294967296 then v else Config.counterPast 4294967295 % 4294967296)

/-- Raises a high-water object to a value. -/
def State.raiseTo (s : State) (o : Obj) (i : Nat) (v : Int) : State :=
  if s.get o i < v then s.put o i v else s

/-- A table entry; an entry not listed is the entry at reset. -/
def tget {α : Type} [Inhabited α] (l : List (Nat × α)) (i : Nat) : α := Sparse.get (fun _ => default) l i

/-- Writes a table entry. -/
def tput {α : Type} [Inhabited α] [DecidableEq α] (l : List (Nat × α)) (i : Nat) (v : α) : List (Nat × α) :=
  Sparse.put (fun _ => default) (fun k => k) l i v

def State.chan (s : State) (c : Nat) : Chan := Sparse.get (fun _ => {}) s.chans c
def State.setChan (s : State) (c : Nat) (v : Chan) : State :=
  { s with chans := Sparse.put (fun _ => {}) (fun k => k) s.chans c v }

def State.bank (s : State) (b : Nat) : Bank := Sparse.get (fun _ => {}) s.banks b
def State.setBank (s : State) (b : Nat) (v : Bank) : State :=
  { s with banks := Sparse.put (fun _ => {}) (fun k => k) s.banks b v }

def State.scan (s : State) (b : Nat) : Scan := Sparse.get (fun _ => {}) s.scans b
def State.setScan (s : State) (b : Nat) (v : Scan) : State :=
  { s with scans := Sparse.put (fun _ => {}) (fun k => k) s.scans b v }

def State.trier (s : State) (t : Nat) : Trier := Sparse.get (fun _ => {}) s.triers t
def State.setTrier (s : State) (t : Nat) (v : Trier) : State :=
  { s with triers := Sparse.put (fun _ => {}) (fun k => k) s.triers t v }

def State.lane (s : State) (b : Nat) : Lane := Sparse.get (fun _ => {}) s.lanes b
def State.setLane (s : State) (b : Nat) (v : Lane) : State :=
  { s with lanes := Sparse.put (fun _ => {}) (fun k => k) s.lanes b v }

def State.box (s : State) (k : Nat) : Mailbox := Sparse.get (fun _ => {}) s.mail k
def State.setBox (s : State) (k : Nat) (v : Mailbox) : State :=
  { s with mail := Sparse.put (fun _ => {}) (fun k => k) s.mail k v }

def State.link (s : State) (p : Nat) : Link := Sparse.get (fun _ => {}) s.links p
def State.setLink (s : State) (p : Nat) (v : Link) : State :=
  { s with links := Sparse.put (fun _ => {}) (fun k => k) s.links p v }

def State.serLane (s : State) (l : Nat) : SerLane := Sparse.get (fun _ => {}) s.serLanes l
def State.setSerLane (s : State) (l : Nat) (v : SerLane) : State :=
  { s with serLanes := Sparse.put (fun _ => {}) (fun k => k) s.serLanes l v }

def State.timePort (s : State) (p : Nat) : TimePort := Sparse.get (fun _ => {}) s.ringTime.ports p
def State.setTimePort (s : State) (p : Nat) (v : TimePort) : State :=
  { s with ringTime := { s.ringTime with ports := Sparse.put (fun _ => {}) (fun k => k) s.ringTime.ports p v } }

def State.evDelivery (s : State) (n : Nat) : EvDelivery := Sparse.get (fun _ => {}) s.events n
def State.setEvDelivery (s : State) (n : Nat) (v : EvDelivery) : State :=
  { s with events := Sparse.put (fun _ => {}) (fun k => k) s.events n v }

/-- Sends something out of the hub. -/
def State.emit (s : State) (x : Out) : State := { s with out := s.out ++ [x] }

/-- The next free value (log entry 5). -/
def State.draw (s : State) : Nat × State := (Config.freeValue s.draws, { s with draws := s.draws + 1 })

/-- The quotient of a rounding the manual does not state: the floor, or one more where it is not whole (log entry 4). -/
def roundAt (site : Config.RoundSite) (num den : Int) : Int :=
  if num % den = 0 then num / den
  else if Config.roundUp site num den then num / den + 1 else num / den

/-! ### Little-endian values (R6) -/

/-- A number in `n` bytes, least significant first. -/
def leBytes : Nat → Nat → List Byte
  | 0, _ => []
  | n + 1, v => BitVec.ofNat 8 v :: leBytes n (v / 256)

/-- The number that bytes hold, least significant first. -/
def leNat : List Byte → Nat
  | [] => 0
  | b :: t => b.toNat + 256 * leNat t

/-- The number that bytes hold in two's complement, least significant first. -/
def leInt (bytes : List Byte) : Int :=
  let v := leNat bytes
  if v < 2 ^ (8 * bytes.length - 1) then v else v - 2 ^ (8 * bytes.length)

/-- `n` bytes of a list from an offset. -/
def slice (l : List Byte) (off n : Nat) : List Byte := (l.drop off).take n

/-- A VT80 value in its 12 bytes (R439): U16 fraction, U32 nanoseconds, 48-bit seconds. `v` is in 2^-16 ns. -/
def vt80Bytes (v : Int) : List Byte :=
  let u := v.toNat
  leBytes 2 (u % 65536) ++ leBytes 4 (u / 65536 % 1000000000) ++ leBytes 6 (u / 65536 / 1000000000)

/-- The value that the 12 bytes of a VT80 hold, in 2^-16 ns. -/
def vt80Of (b : List Byte) : Int :=
  leNat (slice b 0 2) + 65536 * (leNat (slice b 2 4) + 1000000000 * leNat (slice b 6 6))

/-! ### Time and the grid (R38, R58, R636) -/

/-- VT as VT80 reports it, 2^-16 ns (R38). -/
def State.vtNow (s : State) : Int := s.time.vt / 256

/-- One grid tick, 15,625 ns, in 2^-24 ns. -/
def tick24 : Int := 15625 * 16777216

/-- The grid index of a VT in 2^-24 ns; none before VAT_EPOCH (R58). -/
def State.gridIndexOf (s : State) (vt : Int) : Option Int :=
  let e := s.get .VAT_EPOCH 0 * 256
  if vt < e then none else some ((vt - e) / tick24)

/-- GRID_INDEX, the grid index of VT (R58). -/
def State.gridIndex (s : State) : Option Int := s.gridIndexOf s.time.vt

/-- The VT of a grid instant, 2^-24 ns (R58). -/
def State.instant (s : State) (n : Int) : Int := s.get .VAT_EPOCH 0 * 256 + n * tick24

/-- FRAME_STATE is RUNNING (R25). -/
def State.running (s : State) : Bool := s.get .FRAME_STATE 0 == 1

/-- The tick in which a happening falls (R636): while RUNNING the tick last begun, otherwise the grid index of VT. -/
def State.curTick (s : State) : Option Int :=
  if s.running then some (s.frame.next - 1) else s.gridIndex

/-- The tick of a happening, 0 where VT has no grid index; for bookkeeping of coincidences only (R109, R521). -/
def State.tickKey (s : State) : Int := s.curTick.getD 0

/-- The first grid instant at or after VT (R56). -/
def State.nextInstant (s : State) : Int :=
  let e := s.get .VAT_EPOCH 0 * 256
  0 - (e - s.time.vt) / tick24

/-- Cycles of the time-unit clock in a number of ms and µs. -/
def msCycles (ms : Nat) : Nat := ms * 500000
def usCycles (us : Nat) : Nat := us * 500

/-- A time-out of `lim` evaluation cycles since `since` has matured and the cycle in which it did is over at `now`, so that an
arrival in that cycle has won (R13, R14; log entry 199). -/
def runOut (lim since now : Nat) : Bool := decide (lim < now - since)

/-- The receive block period of 21.76 ns in which a cycle of 2 ns falls (R326), counted from cycle 0 (log entry 199). -/
def blockOf (cycle : Nat) : Nat := cycle * 25 / 272

/-- A limit in cycles as block periods, ceil(limit / 21.76 ns) (R326). -/
def limitBlocks (lim : Nat) : Nat := (lim * 25 + 271) / 272

/-- The same judged by block period (R326): the period in which a limit since a cycle matures is over. -/
def blocksOut (lim since now : Nat) : Bool := decide (blockOf since + limitBlocks lim < blockOf now)

/-- The keeper period of a count of KT is over, so that what it awaited has come or has not (R13, R14, R420; log entry 199). -/
def State.countOver (s : State) (k : Int) : Bool := decide (k < s.time.kt)

/-- The cycle in which the present keeper period began. -/
def State.keeperSince (s : State) : Nat := s.time.cycle - s.time.ktPhase / 32768

/-! ### Output periods (R8, R28) -/

/-- The output period of a preset code in grid ticks (R8). -/
def presetPeriod (p : Nat) : Nat :=
  match p with | 0 => 1 | 1 => 4 | 2 => 16 | 3 => 64 | _ => 256

/-- The whey samples of a preset (R8). -/
def presetWhey (p : Nat) : Nat :=
  match p with | 0 => 10 | 1 => 14 | 2 => 18 | 3 => 18 | _ => 20

/-- The harp latency of a preset in grid ticks (R28). -/
def presetLatency (p : Nat) : Nat :=
  match p with | 0 => 7 | 1 => 36 | 2 => 176 | 3 => 704 | _ => 3072

/-- The first multiple of `p` at or after `x`. -/
def alignUp (x : Int) (p : Nat) : Int := (0 - (0 - x) / (p : Int)) * p

/-- The last index of the invalid span of a switch at `s` with analogue settling `a` (R125). -/
def spanEnd (preset : Nat) (s : Int) (a : Nat) : Int :=
  alignUp (s + a) (presetPeriod preset) + (presetWhey preset - 1 : Nat) * (presetPeriod preset : Int)

/-! ### Fences (R512, R515) -/

/-- An instance is fenced: its bit of FENCED of its class. -/
def State.fenced (s : State) (cls i : Nat) : Bool := bit (s.get .FENCED cls) i

/-! ### Frames handed to a port (R355, R365, R369) -/

/-- Puts a frame into a port's queue behind the frames of its rank (R369). -/
def txInsert (rank : Nat) (f : Frame) : List (Nat × Frame) → List (Nat × Frame)
  | [] => [(rank, f)]
  | (r, g) :: t => if rank < r then (rank, f) :: (r, g) :: t else (r, g) :: txInsert rank f t

/-- A port is fenced: a ring port by class 7, the twin port by class 8. -/
def State.portFenced (s : State) (p : Nat) : Bool := if p < 2 then s.fenced 7 p else s.fenced 8 0

/-- Queues a frame at a port; a fenced port takes none (R515). -/
def State.queueFrame (s : State) (p rank : Nat) (f : Frame) : State :=
  if s.portFenced p then s
  else
    let l := s.link p
    s.setLink p { l with tx := txInsert rank f l.tx }

/-- The hub knows its ring position (R362, R363). -/
def State.placed (s : State) : Bool := s.get .RING_POSITION 0 != 255

/-- Sends a frame out of a port, wrapped where R365 orders it: through a port whose link is FAILED or HOLD only
link-scope frames leave; a frame for all is discarded, a wrapped one discarded and counted, another leaves by the other
ring port. A link that is DOWN or MISWIRED carries no frames (R360); a hub without a position sends link-scope frames
only (R363). -/
def State.sendFrame (s : State) (p rank : Nat) (f : Frame) : State :=
  let st := s.get .LINK_STATE p
  if st == 1 && (f.link || 0 < f.hops || s.placed) then s.queueFrame p rank f
  else if st == 2 || st == 3 then
    if f.link then (if (s.link p).misfit then s else s.queueFrame p rank f)
    else if f.dstKind == 3 || !(0 < f.hops || s.placed) then s
    else if f.wrapped then s.bump .HOPS_DISCARDS 0
    else
      let q := 1 - p
      let s := s.add64 .WRAPPED_FRAMES p 1
      if s.get .LINK_STATE q == 1 then s.queueFrame q rank { f with wrapped := true, hops := f.hops + 1 }
      else s.bump .HOPS_DISCARDS 0
  else s

/-- A frame that this hub originates (R355), with the next FSEQ of its class. -/
def State.newFrame (s : State) (cls : Nat) (bothways link : Bool) (dstKind dstPos dstAddr : Nat) (payload : List Byte) :
    Frame × State :=
  let seq := tget s.ring.fseq cls
  let addr := Config.hubAddress
  let f : Frame :=
    { cls, resent := false, bothways, link
      srcKind := if addr = 0x1FF then 1 else 0
      srcPos := (s.get .RING_POSITION 0).toNat % 32
      srcAddr := if addr = 0x1FF then 0 else addr
      dstKind, dstPos, dstAddr, hops := 0, wrapped := false, fseq := seq, payload }
  (f, { s with ring := { s.ring with fseq := tput s.ring.fseq cls ((seq + 1) % 65536) } })

/-! ### Events (R506 to R511) -/

/-- Bit k of the IRQ field of an event's route (R507). -/
def State.routes (s : State) (n k : Nat) : Bool := bit (s.get .EV_ROUTE n) k

/-- IRQk_N is low: a pending event routes to it (R508). -/
def State.irqLow (s : State) (k : Nat) : Bool :=
  (List.range 256).any (fun n => s.get .EV_PENDING n == 1 && s.routes n k)

/-- IRQ_FIRST_k: the lowest-numbered pending event routed to ball k (R508). -/
def State.irqFirst (s : State) (k : Nat) : Int :=
  match (List.range 256).find? (fun n => s.get .EV_PENDING n == 1 && s.routes n k) with
  | some n => (n : Int)
  | none => 0xFFFF

/-- The hold-off of an event in cycles; 0 for none (R507, R510). -/
def State.holdoff (s : State) (n : Nat) : Nat :=
  let c := field (s.get .EV_ROUTE n) 15 12
  if c = 0 then 0 else msCycles (2 ^ c)

/-- This hub is no unit of a twin, or its acting unit (R415, R427): only then it sends Data, reports and responses of its own. -/
def State.acting (s : State) : Bool := s.get .TWIN_ENABLE 0 != 1 || s.get .TWIN_STATE 0 == 5

/-- This hub may drive (R414): of a twin, the ACTING unit while its lease is unexpired. -/
def State.drives (s : State) : Bool :=
  s.get .TWIN_ENABLE 0 != 1 || (s.get .TWIN_STATE 0 == 5 && decide ((s.time.kt : Int) < s.get .LEASE_EXPIRY 0))

/-- The tick of an index is one in which this unit of a twin did not act and for which it has no MIRROR frame (R415). -/
def State.mirrorMissing (s : State) (g : Int) : Bool :=
  s.get .TWIN_ENABLE 0 == 1 && !((s.twin.actLog.find? (fun e => decide (e.1 ≤ g))).map (fun e => e.2)).getD false &&
  !s.twin.mirrors.any (fun m => m.1 == g)

/-- Sends the EVENT_REPORT of an event with the raises counted since the last (R374, R510), or holds it while DATA_DIR
is 0xFF. A unit of a twin that is not ACTING sends none (R415). -/
def State.sendReport (s : State) (n : Nat) : State :=
  let d := s.evDelivery n
  if !s.acting then s.setEvDelivery n { d with count := 0, held := false }
  else if s.get .DATA_DIR 0 == 0xFF then s.setEvDelivery n { d with held := true }
  else
    let body := [1, BitVec.ofNat 8 n] ++ leBytes 2 (min d.count 65535) ++ vt80Bytes (s.get .EV_LAST n)
    let (f, s) := s.newFrame 4 false false 2 0 0 body
    let s := s.sendFrame (s.get .DATA_DIR 0).toNat 4 f
    let h := s.holdoff n
    s.setEvDelivery n { d with count := 0, held := false, until_ := if h = 0 then none else some (s.time.cycle + h) }

/-- Ring delivery of an accepted raise (R510). -/
def State.deliverRing (s : State) (n : Nat) : State :=
  if s.routes n 4 then
    let d := s.evDelivery n
    let s := s.setEvDelivery n { d with count := min (d.count + 1) 65535 }
    if d.held then s.bump .EV_UNSENT n
    else match d.until_ with
      | some t => if s.time.cycle < t then s else s.sendReport n
      | none => s.sendReport n
  else s

/-- Sets a cause bit that another rule of this file needs, without its event. -/
def State.orCause (s : State) (o : Obj) (i b : Nat) : State := s.put o i (withBit (s.get o i) b)

/-- The notice of an event (R511). -/
def eventNotice (n count : Nat) (seq : Nat) : Notice :=
  { nseq := (seq + 1) % 65536, code := 0xEE, nflags := 0, offset := 0, length := 0,
    param := n % 256 + 65536 * (min count 65535) }

/-- Counts an accepted raise: EV_COUNT saturates, EV_LAST takes VT, EV_PENDING is set where a ball is routed (R506). -/
def State.countRaise (s : State) (n : Nat) : State :=
  let s := s.put .EV_COUNT n (min (s.get .EV_COUNT n + 1) 4294967295)
  let s := s.put .EV_LAST n s.vtNow
  let s := s.setEvDelivery n { s.evDelivery n with raisedAt := some s.time.cycle }
  if field (s.get .EV_ROUTE n) 3 0 ≠ 0 then s.put .EV_PENDING n 1 else s

/-- Marks the cause bit of MBX_NOTICE in a tick: the raise it makes is itself counted and delivered by the ring
and the balls; its mailbox delivery waits behind the notice that caused it (R476, R511). -/
def State.noticePlaced (s : State) : State :=
  if bit (s.get .MJ_CAUSE 0) 0 then s
  else (s.orCause .MJ_CAUSE 0 0).countRaise 0xC0 |>.deliverRing 0xC0

/-- Places an outbound notice in a free slot, or holds it in firmware (R475, R476). -/
def State.placeNotice (s : State) (k : Nat) (mk : Nat → Notice) : State :=
  let m := s.box k
  let nt := mk m.outSeq
  if m.outbox.length < 4 then
    (s.setBox k { m with outbox := m.outbox ++ [nt], outSeq := nt.nseq }).noticePlaced
  else s.setBox k { m with held := m.held ++ [nt] }

/-- Posts the notice of an event on its mailbox channel (R511). -/
def State.postEvent (s : State) (n : Nat) : State :=
  let k := field (s.get .EV_ROUTE n) 8 6
  let d := s.evDelivery n
  let h := s.holdoff n
  let s := s.setEvDelivery n
    { d with mbxCount := 0, mbxWaiting := true, mbxUntil := if h = 0 then none else some (s.time.cycle + h) }
  s.placeNotice k (eventNotice n d.mbxCount)

/-- A notice is that of an event. -/
def Notice.isEvent (x : Notice) (n : Nat) : Bool := x.code == 0xEE && x.param % 256 == n

/-- One more raise in the notice of an event that waits in a slot or is held (R511). -/
def State.countNotice (s : State) (n : Nat) : State :=
  let add (x : Notice) : Notice :=
    if x.isEvent n then { x with param := x.param % 65536 + 65536 * min (x.param / 65536 + 1) 65535 } else x
  (List.range 8).foldl (fun s k =>
    let m := s.box k
    s.setBox k { m with outbox := m.outbox.map add, held := m.held.map add }) s

/-- Mailbox delivery of an accepted raise (R511). -/
def State.deliverMbx (s : State) (n : Nat) : State :=
  if s.routes n 5 then
    let k := field (s.get .EV_ROUTE n) 8 6
    if s.get .MBX_STATE k == 0 then s.bump .EV_UNSENT n
    else
      let d := s.evDelivery n
      if d.mbxWaiting then s.countNotice n
      else
      let s := s.setEvDelivery n { d with mbxCount := min (d.mbxCount + 1) 65535 }
      match d.mbxUntil with
        | some t => if s.time.cycle < t then s else s.postEvent n
        | none => s.postEvent n
  else s

/-- A recovery cause (R598): NORMAL goes to RECOVERY, and RECOVERY counts anew. -/
def State.recover (s : State) : State :=
  let ph := s.get .SERVICE_PHASE 0
  if ph = 1 ∨ ph = 3 then
    { s with boot := { s.boot with recoveryAt := s.tickKey } }.put .SERVICE_PHASE 0 3
  else s

/-- A request needs a function that the item under test uses (R571): in an on-demand run that item is aborted at the next
step boundary. -/
def State.abortItems (s : State) (items : List Int) : State :=
  if s.get .ST_STATE 0 = 1 ∧ s.get .ST_ORIGIN 0 = 2 ∧ items.contains (s.get .ST_ITEM 0) = true then
    { s with test := { s.test with abort := true } }
  else s

/-- A stream segment (`capture` false) or capture region with bytes in the cave's test region under test is needed (R571). -/
def State.abortRegion (s : State) (capture : Bool) (i : Nat) : State :=
  if Config.inTestRegion s.cave.total s.cave.regionMib capture i (s.get .ST_SAVE_PENDING 0).toNat then s.abortItems [7] else s

/-- The event controller accepts a raise of event n (R506). A ring unwrap is a recovery cause (R598). -/
def State.raise (s : State) (n : Nat) : State :=
  let s := if n = 0xA1 then s.recover else s
  ((s.countRaise n).deliverRing n).deliverMbx n

/-! ### Cause registers (R108, R109, R519) -/

def State.causeTick (s : State) (o : Obj) (i : Nat) : CauseTick := Sparse.get (fun _ => {}) s.causes ⟨o, i⟩

/-- The cycle in which a clear and a new cause of a register meet (R109): the grid tick (R196, R233, R268, R310, R636), the
block period (R347, R381), the keeper period (R435), the clock cycle (R501, R528, R558, R559) or the test step of 0.786432 ms
(R563, R586). -/
def State.causeCycle (s : State) (o : Obj) : Option Int :=
  match o with
  | .LN_CAUSE | .RL_CAUSE => some (blockOf s.time.cycle)
  | .TWIN_CAUSE => some s.time.kt
  | .MJ_CAUSE | .FI_CAUSE | .SEC_CAUSE | .PW_CAUSE => some s.time.cycle
  | .ST_CAUSE => some (s.time.cycle / 393216 : Nat)
  | _ => s.curTick

/-- Notes that a cause occurred in this cycle of its register, and whether it raised its event (R109). -/
def State.noteCause (s : State) (o : Obj) (i b : Nat) (raised : Bool) : State :=
  match s.causeCycle o with
  | none => s
  | some n =>
    let c := s.causeTick o i
    let c := if c.tick = n then c else { tick := n, mask := 0, raised := 0 }
    let m := c.mask ||| 2 ^ b
    let r := if raised then c.raised ||| 2 ^ b else c.raised
    { s with causes := Sparse.put (fun _ => {}) Key.code s.causes ⟨o, i⟩ { c with mask := m, raised := r } }

/-- Raises the event of a cause bit, if it has one. -/
def State.raiseOf (s : State) (o : Obj) (i b : Nat) : State :=
  match causeEvent o i b with
  | some n => s.raise n
  | none => s

/-- A cause occurs: its bit is set, and when it goes from 0 to 1 the event is raised. -/
def State.cause (s : State) (o : Obj) (i b : Nat) : State :=
  if bit (s.get o i) b then s.noteCause o i b false
  else ((s.orCause o i b).noteCause o i b true).raiseOf o i b

/-- A cause of an instance: while the instance is fenced its raise is suppressed and counted (R519). A register of the
instance's own keeps the bit; in a register that the instances of a class share the bit is left to those not fenced. -/
def State.causeIn (s : State) (cls inst : Nat) (o : Obj) (i b : Nat) : State :=
  if s.fenced cls inst then
    let shared := o = .PRESS_CAUSE || o = .QC_CAUSE || o = .RL_CAUSE || o = .LN_CAUSE
    let was := bit (s.get o i) b
    let s := if shared then s else (s.orCause o i b).noteCause o i b true
    if was then s else s.bump .FENCE_SUPPRESSED cls
  else s.cause o i b

/-- The crossing test of a mailbox channel (R481): both directions have all slots full and both sides wait. -/
def Mailbox.crossed (m : Mailbox) : Bool :=
  m.inbox.length == 4 && m.outbox.length == 4 && (m.emptyArmed || !m.inWanted.isEmpty) && !m.held.isEmpty

/-- The crossing test in a core clock cycle (R481). -/
def State.crossTest (s : State) (k : Nat) : State :=
  let m := s.box k
  let st := s.get .MBX_STATE k
  if st = 1 ∧ m.crossed = true then
    (((s.put .MBX_STATE k 2).setBox k { m with crossedAt := s.time.kt }).bump .MBX_CROSSINGS k).cause .MJ_CAUSE 0 3
  else if st = 2 ∧ m.crossed = false then s.put .MBX_STATE k 1
  else s

/-- A write of a mask to a CLEAR register. A cause of the same cycle wins: its bit stays set, and its event is raised
when its bit had been set before (R109). -/
def State.clearCause (s : State) (o : Obj) (i : Nat) (mask : Int) : State :=
  let c := s.causeTick o i
  let hit := if s.causeCycle o = some c.tick then c.mask &&& mask.toNat else 0
  let again := hit - (hit &&& c.raised)
  let s := s.put o i (withoutBits (s.get o i) (mask.toNat - hit : Nat))
  (List.range 32).foldl (fun s b => if again.testBit b then s.raiseOf o i b else s) s

/-! ### Marks and servers of a channel -/

/-- The preset code of a channel (R165). -/
def State.preset (s : State) (c : Nat) : Nat := (s.get .PRESET_i c).toNat

/-- A channel has records: its mode is neither OFF nor PAIRED (R77). -/
def State.hasRecords (s : State) (c : Nat) : Bool :=
  s.get .CH_MODE c != 0 && s.get .CH_MODE c != 8

/-- Adds a mark to a channel. -/
def State.addMark (s : State) (c : Nat) (m : Mark) : State :=
  let ch := s.chan c
  s.setChan c { ch with marks := m :: ch.marks }

/-- A WHEY mark over a closed span of indexes. -/
def State.wheySpan (s : State) (c : Nat) (lo hi : Int) : State := s.addMark c ⟨.whey, .span, lo, some hi⟩

/-- Closes the open marks of a tag at an index. -/
def closeMarks (tag : MarkTag) (hi : Int) (ms : List Mark) : List Mark :=
  ms.map (fun m => if m.tag = tag && m.hi.isNone then { m with hi := some hi } else m)

def State.endMarks (s : State) (c : Nat) (tag : MarkTag) (hi : Int) : State :=
  let ch := s.chan c
  s.setChan c { ch with marks := closeMarks tag hi ch.marks }

/-- A mark of a kind covers an index. -/
def markedAt (kind : MarkKind) (g : Int) (ms : List Mark) : Bool :=
  ms.any (fun m => m.kind == kind && decide (m.lo ≤ g) && (match m.hi with | some h => decide (g ≤ h) | none => true))

/-- The entry of a log by first index that holds at an index: logs are newest first. -/
def logAt {α : Type} (d : α) (g : Int) : List (Int × α) → α
  | [] => d
  | (k, v) :: t => if k ≤ g then v else logAt d g t

/-- A log up to and with the first entry that holds at an index. -/
def logSince {α : Type} (g : Int) : List (Int × α) → List (Int × α)
  | [] => []
  | x :: t => if x.1 ≤ g then [x] else x :: logSince g t

/-- A value that holds from index g on. Entries that no record still in the harp can need are let go: no latency reaches 65,536
grid ticks (R28). -/
def logAdd {α : Type} (g : Int) (v : α) (l : List (Int × α)) : List (Int × α) := (g, v) :: logSince (g - 65536) l

/-- The first index of a chain that has not left the harp in tick n (R167). -/
def Chain.nextOut (x : Chain) (n : Int) : Int :=
  let p := presetPeriod x.preset
  max (alignUp (n - presetLatency x.preset + 1) p) (alignUp x.start p)

/-- The first index of a channel that has not left the harp in tick n (R167), of its drains too (R191, R192). -/
def State.firstUnemitted (s : State) (c : Nat) (n : Int) : Int :=
  let ch := s.chan c
  let least (d : Option Drain) (g : Int) : Int := match d with
    | some d => let x := d.chain.nextOut n; if x < d.stop then min x g else g
    | none => g
  least ch.flush (least ch.drain (ch.chain.nextOut n))

end Sys2Proof.Machine
end

