-- ==== Sys2Proof/Machine/Journal.lean ====
section
/-! DEFINITION. The journal (15_mailboxes_locks_journal) and, over it, the way a dictionary command is judged,
journalled and carried out (R441, R462, R490). -/

namespace Sys2Proof.Machine

open Sys2Proof

/-! ### Writing entries (R490 to R495) -/

/-- JRN_HEAD: SEQ of the newest entry (R495). -/
def State.jrnHead (s : State) : Nat := (s.journal.next + 4294967295) % 4294967296

/-- JRN_OLDEST: SEQ of the oldest current entry (R498). -/
def State.jrnOldest (s : State) : Nat := (s.journal.next - 65536) % 4294967296

/-- The 8 bytes of OLD or NEW and whether they are truncated (R494): a longer value keeps 4 bytes and its CRC-32C. -/
def jrnValue (v : List Byte) : List Byte × Bool :=
  if v.length ≤ 8 then (v ++ List.replicate (8 - v.length) 0, false)
  else (v.take 4 ++ leBytes 4 (crc32c v), true)

/-- A value in the bytes of its type (R439). -/
def valBytes (t : ObjType) (v : Val) : List Byte :=
  match v with
  | .unit => []
  | .bytes b => b
  | .num n => match t with
    | .bool | .u8 => leBytes 1 n.toNat
    | .u16 => leBytes 2 n.toNat
    | .u32 => leBytes 4 n.toNat
    | .u64 => leBytes 8 n.toNat
    | .i32 => leBytes 4 (n % 4294967296).toNat
    | .i64 => leBytes 8 (n % 18446744073709551616).toNat
    | .vt80 => vt80Bytes n
    | _ => []

/-- The 32 bytes of an entry (R491): 31 bytes and their CRC-8. -/
def sealEntry (bytes : List Byte) : List Byte := bytes ++ [BitVec.ofNat 8 (crc8 bytes)]

/-- Stores an entry of 32 bytes in the next slot: MRAM, verified, and the mirror when it is kept (R490, R495, R496).
The alert of R499 comes when the distance to the host's mark reaches its limit. In recovery nothing is written (R542). -/
def State.jrnStore (s : State) (entry : List Byte) : State :=
  if s.get .START_STATE 0 = 2 then s else
  let j := s.journal
  let slot := j.next % 65536
  let due := if s.get .JRN_MIRROR 0 == 1 && s.get .CAVE_STATE 0 == 2 then j.mirrorDue ++ [(slot, entry)] else j.mirrorDue
  let j' : Journal := { j with next := j.next + 1, mirrorDue := due }
  let s :=
    if j.badSlots.contains slot then
      (({ s with journal := { j' with slots := Sparse.erase slot j.slots } }).bump .JRN_FAULTS 0).cause .MJ_CAUSE 0 10
    else { s with journal := { j' with slots := Sparse.insert (fun k => k) slot entry j.slots } }
  if (s.jrnHead : Int) - s.get .JRN_HOST_MARK 0 = s.get .JRN_ALERT 0 ∨
     (s.jrnHead : Int) + 4294967296 - s.get .JRN_HOST_MARK 0 = s.get .JRN_ALERT 0
  then s.cause .MJ_CAUSE 0 8 else s

/-- Writes an ANCHOR entry (R491, R493). -/
def State.jrnAnchor (s : State) : State :=
  let vt := s.vtNow
  let e := leBytes 4 s.journal.next ++ [0x20, 0, 0, 0] ++ leBytes 8 s.time.kt ++ vt80Bytes vt ++
    [BitVec.ofInt 8 (s.get .VT_STATE 0), 0, 0]
  let s := s.jrnStore (sealEntry e)
  { s with journal := { s.journal with anchor := some (s.time.kt, vt) } }

/-- An anchor is due before the next entry (R493): at a page's first slot, or when a delta does not fit. -/
def State.anchorDue (s : State) : Bool :=
  match s.journal.anchor with
  | none => true
  | some (k, v) =>
    decide (s.journal.next % 64 = 0) || decide (s.time.kt - k > 1048575) ||
    decide (s.vtNow < v) || decide ((s.vtNow - v) / 131072 > 4294967295)

/-- Writes an entry of the journal (R491, R493), with an anchor before it where one is due; an anchor for a delta that ends a page
is followed by the one of the next page. -/
def State.jrnWrite (s : State) (kind source index sub : Nat) (staged part : Bool) (old new : List Byte) : State :=
  let s := if s.anchorDue then s.jrnAnchor else s
  let s := if s.journal.next % 64 = 0 then s.jrnAnchor else s
  let (k, v) := s.journal.anchor.getD (s.time.kt, s.vtNow)
  let (o, ot) := jrnValue old
  let (n, nt) := jrnValue new
  let flags := (if ot then 1 else 0) + (if nt then 2 else 0) + (if staged then 4 else 0) + (if part then 8 else 0)
  let time := flags * 2 ^ 52 + (s.time.kt - k) % 1048576 * 2 ^ 32 + ((s.vtNow - v) / 131072).toNat % 2 ^ 32
  let e := leBytes 4 s.journal.next ++ [BitVec.ofNat 8 (16 * kind + source), BitVec.ofNat 8 sub] ++ leBytes 2 index ++
    leBytes 7 time ++ o ++ n
  s.jrnStore (sealEntry e)

/-- The index and subindex at which an instance of an object stands. -/
def Obj.place (o : Obj) (i : Nat) : Nat × Nat :=
  let r := o.info
  (r.index + i / r.subs, r.sub + i % r.subs)

/-- The journal entry of a command (R492: KIND 1, OLD 0). -/
def State.jrnCommand (s : State) (w : Who) (o : Obj) (i : Nat) (new : Val) : State :=
  let (index, sub) := o.place i
  s.jrnWrite 1 w.origin.code index sub false false [] (valBytes o.info.type new)

/-- The journal entry of a write that acts at once or at its chapter's time (R492: KIND 0). -/
def State.jrnWriteObj (s : State) (w : Who) (o : Obj) (i : Nat) (staged : Bool) (old new : Val) : State :=
  let (index, sub) := o.place i
  s.jrnWrite 0 w.origin.code index sub staged false (valBytes o.info.type old) (valBytes o.info.type new)

/-- The copy of every MRAM slot into the mirror begins (R496): while JRN_MIRROR is 1 and the cave is READY. -/
def State.startMirror (s : State) : State :=
  if s.get .JRN_MIRROR 0 ≠ 1 then
    { s with journal := { s.journal with mirror := [], mirrorDue := [] } }.put .JRN_MIRROR_STATE 0 0
  else if s.get .CAVE_STATE 0 = 2 then s.put .JRN_MIRROR_STATE 0 1
  else s.put .JRN_MIRROR_STATE 0 0

/-- The cave leaves self-refresh (R551), and the mirror is copied anew (R496). -/
def State.caveReady (s : State) : State :=
  if s.get .CAVE_STATE 0 = 3 then (s.put .CAVE_STATE 0 2).startMirror else s

/-! ### Judging a command (R441, R462, R490) -/

/-- Whether the dictionary is served at all: from INIT on, and in recovery (R542, R592); not in RESET, BOOT and OFF. -/
def State.served (s : State) : Bool := decide (2 ≤ s.get .START_STATE 0) && !s.power.off

/-- What a state of the hub refuses of the dictionary whatever the object's own rules say: in Revoked all but reads of
0x1000–0x10FF and 0x1500–0x15FF, as ROLE (R539); in recovery all but those reads and the firmware objects (R542), and in
SEALING every write (R555), as REFUSED. The hub's own doing is not refused. -/
def State.barred (s : State) (w : Who) (o : Obj) (write : Bool) : Option Err :=
  let i := o.info.index
  let open_ := !write && ((0x1000 ≤ i && i ≤ 0x10FF) || (0x1500 ≤ i && i ≤ 0x15FF))
  if w.origin == .hub || open_ then none
  else if s.get .SEC_STATE 0 == 4 then some .role
  else if s.get .START_STATE 0 == 2 && o != .FW_STAGE && o != .FW_VERIFY && o != .FW_ACTIVATE then some .refused
  else if write && s.get .PWR_STATE 0 == 3 then some .refused
  else none

/-- The hub answers a master. -/
def State.reply (s : State) (e : Err) (v : Val := .unit) : State := { s with answer := ⟨e, v⟩ }

/-- A command of a master: the role is judged first (R441); then the chapter's rule (`body`) accepts or refuses. An
accepted command is journalled before it is carried out (R490); a refused one leaves what its rule gives a refusal. -/
def asCommand (w : Who) (role : Role) (o : Obj) (i : Nat) (new : Val) (body : State → Err × State) (s : State) : State :=
  if !s.served then s
  else if w.role.rank < role.rank then s.reply .role
  else match s.barred w o true with
    | some e => s.reply e
    | none => match body s with
      | (.ok, _) => ((body (s.jrnCommand w o i new)).2).reply .ok
      | (e, s') => s'.reply e

/-- A read with an effect or a rule of its own: the role is judged first (R441); a read is not journalled. -/
def asRead (w : Who) (o : Obj) (body : State → Err × Val × State) (s : State) : State :=
  if !s.served then s
  else if w.role.rank < o.info.role.rank then s.reply .role
  else match s.barred w o false with
    | some e => s.reply e
    | none =>
      let (e, v, s) := body s
      s.reply e v

/-- A unit of a twin that is not ACTING takes no host write of a shared object (R417, R462 step 5). -/
def State.notActingFor (s : State) (w : Who) : Bool :=
  !s.acting && w.origin != .twin && w.origin != .hub &&
  w.origin != .coreA && w.origin != .coreB

/-- The acting unit of a twin sends its partner what a shared object now holds (R417, R419). -/
def State.mirrorEntry (s : State) (index sub : Nat) (value : List Byte) : State :=
  if s.get .TWIN_ENABLE 0 == 1 && s.get .TWIN_STATE 0 == 5 && s.get .LINK_STATE 2 == 1 then
    let body := [3, 0] ++ leBytes 2 value.length ++ leBytes 4 s.twin.mseq ++ leBytes 2 index ++ leBytes 1 sub ++ [0] ++ value
    let (f, s) := { s with twin := { s.twin with mseq := (s.twin.mseq + 1) % 4294967296 } }.newFrame 5 false true 3 0 0 body
    s.sendFrame 2 2 f
  else s

/-- An accepted write of a shared object, sent to the partner. -/
def State.mirrorWrite (s : State) (o : Obj) (i : Nat) (v : Val) : State :=
  let (index, sub) := o.place i
  s.mirrorEntry index sub (valBytes o.info.type v)

/-- A result of the acting unit that has changed since a state is sent to its partner (R415, R432). -/
def State.mirrorChange (s before : State) (o : Obj) (i : Nat) : State :=
  if s.get o i = before.get o i then s else s.mirrorWrite o i (.num (s.get o i))

/-- A write of an RW or RWS object with a row of its own: role (R441), NOT_ACTING for a shared object (R417),
RUNNING for an RWS object (R10), the range (R440), then the chapter's rule. An accepted write is journalled first. -/
def asWrite (w : Who) (role : Role) (o : Obj) (i : Nat) (shared rws : Bool) (range : Bool) (old new : Val)
    (body : State → Err × State) (s : State) : State :=
  if !s.served then s
  else if w.role.rank < role.rank then s.reply .role
  else if (s.barred w o true).isSome then s.reply ((s.barred w o true).getD .role)
  else if shared && s.notActingFor w then s.reply .notActing
  else if rws && s.running then s.reply .running
  else if !range then s.reply .outOfRange
  else match body s with
    | (.ok, _) =>
      let s := (body (s.jrnWriteObj w o i false old new)).2
      (if shared && w.origin != .twin then s.mirrorWrite o i new else s).reply .ok
    | (e, s') => s'.reply e

/-- The write of a mask to a CLEAR register (R108, R109 and their like): every role from Operator up. -/
def clearCommand (w : Who) (clear cause : Obj) (i mask : Nat) (s : State) : State :=
  asCommand w .operator clear i (.num mask) (fun s => (.ok, s.clearCause cause i mask)) s

end Sys2Proof.Machine
end

