-- ==== Sys2Proof/Machine/Fence.lean ====
section
/-! DEFINITION. Fences (16_events_fences_integrity): what every fence and every lift records, whatever its class. What
a class does besides stands in the file of its chapter. -/

namespace Sys2Proof.Machine

open Sys2Proof

/-- The number of instances of a fence class (R512). -/
def fenceInstances (cls : Nat) : Nat :=
  match cls with
  | 0 => 32 | 1 => 32 | 2 => 53 | 3 => 16 | 4 => 4 | 5 => 16 | 6 => 16 | 7 => 2 | 8 => 1 | 9 => 2 | _ => 0

/-- The cycle in which happenings on one fence meet (R521): the grid tick, the block period of the port, the clock cycle. -/
def State.fenceCycle (s : State) (cls : Nat) : Int :=
  if cls ≤ 6 then s.tickKey
  else if cls ≤ 8 then (blockOf s.time.cycle : Int)
  else (s.time.cycle : Int)

/-- What has happened to a fence in the present cycle (R521). -/
def State.fenceTick (s : State) (cls i : Nat) : FenceTick :=
  let f : FenceTick := Sparse.get (fun _ => {}) s.fences (cls * 64 + i)
  if f.tick = s.fenceCycle cls then f else { tick := s.fenceCycle cls }

def State.setFenceTick (s : State) (cls i : Nat) (f : FenceTick) : State :=
  { s with fences := Sparse.put (fun _ => {}) (fun k => k) s.fences (cls * 64 + i) f }

/-- An instance is fenced with a cause code: FENCED, FENCE_ENTRIES and FENCE_LAST record it, and FI_CAUSE bit [0] is
set (R514, R519). A fenced instance is left as it is. -/
def State.enterFence (s : State) (cls i code : Nat) : State :=
  if s.fenced cls i then s
  else
    let s := s.put .FENCED cls (withBit (s.get .FENCED cls) i)
    let s := s.bump .FENCE_ENTRIES cls
    let s := s.put .FENCE_LAST cls (i * 16777216 + code * 65536)
    s.cause .FI_CAUSE 0 0

/-- An automatic fence is due: it is entered only while FENCE_AUTO of the class is 1 (R513). -/
def State.mayFence (s : State) (cls : Nat) : Bool := s.get .FENCE_AUTO cls == 1

/-- A fence by a cause of its own or by self-test (R513, R521): a lift of the same cycle is refused. -/
def State.autoFence (s : State) (cls i code : Nat) : State :=
  if code ≠ 2 && !s.mayFence cls then s
  else
    let f := s.fenceTick cls i
    let s := if f.lifted then s.cause .FI_CAUSE 0 2 else s
    let s := s.setFenceTick cls i { f with auto := true, lifted := false }
    s.enterFence cls i code

/-- A lift is recorded: FENCED is cleared and FI_CAUSE bit [1] is set (R520). -/
def State.leaveFence (s : State) (cls i : Nat) : State :=
  let s := s.put .FENCED cls (withoutBits (s.get .FENCED cls) (2 ^ i : Nat))
  s.cause .FI_CAUSE 0 1

end Sys2Proof.Machine
end

