-- ==== Sys2Proof/Machine/Queue.lean ====
section
/-! DEFINITION. Queues, packets and the stream ring (09_queues_and_cave): the words in a queue, the packets they make, the
segments of the cave with their acknowledgement, reclamation and loss accounting, marks and replay. -/

namespace Sys2Proof.Machine

open Sys2Proof

def State.queue (s : State) (q : Nat) : Queue := Sparse.get (fun _ => {}) s.queues q
def State.setQueue (s : State) (q : Nat) (v : Queue) : State :=
  { s with queues := Sparse.put (fun _ => {}) (fun k => k) s.queues q v }

/-- A cause bit of QC_CAUSE that a queue brings about (R310, R519). -/
def State.queueCause (s : State) (q b : Nat) : State := s.causeIn 5 q .QC_CAUSE 0 b

/-! ### Words and packets (R286 to R288) -/

/-- Bytes as words of 4, the first byte least significant (R6). -/
def toWords : List Byte → List Word
  | a :: b :: c :: d :: t => (d ++ c ++ b ++ a) :: toWords t
  | _ => []

/-- The four bytes of a word. -/
def wordBytes (w : Word) : List Byte := leBytes 4 w.toNat

def wordsBytes (ws : List Word) : List Byte := ws.flatMap wordBytes

/-- LENGTH of a packet (R286). -/
def Packet.length (p : Packet) : Nat := 20 + p.payload.length + 4 + (if p.e2e.isSome then 4 else 0)

/-- The 20-byte header of R286, with a value for its PFLAGS byte. -/
def Packet.header (p : Packet) (pflags : Nat) : List Byte :=
  leBytes 2 p.length ++ leBytes 1 p.queue ++ leBytes 1 pflags ++ leBytes 4 p.seq ++ leBytes 8 p.grid ++
  leBytes 2 p.hub ++ leBytes 1 p.ptype ++ [0]

/-- The bytes that PCRC covers (R288). -/
def Packet.covered (p : Packet) : List Byte := p.header p.pflags ++ p.payload

/-- The bytes that E2E covers: the same except PFLAGS (R288). -/
def Packet.coveredE2e (p : Packet) : List Byte :=
  let h := p.header 0
  h.take 3 ++ h.drop 4 ++ p.payload

/-- PCRC holds. -/
def Packet.checks (p : Packet) : Bool := crc32c p.covered == p.pcrc

/-- The whole packet in bytes. -/
def Packet.bytes (p : Packet) : List Byte :=
  p.covered ++ leBytes 4 p.pcrc ++ (match p.e2e with | some e => leBytes 4 e | none => [])

/-- A packet as it closes, with its checks (R288). -/
def sealPacket (queue pflags seq : Nat) (grid : Int) (ptype : Nat) (payload : List Byte) (e2e : Bool) : Packet :=
  let p : Packet := { queue, pflags := pflags + (if e2e then 1 else 0), seq, grid := grid.toNat, hub := Config.hubAddress % 512,
                      ptype, payload, pcrc := 0, e2e := if e2e then some 0 else none }
  let p := { p with e2e := if e2e then some (crc32c p.coveredE2e) else none }
  { p with pcrc := crc32c p.covered }

/-- A packet with a PFLAGS bit added and PCRC written anew; only a packet that checks is changed (R288). -/
def Packet.flagged (p : Packet) (flag : Nat) : Packet :=
  if p.checks && p.pflags / flag % 2 == 0 then
    let p := { p with pflags := p.pflags + flag }
    { p with pcrc := crc32c p.covered }
  else p

/-- The packet that bytes hold. -/
def packetOf (b : List Byte) : Packet :=
  let n := leNat (slice b 0 2)
  let pflags := leNat (slice b 3 1)
  let tail := if pflags % 2 = 1 then 8 else 4
  { queue := leNat (slice b 2 1), pflags, seq := leNat (slice b 4 4), grid := leNat (slice b 8 8),
    hub := leNat (slice b 16 2), ptype := leNat (slice b 18 1), payload := slice b 20 (n - 20 - tail),
    pcrc := leNat (slice b (n - tail) 4), e2e := if pflags % 2 = 1 then some (leNat (slice b (n - 4) 4)) else none }

/-! ### The slots of a queue (R273 to R285) -/

/-- The words of a packet that follow a length word (R281). -/
def lengthOf (w : Word) : Nat := w.toNat % 65536

/-- The length word of R281. -/
def lengthWord (n : Nat) : Word := BitVec.ofNat 32 (0xA0000000 + n % 65536)

/-- The queue is FULL (R274). -/
def Queue.full (u : Queue) : Bool := decide (u.depth ≤ u.slots.length)

/-- Slots of the first whole packet of a queue whose consumer is between packets, the length word counted (R281, R282). -/
def Queue.wholeHead (u : Queue) : Option Nat :=
  if u.framing = 0 then
    match u.slots with
    | ⟨some w, _, _⟩ :: _ => some (lengthOf w + 1)
    | _ => none
  else (u.slots.findIdx? (fun x => x.mark)).map (fun n => n + 1)

/-- Whole packets among slots that begin at a packet's start, LENGTH mode; the first argument bounds the count. -/
def lengthPackets : Nat → List Slot → Nat
  | n + 1, ⟨some w, _, _⟩ :: t => 1 + lengthPackets n (t.drop (lengthOf w))
  | _, _ => 0

/-- QUEUE_PACKETS: whole packets waiting (R282, R311). -/
def Queue.packets (u : Queue) : Nat :=
  if u.framing = 0 then lengthPackets u.slots.length (u.slots.drop (u.reading.getD 0))
  else u.slots.countP (fun x => x.mark)

/-- QUEUE_STATUS (R311). -/
def State.queueStatus (s : State) (q : Nat) : Int :=
  let u := s.queue q
  b2i u.slots.isEmpty + 2 * b2i (u.full && decide (0 < u.depth)) +
  4 * b2i (decide (s.get .QUEUE_HIGH_WATER q ≤ (u.slots.length : Int))) + 8 * b2i (s.fenced 5 q) + 16 * b2i u.reading.isSome

/-- Moves a pointer of a queue (R274): pointers are one bit wider than the slot address. -/
def Queue.advance (u : Queue) (p n : Nat) : Nat := (p + n) % (2 * max u.depth 1)

/-- Slots are written behind the newest (R273): MAX_FILL, QUEUE_HIGH and QUEUE_FULL follow the fill (R310, R311). `freed`
words have been popped in the queue cycles of these pushes: the fill stays up over a pop with a push (R276). -/
def State.pushSlots (s : State) (q : Nat) (freed : Nat) (xs : List Slot) : State :=
  let u := s.queue q
  let a := u.slots.length + freed
  let b := u.slots.length + xs.length
  let s := (s.setQueue q { u with slots := u.slots ++ xs, wp := u.advance u.wp xs.length }).raiseTo .MAX_FILL q b
  let hw := s.get .QUEUE_HIGH_WATER q
  let s := if (a : Int) < hw ∧ hw ≤ (b : Int) then s.queueCause q 0 else s
  if a < u.depth ∧ u.depth ≤ b then s.queueCause q 1 else s

/-- The packet in progress writes as many words as have room; its length word or end mark comes with its end (R276, R281,
R282). `freed` is the words popped in the same queue cycles. Word times are left out (log entry 13). -/
def State.pump (s : State) (q freed : Nat) : State :=
  let u := s.queue q
  match u.incoming with
  | none => s
  | some inc =>
    let room := u.depth - u.slots.length
    let now := inc.words.take room
    let rest := inc.words.drop room
    let n := now.length
    let slots := (List.range n).zip now |>.map (fun kw =>
      { word := some kw.2, mark := u.framing == 1 && rest.isEmpty && kw.1 + 1 == n : Slot })
    let s := s.pushSlots q freed slots
    let u := s.queue q
    if rest.isEmpty then
      let fill (x : Slot) : Slot := if x.word.isNone then { x with word := some (lengthWord inc.total) } else x
      s.setQueue q { u with incoming := none, slots := if u.framing = 0 then u.slots.map fill else u.slots }
    else s.setQueue q { u with incoming := some { inc with words := rest } }

/-- The queue can take a packet: it is neither FULL nor within another producer's packet (R277). -/
def State.canTake (s : State) (q : Nat) : Bool :=
  let u := s.queue q
  !u.full && u.incoming.isNone

/-- A packet enters a queue (R277, R281). -/
def State.enter (s : State) (q : Nat) (p : Packet) : State :=
  let s := if (s.queue q).framing = 0 then s.pushSlots q 0 [⟨none, false, false⟩] else s
  let ws := toWords p.bytes
  (s.setQueue q { s.queue q with incoming := some ⟨ws, ws.length⟩ }).pump q 0

/-- Adds records lost by channel. -/
def addCounts (a b : List (Nat × Nat)) : List (Nat × Nat) :=
  b.foldl (fun l x => Sparse.insert (fun k => k) x.1 (x.2 + Sparse.get (fun _ => 0) l x.1) l) a

/-! ### Loss accounting (R301) -/

/-- The set bits of a mask, lowest first. -/
def maskBits (w m : Nat) : List Nat := (List.range w).filter (fun i => m.testBit i)

/-- The channels of a channel map (R240) and the bytes the map takes. -/
def mapChannels (b : List Byte) : List Nat × Nat :=
  let banks := maskBits 32 (leNat (slice b 0 4))
  let chans := ((List.range banks.length).zip banks).flatMap (fun kb =>
    (maskBits 16 (leNat (slice b (4 + 2 * kb.1) 2))).map (fun i => 16 * kb.2 + i))
  (chans, 4 + 4 * ((banks.length + 1) / 2))

/-- The channel map of R240 over channels in ascending order. -/
def channelMap (chans : List Nat) : List Byte :=
  let banks := (List.range 32).filter (fun b => chans.any (fun c => c / 16 == b))
  let mask := banks.foldl (fun m b => m + 2 ^ b) 0
  let inputs (b : Nat) := (chans.filter (fun c => c / 16 == b)).foldl (fun m c => m + 2 ^ (c % 16)) 0
  leBytes 4 mask ++ banks.flatMap (fun b => leBytes 2 (inputs b)) ++
    (if banks.length % 2 = 1 then leBytes 2 0 else [])

/-- A packet of the stream: RAW or COMPRESSED. -/
def Packet.isStream (p : Packet) : Bool := p.ptype == 1 || p.ptype == 2

/-- The records by channel that a packet holds (R239, R240, R301), and the greatest index among them. -/
def Packet.contents (p : Packet) : List (Nat × Nat) × Int :=
  if p.isStream then
    let n := leNat (slice p.payload 3 1)
    let period := presetPeriod (leNat (slice p.payload 1 1))
    ((mapChannels (p.payload.drop 8)).1.map (fun c => (c, n)), (p.grid : Int) + (n - 1 : Nat) * period)
  else ([], p.grid)

/-- RIPE of a stream packet (R239). -/
def Packet.ripe (p : Packet) : Nat := leNat (slice p.payload 2 1)

/-- The counter of packets lost by a cause (R301, R314). -/
def lossCounter (cause : Nat) : Obj :=
  match cause with
  | 1 => .LOST_RECLAIMED | 2 => .LOST_PRESS | 3 => .LOST_FENCE | 4 => .LOST_UNREADABLE | 5 => .LOST_DISCARD
  | _ => .LOST_WITHDRAWN

/-- Merges a loss into those of its cause and queue. -/
def mergeLoss (x : Loss) : List Loss → List Loss
  | [] => [x]
  | y :: t =>
    if y.cause = x.cause && y.queue = x.queue then
      { y with packets := y.packets + x.packets, lo := min y.lo x.lo, hi := max y.hi x.hi, counts := addCounts y.counts x.counts } :: t
    else y :: mergeLoss x t

/-- A loss is counted and waits for its LOSS packet (R301). -/
def State.lose (s : State) (x : Loss) : State :=
  let s := s.add64 (lossCounter x.cause) 0 x.packets
  let s := x.counts.foldl (fun s c => s.add64 .LOST_i c.1 c.2) s
  { s with cave := { s.cave with losses := mergeLoss x s.cave.losses } }

/-- The loss of one packet: of a stream packet it is accounted (R301, R302); other packets are lost without an account. -/
def State.losePacket (s : State) (cause : Nat) (p : Packet) : State :=
  if p.isStream then
    let (counts, hi) := p.contents
    s.lose { cause, queue := p.queue, packets := 1, lo := p.grid, hi, counts }
  else s

/-! ### Segments (R295 to R298) -/

/-- Bytes of a segment. -/
def segmentBytes : Nat := 16777216

/-- A packet is acknowledged (R291, R296): its SEQ precedes or equals ACKED_SEQ of its queue. -/
def State.acked (s : State) (p : Packet) : Bool :=
  p.queue == 0xFF ||
  decide (((s.get .ACKED_SEQ p.queue).toNat + 4294967296 - p.seq) % 4294967296 < 2147483648)

/-- Every packet of a segment is acknowledged. -/
def State.segAcked (s : State) (g : Segment) : Bool := g.pkts.all (fun x => s.acked x.pkt)

/-- Segments that are FREE (R297). -/
def Cave.free (c : Cave) : Nat := c.total - c.ring.length - c.withdrawn.length

/-- The lowest FREE segment. -/
def Cave.firstFree (c : Cave) : Option Nat :=
  (List.range c.total).find? (fun i => !c.withdrawn.contains i && c.ring.all (fun g => g.id != i))

def Cave.countState (c : Cave) (st : SegState) : Nat := c.ring.countP (fun g => g.state == st)

/-- UNACKED_BYTES: bytes of unacknowledged packets in the stream ring (R314). -/
def State.unackedBytes (s : State) : Nat :=
  s.cave.ring.foldl (fun n g => g.pkts.foldl (fun n x => if s.acked x.pkt then n else n + x.pkt.length) n) 0

/-- FREE beyond the reserve plus ACKED (R299, R310). -/
def State.spareSegments (s : State) : Int :=
  let f := (s.cave.free : Int) - s.get .RESERVE_SEGMENTS 0
  (if f < 0 then 0 else f) + s.cave.countState .acked

/-- QC_CAUSE bit [4] when FREE beyond the reserve plus ACKED falls below RIPEN_LOW_WATER (R310). -/
def State.noteLowSpace (s : State) (before : Int) : State :=
  let low := s.get .RIPEN_LOW_WATER 0
  if low ≤ before ∧ s.spareSegments < low then s.cause .QC_CAUSE 0 4 else s

/-- OLDEST_INDEX moves and every mark and the replay reader behind it are overtaken (R304, R305). -/
def State.overtake (s : State) (last : Int) : State :=
  let o := s.get .OLDEST_INDEX 0
  let o := if o < last + 1 then last + 1 else o
  let s := s.put .OLDEST_INDEX 0 o
  let s := (List.range 16).foldl (fun s n =>
    let m := s.get .MARK_INDEX n
    if s.get .MARK_STATE n ≠ 0 ∧ m < o then
      ((s.add64 .MARK_OVERTAKEN n (o - m)).put .MARK_INDEX n o).put .MARK_STATE n 2 |>.cause .QC_CAUSE 0 8
    else s) s
  if s.get .REPLAY_STATE 0 = 1 ∧ s.cave.replayAt < o then
    let s := s.add64 .REPLAY_SKIPPED_TICKS 0 (o - s.cave.replayAt)
    ({ s with cave := { s.cave with replayAt := o, replayDone := 0 } }).cause .QC_CAUSE 0 8
  else s

/-- The packets of a segment that are neither acknowledged nor accounted as lost are lost by a cause (R301). -/
def State.loseSegment (s : State) (cause : Nat) (g : Segment) : State :=
  g.pkts.foldl (fun s x => if s.acked x.pkt || x.lost then s else s.losePacket cause x.pkt) s

/-- A segment is taken back from HELD or ACKED (R298). Its loss accounting and the snapping of marks wait for the EMIT step
(R295). -/
def State.reclaim (s : State) (g : Segment) : State :=
  { s with cave := { s.cave with ring := s.cave.ring.filter (fun h => h.id != g.id), reclaims := s.cave.reclaims ++ [g] } }

/-- The account of a reclaimed segment (R298, R301, R304, R307): one that was HELD and that no acknowledgement of the tick has
made whole loses its unacknowledged packets. -/
def State.accountFor (s : State) (g : Segment) : State :=
  let s :=
    if g.state = .held && !s.segAcked g then
      let s : State := (s.loseSegment 1 g).cause .QC_CAUSE 0 6
      if s.get .OVERFLOW_POLICY 0 = 1 then s.cause .QC_CAUSE 0 15 else s
    else s
  s.overtake g.hi

/-- The accounts of the segments reclaimed in the tick. -/
def State.settleReclaims (s : State) : State :=
  s.cave.reclaims.foldl (fun s g => s.accountFor g) { s with cave := { s.cave with reclaims := [] } }

/-- The segment the writer takes (R298); none when it must wait. -/
def State.writerSegment (s : State) : Option Nat × State :=
  let c := s.cave
  if s.get .RESERVE_SEGMENTS 0 < (c.free : Int) then (c.firstFree, s)
  else match c.ring.find? (fun g => g.state == .acked) with
    | some g => (some g.id, s.reclaim g)
    | none => match c.ring.find? (fun g => g.state == .held) with
      | some g => (some g.id, s.reclaim g)
      | none => if 0 < c.free then (c.firstFree, s.cause .QC_CAUSE 0 4) else (none, s)

/-- The state of a segment that is no longer written (R297). -/
def State.settled (s : State) (g : Segment) : Segment := { g with state := if s.segAcked g then .acked else .held }

/-- A packet is written to the WRITING segment in a tick, or to a new one chosen by R298; false when the writer waits. -/
def State.writeRing (s : State) (tick : Int) (p : Packet) : Bool × State :=
  let n := p.length
  let add (g : Segment) : Segment :=
    { g with pkts := g.pkts ++ [{ tick, pkt := p }], bytes := g.bytes + n, hi := tick,
             lo := if g.pkts.isEmpty then tick else g.lo }
  let count (s : State) : State := s.add64 .WRITE_BYTES 0 n
  let fits := s.cave.ring.any (fun g => g.state == .writing && decide (g.bytes + n ≤ segmentBytes))
  if fits then
    (true, count { s with cave := { s.cave with ring := s.cave.ring.map (fun g => if g.state == .writing then add g else g) } })
  else
    let before := s.spareSegments
    let ring := s.cave.ring.map (fun g => if g.state == .writing then s.settled g else g)
    let s := { s with cave := { s.cave with ring } }
    match s.writerSegment with
    | (none, s) => (false, s)
    | (some i, s) =>
      let g := add { id := i, state := .writing, lo := tick, hi := tick }
      (true, (count { s with cave := { s.cave with ring := s.cave.ring ++ [g] } }).noteLowSpace before)

/-- The payload of a LOSS packet (R291). -/
def Loss.payload (x : Loss) : List Byte :=
  let named := x.counts.map (fun c => c.1)
  leBytes 1 x.cause ++ [0] ++ leBytes 2 x.queue ++ leBytes 4 x.packets ++ leBytes 8 x.lo.toNat ++ leBytes 8 x.hi.toNat ++
    channelMap named ++ x.counts.flatMap (fun c => leBytes 4 c.2)

/-- The losses of the tick are reported, one LOSS packet for each cause and queue (R291, R301). A report that finds no
segment waits for the next tick. The first argument bounds the reports of one tick. -/
def State.reportLosses : Nat → State → State
  | 0, s => s
  | n + 1, s =>
    match s.cave.losses with
    | [] => s
    | x :: t =>
      if s.get .CAVE_STATE 0 ≠ 2 || s.cave.total = 0 then s
      else
        let p := sealPacket 0xFF 0 (s.get .LOSS_SEQ 0).toNat x.lo 0x09 x.payload false
        let s' := { s with cave := { s.cave with losses := t } }
        match s'.writeRing s.tickKey p with
        | (true, s') => State.reportLosses n (s'.put .LOSS_SEQ 0 ((s.get .LOSS_SEQ 0 + 1) % 4294967296))
        | (false, _) => s

/-- The accounts and the reports of a tick (R295, R301). A report that takes a segment gives an account of its own. -/
def State.closeAccounts (s : State) : State := ((s.settleReclaims).reportLosses 64).settleReclaims

/-- Losses are reported at the end of the tick they fall in (R301), at once while acquisition is stopped. -/
def State.settleLosses (s : State) : State := if s.running then s else s.closeAccounts

/-- Segments that acknowledgements have made whole turn from HELD to ACKED (R296, R297). -/
def State.ackSegments (s : State) : State :=
  let f (g : Segment) : Segment := if g.state = .held && s.segAcked g then { g with state := .acked } else g
  { s with cave := { s.cave with ring := s.cave.ring.map f } }

/-- STREAM_ACK of a queue (R296). -/
def State.applyAck (s : State) (q seq : Nat) : Err × State :=
  let now := (s.get .ACKED_SEQ q).toNat
  let d := (seq + 4294967296 - now) % 4294967296
  if 2147483648 ≤ d ∨ d = 0 then (.ok, s)
  else
    let last := Sparse.get (fun _ => 4294967295) s.cave.lastSeq q
    if d ≤ (last + 4294967296 - now) % 4294967296 ∧ (last + 4294967296 - now) % 4294967296 < 2147483648 then
      (.ok, (s.put .ACKED_SEQ q seq).ackSegments)
    else (.refused, s.queueCause q 7)

/-! ### Admission (R277, R308) -/

/-- The first packet of STREAM_QUEUE whose GRID lies at or after SYNC_INDEX gives the SEQ by which the units of a twin align
their numbers (R432). -/
def State.noteSeq (s : State) (q : Nat) (grid : Int) (seq : Int) : State :=
  let t := s.twin
  if t.aligning = true ∧ t.firstSeq = none ∧ s.get .STREAM_QUEUE 0 = q ∧ t.syncIndex ≤ grid then
    { s with twin := { t with firstSeq := some seq.toNat } }
  else s

/-- A packet is offered to a queue at EMIT: it is discarded while the queue is fenced, admitted when the queue can take it,
and otherwise left with its producer (false). A queue that is not there (0xFF) takes nothing and the packet is dropped. -/
def State.offer (s : State) (q ptype pflags : Nat) (grid : Int) (payload : List Byte) : Bool × State :=
  if 16 ≤ q then (true, s)
  else if s.fenced 5 q then
    if ptype = 1 ∨ ptype = 2 then
      (true, s.losePacket 3 { sealPacket q pflags 0 grid ptype payload false with queue := q })
    else (true, s.bump .FENCED_DROPS q)
  else if s.canTake q then
    let seq := s.get .QUEUE_SEQ q
    let p := sealPacket q pflags seq.toNat grid ptype payload (s.get .QUEUE_E2E q == 1)
    (true, ((s.noteSeq q grid seq).put .QUEUE_SEQ q ((seq + 1) % 4294967296)).enter q p)
  else (false, s)

/-! ### Consumers (R278, R280, R283, R284) -/

/-- The whole packet at the head of a queue, taken out: its words and whether one of them reads badly (R524). -/
def State.takePacket (s : State) (q : Nat) : Option (List Slot) × State :=
  let u := s.queue q
  match u.reading, u.wholeHead with
  | none, some n =>
    let xs := u.slots.take n
    let s := s.setQueue q { u with slots := u.slots.drop n, rp := u.advance u.rp n }
    (some (if u.framing = 0 then xs.drop 1 else xs), s.pump q n)
  | _, _ => (none, s)

/-- One word is taken from a queue; none where the read stalls (R276, R279, R281). A length word opens a packet. -/
def State.popWord (s : State) (q : Nat) : Option Slot × State :=
  let u := s.queue q
  match u.slots with
  | [] => (none, s)
  | x :: t =>
    match x.word with
    | none => (none, s)
    | some w =>
      let reading : Option Nat :=
        if u.framing = 1 then (if x.mark then none else some 0)
        else match u.reading with
          | none => if lengthOf w = 0 then none else some (lengthOf w)
          | some k => if k ≤ 1 then none else some (k - 1)
      (some x, (s.setQueue q { u with slots := t, rp := u.advance u.rp 1, reading }).pump q 1)

/-- FLUSH (R284). -/
def State.flushQueue (s : State) (q : Nat) : State :=
  let u := s.queue q
  let gone := u.packets + (if u.reading.isSome && !(u.framing == 1 && u.slots.any (fun x => x.mark)) then 1 else 0) +
    (if u.incoming.isSome && !(u.reading.isSome && u.framing == 1 && !u.slots.any (fun x => x.mark)) then 1 else 0)
  let s := s.setQueue q { u with slots := [], rp := u.wp, incoming := none, reading := none }
  (s.add32 .FLUSHED_PACKETS q gone).queueCause q 2

/-- DROP_REST (R283): the words in the queue and those the producer still has of the packet in progress. RP moves in one
queue cycle, in which a stalled producer writes one word (R276, R285). -/
def State.dropRest (s : State) (q : Nat) : State :=
  let u := s.queue q
  match u.reading with
  | none => s
  | some k =>
    let (n, late) : Nat × Nat :=
      if u.framing = 0 then (k, 0)
      else match u.slots.findIdx? (fun x => x.mark) with
        | some j => (j + 1, 0)
        | none => (u.slots.length, (u.incoming.map (fun i => i.words.length)).getD 0)
    let u' := { u with slots := u.slots.drop n, rp := u.advance u.rp n, reading := none,
                       incoming := if u.framing = 1 && !u.slots.any (fun x => x.mark) then none else u.incoming }
    (((s.setQueue q u').add32 .DROPPED_WORDS q (n + late)).queueCause q 3).pump q (min n 1)

/-- QUEUE_FLUSH (R284). -/
def execQueueFlush (w : Who) (q : Fin 16) (s : State) : Host.Outcome State Fault Refusal :=
  .next (asCommand w .engineer .QUEUE_CONTROL q (.num 1) (fun s => (.ok, s.flushQueue q)) s)

/-- QUEUE_DROP_REST (R283): refused on a queue whose QUEUE_DRAIN is 0. -/
def execQueueDropRest (w : Who) (q : Fin 16) (s : State) : Host.Outcome State Fault Refusal :=
  .next (asCommand w .engineer .QUEUE_CONTROL q (.num 2)
    (fun s => if (s.queue q).drain = 0 then (.refused, s) else (.ok, s.dropRest q)) s)

/-- STREAM_ACK (R296). -/
def execStreamAck (w : Who) (q : Fin 16) (seq : Nat) (s : State) : Host.Outcome State Fault Refusal :=
  .next (asCommand w .operator .STREAM_ACK q (.num seq) (fun s => s.applyAck q (seq % 4294967296)) s)

/-- QC_CAUSE_CLEAR (R310). -/
def execQcCauseClear (w : Who) (mask : Nat) (s : State) : Host.Outcome State Fault Refusal :=
  .next (clearCommand w .QC_CAUSE_CLEAR .QC_CAUSE 0 mask s)

/-! ### The cave writer (R295, R524) -/

/-- The page of an index entry in which a packet begins: the first and last write tick of the packets that begin there
(R295, R301). -/
def pageSpan (pkts : List Stored) (k : Nat) : Int × Int :=
  let step (a : Nat × List (Nat × Int)) (x : Stored) := (a.1 + x.pkt.length, a.2 ++ [(a.1 / 65536, x.tick)])
  let starts := (pkts.foldl step (0, [])).2
  match starts[k]? with
  | none => (0, 0)
  | some (page, t) =>
    let ts := (starts.filter (fun x => x.1 == page)).map (fun x => x.2)
    (ts.foldl min t, ts.foldl max t)

/-- A packet of the stream ring cannot be read (R301): its records are lost, or only itself where its map is gone too. It is
accounted once. -/
def State.loseUnreadable (s : State) (g : Segment) (k : Nat) (x : Stored) : State :=
  let mark (h : Segment) : Segment :=
    if h.id = g.id then { h with pkts := ((List.range h.pkts.length).zip h.pkts).map (fun y =>
      if y.1 = k then { y.2 with lost := true } else y.2) } else h
  let s := { s with cave := { s.cave with ring := s.cave.ring.map mark } }
  if x.lost then s
  else if x.damage = .header then
    let (lo, hi) := pageSpan g.pkts k
    s.lose { cause := 4, queue := x.pkt.queue, packets := 1, lo, hi }
  else s.losePacket 4 x.pkt

/-- Words of a packet to the end of its press header and channel map (R239, R240, R286). -/
def headWords (p : Packet) : Nat := 7 + (mapChannels (p.payload.drop 8)).2 / 4

/-- A packet with uncorrectable slots is lost in its queue (R301, R524): its records, or only itself where its header or map is gone.
Such a report carries the tick (DESIGN CHOICE, log entry 223). -/
def State.loseSlots (s : State) (q : Nat) (xs : List Slot) (p : Packet) : State :=
  let gone := (xs.take (headWords p)).any (fun x => x.bad) || (xs.take 8).any (fun x => x.bad)
  if gone then s.lose { cause := 4, queue := q, packets := 1, lo := s.tickKey, hi := s.tickKey } else s.losePacket 4 p

/-- CAVE_WRITE_PACKET (R295, R524): the cave writer takes the packet at the head of a queue whose QUEUE_DRAIN is 0. A
packet with an uncorrectable slot is not written and is accounted as UNREADABLE. Where the cave is not READY, or the
writer finds no segment, the packet stays in its queue. -/
def execCaveWritePacket (q : Fin 16) (s : State) : Host.Outcome State Fault Refusal :=
  if (s.queue q).drain = 0 && s.get .CAVE_STATE 0 == 2 && decide (0 < s.cave.total) && !s.fenced 5 q then
    match s.takePacket q with
    | (none, _) => .next s
    | (some xs, s1) =>
      let p := packetOf (wordsBytes (xs.filterMap (fun x => x.word)))
      if xs.any (fun x => x.bad) then .next ((s1.loseSlots q xs p).settleLosses)
      else match s1.writeRing s.tickKey p with
        | (true, s1) =>
          let s1 := { s1 with cave := { s1.cave with lastSeq := Sparse.insert (fun k => k) q.val p.seq s1.cave.lastSeq } }
          .next (s1.settleLosses)
        | (false, _) => .next s
  else .next s

/-- CAVE_DISCARD (R293, R301): every unacknowledged packet of the stream ring is given up. -/
def execCaveDiscard (w : Who) (s : State) : Host.Outcome State Fault Refusal :=
  .next (asCommand w .service .CAVE_DISCARD 0 (.num 1) (fun s =>
    let s : State := s.cave.ring.foldl (fun s g => s.loseSegment 5 g) s
    let keep (g : Segment) : Segment := { g with pkts := g.pkts.filter (fun x => s.acked x.pkt) }
    let s := { s with cave := { s.cave with ring := s.cave.ring.map keep } }
    (.ok, s.ackSegments.settleLosses)) s)

/-- Cycles of a number of hours. -/
def hourCycles (h : Nat) : Nat := h * 1800000000000

/-- What a pass of the patrol scrubber found (R294). -/
def State.scrubbed (s : State) (corrected : Nat) (bad : Nat) (hurt : List (Nat × Nat × Damage)) : State :=
  let s := if corrected = 0 then s else (s.add64 .ECC_CORRECTED 0 corrected).cause .QC_CAUSE 0 11
  let s := if bad = 0 then s else (s.add32 .ECC_UNCORRECTABLE 0 bad).cause .QC_CAUSE 0 12
  let mark (g : Segment) : Segment := { g with pkts := ((List.range g.pkts.length).zip g.pkts).map (fun kx =>
    match hurt.find? (fun h => h.1 == g.id && h.2.1 == kx.1) with
    | some h => { kx.2 with damage := h.2.2 }
    | none => kx.2) }
  { s with cave := { s.cave with ring := s.cave.ring.map mark, scrubAt := s.time.cycle } }

/-- CAVE_SCRUB_PASS (R294): every SCRUB_HOURS, single-bit errors are corrected and counted, uncorrectable ones counted; `hurt`
names the packets of the stream ring they lie in, by segment and place. -/
def execCaveScrubPass (corrected : Nat) (bad : Nat) (hurt : List (Nat × Nat × Damage)) (s : State) :
    Host.Outcome State Fault Refusal :=
  .next (if s.get .CAVE_STATE 0 = 2 ∧ s.cave.scrubAt + hourCycles (s.get .SCRUB_HOURS 0).toNat ≤ s.time.cycle then
    s.scrubbed corrected bad hurt else s)

/-! ### Marks (R303, R304, R315) -/

/-- The least RIPE of the stream packets of the segment in which the position of an index lies (R295, R304). -/
def State.ripeAt (s : State) (m : Int) : Nat :=
  match s.cave.ring.find? (fun g => g.pkts.any (fun x => decide (m ≤ x.tick))) with
  | some g => ((g.pkts.filter (fun x => x.pkt.isStream)).map (fun x => x.pkt.ripe)).foldl min 4 |> fun r =>
      if g.pkts.any (fun x => x.pkt.isStream) then r else 0
  | none => 0

/-- MARK_SET (R303, R304): all ones is the current tick; beyond it the write is refused. -/
def execMarkSet (w : Who) (n : Fin 16) (m : Nat) (s : State) : Host.Outcome State Fault Refusal :=
  .next (asCommand w .operator .MARK_SET n (.num m) (fun s =>
    let refuse := (Err.refused, s.cause .QC_CAUSE 0 10)
    match s.curTick with
    | none => refuse
    | some cur =>
      let idx : Int := if m = 0xFFFFFFFFFFFFFFFF then cur else m
      if cur < idx then refuse
      else
        let s := ((s.put .MARK_INDEX n idx).put .MARK_STATE n 1).put .MARK_OVERTAKEN n 0
        let s := s.overtake (s.get .OLDEST_INDEX 0 - 1)
        (.ok, s.put .MARK_RIPE n (s.ripeAt (s.get .MARK_INDEX n)))) s)

/-- MARK_CLEAR (R315). -/
def execMarkClear (w : Who) (n : Fin 16) (s : State) : Host.Outcome State Fault Refusal :=
  .next (asCommand w .operator .MARK_CLEAR n (.num 1) (fun s => (.ok, s.put .MARK_STATE n 0)) s)

/-! ### Replay (R305, R306) -/

/-- The destination of the replay exists: the ring endpoint, or a queue whose QUEUE_DRAIN is 1 or 2 (R305). -/
def State.replayDestOk (s : State) : Bool :=
  let d := (s.get .REPLAY_DEST 0).toNat
  d == 0xFF || (decide (d < 16) && (s.queue d).drain != 0)

/-- REPLAY_START (R305, R306). -/
def execReplayStart (w : Who) (s : State) : Host.Outcome State Fault Refusal :=
  .next (asCommand w .operator .REPLAY_START 0 (.num 1) (fun s =>
    let refuse := (Err.refused, s.cause .QC_CAUSE 0 10)
    let mk := (s.get .REPLAY_MARK 0).toNat
    let from_ : Option Int :=
      if mk = 0xFF then some (s.get .REPLAY_FROM 0)
      else if mk < 16 ∧ s.get .MARK_STATE mk ≠ 0 then some (s.get .MARK_INDEX mk) else none
    match from_, s.curTick with
    | some m, some cur =>
      if s.get .REPLAY_STATE 0 = 1 ∨ cur < m ∨ !s.replayDestOk then refuse
      else
        let to_ := if s.get .REPLAY_TO 0 = 0 then cur else s.get .REPLAY_TO 0
        let s := (s.put .REPLAY_STATE 0 1).put .REPLAY_PACKETS 0 0
        let s := { s with cave := { s.cave with replayAt := m, replayTo := to_, replayDone := 0 } }
        (.ok, s.overtake (s.get .OLDEST_INDEX 0 - 1))
    | _, _ => refuse) s)

/-- The replay is cut (R306). -/
def State.cutReplay (s : State) : State := if s.get .REPLAY_STATE 0 = 1 then s.put .REPLAY_STATE 0 3 else s

/-- REPLAY_STOP (R306). -/
def execReplayStop (w : Who) (s : State) : Host.Outcome State Fault Refusal :=
  .next (asCommand w .operator .REPLAY_STOP 0 (.num 1) (fun s => (.ok, s.cutReplay)) s)

/-- The packets still to copy, in stream order, with their segments and places (R305). -/
def State.replayLeft (s : State) : List (Segment × Nat × Stored) :=
  let all := s.cave.ring.flatMap (fun g => ((List.range g.pkts.length).zip g.pkts).map (fun kx => (g, kx.1, kx.2)))
  let span := all.filter (fun x => decide (s.cave.replayAt ≤ x.2.2.tick ∧ x.2.2.tick ≤ s.cave.replayTo) &&
    bit (s.get .REPLAY_QUEUES 0) x.2.2.pkt.queue && decide (x.2.2.pkt.queue < 16))
  let here := span.filter (fun x => decide (x.2.2.tick = s.cave.replayAt))
  (here.drop s.cave.replayDone) ++ span.filter (fun x => decide (x.2.2.tick ≠ s.cave.replayAt))

/-- The replay reader moves past a packet. -/
def State.replayPast (s : State) (x : Stored) : State :=
  let c := s.cave
  if x.tick = c.replayAt then { s with cave := { c with replayDone := c.replayDone + 1 } }
  else { s with cave := { c with replayAt := x.tick, replayDone := 1 } }

/-- A packet that is read to be sent or replayed (R301): none where it fails its check or its cells. -/
def State.readPacket (s : State) (g : Segment) (k : Nat) (x : Stored) : Option Packet × State :=
  let s := s.abortRegion false g.id
  if x.damage ≠ .none then (none, s.loseUnreadable g k x)
  else if x.pkt.checks then (some x.pkt, s)
  else (none, ((s.bump .PCRC_FAILS 0).cause .QC_CAUSE 0 13).loseUnreadable g k x)

/-- Replay copies enter their destination queue at EMIT, after live writes, until it takes no more (R277, R305, R307). -/
def State.replayToQueue (s : State) : State :=
  let d := (s.get .REPLAY_DEST 0).toNat
  if s.get .REPLAY_STATE 0 = 1 && decide (d < 16) then
    (s.replayLeft.foldl (fun (a : Bool × State) x =>
      let s := a.2
      if !a.1 || !s.canTake d || s.fenced 5 d then (false, s)
      else
        let s := s.replayPast x.2.2
        match s.readPacket x.1 x.2.1 x.2.2 with
        | (none, s) => (true, s)
        | (some p, s) => (true, (s.enter d (p.flagged 2)).add64 .REPLAY_PACKETS 0 1)) (true, s)).2
  else s

/-- REPLAY_DONE (R306): every packet up to REPLAY_TO is copied, and no more of that span can be written. -/
def execReplayDone (s : State) : Host.Outcome State Fault Refusal :=
  if s.get .REPLAY_STATE 0 = 1 && s.replayLeft.isEmpty && (!s.running || decide (s.cave.replayTo < s.tickKey)) then
    .next ((s.put .REPLAY_STATE 0 2).cause .QC_CAUSE 0 9)
  else .next s

end Sys2Proof.Machine
end

