-- ==== Sys2Proof/Machine/Snapshot.lean ====
section
/-! DEFINITION. Status objects as a dictionary read sees them (01_architecture R18): what the data plane and the control plane
show at the moment, and the copy of it that reads are answered from. -/

namespace Sys2Proof.Machine

open Sys2Proof

/-- The bank and the input of a channel (R74). -/
def bankOf (c : Nat) : Nat := c / 16
def inputOf (c : Nat) : Nat := c % 16

/-- CH_SERVED_BY (R110): 0 live, 1 spare, 2 none. -/
def State.servedBy (s : State) (c : Nat) : Int :=
  let b := bankOf c
  let st := s.get .SPARE_STATE b
  if s.get .CH_PRESENCE c = 5 then 2
  else if s.get .SPARE_CHANNEL b = (inputOf c : Int) ∧ 3 ≤ st ∧ st ≤ 7 then 1
  else 0

/-- The value of a status object at the moment: those the planes form from what they hold, and the others as they stand. -/
def State.statusNow (s : State) (o : Obj) (i : Nat) : Int :=
  match o with
  | .CH_SERVED_BY => s.servedBy i
  | .QUEUE_FILL => (s.queue i).slots.length
  | .QUEUE_PACKETS => (s.queue i).packets
  | .QUEUE_STATUS => s.queueStatus i
  | .SEG_FREE => s.cave.free
  | .SEG_ACKED => s.cave.countState .acked
  | .SEG_HELD => (s.cave.countState .held + s.cave.countState .ripening : Nat)
  | .UNACKED_BYTES => s.unackedBytes
  | _ => s.get o i

/-- The copy of R18, taken in the COMMIT phase. -/
def State.takeSnap (s : State) : State :=
  let put (l : Store) (o : Obj) (i : Nat) : Store := Sparse.put objDefault Key.code l ⟨o, i⟩ (s.statusNow o i)
  let l := s.chans.foldl (fun l x => put l .CH_SERVED_BY x.1) s.obj
  let l := s.queues.foldl (fun l x => put (put (put l .QUEUE_FILL x.1) .QUEUE_PACKETS x.1) .QUEUE_STATUS x.1) l
  let l := [Obj.SEG_FREE, .SEG_ACKED, .SEG_HELD, .UNACKED_BYTES].foldl (fun l o => put l o 0) l
  { s with engine := { s.engine with snap := l, snapBytes := s.blob, snapTaken := true } }

/-! ### The end of START_UP (R596, R598, R599) -/

/-- START_UP ends: NORMAL, with START_DONE_INDEX (R598). -/
def State.startDone (s : State) : State :=
  (s.put .SERVICE_PHASE 0 1).put .START_DONE_INDEX 0 s.tickKey

/-- A channel has left REQUALIFY since the start (R596). -/
def State.noteQualified (s : State) : State :=
  let now := (List.range 512).filter (fun c => s.get .CH_PRESENCE c != 0 && s.get .CH_PRESENCE c != 3 && !s.boot.qualified.contains c)
  { s with boot := { s.boot with qualified := s.boot.qualified ++ now } }

/-- Bank b is qualified (R596). -/
def State.bankQualified (s : State) (b : Nat) : Bool :=
  s.get .BANK_ENABLE b == 0 ||
  (s.get .COMP_LINK_STATE b == 2 &&
   (List.range 16).all (fun i => let c := 16 * b + i; !s.hasRecords c || s.boot.qualified.contains c))

/-- Start-up is judged in a grid tick (R596, R599). -/
def State.judgeStartUp (s : State) : State :=
  if s.get .SERVICE_PHASE 0 = 0 then
    let s := s.noteQualified
    let q := (List.range 32).foldl (fun (v : Int) b => if s.bankQualified b then withBit v b else v) (s.get .START_QUALIFIED 0)
    let s := s.put .START_QUALIFIED 0 q
    if q = 4294967295 ∧ (s.get .VT_STATE 0 = 2 ∨ s.get .VT_STATE 0 = 5) ∧ s.get .MODCLK_STATE 0 = 2 ∧ s.get .VAT_STATE 0 = 2 then s.startDone
    else s
  else s

/-! ### What the planes decide in a tick -/

/-- What the planes decide in a tick whose COMMIT phase has come is part of its copy (R18), and start-up is judged with it
(R596, R599; log entry 30). -/
def State.settle (s : State) : State := if s.running && s.frame.commitRan then s.judgeStartUp.takeSnap else s

/-- The outcome of a decision of the planes that is part of its tick's copy. -/
def settled (s : State) : Host.Outcome State Fault Refusal := .next s.settle

end Sys2Proof.Machine
end

