-- ==== Sys2Proof/Machine/Time.lean ====
section
/-! DEFINITION. The clocks of account (02_time_and_grid): vat time and its servo, plant time, keeper time, the
modulator clock, the external references and the PTP port. -/

namespace Sys2Proof.Machine

open Sys2Proof

/-! ### Advancing VT and PT (R38 to R44, R55, R72) -/

/-- One ns in the units of the accumulators, 2^-24 ns. -/
def ns24 : Int := 16777216

/-- One second in the units of the accumulators. -/
def second24 : Int := 1000000000 * ns24

/-- The range of an effective increment (R39). -/
def incLo : Int := 0x01FFBE77
def incHi : Int := 0x02004189

/-- STEP_THRESHOLD in 2^-24 ns. -/
def State.threshold24 (s : State) : Int := s.get .STEP_THRESHOLD 0 * ns24

/-- SLEW_RATE in increment units: 33.554432 units a ppm (R42). -/
def State.slewUnits (s : State) : Int := roundAt .slewRate (s.get .SLEW_RATE 0 * 33554432) 1000000

/-- The deviation of a cycle while `left` of a slew still runs on an increment: SLEW_RATE towards the slew, no more
than is left, within the range of R39. -/
def slewStep (rate inc left : Int) : Int :=
  let want := if left < 0 then 0 - min rate (0 - left) else min rate left
  clampInt incLo incHi (inc + want) - inc

/-- VT runs on HOLD_INCREMENT in HOLDOVER and FREE (R55). -/
def State.vtHeld (s : State) : Bool := s.get .VT_STATE 0 == 3 || s.get .VT_STATE 0 == 4
def State.ptHeld (s : State) : Bool := s.get .PT_STATE 0 == 3 || s.get .PT_STATE 0 == 4

/-- The reported increment in effect without a slew deviation (R55). Outside HOLDOVER and FREE it is VT_INCREMENT, also where a
write of VT_SOURCE has led from them to UNSET (DESIGN CHOICE, log entry 190). -/
def State.vtInc (s : State) : Int := if s.vtHeld then s.get .HOLD_INCREMENT 0 else s.get .VT_INCREMENT 0
def State.ptInc (s : State) : Int := if s.ptHeld then s.time.ptHoldInc else s.get .PT_INCREMENT 0

/-- The time unit runs (R549, R592): from BRINGUP on, but not in OFF, nor in VIGIL with PWR_VIGIL_TIME 0. -/
def State.timeRuns (s : State) : Bool :=
  decide (5 ≤ s.get .START_STATE 0) && !s.power.off && !(s.get .PWR_STATE 0 == 2 && s.get .PWR_VIGIL_TIME 0 == 0)

/-- The dither of a held increment in a cycle (R55): the bits below the reported ones add up, and each whole unit is carried
into the cycle's increment (log entry 191). -/
def dither (frac acc : Int) : Int × Int := ((acc + frac) / 4294967296, (acc + frac) % 4294967296)

/-- The clocks of a cycle of the time unit (2 ns): VT and PT gain their effective increments and their slews are worked off
(R38, R42, R44) while the time unit runs; KT counts periods of 32.768 kHz (R72); a PPS_OUT pulse ends after its width (R66); mailbox channels are
tested for crossing (R481). -/
def State.clockTime (s : State) : State :=
  let s := (List.range 8).foldl (fun s k => s.crossTest k) s
  let t := s.time
  let rate := s.slewUnits
  let on := s.timeRuns
  let dv := if s.vtHeld || t.vtSlew = 0 || !on then 0 else slewStep rate s.vtInc t.vtSlew
  let dp := if s.ptHeld || t.ptSlew = 0 || !on then 0 else slewStep rate s.ptInc t.ptSlew
  let (cv, av) := if s.vtHeld && on then dither t.holdFrac t.holdAcc else (0, t.holdAcc)
  let (cp, ap) := if s.ptHeld && on then dither t.ptHoldFrac t.ptHoldAcc else (0, t.ptHoldAcc)
  let iv := if on then s.vtInc + cv else 0
  let ip := if on then s.ptInc + cp else 0
  let ph := t.ktPhase + 32768
  let width := usCycles (s.get .PPS_OUT_WIDTH 0).toNat
  { s with time := { t with
      cycle := t.cycle + 1
      vt := t.vt + iv + dv, vtSlew := t.vtSlew - dv, holdAcc := av
      pt := t.pt + ip + dp, ptSlew := t.ptSlew - dp, ptHoldAcc := ap
      kt := if 500000000 ≤ ph then t.kt + 1 else t.kt
      ktPhase := ph % 500000000
      ppsOut := t.ppsOut && decide (t.cycle + 1 - t.ppsOutSince < width) } }

/-- The trier clock since VAT_EPOCH, 25 ns each (R135). -/
def State.trierClock (s : State) : Int := (s.time.vt - s.get .VAT_EPOCH 0 * 256) / (25 * 16777216)

/-! ### Time states (R52 to R56) -/

/-- Records of the state carry HOLD: anything but LOCKED and MASTER (R56). -/
def holdState (v : Int) : Bool := v != 2 && v != 5

/-- A change of VT_STATE is logged from the next grid instant and the next trier clock on, where HOLD-ness changes (R56, R141). -/
def State.logHold (s : State) (old v : Int) : State :=
  if holdState old == holdState v then s
  else
    let holdLog := (s.nextInstant, holdState v) :: s.time.holdLog
    let holdClocks := (s.trierClock + 1, holdState v) :: s.time.holdClocks.take 15
    { s with time := { s.time with holdLog, holdClocks } }

/-- Entering HOLDOVER: whether it is a LOCKED hub on PPS_IN that holds (R69). -/
def State.noteHeldPps (s : State) (old v : Int) : State :=
  if v = 3 then { s with time := { s.time with heldPps := old == 2 && s.get .VT_SOURCE 0 == 2 } } else s

/-- VT_STATE changes: the record of R56 is kept and the event of the new state is raised (R73). -/
def State.setVtState (s : State) (v : Int) : State :=
  let old := s.get .VT_STATE 0
  if old = v then s
  else
    let s := s.put .VT_STATE 0 v
    let s := if v = 1 ∧ (old = 3 ∨ old = 4) then s.recover else s
    let s := (s.logHold old v).noteHeldPps old v
    let s : State := if v = 3 ∨ v = 4 then s else s.put .HOLDOVER_TIME 0 0
    if v = 2 ∨ v = 5 then s.raise 0x00 else if v = 3 then s.raise 0x01 else if v = 4 then s.raise 0x02 else s

/-- A record of an index carries HOLD (R56). -/
def State.holdAt (s : State) (g : Int) : Bool := logAt true g s.time.holdLog

/-- The mean of a sum over a count; the present increment where nothing was counted (DESIGN CHOICE, log entry 192). -/
def meanInc (sum : Int) (count : Nat) (now : Int) : Int :=
  if count = 0 then now else roundAt .holdMean sum count

/-- What a mean holds beyond its reported value, 2^-32 of a unit (R55). -/
def meanFrac (sum : Int) (count : Nat) (now : Int) : Int :=
  if count = 0 then 0 else sum * 4294967296 / count - meanInc sum count now * 4294967296

/-- Entry 1 of R57: an increment or slew write accepted in the cycle in which HOLDOVER is entered is refused after all, with
EV 0x05; the answer it has been given stands (log entry 193). -/
def State.undoWrites (s : State) : State :=
  let s : State := match s.time.incWrite with
    | some (c, old) => if c = s.time.cycle then (s.put .VT_INCREMENT 0 old).raise 0x05 else s
    | none => s
  let s : State := match s.time.slewWrite with
    | some (c, old, was) =>
      if c = s.time.cycle then ({ s with time := { s.time with vtSlew := old, vtSlewing := was } }).raise 0x05 else s
    | none => s
  { s with time := { s.time with incWrite := none, slewWrite := none } }

/-- VT enters HOLDOVER on the mean of increments (R54, R55, R57). -/
def State.holdOn (s : State) (sum : Int) (count : Nat) : State :=
  let s := s.undoWrites
  let now := s.get .VT_INCREMENT 0
  let s := s.put .HOLD_INCREMENT 0 (meanInc sum count now)
  ({ s with time := { s.time with holdFrac := meanFrac sum count now, holdAcc := 0 } }).setVtState 3

/-- Entry into HOLDOVER (R54, R55): from ACQUIRING HOLD_INCREMENT is the mean of the increments of its cycles, from
LOCKED that of the last HOLDOVER_AVG cycles; in other states nothing changes. The increment of a servo cycle is the one in
effect at its boundary (DESIGN CHOICE, log entry 192). -/
def State.enterHoldover (s : State) : State :=
  let st := s.get .VT_STATE 0
  if st = 1 then s.holdOn s.time.acqSum s.time.acqCount
  else if st = 2 then
    let l := s.time.incs.take (s.get .HOLDOVER_AVG 0).toNat
    s.holdOn l.sum l.length
  else s

/-- Holdover ordered by ring time transfer or vat membership: it holds from LOCKED only (R54). -/
def State.orderHoldover (s : State) : State := if s.get .VT_STATE 0 = 2 then s.enterHoldover else s

/-- Entry into ACQUIRING: the qualifying count and the mean of its increments start anew; from HOLDOVER and FREE
HOLD_INCREMENT is written into VT_INCREMENT (R55). A jump taken in ACQUIRING restarts the qualifying count alone (R54). -/
def State.enterAcquiring (s : State) : State :=
  let s : State := if s.vtHeld then s.put .VT_INCREMENT 0 (s.get .HOLD_INCREMENT 0) else s
  let s : State := if s.get .VT_STATE 0 = 1 then s else { s with time := { s.time with acqSum := 0, acqCount := 0 } }
  ({ s with time := { s.time with qualify := 0 } }).setVtState 1

/-- Adds to a remaining slew unless STEP_THRESHOLD would be exceeded (R41). -/
def State.addVtSlew (s : State) (d : Int) : Option State :=
  let n := s.time.vtSlew + d
  if (n.natAbs : Int) > s.threshold24 then none
  else some { s with time := { s.time with vtSlew := n, vtSlewing := s.time.vtSlewing || d != 0 } }

/-- The firmware servo slews a measured offset away when it owns VT (R45, R54; log entry 11). -/
def State.servoSlew (s : State) (off : Int) : State :=
  if s.get .SERVO_OWNER 0 = 0 then (s.addVtSlew (0 - off * 256)).getD (s.raise 0x05) else s

/-- Grid indexes name other instants from now on (a load of VT, another VAT_EPOCH): the records of R56 and R63 are kept by the
instants that follow, and stand as far back from the next one as before. -/
def State.moveLogs (s old : State) : State :=
  let d := s.nextInstant - old.nextInstant
  { s with time := { s.time with holdLog := s.time.holdLog.map (fun x => (x.1 + d, x.2)),
                                 holdClocks := s.time.holdClocks.map (fun x => (x.1 + (s.trierClock - old.trierClock), x.2)),
                                 lockLog := s.time.lockLog.map (fun x => (x.1 + d, x.2)) } }

/-- The second of its base that PPS_OUT last led (R66): where the base jumps or the output changes, the next pulse is that of the
next whole second. -/
def State.ppsBase (s : State) : Int :=
  let base := if s.get .PPS_OUT_MODE 0 = 1 then s.time.vt else s.time.pt
  (base + s.get .PPS_OUT_DELAY 0 * ns24) / second24
def State.alignPps (s : State) : State := { s with time := { s.time with ppsOutSecond := s.ppsBase } }

/-- VT is set and SLEW_REMAINING cleared (R43). -/
def State.loadVt (s : State) (vt : Int) : State :=
  let s' : State :=
    { s with time := { s.time with vt := vt, vtSlew := 0, vtSlewing := false, servoMs := vt / (1000000 * ns24) } }
  (s'.moveLogs s).alignPps

/-- A valid offset beyond STEP_THRESHOLD (R51): VT is loaded while stopped and UNSET, ACQUIRING or FREE; otherwise the
jump is refused and the table of R54 applies, in which a refused jump changes nothing in UNSET (DEDUCED, log entry 195). -/
def State.vtJump (s : State) (off : Int) : State :=
  let st := s.get .VT_STATE 0
  if s.get .FRAME_STATE 0 = 0 && (st == 0 || st == 1 || st == 4) then
    (s.loadVt (s.time.vt - off * 256)).enterAcquiring
  else ({ s with vat := { s.vat with jump := true } }.raise 0x04).enterHoldover

/-- A valid offset in the servo cycle (R54), 2^-16 ns. -/
def State.vtOffset (s : State) (off : Int) : State :=
  let s := s.put .PHASE_ERROR 0 off
  let st := s.get .VT_STATE 0
  if ((off * 256).natAbs : Int) > s.threshold24 then s.vtJump off
  else if st = 0 || st = 3 || st = 4 then s.enterAcquiring.servoSlew off
  else if st = 1 then
    let q := if (off.natAbs : Int) ≤ s.get .LOCK_WINDOW 0 * 65536 then s.time.qualify + 1 else 0
    let s := { s with time := { s.time with qualify := q } }
    if s.get .QUALIFY_COUNT 0 ≤ (q : Int) then s.setVtState 2 else s
  else s

/-- Servo cycles of the source time-out (R48, R50). -/
def State.sourceTimeout (s : State) : Option Int :=
  let src := s.get .VT_SOURCE 0
  if src = 0 then some (s.get .TIMEOUT_RING 0) else if src = 1 then some (s.get .TIMEOUT_PT 0)
  else if src = 2 then some (s.get .TIMEOUT_PPS 0) else none

/-- The offset of VT against PT + VT_PT_OFFSET, 2^-16 ns (R48, R49). -/
def State.plantOffset (s : State) : Option Int :=
  let st := s.get .PT_STATE 0
  if st = 2 || st = 5 then some ((s.time.vt - s.time.pt - s.get .VT_PT_OFFSET 0 * ns24) / 256) else none

/-- A new source or a reset: VT_STATE UNSET, the count of R50 and all qualification anew (R50, R52). -/
def State.restartSource (s : State) : State :=
  let s := { s with time := { s.time with lostRun := 0, lostRaised := false, qualify := 0, offset := none } }
  s.setVtState 0

/-- The VT part of a servo cycle (R46, R47): the owner written in the cycle before takes effect; the offset, if one
arrived, is judged; the counts of the cycle advance. -/
def State.servoVt (s : State) (offset : Option Int) : State :=
  let s : State := match s.time.ownerNext with
    | some v =>
      let old := s.get .SERVO_OWNER 0
      let s := { s.put .SERVO_OWNER 0 v with time := { s.time with ownerNext := none } }
      if old = v then s else s.raise 0x07
    | none => s
  let inc := s.vtInc
  let keep := (s.get .HOLDOVER_AVG 0).toNat - 1
  let s := { s with time := { s.time with incs := inc :: s.time.incs.take keep } }
  let s : State := if s.get .VT_STATE 0 = 1 then
      { s with time := { s.time with acqSum := s.time.acqSum + inc, acqCount := s.time.acqCount + 1 } } else s
  let s : State := if s.vtHeld then s.put .HOLDOVER_TIME 0 (min (s.get .HOLDOVER_TIME 0 + 1) 4294967295) else s
  let s := { s with time := { s.time with offset := none } }
  match offset with
  | some off => ({ s with time := { s.time with lostRun := 0, lostRaised := false } }).vtOffset off
  | none =>
    let s : State := if s.get .VT_STATE 0 = 1 then { s with time := { s.time with qualify := 0 } } else s
    { s with time := { s.time with lostRun := s.time.lostRun + 1 } }

/-- TIME_SOURCE_LOST (R50): the time-out has matured with no valid offset; the event is raised once. -/
def execTimeSourceLost (s : State) : Host.Outcome State Fault Refusal :=
  match s.sourceTimeout with
  | some lim =>
    if lim ≤ s.time.lostRun && !s.time.lostRaised then
      .next (({ s with time := { s.time with lostRaised := true } }).raise 0x03).enterHoldover
    else .next s
  | none => .next s

/-- HOLDOVER_LIMIT_REACHED (R54). -/
def execHoldoverLimitReached (s : State) : Host.Outcome State Fault Refusal :=
  if s.get .VT_STATE 0 = 3 ∧ s.get .HOLDOVER_LIMIT 0 ≤ s.get .HOLDOVER_TIME 0 then .next (s.setVtState 4) else .next s

/-! ### Writes of masters (R39 to R46, R59) -/

/-- The master that writes VT_INCREMENT and VT_SLEW is the owner of the servo (R45). -/
def State.ownsServo (s : State) (w : Who) : Bool :=
  let fw := w.origin == .coreA || w.origin == .coreB
  if s.get .SERVO_OWNER 0 = 0 then fw else !fw

/-- VT_INCREMENT_WRITE (R39, R40, R45, R55). -/
def execVtIncrementWrite (w : Who) (v : Int) (s : State) : Host.Outcome State Fault Refusal :=
  .next (asWrite w .engineer .VT_INCREMENT 0 true false true (.num (s.get .VT_INCREMENT 0)) (.num v)
    (fun s => if s.ownsServo w && !s.vtHeld && decide (incLo ≤ v) && decide (v ≤ incHi) then
        let old := s.get .VT_INCREMENT 0
        (.ok, { s.put .VT_INCREMENT 0 v with time := { s.time with incWrite := some (s.time.cycle, old) } })
      else (.refused, s.raise 0x05)) s)

/-- VT_SLEW (R41, R45, R55): an offset in 2^-16 ns. -/
def execVtSlew (w : Who) (v : Int) (s : State) : Host.Outcome State Fault Refusal :=
  .next (asCommand w .engineer .VT_SLEW 0 (.num v)
    (fun s => if s.ownsServo w && !s.vtHeld then
        match s.addVtSlew (v * 256) with
        | some s' => (.ok, { s' with time := { s'.time with slewWrite := some (s.time.cycle, s.time.vtSlew, s.time.vtSlewing) } })
        | none => (.refused, s.raise 0x05)
      else (.refused, s.raise 0x05)) s)

/-- Adds to PT's remaining slew unless STEP_THRESHOLD would be exceeded (R44). -/
def State.addPtSlew (s : State) (d : Int) : Option State :=
  let n := s.time.ptSlew + d
  if (n.natAbs : Int) > s.threshold24 then none
  else some { s with time := { s.time with ptSlew := n, ptSlewing := s.time.ptSlewing || d != 0 } }

/-- PT_SLEW (R44): tested against STEP_THRESHOLD by PT's own remaining count. -/
def execPtSlew (w : Who) (v : Int) (s : State) : Host.Outcome State Fault Refusal :=
  .next (asCommand w .engineer .PT_SLEW 0 (.num v)
    (fun s => match s.addPtSlew (v * 256) with
      | some s' => (.ok, s')
      | none => (.refused, s.raise 0x05)) s)

/-- TIME_SLEW_DONE (R42, R44): a slew that was running is worked off. -/
def execTimeSlewDone (pt : Bool) (s : State) : Host.Outcome State Fault Refusal :=
  if pt then
    if s.time.ptSlewing && s.time.ptSlew == 0 then
      .next (({ s with time := { s.time with ptSlewing := false } }).raise 0x06)
    else .next s
  else if s.time.vtSlewing && s.time.vtSlew == 0 then
    .next (({ s with time := { s.time with vtSlewing := false } }).raise 0x06)
  else .next s

/-- VT_LOAD (R43, R52, R54): VT in 2^-16 ns; while STOPPED only. With VT_SOURCE 3 it moves VT_STATE to MASTER. -/
def execVtLoad (w : Who) (v : Int) (s : State) : Host.Outcome State Fault Refusal :=
  .next (asCommand w .engineer .VT_LOAD 0 (.num v)
    (fun s => if v < 0 then (.outOfRange, s)
      else if s.get .FRAME_STATE 0 = 0 then
        let s := s.loadVt (v * 256)
        (.ok, if s.get .VT_SOURCE 0 = 3 then s.setVtState 5 else s)
      else (.refused, s.raise 0x05)) s)

/-- SERVO_OWNER_WRITE (R46): it takes effect at the end of the servo cycle. -/
def execServoOwnerWrite (w : Who) (v : Int) (s : State) : Host.Outcome State Fault Refusal :=
  .next (asWrite w .engineer .SERVO_OWNER 0 true false (v == 0 || v == 1) (.num (s.get .SERVO_OWNER 0)) (.num v)
    (fun s => (.ok, { s with time := { s.time with ownerNext := some v } })) s)

/-- VAT_EPOCH_WRITE (R59): VT80 in 2^-16 ns; nanoseconds and fraction must be 0. -/
def execVatEpochWrite (w : Who) (v : Int) (s : State) : Host.Outcome State Fault Refusal :=
  .next (asWrite w .engineer .VAT_EPOCH 0 true true (decide (0 ≤ v)) (.num (s.get .VAT_EPOCH 0)) (.num v)
    (fun s => if v % (1000000000 * 65536) = 0 then (.ok, (s.put .VAT_EPOCH 0 v).moveLogs s) else (.refused, s.raise 0x05)) s)

/-- CLK_REF_SEL_WRITE (R65). -/
def execClkRefSelWrite (w : Who) (v : Int) (s : State) : Host.Outcome State Fault Refusal :=
  .next (asWrite w .engineer .CLK_REF_SEL 0 true true (v == 0 || v == 1) (.num (s.get .CLK_REF_SEL 0)) (.num v)
    (fun s =>
      let free (s : State) : State := { s with time := { s.time with clkLost := false } }
      if v = 0 then (.ok, free ((s.put .CLK_REF_SEL 0 0).put .CLK_REF_ACTIVE 0 0))
      else if s.get .CLK10_PRESENT 0 = 1 then (.ok, free ((s.put .CLK_REF_SEL 0 1).put .CLK_REF_ACTIVE 0 1))
      else (.refused, s.raise 0x05)) s)

/-! ### References and the modulator clock (R61 to R66) -/

/-- An increment scaled by the rate ratio of the TCXO to CLK10_IN in 2^-32, so that VT keeps its rate (R65). The result is kept
in the range of R39, and a ratio of 0, which no clock has, leaves the increment as it is (DESIGN CHOICE, log entry 196). -/
def scaleInc (ratio : Nat) (inc : Int) : Int :=
  if ratio = 0 then inc else clampInt incLo incHi (roundAt .clkScale (inc * 4294967296) ratio)

/-- The bits below the reported ones after that scaling, 2^-32 of a unit. -/
def scaleFrac (ratio : Nat) (inc frac : Int) : Int :=
  if ratio = 0 then frac
  else clampInt (incLo * 4294967296) (incHi * 4294967296) ((inc * 4294967296 + frac) * 4294967296 / ratio) -
    scaleInc ratio inc * 4294967296

/-- CLK10_LOST (R65): `ratio` is the last measured rate ratio. Out of use only CLK10_PRESENT changes. -/
def execClk10Lost (ratio : Nat) (s : State) : Host.Outcome State Fault Refusal :=
  if s.get .CLK_REF_ACTIVE 0 = 1 then
    let s := (s.put .CLK_REF_ACTIVE 0 0).put .CLK10_PRESENT 0 0
    let s := s.raise 0x0A
    let s := s.enterHoldover
    let s := s.put .VT_INCREMENT 0 (scaleInc ratio (s.get .VT_INCREMENT 0))
    let hold := s.get .HOLD_INCREMENT 0
    let s : State :=
      { s with time := { s.time with clkLost := true, holdFrac := scaleFrac ratio hold s.time.holdFrac } }
    .next (s.put .HOLD_INCREMENT 0 (scaleInc ratio hold))
  else .next (s.put .CLK10_PRESENT 0 0)

/-- A CLK_REF_SEL of 1 that no write has just set, as the stored configuration or a start puts it into effect (R65, R595):
CLK10_IN is selected where it toggles and has not been lost since it was selected (DEDUCED, log entry 197). -/
def State.takeRef (s : State) : State :=
  if s.get .CLK_REF_SEL 0 = 1 ∧ s.get .CLK10_PRESENT 0 = 1 ∧ s.time.clkLost = false ∧ s.running = false then
    s.put .CLK_REF_ACTIVE 0 1
  else s

/-- CLK10_PRESENT (R65): CLK10_IN toggles. -/
def execClk10Present (s : State) : Host.Outcome State Fault Refusal := .next (s.put .CLK10_PRESENT 0 1).takeRef

/-- MODCLK_STATE changes, and the record of R63 is kept; outside LOCKED the grid ticks of R61 are counted anew. -/
def State.setModclk (s : State) (v : Int) : State :=
  let s' := s.put .MODCLK_STATE 0 v
  { s' with time := { s'.time with
      lockLog := (s.nextInstant, v == 2) :: s'.time.lockLog
      phaseGood := if v = 2 then s'.time.phaseGood else 0 } }

/-- A grid tick's phase is measured (R61): `p` is its mean, 2^-16 ns. -/
def State.notePhase (s : State) (p : Int) : State :=
  let s := s.put .MODCLK_PHASE 0 p
  let good := decide (p.natAbs ≤ 4 * 65536)
  { s with time := { s.time with
      phases := p :: s.time.phases.take 3399
      phaseGood := if good then s.time.phaseGood + 1 else 0
      phaseBad := decide (p.natAbs > 30 * 65536) } }

/-- MODCLK_LOCKED (R61). -/
def execModclkLocked (s : State) : Host.Outcome State Fault Refusal :=
  if s.get .MODCLK_STATE 0 = 1 ∧ 64 ≤ s.time.phaseGood then settled ((s.setModclk 2).raise 0x08) else .next s

/-- MODCLK_UNLOCK (R61). -/
def execModclkUnlock (s : State) : Host.Outcome State Fault Refusal :=
  if s.get .MODCLK_STATE 0 = 2 ∧ s.time.phaseBad = true then
    settled ((s.setModclk 1).bump .MODCLK_UNLOCKS 0 |>.raise 0x09)
  else .next s

/-- A record of index `g` of a preset carries WHEY for the modulator clock (R63): its instant fell while the clock was
not locked, or in the whey span that follows the relock. -/
def modclkWhey (preset : Nat) (g : Int) : List (Int × Bool) → Bool
  | [] => true
  | (k, locked) :: rest =>
    if k ≤ g then !locked || decide (g ≤ spanEnd preset k 0) else modclkWhey preset g rest

/-- The distance of a VT from the nearest whole second, signed, 2^-24 ns (R48, R64); half a second counts as positive (DESIGN
CHOICE, log entry 194). -/
def fromSecond (vt : Int) : Int :=
  let r := vt % second24
  if 2 * r ≤ second24 then r else r - second24

/-- VT follows the ring: VT_SOURCE 0, and a member that another candidate leads, whatever its VT_SOURCE (R403). -/
def State.followsRing (s : State) : Bool := s.get .VT_SOURCE 0 == 0 || s.get .RT_ROLE 0 == 1 || s.get .RT_ROLE 0 == 2

/-- PPS_IN_EDGE (R64, R67, R51): the edge is stamped in VT and PT and corrected; beyond STEP_THRESHOLD from a whole second it
raises EV 0x0C, and for a VT that follows PPS_IN it is a jump. A STANDBY follows the ring and only publishes the offset (R403). -/
def execPpsInEdge (rising : Bool) (s : State) : Host.Outcome State Fault Refusal :=
  if s.get .PPS_IN_ENABLE 0 = 1 ∧ rising = (s.get .PPS_IN_EDGE 0 == 0) then
    let stamp := s.time.vt - s.get .PPS_IN_DELAY 0 * ns24
    let s := s.put .PPS_IN_LAST 0 (stamp / 256)
    let s := { s with time := { s.time with ppsSince := s.time.cycle, ppsRaised := false
                                            ppsPt := (s.time.pt - s.get .PPS_IN_DELAY 0 * ns24) / 256 } }
    let off := fromSecond stamp
    if (off.natAbs : Int) > s.threshold24 then
      let s := s.raise 0x0C
      if s.get .VT_SOURCE 0 = 2 ∧ s.followsRing = true then .next { s with time := { s.time with offset := some (off / 256) } }
      else if s.get .VT_SOURCE 0 = 2 then
        let s := { s with time := { s.time with lostRun := 0, lostRaised := false } }
        .next ((s.put .PHASE_ERROR 0 (off / 256)).vtJump (off / 256))
      else .next s
    else .next { s with time := { s.time with offset := some (off / 256) } }
  else .next s

/-- PPS_IN_MISSING (R64). -/
def execPpsInMissing (s : State) : Host.Outcome State Fault Refusal :=
  if s.get .PPS_IN_ENABLE 0 = 1 ∧ s.time.ppsRaised = false ∧
      runOut (msCycles (s.get .TIMEOUT_PPS 0).toNat) s.time.ppsSince s.time.cycle then
    .next (({ s with time := { s.time with ppsRaised := true } }).raise 0x0B)
  else .next s

/-- PPS_OUT_PULSE (R66): the rising edge leads the whole second by PPS_OUT_DELAY. -/
def execPpsOutPulse (s : State) : Host.Outcome State Fault Refusal :=
  let k := s.ppsBase
  if s.get .PPS_OUT_MODE 0 = 0 then .next { s with time := { s.time with ppsOut := false } }
  else if s.time.ppsOutSecond < k then
    .next { s with time := { s.time with ppsOut := true, ppsOutSecond := k, ppsOutSince := s.time.cycle } }
  else .next s

/-- KEEPER_CLOCK_FAIL (R72). -/
def execKeeperClockFail (s : State) : Host.Outcome State Fault Refusal :=
  if s.get .KT_CLOCK 0 = 0 then
    let s : State := { s with time := { s.time with rcFallback := true } }
    .next ((s.put .KT_CLOCK 0 1).raise 0x10)
  else .next s

/-- The keeper's clock by KT_CLOCK_SEL and the state of its crystal (R72; log entry 38). -/
def State.keeperClock (s : State) : State :=
  s.put .KT_CLOCK 0 (if s.get .KT_CLOCK_SEL 0 = 1 ∨ s.time.rcFallback = true then 1 else 0)

/-! ### Plant time and the PTP port (R44, R68, R69; the rules of IEEE 1588-2019 are PRESUMED, log entry 12) -/

/-- PTP_PORT_STATE changes (R73). -/
def State.setPortState (s : State) (v : Int) : State :=
  if s.get .PTP_PORT_STATE 0 = v then s else (s.put .PTP_PORT_STATE 0 v).raise 0x0E

/-- PTP_GM_IDENTITY changes (R73). -/
def State.setGm (s : State) (v : Int) : State :=
  if s.get .PTP_GM_IDENTITY 0 = v then s else (s.put .PTP_GM_IDENTITY 0 v).raise 0x0F

/-- The clockClass that the hub announces (R69). -/
def State.clockClass (s : State) : Nat :=
  let st := s.get .VT_STATE 0
  if s.get .PTP_MODE 0 = 1 then 255
  else if (st = 2 ∧ s.get .VT_SOURCE 0 = 2) ∨ (st = 5 ∧ s.get .CLK_REF_ACTIVE 0 = 1) then 6
  else if st = 3 ∧ s.time.heldPps = true then 7
  else 248

/-- A PT stamp in 2^-16 ns with the 8 ns resolution of R67. -/
def stamp8 (pt24 : Int) : Int := pt24 / (8 * ns24) * 8 * 65536

/-- PT's transmit and receive stamps (R67). -/
def State.txStamp (s : State) : Int := stamp8 s.time.pt + s.get .PHY_TX_LATENCY 0 * 65536
def State.rxStamp (s : State) (rx : Int) : Int := stamp8 (rx * 256) - s.get .PHY_RX_LATENCY 0 * 65536

/-- An offset from the master is formed from Sync stamps and the mean delay, and is PT's source offset (R69). -/
def State.formPtpOffset (s : State) (tx rx : Int) : State :=
  let off := rx - tx - s.get .PTP_MEAN_DELAY 0
  let s := s.put .PTP_OFFSET 0 off
  let s : State := if s.get .PTP_PORT_STATE 0 = 8 then s.setPortState 9 else s
  { s with time := { s.time with ptOffset := some off } }

/-- The PTP port starts in its mode (IEEE 1588-2019; log entry 12): off it is INITIALIZING, held as grandmaster it is MASTER,
else it is LISTENING and waits for an Announce. -/
def State.ptpBegin (s : State) : State :=
  let s : State := { s with ptp := { s.ptp with announceAt := s.time.cycle } }
  let m := s.get .PTP_MODE 0
  if m = 0 then s.setPortState 1 else if m = 3 then (s.setGm Config.partId).setPortState 6 else s.setPortState 4

/-- The data by which announced masters are compared (IEEE 1588-2019; log entry 12). -/
def rankLess (a b : List Nat) : Bool := decide (a < b)

/-- Cycles of an interval of 2^e s. -/
def logCycles (e : Int) : Nat := if e < 0 then 500000000 / 2 ^ (0 - e).toNat else 500000000 * 2 ^ e.toNat

/-- Cycles without an Announce after which a master is no longer heard. -/
def State.announceSpan (s : State) : Nat :=
  (s.get .PTP_ANNOUNCE_TIMEOUT 0).toNat * logCycles (s.get .PTP_LOG_ANNOUNCE 0)

/-- The best master heard: the lowest rank among those not timed out (log entry 12). -/
def State.bestForeign (s : State) : Option (Nat × List Nat × Nat) :=
  (s.ptp.foreign.filter (fun x => decide (s.time.cycle - x.2.2 ≤ s.announceSpan))).foldl (fun b x =>
    match b with
    | some y => if rankLess x.2.1 y.2.1 then some x else b
    | none => some x) none

/-- The port follows the best master, or is MASTER itself where its own rank is better (R68; log entry 12). -/
def State.choosePtp (s : State) : State :=
  let own := [(s.get .PTP_PRIORITY1 0).toNat, s.clockClass, (s.get .PTP_PRIORITY2 0).toNat, Config.partId]
  match s.bestForeign with
  | some (gm, r, _) =>
    if s.get .PTP_MODE 0 = 1 || rankLess r own then
      let s' := s.setGm gm
      if s'.get .PTP_PORT_STATE 0 = 9 && s.get .PTP_GM_IDENTITY 0 == gm then s' else s'.setPortState 8
    else (s.setGm Config.partId).setPortState 6
  | none => s

/-- A PTP message that is due is sent and stamped; over UDP a one-step message carries the checksum 0 (R68), and the clockClass
is that of R69. -/
def State.sendPtp (s : State) (kind seq : Nat) (stamp : Int) : State :=
  let udp := s.get .PTP_TRANSPORT 0 == 0
  s.emit (.ptp kind seq stamp s.clockClass udp (udp && s.get .PTP_ONE_STEP 0 == 1))

/-- The peer delay from the stamps of an exchange (IEEE 1588-2019; log entry 12). -/
def State.meanPeer (s : State) (t2 t3 rx : Int) : State :=
  s.put .PTP_MEAN_DELAY 0 (((rx - s.ptp.delayTx) - (t3 - t2)) / 2)

/-- PTP_MESSAGE_RX (R67, R68): a message of another domain, a management message, and every message while PTP_MODE is 0 is
ignored. -/
def execPtpMessageRx (domain : Nat) (m : PtpMsg) (s : State) : Host.Outcome State Fault Refusal :=
  if s.get .PTP_MODE 0 = 0 ∨ (domain : Int) ≠ s.get .PTP_DOMAIN 0 then .next s
  else match m with
  | .announce gm p1 cc p2 =>
    let now := s.time.cycle
    let s : State := { s with ptp := { s.ptp with announceAt := now
                                                  foreign := (gm, [p1, cc, p2, gm], now) :: s.ptp.foreign.filter (fun x => x.1 != gm) } }
    .next (if s.get .PTP_MODE 0 = 3 then s else s.choosePtp)
  | .sync tx rx =>
    if s.get .PTP_PORT_STATE 0 = 8 || s.get .PTP_PORT_STATE 0 = 9 then
      let rx := s.rxStamp rx
      let s := { s with ptp := { s.ptp with syncTx := tx, syncRx := rx } }
      .next (if tx = 0 then s else s.formPtpOffset tx rx)
    else .next s
  | .followUp tx =>
    if s.get .PTP_PORT_STATE 0 = 8 || s.get .PTP_PORT_STATE 0 = 9 then
      let s := { s with ptp := { s.ptp with syncTx := tx } }
      .next (s.formPtpOffset tx s.ptp.syncRx)
    else .next s
  | .delayResp rx =>
    let d := ((s.ptp.syncRx - s.ptp.syncTx) + (rx - s.ptp.delayTx)) / 2
    .next (if s.get .PTP_DELAY_MECH 0 = 0 then s.put .PTP_MEAN_DELAY 0 d else s)
  | .delayReq seq rx =>
    .next (if s.get .PTP_DELAY_MECH 0 = 0 ∧ s.get .PTP_PORT_STATE 0 = 6 then s.sendPtp 9 seq (s.rxStamp rx) else s)
  | .pdelayReq seq rx =>
    if s.get .PTP_DELAY_MECH 0 = 1 then
      let s := s.sendPtp 3 seq (s.rxStamp rx)
      .next (if s.get .PTP_ONE_STEP 0 = 1 then s else s.sendPtp 10 seq s.txStamp)
    else .next s
  | .pdelayResp t2 t3 rx =>
    if s.get .PTP_DELAY_MECH 0 = 1 then
      let rx := s.rxStamp rx
      match t3 with
      | some t3 => .next (s.meanPeer t2 t3 rx)
      | none => .next { s with ptp := { s.ptp with pdelay := some (t2, rx) } }
    else .next s
  | .pdelayFollowUp t3 =>
    match s.ptp.pdelay with
    | some (t2, rx) =>
      .next ((if s.get .PTP_DELAY_MECH 0 = 1 then s.meanPeer t2 t3 rx else s) |> fun (s : State) =>
        { s with ptp := { s.ptp with pdelay := none } })
    | none => .next s
  | .management => .next s

/-- PTP_ANNOUNCE_TIMEOUT (R68): masters that have fallen silent are no longer heard, and the port state changes. -/
def execPtpAnnounceTimeout (s : State) : Host.Outcome State Fault Refusal :=
  let st := s.get .PTP_PORT_STATE 0
  if s.get .PTP_MODE 0 = 0 ∨ ¬ (st = 4 ∨ st = 8 ∨ st = 9) then .next s
  else if runOut s.announceSpan s.ptp.announceAt s.time.cycle then
    let s : State := { s with ptp := { s.ptp with foreign := [] } }
    if s.get .PTP_MODE 0 = 1 then .next (s.setPortState 4)
    else .next ((s.setGm Config.partId).setPortState 6)
  else if s.get .PTP_MODE 0 = 3 then .next s
  else .next s.choosePtp

/-- PTP_MESSAGE_TX (R68): every message whose interval has passed is sent: kind 0 Sync (with a Follow_Up, kind 8, in
two-step mode), 11 Announce, 1 Delay_Req, 2 Pdelay_Req. -/
def execPtpMessageTx (s : State) : Host.Outcome State Fault Refusal :=
  let st := s.get .PTP_PORT_STATE 0
  let now := s.time.cycle
  let p2p := s.get .PTP_DELAY_MECH 0 = 1
  if s.get .PTP_MODE 0 = 0 then .next s
  else
    let s : State := if st = 6 ∧ logCycles (s.get .PTP_LOG_SYNC 0) ≤ now - s.ptp.syncAt then
        let q := s.ptp.syncSeq
        let s := s.sendPtp 0 q s.txStamp
        let s : State := if s.get .PTP_ONE_STEP 0 = 1 then s else s.sendPtp 8 q s.txStamp
        { s with ptp := { s.ptp with syncSeq := (q + 1) % 65536, syncAt := now } } else s
    let s : State := if st = 6 ∧ logCycles (s.get .PTP_LOG_ANNOUNCE 0) ≤ now - s.ptp.sentAnnounceAt then
        let q := s.ptp.announceSeq
        let s := s.sendPtp 11 q s.txStamp
        { s with ptp := { s.ptp with announceSeq := (q + 1) % 65536, sentAnnounceAt := now } } else s
    .next (if (p2p ∨ st = 8 ∨ st = 9) ∧ logCycles (s.get .PTP_LOG_DELAY_REQ 0) ≤ now - s.ptp.delayAt then
        let q := s.ptp.delaySeq
        let s := s.sendPtp (if p2p then 2 else 1) q s.txStamp
        { s with ptp := { s.ptp with delaySeq := (q + 1) % 65536, delayAt := now, delayTx := s.txStamp } } else s)

/-- PT_STATE enters HOLDOVER; its own increment is set as R54 and R55 set HOLD_INCREMENT. -/
def State.ptHoldover (s : State) : State :=
  let st := s.get .PT_STATE 0
  let now := s.get .PT_INCREMENT 0
  let l := s.time.ptIncs
  let hold (s : State) (sum : Int) (count : Nat) : State :=
    { s.put .PT_STATE 0 3 with time := { s.time with ptHoldInc := meanInc sum count now, ptHoldTime := 0,
                                                     ptHoldFrac := meanFrac sum count now, ptHoldAcc := 0 } }
  if st = 1 then hold s s.time.ptAcqSum s.time.ptAcqCount
  else if st = 2 then hold s l.sum l.length
  else s

/-- PT_STATE enters ACQUIRING; a jump taken in ACQUIRING restarts the qualifying count alone (R54). -/
def State.ptAcquire (s : State) : State :=
  let s : State := if s.ptHeld then s.put .PT_INCREMENT 0 s.time.ptHoldInc else s
  let s : State := if s.get .PT_STATE 0 = 1 then s else { s with time := { s.time with ptAcqSum := 0, ptAcqCount := 0 } }
  { s.put .PT_STATE 0 1 with time := { s.time with ptQualify := 0 } }

/-- PT is set and its remaining slew cleared (R44, R69). -/
def State.loadPt (s : State) (pt : Int) : State :=
  ({ s with time := { s.time with pt, ptSlew := 0, ptSlewing := false } }).alignPps

/-- A valid PTP offset by the table of R54, with PT's own objects; a refused jump raises EV 0x0D (R51). -/
def State.ptJudge (s : State) (off : Int) : State :=
  let st := s.get .PT_STATE 0
  if ((off * 256).natAbs : Int) > s.threshold24 then
    if s.get .FRAME_STATE 0 = 0 && (st == 0 || st == 1 || st == 4) then
      (s.loadPt (s.time.pt - off * 256)).ptAcquire
    else (s.raise 0x0D).ptHoldover
  else if st = 0 || st = 3 || st = 4 then
    let s := s.ptAcquire
    (s.addPtSlew (0 - off * 256)).getD (s.raise 0x05)
  else if st = 1 then
    let q := if (off.natAbs : Int) ≤ s.get .LOCK_WINDOW 0 * 65536 then s.time.ptQualify + 1 else 0
    let s := { s with time := { s.time with ptQualify := q } }
    if s.get .QUALIFY_COUNT 0 ≤ (q : Int) then s.put .PT_STATE 0 2 else s
  else s

/-- PT while the port is SLAVE: the table of R54 with the PTP offset and TIMEOUT_PT (R69). A PT that was steered to VT, MASTER,
starts from UNSET (DEDUCED, log entry 198). -/
def State.ptFollow (s : State) : State :=
  let s : State := if s.get .PT_STATE 0 = 5 then s.put .PT_STATE 0 0 else s
  let inc := s.ptInc
  let s := { s with time := { s.time with ptIncs := inc :: s.time.ptIncs.take ((s.get .HOLDOVER_AVG 0).toNat - 1) } }
  let s : State := if s.get .PT_STATE 0 = 1 then
      { s with time := { s.time with ptAcqSum := s.time.ptAcqSum + inc, ptAcqCount := s.time.ptAcqCount + 1 } } else s
  let s : State := if s.ptHeld then { s with time := { s.time with ptHoldTime := s.time.ptHoldTime + 1 } } else s
  let s : State := match s.time.ptOffset with
    | some off =>
      ({ s with time := { s.time with ptOffset := none, ptLostRun := 0, ptLostRaised := false } }).ptJudge off
    | none =>
      let s := { s with time := { s.time with ptLostRun := s.time.ptLostRun + 1,
                                              ptQualify := if s.get .PT_STATE 0 = 1 then 0 else s.time.ptQualify } }
      if s.get .TIMEOUT_PT 0 ≤ s.time.ptLostRun && !s.time.ptLostRaised then
        ({ s with time := { s.time with ptLostRaised := true } }).ptHoldover
      else s
  if s.get .PT_STATE 0 = 3 ∧ s.get .HOLDOVER_LIMIT 0 ≤ s.time.ptHoldTime then s.put .PT_STATE 0 4 else s

/-- PT in every other port state: it is steered to VT − VT_PT_OFFSET, loaded while stopped and slewed otherwise (R69). -/
def State.ptSteer (s : State) : State :=
  let s := s.put .PT_STATE 0 5
  let target := s.time.vt - s.get .VT_PT_OFFSET 0 * ns24
  if s.running then
    { s with time := { s.time with ptSlew := target - s.time.pt,
                                   ptSlewing := s.time.ptSlewing || target != s.time.pt } }
  else s.loadPt target

/-- PT_SERVO_CYCLE (R44, R47, R69): at each PT millisecond boundary. -/
def execPtServoCycle (s : State) : Host.Outcome State Fault Refusal :=
  let ms := s.time.pt / (1000000 * ns24)
  if ms = s.time.ptMs then .next s
  else
    let s := { s with time := { s.time with ptMs := ms } }
    .next (if s.get .PTP_PORT_STATE 0 = 9 then s.ptFollow else s.ptSteer)

end Sys2Proof.Machine
end

