-- ==== Sys2Proof/Machine/Channel.lean ====
section
/-! DEFINITION. What the control plane does to a channel (03_channel_front_ends, 04_scan_tables_and_validity): presence
states, marks on records, the path that serves a channel, and the settings its records are taken under. -/

namespace Sys2Proof.Machine

open Sys2Proof

/-! ### Modes and ranges (R77, R78) -/

/-- RTD2, RTD3, RTD4 and BRIDGE: the modes with excitation. -/
def excMode (mode : Int) : Bool := decide (2 ≤ mode) && decide (mode ≤ 5)

/-- Full scale of a range code in units of 10 nV (R78). -/
def fullScale (range : Int) : Int :=
  if range = 0 then 125000000 else if range = 1 then 31250000 else if range = 2 then 7812500
  else if range = 3 then 1953125 else 500000000

/-- A range code is allowed in a mode (R78). DESIGN CHOICE, log entry 208: the table names neither OFF nor PAIRED, which take codes
0 to 3. -/
def rangeAllowed (mode range : Int) : Bool :=
  if mode = 0 then decide (range ≤ 4)
  else if mode = 1 then range != 3 && decide (range ≤ 4)
  else if mode = 6 then range == 0
  else decide (range ≤ 3)


/-- The settings of a channel as committed now. -/
def State.cfgNow (s : State) (c : Nat) : ChanCfg :=
  { mode := s.get .CH_MODE c, range := s.get .CH_RANGE c, exc := s.get .CH_EXC c
    offset := s.get .CAL_OFFSET c, gain := s.get .CAL_GAIN c, lead := s.get .LEAD_OFFSET c
    delay := s.get .GROUP_DELAY c, spareDelay := s.get .SPARE_DELAY c
    dcb := bit (s.get .DCB_ENABLE (bankOf c)) (inputOf c), dcbShift := s.get .DCB_SHIFT_i c
    autoFreeze := s.get .DCB_AUTO_FREEZE (bankOf c) == 1, trim := s.get .LANE_TRIM (bankOf c)
    notch := s.get .NOTCH_MODE (bankOf c)
    cjcTable := if s.get .CH_MODE c = 7 then s.getBytes .CJC_TABLE (bankOf c) else [] }

/-- The settings a record of an index is taken under (R26). -/
def State.cfgAt (s : State) (c : Nat) (g : Int) : ChanCfg := logAt (s.cfgNow c) g (s.chan c).cfgs

/-- The settings now committed hold from index `g`. -/
def State.logCfg (s : State) (c : Nat) (g : Int) : State :=
  let ch := s.chan c
  s.setChan c { ch with cfgs := logAdd g (s.cfgNow c) ch.cfgs }

/-! ### Presence (R90 to R94, R640) -/

/-- A bank runs: it acquires and its BANK_ENABLE is 1. -/
def State.bankOn (s : State) (b : Nat) : Bool := s.running && s.get .BANK_ENABLE b == 1

/-- The settling of an excitation start for a requalification (R640). -/
def State.requalSettle (s : State) (c : Nat) : Nat :=
  if excMode (s.get .CH_MODE c) && s.get .CH_EXC c != 0 then (s.get .EXC_SETTLE (bankOf c)).toNat else 0

/-- A channel enters REQUALIFY in tick `d` with first tick `f` (R640): records from `f` to `e` not yet emitted carry
WHEY, and the channel becomes PRESENT in tick e + P. -/
def State.requalify (s : State) (c : Nat) (f d : Int) : State :=
  let p := s.preset c
  let e := max (spanEnd p f (s.requalSettle c)) (d / presetPeriod p * presetPeriod p)
  let s := s.addMark c ⟨.whey, .requal, f, some e⟩
  let ch := s.chan c
  let s := s.setChan c { ch with release := e + presetPeriod p, failRun := 0, passRun := 0, faultKind := 0 }
  let s := if s.get .CH_WIRE_FAULT c = 0 then s else s.put .CH_WIRE_FAULT c 0
  s.put .CH_PRESENCE c 3

/-- A channel enters ABSENT, its records from the index of the first failing tick carrying ABSENT (R90). -/
def State.enterAbsent (s : State) (c : Nat) (from_ : Int) : State :=
  (s.addMark c ⟨.absent, .presence, from_, none⟩).put .CH_PRESENCE c 2

/-- A channel without a healthy modulator (R101): the marks of presence and fault end. -/
def State.enterLost (s : State) (c : Nat) : State :=
  let n := s.tickKey
  ((s.endMarks c .presence (n - 1)).endMarks c .fault (n - 1)).put .CH_WIRE_FAULT c 5 |>.put .CH_PRESENCE c 5

/-- A healthy modulator serves a LOST channel again (R93). -/
def State.leaveLost (s : State) (c : Nat) : State :=
  if s.get .CH_PRESENCE c = 5 then (s.requalify c s.tickKey s.tickKey) else s

/-- A wiring test found a code (R92, R93): from PRESENT, ABSENT and REQUALIFY the channel enters FAULT and its records
not yet emitted carry ABSENT for OPEN and WHEY for the other codes. -/
def State.wireFault (s : State) (c kind : Nat) (code : Int) : State :=
  let st := s.get .CH_PRESENCE c
  if st = 1 ∨ st = 2 ∨ st = 3 then
    let n := s.tickKey
    let b := bankOf c
    let s := s.endMarks c .presence (n - 1)
    let s := s.addMark c ⟨if code = 1 then .absent else .whey, .fault, s.firstUnemitted c n, none⟩
    let s := s.setChan c { s.chan c with faultKind := kind, failRun := 0, passRun := 0 }
    let s := (s.put .CH_WIRE_FAULT c code).put .CH_PRESENCE c 4
    (s.bump .CH_FAULT_COUNT c).causeIn 0 b .BANK_CAUSE b 2
  else s

/-- A wiring test of a kind passed: a fault latched by that kind is cleared (R92, R93). -/
def State.wirePass (s : State) (c kind : Nat) : State :=
  if s.get .CH_PRESENCE c = 4 ∧ (s.chan c).faultKind = kind then
    let n := s.tickKey
    (s.endMarks c .fault (n - 1)).requalify c n n
  else s

/-- The presence criterion of R89: presence fails in the tick. -/
def State.presenceFails (s : State) (c : Nat) (tin : TickIn) : Bool :=
  let mode := s.get .CH_MODE c
  if excMode mode then s.get .CH_EXC c != 0 && tin.compliance.contains c
  else if mode = 6 then
    match tin.loops.find? (fun l => l.chan == c) with
    | some l => decide (l.maxMag < s.get .LOOP_ABSENT_LIMIT (bankOf c))
    | none => decide (0 < s.get .LOOP_ABSENT_LIMIT (bankOf c))
  else if mode = 1 ∨ mode = 7 then s.get .BURNOUT c == 1 && tin.overPos.contains c
  else false

/-- The presence detector counts tick `n` for one channel (R89, R93), presence failing or not; a channel in REQUALIFY whose
presence fails goes back to ABSENT. -/
def State.countPresence (s : State) (n : Int) (c : Nat) (fails : Bool) : State :=
  let st := s.get .CH_PRESENCE c
  if !s.hasRecords c || !(st == 1 || st == 2 || st == 3) then s
  else
    let ch := s.chan c
    if fails then
      let ch := { ch with failRun := ch.failRun + 1, failFrom := if ch.failRun = 0 then n else ch.failFrom, passRun := 0 }
      let s := s.setChan c ch
      if st == 3 then s.enterAbsent c n else s
    else
      s.setChan c { ch with passRun := ch.passRun + 1, passFrom := if ch.passRun = 0 then n else ch.passFrom, failRun := 0 }

/-- The detector's result of the present tick counts, what R94 puts before it having settled the channel's state. -/
def State.settlePresence (s : State) (c : Nat) : State :=
  let ch := s.chan c
  match ch.verdict with
  | some (n, fails) => (s.setChan c { ch with verdict := none }).countPresence n c fails
  | none => s

/-- The presence detector judges tick `n` for one channel. A twin unit that is not ACTING judges channels with excitation
by MIRROR frames (R415). -/
def State.judgePresence (s : State) (tin : TickIn) (n : Int) (c : Nat) : State :=
  if !s.hasRecords c || (!s.acting && excMode (s.get .CH_MODE c) && s.get .CH_EXC c != 0) then s
  else s.setChan c { s.chan c with verdict := some (n, s.presenceFails c tin) }

/-- PRESENCE_JUDGE of GRID_TICK (R89): every bank that runs and is not fenced; the results count later in the tick (R94). -/
def State.judgeAllPresence (s : State) (tin : TickIn) (n : Int) : State :=
  (List.range 512).foldl (fun s c =>
    let s := s.settlePresence c
    if s.bankOn (bankOf c) && !s.fenced 0 (bankOf c) then s.judgePresence tin n c else s) s

/-- CHANNEL_ABSENT (R90, R93, R94). -/
def execChannelAbsent (c : Fin 512) (s : State) : Host.Outcome State Fault Refusal :=
  let b := bankOf c
  let s := s.settlePresence c
  if s.get .CH_PRESENCE c = 1 ∧ 3 ≤ (s.chan c).failRun ∧ s.bankOn b = true ∧ s.fenced 0 b = false then
    let s := s.enterAbsent c (s.chan c).failFrom
    settled ((s.bump .CH_ABSENT_COUNT c).causeIn 0 b .BANK_CAUSE b 0)
  else .next s

/-- CHANNEL_REQUALIFY (R93, R640). -/
def execChannelRequalify (c : Fin 512) (s : State) : Host.Outcome State Fault Refusal :=
  let b := bankOf c
  let s := s.settlePresence c
  let ch := s.chan c
  if s.get .CH_PRESENCE c = 2 ∧ s.get .REQUAL_TICKS b ≤ (ch.passRun : Int) ∧ s.bankOn b = true ∧ s.fenced 0 b = false then
    settled ((s.endMarks c .presence (ch.passFrom - 1)).requalify c ch.passFrom s.tickKey)
  else .next s

/-! ### The path that serves a channel (R184, R185) -/

/-- From index `g` on a channel is served as given; what was planned from `g` on is dropped. -/
def State.setServe (s : State) (c : Nat) (g : Int) (v : Serve) : State :=
  let ch := s.chan c
  s.setChan c { ch with serve := (g, v) :: (ch.serve.filter (fun e => decide (e.1 < g))).take 15 }

/-- The channel's records not yet emitted come from a path (R98). -/
def State.serveNow (s : State) (c : Nat) (v : Serve) : State := s.setServe c (s.firstUnemitted c s.tickKey) v

/-- A fade over TAKEOVER_FADE output samples from the first index at or after `g`; answers the index after it (R185). -/
def State.serveFade (s : State) (c : Nat) (g : Int) (toSpare : Bool) : Int × State :=
  let p := presetPeriod (s.preset c)
  let f := (s.get .TAKEOVER_FADE (bankOf c)).toNat
  let g0 := alignUp g p
  let e := g0 + f * p
  let s := s.setServe c g0 (if toSpare then .fadeIn f else .fadeOut f)
  (e, s.setServe c e (if toSpare then .spare else .live))

/-- The path that serves index `g` of a channel, with its first index. -/
def serveAt (g : Int) : List (Int × Serve) → Int × Serve
  | [] => (0, .live)
  | (k, v) :: t => if k ≤ g then (k, v) else serveAt g t

end Sys2Proof.Machine
end

