-- ==== Sys2Proof/Machine/Companion.lean ====
section
/-! DEFINITION. The companion control link (03_channel_front_ends, R84 to R88): command and response frames, the link
state table, and the registers the hub plans and writes. -/

namespace Sys2Proof.Machine

open Sys2Proof

/-- A cause bit of a bank, suppressed while the bank is fenced (R108, R519). -/
def State.bankCause (s : State) (b bit : Nat) : State := s.causeIn 0 b .BANK_CAUSE b bit

/-- The 48 bits of a frame over its upper 40: the CRC-8 of R85 in the low byte. -/
def sealFrame40 (upper : Nat) : Nat := upper % 2 ^ 40 * 256 + crc8Bits (natBits 40 (upper % 2 ^ 40))

/-- A command frame (R85), with bits [7:0] of the grid index of its tick. -/
def CompCmd.word (c : CompCmd) (n : Int) : Nat :=
  sealFrame40 (c.opc % 16 * 2 ^ 36 + c.seq % 16 * 2 ^ 32 + c.reg % 256 * 2 ^ 24 + c.data % 65536 * 2 ^ 8 + (n % 256).toNat)

/-- What a response frame carries (R85). -/
structure CompResp where
  opc    : Nat
  seq    : Nat
  status : Nat
  data   : Nat
  bad    : Nat
  crcOk  : Bool
deriving DecidableEq, Repr

def CompResp.ofWord (w : Nat) : CompResp :=
  { opc := w / 2 ^ 44 % 16, seq := w / 2 ^ 40 % 16, status := w / 2 ^ 32 % 256, data := w / 2 ^ 16 % 65536
    bad := w / 256 % 256, crcOk := crc8Bits (natBits 40 (w / 256)) == w % 256 }

/-- An exchange is good (R85): the CRC holds, OPC and SEQ match the command. -/
def CompResp.good (r : CompResp) (c : CompCmd) : Bool := r.crcOk && r.opc == c.opc && r.seq == c.seq

/-! ### Registers (R86, R87) -/

/-- The DIVIDER register: bit i set where input i has range code 4. -/
def State.dividerMask (s : State) (b : Nat) : Nat :=
  ((List.range 16).filter (fun i => s.get .CH_RANGE (16 * b + i) == 4)).foldl (fun m i => m + 2 ^ i) 0

/-- The value planned for a register; 0 before any. -/
def Bank.planned (B : Bank) (reg : Nat) : Nat := Sparse.get (fun _ => 0) B.plan reg

/-- Plans a register: a changed value waits as a WRITE exchange in register order (R87). -/
def State.planReg (s : State) (b reg val : Nat) : State :=
  let B := s.bank b
  if B.planned reg = val then s
  else
    let B := { B with plan := Sparse.put (fun _ => 0) (fun k => k) B.plan reg val }
    let B := if s.get .COMP_LINK_STATE b = 2 then
        { B with writes := Sparse.insert (fun k => k) reg val B.writes } else B
    s.setBank b (if reg = 2 then { B with dividerAt := none } else if reg = 4 then { B with probeLive := false } else B)

/-- Plans LOOP_POWER and DIVIDER from settings (R87). -/
def State.planCommit (s : State) (settings : State) (b : Nat) : State :=
  (s.planReg b 1 (settings.get .COMP_LOOP_POWER b).toNat).planReg b 2 (settings.dividerMask b)

/-- Registers 0x01 to 0x04 wait to be written when the link becomes UP (R88). -/
def State.rewriteRegs (s : State) (b : Nat) : State :=
  let B := s.bank b
  s.setBank b { B with writes := [(1, B.planned 1), (2, B.planned 2), (3, B.planned 3), (4, B.planned 4)] }

/-- The DIVIDER write of the plan is done in tick `t`: the invalid spans that waited for it are closed (R124). -/
def State.dividerDone (s : State) (b : Nat) (t : Int) : State :=
  let B := s.bank b
  let s := s.setBank b { B with dividerAt := some t, dividerWait := [] }
  B.dividerWait.foldl (fun s w =>
    let c := 16 * b + w.1
    s.endMarks c .divider (spanEnd (s.preset c) w.2 (8 + (t + 1 - w.2).toNat))) s

/-- A switch into or out of range code 4 at `g` (R124): A is 8 and the ticks until the DIVIDER write is done. -/
def State.dividerSwitch (s : State) (c : Nat) (g : Int) : State :=
  let b := bankOf c
  match (s.bank b).dividerAt with
  | some t => s.wheySpan c g (spanEnd (s.preset c) g (8 + (t + 1 - g).toNat))
  | none =>
    let B := s.bank b
    (s.addMark c ⟨.whey, .divider, g, none⟩).setBank b { B with dividerWait := (inputOf c, g) :: B.dividerWait }

/-! ### Sending (R84, R88) -/

/-- Whether the link exchanges frames: SYNC, UP or LOST (R88). -/
def State.linkActive (s : State) (b : Nat) : Bool :=
  let st := s.get .COMP_LINK_STATE b
  st == 1 || st == 2 || st == 3

/-- A bad exchange (R88). -/
def State.badExchange (s : State) (b : Nat) : State :=
  let B := s.bank b
  let B' := { B with sent := none, goodRun := 0, badRun := B.badRun + 1 }
  let s := s.setBank b B'
  if s.get .COMP_LINK_STATE b = 2 then
    let s := s.bump .COMP_ERRORS b
    if 4 ≤ B'.badRun then (s.put .COMP_LINK_STATE b 3).bankCause b 3 else s
  else s

/-- The command of a tick (R86 to R88): READ of VERSION in SYNC until one is good; a WRITE that waits while UP and not
fenced, by the acting unit of a twin only, while its lease holds (R414, R415); READ of FAULT_LATCH when due; otherwise POLL. -/
def State.nextCommand (s : State) (b : Nat) : Nat × Nat × Nat :=
  let B := s.bank b
  let st := s.get .COMP_LINK_STATE b
  if st = 1 ∧ B.versionRead = false then (2, 0x10, 0)
  else match B.writes with
    | (r, v) :: _ => if st = 2 ∧ s.fenced 0 b = false ∧ s.drives = true then (1, r, v) else if B.latchDue then (2, 0x11, 0) else (0, 0, 0)
    | [] => if B.latchDue then (2, 0x11, 0) else (0, 0, 0)

/-- COMP_COMMAND_TX of GRID_TICK (R84): each bank whose link is active judges a missing response and sends its command. -/
def State.companionTx (s : State) (n : Int) (b : Nat) : State :=
  if s.linkActive b then
    let s := if (s.bank b).sent.isSome then s.badExchange b else s
    let (opc, reg, data) := s.nextCommand b
    let B := s.bank b
    let cmd : CompCmd := { opc, seq := B.seq, reg, data }
    let st := s.get .COMP_LINK_STATE b
    let s := s.setBank b { B with sent := some cmd, seq := (B.seq + 1) % 16,
                                  syncTicks := if st = 1 then B.syncTicks + 1 else 0 }
    s.emit (.companion b (cmd.word n))
  else s

/-! ### Judging responses (R88, R119) -/

/-- The execution's statistics of an input. -/
def Exec.stat (e : Exec) (i : Nat) : ExecStat := Sparse.get (fun _ => {}) e.stats i
def Exec.setStat (e : Exec) (i : Nat) (x : ExecStat) : Exec :=
  { e with stats := Sparse.put (fun _ => {}) (fun k => k) e.stats i x }

/-- A good response of the exchange of tick n counts for an execution that holds n (R119, R120). -/
def State.pollExec (s : State) (b : Nat) (poll : Bool) (r : CompResp) (live : Bool) (n : Int) (e : Exec) : Exec :=
  if n < e.start ∨ e.stop ≤ n then e
  else (List.range 16).foldl (fun (e : Exec) i =>
    let x := e.stat i
    let count (hit : Nat) : Exec := e.setStat i { x with polls := x.polls + 1, hits := x.hits + hit }
    if !e.mask.testBit i then e
    else if e.kind = 4 ∧ poll = true ∧ s.get .CH_MODE (16 * b + i) = 6 then count (r.data / 2 ^ i % 2)
    else if e.kind = 5 ∧ live = true then count (r.status / 8 % 2)
    else e) e

/-- Counts a good response for the SUPPLY or PROBE execution that the tick of its exchange belongs to, though a boundary of the
tick has ended it (R119, R120). -/
def State.scanPoll (s : State) (b : Nat) (poll : Bool) (r : CompResp) (live : Bool) : State :=
  let sc := s.scan b
  let f := s.pollExec b poll r live s.tickKey
  s.setScan b { sc with current := sc.current.map f, runs := sc.runs.map (fun x => { x with execs := x.execs.map f }) }

/-- What a good response of a command brings (R85 to R87). -/
def State.goodExchange (s : State) (b : Nat) (c : CompCmd) (r : CompResp) : State :=
  let B := s.bank b
  let s := s.scanPoll b (c.opc == 0) r B.probeLive
  let fault := c.opc = 0 && r.data != 0
  let s := s.put .COMP_STATUS b r.status
  let s := if c.opc = 0 then s.put .COMP_LOOP_FAULT b r.data else s
  let s := if r.status ≠ 0 || fault then s.bankCause b 5 else s
  let B := s.bank b
  let B := { B with sent := none, badRun := 0, goodRun := B.goodRun + 1,
                    latchDue := (if c.opc = 2 ∧ c.reg = 0x11 then false else B.latchDue) || r.status != 0 || fault }
  let s := s.setBank b B
  if c.opc = 1 ∧ r.data = c.data then
    let B := { B with writes := B.writes.filter (fun w => !(w.1 == c.reg && w.2 == c.data))
                      probeLive := if c.reg = 4 then c.data != 0 else B.probeLive }
    let s := s.setBank b B
    if c.reg = 2 then s.dividerDone b s.tickKey else s
  else if c.opc = 2 ∧ c.reg = 0x10 then
    (s.setBank b { B with versionRead := true }).put .COMP_VERSION b r.data
  else if c.opc = 2 ∧ c.reg = 0x11 then s.put .COMP_FAULT_LATCH b r.data
  else s

/-- The link state after a good exchange (R88). -/
def State.linkAdvance (s : State) (b : Nat) : State :=
  let B := s.bank b
  let st := s.get .COMP_LINK_STATE b
  if st = 1 ∧ B.versionRead = true ∧ s.get .COMP_VERSION b / 256 ≠ 1 then
    (s.put .COMP_LINK_STATE b 4).bankCause b 3
  else if (st = 1 ∨ st = 3) ∧ 8 ≤ B.goodRun then
    ((s.put .COMP_LINK_STATE b 2).rewriteRegs b).bankCause b 4
  else s

/-- COMP_RESPONSE_RX (R85, R88): a response that no command awaits changes nothing. -/
def execCompResponseRx (b : Fin 32) (resp : BitVec 48) (s : State) : Host.Outcome State Fault Refusal :=
  match (s.bank b).sent with
  | none => .next s
  | some c =>
    if s.linkActive b then
      let r := CompResp.ofWord resp.toNat
      if r.good c then settled ((s.goodExchange b c r).linkAdvance b) else settled (s.badExchange b)
    else .next s

/-- COMP_SYNC_TIMEOUT (R88). -/
def execCompSyncTimeout (b : Fin 32) (s : State) : Host.Outcome State Fault Refusal :=
  if s.get .COMP_LINK_STATE b = 1 ∧ 256 ≤ (s.bank b).syncTicks then
    settled ((s.put .COMP_LINK_STATE b 3).bankCause b 3)
  else .next s

/-- The link of a bank that starts to acquire: SYNC (R88). -/
def State.linkStart (s : State) (b : Nat) : State :=
  let B := s.bank b
  let s := s.setBank b { B with sent := none, goodRun := 0, badRun := 0, syncTicks := 0, versionRead := false, writes := [] }
  (s.put .COMP_LINK_STATE b 1).planCommit s b

/-- The link of a bank that stops, or whose BANK_ENABLE is 0: DOWN (R88). -/
def State.linkStop (s : State) (b : Nat) : State :=
  let B := s.bank b
  (s.setBank b { B with sent := none, writes := [], probeLive := false }).put .COMP_LINK_STATE b 0

end Sys2Proof.Machine
end

