-- ==== Sys2Proof/Machine/Repair.lean ====
section
/-! DEFINITION. The repair map and the fuse entries (18_self_test_repair_life R574 to R578): what an entry says, which spare
elements are left, and how a soft repair is proposed and written. -/

namespace Sys2Proof.Machine

open Sys2Proof

/-! ### Entries (R576) -/

def repairKind (e : Nat) : Nat := e / 2 ^ 28 % 16
def repairFused (e : Nat) : Bool := e.testBit 27
def repairUnit (e : Nat) : Nat := e / 2 ^ 16 % 256
def repairSpare (e : Nat) : Nat := e / 2 ^ 12 % 16
def repairElement (e : Nat) : Nat := e % 1024

/-- A soft entry of R576. -/
def repairWord (kind unit spare element : Nat) : Nat :=
  kind * 2 ^ 28 + unit % 256 * 2 ^ 16 + spare % 16 * 2 ^ 12 + element % 1024

/-- The kinds of R576. -/
def repModulator : Nat := 1
def repCurdRow : Nat := 2
def repCoreRow : Nat := 3
def repCave : Nat := 4

def State.mapEntry (s : State) (n : Nat) : Nat := (s.get .REPAIR_ENTRY_n n).toNat

/-- Fuse entries that are applied (R574, R579). -/
def State.fuseEntries (s : State) : List Nat :=
  ((List.range 48).filter (fun k => !s.test.badFuses.contains k)).map (fun k => (s.get .FUSE_ENTRY_n k).toNat)
    |>.filter (fun e => e != 0)

/-- Two entries name the same resource. -/
def sameResource (a b : Nat) : Bool :=
  repairKind a == repairKind b && repairUnit a == repairUnit b && repairElement a == repairElement b

/-- Every repair that stands: the fuse entries, and the soft entries that name no resource of a fuse entry (R574). -/
def State.repairs (s : State) : List Nat :=
  let fuses := s.fuseEntries
  let soft := ((List.range 64).map s.mapEntry).filter (fun e => e != 0 && !fuses.any (fun f => sameResource f e))
  fuses ++ soft

/-! ### What is left (R575, R587) -/

/-- REPAIR_COUNT: map entries in use. -/
def State.repairCount (s : State) : Nat := (List.range 64).countP (fun n => s.mapEntry n != 0)

/-- A fuse entry is unused (R578). -/
def State.fuseFree (s : State) (k : Nat) : Bool := s.get .FUSE_ENTRY_n k == 0 && !s.test.badFuses.contains k

/-- FUSE_FREE. -/
def State.fusesFree (s : State) : Nat := (List.range 48).countP s.fuseFree

/-- A spare of a unit is taken by a repair. -/
def State.spareUsed (s : State) (kind unit spare : Nat) : Bool :=
  s.repairs.any (fun e => repairKind e == kind && (kind == repCave || repairUnit e == unit) && repairSpare e == spare)

/-- A bank has its spare modulator left for a repair. -/
def State.modulatorLeft (s : State) (b : Nat) : Bool :=
  !s.spareUsed repModulator b 0 && s.get .SPARE_STATE b != 7 && s.get .SPARE_STATE b != 8

/-- The first spare element that a failed element of a kind and unit can take (R575). -/
def State.firstSpare (s : State) (kind unit : Nat) : Option Nat :=
  if kind = repModulator then (if s.modulatorLeft unit then some 0 else none)
  else
    let n := if kind = repCurdRow then 4 else if kind = repCoreRow then 2 else 6
    (List.range n).find? (fun k => !s.spareUsed kind unit k &&
      !(kind == repCave && (s.test.regionsOut.contains (248 + k) || unit == 248 + k)))

/-- SPARES_LEFT: cave spare regions, banks with a spare, spare memory rows (R587). -/
def State.sparesLeft (s : State) : Nat :=
  let rows := s.repairs.countP (fun e => repairKind e == repCurdRow || repairKind e == repCoreRow)
  let caves := (List.range 6).countP (fun k => !s.spareUsed repCave 0 k && !s.test.regionsOut.contains (248 + k))
  let banks := (List.range 32).countP s.modulatorLeft
  caves * 2 ^ 24 + banks * 2 ^ 16 + (256 * 4 + 32 * 2 - rows)

/-- Curd store arrays withdrawn, and the slots that queues may take (R273, R575). -/
def State.curdSlots (s : State) : Int := 3932160 - 16384 * ((s.test.rowsOut.map (fun x => x.1)).eraseDups.length : Int)

/-! ### Proposing and writing (R577) -/

/-- The first empty map entry. -/
def State.mapFree (s : State) : Option Nat := (List.range 64).find? (fun n => s.mapEntry n == 0)

/-- What a soft repair brings at once (R577): rows and regions are remapped. -/
def State.repairActs (s : State) (e : Nat) : State :=
  let t := s.test
  if repairKind e = repCurdRow then
    { s with test := { t with rowsOut := t.rowsOut.filter (fun x => x != (repairUnit e, repairElement e)) } }
  else if repairKind e = repCave then
    let out := t.regionsOut.filter (fun r => r != repairUnit e)
    let back := s.cave.withdrawn.filter (fun i =>
      out.any (fun r => Config.inTestRegion s.cave.total s.cave.regionMib false i r))
    { s with test := { t with regionsOut := out }, cave := { s.cave with withdrawn := back } }
  else s

/-- A soft repair is written to a map entry: EV 0xF3 (R577). -/
def State.writeRepair (s : State) (n e : Nat) : State :=
  ((s.put .REPAIR_ENTRY_n n e).repairActs e).cause .ST_CAUSE 0 3

/-- No spare or map entry is left: EV 0xF4 (R575, R577). -/
def State.exhausted (s : State) : State := s.cause .ST_CAUSE 0 4

/-- The firmware proposes a soft repair (R577): with ST_AUTO_REPAIR it is written at once and journalled as a COMMAND
entry. True when it has been written. -/
def State.proposeRepair (s : State) (e : Nat) : Bool × State :=
  if s.get .ST_AUTO_REPAIR 0 = 1 then
    match s.mapFree with
    | some n => (true, (s.jrnWrite 1 0 0x1720 0x03 false false [] (leBytes 4 e)).writeRepair n e)
    | none => (false, s.exhausted)
  else (false, s.put .REPAIR_PROPOSED 0 e)

/-- The spare of a bank is TAKEN for an input, and its repair is proposed (R100, R577). -/
def State.proposeTaken (s : State) (b i : Nat) : State :=
  let e := repairWord repModulator b 0 i
  if s.repairs.any (fun x => sameResource x e) then s else (s.proposeRepair e).2

end Sys2Proof.Machine
end

