-- ==== Sys2Proof/Machine/SpareModulator.lean ====
section
/-! DEFINITION. Modulator health and the spare modulator (03_channel_front_ends, R95 to R105): shadow rotation and its
comparator, takeover, arbitration, and calibration under cover of the spare. -/

namespace Sys2Proof.Machine

open Sys2Proof

/-! ### Health (R95, R100, R101) -/

/-- Ticks in a row in which a modulator of a bank failed its monitor; 16 is S. -/
def State.monRun (s : State) (b m : Nat) : Nat := Sparse.get (fun _ => 0) (s.bank b).monRuns m

/-- The bits of a modulator in a tick, earliest first; one that the tick does not list gives 0 and 1 by turns (log entry 7). -/
def TickIn.bitsOf (t : TickIn) (b m : Nat) : List Bool :=
  natBits 128 (match t.bits.find? (fun x => x.bank == b && x.mod == m) with
    | some x => x.bits
    | none => 226854911280625642308916404954512140970) |>.reverse

/-- A 0-to-1 transition (R95). -/
def hasRise : List Bool → Bool
  | a :: b :: t => (!a && b) || hasRise (b :: t)
  | _ => false

/-- A modulator fails its bitstream monitor in the tick (R95); 16 is S, whose front end is that of input i. -/
def TickIn.monitorFails (t : TickIn) (b m i : Nat) : Bool :=
  let bits := t.bitsOf b m
  let ones := bits.countP (fun x => x)
  let c := 16 * b + i
  !hasRise bits || ((decide (ones < 2) || decide (126 < ones)) && !t.overAny.contains c && !t.overPos.contains c) ||
    t.bias.contains (b, m)

/-- The monitor of R95 judges the tick. An OFF or PAIRED channel's modulator is powered down and is not judged. -/
def State.noteMonitors (s : State) (tin : TickIn) (b : Nat) : State :=
  if s.bankOn b then
    (List.range 17).foldl (fun s m =>
      let B := s.bank b
      let live := m = 16 || s.hasRecords (16 * b + m)
      let at_ := if m = 16 then (s.get .SPARE_CHANNEL b).toNat % 16 else m
      let run := if live && tin.monitorFails b m at_ then s.monRun b m + 1 else 0
      s.setBank b { B with monRuns := Sparse.put (fun _ => 0) (fun k => k) B.monRuns m run }) s
  else s

/-- The bank has a spare (R100): it is neither TAKEN nor FAILED, it is healthy and acquisition runs. -/
def State.hasSpare (s : State) (b : Nat) : Bool :=
  let st := s.get .SPARE_STATE b
  s.running && st != 7 && st != 8 && !(s.bank b).failed.contains 16

/-- An eligible channel (R96): PRESENT, in a mode with records, its live modulator sound. -/
def State.eligible (s : State) (b i : Nat) : Bool :=
  s.get .CH_PRESENCE (16 * b + i) == 1 && s.hasRecords (16 * b + i) && !(s.bank b).failed.contains i

def State.setSpare (s : State) (b : Nat) (f : Spare → Spare) : State :=
  let B := s.bank b
  s.setBank b { B with spare := f B.spare }

/-- SPARE_STATE and SPARE_CHANNEL (R104). -/
def State.spareTo (s : State) (b : Nat) (st : Int) (k : Option Nat) : State :=
  (s.put .SPARE_STATE b st).put .SPARE_CHANNEL b (match k with | some i => (i : Int) | none => 0xFF)

/-- The input the spare is at. -/
def State.spareInput (s : State) (b : Nat) : Nat := (s.get .SPARE_CHANNEL b).toNat % 16

/-- A dwell ends without a verdict (R97, R105): SHADOW_SKIPS counts it and SHADOW_LAST holds verdict 2. -/
def State.skipDwell (s : State) (b : Nat) : State :=
  let sp := (s.bank b).spare
  (s.bump .SHADOW_SKIPS b).put .SHADOW_LAST b
    (2 * 2 ^ 60 + s.spareInput b % 16 * 2 ^ 56 + sp.from_ % 2 ^ 56)

/-! ### Visits (R96, R102, R104) -/

/-- The spare begins a visit in tick `n`: 64 ticks of calibration, then connection and the invalid span (R96). -/
def State.beginVisit (s : State) (b i : Nat) (v : Visit) (n : Int) : State :=
  let p := s.preset (16 * b + i)
  let chain : Chain := { preset := p, start := n, body := { since := n } }
  let s := s.setSpare b (fun sp => { sp with visit := v, last := i, firstNext := none, calDone := false, wheyTo := none
                                             spanEnd := spanEnd p (n + 64) 4, spoiled := false, chain, drain := none })
  s.spareTo b 1 (some i)

/-- The first eligible input after one, wrapping from 15 to 0 (R96). -/
def State.nextEligible (s : State) (b after : Nat) : Option Nat :=
  ((List.range 16).map (fun k => (after + 1 + k) % 16)).find? (fun i => s.eligible b i)

/-- The calibration request that is served next: that of the lowest-numbered channel (R102). -/
def lowest (l : List Nat) : Option Nat := l.foldl (fun m i => match m with | none => some i | some j => some (min i j)) none

/-- The next visit of a free spare (R104): a waiting calibration, else the next eligible channel, else OFF. -/
def State.nextVisit (s : State) (b : Nat) (n : Int) : State :=
  let B := s.bank b
  match lowest (B.calQueue.filter (fun i => s.hasRecords (16 * b + i))) with
  | some i => (s.setBank b { B with calQueue := B.calQueue.filter (fun j => j != i) }).beginVisit b i .calibrate n
  | none =>
    if s.get .SHADOW_ENABLE b = 1 then
      match B.spare.firstNext with
      | some i => if s.eligible b i then s.beginVisit b i .shadow n else
          match s.nextEligible b B.spare.last with
          | some j => s.beginVisit b j .shadow n
          | none => s.spareTo b 0 none
      | none =>
        match s.nextEligible b B.spare.last with
        | some j => s.beginVisit b j .shadow n
        | none => s.spareTo b 0 none
    else s.spareTo b 0 none

/-- The comparator takes a pair of the dwell (R97): values in 2^-8 LSB, the flags of the record, and whether path S fades between
coefficient banks. A spare value outside the range of a record carries CLIP. -/
def State.comparePair (s : State) (b i : Nat) (g live spare : Int) (flags : Nat) (blend : Bool) : State :=
  let sp := (s.bank b).spare
  let whey := match sp.wheyTo with | some h => decide (g ≤ h) | none => false
  let leave := whey || blend || decide (spare < -2147483648) || decide (2147483392 < spare) || hasFlag flags flagWhey || hasFlag flags flagBlend || hasFlag flags flagClip ||
    hasFlag flags flagAbsent || hasFlag flags flagFence
  if s.get .SPARE_STATE b = 2 ∧ s.spareInput b = i ∧ sp.from_ ≤ g ∧ g ≤ sp.upto ∧ leave = false then
    let d := spare - live
    s.setSpare b (fun sp => { sp with pairs := sp.pairs + 1, diffSum := sp.diffSum + d, diffSq := sp.diffSq + (d * d).toNat })
  else s

/-- The spare begins the fade of a channel to itself from index `g` (R99, R102). -/
def State.beginFadeIn (s : State) (b : Nat) (v : Visit) (g : Int) : State :=
  let i := s.spareInput b
  let (e, s) := s.serveFade (16 * b + i) g true
  (s.setSpare b (fun sp => { sp with visit := v, stageEnd := e })).spareTo b 3 (some i)

/-- FADE_OUT back to the live path, from the first index after its whey span (R99, R102). -/
def State.beginFadeOut (s : State) (b : Nat) (back n : Int) : State :=
  let i := s.spareInput b
  let c := 16 * b + i
  let p := s.preset c
  let g := max (spanEnd p back 0 + presetPeriod p) (s.firstUnemitted c n)
  let (e, s) := s.serveFade c g false
  (s.setSpare b (fun sp => { sp with stageEnd := e, off := none, calDone := false })).spareTo b 6 (some i)

/-- COVER ends when the coefficients are written and the live path has settled (R102, R104). -/
def State.coverDone (s : State) (b : Nat) (n : Int) : State :=
  let sp := (s.bank b).spare
  if s.get .SPARE_STATE b = 5 ∧ sp.calDone = true ∧ sp.stageEnd ≤ n then
    let back := match sp.off with | some (_, k) => k | none => n
    (s.beginFadeOut b back n).bankCause b 11
  else s

/-- What each tick does to a bank's spare (R104): a spare in OFF begins a visit when there is one; a shadowing spare
whose SHADOW_ENABLE is 0 goes to OFF, its dwell without a verdict; COVER ends. DESIGN CHOICE, log entry 206: a visit for
calibration goes on with SHADOW_ENABLE 0, which serves no records yet in SETTLE. -/
def State.spareTick (s : State) (n : Int) (b : Nat) : State :=
  if s.bankOn b && !s.fenced 0 b && s.hasSpare b then
    let st := s.get .SPARE_STATE b
    if st = 0 then s.nextVisit b n
    else if (st = 1 ∨ st = 2) ∧ (s.bank b).spare.visit = .shadow ∧ s.get .SHADOW_ENABLE b = 0 then
      (if st = 2 then s.skipDwell b else s).spareTo b 0 none
    else s.coverDone b n
  else s

/-- CHANNEL_RELEASED (R93, R94, R640): a spare that waits in OFF for an eligible channel leaves it in the same tick (R104). -/
def execChannelReleased (c : Fin 512) (s : State) : Host.Outcome State Fault Refusal :=
  let b := bankOf c
  let s := s.settlePresence c
  if s.get .CH_PRESENCE c = 3 ∧ (s.chan c).release ≤ s.tickKey ∧ s.bankOn b = true ∧ s.fenced 0 b = false then
    settled (((s.put .CH_PRESENCE c 1).causeIn 0 b .BANK_CAUSE b 1).spareTick s.tickKey b)
  else .next s

/-- SPARE_SETTLED (R96, R104): SETTLE ends with the last record of the span after connection. The spare's offset and
gain of the input are those found in the visit's calibration, free values (log entry 5). -/
def execSpareSettled (b : Fin 32) (s : State) : Host.Outcome State Fault Refusal :=
  let sp := (s.bank b).spare
  if s.get .SPARE_STATE b = 1 ∧ sp.spanEnd < s.tickKey ∧ s.bankOn b = true then
    let i := s.spareInput b
    let c := 16 * (b : Nat) + i
    let (o, s) := s.draw
    let (k, s) := s.draw
    let s := (s.put .SPARE_OFFSET c ((o % 4294967296 : Nat) - 2147483648)).put .SPARE_GAIN c (k % 4294967296 : Nat)
    let p := presetPeriod (s.preset c)
    if sp.visit = .calibrate then settled (s.beginFadeIn b .calibrate (sp.spanEnd + p))
    else
      let s := s.setSpare b (fun sp => { sp with from_ := sp.spanEnd + p, upto := sp.spanEnd + s.get .SHADOW_DWELL b * p,
                                                 pairs := 0, diffSum := 0, diffSq := 0, spoiled := false })
      settled (s.spareTo b 2 (some i))
  else .next s

/-- The comparator's verdict (R97): 2 without one, 1 mismatch, 0 pass; limits in record LSB. -/
def shadowVerdict (sp : Spare) (meanLimit rmsLimit : Int) : Nat :=
  if sp.spoiled || sp.pairs < 16 then 2
  else if (sp.diffSum.natAbs : Int) > meanLimit * 256 * sp.pairs ∨
      (sp.diffSq : Int) > rmsLimit * rmsLimit * 65536 * sp.pairs then 1
  else 0

/-! ### Takeover and failure (R98, R104, R105) -/

/-- The live path of channel k serves again at once (R104); records not yet emitted carry WHEY for its whey span when it
was off the signal. -/
def State.liveBack (s : State) (b i : Nat) (n : Int) : State :=
  let c := 16 * b + i
  let s := s.serveNow c .live
  match (s.bank b).spare.off with
  | some (_, back) =>
    let s := s.wheySpan c (s.firstUnemitted c n) (spanEnd (s.preset c) (min back n) 0)
    s.setSpare b (fun sp => { sp with off := none })
  | none => s

/-- Waiting calibration requests that can no longer be served are dropped (R102: no spare). -/
def State.dropQueue (s : State) (b : Nat) : State :=
  let B := s.bank b
  if B.calQueue.isEmpty then s else (s.setBank b { B with calQueue := [] }).bankCause b 12

/-- The spare takes over channel `j` of its bank (R98, R104): directly where its path has run on `j`, otherwise through
settling with WHEY for 4 ticks and the whey span after the connection, its chain from the end of the settling. DESIGN CHOICE, log
entry 209: a calibration in SETTLE is dropped without a cause bit; the table rules FADE_IN, COVER and FADE_OUT. -/
def State.takeOver (s : State) (b j : Nat) (n : Int) : State :=
  let st := s.get .SPARE_STATE b
  let k := s.spareInput b
  let v := (s.bank b).spare.visit
  let c := 16 * b + j
  let fading := st = 3 || st = 5 || st = 6
  let s := if st = 2 then s.skipDwell b else s
  let s :=
    if k = j && (st = 2 || fading) then s.serveNow c .spare
    else
      let s := if fading && k != j then
          let s := s.liveBack b k n
          if v = .calibrate then (if st = 6 then s else s.bankCause b 12)
          else if v = .mismatch && st = 3 then s.bump .SHADOW_UNRESOLVED b else s
        else s
      let chain : Chain := { preset := s.preset c, start := n + 4, body := { since := n + 4 } }
      let s := s.setSpare b (fun sp => { sp with chain, drain := none })
      (s.serveNow c .spare).wheySpan c (s.firstUnemitted c n) (spanEnd (s.preset c) n 4)
  let s := s.setSpare b (fun sp => { sp with off := none, thenFailed := false })
  let s := ((s.dropQueue b).spareTo b 7 (some j)).proposeTaken b j
  (s.bankCause b 7).bankCause b 8

/-- A live modulator's channel finds no spare: it becomes LOST and cause bit [7] records it (R101, R105). -/
def State.loseChannel (s : State) (b i : Nat) : State := (s.enterLost (16 * b + i)).bankCause b 7

/-- The live modulator of input `i` is declared failed (R98, R105). -/
def State.liveFailed (s : State) (b i : Nat) (n : Int) : State :=
  let st := s.get .SPARE_STATE b
  let spareToo := 2 ≤ s.monRun b 16
  let lower := (List.range i).any (fun j => 2 ≤ s.monRun b j && !(s.bank b).failed.contains j)
  let B := s.bank b
  let s := s.setBank b { B with failed := i :: B.failed }
  if st = 4 then
    if s.spareInput b = i then s.bankCause b 7
    else
      let s := s.setSpare b (fun sp => { sp with claimants := sp.claimants ++ [i] })
      s.loseChannel b i
  else if st = 7 ∧ s.spareInput b = i ∧ spareToo = false then s.bankCause b 7
  else if !s.hasSpare b || spareToo || lower then s.loseChannel b i
  else s.takeOver b i n

/-- The sample hold of an arbitration that is abandoned ends: what it has not held yet is neither held nor marked (R186). -/
def State.endHold (s : State) (c : Nat) (n : Int) : State :=
  let ch := s.chan c
  let g := s.firstUnemitted c n
  let marks := ch.marks.map (fun m =>
    if m.tag = .span ∧ ch.holds.any (fun h => h.1 == m.lo) = true then { m with hi := m.hi.map (fun h => min h (g - 1)) } else m)
  s.setChan c { ch with marks, holds := ch.holds.map (fun h => (h.1, min h.2 (g - 1))) }

/-- The spare modulator is declared failed (R104, R105). -/
def State.spareFailed (s : State) (b : Nat) (n : Int) : State :=
  let st := s.get .SPARE_STATE b
  let k := s.spareInput b
  let B := s.bank b
  let s := s.setBank b { B with failed := 16 :: B.failed }
  let s :=
    if st = 7 then s.loseChannel b k
    else if st = 3 ∨ st = 4 ∨ st = 5 ∨ st = 6 then
      let s := (if st = 4 then s.endHold (16 * b + k) n else s).liveBack b k n
      if B.failed.contains k then s.loseChannel b k else s
    else if st = 2 then s.skipDwell b
    else s
  let s := s.setSpare b (fun sp => { sp with off := none, thenFailed := false, claimants := [] })
  ((s.dropQueue b).spareTo b 8 none).bankCause b 10

/-- A modulator is declared failed once it has failed its monitor in 2 consecutive ticks (R95); a failed spare stays so. -/
def State.declareFailed (s : State) (b m : Nat) : State :=
  if s.bankOn b = true ∧ 2 ≤ s.monRun b m ∧ (s.bank b).failed.contains m = false then
    if m = 16 then (if s.get .SPARE_STATE b = 8 then s else s.spareFailed b s.tickKey)
    else s.liveFailed b m s.tickKey
  else s

/-- MODULATOR_FAILED (R95, R98): the modulator failed its monitor in 2 consecutive ticks. -/
def execModulatorFailed (b : Fin 32) (m : Fin 17) (s : State) : Host.Outcome State Fault Refusal :=
  settled (s.declareFailed b m)

/-- The failures of the tick are taken before the end of a stage of the spare's work: that of the spare first (R105). -/
def State.takeFailures (s : State) (b : Nat) : State :=
  (16 :: List.range 16).foldl (fun (s : State) m => s.declareFailed b m) s

/-- SHADOW_VERDICT (R96, R97, R104, R105): in the tick in which the record of the dwell's last index leaves the harp. -/
def execShadowVerdict (b : Fin 32) (s : State) : Host.Outcome State Fault Refusal :=
  let s := s.takeFailures b
  let sp := (s.bank b).spare
  let i := s.spareInput b
  let c := 16 * (b : Nat) + i
  let n := s.tickKey
  if s.get .SPARE_STATE b = 2 ∧ sp.upto + presetLatency (s.preset c) ≤ n ∧ s.bankOn b = true then
    let v := shadowVerdict sp (s.get .SHADOW_MEAN_LIMIT b) (s.get .SHADOW_RMS_LIMIT b)
    if v = 2 then settled ((s.skipDwell b).nextVisit b n)
    else
      let s := s.put .SHADOW_LAST b ((v : Int) * 2 ^ 60 + i % 16 * 2 ^ 56 + sp.from_ % 2 ^ 56)
      if v = 1 then
        settled (((s.bump .SHADOW_MISMATCHES b).bankCause b 6).beginFadeIn b .mismatch (s.firstUnemitted c n))
      else settled (s.nextVisit b n)
  else settled s

/-! ### Stages that end (R99, R102, R104) -/

/-- SPARE_FADE_DONE (R99, R102, R104). -/
def execSpareFadeDone (b : Fin 32) (s : State) : Host.Outcome State Fault Refusal :=
  let s := s.takeFailures b
  let sp := (s.bank b).spare
  let n := s.tickKey
  let i := s.spareInput b
  let c := 16 * (b : Nat) + i
  let p := s.preset c
  if s.bankOn b = true ∧ sp.stageEnd ≤ n then
    if s.get .SPARE_STATE b = 3 then
      if sp.visit = .calibrate then
        let s := s.setSpare b (fun sp => { sp with off := some (n, n + 1024),
                                                   stageEnd := spanEnd p (n + 1024) 0 + presetPeriod p })
        settled (s.spareTo b 5 (some i))
      else
        let s := s.setSpare b (fun sp => { sp with off := some (n, n + 3840), stageEnd := n + 4096 })
        let ch := s.chan c
        let s := s.setChan c { ch with holds := (n + 3840, n + 4095) :: ch.holds.take 7 }
        let s := s.wheySpan c (n + 3840) (spanEnd p (n + 4096) 0)
        settled (s.spareTo b 4 (some i))
    else if s.get .SPARE_STATE b = 6 then
      let s := s.bankCause b 9
      if sp.thenFailed then
        let B := s.bank b
        let s := s.setBank b { B with failed := 16 :: B.failed, spare := { B.spare with thenFailed := false } }
        settled ((s.dropQueue b).spareTo b 8 none)
      else settled (s.nextVisit b n)
    else .next s
  else .next s

/-- A modulator passes an arbitration (R99): its error lies within ARB_LIMIT, ppm of FS, at every level. -/
def arbPasses (limit : Int) (errors : List Int) : Bool := errors.all (fun e => decide ((e.natAbs : Int) ≤ limit))

/-- A modulator of a bank is marked failed (R95, R99). -/
def State.noteFailed (s : State) (b m : Nat) : State :=
  let B := s.bank b
  if B.failed.contains m then s else s.setBank b { B with failed := m :: B.failed }

/-- The test is over: its hold and its claimants are gone. -/
def State.arbClear (s : State) (b : Nat) : State := s.setSpare b (fun sp => { sp with off := none, claimants := [] })

/-- The live modulator of input i fails the test and the spare passes it: the spare takes over (R99, R104). -/
def State.arbTaken (s : State) (b i : Nat) : State :=
  (((((s.noteFailed b i).arbClear b).dropQueue b).spareTo b 7 (some i)).proposeTaken b i).bankCause b 7 |>.bankCause b 8

/-- Both fail the test: the channel is LOST and the bank has no spare (R99, R104). -/
def State.arbLost (s : State) (b i : Nat) : State :=
  let s := ((((s.noteFailed b i).noteFailed b 16).arbClear b).dropQueue b).enterLost (16 * b + i)
  ((s.spareTo b 8 none).bankCause b 7).bankCause b 10

/-- The spare alone fails the test (R99, R104): it fades out and is FAILED then. -/
def State.arbSpareBad (s : State) (b : Nat) (at_ n : Int) : State :=
  let s := s.setSpare b (fun sp => { sp with thenFailed := true, claimants := [] })
  (s.beginFadeOut b at_ n).bankCause b 10

/-- Both pass the test (R99, R104): the mismatch stays unresolved, and a channel that waits for the spare takes it. -/
def State.arbUnresolved (s : State) (b i : Nat) (at_ n : Int) : State :=
  let s := (s.bump .SHADOW_UNRESOLVED b).bankCause b 6
  match lowest (s.bank b).spare.claimants with
  | some j => ((((s.liveBack b i n).spareTo b 0 none).arbClear b).takeOver b j n).leaveLost (16 * b + j)
  | none => s.beginFadeOut b at_ n

/-- ARBITRATE_VERDICT (R99, R104, R105): `live` and `spare` are the measured errors at the three levels. -/
def execArbitrateVerdict (b : Fin 32) (live spare : List Int) (s : State) : Host.Outcome State Fault Refusal :=
  let s := s.takeFailures b
  let sp := (s.bank b).spare
  let n := s.tickKey
  let i := s.spareInput b
  if s.get .SPARE_STATE b = 4 ∧ s.bankOn b = true ∧ sp.stageEnd ≤ n then
    let lim := s.get .ARB_LIMIT b
    let liveOk := arbPasses lim live && !(s.bank b).failed.contains i
    let spareOk := arbPasses lim spare
    if !liveOk && spareOk then settled (s.arbTaken b i)
    else if !liveOk then settled (s.arbLost b i)
    else if !spareOk then settled (s.arbSpareBad b (sp.stageEnd - 256) n)
    else settled (s.arbUnresolved b i (sp.stageEnd - 256) n)
  else .next s

/-! ### Calibration (R102, R103) -/

/-- Cycles of a number of grid ticks. -/
def tickCycles (n : Nat) : Nat := n * 15625 / 2

/-- CH_CALIBRATE (R102): under cover of the spare while acquisition runs, without cover in 1,024 ticks while stopped. DESIGN CHOICE,
log entry 210: a channel without records has nothing to cover, and its request is refused while acquisition runs. -/
def execChCalibrate (w : Who) (c : Fin 512) (s : State) : Host.Outcome State Fault Refusal :=
  let b := bankOf c
  let i := inputOf c
  .next (asCommand w .service .CH_CALIBRATE c .unit
    (fun s =>
      let B := s.bank b
      let queue := if B.calQueue.contains i then B.calQueue else i :: B.calQueue
      if s.running then
        if s.hasSpare b && s.hasRecords c then
          let s := s.setBank b { B with calQueue := queue }
          let st := s.get .SPARE_STATE b
          if st = 0 then (.ok, s.spareTick s.tickKey b)
          else if (st = 1 ∨ st = 2) ∧ B.spare.visit = .shadow then
            (.ok, (if st = 2 then s.skipDwell b else s).nextVisit b s.tickKey)
          else (.ok, s)
        else (.refused, s.bankCause b 12)
      else match B.calNow with
        | some _ => (.ok, s.setBank b { B with calQueue := queue })
        | none => (.ok, s.setBank b { B with calNow := some (i, s.time.cycle + tickCycles 1024) })) s)

/-- Writes the coefficients a calibration found; they hold from the next index not emitted (R102). -/
def State.writeCal (s : State) (c : Nat) (offset : Int) (gain : Nat) : State :=
  let s := (s.put .CAL_OFFSET c (clampInt (-2147483648) 2147483647 offset)).put .CAL_GAIN c (gain % 4294967296 : Nat)
  if s.running then s.logCfg c (s.firstUnemitted c s.tickKey) else s

/-- The calibration of a channel that is covered (R102): its words are written after the 1,024 ticks of conversion; the cover
ends once the live path has settled. -/
def State.calCovered (s : State) (b : Nat) (offset : Int) (gain : Nat) : State :=
  let sp := (s.bank b).spare
  let n := s.tickKey
  let back := match sp.off with | some (_, k) => k | none => n
  if s.get .SPARE_STATE b = 5 ∧ back ≤ n ∧ sp.calDone = false then
    ((s.writeCal (16 * b + s.spareInput b) offset gain).setSpare b (fun sp => { sp with calDone := true })).coverDone b n
  else s.coverDone b n

/-- The calibration of a channel while acquisition is stopped (R102): after 1,024 ticks; the next waiting request is served. -/
def State.calStopped (s : State) (b : Nat) (offset : Int) (gain : Nat) : State :=
  match (s.bank b).calNow with
  | some (i, t) =>
    if t ≤ s.time.cycle then
      let s := (s.writeCal (16 * b + i) offset gain).bankCause b 11
      let B := s.bank b
      let next := lowest B.calQueue
      s.setBank b { B with calQueue := B.calQueue.filter (fun k => some k != next),
                           calNow := next.map (fun j => (j, s.time.cycle + tickCycles 1024)) }
    else s
  | none => s

/-- CALIBRATION_DONE (R102). -/
def execCalibrationDone (b : Fin 32) (offset : Int) (gain : Nat) (s : State) : Host.Outcome State Fault Refusal :=
  settled (if s.running then (s.takeFailures b).calCovered b offset gain else s.calStopped b offset gain)

/-- BANK_DELAY_CAL (R103): while acquisition is stopped. -/
def execBankDelayCal (w : Who) (b : Fin 32) (s : State) : Host.Outcome State Fault Refusal :=
  .next (asCommand w .service .BANK_DELAY_CAL b .unit
    (fun s => if s.running then (.refused, s.bankCause b 12)
      else
        let B := s.bank b
        (.ok, s.setBank b { B with delayCal := some (s.time.cycle + tickCycles 256) })) s)

/-- A delay with the lane's trim lies within 0 to 4,000 ns (R177). -/
def delayAllowed (trim d : Int) : Bool := decide (0 ≤ d + trim) && decide (d + trim ≤ 4000 * 65536)

/-- BANK_DELAY_CAL_DONE (R103, R177): `live` and `spare` are the measured delays of the 16 inputs, 2^-16 ns. -/
def execBankDelayCalDone (b : Fin 32) (live spare : List Int) (s : State) : Host.Outcome State Fault Refusal :=
  let B := s.bank b
  match B.delayCal with
  | some t =>
    if t ≤ s.time.cycle then
      let trim := s.get .LANE_TRIM b
      let write (o : Obj) (vals : List Int) (s : State) : State :=
        (vals.take 16).zipIdx.foldl (fun s x =>
          if delayAllowed trim x.1 then s.put o (16 * (b : Nat) + x.2) x.1 else s.bankCause b 12) s
      let s := s.setBank b { B with delayCal := none }
      .next ((write .SPARE_DELAY spare (write .GROUP_DELAY live s)).bankCause b 11)
    else .next s
  | none => .next s

/-- BANK_CAUSE_CLEAR (R108, R109). -/
def execBankCauseClear (w : Who) (b : Fin 32) (mask : Nat) (s : State) : Host.Outcome State Fault Refusal :=
  .next (clearCommand w .BANK_CAUSE_CLEAR .BANK_CAUSE b mask s)

/-! ### Starts, stops and fences (R100, R101, R515, R520) -/

/-- The spare and the monitors of a bank at an acquisition start (R100, R101): live modulators are judged afresh. -/
def State.spareStart (s : State) (b : Nat) : State :=
  let B := s.bank b
  let st := s.get .SPARE_STATE b
  let keep := B.replaced ++ (if st = 8 then [16] else [])
  let s := s.setBank b { B with monRuns := [], failed := keep, calQueue := [], calNow := none,
                                spare := if st = 7 then B.spare else {} }
  if st = 7 ∨ st = 8 then s else s.spareTo b 0 none

/-- The spare of a bank at a stop: work in progress ends, a TAKEN or FAILED spare stays (R100). -/
def State.spareStop (s : State) (b : Nat) : State :=
  let st := s.get .SPARE_STATE b
  let s := if st = 2 then s.skipDwell b else s
  let B := s.bank b
  let s := s.setBank b { B with calQueue := [] }
  if st = 7 ∨ st = 8 then s else s.spareTo b 0 none

/-- The bank is fenced (R104, R515): the spare abandons its work and goes to OFF; a TAKEN spare stays. -/
def State.spareFence (s : State) (b : Nat) : State :=
  let st := s.get .SPARE_STATE b
  let sp := (s.bank b).spare
  let i := s.spareInput b
  if st = 0 ∨ st = 7 ∨ st = 8 then s
  else
    let s := if st = 2 then s.skipDwell b else s
    let arb := sp.visit = .mismatch && (st = 3 || st = 4)
    let s := if arb then s.bump .SHADOW_UNRESOLVED b else s
    let s := if sp.visit = .calibrate && st != 6 then
        (if bit (s.get .BANK_CAUSE b) 12 then s else s.orCause .BANK_CAUSE b 12) else s
    let s := if st = 4 then s.endHold (16 * b + i) s.tickKey else s
    let s := if 3 ≤ st then s.serveNow (16 * b + i) .live else s
    let s := s.setSpare b (fun sp => { sp with firstNext := if arb then some i else none, last := 15, off := none, thenFailed := false })
    s.spareTo b 0 none

end Sys2Proof.Machine
end

