-- ==== Sys2Proof/Machine/ScanTable.lean ====
section
/-! DEFINITION. Bank scan tables (04_scan_tables_and_validity): entries and executions, the switches they make, tests and
their verdicts, lead compensation, and the scanner's states. -/

namespace Sys2Proof.Machine

open Sys2Proof

/-! ### Entries (R116, R117) -/

/-- A scan entry as its word encodes it (R116). -/
structure ScanEntry where
  kind   : Nat
  mask   : Nat
  settle : Nat
  dwell  : Nat
  rep    : Nat
  every  : Nat
deriving DecidableEq, Repr

def ScanEntry.ofWord (w : Int) : ScanEntry :=
  { kind := field w 63 60, mask := field w 59 44, settle := field w 43 32, dwell := field w 31 16
    rep := field w 15 12, every := field w 7 0 }

/-- Entry n of a bank's table: the objects of the 32 entries of bank b are instances 32b to 32b + 31. -/
def State.scanEntry (s : State) (b n : Nat) : ScanEntry := ScanEntry.ofWord (s.get .SCAN_ENTRY_n (32 * b + n))

/-- The pass length L (R112). -/
def State.passTicks (s : State) (b : Nat) : Nat :=
  (List.range (s.get .SCAN_LENGTH b).toNat).foldl (fun t n =>
    let e := s.scanEntry b n
    t + e.dwell * (e.rep + 1)) 0

/-- A kind acts on a channel in its mode (R117). -/
def State.kindActs (s : State) (kind c : Nat) : Bool :=
  let mode := s.get .CH_MODE c
  if !s.hasRecords c then false
  else match kind with
  | 0 => true
  | 1 => excMode mode && s.get .CH_EXC c != 0
  | 2 => mode == 3
  | 3 => mode != 6
  | 4 => excMode mode || mode == 7 || mode == 6
  | _ => mode == 6

/-- The acting inputs of an entry (R117). -/
def State.actingMask (s : State) (b : Nat) (e : ScanEntry) (kind : Nat) : Nat :=
  (List.range 16).foldl (fun m i => if e.mask.testBit i && s.kindActs kind (16 * b + i) then m + 2 ^ i else m) 0

/-- The kind in effect in a pass (R115): a test whose EVERY skips the pass runs as MEASURE. -/
def ScanEntry.effective (e : ScanEntry) (pass : Nat) : Nat :=
  if 3 ≤ e.kind && pass % (e.every + 1) != 0 then 0 else e.kind

/-! ### Front-end settings of an execution (R117, R118, R124) -/

/-- What an execution sets at an input: the sense of the excitation (0 off), the test source, the lead switch, the probe. -/
structure InputSetting where
  sign   : Int := 1
  source : Int := 0
  lead   : Bool := false
  probe  : Bool := false
deriving DecidableEq, Repr

/-- The settings of input i under an execution; `late` in the second half of WIRE. -/
def Exec.setting (e : Exec) (mode : Int) (i : Nat) (late : Bool) : InputSetting :=
  if !e.mask.testBit i then {}
  else match e.kind with
  | 1 => { sign := if e.number % 2 = 0 then -1 else 1 }
  | 2 => { lead := true }
  | 3 => { source := if late then -1 else 1 }
  | 4 => { sign := if mode = 6 then 1 else 0 }
  | 5 => { probe := true }
  | _ => {}

/-- The analogue settling of a change of settings by the table of R124; none where nothing changes for the channel. -/
def State.switchSettle (s : State) (c : Nat) (old new : InputSetting) : Option Nat :=
  let exc := old.sign != new.sign && s.get .CH_EXC c != 0 && excMode (s.get .CH_MODE c)
  if exc || old.source != new.source || old.lead != new.lead || old.probe != new.probe then
    let a := if exc then (s.get .EXC_SETTLE (bankOf c)).toNat else 0
    let a := if old.lead != new.lead then max a 4 else a
    let a := if old.source != new.source then max a 16 else a
    some (if old.probe != new.probe then max a 64 else a)
  else none

/-- Whether the records of an acting input carry WHEY throughout (R128). -/
def Exec.blinds (e : Exec) (mode : Int) (i : Nat) : Bool :=
  e.mask.testBit i && (e.kind == 2 || e.kind == 3 || e.kind == 5 || (e.kind == 4 && mode != 6))

/-- The settings of an input under the present execution, at its end. -/
def State.settingNow (s : State) (c : Nat) : InputSetting :=
  match (s.scan (bankOf c)).current with
  | some e => e.setting (s.get .CH_MODE c) (inputOf c) true
  | none => {}

/-- A channel's excitation has a sense from index g on (R122). -/
def State.logExc (s : State) (c : Nat) (g sign : Int) : State :=
  let ch := s.chan c
  s.setChan c { ch with exc := (g, sign) :: (ch.exc.filter (fun e => decide (e.1 < g))).take 63 }

/-- The switch of a channel at index `g` between settings, with the least settling of the entry (R124, R125): its invalid
span, and the last index of it. -/
def State.makeSwitch (s : State) (c : Nat) (g : Int) (old new : InputSetting) (least : Nat) : Option Int × State :=
  let s := if old.sign != new.sign then s.logExc c g new.sign else s
  match s.switchSettle c old new with
  | some a =>
    let e := spanEnd (s.preset c) g (max a least)
    (some e, s.wheySpan c g e)
  | none => (none, s)

/-! ### Executions (R112 to R118) -/

/-- The execution at a place of the table that begins at grid index g. -/
def State.makeExec (s : State) (b entry number pass : Nat) (g : Int) : Exec :=
  let e := s.scanEntry b entry
  let kind := e.effective pass
  { entry, number, kind, pass, start := g, stop := g + e.dwell, mask := s.actingMask b e kind }

/-- The last index of the invalid spans that begin at index g for a channel (R133): a scan switch and a commit of the same tick
make one switch. -/
def State.spanFrom (s : State) (c : Nat) (g : Int) : Option Int :=
  (s.chan c).marks.foldl (fun (m : Option Int) x =>
    if x.kind = .whey ∧ (x.tag = .span ∨ x.tag = .divider) ∧ x.lo = g then
      (match m, x.hi with
       | some a, some h => some (max a h)
       | none, h => h
       | m, none => m)
    else m) none

/-- An execution begins at index `g` (R114): each input switches from its old settings, and the records of blinded inputs
carry WHEY from `g` on. -/
def State.beginExec (s : State) (b : Nat) (e : Exec) (olds : List InputSetting) : State :=
  let least := (s.scanEntry b e.entry).settle
  let (e, s) := (List.range 16).foldl (fun (x : Exec × State) i =>
      let (e, s) := x
      let c := 16 * b + i
      if s.hasRecords c then
        let mode := s.get .CH_MODE c
        let s := (s.makeSwitch c e.start (olds.getD i {}) (e.setting mode i false) least).2
        let sp := s.spanFrom c e.start
        let s := if e.blinds mode i then s.addMark c ⟨.whey, .execution, e.start, none⟩ else s
        (match sp with
          | some v => { e with spanA := Sparse.insert (fun k => k) i v e.spanA }
          | none => e, s)
      else (e, s)) (e, s)
  let sc := s.scan b
  let s := s.setScan b { sc with current := some e }
  let s := ((s.put .SCAN_ENTRY b e.entry).put .SCAN_EXECUTION b e.number).put .SCAN_PASS b e.pass
  if e.kind = 5 then s.planReg b 4 e.mask else s.planReg b 4 0

/-- The settings of all inputs of a bank, at the end of the present execution. -/
def State.settingsNow (s : State) (b : Nat) : List InputSetting := (List.range 16).map (fun i => s.settingNow (16 * b + i))

/-- The inputs of a bank return to committed settings at `g` (R124: no SETTLE). -/
def State.returnInputs (s : State) (b : Nat) (g : Int) : State :=
  let olds := s.settingsNow b
  let s := (List.range 16).foldl (fun s i =>
    let c := 16 * b + i
    if s.hasRecords c then (s.makeSwitch c g (olds.getD i {}) {} 0).2 else s) s
  s.planReg b 4 0

/-- The marks of blinded inputs end at index `g` (R128). -/
def State.endBlinds (s : State) (b : Nat) (g : Int) : State :=
  (List.range 16).foldl (fun s i => s.endMarks (16 * b + i) .execution (g - 1)) s

/-- The present execution ends at its boundary: a LEAD execution or one of a test entry waits for its records (R120). -/
def State.finishExec (s : State) (b : Nat) : State :=
  let sc := s.scan b
  match sc.current with
  | none => s
  | some e =>
    let s := s.endBlinds b e.stop
    let acts := (List.range 16).filter (fun i => e.mask.testBit i)
    let last := e.number == (s.scanEntry b e.entry).rep
    let same (r : TestRun) : Bool := r.kind == e.kind && r.entry == e.entry && r.pass == e.pass && !r.closed
    let runs :=
      if e.kind = 2 then sc.runs ++ [{ entry := e.entry, kind := 2, pass := e.pass, execs := [e], closed := true, left := acts }]
      else if 3 ≤ e.kind then
        let known := sc.runs.any same
        let rs := if known then sc.runs else sc.runs ++ [{ entry := e.entry, kind := e.kind, pass := e.pass }]
        rs.map (fun r => if same r then
          { r with execs := r.execs ++ [e], closed := last,
                   left := r.left ++ acts.filter (fun i => !r.left.contains i) } else r)
      else sc.runs
    s.setScan b { sc with current := none, runs := runs }

/-- The place after the present execution (R112). -/
def State.nextPlace (s : State) (b : Nat) (e : Exec) : Nat × Nat × Nat :=
  if e.number < (s.scanEntry b e.entry).rep then (e.entry, e.number + 1, e.pass)
  else if (e.entry + 1 : Int) < s.get .SCAN_LENGTH b then (e.entry + 1, 0, e.pass)
  else (0, 0, e.pass + 1)

/-- The execution that begins at the next boundary, if one does (R113, R114, R132). -/
def State.upcoming (s : State) (b : Nat) : Option Exec :=
  let sc := s.scan b
  if s.get .SCAN_STATE b ≠ 2 ∨ sc.holdWait = true then none
  else match sc.current, sc.resume with
    | some e, _ => let (en, nu, pa) := s.nextPlace b e; some (s.makeExec b en nu pa e.stop)
    | none, some g =>
      let l := s.get .SCAN_PASS_TICKS b
      let p := if l = 0 then 0 else ((g - s.get .SCAN_START b) / l).toNat
      some (s.makeExec b 0 0 p g)
    | none, none => none

/-- The probe register for an execution that begins at n + 1 is planned for the exchange of tick n (R87, R114). -/
def State.planProbe (s : State) (n : Int) (b : Nat) : State :=
  match s.upcoming b, (s.scan b).current with
  | some e, _ => if e.start = n + 1 then s.planReg b 4 (if e.kind = 5 then e.mask else 0) else s
  | none, some e => if (s.scan b).holdWait = true ∧ e.stop = n + 1 then s.planReg b 4 0 else s
  | none, none => s

/-- The probe register for a table that a commit in tick n starts, or ends, with the settings `next` (R87, R114, R132). -/
def State.planTable (s next : State) (n : Int) (b : Nat) : State :=
  let changes := s.get .SCAN_LENGTH b != next.get .SCAN_LENGTH b ||
    (List.range 32).any (fun k => s.get .SCAN_ENTRY_n (32 * b + k) != next.get .SCAN_ENTRY_n (32 * b + k))
  if s.bankOn b = true ∧ next.get .BANK_ENABLE b = 1 ∧ changes = true then
    let e := next.makeExec b 0 0 0 (n + 1)
    s.planReg b 4 (if next.get .SCAN_LENGTH b ≠ 0 ∧ e.kind = 5 then e.mask else 0)
  else s

/-- SCAN_EXECUTION_BOUNDARY (R114, R118, R132): in tick s − 1 the execution that ends at s is closed and the next begins,
or the inputs return to committed settings for a waiting hold. -/
def execScanExecutionBoundary (b : Fin 32) (s : State) : Host.Outcome State Fault Refusal :=
  let n := s.tickKey
  let sc := s.scan b
  if s.bankOn b = true ∧ s.get .SCAN_STATE b = 2 then
    match sc.current with
    | some e =>
      if e.stop ≤ n + 1 then
        if sc.holdWait then
          let s := (s.returnInputs b e.stop).finishExec b
          settled ((s.setScan b { s.scan b with holdWait := false, current := none }).put .SCAN_STATE b 3)
        else
          let olds := s.settingsNow b
          match s.upcoming b with
          | some e' => settled ((s.finishExec b).beginExec b e' olds)
          | none => .next s
      else .next s
    | none =>
      match sc.resume with
      | some g =>
        if g ≤ n + 1 then
          match s.upcoming b with
          | some e' => settled ((s.setScan b { sc with resume := none }).beginExec b e' [])
          | none => .next s
        else .next s
      | none => .next s
  else .next s

/-! ### What each tick adds (R119, R133) -/

/-- The overload and loop observations of tick n for one input of an execution (R91, R119). -/
def State.observeInput (s : State) (tin : TickIn) (n : Int) (b : Nat) (e : Exec) (i : Nat) : Exec :=
  let c := 16 * b + i
  if !e.mask.testBit i then e
  else if e.kind = 4 ∧ s.get .CH_MODE c ≠ 6 ∧ e.start + (e.stop - e.start) / 2 ≤ n then
    let x := e.stat i
    e.setStat i (if tin.overPos.contains c then { x with above := x.above + 1, any := x.any + 1 }
      else if tin.overAny.contains c then { x with clear := x.clear + 1, any := x.any + 1 }
      else { x with clear := x.clear + 1 })
  else if e.kind = 5 then
    let x := e.stat i
    let below := match tin.loops.find? (fun l => l.chan == c) with
      | some l => decide (l.maxVal < 0 - s.get .REV_LIMIT b)
      | none => false
    e.setStat i { x with revRun := if 3 ≤ x.revRun then x.revRun else if below then x.revRun + 1 else 0 }
  else e

/-- What tick n adds to a bank's scanner: observations of the present execution, fenced ticks, the switch at the middle of
a WIRE execution (R117, R119, R133). -/
def State.scanTick (s : State) (tin : TickIn) (n : Int) (b : Nat) : State :=
  let sc := s.scan b
  let fenced := s.fenced 0 b
  let s := if fenced then
      s.setScan b { sc with runs := sc.runs.map (fun r => if r.closed then r else { r with fenced := true }) } else s
  match sc.current with
  | none => s
  | some e =>
    let e' := if e.start ≤ n ∧ n < e.stop then
        (List.range 16).foldl (fun e i => s.observeInput tin n b e i) e else e
    let runs := (s.scan b).runs
    let known := runs.any (fun r => r.kind == e.kind && r.entry == e.entry && r.pass == e.pass && !r.closed)
    let runs := if fenced && 3 ≤ e.kind && !known then
        runs ++ [{ entry := e.entry, kind := e.kind, pass := e.pass, fenced := true }] else runs
    let s := s.setScan b { s.scan b with current := some e', runs := runs }
    let half := e.start + (e.stop - e.start) / 2
    if e.kind = 3 ∧ n + 1 = half then
      let least := (s.scanEntry b e.entry).settle
      let spans := (List.range 16).filterMap (fun i =>
        if e.mask.testBit i then some (i, spanEnd (s.preset (16 * b + i)) half (max 16 least)) else none)
      let s := spans.foldl (fun s x => s.wheySpan (16 * b + x.1) half x.2) s
      let sc := s.scan b
      match sc.current with
      | some e => s.setScan b { sc with current := some { e with spanB := spans } }
      | none => s
    else s

/-- The last index of the invalid span of the switch at which an execution, or its second half, begins for an input. -/
def Exec.lastA (e : Exec) (i : Nat) : Int := Sparse.get (fun _ => e.start - 1) e.spanA i
def Exec.lastB (e : Exec) (i : Nat) : Int := Sparse.get (fun _ => e.start + (e.stop - e.start) / 2 - 1) e.spanB i

/-- A record's value before the lead term, 2^-8 LSB, counts for an execution (R119, R123); `inside` holds of the switches whose
invalid span it lies in. -/
def Exec.addRecord (e : Exec) (i : Nat) (g v : Int) (inside : Int → Bool) : Exec :=
  if e.mask.testBit i ∧ e.start ≤ g ∧ g < e.stop ∧ (e.kind = 2 ∨ e.kind = 3) then
    let half := e.start + (e.stop - e.start) / 2
    let x := e.stat i
    if e.kind = 3 ∧ half ≤ g then
      (if e.lastB i < g ∧ inside half = false then e.setStat i { x with sumB := x.sumB + v, numB := x.numB + 1 } else e)
    else if e.lastA i < g ∧ inside e.start = false then e.setStat i { x with sumA := x.sumA + v, numA := x.numA + 1 }
    else e
  else e

/-- A record of a channel leaves the harp: it counts for the executions that hold its index. -/
def State.scanRecord (s : State) (c : Nat) (g v : Int) : State :=
  let b := bankOf c
  let i := inputOf c
  let sc := s.scan b
  if sc.current.isNone && sc.runs.isEmpty then s
  else
    let inside (lo : Int) : Bool := (s.chan c).marks.any (fun m => m.kind == .whey && (m.tag == .span || m.tag == .divider) &&
      m.lo == lo && (match m.hi with | some h => decide (g ≤ h) | none => true))
    s.setScan b { sc with
      current := sc.current.map (fun e => e.addRecord i g v inside)
      runs := sc.runs.map (fun r => { r with execs := r.execs.map (fun e => e.addRecord i g v inside) }) }

/-- An execution that begins at G shares the switch of a commit at G, whose invalid span ends at index h for an input (R133). -/
def State.mergeSpan (s : State) (c : Nat) (g h : Int) : State :=
  let b := bankOf c
  let i := inputOf c
  let sc := s.scan b
  match sc.current with
  | some e => if e.start = g then
      s.setScan b { sc with current := some { e with spanA := Sparse.insert (fun k => k) i (max h (e.lastA i)) e.spanA } } else s
  | none => s

/-! ### Verdicts (R91, R119, R120) -/

/-- An execution holds an output index after its invalid span (R128). -/
def State.execLong (s : State) (b : Nat) (e : Exec) (i : Nat) : Bool :=
  let p := presetPeriod (s.preset (16 * b + i))
  decide (max e.start (e.lastA i + 1) ≤ (e.stop - 1) / p * p)

/-- What an execution finds of an input: none, or the code of R91, 0 for a pass (R119, R128). Voltages are exact fractions:
means in 2^-8 LSB of full scale; one LSB is FS / 2^23, `fs` is in 10 nV. -/
def State.execVerdict (s : State) (b : Nat) (e : Exec) (i : Nat) : Option Int :=
  let c := 16 * b + i
  let x := e.stat i
  let cfg := s.cfgAt c e.start
  let mode := cfg.mode
  if e.kind = 3 then
    if x.numA = 0 ∨ x.numB = 0 then none
    else
      let fs := fullScale cfg.range
      let den : Int := (x.numA : Int) * x.numB * 4294967296
      let r := (x.sumA * x.numB - x.sumB * x.numA) * fs
      let m := (((x.sumA * x.numB + x.sumB * x.numA) * fs).natAbs : Int)
      let shorts := excMode mode || mode == 7
      if s.get .OPEN_LIMIT b * 1000 * den < r then some 1
      else if shorts ∧ r < s.get .SHORT_LIMIT b * den ∧ m ≤ 500000 * den then some 2
      else some 0
  else if e.kind = 4 then
    if mode = 6 then (if x.polls = 0 then none else if 0 < x.hits then some 3 else some 0)
    else if s.execLong b e i = false then none
    else if 0 < x.above ∧ x.clear = 0 then some 3
    else if x.any = 0 ∧ 0 < x.clear then some 0
    else none
  else if s.execLong b e i = false then none
  else
    if 0 < x.hits ∨ 3 ≤ x.revRun then some 4 else if x.polls = 0 then none else some 0

/-- The verdict of an entry in a pass for an input (R120): all executions agree, or there is none. -/
def State.runVerdict (s : State) (b : Nat) (r : TestRun) (i : Nat) : Option Int :=
  match (r.execs.filter (fun e => e.mask.testBit i)).map (fun e => s.execVerdict b e i) with
  | [] => none
  | v :: vs => if vs.all (fun u => u == v) then v else none

/-- All records of a run's last execution have left the harp for an input in tick n (R120). -/
def State.runReady (s : State) (b : Nat) (r : TestRun) (i : Nat) (n : Int) : Bool :=
  let p := s.preset (16 * b + i)
  match r.execs.getLast? with
  | none => true
  | some e => decide ((e.stop - 1) / presetPeriod p * presetPeriod p + presetLatency p ≤ n)

/-- The verdict of a test entry is handed to a channel (R92, R93, R120); a twin unit that is not ACTING gives none (R415). -/
def State.handVerdict (s : State) (b : Nat) (r : TestRun) (i : Nat) : State :=
  let c := 16 * b + i
  if r.fenced || !s.acting then s
  else match s.runVerdict b r i with
    | none => s.bump .SCAN_INCONCLUSIVE b
    | some code =>
      let s := s.bump .SCAN_TESTS b
      if s.fenced 0 b then s
      else (if code = 0 then s.wirePass c r.kind else s.wireFault c r.kind code).mirrorChange s .CH_WIRE_FAULT c

/-- Takes what is ready off the runs of some kinds, handing each input to `f`. -/
def State.takeReady (s : State) (b : Nat) (n : Int) (kind : Nat → Bool) (f : State → TestRun → Nat → State) : State :=
  let runs := (s.scan b).runs
  let due (r : TestRun) (i : Nat) : Bool := r.closed && kind r.kind && s.runReady b r i n
  let s' := runs.foldl (fun s r => (r.left.filter (due r)).foldl (fun s i => f s r i) s) s
  let left := (runs.map (fun r => { r with left := r.left.filter (fun i => !due r i) })).filter
    (fun r => !r.closed || !r.left.isEmpty)
  s'.setScan b { s'.scan b with runs := left }

/-- SCAN_TEST_VERDICT (R120). -/
def execScanTestVerdict (b : Fin 32) (s : State) : Host.Outcome State Fault Refusal :=
  settled (s.takeReady b s.tickKey (fun k => 3 ≤ k) (fun s r i => s.handVerdict b r i))

/-- LEAD_EST of an input from the mean of an execution's usable records (R123): mean × R_FS / 2^23 in mΩ; without a usable
record it is unchanged. -/
def State.leadResult (s : State) (b : Nat) (r : TestRun) (i : Nat) : State :=
  let c := 16 * b + i
  match r.execs with
  | e :: _ =>
    let x := e.stat i
    let cfg := s.cfgAt c e.start
    let exc := cfg.exc
    if x.numA = 0 ∨ exc = 0 ∨ s.acting = false then s
    else
      let est := roundAt .leadEst (x.sumA * fullScale cfg.range) ((x.numA : Int) * exc * 2147483648)
      let s := s.setChan c { s.chan c with leadDone := true }
      (s.put .LEAD_EST_i c (clampInt (-2147483648) 2147483647 est)).mirrorChange s .LEAD_EST_i c
  | [] => s

/-- LEAD_EXECUTION_DONE (R123). -/
def execLeadExecutionDone (b : Fin 32) (s : State) : Host.Outcome State Fault Refusal :=
  settled (s.takeReady b s.tickKey (fun k => k == 2) (fun s r i => s.leadResult b r i))

/-! ### The scanner's states (R132) -/

/-- The first pass boundary after tick n (R132). -/
def State.passBoundary (s : State) (b : Nat) (n : Int) : Int :=
  let l := (s.get .SCAN_PASS_TICKS b).toNat
  let start := s.get .SCAN_START b
  if l = 0 then n + 1 else start + alignUp (n + 1 - start) l

/-- SCAN_HOLD (R132): a write of 1. -/
def execScanHold (w : Who) (b : Fin 32) (s : State) : Host.Outcome State Fault Refusal :=
  .next (asCommand w .operator .SCAN_HOLD b (.num 1)
    (fun s =>
      let sc := s.scan b
      if s.get .SCAN_STATE b = 2 ∧ sc.holdWait = false then
        match sc.current with
        | some _ => (.ok, s.setScan b { sc with holdWait := true })
        | none => (.ok, (s.setScan b { sc with resume := none }).put .SCAN_STATE b 3)
      else (.ok, s)) s)

/-- SCAN_RELEASE (R132): a write of 0. -/
def execScanRelease (w : Who) (b : Fin 32) (s : State) : Host.Outcome State Fault Refusal :=
  .next (asCommand w .operator .SCAN_HOLD b (.num 0)
    (fun s =>
      let sc := s.scan b
      if s.get .SCAN_STATE b = 2 ∧ sc.holdWait = true then (.ok, s.setScan b { sc with holdWait := false })
      else if s.get .SCAN_STATE b = 3 then
        (.ok, (s.setScan b { sc with resume := some (s.passBoundary b s.tickKey) }).put .SCAN_STATE b 2)
      else (.ok, s)) s)

/-- The table of a bank starts at grid index g: RUNNING with pass 0, entry 0, or CONTINUOUS without entries (R113, R132).
The execution in progress is cut without a verdict, what ended before it keeps its own; inputs go to entry 0 in one switch (R133). -/
def State.scanBegin (s : State) (b : Nat) (g : Int) : State :=
  let olds := s.settingsNow b
  let s := s.endBlinds b g
  let kept : Scan := { runs := (s.scan b).runs.filter (fun r => r.closed) }
  let len := s.get .SCAN_LENGTH b
  if len = 0 then
    let s := if (s.scan b).current.isSome then s.returnInputs b g else s
    ((s.setScan b kept).put .SCAN_PASS_TICKS b 0).put .SCAN_STATE b 1
  else
    let s := (s.setScan b kept).put .SCAN_PASS_TICKS b (s.passTicks b)
    let s := (s.put .SCAN_START b g).put .SCAN_STATE b 2
    s.beginExec b (s.makeExec b 0 0 0 g) olds

/-- The scanner of a bank stops (R132): the execution in progress is cut without a verdict. Records of executions that ended before
a BANK_ENABLE 0 still leave the harp. -/
def State.scanStop (s : State) (b : Nat) : State :=
  let s := s.endBlinds b (s.tickKey + 1)
  let runs := if s.running then (s.scan b).runs.filter (fun r => r.closed) else []
  (s.setScan b { runs }).put .SCAN_STATE b 0

/-- The first entry that R131 refuses: its number, 0x20 for SCAN_LENGTH; 0xFF when none is. -/
def scanBadEntry (len : Int) (entry : Nat → ScanEntry) : Int :=
  if len > 32 then 0x20
  else
    let bad (n : Nat) : Bool :=
      let e := entry n
      e.kind > 5 || e.dwell == 0 || (e.kind != 0 && e.mask == 0) || (e.kind == 3 && e.dwell % 2 == 1) ||
      (e.kind == 5 && ((List.range 16).filter (fun i => e.mask.testBit i)).length != 1)
    match (List.range len.toNat).find? bad with
    | some n => n
    | none => 0xFF

end Sys2Proof.Machine
end

