-- ==== Sys2Proof/Machine/Harp.lean ====
section
/-! DEFINITION. The harp (06_harp_decimation): coefficient banks and their swaps, scaling, path selection, DC blocker,
clip, and the record with its flags; its ten stages, path by path and channel by channel. -/

namespace Sys2Proof.Machine

open Sys2Proof

/-- A cause bit of a lane, suppressed while the lane is fenced (R196, R519). -/
def State.laneCause (s : State) (b bit : Nat) : State := s.causeIn 1 b .LANE_CAUSE b bit

/-! ### Coefficient banks (R171 to R176) -/

/-- P_lane (R171): the longest output period among the inputs that a path serves with records, or among all presets when none has. -/
def State.pLane (s : State) (b : Nat) : Nat :=
  let all := (List.range 16).map (fun i => 16 * b + i)
  let live := all.filter (fun c => s.hasRecords c && s.get .BANK_ENABLE b == 1 && s.get .CH_PRESENCE c != 5)
  (if live.isEmpty then all else live).foldl (fun m c => max m (presetPeriod (s.preset c))) 1

/-- A fade of the lane starts at S towards a bank (R173). -/
def State.startFade (s : State) (b target : Nat) (at_ : Int) : State :=
  let f := (s.get .COEF_FADE b).toNat
  let l := s.lane b
  let old := (s.get .COEF_IN_USE b).toNat
  let s := s.setLane b { l with segs := { s := at_, old, new := target, n := f } :: l.segs.take 7,
                                fadeEnd := at_ + f * (s.pLane b : Int), fadeTo := target }
  s.put .COEF_STATE b 2

/-- A swap request is judged (R172, R174): the bank in use changes nothing; STEADY starts the fade; otherwise the request
is deferred. -/
def State.judgeSwap (s : State) (b target : Nat) (at_ : Int) : State :=
  if s.get .COEF_IN_USE b = target then s
  else if s.get .COEF_STATE b = 0 then s.startFade b target at_
  else
    let had := s.get .COEF_PENDING b
    let s := ((s.put .COEF_PENDING b target).bump .SWAP_DEFERRED b).laneCause b 2
    if had = 0xFF then s else (s.bump .SWAP_REPLACED b).laneCause b 3

/-- A pending request is taken up with S (R174). -/
def State.takePending (s : State) (b : Nat) (at_ : Int) : State :=
  let p := s.get .COEF_PENDING b
  if p = 0xFF then s
  else
    let s := s.put .COEF_PENDING b 0xFF
    if s.get .COEF_IN_USE b = p then s else s.startFade b p.toNat at_

/-- A swap request of target k with effect index S. -/
def State.requestSwap (s : State) (b k : Nat) (at_ : Int) (commit : Bool) : State :=
  let l := s.lane b
  s.setLane b { l with requests := l.requests ++ [(k, at_, commit)] }

/-- COEF_SWAP (R172): accepted in tick n, it requests bank k with S = n + 2; refused while no tick can be named (R636). -/
def execCoefSwap (w : Who) (b : Fin 32) (k : Nat) (s : State) : Host.Outcome State Fault Refusal :=
  .next (asCommand w .operator .COEF_SWAP b (.num k)
    (fun s => if 1 < k then (.outOfRange, s)
      else match s.curTick with
        | some n => (.ok, s.requestSwap b k (n + 2) false)
        | none => (.refused, s)) s)

/-- The requests due in tick S − 1 are judged, those of a commit before those of COEF_SWAP (R172, R174, R195). -/
def State.judgeSwaps (s : State) (b : Nat) : State :=
  let n := s.tickKey
  let l := s.lane b
  let due := l.requests.filter (fun r => decide (r.2.1 ≤ n + 1))
  let s := s.setLane b { l with requests := l.requests.filter (fun r => !decide (r.2.1 ≤ n + 1)) }
  let ordered := due.filter (fun r => r.2.2) ++ due.filter (fun r => !r.2.2)
  ordered.foldl (fun s r => s.judgeSwap b r.1 r.2.1) s

/-- Priming of the bank not in use starts from G (R171, R174). -/
def State.startPriming (s : State) (b : Nat) (g : Int) : State :=
  (s.put .COEF_STATE b 1).put .PRIME_END b (g + 48 * (s.pLane b : Int))

/-- A filter-only switch at G for the inputs of a preset (R171, R124, R125). -/
def State.filterSwitch (s : State) (b preset : Nat) (g : Int) : State :=
  (List.range 16).foldl (fun s i =>
    let c := 16 * b + i
    if s.hasRecords c && s.preset c == preset then s.wheySpan c g (spanEnd preset g 0) else s) s

/-- New contents of a bank's FIR, in place of those given, take effect at G, or at E while FADING (R171, R174). -/
def State.changeCoef (s : State) (b k p : Nat) (was : List Byte) (g : Int) : State :=
  let l := s.lane b
  let at_ := if s.get .COEF_STATE b = 2 then l.fadeEnd else g
  let known := l.former.any (fun x => x.1 == at_ && x.2.1 == k && x.2.2.1 == p)
  let kept := l.former.filter (fun x => decide (g - 65536 < x.1))
  let s := if known then s else s.setLane b { l with former := kept ++ [(at_, k, p, was)] }
  if s.get .COEF_STATE b = 2 then s
  else if s.get .COEF_IN_USE b = k then s.filterSwitch b p g
  else s.startPriming b g

/-- Priming ends in tick PRIME_END − 1, and a pending request is taken up (R174). -/
def State.endPriming (s : State) (b : Nat) : State :=
  let e := s.get .PRIME_END b
  if s.get .COEF_STATE b = 1 ∧ e - 1 ≤ s.tickKey then ((s.put .COEF_STATE b 0).laneCause b 4).takePending b e else s

/-- The contents of preset p of a bank in force at a grid index (R26, R171, R174). -/
def State.coefAt (s : State) (b k p : Nat) (g : Int) : List Byte :=
  match (s.lane b).former.find? (fun x => decide (g < x.1) && x.2.1 == k && x.2.2.1 == p) with
  | some x => x.2.2.2
  | none => s.getBytes .COEF_p ((2 * b + k) * 5 + p)

/-- A fade ends in tick E − 1 (R173, R174): the bank in use changes, held contents that differ from those before are applied, and
a pending request is taken up unless priming has just started. -/
def State.endFade (s : State) (b : Nat) : State :=
  let l := s.lane b
  let e := l.fadeEnd
  if s.get .COEF_STATE b = 2 ∧ e - 1 ≤ s.tickKey then
    let new := l.fadeTo
    let s := ((s.put .COEF_STATE b 0).put .COEF_IN_USE b new).bump .SWAP_COUNT b |>.laneCause b 1
    let held := l.former.filter (fun x => x.1 == e && x.2.2.2 != s.getBytes .COEF_p ((2 * b + x.2.1) * 5 + x.2.2.1))
    let s := held.foldl (fun s x => if x.2.1 = new then s.filterSwitch b x.2.2.1 e else s.startPriming b e) s
    if s.get .COEF_STATE b = 1 then s else s.takePending b e
  else s

/-- The channel that a path of a lane gives records to at the first index not yet emitted when tick n + 1 begins: input i
for a live path that serves it, or the spare's input (R162, R184). -/
def State.pathChannel (s : State) (b path : Nat) : Option Nat :=
  let n := s.tickKey
  let takes (i : Nat) : Bool :=
    let c := 16 * b + i
    match (serveAt (s.firstUnemitted c n) (s.chan c).serve).2 with
    | .live => path != 16
    | .spare => path == 16
    | _ => true
  if path = 16 then
    let i := s.spareInput b
    if s.get .SPARE_CHANNEL b ≠ 0xFF && takes i then some (16 * b + i) else none
  else if takes path then some (16 * b + path) else none

/-- A path's chain, and the one in its drain context, restart empty from a grid instant (R168, R520). -/
def State.restartPath (s : State) (b path : Nat) (n : Int) : State :=
  let body : Body := { since := n }
  let drained (d : Option Drain) : Option Drain := d.map (fun x => { x with chain := { x.chain with body } })
  if path = 16 then s.setSpare b (fun sp => { sp with chain := { sp.chain with body }, drain := drained sp.drain })
  else
    let c := 16 * b + path
    let ch := s.chan c
    s.setChan c { ch with chain := { ch.chain with body }, drain := drained ch.drain }

/-- A residue mismatch of the interval that tick n latches is acted on in tick n (R168): the path's chain restarts empty from
instant n, the channel it serves carries WHEY from the first record not yet emitted when tick n begins, and beyond RESIDUE_LIMIT
in 64,000 ticks the lane is fenced with code 3. -/
def State.residueFault (s : State) (b path : Nat) (n : Int) : State :=
  let s := match s.pathChannel b path with
    | some c => if s.hasRecords c then s.wheySpan c (s.firstUnemitted c (n - 1)) (spanEnd (s.preset c) n 0) else s
    | none => s
  let s := s.restartPath b path n
  let s := if path = 16 && s.get .SPARE_STATE b == 2 then s.setSpare b (fun sp => { sp with spoiled := true }) else s
  let l := s.lane b
  let runs := n :: l.residues.filter (fun t => decide (n - 64000 < t))
  let s := (s.setLane b { l with residues := runs }).bump .RESIDUE_ERRORS b |>.laneCause b 0
  if s.get .RESIDUE_LIMIT 0 < (runs.length : Int) then (s.laneCause b 9).autoFence 1 b 3 else s

/-- RESIDUE_MISMATCH (R168, R169): it arises after grid instant n − 1, the one last begun. -/
def execResidueMismatch (b : Fin 32) (path : Fin 17) (s : State) : Host.Outcome State Fault Refusal :=
  .next (s.residueFault b path (s.tickKey + 1))

/-- COEF_PARITY_FAIL (R176): the records of the affected paths not yet emitted carry WHEY to the end of the whey span from
n + 2; the bank is reloaded with the committed contents, which serve from tick n + 2. -/
def execCoefParityFail (b : Fin 32) (k : Fin 2) (paths : List Nat) (s : State) : Host.Outcome State Fault Refusal :=
  let n := s.tickKey
  let s := paths.foldl (fun s p => match s.pathChannel b p with
    | some c => if s.hasRecords c then s.wheySpan c (s.firstUnemitted c n) (spanEnd (s.preset c) (n + 2) 0) else s
    | none => s) s
  let s := if paths.contains 16 then
      s.setSpare b (fun sp => { sp with wheyTo := some (spanEnd sp.chain.preset (n + 2) 0) }) else s
  let l := s.lane b
  let s := s.setLane b { l with reload := (k.val, paths, n + 2) :: l.reload.filter (fun x => decide (n < x.2.2)) }
  settled ((s.bump .COEF_PARITY_ERRORS b).laneCause b 5)

/-- DCB_FREEZE_WRITE (R188): it acts from the next record of each input. -/
def execDcbFreezeWrite (w : Who) (b : Fin 32) (v : Nat) (s : State) : Host.Outcome State Fault Refusal :=
  .next (asWrite w .operator .DCB_FREEZE b true false (decide (v < 65536)) (.num (s.get .DCB_FREEZE b)) (.num v)
    (fun s => (.ok, s.put .DCB_FREEZE b v)) s)

/-- LANE_CAUSE_CLEAR (R196). -/
def execLaneCauseClear (w : Who) (b : Fin 32) (mask : Nat) (s : State) : Host.Outcome State Fault Refusal :=
  .next (clearCommand w .LANE_CAUSE_CLEAR .LANE_CAUSE b mask s)

/-! ### Stage 1: the CIC (R165, R168) -/

/-- The structure of a preset (R165): order, ratio and register width of the CIC, and the halfbands. -/
structure PresetPlan where
  order : Nat
  ratio : Nat
  width : Nat
  halfbands : Nat
deriving DecidableEq, Repr

def presetPlan (p : Nat) : PresetPlan :=
  match p with
  | 0 => ⟨3, 32, 16, 1⟩ | 1 => ⟨4, 64, 25, 2⟩ | 2 => ⟨5, 128, 36, 3⟩ | 3 => ⟨5, 512, 46, 3⟩ | _ => ⟨5, 2048, 56, 3⟩

/-- The integrators over an input and its residue: each adds, modulo 2^w, and its residue follows from the same input bits and the
carry. -/
def integrate (w : Nat) (x r : Nat) : List (Nat × Nat) → List (Nat × Nat) × Nat × Nat
  | [] => ([], x, r)
  | (v, q) :: t =>
    let v' := (v + x) % 2 ^ w
    let q' := (q + r + (v + x) / 2 ^ w * (7 - 2 ^ w % 7)) % 7
    let (t', y) := integrate w v' q' t
    ((v', q') :: t', y)

/-- The combs over an input and its residue: each gives the difference to the input before, modulo 2^w. -/
def combine (w : Nat) (x r : Nat) : List (Nat × Nat) → List (Nat × Nat) × Nat × Nat
  | [] => ([], x, r)
  | (d, q) :: t =>
    let y := (x + 2 ^ w - d) % 2 ^ w
    let r' := (r + 7 - q + (if x < d then 2 ^ w % 7 else 0)) % 7
    let (t', z) := combine w y r' t
    ((x, r) :: t', z)

/-- The CIC's output in 2^-8 LSB: its gain is ratio^order, and the sum counts ones. -/
def cicValue (p : PresetPlan) (y : Nat) : Int :=
  roundAt .cicScale ((2 * (y : Int) - p.ratio ^ p.order) * Config.fullOnes) (p.ratio ^ p.order)

/-- The modulator clock k since VAT_EPOCH with its bit; the decimated output falls where the ratio divides k. -/
def Body.clock (x : Body) (p : PresetPlan) (k : Int) (one : Bool) : Body :=
  let v := if one then 1 else 0
  let (ints, y, r) := integrate p.width v v x.ints
  if k % p.ratio = 0 then
    let (combs, z, _) := combine p.width y r x.combs
    { x with ints, combs, cic := x.cic ++ [(k, cicValue p z)] }
  else { x with ints }

/-- The LATCH of tick n: the 128 bits of the interval before instant n, if the chain had begun by then. -/
def Body.latch (x : Body) (preset : Nat) (n : Int) (bits : List Bool) : Body :=
  if n ≤ x.since then x
  else
    let p := presetPlan preset
    let zero := List.replicate p.order (0, 0)
    let x : Body := if x.ints.isEmpty then { x with ints := zero, combs := zero } else x
    bits.zipIdx.foldl (fun (x : Body) y => x.clock p (128 * (n - 1) + y.2 + 1) y.1) x

/-- Each register's value agrees modulo 7 with its residue (R168). -/
def Body.sound (x : Body) : Bool := (x.ints ++ x.combs).all (fun y => y.1 % 7 == y.2)

/-! ### Stages 2 to 4: halfbands, compensation FIR and notch (R165, R170, R178) -/

/-- What stages 2 to 4 of a path work with in a tick: contents of both coefficient banks, outputs of a bank whose parity failed,
and NOTCH_MODE, as at the index given out. -/
structure StageEnv where
  preset  : Nat
  coef    : Nat → List Byte
  spoiled : Nat → Option Int
  notch   : Int

/-- A halfband stage takes a sample of clock k and gives one where it falls due. -/
def Body.halfband (preset : Nat) (k : Int) (x : Body × Option Int) (h : Nat) : Body × Option Int :=
  match x.2 with
  | none => x
  | some v =>
    let line := (v :: Sparse.get (fun _ => []) x.1.halfs h).take 63
    ({ x.1 with halfs := Sparse.insert (fun j => j) h line x.1.halfs },
     if k % ((presetPlan preset).ratio * 2 ^ (h + 1) : Nat) = 0 then some (Config.halfband preset h line) else none)

/-- The symmetric FIR of 95 taps over its newest inputs (R170). -/
def firSum (coef : List Byte) (xs : List Int) : Int :=
  roundAt .fir ((xs.zipIdx.map (fun x => leInt (slice coef (4 * min x.2 (94 - x.2)) 4) * x.1)).sum) 1073741824

/-- A notch of coefficient bank k (R178). -/
def Body.notched (x : Body) (k f : Nat) (v : Int) : Body × Int :=
  let (ins, outs) := Sparse.get (fun _ => ([], [])) x.notch (2 * k + f)
  let ins := (v :: ins).take 16
  let y := Config.notch f ins outs
  ({ x with notch := Sparse.insert (fun j => j) (2 * k + f) (ins, (y :: outs).take 16) x.notch }, y)

/-- Stage 4 for bank k: in Vintage the notches that NOTCH_MODE selects (R178). -/
def Body.stage4 (x : Body) (env : StageEnv) (k : Nat) (v : Int) : Body × Int :=
  if env.preset ≠ 4 then (x, v)
  else
    let (x, v) := if env.notch = 0 ∨ env.notch = 1 then x.notched k 0 v else (x, v)
    if env.notch = 0 ∨ env.notch = 2 then x.notched k 1 v else (x, v)

/-- Stages 2 to 4 take a CIC output of clock k. -/
def Body.sample (env : StageEnv) (x : Body) (y : Int × Int) : Body :=
  let (k, v) := y
  match (List.range (presetPlan env.preset).halfbands).foldl (Body.halfband env.preset k) (x, some v) with
  | (x, none) => x
  | (x, some v) =>
    let x := { x with fir := (v :: x.fir).take 95 }
    if k % (128 * presetPeriod env.preset : Nat) = 0 then
      let out (k : Nat) : Int := (env.spoiled k).getD (firSum (env.coef k) x.fir)
      let (x, y0) := x.stage4 env 0 (out 0)
      let (x, y1) := x.stage4 env 1 (out 1)
      { x with outs := ((y0, y1) :: x.outs).take 6 }
    else x

/-- The ADVANCE of a path (R163). -/
def Body.advance (x : Body) (env : StageEnv) : Body := x.cic.foldl (Body.sample env) { x with cic := [] }

/-- The settings of stages 2 to 4 of a path in tick n, for channel c and a preset. -/
def State.stageEnv (s : State) (b path c preset : Nat) (n : Int) : StageEnv :=
  let g := n - presetLatency preset
  { preset, coef := fun k => s.coefAt b k preset g
    spoiled := fun k => if (s.lane b).reload.any (fun x => x.1 == k && x.2.1.contains path && decide (n < x.2.2)) then
      some (Config.spoiledFir b path k n) else none
    notch := (s.cfgAt c g).notch }

def Chain.advanced (x : Chain) (env : StageEnv) : Chain := { x with body := x.body.advance env }

/-! ### Stage 3: the bank in use (R173) -/

/-- The banks and weights that give index g of a chain: old, new, and the weight of the new one as j + 1 of F + 1 (R173,
R175): a chain that began after the fade's S uses the new bank. -/
def coefPick (chainStart : Int) (p : Nat) (g : Int) (dflt : Nat) : List CoefSeg → Nat × Nat × Nat × Nat
  | [] => (dflt, dflt, 1, 1)
  | x :: rest =>
    if x.s ≤ g then
      let j := ((g - alignUp x.s p) / p).toNat
      if x.s < chainStart ∨ x.n ≤ j then (x.new, x.new, 1, 1) else (x.old, x.new, j + 1, x.n + 1)
    else coefPick chainStart p g x.old rest

/-- The mean of two values with weight w of d for the second (R173, R185). -/
def fadeValue (site : Config.RoundSite) (a b : Int) (w d : Nat) : Int :=
  roundAt site (a * ((d : Int) - w) + b * w) d

/-! ### Stages 5 and 6: time-true output and scaling (R179, R180, R183) -/

/-- The correction of R179 as μ (R180) for index g in tick n: `delay` is D_path and `trim` LANE_TRIM, 2^-16 ns, `p` the period in
ticks. -/
def State.farrowMu (s : State) (delay trim : Int) (n g : Int) (p : Nat) : Int :=
  let ph := (s.time.phases.drop (n - g).toNat).take p
  let k : Int := max ph.length 1
  let num := ((delay + trim) * k - ph.sum) * 256
  let den := k * p * 15625
  (2 * num + den) / (2 * den)

/-- The cubic interpolation over the six newest samples at μ, in 2^-24 output periods (R180). -/
def farrow (xs : List Int) (mu : Int) : Int :=
  let part (m : Nat) : Int := (xs.zipIdx.map (fun x => Config.farrowTap m x.2 * x.1)).sum
  roundAt .farrow (((part 3 * mu + part 2 * 2 ^ 24) * mu + part 1 * 2 ^ 48) * mu + part 0 * 2 ^ 72) (2 ^ 102)

/-- The stage 5 output of a chain at index g, over both coefficient banks, 2^-8 LSB, and whether a fade takes part. -/
def State.stage5 (s : State) (b : Nat) (x : Chain) (mu g : Int) : Int × Bool :=
  let (old, new, w, d) := coefPick x.start (presetPeriod x.preset) g (s.get .COEF_IN_USE b).toNat (s.lane b).segs
  let pick (k : Nat) : Int := farrow (x.body.outs.map (fun y => if k = 0 then y.1 else y.2)) mu
  if d = 1 then (pick new, false) else (fadeValue .coefFade (pick old) (pick new) w d, true)

/-- One EMF point of CJC_TABLE (R80): 0.01 °C and µV. -/
def cjcPoint (table : List Byte) (k : Nat) : Int × Int := (leInt (slice table (6 * k) 2), leInt (slice table (6 * k + 2) 4))

/-- The cold-junction voltage in µV at a temperature in 0.01 °C (R80): piecewise linear, clamped at the end points. -/
def cjcVoltage (table : List Byte) (t : Int) : Int :=
  let pts := (List.range 8).map (cjcPoint table)
  match pts with
  | [] => 0
  | first :: _ =>
    if t ≤ first.1 then first.2
    else
      let seg := (pts.zip (pts.drop 1)).find? (fun ab => decide (t ≤ ab.2.1))
      match seg with
      | some (a, b) => if b.1 = a.1 then a.2 else a.2 + roundAt .cjc ((t - a.1) * (b.2 - a.2)) (b.1 - a.1)
      | none => (pts.getLast?.map (fun q => q.2)).getD 0

/-- The cold junction of a bank at a tick: temperature, and whether it may be used (R157). -/
def State.cjcAt (s : State) (b : Nat) (g : Int) : Int × Bool := logAt (0, false) g (s.bank b).cjc

/-- The path's value before sign, lead term and cold junction, 2^-8 LSB: ((x − OFF) × GAIN / 2^30) (R183). -/
def State.corrected (s : State) (c : Nat) (cfg : ChanCfg) (spare : Bool) (x : Int) : Int :=
  let off := if spare then s.get .SPARE_OFFSET c else cfg.offset
  let gain := if spare then s.get .SPARE_GAIN c else cfg.gain
  roundAt .scaling ((x - off * 256) * gain) 1073741824

/-- The sign of the excitation at index g (R183, R638); an excitation switched off for a test keeps its committed sign. -/
def State.excSign (s : State) (c : Nat) (cfg : ChanCfg) (g : Int) : Int :=
  if excMode cfg.mode && cfg.exc != 0 then
    let sense := logAt 1 g (s.chan c).exc
    (if cfg.exc < 0 then -1 else 1) * (if sense = -1 then -1 else 1)
  else 1

/-- The lead term Λ, 2^-8 LSB (R183, R639, R123): R_FS in mΩ is FS / |I_exc|, `fullScale` over CH_EXC. -/
def State.leadTerm (s : State) (c : Nat) (cfg : ChanCfg) : Int :=
  let lead := if cfg.mode = 2 then cfg.lead
    else if cfg.mode = 3 then (if (s.chan c).leadDone then s.get .LEAD_EST_i c else cfg.lead) else 0
  if cfg.exc = 0 ∨ lead = 0 then 0
  else roundAt .scaling (lead * cfg.exc.natAbs * 2147483648) (fullScale cfg.range)

/-- The cold-junction term C, 2^-8 LSB (R183). -/
def State.cjcTerm (s : State) (c : Nat) (cfg : ChanCfg) (g : Int) : Int :=
  if cfg.mode = 7 then
    let b := bankOf c
    roundAt .scaling (cjcVoltage cfg.cjcTable (s.cjcAt b g).1 * 100 * 2147483648) (fullScale cfg.range)
  else 0

/-- Stage 6 (R183) from the corrected value. -/
def State.scaled (s : State) (c : Nat) (cfg : ChanCfg) (g v : Int) : Int :=
  v * s.excSign c cfg g - s.leadTerm c cfg + s.cjcTerm c cfg g

/-! ### Stages 7 to 10 (R184 to R194) -/

/-- The record of a channel as stages 5 to 7 give it: live and spare values, the selected value, and its marks. -/
structure Selected where
  live  : Int
  spare : Int
  raw   : Int
  value : Int
  blend : Bool
  bySpare : Bool
  /-- Path S fades between coefficient banks. -/
  spareBlend : Bool
deriving DecidableEq, Repr, Inhabited

/-- The chain of path S beside a chain of the channel it is at: the abandoned drain, the drain context, or the chain. -/
def Spare.beside (sp : Spare) (drain flush : Bool) : Chain :=
  match (if flush then sp.flush else if drain then sp.drain else none) with
  | some d => d.chain
  | none => sp.chain

/-- Stages 5 to 7 of index g (R183 to R186). -/
def State.select (s : State) (n : Int) (c : Nat) (ch : Chain) (drain flush : Bool) (g : Int) : Selected :=
  let b := bankOf c
  let p := presetPeriod ch.preset
  let cfg := s.cfgAt c g
  let (xl, bl) := s.stage5 b ch (s.farrowMu cfg.delay cfg.trim n g p) g
  let (xs, bs) := s.stage5 b ((s.bank b).spare.beside drain flush) (s.farrowMu cfg.spareDelay cfg.trim n g p) g
  let rl := s.corrected c cfg false xl
  let rs := s.corrected c cfg true xs
  let vl := s.scaled c cfg g rl
  let vs := s.scaled c cfg g rs
  let (g0, k) := serveAt g (s.chan c).serve
  let held := (s.chan c).holds.any (fun h => decide (h.1 ≤ g) && decide (g ≤ h.2))
  let pick (v raw : Int) (blend byS : Bool) : Selected :=
    { live := vl, spare := vs, raw, value := if held then (s.chan c).lastVal else v, blend, bySpare := byS, spareBlend := bs }
  match k with
  | .live => pick vl rl bl false
  | .spare => pick vs rs bs true
  | .fadeIn f =>
    let j := ((g - g0) / p).toNat
    pick (fadeValue .pathFade vl vs (min (j + 1) (f + 1)) (f + 1)) rl true true
  | .fadeOut f =>
    let j := ((g - g0) / p).toNat
    pick (fadeValue .pathFade vs vl (min (j + 1) (f + 1)) (f + 1)) rl true true

/-- Overload in a tick of the window of R190. -/
def overloaded (overs : List Int) (lo hi : Int) : Bool := overs.any (fun t => decide (lo ≤ t) && decide (t ≤ hi))

/-- Stages 8 to 10 (R187 to R194): the record of index g that leaves the harp in tick n, and the state after it. `flush` is
a record of an abandoned drain (R192). -/
def State.formRecord (s : State) (n : Int) (c : Nat) (chn : Chain) (drain flush : Bool) (g : Int) :
    Rec × State :=
  let b := bankOf c
  let i := inputOf c
  let ch := s.chan c
  let cfg := s.cfgAt c g
  let l := presetLatency chn.preset
  let sel := s.select n c chn drain flush g
  let bankF := s.fenced 0 b || s.fenced 1 b
  let lost := s.get .CH_PRESENCE c == 5
  let whey := flush || markedAt .whey g ch.marks || modclkWhey chn.preset g s.time.lockLog ||
    (cfg.mode == 7 && !(s.cjcAt b g).2) || (excMode cfg.mode && cfg.exc != 0 && s.mirrorMissing g)
  let absent := markedAt .absent g ch.marks
  let loaded := overloaded ch.overs (g - l) (if flush then min (g + l) n else g + l)
  let e := s.get .DCB_ESTIMATE_i c
  let y := if cfg.dcb then sel.value - e else sel.value
  let freeze := bit (s.get .DCB_FREEZE b) i ||
    (cfg.autoFreeze && (whey || absent || bankF || lost || loaded))
  let s := if cfg.dcb && !freeze then
      s.put .DCB_ESTIMATE_i c (clampInt (-2147483648) 2147483647
        (e + roundAt .dcBlocker (sel.value - e) (2 ^ cfg.dcbShift.toNat)))
    else s
  let r := roundAt .record y 256
  let clip := loaded || decide (y < -2147483648) || decide (2147483392 < y)
  let v := if bankF then s.get .FENCE_VALUE 0 else if lost then 0 else clampInt (-8388608) 8388607 r
  let flags := flagByte whey sel.blend clip absent sel.bySpare (s.holdAt g) (bankF || lost)
  let s := s.setChan c { s.chan c with lastVal := sel.value }
  let s := if whey then s.add64 .WHEY_COUNT_i c 1 else s
  let s := if clip then (s.bump .CLIP_COUNT_i c).laneCause b 6 else s
  let d := if sel.bySpare then cfg.spareDelay else cfg.delay
  let s := s.put .FD_MU_i c (s.farrowMu d cfg.trim n g (presetPeriod chn.preset) % 4294967296)
  let s := if s.spareInput b = i && s.get .SPARE_CHANNEL b != 0xFF then
      s.put .FD_MU_SPARE b (s.farrowMu cfg.spareDelay cfg.trim n g (presetPeriod chn.preset) % 4294967296) else s
  let s := (s.scanRecord c g sel.raw).comparePair b i g sel.live sel.spare flags sel.spareBlend
  (({ chan := c, preset := chn.preset, index := g, value := v, flags } : Rec).sealed, s)

/-- The records of an abandoned drain, in index order (R192). -/
def drainIndexes (d : Drain) (n : Int) : List Int :=
  let p := presetPeriod d.chain.preset
  let lo := max (alignUp d.chain.start p) (alignUp (n - presetLatency d.chain.preset) p)
  (List.range (((d.stop - lo + p - 1) / p).toNat)).map (fun (k : Nat) => lo + (k : Int) * p)

/-- Puts a record on the record bus. -/
def State.toBus (s : State) (r : Rec) : State := { s with frame := { s.frame with bus := s.frame.bus ++ [r] } }

/-- What a channel's path emits in tick n (R167, R191, R192): the records of an abandoned drain, of the drain context and
of the chain. -/
def State.emitChannel (s : State) (n : Int) (c : Nat) : State :=
  let ch := s.chan c
  let s : State := match ch.flush with
    | some d =>
      let s := (drainIndexes d n).foldl (fun s g =>
        let (r, s) := s.formRecord n c d.chain true true g
        s.toBus r) s
      s.setChan c { s.chan c with flush := none }
    | none => s
  let s : State := match ch.drain with
    | some d =>
      let p := presetPeriod d.chain.preset
      let g := n - presetLatency d.chain.preset
      let s := if g % p = 0 ∧ d.chain.start ≤ g ∧ g < d.stop then
          let (r, s) := s.formRecord n c d.chain true false g
          s.toBus r
        else s
      if d.stop ≤ alignUp (g + 1) p then s.setChan c { s.chan c with drain := none } else s
    | none => s
  let p := presetPeriod ch.chain.preset
  let g : Int := n - presetLatency ch.chain.preset
  if g % p = 0 ∧ ch.chain.start ≤ g ∧ s.bankOn (bankOf c) = true ∧ s.hasRecords c = true then
    let (r, s) := s.formRecord n c ch.chain false false g
    s.toBus r
  else s

/-- A path of the lane works in the tick: its bank runs and its channel has records, or a drain still empties. -/
def State.pathRuns (s : State) (c : Nat) : Bool :=
  (s.bankOn (bankOf c) && s.hasRecords c) || (s.chan c).drain.isSome || (s.chan c).flush.isSome

/-- Path S of a bank works: it is at an input, and no sample hold freezes it in tick n (R186). -/
def State.spareRuns (s : State) (b : Nat) (n : Int) : Bool :=
  s.get .SPARE_CHANNEL b != 0xFF &&
    !(s.get .SPARE_STATE b == 4 && (s.chan (16 * b + s.spareInput b)).holds.any (fun h => decide (h.1 < n) && decide (n ≤ h.2 + 1)))

/-- Stages 1 to 4 of the paths of a lane in a tick, each chain and drained chain by a function of its path, channel and state. -/
def State.mapPaths (s : State) (b : Nat) (n : Int) (f : Nat → Nat → Chain → Chain) : State :=
  let drained (path c : Nat) (d : Option Drain) : Option Drain := d.map (fun x => { x with chain := f path c x.chain })
  let s := (List.range 16).foldl (fun (s : State) i =>
    let c := 16 * b + i
    if s.pathRuns c then
      let ch := s.chan c
      s.setChan c { ch with chain := f i c ch.chain, drain := drained i c ch.drain }
    else s) s
  if s.spareRuns b n then
    let c := 16 * b + s.spareInput b
    s.setSpare b (fun sp => { sp with chain := f 16 c sp.chain, drain := drained 16 c sp.drain })
  else s

/-- Path S has no more to drain in tick n (R191). -/
def State.spareDrained (s : State) (b : Nat) (n : Int) : State :=
  let sp := (s.bank b).spare
  match sp.drain, sp.flush with
  | none, none => s
  | d, _ => s.setSpare b (fun sp => { sp with flush := none, drain := d.filter (fun x => decide (x.chain.nextOut n < x.stop)) })

/-- ADVANCE of class 0x1 for a lane (R21, R163): stages 2 to 4 of its paths, then every channel of its bank with records, and
those whose records of an index before a commit turned them off have not all left (R26). -/
def State.advanceLane (s : State) (n : Int) (b : Nat) : State :=
  let s := s.mapPaths b n (fun path c x => x.advanced (s.stageEnv b path c x.preset n))
  let s := (List.range 16).foldl (fun s i => if s.pathRuns (16 * b + i) then s.emitChannel n (16 * b + i) else s) s
  s.spareDrained b n

/-- The paths of a lane whose registers do not agree with their residues (R168). -/
def State.unsoundPaths (s : State) (b : Nat) : List Nat :=
  (List.range 16).filter (fun i => !(s.chan (16 * b + i)).chain.body.sound) ++
    (if (s.bank b).spare.chain.body.sound then [] else [16])

/-- LATCH of class 0x1 for a lane: the bits of the interval in stage 1 of its paths with the residue check (R168), and the
overload comparators of the tick (R190). -/
def State.latchLane (s : State) (tin : TickIn) (n : Int) (b : Nat) : State :=
  let s := (List.range 16).foldl (fun s i =>
    let c := 16 * b + i
    if tin.overAny.contains c || tin.overPos.contains c then
      let ch := s.chan c
      s.setChan c { ch with overs := n :: ch.overs.filter (fun t => decide (n - 6400 < t)) }
    else s) s
  let s := s.mapPaths b n (fun path _ x => { x with body := x.body.latch x.preset n (tin.bitsOf b path) })
  (s.unsoundPaths b).foldl (fun (s : State) path => s.residueFault b path n) s

/-- A committed change of preset at G (R191, R192, R175): the new chain starts empty at G, the old one drains; path S, when it is at
the input, changes in the same way. A drain that has nothing left to give is not busy. -/
def State.changePreset (s : State) (c : Nat) (old : Nat) (g : Int) : State :=
  let b := bankOf c
  let ch := s.chan c
  let busy (d : Option Drain) : Option Drain := d.filter (fun x => decide (x.chain.nextOut (g - 1) < x.stop))
  let s := match busy ch.drain with
    | some d => ((s.setChan c { ch with flush := some d }).bump .DRAINS_ABANDONED b).laneCause b 7
    | none => s
  let chain : Chain := { preset := s.preset c, start := g, body := { since := g } }
  let ch := s.chan c
  let s := s.setChan c { ch with drain := some { chain := { ch.chain with preset := old }, stop := g }, chain }
  if s.get .SPARE_CHANNEL b ≠ 0xFF ∧ s.spareInput b = inputOf c then
    s.setSpare b (fun sp => { sp with flush := busy sp.drain, drain := some { chain := sp.chain, stop := g }, chain })
  else s

/-- The chain of a channel at an acquisition start (R193): empty, with WHEY for its whey span. -/
def State.chanStart (s : State) (b : Nat) (s0 : Int) (i : Nat) : State :=
  let c := 16 * b + i
  let p := s.preset c
  let spared := s.get .SPARE_STATE b == 7 && s.spareInput b == i
  let s := s.setChan c { chain := { preset := p, start := s0, body := { since := s0 } }, leadDone := (s.chan c).leadDone
                         serve := if spared then [(s0, .spare)] else [] }
  let s := s.logCfg c s0
  if s.hasRecords c then s.wheySpan c s0 (spanEnd p s0 0) else s

/-- The chain of path S at an acquisition start, where the spare serves a channel (R193). -/
def State.spareChainStart (s : State) (b : Nat) (s0 : Int) : State :=
  if s.get .SPARE_STATE b = 7 then
    let p := s.preset (16 * b + s.spareInput b)
    s.setSpare b (fun sp => { sp with chain := { preset := p, start := s0, body := { since := s0 } }, drain := none, flush := none })
  else s

/-- A fade of the run before that still stands ends (log entry 204). -/
def State.dropFade (s : State) (b : Nat) : State :=
  let l := s.lane b
  if s.get .COEF_STATE b = 2 then
    ((s.setLane b { l with former := l.former.filter (fun x => decide (x.1 < l.fadeEnd)) }).put .COEF_STATE b 0).put .COEF_PENDING b 0xFF
  else s

/-- A request that waited for a start is taken up without a fade (R172). -/
def State.swapAtStart (s : State) (b k : Nat) : State :=
  if s.get .COEF_IN_USE b = k then s
  else
    let s := ((s.dropFade b).put .COEF_IN_USE b k).bump .SWAP_COUNT b
    s.setLane b { s.lane b with segs := [], swapAtStart := true }

/-- A lane at an acquisition start (R193, R172): every chain begins empty in the first tick with WHEY for its whey span;
requests that waited are taken up without a fade. DESIGN CHOICE, log entry 204: one that is taken up while a fade of the run before
still stands ends that fade. -/
def State.laneStart (s : State) (b : Nat) (s0 : Int) : State :=
  let s := ((List.range 16).foldl (fun s i => s.chanStart b s0 i) s).spareChainStart b s0
  let l := s.lane b
  let stale := l.requests.filter (fun r => decide (r.2.1 - 1 < s0))
  let s := s.setLane b { l with requests := l.requests.filter (fun r => !decide (r.2.1 - 1 < s0)), reload := [] }
  match stale.getLast? with
  | some (k, _, _) => s.swapAtStart b k
  | none => s

/-- The cause bit of a swap taken up at the start is set in the first tick (R172). -/
def State.laneFirstTick (s : State) (b : Nat) : State :=
  if (s.lane b).swapAtStart then (s.setLane b { s.lane b with swapAtStart := false }).laneCause b 1 else s

/-- The harp lane's fence is lifted in tick n (R520): every chain restarts empty from the next grid instant; records not yet
emitted carry WHEY to the end of the whey span. -/
def State.laneLift (s : State) (b : Nat) (n : Int) : State :=
  let s := (List.range 16).foldl (fun s i =>
    let c := 16 * b + i
    if s.hasRecords c then s.wheySpan c (s.firstUnemitted c n) (spanEnd (s.preset c) (n + 1) 0) else s) s
  (List.range 17).foldl (fun (s : State) path => s.restartPath b path (n + 1)) s

end Sys2Proof.Machine
end

