-- ==== Sys2Proof/Machine/Press.lean ====
section
/-! DEFINITION. The press (08_press_reduction): stream units with their raw, compressed, averaged and statistics outputs,
histogram units, persistence maps, the output buffer, and the fences of all of them. -/

namespace Sys2Proof.Machine

open Sys2Proof

def State.strm (s : State) (b : Nat) : StreamUnit := Sparse.get (fun _ => {}) s.press.units b
def State.setStrm (s : State) (b : Nat) (v : StreamUnit) : State :=
  { s with press := { s.press with units := Sparse.put (fun _ => {}) (fun k => k) s.press.units b v } }

def State.hist (s : State) (h : Nat) : Hist := Sparse.get (fun _ => {}) s.press.hists h
def State.setHist (s : State) (h : Nat) (v : Hist) : State :=
  { s with press := { s.press with hists := Sparse.put (fun _ => {}) (fun k => k) s.press.hists h v } }

def State.pmap (s : State) (m : Nat) : PMap := Sparse.get (fun _ => {}) s.press.maps m
def State.setPmap (s : State) (m : Nat) (v : PMap) : State :=
  { s with press := { s.press with maps := Sparse.put (fun _ => {}) (fun k => k) s.press.maps m v } }

def State.region (s : State) (r : Nat) : Region := Sparse.get (fun _ => {}) s.regions r
def State.setRegion (s : State) (r : Nat) (v : Region) : State :=
  { s with regions := Sparse.put (fun _ => {}) (fun k => k) s.regions r v }

/-- A cause bit of PRESS_CAUSE that a unit brings about (R264, R268). -/
def State.pressCause (s : State) (unit b : Nat) : State := s.causeIn 2 unit .PRESS_CAUSE 0 b

/-! ### Payloads and the output buffer (R239 to R241) -/

/-- The press header (R239). -/
def pressHeader (type preset ripe count source flags : Nat) : List Byte :=
  leBytes 1 type ++ leBytes 1 preset ++ leBytes 1 ripe ++ leBytes 1 count ++ leBytes 2 source ++ leBytes 1 flags ++ [0]

/-- The CLOSE step of the tick names a press unit (R21, R236). -/
def State.closeNamed (s : State) (cls i : Nat) : Bool := s.frame.closes.contains (cls * 64 + i)

/-- Every record of a channel with an index below e has left the harp in the present tick, those of a drain with it (R191). -/
def State.allLeft (s : State) (c : Nat) (e : Int) : Bool :=
  let ch := s.chan c
  let left (d : Option Drain) : Bool := match d with
    | some d => decide (min e d.stop ≤ d.chain.nextOut s.tickKey)
    | none => true
  left ch.flush && left ch.drain && (!(s.hasRecords c && s.bankOn (bankOf c)) || decide (e ≤ ch.chain.nextOut s.tickKey))

/-- A block has taken its last record. -/
def Block.complete (x : Block) : Bool :=
  match x.recs.getLast? with
  | some r => decide (x.stop ≤ r.index + (presetPeriod x.preset : Int))
  | none => false

/-- A formed packet waits for the EMIT step. -/
def State.formed (s : State) (p : PressPacket) : State :=
  { s with press := { s.press with fresh := s.press.fresh ++ [p] } }

/-- The EMIT step of the tick names a queue, or acquisition is stopped and the last packets leave (R266). -/
def State.emitNamed (s : State) (q : Nat) : Bool := !s.running || s.frame.emits.contains (5 * 64 + q)

/-- A reduced or statistics packet is dropped (R241). -/
def State.dropReduced (s : State) (p : PressPacket) : State := (s.bump .REDUCED_DROPPED 0).pressCause p.unit 9

/-- A stream packet is lost (R241, R301). -/
def State.dropStream (s : State) (p : PressPacket) : State :=
  let banks := (mapChannels (p.payload.drop 8)).1.map (fun c => c / 16) |>.eraseDups
  let s := banks.foldl (fun s b => s.bump .STREAM_DROPPED b) s
  (s.pressCause p.unit 10).losePacket 2 (sealPacket p.queue 0 0 p.grid p.ptype p.payload false)

/-- Bytes of a packet in the output buffer: its header, payload and PCRC (log entry 15). -/
def PressPacket.size (p : PressPacket) : Nat := p.payload.length + 24

/-- Bytes that the output buffer holds. -/
def bufferFill (l : List PressPacket) : Nat := l.foldl (fun n p => n + p.size) 0

/-- Takes the newest packet that is not of the stream out of the buffer. -/
def popReduced (l : List PressPacket) : Option (PressPacket × List PressPacket) :=
  match l.reverse.findIdx? (fun p => p.cls != 0) with
  | none => none
  | some k => (l.reverse[k]?).map (fun p => (p, (l.reverse.eraseIdx k).reverse))

/-- A packet that no queue took is held in the output buffer of 262,144 bytes, by R241. The first argument bounds the
displacements. -/
def State.hold : Nat → PressPacket → State → State
  | 0, p, s => s.dropStream p
  | n + 1, p, s =>
    let l := s.press.buffer
    if bufferFill l + p.size ≤ 262144 then
      ({ s with press := { s.press with buffer := l ++ [p] } }).raiseTo .BUFFER_HIGH 0 (bufferFill l + p.size : Nat)
    else if p.cls ≠ 0 then s.dropReduced p
    else match popReduced l with
      | some (d, l) => State.hold n p (({ s with press := { s.press with buffer := l } }).dropReduced d)
      | none => s.dropStream p

/-- Offers a packet to its queue unless an older one waits for that queue; false where it stays with the press. -/
def State.offerPress (s : State) (held : List PressPacket) (p : PressPacket) : Bool × State :=
  if s.emitNamed p.queue && held.all (fun h => h.queue != p.queue) then s.offer p.queue p.ptype 0 p.grid p.payload
  else (false, s)

/-- Blocks of a channel's stream unit, or its intervals and windows, that a CLOSE step of the tick names are still to close. -/
def State.closesLeft (s : State) (wins : Bool) : Bool :=
  s.running && (List.range 32).any (fun b => s.closeNamed 2 b &&
    (let u := s.strm b
     u.blocks.any (fun x => x.2.complete || s.allLeft x.1 x.2.stop) ||
     (wins && (u.avgs.any (fun x => s.allLeft x.1 x.2.stop) || u.stats.any (fun x => s.allLeft x.1 x.2.stop)))))

/-- New packets are offered: those of a class wait while one before it is still to close in the tick, unless the tick is over
(R267). -/
def State.emitFresh (s : State) (over_ : Bool) : State :=
  let late := over_ || !s.closesLeft false
  let last := over_ || !s.closesLeft true
  let new := s.press.fresh
  let go := new.filter (fun p => p.cls == 0) ++ (if late then new.filter (fun p => p.cls == 1) else []) ++
    (if last then new.filter (fun p => p.cls == 2) else [])
  let wait := new.filter (fun p => (p.cls == 1 && !late) || (p.cls == 2 && !last))
  let (s, held) := s.press.buffer.foldl (fun (a : State × List PressPacket) p =>
    match a.1.offerPress a.2 p with
    | (true, s) => (s, a.2)
    | (false, s) => (s, a.2 ++ [p])) (s, [])
  let s := { s with press := { s.press with buffer := held, fresh := wait } }
  (go.foldl (fun s p =>
    match s.offerPress s.press.buffer p with
    | (true, s) => s
    | (false, s) => State.hold 128 p s) s).settleLosses

/-- The press's part of an EMIT step (R241, R267, R277): held packets in the order they were formed, then the new ones,
stream before reduced before statistics. -/
def State.pressEmit (s : State) : State := s.emitFresh (!s.running)

/-- What still waits when the tick is over is offered. -/
def State.pressFlush (s : State) : State := s.emitFresh true

/-! ### Configuration by record index (R237) -/

/-- STREAM_QUEUE, REDUCED_QUEUE and STAT_QUEUE as committed now, and as they hold for records of an index. -/
def State.pressQueuesNow (s : State) : Nat × Nat × Nat :=
  ((s.get .STREAM_QUEUE 0).toNat, (s.get .REDUCED_QUEUE 0).toNat, (s.get .STAT_QUEUE 0).toNat)
def State.pressQueues (s : State) (g : Int) : Nat × Nat × Nat := logAt s.pressQueuesNow g s.press.queues

/-- The stream unit's objects as committed now, and the passes of its bank. -/
def State.pressCfgNow (s : State) (b : Nat) : PressCfg :=
  { sel := (List.range 16).map (fun i => (s.get .OUT_SEL_i (16 * b + i)).toNat), avgN := (s.get .AVG_N b).toNat,
    avgMin := (s.get .AVG_MIN_USED b).toNat, statN := (s.get .STAT_N b).toNat, align := (s.get .ALIGN b).toNat
    pass := if s.get .SCAN_STATE b = 2 then (s.get .SCAN_START b, (s.get .SCAN_PASS_TICKS b).toNat) else (0, 0) }

def State.pressCfg (s : State) (b : Nat) (g : Int) : PressCfg := logAt (s.pressCfgNow b) g (s.strm b).cfgs

/-- The objects now committed hold for records from an index on. -/
def State.logPress (s : State) (b : Nat) (g : Int) : State :=
  let u := s.strm b
  s.setStrm b { u with cfgs := logAdd g (s.pressCfgNow b) u.cfgs }

/-- An output bit of a channel for a record (R238). -/
def State.selects (s : State) (c : Nat) (g : Int) (out : Nat) : Bool :=
  ((s.pressCfg (bankOf c) g).sel.getD (inputOf c) 0).testBit out

/-- An interval or window is cut at an index, unless its own end comes first. -/
def Win.cutAt (x : Win) (g : Int) : Win :=
  let e := alignUp g (presetPeriod x.preset)
  if x.first < g ∧ e < x.stop then { x with stop := e, cut := true } else x

/-- Blocks, intervals and windows of a channel are cut at an index (R243, R249). -/
def State.pressCut (s : State) (c : Nat) (g : Int) : State :=
  let u := s.strm (bankOf c)
  let blk (x : Nat × Block) : Nat × Block :=
    let e := alignUp g (presetPeriod x.2.preset)
    if x.1 = c ∧ x.2.first < g ∧ e < x.2.stop then (x.1, { x.2 with stop := e, cut := true }) else x
  let win (x : Nat × Win) : Nat × Win := if x.1 = c then (x.1, x.2.cutAt g) else x
  s.setStrm (bankOf c) { u with cuts := (c, g) :: u.cuts.filter (fun x => decide (g - 65536 < x.2)), blocks := u.blocks.map blk,
                                avgs := u.avgs.map win, stats := u.stats.map win }

/-- A new SCAN_START, or the end of the passes, at index g cuts the intervals and windows aligned to passes (R249). -/
def State.passCut (s : State) (b : Nat) (g : Int) : State :=
  let u := s.strm b
  let win (x : Nat × Win) : Nat × Win := (x.1, x.2.cutAt g)
  s.setStrm b { u with passCuts := g :: u.passCuts.filter (fun x => decide (g - 65536 < x)), avgs := u.avgs.map win, stats := u.stats.map win }

/-- The passes of a bank change at index g: from it on the stream unit's objects hold with the new ones, and under ALIGN 1 what is
open is cut (R249). -/
def State.notePasses (s : State) (b : Nat) (g : Int) : State :=
  if s.pressCfg b g = s.pressCfgNow b then s
  else
    let was := s.pressCfg b (g - 1)
    let s := if was.align = 1 ∧ was.pass ≠ (s.pressCfgNow b).pass then s.passCut b g else s
    s.logPress b g

/-- The first cut of a channel after an index, or the end given if that is earlier. -/
def nextCut (cuts : List (Nat × Int)) (c : Nat) (g stop : Int) : Int :=
  cuts.foldl (fun e x => if x.1 = c && decide (g < x.2) && decide (x.2 < e) then x.2 else e) stop

/-! ### Taking records (R236, R243, R249 to R251) -/

/-- The latest cut of a channel after a boundary and at or before an index, or the boundary. -/
def lastCut (cuts : List (Nat × Int)) (c : Nat) (lo g : Int) : Int :=
  cuts.foldl (fun e x => if x.1 = c && decide (e < x.2) && decide (x.2 ≤ g) then x.2 else e) lo

/-- The averaging interval or window of `n` samples that holds index g: its boundaries, and whether the end of a scan pass
cuts it (R249). -/
def PressCfg.winSpan (cfg : PressCfg) (n p : Nat) (g : Int) : Int × Int × Bool :=
  let w : Int := (n * p : Nat)
  let (start, len) := cfg.pass
  let l : Int := len
  if cfg.align = 1 ∧ 0 < len ∧ start ≤ g then
    let ps := start + (g - start) / l * l
    let lo := ps + (g - ps) / w * w
    if ps + l < lo + w then (lo, ps + l, true) else (lo, lo + w, false)
  else (g / w * w, (g / w + 1) * w, false)

/-- The flags that leave a record out of a mean or a count (R250, R252). -/
def leftOut (flags : Nat) : Bool := hasFlag flags flagWhey || hasFlag flags flagAbsent || hasFlag flags flagFence

/-- A record enters an interval or window. -/
def Win.add (x : Win) (r : Rec) : Win :=
  let x := { x with flagsAll := x.flagsAll ||| r.flags }
  if leftOut r.flags then x
  else { x with used := x.used + 1, sum := x.sum + r.value, sumSq := x.sumSq + r.value.natAbs ^ 2,
                min_ := if x.used = 0 then r.value else min x.min_ r.value,
                max_ := if x.used = 0 then r.value else max x.max_ r.value,
                flagsUsed := x.flagsUsed ||| r.flags }

/-- A window of a channel takes a record, opening where none is open; it is named by the first index from its boundary, or from
the cut after it (R249, R287). -/
def State.winTake (s : State) (r : Rec) (n : Nat) (l : List (Nat × Win)) : List (Nat × Win) :=
  let b := bankOf r.chan
  let p := presetPeriod r.preset
  match l.find? (fun x => x.1 == r.chan && x.2.preset == r.preset && decide (r.index < x.2.stop)) with
  | some _ => l.map (fun x =>
      if x.1 = r.chan && x.2.preset = r.preset && decide (r.index < x.2.stop) then (x.1, x.2.add r) else x)
  | none =>
    let cfg := s.pressCfg b r.index
    let (lo, e, byPass) := cfg.winSpan n p r.index
    let u := s.strm b
    let cuts := u.cuts ++ (if cfg.align = 1 then u.passCuts.map (fun x => (r.chan, x)) else [])
    let stop := alignUp (nextCut cuts r.chan r.index e) p
    let first := alignUp (lastCut cuts r.chan lo r.index) p
    let x : Win := { preset := r.preset, first, stop := min stop e, cut := byPass || decide (stop < e) }
    l ++ [(r.chan, x.add r)]

/-- A block of a channel takes a record (R243). -/
def State.blockTake (s : State) (r : Rec) (l : List (Nat × Block)) : List (Nat × Block) :=
  let p := presetPeriod r.preset
  let mine (x : Nat × Block) : Bool := x.1 == r.chan && x.2.preset == r.preset && decide (r.index < x.2.stop)
  if l.any mine then l.map (fun x => if mine x then (x.1, { x.2 with recs := x.2.recs ++ [r] }) else x)
  else
    let w : Int := (64 * p : Nat)
    let e := (r.index / w + 1) * w
    let stop := alignUp (nextCut (s.strm (bankOf r.chan)).cuts r.chan r.index e) p
    l ++ [(r.chan, { preset := r.preset, first := r.index, stop, cut := decide (stop < e), recs := [r] })]

/-- A stream unit takes a record of its bank (R236, R238). -/
def State.streamTake (s : State) (r : Rec) : State :=
  let b := bankOf r.chan
  let cfg := s.pressCfg b r.index
  let sel := cfg.sel.getD (inputOf r.chan) 0
  let u := s.strm b
  let u := if sel.testBit 0 then { u with raw := u.raw ++ [r] } else u
  let u := if sel.testBit 1 then { u with blocks := s.blockTake r u.blocks } else u
  let u := if sel.testBit 2 then { u with avgs := s.winTake r cfg.avgN u.avgs } else u
  let u := if sel.testBit 3 then { u with stats := s.winTake r cfg.statN u.stats } else u
  s.setStrm b u

/-- ADVANCE of class 0x2 for a stream unit: the records of its bank that left the harp in the tick. -/
def State.advanceStream (s : State) (b : Nat) : State :=
  (s.frame.bus.filter (fun r => r.chan / 16 == b)).foldl (fun s r => s.streamTake r) s

/-! ### Substitution while fenced (R264) -/

/-- A record as a stream unit gives it under a fence. -/
def State.substitute (s : State) (r : Rec) : Rec :=
  { r with value := s.get .FENCE_VALUE 0, flags := r.flags ||| flagFence }

def State.pressSub (s : State) (b : Nat) (r : Rec) : Rec := if s.fenced 2 b then s.substitute r else r

/-- The fence of a press unit is lifted (R520): what is open is still given as under the fence, and the next blocks, intervals and
windows open afresh at their boundaries (DEDUCED, log entry 221). -/
def State.pressLift (s : State) (i : Nat) : State :=
  if i < 32 then
    let u := s.strm i
    let win (x : Nat × Win) : Nat × Win := (x.1, { x.2 with sub := true })
    s.setStrm i { u with blocks := u.blocks.map (fun x => (x.1, { x.2 with sub := true })), avgs := u.avgs.map win, stats := u.stats.map win }
  else if i < 48 then
    let u := s.hist (i - 32)
    let win (x : HistWin) : HistWin := { x with sub := x.from_.isSome }
    s.setHist (i - 32) { u with live := win u.live, done := u.done.map win }
  else s

/-! ### Raw packets (R242) -/

/-- The distinct presets and indexes of raw records, in order. -/
def rawGroups (l : List Rec) : List (Nat × Int) := (l.map (fun r => (r.preset, r.index))).eraseDups

/-- RAW packets of the tick, one for each preset and index, over the stream units that the EMIT step names (R21, R242). -/
def State.formRaw (s : State) (us : List Nat) : State :=
  let all := us.flatMap (fun b => (s.strm b).raw.map (fun r => s.pressSub b r))
  let s := (rawGroups all).foldl (fun s k =>
    let rs := all.filter (fun r => r.preset == k.1 && r.index == k.2)
    let fenced := rs.any (fun r => s.fenced 2 (r.chan / 16))
    let payload := pressHeader 1 k.1 0 1 0xFFFF (if fenced then 1 else 0) ++ channelMap (rs.map (fun r => r.chan)) ++
      wordsBytes (rs.map Rec.word)
    let unit := match rs with | r :: _ => r.chan / 16 | [] => 0
    s.formed { cls := 0, unit, queue := (s.pressQueues k.2).1, ptype := 1, grid := k.2, payload }) s
  us.foldl (fun s b => if (s.strm b).raw.isEmpty then s else s.setStrm b { s.strm b with raw := [] }) s

/-! ### Compression (R244 to R248) -/

/-- The mapping of a residual to an unsigned value (R246). -/
def mapResidual (r : Int) : Nat := if 0 ≤ r then (2 * r).toNat else (-2 * r - 1).toNat

/-- The residuals of a predictor order (R245). -/
def residuals (order : Nat) (v : List Int) : List Int :=
  match order with
  | 0 => v
  | 1 => (v.zip (v.drop 1)).map (fun x => x.2 - x.1)
  | _ => ((v.zip (v.drop 1)).zip (v.drop 2)).map (fun x => x.2 - 2 * x.1.2 + x.1.1)

/-- Bits of a residual under parameter K (R246). -/
def riceBits (k u : Nat) : List Bool := List.replicate (u / 2 ^ k) true ++ [false] ++ natBits k u

/-- Words of a block coded with an order and K (R244 to R246). -/
def codedWords (order k : Nat) (const : Bool) (n : Nat) (us : List Nat) : Nat :=
  let body := us.foldl (fun a u => a + u / 2 ^ k + 1 + k) 0
  (32 + 24 * order + (if const then 0 else 8 * n) + body + 31) / 32

/-- The order, K and words of the coding with the fewest words; ties go to the lower order, then the lower K (R247). -/
def bestCoding (v : List Int) (const : Bool) : Nat × Nat × Nat :=
  let orders := (List.range 3).filter (fun o => o < v.length)
  let tries := orders.flatMap (fun o =>
    let us := (residuals o v).map mapResidual
    (List.range 24).map (fun k => (o, k, codedWords o k const v.length us)))
  match tries with
  | [] => (0, 0, 65)
  | t :: ts => ts.foldl (fun b x => if x.2.2 < b.2.2 then x else b) t

/-- Bits packed into words, MSB first, the last word filled with 0 (R246). The first argument bounds the words. -/
def packBits : Nat → List Bool → List Word
  | 0, _ => []
  | _, [] => []
  | n + 1, l =>
    let w := l.take 32
    let v := (w ++ List.replicate (32 - w.length) false).foldl (fun a b => 2 * a + (if b then 1 else 0)) 0
    BitVec.ofNat 32 v :: packBits n (l.drop 32)

/-- A VERBATIM block (R244). -/
def verbatimBlock (rs : List Rec) : List Word :=
  BitVec.ofNat 32 (3 * 2 ^ 30 + (rs.length - 1) % 64 * 2 ^ 10) :: rs.map Rec.word

/-- A coded block (R244 to R246). -/
def codedBlock (order k : Nat) (const : Bool) (rs : List Rec) : List Word :=
  let v := rs.map (fun r => r.value)
  let fb := match rs with | r :: _ => r.flags | [] => 0
  let head := order * 2 ^ 30 + k * 2 ^ 25 + (if const then 2 ^ 24 + fb * 2 ^ 16 else 0) + (rs.length - 1) % 64 * 2 ^ 10
  let warm := (v.take order).flatMap (fun x => natBits 24 (x % 16777216).toNat)
  let flags := if const then [] else rs.flatMap (fun r => natBits 8 r.flags)
  let body := (residuals order v).flatMap (fun r => riceBits k (mapResidual r))
  packBits 70 (natBits 32 head ++ warm ++ flags ++ body)

/-- The words of a block and whether it stands VERBATIM (R247); `verbatim` forces that (R248, R264). -/
def encodeBlock (verbatim : Bool) (rs : List Rec) : List Word × Bool :=
  let const := match rs with | r :: t => t.all (fun x => x.flags == r.flags) | [] => true
  let (o, k, n) := bestCoding (rs.map (fun r => r.value)) const
  if verbatim || decide (65 ≤ n) then (verbatimBlock rs, true) else (codedBlock o k const rs, false)

/-- The grouping of closed blocks into packets: preset, first index and number of records (R243). -/
def blockKeys (l : List (Nat × Block)) : List (Nat × Int × Nat) :=
  (l.map (fun x => (x.2.preset, x.2.first, x.2.recs.length))).eraseDups

/-- Places a key by preset and first index (R243). -/
def keyInsert (k : Nat × Int × Nat) : List (Nat × Int × Nat) → List (Nat × Int × Nat)
  | [] => [k]
  | x :: t => if k.1 < x.1 ∨ (k.1 = x.1 ∧ k.2.1 ≤ x.2.1) then k :: x :: t else x :: keyInsert k t

def sortKeys (l : List (Nat × Int × Nat)) : List (Nat × Int × Nat) := l.foldr keyInsert []

/-- A mismatch of the checker (R248): counted, and beyond VERIFY_LIMIT in 64,000 ticks the unit is fenced with code 5. -/
def State.verifyFail (s : State) (b : Nat) : State :=
  let n := s.tickKey
  let u := s.strm b
  let fails := n :: u.fails.filter (fun t => decide (n - 64000 < t))
  let s := (s.setStrm b { u with fails }).bump .VERIFY_FAILS b |>.pressCause b 0
  if s.get .VERIFY_LIMIT 0 < (fails.length : Int) then (s.pressCause b 1).autoFence 2 b 5 else s

/-- A COMPRESSED packet of blocks that share preset, first index and N (R243, R248). `bad` lists the channels whose coded
block failed the checker; `fenced` tells whether the unit was fenced when the CLOSE step began, since a fence that the step
itself brings takes effect after it (R27, R267). -/
def State.formBlocks (s : State) (b : Nat) (bad : List Nat) (fenced all : Bool) (k : Nat × Int × Nat) (l : List (Nat × Block)) :
    State :=
  let mine := l.filter (fun x => x.2.preset == k.1 && x.2.first == k.2.1 && x.2.recs.length == k.2.2)
  let step (a : State × List Word × Bool) (x : Nat × Block) : State × List Word × Bool :=
    let (s, ws, hit) := a
    let fenced := fenced || x.2.sub
    let rs := if fenced then x.2.recs.map (fun r => s.substitute r) else x.2.recs
    let coded := encodeBlock fenced rs
    let fails := !fenced && !coded.2 && bad.contains x.1
    let (out, verb) := if fails then encodeBlock true rs else coded
    let s := if fails then s.verifyFail b else s
    let s := s.bump .BLOCKS b
    let s := if verb then s.bump .BLOCKS_VERBATIM b else s
    let s := (s.add64 .BITS_IN b (32 * rs.length : Nat)).add64 .BITS_OUT b (32 * out.length : Nat)
    (s, ws ++ out, hit || fails)
  let order := (List.range 512).flatMap (fun c => mine.filter (fun x => x.1 == c))
  let short := order.any (fun x => x.2.cut || (all && !x.2.complete))
  let (s, ws, hit) := order.foldl step (s, [], false)
  let flags := (if fenced || order.any (fun x => x.2.sub) then 1 else 0) + (if short then 2 else 0) + (if hit then 4 else 0)
  let payload := pressHeader 2 k.1 0 k.2.2 b flags ++ channelMap (order.map (fun x => x.1)) ++ wordsBytes ws
  s.formed { cls := 0, unit := b, queue := (s.pressQueues k.2.1).1, ptype := 2, grid := k.2.1, payload }

/-- Closes the blocks of a unit that are due, or all of them. -/
def State.closeBlocks (s : State) (b : Nat) (bad : List Nat) (all : Bool) : State :=
  let u := s.strm b
  let isDue (x : Nat × Block) : Bool := all || x.2.complete || s.allLeft x.1 x.2.stop
  let due := u.blocks.filter (fun x => isDue x && !x.2.recs.isEmpty)
  let fenced := s.fenced 2 b
  let s := s.setStrm b { u with blocks := u.blocks.filter (fun x => !isDue x) }
  (sortKeys (blockKeys due)).foldl (fun s k => s.formBlocks b bad fenced all k due) s

/-- COMPRESSED_BLOCK_CLOSE (R243, R248): the blocks of stream unit b that are due close in the tick whose CLOSE step names
the unit. -/
def execCompressedBlockClose (b : Fin 32) (bad : List Nat) (s : State) : Host.Outcome State Fault Refusal :=
  if s.running && s.closeNamed 2 b then settled ((s.closeBlocks b bad false).pressEmit) else .next s

/-! ### Averages and statistics (R249 to R251) -/

/-- The integer square root: the greatest r with r² ≤ n. -/
def isqrt (n : Nat) : Nat :=
  (List.range 64).foldl (fun r i => let t := r + 2 ^ (63 - i); if t * t ≤ n then t else r) 0

/-- The flags of a reduced record (R250): of the used records, MARK over all; of all where none is used. -/
def Win.flags (x : Win) : Nat :=
  if x.used = 0 then x.flagsAll else x.flagsUsed ||| (x.flagsAll &&& flagMark)

/-- The averaged record of a channel (R250, R264), and the state with AVG_SHORT counted. -/
def State.avgRecord (s : State) (b : Nat) (x : Win) : List Byte × State :=
  let p := presetPeriod x.preset
  let min_ := (s.pressCfg b (alignUp x.stop p - (p : Int))).avgMin
  let fenced := s.fenced 2 b || x.sub
  let used := if fenced then 0 else x.used
  let short := decide (used < min_)
  let mean := if fenced then s.get .FENCE_VALUE 0 * 256
    else if used = 0 then 0 else roundAt .mean (x.sum * 256) used
  let fl := (if fenced then x.flagsAll ||| flagFence else x.flags) ||| (if short then flagWhey else 0)
  let s := if short then (s.bump .AVG_SHORT b).pressCause b 11 else s
  (leBytes 4 (mean % 4294967296).toNat ++ leBytes 2 used ++ [0] ++ leBytes 1 fl, s)

/-- The statistics record of a channel (R251, R264). -/
def State.statRecord (s : State) (b : Nat) (x : Win) : List Byte :=
  let fv := s.get .FENCE_VALUE 0
  let fenced := s.fenced 2 b || x.sub
  let used := if fenced then 0 else x.used
  let u32 (v : Int) : List Byte := leBytes 4 (v % 4294967296).toNat
  let (lo, hi, mean, rms) : Int × Int × Int × Int :=
    if fenced then (fv, fv, fv * 256, (fv.natAbs * 256 : Nat))
    else if used = 0 then (0, 0, 0, 0)
    else
      let sq := x.sumSq * 65536
      let r := isqrt (sq / used)
      let exact := decide (r * r * used = sq)
      (x.min_, x.max_, roundAt .mean (x.sum * 256) used,
        if exact then r else if Config.roundUp .rms sq used then r + 1 else r)
  let fl := (if fenced then x.flagsAll ||| flagFence else x.flags) ||| (if used = 0 then flagWhey else 0)
  u32 lo ++ u32 hi ++ u32 mean ++ u32 rms ++ leBytes 2 used ++ [0] ++ leBytes 1 fl

/-- Closes the intervals (type 3) or windows (type 4) of a unit that are due, or all of them. -/
def State.closeWins (s : State) (b type : Nat) (all : Bool) : State :=
  let u := s.strm b
  let l := if type = 3 then u.avgs else u.stats
  let isDue (x : Nat × Win) : Bool := all || s.allLeft x.1 x.2.stop
  let due := l.filter isDue
  let rest := l.filter (fun x => !isDue x)
  let s := s.setStrm b (if type = 3 then { u with avgs := rest } else { u with stats := rest })
  let keys := sortKeys ((due.map (fun x => (x.2.preset, x.2.first, 0))).eraseDups)
  keys.foldl (fun s k =>
    let mine := (List.range 512).flatMap (fun c => due.filter (fun x => x.1 == c && x.2.preset == k.1 && x.2.first == k.2.1))
    let (body, s) := mine.foldl (fun (a : List Byte × State) x =>
      if type = 3 then let (r, s) := a.2.avgRecord b x.2; (a.1 ++ r, s) else (a.1 ++ a.2.statRecord b x.2, a.2)) ([], s)
    let short := mine.any (fun x => x.2.cut || (all && !s.allLeft x.1 x.2.stop))
    let flags := (if s.fenced 2 b || mine.any (fun x => x.2.sub) then 1 else 0) + (if short then 2 else 0)
    let payload := pressHeader type k.1 0 1 b flags ++ channelMap (mine.map (fun x => x.1)) ++ body
    s.formed { cls := 1, unit := b, queue := (s.pressQueues k.2.1).2.1, ptype := type, grid := k.2.1, payload }) s

/-- AVERAGING_INTERVAL_CLOSE (R249, R250). -/
def execAveragingIntervalClose (b : Fin 32) (s : State) : Host.Outcome State Fault Refusal :=
  if s.running && s.closeNamed 2 b then settled ((s.closeWins b 3 false).pressEmit) else .next s

/-- STATS_WINDOW_CLOSE (R251). -/
def execStatsWindowClose (b : Fin 32) (s : State) : Host.Outcome State Fault Refusal :=
  if s.running && s.closeNamed 2 b then settled ((s.closeWins b 4 false).pressEmit) else .next s

/-! ### Histogram units (R252 to R255) -/

def State.histCfgNow (s : State) (h : Nat) : HistCfg :=
  { source := (s.get .HIST_SOURCE h).toNat, base := s.get .HIST_BASE h, shift := (s.get .HIST_SHIFT h).toNat,
    window := (s.get .HIST_WINDOW h).toNat, emit := s.get .HIST_EMIT h == 1 }

def State.histCfg (s : State) (h : Nat) (g : Int) : HistCfg := logAt (s.histCfgNow h) g (s.hist h).cfgs

def State.logHist (s : State) (h : Nat) (g : Int) : State :=
  let u := s.hist h
  s.setHist h { u with cfgs := logAdd g (s.histCfgNow h) u.cfgs }

/-- Counts in a saturating count of 32 bits. -/
def satCount (v : Nat) : Nat := min (v + 1) 4294967295

/-- A record belongs to the window in progress. -/
def State.histNote (s : State) (h : Nat) (r : Rec) : State :=
  let u := s.hist h
  s.setHist h { u with live := { u.live with from_ := some (u.live.from_.getD r.index), to_ := r.index, preset := r.preset } }

/-- A record is counted (R252). `keep` tells whether it is counted or left out. While the unit is fenced nothing is counted
(R264). -/
def State.histCount (s : State) (h : Nat) (r : Rec) (keep : Bool) : State :=
  let s := s.histNote h r
  let u := s.hist h
  let x := u.live
  let cfg := s.histCfg h r.index
  let d := r.value - cfg.base
  let k := d.toNat / 2 ^ cfg.shift
  if s.fenced 2 (32 + h) || x.sub then s
  else if !keep then s.setHist h { u with live := { x with excluded := satCount x.excluded } }
  else if d < 0 then s.setHist h { u with live := { x with under := satCount x.under } }
  else if 1024 ≤ k then s.setHist h { u with live := { x with above := satCount x.above } }
  else
    let n := satCount (tget x.bins k)
    let s := s.setHist h { u with live := { x with bins := tput x.bins k n, saturated := x.saturated || n == 4294967295 } }
    if n == 4294967295 && !x.saturated then s.pressCause (32 + h) 3 else s

/-- The bins as 1,024 U32 (R254). -/
def binBytes (bins : List (Nat × Nat)) : List Byte := (List.range 1024).flatMap (fun k => leBytes 4 (tget bins k))

/-- The close of one window of a histogram unit (R253, R254, R264); `short` where acquisition ends it (R266). -/
def State.closeHistWin (s : State) (h : Nat) (short : Bool) (x : HistWin) : State :=
  let u := s.hist h
  let fenced := s.fenced 2 (32 + h) || x.sub
  let cfg := if x.from_.isSome then s.histCfg h x.to_ else s.histCfgNow h
  let zero (v : Nat) : Int := if fenced then 0 else v
  let bins := if fenced then List.replicate 4096 0 else binBytes x.bins
  let (f, t) : Int × Int := match x.from_ with
    | some f => (f, x.to_)
    | none => (s.get .HIST_FROM h, s.get .HIST_TO h)
  let s := ((s.put .HIST_FROM h f).put .HIST_TO h t).putBytes .HIST_BINS h bins
  let s := ((s.put .HIST_UNDER h (zero x.under)).put .HIST_OVER h (zero x.above)).put .HIST_EXCLUDED h (zero x.excluded)
  let s := s.bump .HIST_CLOSES h
  let bound := s.get .HIST_STATE h == 2
  let (chan, dflt) : Nat × Nat := match u.bound with
    | some r => ((s.region r).first + (s.region r).stat, (s.region r).preset)
    | none => (cfg.source, s.preset cfg.source)
  let preset := if x.from_.isSome then x.preset else dflt
  let s := s.pressCause (32 + h) 2
  if cfg.emit then
    let flags := (if fenced then 1 else 0) + (if short then 2 else 0) + (if bound then 8 else 0)
    let payload := pressHeader 5 preset 0 0 h flags ++ leBytes 2 chan ++ leBytes 1 h ++ leBytes 1 cfg.shift ++
      leBytes 4 (cfg.base % 4294967296).toNat ++ leBytes 8 f.toNat ++ leBytes 8 t.toNat ++
      leBytes 4 (zero x.under).toNat ++ leBytes 4 (zero x.above).toNat ++ leBytes 4 (zero x.excluded).toNat ++ leBytes 4 0 ++ bins
    s.formed { cls := 2, unit := 32 + h, queue := (s.pressQueues f).2.2, ptype := 5, grid := f, payload }
  else s

/-- The windows of a unit whose end has passed are closed, oldest first. -/
def State.closeDone (s : State) (h : Nat) : State :=
  let u := s.hist h
  u.done.foldl (fun s x => s.closeHistWin h false x)
    (s.setHist h { u with done := [], closedAt := if u.done.isEmpty then u.closedAt else some s.tickKey })

/-- A close of a histogram unit (R253): what has ended, then the window in progress. A unit whose HIST_ENABLE a commit has set to 0
is OFF with it (R255). -/
def State.closeHist (s : State) (h : Nat) (short : Bool) : State :=
  let s := s.closeDone h
  let u := s.hist h
  let s := (s.setHist h { u with live := {}, want := false, until_ := none, closedAt := some s.tickKey }).closeHistWin h short u.live
  if u.until_.isSome then s.put .HIST_STATE h 0 else s

/-- An unbound histogram unit takes a record of its source (R237, R252, R253, R264). A record at or past the end of the window in
progress begins the next one; the ended one waits for the CLOSE step. -/
def State.histTake (s : State) (h : Nat) (r : Rec) : State :=
  let cfg := s.histCfg h r.index
  let u := s.hist h
  let inside := match u.until_ with | some e => decide (r.index < e) | none => true
  if s.get .HIST_STATE h = 1 ∧ cfg.source = r.chan ∧ u.since ≤ r.index ∧ inside = true then
    let w : Int := (cfg.window * presetPeriod r.preset : Nat)
    let b := r.index / w * w
    let x := u.live
    let ended := x.from_.isSome && ((w != 0 && decide (x.to_ < b)) || (match x.stop with | some e => decide (e ≤ r.index) | none => false))
    let stop := if w = 0 then none else some (b + w)
    let u := if ended then { u with done := u.done ++ [x], live := { stop } } else { u with live := { x with stop } }
    (s.setHist h u).histCount h r (!leftOut r.flags)
  else s

/-- ADVANCE of class 0x2 for a histogram unit. -/
def State.advanceHist (s : State) (h : Nat) : State := s.frame.bus.foldl (fun s r => s.histTake h r) s

/-- The window in progress has taken its last record: every record of its source before its end has left the harp. -/
def State.histDue (s : State) (h : Nat) : Bool :=
  let u := s.hist h
  let source := (if u.live.from_.isSome then s.histCfg h u.live.to_ else s.histCfgNow h).source
  s.get .HIST_STATE h == 1 &&
  ((match u.live.stop with | some e => u.live.from_.isSome && s.allLeft source e | none => false) ||
   (match u.until_ with | some e => s.allLeft source e | none => false))

/-- The window in progress closes at the CLOSE step: it is due, or a HIST_CLOSE waits. -/
def State.histEnds (s : State) (h : Nat) : Bool := s.histDue h || ((s.hist h).want && s.get .HIST_STATE h == 1)

/-- A CLOSE step of the tick names the unit, and a window of it is to close. -/
def State.histWork (s : State) (h : Nat) : Bool :=
  s.running && s.closeNamed 2 (32 + h) && (s.histEnds h || !(s.hist h).done.isEmpty)

/-- Closes of a histogram unit at a CLOSE step that names it: windows whose end has passed, and the one in progress. -/
def State.histCloses (s : State) (h : Nat) : State :=
  if s.histWork h then (if s.histEnds h then s.closeHist h false else s.closeDone h) else s

/-- Closes that the tick has left. -/
def State.closeHists (s : State) : State := (List.range 16).foldl (fun s h => s.histCloses h) s

/-- HIST_WINDOW_CLOSE (R253). -/
def execHistWindowClose (h : Fin 16) (s : State) : Host.Outcome State Fault Refusal :=
  if s.histWork h then settled ((s.histCloses h).pressEmit) else .next s

/-- HIST_CLOSE (R253, R255, R267): at the CLOSE step of the tick, ignored while the unit is bound or off; a close of the same tick
stands for it. Where the tick's CLOSE steps do not name the unit, the request waits for one that does (log entry 203). -/
def execHistClose (w : Who) (h : Fin 16) (s : State) : Host.Outcome State Fault Refusal :=
  .next (asCommand w .operator .HIST_CLOSE h (.num 1) (fun s =>
    if s.get .HIST_STATE h = 1 ∧ (s.hist h).closedAt ≠ some s.tickKey then
      (.ok, ((s.setHist h { s.hist h with want := true }).histCloses h).pressEmit)
    else (.ok, s)) s)

/-- A unit begins to count from an index (R255). A window that an earlier commit ends, and whose records have not all left, waits for
its close. -/
def State.histBegin (s : State) (h : Nat) (g : Int) : State :=
  let u := s.hist h
  let done := if u.until_.isSome then u.done ++ [u.live] else u.done
  (s.setHist h { u with live := {}, done, want := false, since := g, until_ := none }).put .HIST_STATE h 1

/-- A commit at G sets HIST_ENABLE 0 (R237, R255): the unit counts the records below G and closes after the last of them. -/
def State.histEnd (s : State) (h : Nat) (g : Int) : State :=
  if s.get .HIST_STATE h = 1 then s.setHist h { s.hist h with until_ := some g } else s

/-- A commit of CAP_HIST binds a unit (R255): a window in progress closes as by HIST_CLOSE. -/
def State.histBind (s : State) (h region : Nat) : State :=
  let s := if s.get .HIST_STATE h = 1 then s.closeHist h false else s
  (s.setHist h { s.hist h with bound := some region, live := {}, done := [], want := false, until_ := none }).put .HIST_STATE h 2

/-- A commit removes the binding (R255): live counts are cleared without a close. -/
def State.histUnbind (s : State) (h : Nat) (g : Int) : State :=
  let s := s.setHist h { s.hist h with bound := none, live := {}, done := [], since := g }
  s.put .HIST_STATE h (if s.get .HIST_ENABLE h = 1 ∧ s.running then 1 else 0)

/-! ### Persistence maps (R256 to R258) -/

/-- A group that binds the map is in POST. -/
def State.mapInPost (s : State) (m : Nat) : Bool :=
  (List.range 16).any (fun r => (s.region r).pmap == m && (s.region r).state == 3)

/-- A PMAP_CLEAR acts (R256): PMAP_CAPTURES, PMAP_MAX and the cause bits [12] that the map set. The cells of a fenced map are
frozen (R264). -/
def State.clearMap (s : State) (m : Nat) : State :=
  let x := s.pmap m
  let s := (s.setPmap m { x with cells := if s.fenced 2 (48 + m) then x.cells else [], units := [] }).put .PMAP_CAPTURES m 0 |>.put .PMAP_MAX m 0
  let s := s.put .PMAP_PENDING m (withoutBits (s.get .PMAP_PENDING m) 1)
  x.units.foldl (fun s u => s.put .UNIT_CAUSE u (withoutBits (s.get .UNIT_CAUSE u) 4096)) s

/-- A PMAP_READOUT begins (R256, R258): its packets are formed from the next tick on. -/
def State.beginReadout (s : State) (m : Nat) : State :=
  let s := s.put .PMAP_PENDING m (withoutBits (s.get .PMAP_PENDING m) 2)
  (s.setPmap m { s.pmap m with next := some 0, start := s.tickKey + 1 }).put .PMAP_STATE m 2

/-- Deferred work of a map whose groups have left POST (R256): the readout first, then the clear. -/
def State.mapResume (s : State) (m : Nat) : State :=
  if s.mapInPost m || s.get .PMAP_STATE m == 2 then s
  else if bit (s.get .PMAP_PENDING m) 1 then s.beginReadout m
  else if bit (s.get .PMAP_PENDING m) 0 then s.clearMap m
  else s

/-- PMAP_READOUT (R256, R258). -/
def execPmapReadout (w : Who) (m : Fin 4) (s : State) : Host.Outcome State Fault Refusal :=
  .next (asCommand w .operator .PMAP_READOUT m (.num 1) (fun s =>
    if s.get .PMAP_STATE m = 2 ∨ bit (s.get .PMAP_PENDING m) 1 = true then (.ok, s)
    else if s.mapInPost m then (.ok, s.put .PMAP_PENDING m (withBit (s.get .PMAP_PENDING m) 1))
    else (.ok, s.beginReadout m)) s)

/-- PMAP_CLEAR (R256). -/
def execPmapClear (w : Who) (m : Fin 4) (s : State) : Host.Outcome State Fault Refusal :=
  .next (asCommand w .operator .PMAP_CLEAR m (.num 1) (fun s =>
    if s.get .PMAP_STATE m = 2 ∨ s.mapInPost m = true ∨ bit (s.get .PMAP_PENDING m) 1 = true then
      (.ok, s.put .PMAP_PENDING m (withBit (s.get .PMAP_PENDING m) 0))
    else (.ok, s.clearMap m)) s)

/-- The packet of a readout in the present tick (R256, R257, R264). -/
def State.readoutStep (s : State) (m : Nat) : State :=
  let p := s.pmap m
  match p.next with
  | some k =>
    if k < 32 ∧ p.start ≤ s.tickKey then
      let fenced := s.fenced 2 (48 + m)
      let cell (i : Nat) : List Byte := leBytes 2 (if fenced then 0 else tget p.cells (2048 * k + i))
      let payload := pressHeader 6 p.preset 0 0 m (if fenced then 1 else 0) ++ leBytes 1 (8 * k) ++ [8] ++
        leBytes 2 (s.get .PMAP_MAX m).toNat ++ leBytes 4 (s.get .PMAP_CAPTURES m).toNat ++ (List.range 2048).flatMap cell
      let s := s.setPmap m { p with next := some (k + 1) }
      s.formed { cls := 2, unit := 48 + m, queue := (s.pressQueuesNow).2.2, ptype := 6, grid := s.tickKey, payload }
    else s
  | none => s

/-- PMAP_READOUT_DONE (R256, R258): the last packet is formed. -/
def execPmapReadoutDone (m : Fin 4) (s : State) : Host.Outcome State Fault Refusal :=
  let p := s.pmap m
  if p.next = some 32 then
    let s := (s.setPmap m { p with next := none }).put .PMAP_STATE m (if p.bound then 1 else 0)
    .next ((s.pressCause (48 + m) 4).mapResume m)
  else .next s

/-- A record of a capture enters the bound map (R227, R264): post record j of `post`. `unit` is the unit whose cause bit
shows saturation. -/
def State.mapCount (s : State) (m unit : Nat) (j post : Nat) (r : Rec) : State :=
  if s.fenced 2 (48 + m) then s
  else
    let col := j * 256 / max post 1
    let row := ((r.value % 16777216).toNat / 65536) ^^^ 0x80
    let p := s.pmap m
    let k := 256 * row + col
    let old := tget p.cells k
    let n := min (old + 1) 65535
    let full := n == 65535 && old != 65535
    let units := if full && !p.units.contains unit then unit :: p.units else p.units
    let s := (s.setPmap m { p with cells := tput p.cells k n, preset := r.preset, units }).raiseTo .PMAP_MAX m n
    if full then s.causeIn 3 unit .UNIT_CAUSE unit 12 else s

/-! ### Acquisition stops and starts (R255, R266) -/

/-- Every open block, interval and window closes short, and every histogram unit that counts; the windows of bound ones the cut
of their captures has closed (R226, R255, R266). `bad` is the checker's verdict on the blocks. -/
def State.pressStop (s : State) (bad : List Nat) : State :=
  let s := s.formRaw (List.range 32)
  let s := (List.range 32).foldl (fun s b => ((s.closeBlocks b bad true).closeWins b 3 true).closeWins b 4 true) s
  let s := (List.range 16).foldl (fun s h =>
    (if s.get .HIST_STATE h = 1 then s.closeHist h true else s).put .HIST_STATE h 0) s
  s.pressFlush

/-- The press at a start with first tick s0. -/
def State.pressStart (s : State) (s0 : Int) : State :=
  let s := { s with press := { s.press with queues := [(s0, s.pressQueuesNow)] } }
  let s := (List.range 32).foldl (fun s b =>
    s.setStrm b { cfgs := [(s0, s.pressCfgNow b)], fails := (s.strm b).fails }) s
  (List.range 16).foldl (fun s h =>
    let s := s.setHist h { s.hist h with cfgs := [(s0, s.histCfgNow h)] }
    if (s.hist h).bound.isSome then s.put .HIST_STATE h 2
    else if s.get .HIST_ENABLE h = 1 then s.histBegin h s0 else s) s

/-- PRESS_CAUSE_CLEAR (R268). -/
def execPressCauseClear (w : Who) (mask : Nat) (s : State) : Host.Outcome State Fault Refusal :=
  .next (clearCommand w .PRESS_CAUSE_CLEAR .PRESS_CAUSE 0 mask s)

end Sys2Proof.Machine
end

