-- ==== Sys2Proof/Machine/Ripen.lean ====
section
/-! DEFINITION. Ripening (08_press_reduction R259 to R263, 09_queues_and_cave R299, R300): the cave manager's request, the
ripen engine, the decoding of a segment, and what stands in its place. -/

namespace Sys2Proof.Machine

open Sys2Proof

/-! ### The cave manager's request (R299) -/

/-- A packet holds stream data of an input faster than its RIPEN_FLOOR (R299, R259). -/
def State.ripenable (s : State) (p : Packet) : Bool :=
  p.isStream && (mapChannels (p.payload.drop 8)).1.any (fun c =>
    decide ((leNat (slice p.payload 1 1) : Int) < s.get .RIPEN_FLOOR_i c))

/-- The state of a segment of an id. -/
def State.setSeg (s : State) (id : Nat) (f : Segment → Segment) : State :=
  { s with cave := { s.cave with ring := s.cave.ring.map (fun g => if g.id = id then f g else g) } }

/-- The engine holds no pending request. -/
def State.engineFree (s : State) : Bool := s.cave.request.isNone && s.get .RIPEN_PENDING 0 == 0xFFFFFFFF

/-- Under RIPEN the manager requests ripening at the EMIT step (R299). -/
def State.issueRipen (s : State) : State :=
  if s.get .OVERFLOW_POLICY 0 = 1 ∧ s.spareSegments < s.get .RIPEN_LOW_WATER 0 ∧ s.engineFree = true ∧
     0 < s.cave.total then
    match s.cave.ring.find? (fun g => g.state == .held && g.pkts.any (fun x => s.ripenable x.pkt)) with
    | some g =>
      let s := (s.setSeg g.id (fun g => { g with state := .ripening })).bump .RIPEN_REQUESTS 0
      ({ s with cave := { s.cave with request := some g.id } }).cause .QC_CAUSE 0 5
    | none => s.cause .QC_CAUSE 0 15
  else s

/-- A segment whose ripening is refused or abandoned stands as it was (R297). -/
def State.standSeg (s : State) (id : Nat) : State := s.setSeg id (fun g => if g.state = .ripening then s.settled g else g)

/-- RIPEN_REQUEST_RX (R263): the engine takes, holds or refuses the request that the manager issued. -/
def execRipenRequestRx (s : State) : Host.Outcome State Fault Refusal :=
  match s.cave.request with
  | none => .next s
  | some id =>
    let s := { s with cave := { s.cave with request := none } }
    let refuse (s : State) : State := (((s.bump .RIPEN_BEHIND 0).pressCause 52 7).standSeg id)
    if s.fenced 2 52 then .next (refuse s)
    else if s.get .RIPEN_STATE 0 = 0 then .next ((s.put .RIPEN_STATE 0 1).put .RIPEN_SEGMENT 0 id)
    else if s.get .RIPEN_PENDING 0 = 0xFFFFFFFF then .next (s.put .RIPEN_PENDING 0 id)
    else .next (refuse s)

/-! ### Decoding (R243 to R248) -/

/-- A number from bits, MSB first. -/
def bitsNat (l : List Bool) : Nat := l.foldl (fun a b => 2 * a + (if b then 1 else 0)) 0

/-- A signed number from bits. -/
def bitsInt (l : List Bool) : Int :=
  let v := bitsNat l
  if v < 2 ^ (l.length - 1) then v else v - 2 ^ l.length

/-- The value and flags that a record word holds (R194). -/
def wordRec (w : Word) : Int × Nat := ((w.extractLsb' 8 24).toInt, w.toNat % 256)

/-- `n` fields of `k` bits. -/
def takeFields : Nat → Nat → List Bool → List (List Bool) × List Bool
  | 0, _, l => ([], l)
  | n + 1, k, l => let (fs, r) := takeFields n k (l.drop k); (l.take k :: fs, r)

/-- The one-bits before the first zero, and what follows that zero. -/
def unary : List Bool → Nat × List Bool
  | true :: t => let (q, r) := unary t; (q + 1, r)
  | false :: t => (0, t)
  | [] => (0, [])

/-- `n` residuals under parameter K (R246). -/
def takeRice : Nat → Nat → List Bool → List Int × List Bool
  | 0, _, l => ([], l)
  | n + 1, k, l =>
    let (q, l) := unary l
    let u := q * 2 ^ k + bitsNat (l.take k)
    let r : Int := if u % 2 = 0 then (u / 2 : Nat) else -(((u + 1) / 2 : Nat) : Int)
    let (rs, l) := takeRice n k (l.drop k)
    (r :: rs, l)

/-- The values of a predictor order from warm-up values, newest first, and residuals (R245). -/
def predict (order : Nat) (newest : List Int) : List Int → List Int
  | [] => []
  | r :: t =>
    let v := match order, newest with
      | 0, _ => r
      | 1, a :: _ => r + a
      | _, a :: b :: _ => r + 2 * a - b
      | _, _ => r
    v :: predict order (v :: newest) t

/-- A block decoded: its records, and the words that follow it (R248). -/
def decodeBlock (ws : List Word) : List (Int × Nat) × List Word :=
  match ws with
  | [] => ([], [])
  | h :: t =>
    let hv := h.toNat
    let n := hv / 1024 % 64 + 1
    let order := hv / 2 ^ 30
    if order = 3 then ((t.take n).map wordRec, t.drop n)
    else
      let k := hv / 2 ^ 25 % 32
      let bits := t.flatMap (fun w => natBits 32 w.toNat)
      let (warm, l) := takeFields order 24 bits
      let v0 := warm.map bitsInt
      let (fl, l) := if hv / 2 ^ 24 % 2 = 1 then (List.replicate n (hv / 2 ^ 16 % 256), l)
        else let (fs, l) := takeFields n 8 l; (fs.map bitsNat, l)
      let (rs, l) := takeRice (n - order) k l
      let v := v0 ++ predict order v0.reverse rs
      (v.zip fl, t.drop ((bits.length - l.length + 31) / 32))

/-- Blocks of channels in order. -/
def decodeBlocks : List Nat → List Word → List (Nat × List (Int × Nat))
  | [], _ => []
  | c :: cs, ws => let (rs, ws) := decodeBlock ws; (c, rs) :: decodeBlocks cs ws

/-- The records of a stream packet (R242, R243). -/
def Packet.records (p : Packet) : List Rec :=
  let preset := leNat (slice p.payload 1 1)
  let (chans, n) := mapChannels (p.payload.drop 8)
  let ws := toWords (p.payload.drop (8 + n))
  let period : Int := presetPeriod preset
  if p.ptype = 1 then
    (chans.zip ws).map (fun x => { chan := x.1, preset, index := p.grid, value := (wordRec x.2).1, flags := (wordRec x.2).2 })
  else
    (decodeBlocks chans ws).flatMap (fun x => ((List.range x.2.length).zip x.2).map (fun kr =>
      { chan := x.1, preset, index := (p.grid : Int) + kr.1 * period, value := kr.2.1, flags := kr.2.2 }))

/-! ### Re-reduction (R259 to R262) -/

/-- A record with its RIPE and the place of its source packet in the segment, and whether this step formed it. -/
structure Ripe where
  rcd : Rec
  ripe : Nat
  place : Nat
  made : Bool := false
deriving DecidableEq, Repr, Inhabited

/-- The record of a list nearest to an index, and whether it is the one named (R262). -/
def nearest (i : Int) : List Rec → Option Rec
  | [] => none
  | r :: t => match nearest i t with
    | none => some r
    | some q => if (r.index - i).natAbs ≤ (q.index - i).natAbs then some r else some q

/-- A ripened record of index g from input records of period P (R260 to R262). -/
def ripenOne (inputs : List Rec) (c preset : Nat) (g : Int) : Rec :=
  let p : Int := presetPeriod preset
  let taps := (List.range 63).map (fun (j : Nat) => g + ((j : Int) - 31) * p)
  let near := inputs.filter (fun r => decide ((r.index - g).natAbs ≤ 64 * p.natAbs))
  let got := taps.map (fun i => (i, nearest i near))
  let missing := got.any (fun x => match x.2 with | some r => r.index != x.1 | none => true)
  let vals := got.map (fun x => (x.2.map (fun r => r.value)).getD 0)
  let all := got.foldl (fun f x => f ||| (x.2.map (fun r => r.flags)).getD 0) 0
  let share := (near.filter (fun r => decide (g - 2 * p ≤ r.index) && decide (r.index ≤ g + p))).foldl (fun f r => f ||| r.flags) 0
  let flags := (all - (all &&& flagMark)) ||| (share &&& flagMark) ||| (if missing then flagWhey else 0)
  { chan := c, preset := preset + 1, index := g, value := clampInt (-8388608) 8388607 (Config.ripenFir vals), flags }

/-- The stream records of a segment with their RIPE and place. -/
def Segment.records (g : Segment) : List Ripe :=
  ((List.range g.pkts.length).zip g.pkts).flatMap (fun kx =>
    if kx.2.pkt.isStream then kx.2.pkt.records.map (fun r => { rcd := r, ripe := kx.2.pkt.ripe, place := kx.1 }) else [])

/-- The channels of a segment. -/
def segChans (l : List Ripe) : List Nat := (l.map (fun x => x.rcd.chan)).eraseDups

/-- Records of a channel cut into runs of one preset and RIPE, in order (R262). -/
def runsOf : List Ripe → List (List Ripe)
  | [] => []
  | x :: t => match runsOf t with
    | (y :: ys) :: rest =>
      if x.rcd.preset = y.rcd.preset ∧ x.ripe = y.ripe then (x :: y :: ys) :: rest else [x] :: (y :: ys) :: rest
    | rest => [x] :: rest

/-- One run of a channel ripened or carried over (R259, R262): `tail` and `ahead` are the records either side. -/
def State.ripenRun (s : State) (tail ahead : List Rec) (run : List Ripe) : List Ripe :=
  match run with
  | [] => []
  | x :: _ =>
    if (x.rcd.preset : Int) < s.get .RIPEN_FLOOR_i x.rcd.chan then
      let step := presetPeriod (x.rcd.preset + 1)
      let inputs := tail ++ run.map (fun x => x.rcd) ++ ahead
      (run.filter (fun x => x.rcd.index % (step : Int) == 0)).map (fun x =>
        { rcd := ripenOne inputs x.rcd.chan x.rcd.preset x.rcd.index, ripe := x.ripe + 1, place := x.place, made := true })
    else run

/-- The records of a list that have the preset of a record. -/
def samePreset (x : Option Ripe) (l : List Rec) : List Rec :=
  match x with | some x => l.filter (fun r => r.preset == x.rcd.preset) | none => []

/-- The runs of a channel ripened (R262): the records kept of the segment before stand before the first run, those of the next
segment after the last; across a change of preset nothing does. -/
def State.ripenRuns (s : State) (tail ahead : List Rec) : List (List Ripe) → List Ripe
  | [] => []
  | [run] => s.ripenRun (samePreset run.head? tail) (samePreset run.head? ahead) run
  | run :: rest => s.ripenRun (samePreset run.head? tail) [] run ++ State.ripenRuns s [] ahead rest

/-- The block boundary before an index (R259). -/
def blockStart (preset : Nat) (g : Int) : Int := g / (64 * presetPeriod preset : Nat) * (64 * presetPeriod preset : Nat)

/-- Places a stored packet by the place of its source. -/
def placeInsert (x : Nat × Stored) : List (Nat × Stored) → List (Nat × Stored)
  | [] => [x]
  | y :: t => if x.1 ≤ y.1 then x :: y :: t else y :: placeInsert x t

/-- Records of a channel cut where an index is missing. -/
def gapless (p : Int) : List Ripe → List (List Ripe)
  | [] => []
  | x :: t => match gapless p t with
    | (y :: ys) :: rest => if y.rcd.index = x.rcd.index + p then (x :: y :: ys) :: rest else [x] :: (y :: ys) :: rest
    | rest => [x] :: rest

/-- The COMPRESSED packets of a bank's blocks that share preset, RIPE, block and first record, N with them (R259, R300). A block
that ends before its boundary is SHORT. -/
def ripePackets (g : Segment) (out : List Ripe) (key : Nat × Nat × Nat × Int) : List (Nat × Stored) :=
  let (b, preset, ripe, start) := key
  let mine := out.filter (fun x => x.rcd.chan / 16 == b && x.rcd.preset == preset && x.ripe == ripe && blockStart preset x.rcd.index == start)
  let chans := (List.range 16).map (fun i => 16 * b + i)
  let p : Int := presetPeriod preset
  let blocks := chans.flatMap (fun c => (gapless p (mine.filter (fun x => x.rcd.chan == c))).map (fun l => (c, l)))
  let kinds := (blocks.map (fun x => ((x.2.head?.map (fun r => r.rcd.index)).getD 0, x.2.length))).eraseDups
  kinds.filterMap (fun kd =>
    let bs := blocks.filter (fun x => (x.2.head?.map (fun r => r.rcd.index)).getD 0 == kd.1 && x.2.length == kd.2)
    let place := bs.foldl (fun m x => x.2.foldl (fun m r => max m r.place) m) 0
    match g.pkts[place]? with
    | none => none
    | some src =>
      let ws := bs.flatMap (fun x => (encodeBlock false (x.2.map (fun r => r.rcd))).1)
      let payload := pressHeader 2 preset ripe kd.2 b (if kd.1 + kd.2 * p < start + 64 * p then 2 else 0) ++ channelMap (bs.map (fun x => x.1)) ++ wordsBytes ws
      let pkt := sealPacket src.pkt.queue 4 src.pkt.seq kd.1 2 payload src.pkt.e2e.isSome
      some (place, { tick := src.tick, pkt, sent := src.sent }))

/-- The records kept of the segment ripened before, of a channel and each source preset (R262). -/
def State.ripeTail (s : State) (c : Nat) : List Rec := (s.press.tails.filter (fun t => t.1 == c)).flatMap (fun t => t.2.2)

/-- What a segment leaves for the next one: the last 31 records of each channel and preset (R262). -/
def segTails (l : List Ripe) : List (Nat × Nat × List Rec) :=
  ((l.map (fun x => (x.rcd.chan, x.rcd.preset))).eraseDups).map (fun k =>
    let rs := (l.filter (fun x => x.rcd.chan == k.1 && x.rcd.preset == k.2)).map (fun x => x.rcd)
    (k.1, k.2, rs.drop (rs.length - 31)))

/-- The ripened result of a segment (R259 to R262, R299): packets that are not of the stream stand ahead. -/
def State.ripenSegment (s : State) (g : Segment) : List Stored × List Ripe :=
  let l := g.records
  let next := match s.cave.ring.dropWhile (fun x => x.id != g.id) with
    | _ :: n :: _ => n.records
    | _ => []
  let out := (segChans l).flatMap (fun c =>
    let mine := l.filter (fun x => x.rcd.chan == c)
    let after := (next.filter (fun x => x.rcd.chan == c)).map (fun x => x.rcd)
    let ahead := (after.takeWhile (fun r => some r.preset == after.head?.map (fun x => x.preset))).take 31
    s.ripenRuns (s.ripeTail c) ahead (runsOf mine))
  let groups := (out.map (fun x => (x.rcd.chan / 16, x.rcd.preset, x.ripe, blockStart x.rcd.preset x.rcd.index))).eraseDups
  let pkts := (groups.flatMap (ripePackets g out)).foldr placeInsert []
  (g.pkts.filter (fun x => !x.pkt.isStream) ++ pkts.map (fun x => x.2), out)

/-- The engine is done with its segment and takes the pending request, if one waits (R263). -/
def State.engineNext (s : State) : State :=
  let p := s.get .RIPEN_PENDING 0
  if p = 0xFFFFFFFF then (s.put .RIPEN_STATE 0 0).put .RIPEN_SEGMENT 0 0xFFFFFFFF
  else (s.put .RIPEN_SEGMENT 0 p).put .RIPEN_PENDING 0 0xFFFFFFFF

/-- The ripen engine is fenced (R263): its segment is abandoned and the pending request refused. -/
def State.ripenFence (s : State) : State :=
  if s.get .RIPEN_STATE 0 = 1 then
    let s := s.standSeg (s.get .RIPEN_SEGMENT 0).toNat
    let p := s.get .RIPEN_PENDING 0
    let s := if p = 0xFFFFFFFF then s else (s.bump .RIPEN_BEHIND 0).standSeg p.toNat
    (((s.put .RIPEN_STATE 0 0).put .RIPEN_SEGMENT 0 0xFFFFFFFF).put .RIPEN_PENDING 0 0xFFFFFFFF).bump .RIPEN_ABANDONED 0
  else s

/-- Bytes of stored packets. -/
def storedBytes (l : List Stored) : Nat := l.foldl (fun n x => n + x.pkt.length) 0

/-- Places a segment in time order, before the first that begins later. -/
def segInsert (g : Segment) : List Segment → List Segment
  | [] => [g]
  | x :: t => if g.lo < x.lo then g :: x :: t else x :: segInsert g t

/-- Room for a ripened result (R299): the RIPE_OPEN segment when the result fits and is not older than what stands there,
else a new one from FREE, reserve included, or from the oldest ACKED. -/
def State.placeRipe (s : State) (src : Segment) (pkts : List Stored) : Option State :=
  let n := storedBytes pkts
  let fits := s.cave.ring.any (fun g => g.state == .ripeOpen && decide (g.bytes + n ≤ segmentBytes) && decide (g.hi ≤ src.lo))
  if segmentBytes < n then none
  else if fits then
    let add (g : Segment) : Segment :=
      if g.state = .ripeOpen then { g with pkts := g.pkts ++ pkts, bytes := g.bytes + n, hi := src.hi } else g
    some { s with cave := { s.cave with ring := s.cave.ring.map add } }
  else
    let s : State := { s with cave := { s.cave with ring := s.cave.ring.map (fun (g : Segment) => if g.state = .ripeOpen then s.settled g else g) } }
    let opened (s : State) (id : Nat) : State :=
      let g : Segment := { id, state := .ripeOpen, pkts, bytes := n, lo := src.lo, hi := src.hi }
      { s with cave := { s.cave with ring := segInsert g s.cave.ring } }
    match s.cave.firstFree with
    | some id => if 0 < s.cave.free then some (opened s id) else none
    | none => match s.cave.ring.find? (fun (g : Segment) => g.state == .acked) with
      | some a => some (opened (s.reclaim a) a.id)
      | none => none

/-- RIPENED_i of a channel counts what the step formed, and cause bit [6] tells that it left data at the floor (R262). -/
def State.countRipe (s : State) (out : List Ripe) (c : Nat) : State :=
  let made := out.filter (fun x => x.made && x.rcd.chan == c)
  let s := if made.isEmpty then s else s.add64 .RIPENED_i c made.length
  if made.any (fun x => (x.rcd.preset : Int) == s.get .RIPEN_FLOOR_i c) then s.pressCause 52 6 else s

/-- What a ripened segment `g` leaves when its packets stand in the ring: the segment is gone, RIPENED_i counts what the step formed,
the last 31 records of each channel are kept, and marks are judged anew (R259 to R263, R299, R304). -/
def State.segmentRipened (s : State) (g : Segment) (out : List Ripe) : State :=
  let s := { s with cave := { s.cave with ring := s.cave.ring.filter (fun x => x.id != g.id) } }
  let l := g.records
  let chans := segChans l
  let s : State := chans.foldl (fun (s : State) c => s.countRipe out c) s
  let lasts := segTails l
  let s : State := { s with press := { s.press with
    tails := lasts ++ s.press.tails.filter (fun (t : Nat × Nat × List Rec) => lasts.all (fun x => x.1 != t.1 || x.2.1 != t.2.1)) } }
  let s : State := (s.bump .RIPEN_DONE 0).pressCause 52 5
  (List.range 16).foldl (fun (s : State) n =>
    if s.get .MARK_STATE n ≠ 0 then s.put .MARK_RIPE n (s.ripeAt (s.get .MARK_INDEX n)) else s) s

/-- RIPEN_SEGMENT_DONE (R259 to R263, R299, R300, R304): the segment is ripened and its packets are replaced in one step, or
the request is abandoned for want of room. -/
def execRipenSegmentDone (s : State) : Host.Outcome State Fault Refusal :=
  let id := (s.get .RIPEN_SEGMENT 0).toNat
  match s.cave.ring.find? (fun g => g.id == id && g.state == .ripening) with
  | none => if s.get .RIPEN_STATE 0 = 1 then .next s.engineNext else .next s
  | some g =>
    if s.get .RIPEN_STATE 0 = 1 then
      let (pkts, out) := s.ripenSegment g
      match s.placeRipe g pkts with
      | none => .next (((s.standSeg id).bump .RIPEN_ABANDONED 0).engineNext)
      | some s' => .next (((s'.segmentRipened g out).engineNext).noteLowSpace s.spareSegments)
    else .next s

end Sys2Proof.Machine
end

