-- ==== Sys2Proof/Machine/Rennet.lean ====
section
/-! DEFINITION. The rennet (07_rennet_capture): detectors, the judgement of triggers, captures in their regions, broadcasts,
and what a stop, a start, a release and a fence do to them. -/

namespace Sys2Proof.Machine

open Sys2Proof

def State.unit (s : State) (u : Nat) : TrigUnit := Sparse.get (fun _ => {}) s.units u
def State.setUnit (s : State) (u : Nat) (v : TrigUnit) : State :=
  { s with units := Sparse.put (fun _ => {}) (fun k => k) s.units u v }

/-- A cause bit of a trigger unit, whose events collapse into the fence event while the unit, or its region, is fenced
(R231, R233). -/
def State.unitCause (s : State) (u b : Nat) : State :=
  let r := (s.get .CAP_REGION u).toNat
  if !s.fenced 3 u && decide (r < 16) && s.fenced 6 r then s.causeIn 6 r .UNIT_CAUSE u b else s.causeIn 3 u .UNIT_CAUSE u b

/-- The members of a region's group (R209). -/
def State.members (s : State) (r : Nat) : List Nat := (List.range 16).filter (fun u => s.get .CAP_REGION u == (r : Int))

/-- A cause of a group, set in every member, as UNIT_STATE shows the group's state in every member (log entry 16). -/
def State.groupCause (s : State) (r b : Nat) : State := (s.members r).foldl (fun s u => s.unitCause u b) s

/-- A unit's TRIG_COND is not 0. -/
def State.unitOn (s : State) (u : Nat) : Bool := s.get .TRIG_COND u != 0

/-- Some member's TRIG_COND is not 0. -/
def State.groupOn (s : State) (r : Nat) : Bool := (s.members r).any (fun u => s.unitOn u)

/-- UNIT_STATE and CAP_HELD of every member show the group (R209, R234). -/
def State.showGroup (s : State) (r : Nat) : State :=
  let g := s.region r
  let held : Nat := if g.state = 1 ∨ g.state = 2 then g.rows.length else if g.state = 3 then g.preHeld else 0
  (s.members r).foldl (fun s u => (s.put .UNIT_STATE u g.state).put .CAP_HELD u held) s

/-- Writes a region and shows its group. -/
def State.withRegion (s : State) (r : Nat) (g : Region) : State := (s.setRegion r g).showGroup r

/-! ### Detectors (R201 to R207) -/

/-- A comparator with hysteresis (R202). Where HYST is 0 and the value meets the level, the comparator is 1 (log entry 17). -/
def comparator (level hyst v : Int) (old : Option Bool) : Option Bool :=
  if level ≤ v then some true else if v ≤ level - hyst then some false else old

def rose (old new : Option Bool) : Bool := old == some false && new == some true
def fell (old new : Option Bool) : Bool := old == some true && new == some false

/-- A direction of TRIG_EDGE takes rising, and falling, edges (R202). -/
def upward (edge : Int) : Bool := edge == 0 || edge == 2
def downward (edge : Int) : Bool := edge == 1 || edge == 2

/-- A pulse of w samples qualifies (R204). -/
def pulseQualifies (q : Int) (a b w : Int) : Bool :=
  if q = 0 then decide (w < a) else if q = 1 then decide (a < w)
  else if q = 2 then decide (a ≤ w) && decide (w ≤ b) else decide (w < a) || decide (b < w)

/-- A slew detector (R207): `d` is the slew in its direction. -/
def slewNext (limit hyst d : Int) (old : Bool) : Bool :=
  if limit ≤ d then true else if d ≤ limit - hyst then false else old

/-- A tested record passes the detector of a unit (R202 to R207): whether the condition is met, TIMEOUT apart, whether the
timeout matures, and the detector after it. -/
def State.detect (s : State) (u : Nat) (p : Nat) (r : Rec) (d : Detector) : Bool × Bool × Detector :=
  let cond := s.get .TRIG_COND u
  let edge := s.get .TRIG_EDGE u
  let hyst := s.get .HYST u
  let a := comparator (s.get .LEVEL_A u) hyst r.value d.cmpA
  let b := comparator (s.get .LEVEL_B u) hyst r.value d.cmpB
  let riseA := rose d.cmpA a
  let fallA := fell d.cmpA a
  let riseB := rose d.cmpB b
  let fallB := fell d.cmpB b
  let edgeMet := (riseA && upward edge) || (fallA && downward edge)
  let ta := s.get .TIME_A u
  let width (from_ : Option Int) : Bool := match from_ with
    | some g => pulseQualifies (s.get .PW_QUAL u) ta (s.get .TIME_B u) ((r.index - g) / (p : Int))
    | none => false
  let pulse := (fallA && upward edge && width d.posFrom) || (riseA && downward edge && width d.negFrom)
  let posOpen := (d.posRunt || riseA) && !riseB
  let negOpen := (d.negRunt || fallB) && !fallA
  let runt := (fallA && upward edge && d.posRunt && !riseB) || (riseB && downward edge && d.negRunt && !fallA)
  let base := if edgeMet then r.index else d.base.getD r.index
  let fired := if edgeMet then false else d.fired
  let matures := cond == 4 && !edgeMet && !fired && decide (base + ta * p ≤ r.index)
  let limit := s.get .SLEW_LIMIT u
  let (up, down) : Bool × Bool := match d.prev with
    | some v => (slewNext limit hyst (r.value - v) d.slewUp, slewNext limit hyst (v - r.value) d.slewDown)
    | none => (d.slewUp, d.slewDown)
  let slew := (up && !d.slewUp && upward edge) || (down && !d.slewDown && downward edge)
  let met := (cond == 1 && edgeMet) || (cond == 2 && pulse) || (cond == 3 && runt) || (cond == 5 && slew)
  (met, matures,
   { cmpA := a, cmpB := b
     posFrom := if riseA then some r.index else if fallA then none else d.posFrom
     negFrom := if fallA then some r.index else if riseA then none else d.negFrom
     posRunt := posOpen && !fallA, negRunt := negOpen && !riseB
     base := some base, fired := fired || matures, prev := some r.value, slewUp := up, slewDown := down })

/-! ### Captures (R209 to R220) -/

/-- The records of a group that a capture of its region holds for each channel, C (R210). -/
def Region.depth (g : Region) : Nat := g.pre + g.post

/-- The record of a region's word. -/
def rowRec (g : Region) (chan : Nat) (row : Int × List Word) : Rec :=
  let (v, f) := wordRec (row.2.getD (chan - g.first) 0)
  { chan, preset := g.preset, index := row.1, value := v, flags := f }

/-- Post record j of a capture enters the bound histogram unit and map (R226, R227). -/
def State.feedBound (s : State) (r j : Nat) (row : Int × List Word) : State :=
  let g := s.region r
  let x := rowRec g (g.first + g.stat) row
  let s := if g.hist < 16 then
      s.histCount g.hist x (!hasFlag x.flags flagAbsent && !hasFlag x.flags flagFence) else s
  if g.pmap < 4 then s.mapCount g.pmap g.leader j g.post x else s

/-- The rows of a group's channels that left the harp in the tick: index and one word for each channel. Records that a drain
still gives under another preset are no part of it (R230). A channel that gave no record in the tick leaves its word open (log
entry 5), and so does one whose records are not written, the region being fenced (R231). -/
def State.newRows (s : State) (g : Region) (fenced : Bool) : List (Int × List Word) × State :=
  let mine := s.frame.bus.filter (fun r => decide (g.first ≤ r.chan) && decide (r.chan < g.first + g.count) && r.preset == g.preset)
  let idx := (mine.map (fun r => r.index)).eraseDups
  idx.foldl (fun (a : List (Int × List Word) × State) i =>
    let step (b : List Word × State) (c : Nat) : List Word × State :=
      match mine.find? (fun r => !fenced && r.chan == c && r.index == i) with
      | some r => (b.1 ++ [r.word], b.2)
      | none => let (v, s) := b.2.draw; (b.1 ++ [BitVec.ofNat 32 v], s)
    let (ws, s) := ((List.range g.count).map (fun k => g.first + k)).foldl step ([], a.2)
    (a.1 ++ [(i, ws)], s)) ([], s)

/-- The state in which a group, or a unit without region, begins arming: ARMED at once when it needs neither pre records nor
a hold-off (R211, R218). -/
def armedAtOnce (pre rearm : Nat) : Nat := if pre = 0 ∧ rearm = 0 then 2 else 1

/-- A group takes one row (R210, R216). In POST the rows that still come before T′ take the places of the oldest held, so that
the PRE_HELD records next before T′ are kept (log entry 201). -/
def State.takeRow (s : State) (r : Nat) (row : Int × List Word) : State :=
  let g := s.region r
  if g.state = 1 ∨ g.state = 2 then
    if (match g.armFrom with | some a => decide (row.1 < a) | none => false) then s
    else
      let rows := g.rows ++ [row]
      let armFrom := if g.written = 0 then some row.1 else g.armFrom
      let a := armFrom.getD row.1
      let p := presetPeriod g.preset
      let written := g.written + 1
      let ready := decide (g.pre ≤ written) && decide (a + (g.rearm * p : Nat) ≤ row.1 + p)
      s.setRegion r { g with rows := rows.drop (rows.length - g.depth), written, armFrom, state := if ready then 2 else 1 }
  else if g.state = 3 && decide (row.1 < g.tPrime) then
    if g.postHeld = 0 then
      let rows := g.rows ++ [row]
      let written := g.written + 1
      s.setRegion r { g with rows := rows.drop (rows.length - g.preHeld), written
                             dataStart := (written - g.preHeld) % max g.depth 1 * g.count }
    else s
  else if g.state = 3 && decide (g.postHeld < g.post) then
    let s := s.setRegion r { g with rows := g.rows ++ [row], written := g.written + 1, postHeld := g.postHeld + 1 }
    s.feedBound r g.postHeld row
  else s

/-- A group takes the tick's records before any trigger is judged (R210, R232). -/
def State.takeRecords (s : State) (r : Nat) : State :=
  let g := s.region r
  if g.state = 1 ∨ g.state = 2 ∨ g.state = 3 then
    let (rows, s) := s.newRows g (s.fenced 6 r)
    if rows.isEmpty then s else (rows.foldl (fun s row => s.takeRow r row) s).showGroup r
  else s

/-- Channels first to first + count − 1 share one preset (R210, R218). -/
def State.presetsShared (s : State) (first count : Nat) : Bool :=
  (List.range count).all (fun k => s.preset (first + k) == s.preset first)

/-- A group begins ARMING under its leader's objects (R209, R216, R218); `from_` is the first index it may take, if stated.
ARMING with captured channels that do not share one preset is BLOCKED at once. -/
def State.armGroup (s : State) (r : Nat) (from_ : Option Int) : State :=
  match s.members r with
  | [] => s.withRegion r { s.region r with state := 0, rows := [], written := 0, armFrom := none, release := false }
  | u :: _ =>
    let n (o : Obj) : Nat := (s.get o u).toNat
    let runs := s.running && s.groupOn r
    let mixed := runs && !s.presetsShared (n .CAP_FIRST) (n .CAP_COUNT)
    let g : Region := { s.region r with
      first := n .CAP_FIRST, count := n .CAP_COUNT, pre := n .CAP_PRE, post := n .CAP_POST, keep := s.get .CAP_KEEP u == 1
      queue := n .CAP_QUEUE, hist := n .CAP_HIST, pmap := n .CAP_PMAP, stat := n .CAP_STAT_INPUT, rearm := n .REARM_SAMPLES
      mode := n .CAP_MODE, leader := u, preset := s.preset (n .CAP_FIRST)
      rows := [], written := 0, armFrom := from_, parts := [], pushing := false, hurt := false, release := false
      state := if mixed then 5 else if runs then armedAtOnce (n .CAP_PRE) (n .REARM_SAMPLES) else 0 }
    if mixed then (s.withRegion r g).groupCause r 11 else s.withRegion r g

/-- The capture header of R220; the CRC over it and the data words stands in its last 4 bytes. It does not hold over a
capture that an uncorrectable curd store error fell on (R524): a free value other than the CRC stands there. -/
def State.captureHeader (s : State) (r : Nat) (cut : Bool) (data : List Word) : List Byte :=
  let g := s.region r
  let p := presetPeriod g.preset
  let primary := (maskBits 16 g.mask).headD g.leader
  let pu := s.unit primary
  let hold := match g.rows[g.preHeld]? with
    | some row => hasFlag (rowRec g g.first row).flags flagHold
    | none => false
  let flags := (if g.circular then 1 else 0) + (if g.preHeld < g.pre then 2 else 0) + (if g.bcast then 4 else 0) +
    (if g.forced then 8 else 0) + (if cut then 16 else 0) + (if g.fenced then 32 else 0) + (if hold then 64 else 0) +
    (if g.sent then 128 else 0)
  let line := if pu.line ≠ 255 then pu.line else g.lineSent
  let h := leBytes 2 1 ++ leBytes 1 primary ++ leBytes 1 r ++ leBytes 2 g.mask ++ leBytes 2 flags ++ leBytes 1 pu.cond ++
    leBytes 1 line ++ leBytes 2 g.origin ++ leBytes 1 g.originUnit ++ leBytes 1 g.preset ++ leBytes 2 g.first ++
    leBytes 2 g.count ++ leBytes 2 (min g.late 65535) ++ leBytes 4 g.seq ++ leBytes 8 g.trig.toNat ++
    leBytes 8 (g.tPrime - (g.preHeld * p : Nat)).toNat ++ leBytes 4 g.preHeld ++ leBytes 4 g.postHeld ++
    leBytes 4 (pu.value % 4294967296).toNat ++ leBytes 1 g.hist ++ leBytes 1 g.pmap ++ leBytes 2 g.stat ++ leBytes 4 g.dataStart
  let crc := crc32c (h ++ wordsBytes data)
  let free := Config.freeValue s.draws % 4294967296
  h ++ leBytes 4 (if !g.hurt then crc else if free = crc then crc ^^^ 1 else free)

/-- Pieces of at most `k` words, with the place of the first; the first argument bounds their number. -/
def chunks (k : Nat) : Nat → Nat → List Word → List (Nat × List Word)
  | 0, _, _ => []
  | _, _, [] => []
  | n + 1, at_, l => (at_, l.take k) :: chunks k n (at_ + k) (l.drop k)

/-- The parts of a closed capture: GRID and payload (R289). -/
def captureParts (g : Region) (header : List Byte) (data : List Word) : List (Int × List Byte) :=
  let first := g.tPrime - (g.preHeld * presetPeriod g.preset : Nat)
  let pieces := chunks 1024 (data.length / 1024 + 1) 0 data
  let total := pieces.length + 1
  let head (k : Nat) : List Byte := leBytes 2 k ++ leBytes 2 total ++ leBytes 4 g.seq
  (first, head 0 ++ header) :: ((List.range pieces.length).zip pieces).map (fun kx =>
    (first + (kx.2.1 / max g.count 1 * presetPeriod g.preset : Nat), head (kx.1 + 1) ++ wordsBytes kx.2.2))

/-- The header and data of a capture that closes (R216, R220): then DONE, or OFF at a stop, from which nothing is pushed (log
entry 18). While the region is fenced the header stands in CAP_HEADER alone (R231). -/
def State.sealCapture (s : State) (r : Nat) (cut stop : Bool) : State :=
  let g := { s.region r with seq := ((s.region r).seq + 1) % 4294967296 }
  let s := s.setRegion r g
  let data := g.rows.flatMap (fun row => row.2)
  let header := s.captureHeader r cut data
  let s : State := if g.hurt then { s with draws := s.draws + 1 } else s
  let push := !g.keep && !stop
  let g := { g with state := if stop then 0 else 4, pushing := push, parts := if push then captureParts g header data else [] }
  let s := s.setRegion r (if s.fenced 6 r then g else
    { g with header, data, heldStart := g.dataStart, heldSize := g.depth * g.count })
  (s.members r).foldl (fun s u => s.putBytes .CAP_HEADER u header) s

/-- A capture closes, whole or cut (R216, R217, R226): CAP_SEQ, header, bound units, cause bits. -/
def State.closeCapture (s : State) (r : Nat) (cut stop : Bool) : State :=
  let s := s.sealCapture r cut stop
  let g := s.region r
  let s := if g.hist < 16 then s.closeHist g.hist false else s
  let s := if g.pmap < 4 then (s.bump .PMAP_CAPTURES g.pmap).mapResume g.pmap else s
  let s := s.groupCause r (if cut then 2 else 1)
  let s := if g.preHeld < g.pre then s.groupCause r 5 else s
  s.showGroup r

/-- A group is cut (R217): POST closes with the records it holds; circulating records are discarded. -/
def State.cutGroup (s : State) (r : Nat) (fenced stop : Bool) : State :=
  let g := s.region r
  if g.state = 3 then (s.setRegion r { g with fenced := g.fenced || fenced }).closeCapture r true stop
  else if g.state = 1 ∨ g.state = 2 then
    s.withRegion r { g with rows := [], written := 0, armFrom := none, hurt := false
                            state := if stop then 0 else armedAtOnce g.pre g.rearm }
  else s

/-! ### Judgement (R208, R211 to R215, R221 to R225) -/

/-- Where a trigger comes from. -/
inductive ShotKind where
  | condition | force | broadcast
deriving DecidableEq, Repr, Inhabited

/-- A trigger that reaches a unit: its T, the source record at hand, its condition code, and what a broadcast carried. -/
structure Shot where
  unit : Nat
  t    : Int
  kind : ShotKind
  src  : Option Rec := none
  line : Nat := 255
  hub  : Nat := 0
  origin : Nat := 0
deriving DecidableEq, Repr, Inhabited

/-- The condition code of R220. -/
def State.shotCode (s : State) (x : Shot) : Nat :=
  match x.kind with
  | .condition => (s.get .TRIG_COND x.unit).toNat
  | .force => 0xF
  | .broadcast => 0xE

/-- Sets MARK on a record of the tick before it is emitted (R215). -/
def State.markRecord (s : State) (r : Rec) : State :=
  let f (x : Rec) : Rec := if x.chan = r.chan && x.index = r.index && x.preset = r.preset then ({ x with flags := x.flags ||| flagMark } : Rec).sealed else x
  { s with frame := { s.frame with bus := s.frame.bus.map f } }

/-- VAT_TRIGGER_SEND (R224, R375): one Event frame out of each ring port, with the same FSEQ; true when some port can send.
The hub's own units take it as received in the tick it is sent (log entry 19). -/
def State.sendTrigger (s : State) (u line : Nat) (t : Int) : Bool × State :=
  let up (p : Nat) : Bool := s.get .LINK_STATE p == 1
  if !s.acting then (false, s)
  else if up 0 || up 1 then
    let payload := leBytes 1 2 ++ leBytes 1 line ++ leBytes 1 u ++ [0] ++ leBytes 2 Config.hubAddress ++ [0, 0] ++ leBytes 8 t.toNat
    let (f, s) := s.newFrame 4 true false 3 0 0 payload
    let s := if up 0 then s.sendFrame 0 4 f else s
    let s := if up 1 then s.sendFrame 1 4 f else s
    (true, { s with bcasts := s.bcasts ++ [⟨line, Config.hubAddress, u, t, s.tickKey⟩] })
  else (false, s.unitCause u 14)

/-- What every accepted trigger does (R215, R218, R224, R225, R231): counts, causes, MARK on the record at hand, broadcast.
True when a broadcast was sent. -/
def State.acceptShot (s : State) (x : Shot) : Bool × State :=
  let u := x.unit
  let s := ((s.bump .ACCEPT_COUNT u).put .LAST_TRIGGER u x.t).unitCause u 0
  let s := if x.kind = .force then s.unitCause u 13 else s
  let s := if x.kind = .broadcast then s.unitCause u 4 else s
  let s := match x.kind, x.src with
    | .broadcast, _ => s
    | _, some r => s.markRecord r
    | _, none => s
  let out := (s.get .BCAST_OUT u).toNat
  if x.kind ≠ .broadcast ∧ out < 16 then s.sendTrigger u out x.t else (false, s)

/-- What the header keeps of a unit in UNIT_MASK. -/
def State.noteShot (s : State) (x : Shot) : State :=
  s.setUnit x.unit { s.unit x.unit with
    line := if x.kind = .broadcast then x.line else 255
    cond := s.shotCode x
    value := if x.kind = .broadcast then 0 else (x.src.map (fun r => r.value)).getD 0 }

/-- A unit joins the capture of its group (R222). -/
def State.joinShot (s : State) (x : Shot) (r : Nat) : State :=
  let u := x.unit
  let s := (((s.noteShot x).bump .ACCEPT_COUNT u).put .LAST_TRIGGER u x.t).unitCause u 3
  let s := match x.kind, x.src with
    | .broadcast, _ => s
    | _, some q => s.markRecord q
    | _, none => s
  let out := (s.get .BCAST_OUT u).toNat
  let (sent, s) := if x.kind ≠ .broadcast ∧ out < 16 then s.sendTrigger u out x.t else (false, s)
  let g := s.region r
  s.setRegion r { g with mask := g.mask ||| 2 ^ u, bcast := g.bcast || x.kind == .broadcast,
                         forced := g.forced || x.kind == .force, sent := g.sent || sent,
                         lineSent := if sent && g.lineSent == 255 then out else g.lineSent }

/-- The mode of R214: true for circular. -/
def State.circular (s : State) (mode : Nat) : Bool := mode == 2 || (mode == 0 && s.get .SERVICE_PHASE 0 != 1)

/-- A trigger is accepted by a group in ARMING (R211 case 5, R218, R226, R227). -/
def State.acceptGroup (s : State) (x : Shot) (r : Nat) (tPrime : Int) (k b : Nat) (circ : Bool) : State :=
  let (sent, s) := (s.noteShot x).acceptShot x
  if s.fenced 6 r then (s.bump .LOST_COUNT x.unit).unitCause x.unit 6
  else
    let g := s.region r
    let pre := min g.pre (min b (g.depth - k))
    let post := min k g.post
    let before := g.rows.filter (fun row => decide (row.1 < tPrime))
    let after := (g.rows.filter (fun row => decide (tPrime ≤ row.1))).take post
    let out := (s.get .BCAST_OUT x.unit).toNat
    let g' : Region := { g with
      state := 3, trig := x.t, tPrime, preHeld := pre, postHeld := post, late := k, mask := 2 ^ x.unit, circular := circ
      bcast := x.kind == .broadcast, forced := x.kind == .force, sent, lineSent := if sent then out else 255, fenced := false
      origin := if x.kind = .broadcast then x.hub else Config.hubAddress
      originUnit := if x.kind = .broadcast then x.origin else x.unit
      rows := before.drop (before.length - pre) ++ after
      dataStart := (g.written - (pre + k)) % max g.depth 1 * g.count
      armFrom := some (g.armFrom.getD tPrime) }
    let s := s.withRegion r g'
    let s := (g'.rows.drop pre).foldl (fun (a : Nat × State) row => (a.1 + 1, a.2.feedBound r a.1 row)) (0, s) |>.2
    s

/-- A trigger is ignored, with its count and cause bit. -/
def State.ignoreShot (s : State) (u : Nat) (count : Obj) (b : Nat) : State := (s.bump count u).unitCause u b

/-- A trigger reaches its unit's group (R211, R213, R221, R222, R231). -/
def State.judgeGroup (s : State) (x : Shot) (r : Nat) : State :=
  let g := s.region r
  let u := x.unit
  if g.state = 3 then (if g.trig = x.t then s.joinShot x r else s.ignoreShot u .REARM_COUNT 9)
  else if g.state = 4 ∨ g.state = 5 then s.ignoreShot u .REARM_COUNT 9
  else if g.state = 0 then s
  else
    let p := presetPeriod g.preset
    let tPrime := alignUp x.t p
    let circ := s.circular g.mode
    let s := s.put .CAP_MODE_NOW u (if circ then 2 else 1)
    let k := (g.rows.filter (fun row => decide (tPrime ≤ row.1))).length
    let b := g.written - k
    let taken := decide (0 < g.written)
    let older := match g.rows with
      | row :: _ => taken && decide (tPrime < row.1)
      | [] => false
    let beforeA := match g.armFrom with
      | some a => taken && decide (tPrime < a)
      | none => false
    let elapsed := if taken then
        (match g.armFrom with | some a => decide (a + (g.rearm * p : Nat) ≤ tPrime) | none => false)
      else g.rearm == 0
    if older || beforeA then s.ignoreShot u .LATE_COUNT 8
    else if !circ && decide (b < g.pre) then s.ignoreShot u .EARLY_COUNT 10
    else if !circ && !elapsed then s.ignoreShot u .REARM_COUNT 9
    else if !circ && decide (g.post < k) then s.ignoreShot u .LATE_COUNT 8
    else s.acceptGroup x r tPrime k b circ

/-- UNIT_STATE of a unit without region: ARMED once its hold-off has elapsed for the source's next record (R212, R218). -/
def State.aloneState (s : State) (u : Nat) : Int :=
  let x := s.unit u
  let rearm := (s.get .REARM_SAMPLES u).toNat
  let p := presetPeriod (s.preset (s.get .TRIG_SOURCE u).toNat)
  if !(s.running && s.unitOn u) then 0
  else match x.armFrom, x.seen with
    | some a, some i => if a + (rearm * p : Nat) ≤ i + p then 2 else 1
    | _, _ => (armedAtOnce 0 rearm : Nat)

/-- A trigger reaches a unit without region (R212). -/
def State.judgeAlone (s : State) (x : Shot) : State :=
  let u := x.unit
  let p := presetPeriod (s.preset (s.get .TRIG_SOURCE u).toNat)
  let rearm := (s.get .REARM_SAMPLES u).toNat
  let elapsed := match (s.unit u).armFrom with
    | some a => decide (a + (rearm * p : Nat) ≤ x.t)
    | none => rearm == 0
  let s := s.put .CAP_MODE_NOW u (if s.circular (s.get .CAP_MODE u).toNat then 2 else 1)
  if elapsed then
    let (_, s) := s.acceptShot x
    let s := s.setUnit u { s.unit u with armFrom := some (x.t + p) }
    s.put .UNIT_STATE u (s.aloneState u)
  else s.ignoreShot u .REARM_COUNT 9

/-- A trigger reaches a unit (R211, R212, R231): a fenced unit accepts nothing, nor does one without region that is OFF. -/
def State.judge (s : State) (x : Shot) : State :=
  if s.fenced 3 x.unit then s
  else
    let r := (s.get .CAP_REGION x.unit).toNat
    if r < 16 then s.judgeGroup x r else if s.unitOn x.unit then s.judgeAlone x else s

/-- A timeout that has matured is judged: the condition is met on its record (R206). -/
def State.judgeTimeout (s : State) (u : Nat) : State :=
  let x := s.unit u
  match x.matured with
  | some r => ((s.setUnit u { x with matured := none }).bump .FIRE_COUNT u).judge { unit := u, t := r.index, kind := .condition, src := some r }
  | none => s

/-- Every timeout that has matured is judged. No two wait at once: a test that fires or matures judges the one before (R232). -/
def State.judgeMatured (s : State) : State := (List.range 16).foldl (fun s u => s.judgeTimeout u) s

/-- A trigger would be taken, so that its record carries MARK (R215): the judgement leaves ACCEPT_COUNT changed. -/
def State.wouldTake (s : State) (x : Shot) : Bool :=
  (s.judge x).get .ACCEPT_COUNT x.unit != s.get .ACCEPT_COUNT x.unit

/-! ### The tests of a tick (R200, R201, R208, R232) -/

/-- A unit tests a record of its source. A TRIG_FORCE fires on it whatever its flags, on a record that the unit skips after a
commit and on one it does not test too (R208; log entry 202). A timeout that matures waits for TRIG_TIMEOUT_MATURES, or for the
next test that fires; its record takes the MARK that the judgement will give it before it is emitted (log entry 20). -/
def State.testOne (s : State) (u : Nat) (r : Rec) : State :=
  let x := s.unit u
  let skipped := decide (r.index < x.skipTo) || !s.unitOn u
  let shot : Shot := { unit := u, t := r.index, kind := .condition, src := some r }
  let fire (s : State) (x : Shot) : State := (s.judgeMatured.bump .FIRE_COUNT u).judge x
  let s := s.setUnit u { x with force := false }
  if skipped then (if x.force then fire s { shot with kind := .force } else s)
  else if leftOut r.flags then
    let s := ((s.setUnit u { x with force := false, det := {} }).bump .SKIP_COUNT u).unitCause u 7
    if x.force then fire s { shot with kind := .force } else s
  else
    let (met, matures, det) := s.detect u (presetPeriod r.preset) r x.det
    let s := s.setUnit u { x with force := false, det }
    if x.force then fire s { shot with kind := .force }
    else if met then fire s shot
    else if matures then
      let s := s.judgeMatured
      let s := s.setUnit u { s.unit u with matured := some r }
      if s.wouldTake shot then s.markRecord r else s
    else s

/-- A record of a unit's source leaves the harp (R200, R212): A of a unit without region is its index, tested or not, when the
unit has taken none since it began arming. -/
def State.testRecord (s : State) (u : Nat) (r : Rec) : State :=
  let x := s.unit u
  let alone := s.get .CAP_REGION u == 255
  let armFrom := if alone && s.unitOn u && x.armFrom.isNone then some r.index else x.armFrom
  let s := (s.setUnit u { x with seen := some r.index, armFrom }).testOne u r
  if alone then s.put .UNIT_STATE u (s.aloneState u) else s

/-- Places a test by record index, then unit (R232). -/
def testInsert (x : Nat × Rec) : List (Nat × Rec) → List (Nat × Rec)
  | [] => [x]
  | y :: t => if x.2.index < y.2.index ∨ (x.2.index = y.2.index ∧ x.1 ≤ y.1) then x :: y :: t else y :: testInsert x t

/-- ADVANCE of class 0x3 for units (R200, R210, R232): captures take the tick's records, then local conditions are judged. -/
def State.advanceRennet (s : State) (us : List Nat) : State :=
  let rs : List Nat := (List.range 16).filter (fun (r : Nat) => us.any (fun u => s.get .CAP_REGION u == (r : Int)))
  let s := rs.foldl (fun s r => s.takeRecords r) s
  let tests := us.flatMap (fun u => (s.frame.bus.filter (fun r => (r.chan : Int) == s.get .TRIG_SOURCE u)).map (fun r => (u, r)))
  (tests.foldr testInsert []).foldl (fun s x => s.testRecord x.1 x.2) s

/-- TRIG_TIMEOUT_MATURES (R206): the timeout of a unit matured on a record of the present tick, and is judged. -/
def execTrigTimeoutMatures (u : Fin 16) (s : State) : Host.Outcome State Fault Refusal := settled (s.judgeTimeout u)

/-- TRIG_FORCE (R208). -/
def execTrigForce (w : Who) (u : Fin 16) (s : State) : Host.Outcome State Fault Refusal :=
  .next (asCommand w .operator .TRIG_FORCE u (.num 1) (fun s => (.ok, s.setUnit u { s.unit u with force := true })) s)

/-- A VAT_TRIGGER taken from the ring during the present tick (R225, R374): line, hub, unit and T of its payload. -/
def State.onVatTrigger (s : State) (f : Frame) : State :=
  let b := f.payload
  { s with bcasts := s.bcasts ++ [⟨leNat (slice b 1 1) % 16, leNat (slice b 4 2), leNat (slice b 2 1), leNat (slice b 8 8), s.tickKey⟩] }

/-- A broadcast is delivered to every unit that takes its line (R225). -/
def State.deliverBcast (s : State) (x : Bcast) : State :=
  (List.range 16).foldl (fun s u =>
    if bit (s.get .BCAST_IN u) x.line && s.unitOn u then
      s.judge { unit := u, t := x.t, kind := .broadcast, line := x.line, hub := x.hub, origin := x.unit }
    else s) s

/-- The broadcasts received in earlier ticks are delivered, in order of arrival. -/
def State.deliverDue (s : State) : State :=
  let due := s.bcasts.filter (fun x => decide (x.tick < s.tickKey))
  let s := { s with bcasts := s.bcasts.filter (fun x => !decide (x.tick < s.tickKey)) }
  due.foldl (fun s x => s.deliverBcast x) s

/-- BROADCAST_DELIVERY (R225, R232): in the tick after their reception, in order of arrival, after the local tests. -/
def execBroadcastDelivery (s : State) : Host.Outcome State Fault Refusal :=
  if s.running then settled s.judgeMatured.deliverDue else .next s

/-- POST_HELD of a group has reached CAP_POST in a tick whose CLOSE step names a unit of the group (R216). -/
def State.captureDue (s : State) (r : Nat) : Bool :=
  let g := s.region r
  s.running && g.state == 3 && g.postHeld == g.post && (s.members r).any (fun u => s.closeNamed 3 u)

/-- What has come before a commit of the tick by R232 and waits: timeouts, broadcasts, and captures that are complete. -/
def State.judgeWaiting (s : State) : State :=
  (List.range 16).foldl (fun s r => if s.captureDue r then s.closeCapture r false false else s) s.judgeMatured.deliverDue

/-- CAPTURE_CLOSE (R216, R232): the timeouts and broadcasts of the tick are judged before the close. -/
def execCaptureClose (r : Fin 16) (s : State) : Host.Outcome State Fault Refusal :=
  if s.captureDue r then
    let s := s.judgeMatured.deliverDue
    settled ((if s.captureDue r then s.closeCapture r false false else s).pressEmit)
  else .next s

/-- The parts of closed captures enter their queues at the EMIT step (R216, R277). -/
def State.pushCaptures (s : State) : State :=
  (List.range 16).foldl (fun s r =>
    let g := s.region r
    if g.pushing && !g.parts.isEmpty && s.emitNamed g.queue then
      let (left, s) := g.parts.foldl (fun (a : List (Int × List Byte) × State) x =>
        if !a.1.isEmpty then (a.1 ++ [x], a.2)
        else match a.2.offer g.queue 7 0 x.1 x.2 with
          | (true, s) => ([], s)
          | (false, s) => ([x], s)) ([], s)
      s.setRegion r { s.region r with parts := left }
    else s) s

/-- A DONE group is released: it arms from the next tick, and at once while acquisition is stopped (R216, R218, R232). -/
def State.releaseGroup (s : State) (r : Nat) : State :=
  if s.running then s.setRegion r { s.region r with release := true } else s.armGroup r none

/-- The releases of the last tick take effect. -/
def State.takeReleases (s : State) : State :=
  (List.range 16).foldl (fun s r => if (s.region r).release then s.armGroup r none else s) s

/-- CAPTURE_PUSH_DONE (R216): the last word of the capture has been pushed, and the group is released. -/
def execCapturePushDone (r : Fin 16) (s : State) : Host.Outcome State Fault Refusal :=
  let g := s.region r
  if g.state = 4 ∧ g.pushing = true ∧ g.parts.isEmpty = true ∧ (s.queue g.queue).incoming.isNone = true then
    .next (s.releaseGroup r)
  else .next s

/-- CAP_RELEASE (R216): a DONE group that waits for it is released; any other changes nothing. -/
def execCapRelease (w : Who) (u : Fin 16) (s : State) : Host.Outcome State Fault Refusal :=
  .next (asCommand w .operator .CAP_RELEASE u (.num 1) (fun s =>
    let r := (s.get .CAP_REGION u).toNat
    let g := s.region r
    if r < 16 ∧ g.state = 4 ∧ g.pushing = false then (.ok, s.releaseGroup r) else (.ok, s)) s)

/-- UNIT_CAUSE_CLEAR (R233). -/
def execUnitCauseClear (w : Who) (u : Fin 16) (mask : Nat) (s : State) : Host.Outcome State Fault Refusal :=
  .next (clearCommand w .UNIT_CAUSE_CLEAR .UNIT_CAUSE u mask s)

/-! ### Start, stop and fences (R217, R218, R231) -/

/-- The rennet at a start: OFF groups and units begin ARMING; DONE and BLOCKED stay (R218). -/
def State.rennetStart (s : State) : State :=
  let s := (List.range 16).foldl (fun s r =>
    if (s.members r).isEmpty then s
    else
      let st := (s.region r).state
      if st = 4 ∨ st = 5 then s else s.armGroup r none) s
  let s := (List.range 16).foldl (fun s u =>
    let s := s.setUnit u { s.unit u with det := {}, matured := none, armFrom := none, seen := none, skipTo := 0 }
    if s.get .CAP_REGION u = 255 then s.put .UNIT_STATE u (s.aloneState u) else s) s
  { s with bcasts := [] }

/-- Acquisition stops (R217, R218, R232): captures are cut, and a group released in the tick is OFF. -/
def State.rennetStop (s : State) : State :=
  let s := (List.range 16).foldl (fun s r =>
    if (s.region r).release then s.withRegion r { s.region r with state := 0, rows := [], pushing := false, release := false }
    else s.cutGroup r false true) s
  (List.range 16).foldl (fun s u => if s.get .CAP_REGION u = 255 then s.put .UNIT_STATE u 0 else s) s

/-- A trigger unit is fenced (R217, R231). -/
def State.unitFence (s : State) (u : Nat) : State :=
  let r := (s.get .CAP_REGION u).toNat
  if r < 16 then s.cutGroup r true false else s

/-- A capture region is fenced (R217, R231): what circulates in it is discarded. -/
def State.regionFence (s : State) (r : Nat) : State := s.cutGroup r true false

/-! ### Reading a region (R219, R309) -/

/-- The word at a place of a region's data area (R219): the rows that circulate or are held, over the capture held before
them. A place that neither fills is open. -/
def Region.place (g : Region) (o : Nat) : Option Word :=
  let width := max g.count 1
  let depth := max g.depth 1
  let base := if g.state = 3 then g.dataStart / width else (g.written - g.rows.length) % depth
  if (g.state = 1 ∨ g.state = 2 ∨ g.state = 3) ∧ o / width < min g.written depth then
    match ((List.range g.rows.length).zip g.rows).find? (fun x => (base + x.1) % depth == o / width) with
    | some x => x.2.2[o % width]?
    | none => none
  else if o < g.heldSize then g.data[(o + g.heldSize - g.heldStart) % g.heldSize]?
  else none

/-- A word of a region by its place: the header of the capture held, then the data area. Words that nothing fills are open. -/
def State.regionWord (s : State) (r w : Nat) : Word × State :=
  let g := s.region r
  let x := if w < 16 then (if g.header.length = 64 then some (BitVec.ofNat 32 (leNat (slice g.header (4 * w) 4))) else none)
    else g.place (w - 16)
  match x with
  | some v => (v, s)
  | none => let (v, s) := s.draw; (BitVec.ofNat 32 v, s)

/-- A read of REGION_DATA (R309): 1,024 bytes from REGION_OFFSET, which then advances; zeros while the region is fenced. `bad`
tells of an uncorrectable error among them. In DIM the read brings the cave out of self-refresh (R552). -/
def State.readRegion (s : State) (r : Nat) (bad : Bool) : Val × State :=
  let s := s.abortRegion true r
  let s := if s.get .PWR_STATE 0 = 1 then s.caveReady else s
  let off := (s.get .REGION_OFFSET r).toNat
  let (ws, s) : List Word × State := if s.fenced 6 r then (List.replicate 256 0, s)
    else (List.range 256).foldl (fun (a : List Word × State) k =>
      let (x, s) := a.2.regionWord r (off / 4 + k)
      (a.1 ++ [x], s)) ([], s)
  let s := if bad then
      let g := s.region r
      let n := s.tickKey
      let errs := n :: g.errors.filter (fun t => decide (n - 64000 < t))
      let s := ((s.setRegion r { g with errors := errs }).add32 .ECC_UNCORRECTABLE 0 1).cause .QC_CAUSE 0 12
      if s.get .PARITY_LIMIT 0 < (errs.length : Int) then
        let f := s.autoFence 6 r 7
        if !s.fenced 6 r && f.fenced 6 r then f.regionFence r else f
      else s
    else s
  (.bytes (wordsBytes ws), s.put .REGION_OFFSET r ((off + 1024) % 4294967296 : Nat))

/-- REGION_DATA_READ (R309). -/
def execRegionDataRead (w : Who) (r : Fin 16) (bad : Bool) (s : State) : Host.Outcome State Fault Refusal :=
  .next (asRead w .REGION_DATA (fun s => let (v, s) := s.readRegion r bad; (.ok, v, s)) s)

end Sys2Proof.Machine
end

