-- ==== Sys2Proof/Machine/Trier.lean ====
section
/-! DEFINITION. The trier converters (05_trier_converters): sequences, injected requests, calibration, simultaneous groups,
result words, cold-junction use and the excitation calibration. -/

namespace Sys2Proof.Machine

open Sys2Proof

/-! ### Clock, entries and inputs (R135 to R139) -/

/-- INPUT, SMP and GAIN of an entry word (R138). -/
def entryInput (w : Nat) : Nat := w / 2 ^ 21 % 2048
def entrySmp (w : Nat) : Nat := w / 2 ^ 18 % 8
def entryWindowed (w : Nat) : Bool := w.testBit 15
def entryTemp (w : Nat) : Bool := w.testBit 14

/-- Sampling clocks of an SMP code (R137). -/
def smpClocks (w : Nat) : Nat := 2 * 2 ^ entrySmp w

/-- An input code that R139 lists. -/
def inputListed (c : Nat) : Bool :=
  decide (c ≤ 0x481) || (decide (0x488 ≤ c) && decide (c ≤ 0x490)) || (decide (0x498 ≤ c) && decide (c ≤ 0x49C)) ||
  c == 0x4F0 || c == 0x4F1

/-- An entry word without reserved input code or bits (R138, R148, R156). -/
def entryGood (w : Nat) : Bool := inputListed (entryInput w) && w % 16384 == 0

/-- A temperature input, in 0.01 °C (R139). -/
def tempInput (c : Nat) : Bool := (decide (0x440 ≤ c) && decide (c ≤ 0x45F)) || (decide (0x498 ≤ c) && decide (c ≤ 0x49C))

/-- An excitation monitor input (R139). -/
def monitorInput (c : Nat) : Bool := decide (0x200 ≤ c) && decide (c ≤ 0x3FF)

/-! ### Causes and events (R160, R161) -/

/-- An event of a converter; a fenced converter's are suppressed and counted (R519). -/
def State.trierEvent (s : State) (t n : Nat) : State :=
  if s.fenced 4 t then s.bump .FENCE_SUPPRESSED 4 else s.raise n

/-- A cause bit of a converter, with the event that its rule raises each time (R144, R148, R150, R151). -/
def State.trierCause (s : State) (t b : Nat) (event : Option Nat) : State :=
  let s := (s.orCause .TRIER_CAUSE t b).noteCause .TRIER_CAUSE t b true
  match event with
  | some n => s.trierEvent t n
  | none => s

/-! ### Cold junction (R157) -/

/-- Whether the latest result of a bank's CJC_ENTRY may be used in a tick, and its temperature. -/
def State.cjcResult (s : State) (b : Nat) (n : Int) : Int × Bool :=
  let e := (s.get .CJC_ENTRY b).toNat
  let t := e / 16 % 4
  let k := e % 16
  let w := (s.get .RESULT_n (16 * t + k)).toNat
  let v : Nat := w / 2 ^ 48
  let temp : Int := if v < 32768 then (v : Int) else (v : Int) - 65536
  let stamp := Sparse.get (fun _ => none) ((s.trier t).stamps.map (fun x => (x.1, some x.2))) k
  let fresh := match stamp with
    | some c => decide (n * 625 - c ≤ s.get .STALE_TICKS t * 625)
    | none => false
  (temp, s.get .TRIER_STATE t != 0 && !w.testBit 39 && !w.testBit 37 && fresh)

/-- The cold junction of a bank is noted for records latched from a tick on. -/
def State.noteCjc (s : State) (b : Nat) (n : Int) : State :=
  let now := s.cjcResult b n
  let B := s.bank b
  match B.cjc with
  | (_, old) :: _ => if old = now then s else s.setBank b { B with cjc := (n, now) :: B.cjc.take 4095 }
  | [] => s.setBank b { B with cjc := [(n, now)] }

/-- Every bank whose CJC_ENTRY names a converter notes its cold junction. -/
def State.noteTrierCjc (s : State) (t : Nat) (n : Int) : State :=
  (List.range 32).foldl (fun s b => if (s.get .CJC_ENTRY b).toNat / 16 % 4 = t then s.noteCjc b n else s) s

/-- CJC_STALE (R157): the result is older than STALE_TICKS at the present tick. -/
def execCjcStale (b : Fin 32) (s : State) : Host.Outcome State Fault Refusal := settled (s.noteCjc b s.tickKey)

/-! ### Groups and the choice of work (R145, R152, R153) -/

/-- The converters that pass together with t (R145). -/
def State.trierGroup (s : State) (t : Nat) : List Nat :=
  let m := (List.range 4).filter (fun k => bit (s.get .SIMUL_MASK 0) k)
  if m.contains t && decide (2 ≤ m.length) then m else [t]

def State.updTrier (s : State) (t : Nat) (f : Trier → Trier) : State := s.setTrier t (f (s.trier t))

/-- A converter begins a piece of work at a clock; `smp` is its sampling time. -/
def State.beginWork (s : State) (t : Nat) (w : TrierWork) (clock : Int) (word smp : Nat) (restarted : Bool) : State :=
  let e := match w with | .sequence e => e | _ => 0
  s.updTrier t (fun x => { x with
    work := w, begun := clock, sampled := clock + smp, ends := clock + smp + 18, restarted, word
    window := (s.get .WINDOW_n (16 * t + e)).toNat, linGain := s.get .LIN_GAIN t, linOffset := s.get .LIN_OFFSET t
    queue := (s.get .TRIER_QUEUE t).toNat, abortLimit := (s.get .ABORT_LIMIT t).toNat })

/-- The entry word of a sequence. -/
def State.seqWord (s : State) (t e : Nat) : Nat := (s.get .SEQ_ENTRY_n (16 * t + e)).toNat

/-- A conversion is skipped: an AIN input of a bank on which BANK_DELAY_CAL runs (R136). -/
def State.wordSkipped (s : State) (w : Nat) : Bool :=
  let c := entryInput w
  decide (c < 512) && (s.bank (c / 16)).delayCal.isSome
def State.entrySkipped (s : State) (t e : Nat) : Bool := s.wordSkipped (s.seqWord t e)

/-- The first entry of a pass from e on that the group does not skip. -/
def State.firstEntry (s : State) (g : List Nat) (len e : Nat) : Option Nat :=
  ((List.range len).filter (fun k => decide (e ≤ k))).find? (fun k => g.any (fun t => !s.entrySkipped t k))

/-- A pass ends (R152). -/
def State.passEnd (s : State) (t : Nat) : State :=
  let s := (s.bump .PASS_COUNT t).put .PASS_GRID t (s.trier t).passGrid
  let s := s.updTrier t (fun x => { x with pass := none, aborts := 0, restarted := false })
  s.trierEvent t (0x40 + t)

/-- The members of a group whose pass goes on take up entry e of it at a clock, or end the pass where none is left (R145). A member
that skips the entry is done with it. -/
def State.beginEntry (s : State) (g : List Nat) (e : Nat) (clock : Int) : State :=
  let g := g.filter (fun t => (s.trier t).pass.isSome)
  let lead := g.headD 0
  match s.firstEntry g (s.get .SEQ_LENGTH lead).toNat e with
  | none => g.foldl (fun s t => (s.passEnd t).put .TRIER_STATE t 1) s
  | some k =>
    let smp := g.foldl (fun m t => max m (smpClocks (s.seqWord t k))) 0
    g.foldl (fun s t =>
      let again := (s.trier t).restarted && (s.trier t).pass == some k
      let s := s.updTrier t (fun x => { x with pass := some k, aborts := if x.pass = some k then x.aborts else 0 })
      if s.entrySkipped t k then (s.updTrier t (fun x => { x with pass := some (k + 1) })).put .TRIER_STATE t 2
      else (s.beginWork t (.sequence k) clock (s.seqWord t k) smp again).put .TRIER_STATE t 2) s

/-- A new pass of a group begins at a clock. -/
def State.beginPass (s : State) (g : List Nat) (clock : Int) : State :=
  let s := g.foldl (fun s t => s.updTrier t (fun x => { x with pass := some 0, aborts := 0, restarted := false, startDue := false,
                                                               passGrid := clock / 625 })) s
  s.beginEntry g 0 clock

/-- No member works, none has a calibration to finish, and no pass is in progress. -/
def State.groupIdle (s : State) (g : List Nat) : Bool :=
  g.all (fun t => (s.trier t).work == .none && (s.trier t).pass.isNone && (s.trier t).calNext.isNone && (s.trier t).slot.isNone)

/-- A refused injected request (R148). -/
def State.refuseInjected (s : State) (t : Nat) : State := (s.bump .INJ_REFUSED t).trierCause t 2 (some 0x4D)

/-- A converter goes OFF (R152): the pass is cut, a pending request refused, a calibration abandoned. -/
def State.trierOff (s : State) (t : Nat) : State :=
  let s := if (s.trier t).slot.isSome then s.refuseInjected t else s
  let cal := (s.trier t).calPending || (s.trier t).calNext.isSome
  let s := s.setTrier t { stamps := (s.trier t).stamps }
  let s := if cal then s.put .CAL_STATE t 0 else s
  (s.put .TRIER_STATE t 0).noteTrierCjc t s.tickKey

/-- A cut that is due takes the pass and what waits for it (R156). -/
def State.takeCut (s : State) (t : Nat) : State :=
  if (s.trier t).cutDue then
    s.updTrier t (fun x => { x with cutDue := false, pass := none, aborts := 0, restarted := false, startDue := false })
  else s

/-- An injected word of an input that is skipped is dropped (R136). -/
def State.dropSkipped (s : State) (t : Nat) : State :=
  match (s.trier t).slot with
  | some w => if s.wordSkipped w then s.updTrier t (fun x => { x with slot := none }) else s
  | none => s

/-- An injected conversion begins (R146). -/
def State.beginInjected (s : State) (t : Nat) (w : Nat) (clock : Int) : State :=
  ((s.updTrier t (fun x => { x with slot := none })).beginWork t (.injected w) clock w (smpClocks w) false).put .TRIER_STATE t 3

/-- A conversion of a self-calibration begins (R149, R150). -/
def State.beginCal (s : State) (t : Nat) (k : Nat) (clock : Int) : State :=
  let s := s.updTrier t (fun x => { x with calPending := false, calNext := some k, work := .calibrate k, begun := clock, ends := clock + 1600 })
  (s.put .TRIER_STATE t 4).put .CAL_STATE t 2

/-- The pass of a group goes on with its least entry once every member is free for it (R143, R153). -/
def State.goOn (s : State) (t e : Nat) (clock : Int) : State :=
  let g := s.trierGroup t
  let ready := g.all (fun k => (s.trier k).work == .none && (s.trier k).slot.isNone && (s.trier k).calNext.isNone)
  let least := g.foldl (fun m k => min m ((s.trier k).pass.getD m)) e
  if ready then s.beginEntry g least clock else s.put .TRIER_STATE t 2

/-- Without a pass: one begins where the mode calls for it (R143, R153). -/
def State.idleWork (s : State) (t : Nat) (clock : Int) : State :=
  let g := s.trierGroup t
  let mode := s.get .TRIER_MODE t
  let go := s.groupIdle g && decide (0 < s.get .SEQ_LENGTH (g.headD 0)) && g.all (fun k => !(s.trier k).calPending)
  if go && (mode == 2 || (mode == 1 && g.any (fun k => (s.trier k).startDue))) then s.beginPass g clock
  else s.put .TRIER_STATE t 1

/-- A converter that is free starts the highest item of R153 that is ready, at a clock. -/
def State.nextWork (s : State) (t : Nat) (clock : Int) : State :=
  if (s.trier t).work ≠ .none ∨ s.get .TRIER_STATE t = 0 then s
  else if (s.trier t).offDue then s.trierOff t
  else
    let s := (s.takeCut t).dropSkipped t
    let x := s.trier t
    let g := s.trierGroup t
    if (match x.readyAt with | some r => decide (clock < r) | none => false) then s
    else match x.slot, x.calNext with
      | some w, _ => s.beginInjected t w clock
      | none, some k => s.beginCal t k clock
      | none, none =>
        if x.calPending && (decide (g.length = 1) || g.all (fun k => (s.trier k).pass.isNone)) then s.beginCal t 0 clock
        else match x.pass with
          | some e => s.goOn t e clock
          | none => s.idleWork t clock

/-- Every member of a converter's group starts what is ready. -/
def State.nextOfGroup (s : State) (t : Nat) (clock : Int) : State :=
  (s.trierGroup t).foldl (fun s k => s.nextWork k clock) (s.nextWork t clock)

/-! ### Results (R136 to R142) -/

/-- The calibrated value in the unit of the input: the raw code, in LSB, corrected by offset and gain (R150, R161), and whether it
lies beyond full scale (R141). The place of the rounding is open (log entry 4). -/
def State.trierRaw (s : State) (t : Nat) (raw : Int) : Int × Bool :=
  let v := roundAt .other ((raw * 256 - s.get .TRIER_CAL_OFFSET t) * s.get .TRIER_CAL_GAIN t) 274877906944
  (clampInt (-32768) 32767 v, decide (v < -32768) || decide (32767 < v))

/-- The value of a conversion, linearised where TEMP says so (R140). -/
def State.trierValue (s : State) (t : Nat) (x : Trier) (raw : Int) : Int :=
  let v := (s.trierRaw t raw).1
  let c := entryInput x.word
  if entryTemp x.word && !tempInput c && !monitorInput c then
    clampInt (-32768) 32767 (roundAt .other (v * x.linGain) 65536 + x.linOffset)
  else v

/-- VT_STATE was not LOCKED or MASTER at a trier clock (R141). -/
def State.holdClock (s : State) (k : Int) : Bool := logAt (holdState (s.get .VT_STATE 0)) k s.time.holdClocks

/-- A signed 16-bit field as a number. -/
def i16Of (v : Nat) : Int := if v % 65536 < 32768 then (v % 65536 : Nat) else ((v % 65536 : Nat) : Int) - 65536

/-- The result word of a conversion that has ended (R141). -/
def State.resultWord (s : State) (t : Nat) (x : Trier) (raw : Int) (entry : Nat) (inj : Bool) : BitVec 64 :=
  let fenced := s.fenced 4 t
  let ovr := !fenced && (s.trierRaw t raw).2
  let val := if fenced then 0 else s.trierValue t x raw
  let win := !fenced && !inj && entryWindowed x.word &&
    (decide (val < i16Of x.window) || decide (i16Of (x.window / 65536) < val))
  let hold := s.holdClock x.sampled
  let f (b : Bool) : BitVec 1 := if b then 1 else 0
  BitVec.ofInt 16 val ++ BitVec.ofNat 2 t ++ BitVec.ofNat 4 entry ++ f inj ++ f x.restarted ++ f ovr ++ f win ++ f fenced ++ f hold ++
    BitVec.ofInt 10 (x.sampled % 625) ++ BitVec.ofInt 26 (x.sampled / 625)

/-- A result word goes to its queue (R142, R290). -/
def State.pushWord (s : State) (t : Nat) (x : Trier) (w : BitVec 64) : State :=
  if x.queue < 16 then { s with trierOut := s.trierOut ++ [⟨t, x.queue, x.ends / 625, x.sampled / 625, w⟩] } else s

/-- The work of a converter has come to its end: its clock has come, or VT was set back behind its beginning. -/
def State.workOver (s : State) (x : Trier) : Bool := decide (x.ends ≤ s.trierClock) || decide (s.trierClock + 1 < x.begun)

/-- A conversion of the excitation calibration's own request gives its value, 0.1 µA; the 16th ends its point (R158). -/
def State.excSample (s : State) (t : Nat) (v : Int) : State :=
  let e := s.excCal
  if e.bank.isSome ∧ e.waiting = true ∧ (s.get .EXC_CAL_TRIER 0).toNat = t then
    if e.count = 15 then
      { s with excCal := { e with sums := e.sums ++ [e.sum + v], count := 0, sum := 0, waiting := false
                                  readyAt := s.time.cycle + usCycles 500 } }
    else { s with excCal := { e with count := e.count + 1, sum := e.sum + v, waiting := false } }
  else s

/-- TRIER_CONVERSION_DONE (R141, R142, R152, R157): a conversion ends with the raw code of its input (log entry 7). -/
def execTrierConversionDone (t : Fin 4) (raw : Int) (s : State) : Host.Outcome State Fault Refusal :=
  let x := s.trier t
  if !s.workOver x then .next s
  else match x.work with
    | .sequence e =>
      let w := s.resultWord t x raw e false
      let before := (s.get .RESULT_n (16 * t + e)).toNat
      let s := (s.put .RESULT_n (16 * t + e) w.toNat).pushWord t x w
      let s := s.updTrier t (fun x => { x with
        work := .none, restarted := false, stamps := Sparse.insert (fun k => k) e x.sampled x.stamps, aborts := 0 })
      let s := if w.toNat.testBit 38 && !before.testBit 38 then s.trierCause t 1 (some (0x44 + t)) else s
      let s := s.noteTrierCjc t (x.ends / 625)
      let last := decide (s.get .SEQ_LENGTH t ≤ (e + 1 : Nat))
      let s := if x.cutDue || x.offDue then s else if last then s.passEnd t else s.updTrier t (fun x => { x with pass := some (e + 1) })
      .next (s.nextOfGroup t x.ends)
    | .injected _ =>
      let w := s.resultWord t x raw 0 true
      let s := ((s.put .INJ_RESULT t w.toNat).pushWord t x w).excSample t (s.trierValue t x raw)
      let s := (s.updTrier t (fun x => { x with work := .none, restarted := x.pass.isSome && decide (0 < x.aborts) })).trierEvent t (0x48 + t)
      .next (s.nextOfGroup t x.ends)
    | _ => .next s

/-! ### Starts and requests (R143 to R149) -/

/-- What the converter or a member of its group took up in this clock puts a start of the same clock behind it (R154). -/
def State.takenNow (s : State) (t : Nat) : Bool :=
  (s.trierGroup t).any (fun k => (s.trier k).injAt == some s.trierClock || (s.trier k).calAt == some s.trierClock)

/-- A start of the same clock gives way to a request or a calibration (R154): the pass is skipped as R143 and R144 say. -/
def State.unstart (s : State) (t : Nat) : State :=
  let g := s.trierGroup t
  if g.any (fun k => (s.trier k).startAt == some s.trierClock) then
    g.foldl (fun (s : State) k =>
      let x := s.trier k
      let began := match x.work with | .sequence _ => true | _ => false
      let fresh : Trier := { x with work := if began then .none else x.work, pass := none, startDue := false, restarted := false
                                    startAt := none }
      let s := (if began then s.put .TRIER_STATE k 1 else s).setTrier k fresh |>.bump .PASS_SKIPS k
      if s.get .TRIER_MODE k = 3 then s.trierCause k 0 (some 0x4C) else s) s
  else s

/-- TRIER_START (R143): ignored and counted during a pass; without effect unless the mode is SINGLE. -/
def execTrierStart (w : Who) (t : Fin 4) (s : State) : Host.Outcome State Fault Refusal :=
  .next (asCommand w .operator .START t (.num 1) (fun s =>
    if s.get .TRIER_MODE t ≠ 1 then (.ok, s)
    else if (s.trier t).pass.isSome || (s.trier t).startDue || s.takenNow t then (.ok, s.bump .PASS_SKIPS t)
    else
      let s := s.updTrier t (fun x => { x with startDue := true, startAt := some s.trierClock })
      (.ok, s.nextWork t (s.trierClock + 1))) s)

/-- LATCH of class 0x4 in tick m arms a converter in GRID mode (R144). -/
def State.armTrier (s : State) (t : Nat) (m : Int) : State :=
  if s.get .TRIER_MODE t = 3 ∧ s.get .TRIER_STATE t ≠ 0 then s.updTrier t (fun x => { x with armed := x.armed ++ [m + 1] }) else s

/-- TRIER_PASS_ARMED_START (R144): at the armed instant the pass begins, or is skipped when the group is busy. -/
def execTrierPassArmedStart (t : Fin 4) (s : State) : Host.Outcome State Fault Refusal :=
  match (s.trier t).armed with
  | m :: _ =>
    let at_ := m * 625 + s.get .TRIG_DELAY t
    if at_ ≤ s.trierClock then
      let g := s.trierGroup t
      let s := g.foldl (fun s k => s.updTrier k (fun x => { x with armed := x.armed.filter (fun a => decide (m < a)), startAt := some at_ })) s
      let held := g.any (fun k => match (s.trier k).readyAt with | some r => decide (at_ < r) | none => false)
      if s.groupIdle g && !held && !s.takenNow t && decide (0 < s.get .SEQ_LENGTH (g.headD 0)) then .next (s.beginPass g at_)
      else .next (g.foldl (fun s k => (s.bump .PASS_SKIPS k).trierCause k 0 (some 0x4C)) s)
    else .next s
  | [] => .next s

/-- The sequence conversion in progress is aborted in every member of the group (R145, R146). -/
def State.abortEntry (s : State) (t : Nat) : State :=
  let g := s.trierGroup t
  let n := (s.trier (g.headD t)).aborts + 1
  g.foldl (fun s k =>
    match (s.trier k).work with
    | .sequence _ => (s.updTrier k (fun x => { x with work := .none, restarted := true, aborts := n })).bump .ABORTS k
    | _ => s.updTrier k (fun x => { x with aborts := n })) s

/-- A calibration that began in this clock waits behind a request of the same clock (R154). -/
def State.uncalibrate (s : State) (t : Nat) : State :=
  let x := s.trier t
  if x.calAt = some s.trierClock ∧ x.work = .calibrate 0 then
    (s.setTrier t { x with work := .none, calNext := none, calPending := true }).put .CAL_STATE t 1
  else s

/-- A request that the slot takes acts as the converter's state in the clock has it (R146, R147, R154). -/
def State.acceptInjected (s : State) (t word : Nat) : State :=
  let now := s.trierClock
  let s := ((s.abortItems [1, 2]).unstart t).uncalibrate t
  let s := s.updTrier t (fun x => { x with slot := some word, injAt := some now })
  let x := s.trier t
  match x.work with
  | .sequence _ =>
    let n := (s.trier ((s.trierGroup t).headD t)).aborts
    if x.ends ≤ now + 1 then s
    else if x.abortLimit ≠ 0 ∧ x.abortLimit ≤ n then s.trierCause t 7 none
    else (s.abortEntry t).nextWork t (now + 1)
  | _ => s.nextWork t (now + 1)

/-- INJ_REQUEST (R146 to R148, R154). -/
def execInjRequest (w : Who) (t : Fin 4) (word : Nat) (s : State) : Host.Outcome State Fault Refusal :=
  .next (asCommand w .engineer .INJ_REQUEST t (.num word) (fun s =>
    if s.get .TRIER_STATE t = 0 ∨ (s.trier t).slot.isSome ∨ !entryGood word then (.refused, s.refuseInjected t)
    else (.ok, s.acceptInjected t word)) s)

/-- TRIER_CAL_START (R149). -/
def execTrierCalStart (w : Who) (t : Fin 4) (s : State) : Host.Outcome State Fault Refusal :=
  .next (asCommand w .engineer .CAL_START t (.num 1) (fun s =>
    let x := s.trier t
    let g := s.trierGroup t
    if s.get .TRIER_STATE t = 0 ∨ s.fenced 4 t = true ∨ (2 ≤ g.length ∧ s.get .TRIER_MODE t = 2) then
      (.refused, s.trierCause t 6 none)
    else if x.calPending || x.calNext.isSome then (.ok, s)
    else
      let s := (s.abortItems [1, 2]).unstart t
      let s := (s.updTrier t (fun x => { x with calPending := true, calAt := some s.trierClock })).put .CAL_STATE t 1
      (.ok, s.nextWork t (s.trierClock + 1))) s)

/-- TRIER_CAL_STEP_DONE (R150 to R152): a calibration step ends; after step 63 the offset and gain found are applied, or kept
out by R151. -/
def execTrierCalStepDone (t : Fin 4) (offset : Int) (gain : Nat) (s : State) : Host.Outcome State Fault Refusal :=
  let x := s.trier t
  match x.work with
  | .calibrate k =>
    if !s.workOver x then .next s
    else if k < 63 then
      .next ((s.updTrier t (fun x => { x with work := .none, calNext := some (k + 1) })).nextOfGroup t x.ends)
    else
      let s := s.updTrier t (fun x => { x with work := .none, calNext := none })
      let bad := decide (16384 < offset.natAbs) || decide (1073741824 < ((gain : Int) - 1073741824).natAbs * 100)
      let s := if bad then (s.put .CAL_STATE t 4).trierCause t 5 (some 0x4F)
        else (((s.put .TRIER_CAL_OFFSET t offset).put .TRIER_CAL_GAIN t gain).put .CAL_STATE t 3).trierCause t 4 (some 0x4E)
      .next (s.nextOfGroup t x.ends)
  | _ => .next s

/-- TRIER_POWERED (R152): the 20 µs after a commit powered the converter are over. -/
def execTrierPowered (t : Fin 4) (s : State) : Host.Outcome State Fault Refusal :=
  match (s.trier t).readyAt with
  | some r =>
    if r ≤ s.trierClock then .next ((s.updTrier t (fun x => { x with readyAt := none })).nextOfGroup t r) else .next s
  | none => .next s

/-- TRIER_CAUSE_CLEAR (R161). -/
def execTrierCauseClear (w : Who) (t : Fin 4) (mask : Nat) (s : State) : Host.Outcome State Fault Refusal :=
  .next (clearCommand w .TRIER_CAUSE_CLEAR .TRIER_CAUSE t mask s)

/-! ### Packets of words (R290) -/

/-- One packet of the oldest words of a converter that were completed in one tick, at most 64; the words left. -/
def State.pushTrierPacket (s : State) (x : TrierWord) : State :=
  let mine (y : TrierWord) : Bool := y.trier == x.trier && y.queue == x.queue && y.tick == x.tick
  let ws := (s.trierOut.filter mine).take 64
  match s.offer x.queue 8 0 x.grid (ws.flatMap (fun y => leBytes 8 y.word.toNat)) with
  | (false, s) => s
  | (true, s) => { s with trierOut := s.trierOut.filter (fun y => !mine y) ++ (s.trierOut.filter mine).drop 64 }

/-- EMIT of the triers (R277, R290): for each converter and tick, the words that wait. -/
def State.pushTriers (s : State) : State :=
  let heads := (s.trierOut.map (fun y => (y.trier, y.queue, y.tick))).eraseDups
  heads.foldl (fun s h =>
    match s.trierOut.find? (fun y => y.trier == h.1 && y.queue == h.2.1 && y.tick == h.2.2) with
    | some x => if s.emitNamed x.queue then s.pushTrierPacket x else s
    | none => s) s

/-! ### Commits (R156) -/

/-- Clocks of a pass: the conversion times of its entries. -/
def State.passClocks (s : State) (t : Nat) : Nat :=
  (List.range (s.get .SEQ_LENGTH t).toNat).foldl (fun n e => n + smpClocks (s.seqWord t e) + 18) 0

/-- SEQ_BAD_ENTRY of a converter's objects as they stand (R156): 0xFF where none is refused. -/
def State.seqBad (s : State) (t : Nat) : Nat :=
  let len := (s.get .SEQ_LENGTH t).toNat
  if 16 < len then 0x10
  else match (List.range len).find? (fun e => !entryGood (s.seqWord t e)) with
    | some e => e
    | none =>
      if s.get .TRIER_MODE t = 3 ∧ 2 ^ (s.get .TRIER_CAD t).toNat * 625 < (s.get .TRIG_DELAY t).toNat + s.passClocks t then 0x20
      else
        let g := s.trierGroup t
        let same (o : Obj) : Bool := g.all (fun k => s.get o k == s.get o t)
        if same .TRIER_MODE && same .SEQ_LENGTH && same .TRIER_CAD then 0xFF else 0x30

/-- A commit has changed a converter's objects (R152, R156): it takes effect at the end of the present work, and the pass in
progress is cut. -/
def State.trierCommitted (s : State) (t : Nat) : State :=
  let now := s.trierClock
  let mode := s.get .TRIER_MODE t
  if s.get .TRIER_STATE t = 0 then
    if mode = 0 then s
    else
    let s := (s.put .TRIER_STATE t 1).updTrier t (fun x => { x with readyAt := some (now + 800) })
    s.noteTrierCjc t s.tickKey
  else
    let s := s.updTrier t (fun x => { x with cutDue := true, offDue := mode == 0, armed := [] })
    s.nextWork t (now + 1)

/-! ### Excitation calibration (R158) -/

/-- EXC_CAL (R158): accepted while FRAME_STATE is STOPPED and converter EXC_CAL_TRIER is not OFF; one at a time. -/
def execExcCal (w : Who) (b : Nat) (s : State) : Host.Outcome State Fault Refusal :=
  .next (asCommand w .service .EXC_CAL 0 (.num b) (fun s =>
    let t := (s.get .EXC_CAL_TRIER 0).toNat
    if 32 ≤ b then (.outOfRange, s)
    else if s.get .FRAME_STATE 0 != 0 || s.get .TRIER_STATE t == 0 || s.excCal.bank.isSome then
      (.refused, if s.excCal.bank.isSome then s else s.put .EXC_CAL_STATUS 0 (b * 16777216 + 3 * 65536 : Nat))
    else
      let s := s.abortItems [1, 2]
      let s := { s with excCal := { s.excCal with bank := some b, sums := [], readyAt := s.time.cycle + usCycles 500, count := 0, sum := 0, waiting := false } }
      (.ok, s.put .EXC_CAL_STATUS 0 (b * 16777216 + 1 * 65536 : Nat))) s)

/-- The calibration goes on in a cycle: once the point has settled, its next injected conversion of the input's excitation monitor at
SMP code 4 is requested, as soon as the slot is free (R158). -/
def State.excCalCycle (s : State) : State :=
  let e := s.excCal
  match e.bank with
  | none => s
  | some b =>
    let t := (s.get .EXC_CAL_TRIER 0).toNat % 4
    if e.sums.length < 48 ∧ e.waiting = false ∧ e.readyAt ≤ s.time.cycle ∧ s.get .TRIER_STATE t ≠ 0 ∧ (s.trier t).slot = none then
      { s with excCal := { e with waiting := true } }.acceptInjected t ((0x200 + 16 * b + e.sums.length / 3) * 2 ^ 21 + 4 * 2 ^ 18)
    else s

/-- One cycle of the time-unit clock (2 ns), and what an excitation calibration under way does in it. -/
def State.clockCycle (s : State) : State := s.clockTime.excCalCycle

/-- The corrections of an output from the sums of 16 values at +1.5 mA, 0 and −1.5 mA (R158): offset in 0.1 nA, and the gains of
both polarities in ppm, each what takes the mean to its nominal value (DESIGN CHOICE, log entry 211). -/
def excCorrections (up zero down : Int) : Int × Int × Int :=
  let gain (m : Int) : Int := roundAt .other ((15000 * 16 - m) * 1000000) (15000 * 16)
  (0 - roundAt .other (zero * 1000) 16, gain (up - zero), gain (zero - down))

/-- What the 48 points found of the 16 outputs. -/
def excFound : List Int → List (Int × Int × Int)
  | up :: zero :: down :: rest => excCorrections up zero down :: excFound rest
  | _ => []

/-- The calibration of a bank ends with corrections for outputs: each output takes its own, or keeps its old data where they are
too large (R158). -/
def State.excCalEnd (s : State) (b : Nat) (got : List (Nat × Int × Int × Int)) (lost : Bool) : State :=
  let t := (s.get .EXC_CAL_TRIER 0).toNat % 4
  let bad (m : Int × Int × Int) : Bool :=
    decide (10000 < m.1.natAbs) || decide (2000 < m.2.1.natAbs) || decide (2000 < m.2.2.natAbs)
  let keep := got.filter (fun x => !bad x.2)
  let stored := keep.foldl (fun l x => Sparse.insert (fun k => k) (16 * b + x.1) x.2 l) s.excCal.stored
  let most := got.foldl (fun n x => max n (max x.2.2.1.natAbs x.2.2.2.natAbs)) 0
  let fault := lost || got.any (fun x => bad x.2)
  let s := { s with excCal := { s.excCal with bank := none, sums := [], stored } }
  let s := s.put .EXC_CAL_STATUS 0 (b * 16777216 + (if fault then 4 else 2) * 65536 + min most 65535 : Nat)
  s.trierEvent t (if fault then 0x4F else 0x4E)

/-- EXC_CAL_DONE (R158): the 48 points of the bank are measured. DEDUCED, log entry 216: where the converter has been turned off
before, the calibration ends with a fault, and every output keeps its old data. -/
def execExcCalDone (b : Fin 32) (cut : Bool) (s : State) : Host.Outcome State Fault Refusal :=
  if s.excCal.bank ≠ some b.val then .next s
  else if 48 ≤ s.excCal.sums.length then .next (s.excCalEnd b ((List.range 16).zip (excFound s.excCal.sums)) false)
  else if cut && s.get .TRIER_STATE ((s.get .EXC_CAL_TRIER 0).toNat % 4) == 0 then .next (s.excCalEnd b [] true)
  else .next s

end Sys2Proof.Machine
end

