-- ==== Sys2Proof/Machine/Debug.lean ====
section
/-! DEFINITION. The debug level and the power state as every chapter sees them (17_security_debug_power R545 to R548, R550,
R555). -/

namespace Sys2Proof.Machine

open Sys2Proof

/-- The highest debug level that the security state and the power state allow (R555). -/
def State.debugAllowed (s : State) : Nat :=
  if s.power.off || s.get .PWR_STATE 0 == 3 then 0
  else
    let st := s.get .SEC_STATE 0
    if st = 0 then 2 else if st = 2 then 1 else if st = 3 then s.sec.granted else 0

/-- DEBUG_EFFECTIVE as R546 forms it. -/
def State.debugLevel (s : State) : Nat := min s.sec.asked s.debugAllowed

/-- EXTEST, CLAMP and HIGHZ may be in effect (R555): at level 1 or 2, in RUN and DIM only while FRAME_STATE is STOPPED and
the unit is not ACTING. -/
def State.scanAllowed (s : State) (level : Nat) : Bool :=
  decide (1 ≤ level) && (s.get .PWR_STATE 0 == 2 || (s.get .FRAME_STATE 0 == 0 && s.get .TWIN_STATE 0 != 5))

/-- What drives the balls from the boundary-scan chain. -/
def Tap.drives (t : Tap) : Bool := t == .extest || t == .clamp || t == .highz

/-- The TAP goes to Test-Logic-Reset: IDCODE is selected, and a refusal is reported anew (R546, R547). -/
def State.tapReset (s : State) : State := { s with sec := { s.sec with tap := .idcode, tapRefused := false } }

/-- DEBUG_EFFECTIVE is recomputed (R546, R547): below level 2 every halted core resumes and the debug port's access ends, and
below level 1 SAMPLE acts as BYPASS; EXTEST, CLAMP and HIGHZ end as the level falls, and when they are no longer allowed. -/
def State.debugCheck (s : State) : State :=
  let l := s.debugLevel
  let fell := decide ((l : Int) < s.get .DEBUG_EFFECTIVE 0)
  let s := if s.get .DEBUG_EFFECTIVE 0 = l then s else (s.put .DEBUG_EFFECTIVE 0 l).cause .SEC_CAUSE 0 10
  let s := if l < 2 then
      let s := s.put .DEBUG_HALTED 0 0
      if s.sec.tap = .debugPort then { s with sec := { s.sec with tap := .bypass } } else s
    else s
  let s := if l = 0 ∧ s.sec.tap = .sample then { s with sec := { s.sec with tap := .bypass } } else s
  if s.sec.tap.drives && (fell || !s.scanAllowed l) then s.tapReset else s

/-- PWR_STATE changes (R550): PWR_CHANGED takes VT and EV 0xE0 is raised. -/
def State.setPower (s : State) (v : Int) : State :=
  if s.get .PWR_STATE 0 = v then s
  else (((s.put .PWR_STATE 0 v).put .PWR_CHANGED 0 s.vtNow).cause .PW_CAUSE 0 0).debugCheck

end Sys2Proof.Machine
end

