-- ==== Sys2Proof/Machine/Digest.lean ====
section
/-! DEFINITION. The values of entries as committed and as staged, and the configuration digests over them
(14_object_dictionary, 13_twin_operation R417). -/

namespace Sys2Proof.Machine

open Sys2Proof

/-- An object whose value is bytes. -/
def ObjInfo.isBytes (r : ObjInfo) : Bool := r.type == .str || r.type == .blob

/-- The committed value of an entry. -/
def State.valueOf (s : State) (r : ObjInfo) (i : Nat) : Val :=
  if r.isBytes then .bytes (s.getBytes r.obj i) else .num (s.get r.obj i)

/-- The default of an entry (R442). -/
def ObjInfo.default (r : ObjInfo) (i : Nat) : Val :=
  if r.isBytes then .bytes (blobDefault ⟨r.obj, i⟩) else .num (r.obj.dflt i)

/-- Writes a value of an entry. -/
def State.setValue (s : State) (r : ObjInfo) (i : Nat) (v : Val) : State :=
  match v with
  | .num n => s.put r.obj i n
  | .bytes b => s.putBytes r.obj i b
  | .unit => s

/-- The value staged one by one for an entry (R444). -/
def State.stagedValue (s : State) (k : Key) : Option Val :=
  (s.engine.staged.find? (fun x => x.1 == k)).map (fun x => x.2)

/-- The mark of RESTORE_DEFAULTS covers an entry (R451). -/
def ObjInfo.marked (r : ObjInfo) : Bool := r.staged && r.kind == .value

/-- The value an entry has once everything staged is applied: staged one by one, by the mark of R451, or committed. -/
def State.stagedOf (s : State) (r : ObjInfo) (i : Nat) : Val :=
  match s.stagedValue ⟨r.obj, i⟩ with
  | some v => v
  | none => if s.get .STAGED_DEFAULTS 0 == 1 && r.marked then r.default i else s.valueOf r i

/-- A value in a digest stream (R449): as in R439, a STR or BLOB preceded by its length. -/
def digestBytes (r : ObjInfo) (v : Val) : List Byte :=
  let b := valBytes r.type v
  if r.isBytes then leBytes 2 b.length ++ b else b

/-- The instances of a row with the place of each in the dictionary, index × 256 + subindex. -/
def ObjInfo.places (r : ObjInfo) : List (Nat × ObjInfo × Nat) :=
  (List.range (r.count * r.subs)).map (fun i => ((r.index + i / r.subs) * 256 + r.sub + i % r.subs, r, i))

/-- The RW and RWS entries in index and subindex order (R449). -/
def cfgEntries : List (Nat × ObjInfo × Nat) :=
  ((objTable.filter (fun r => r.access == .rw || r.access == .rws)).flatMap ObjInfo.places).mergeSort
    (fun a b => decide (a.1 ≤ b.1))

/-- A per-unit object (R417). -/
def ObjInfo.perUnit (r : ObjInfo) : Bool :=
  (0x1100 ≤ r.index && r.index ≤ 0x11FF) ||
  [Obj.TWIN_SIDE, .CAL_OFFSET, .CAL_GAIN, .GROUP_DELAY, .SPARE_DELAY, .LANE_TRIM, .ASYM_CORR].contains r.obj

/-- A shared object of a twin (R417): RW or RWS and not per unit. -/
def ObjInfo.shared (r : ObjInfo) : Bool := (r.access == .rw || r.access == .rws) && !r.perUnit

/-- The CRC-32C over the values of entries, as `f` gives them (R449). -/
def digestOf (entries : List (Nat × ObjInfo × Nat)) (f : ObjInfo → Nat → Val) : Nat :=
  crc32c (entries.flatMap (fun e => digestBytes e.2.1 (f e.2.1 e.2.2)))

/-- CFG_DIGEST (R449). -/
def State.cfgDigest (s : State) : Nat := digestOf cfgEntries s.valueOf

/-- STAGED_DIGEST (R449). -/
def State.stagedDigest (s : State) : Nat := digestOf cfgEntries s.stagedOf

/-- TWIN_DIGEST (R417). -/
def State.twinDigest (s : State) : Nat := digestOf (cfgEntries.filter (fun e => e.2.1.shared)) s.valueOf

/-- STAGED_COUNT (R451) and STAGE_BYTES (R444). -/
def State.stagedCount (s : State) : Nat := s.engine.staged.length
def State.stageBytes (s : State) : Nat :=
  s.engine.staged.foldl (fun n x => n + (valBytes x.1.obj.info.type x.2).length) 0

end Sys2Proof.Machine
end

