-- ==== Sys2Proof/Machine/Events.lean ====
section
/-! DEFINITION. The commands of the event controller (16_events_fences_integrity). -/

namespace Sys2Proof.Machine

open Sys2Proof

/-- The ring side of the end of a hold-off (R510): one report carries the raises counted meanwhile, if there were any. -/
def State.endRingHoldoff (s : State) (n : Nat) : State :=
  let d := s.evDelivery n
  match d.until_ with
  | some t =>
    if t ≤ s.time.cycle then
      let s := s.setEvDelivery n { d with until_ := none }
      if 0 < d.count && !d.held then s.sendReport n else s
    else s
  | none => s

/-- The mailbox side of the end of a hold-off (R511). -/
def State.endMbxHoldoff (s : State) (n : Nat) : State :=
  let d := s.evDelivery n
  match d.mbxUntil with
  | some t =>
    if t ≤ s.time.cycle then
      let s := s.setEvDelivery n { d with mbxUntil := none }
      if 0 < d.mbxCount && !d.mbxWaiting then s.postEvent n else s
    else s
  | none => s

/-- EVENT_HOLDOFF_END (R510, R511). -/
def execEventHoldoffEnd (n : Fin 256) (s : State) : Host.Outcome State Fault Refusal :=
  .next ((s.endRingHoldoff n).endMbxHoldoff n)

/-- An acknowledgement clears EV_PENDING; a raise accepted in the same cycle wins (R509). -/
def State.ackEvent (s : State) (n : Nat) : State :=
  if (s.evDelivery n).raisedAt = some s.time.cycle then s else s.put .EV_PENDING n 0

/-- EV_ACK (R509). -/
def execEvAck (w : Who) (n : Fin 256) (s : State) : Host.Outcome State Fault Refusal :=
  .next (asCommand w .operator .EV_ACK n .unit (fun s => (.ok, s.ackEvent n)) s)

/-- Bit `n` of a map of bytes, bit `n mod 8` of byte `n / 8` (R530). -/
def mapBit (map : List Byte) (n : Nat) : Bool := (map.getD (n / 8) 0).toNat.testBit (n % 8)

/-- EV_ACK_MAP (R509, R530): 32 bytes; another length is BAD_LENGTH (R462). -/
def execEvAckMap (w : Who) (map : List Byte) (s : State) : Host.Outcome State Fault Refusal :=
  .next (asCommand w .operator .EV_ACK_MAP 0 (.bytes map)
    (fun s => if map.length = 32 then
        (.ok, (List.range 256).foldl (fun s n => if mapBit map n then s.ackEvent n else s) s)
      else (.badLength, s)) s)

/-- FI_CAUSE_CLEAR (R528). -/
def execFiCauseClear (w : Who) (mask : Nat) (s : State) : Host.Outcome State Fault Refusal :=
  .next (clearCommand w .FI_CAUSE_CLEAR .FI_CAUSE 0 mask s)

end Sys2Proof.Machine
end

