-- ==== Sys2Proof/Machine/Mailbox.lean ====
section
/-! DEFINITION. Mailbox channels, lock registers, and the commands of the journal (15_mailboxes_locks_journal); the end
of a session (R464). -/

namespace Sys2Proof.Machine

open Sys2Proof

/-! ### Mailbox channels (R472 to R483) -/

/-- A mailbox access (R571): it needs the store that item 4 tests. -/
def State.useBox (s : State) : State := s.abortItems [4]

/-- The session of a master may use a channel (R473). -/
def State.boundTo (s : State) (w : Who) (k : Nat) : Bool :=
  s.get .MBX_STATE k != 0 && w.session != 0 && (s.box k).session == w.session

/-- A channel returns to FREE with its slots emptied (R473). Event notices that waited there wait no longer (R511). -/
def State.closeBox (s : State) (k : Nat) : State :=
  let m := s.box k
  let s : State := (m.outbox ++ m.held).foldl (fun (s : State) (x : Notice) =>
    if x.code = 0xEE then s.setEvDelivery (x.param % 256) { s.evDelivery (x.param % 256) with mbxWaiting := false } else s) s
  let s := s.setBox k { inWin := m.inWin, outWin := m.outWin }
  (((s.put .MBX_STATE k 0).put .MBX_OWNER k 0).put .MBX_SERVICE k 0).put .MBX_ACK_TX k 0

/-- MBX_OPEN (R473). -/
def execMbxOpen (w : Who) (k : Fin 8) (service : Nat) (s : State) : Host.Outcome State Fault Refusal :=
  .next (asCommand w .operator .MBX_OPEN k (.num service) (fun s =>
    if w.session = 0 then (.session, s)
    else if s.get .MBX_STATE k ≠ 0 ∨ Config.mailService service = none then (.refused, s)
    else
      let m := s.box k
      let s := s.useBox.setBox k { inWin := m.inWin, outWin := m.outWin, session := w.session }
      (.ok, ((s.put .MBX_STATE k 1).put .MBX_OWNER k w.owner).put .MBX_SERVICE k service)) s)

/-- MBX_CLOSE (R473). -/
def execMbxClose (w : Who) (k : Fin 8) (s : State) : Host.Outcome State Fault Refusal :=
  .next (asCommand w .operator .MBX_CLOSE k .unit (fun s =>
    if s.boundTo w k then (.ok, s.useBox.closeBox k) else (.session, s)) s)

/-- OFFSET and LENGTH of a notice keep R474. -/
def Notice.formed (x : Notice) : Bool :=
  x.offset % 4 == 0 && decide (x.offset < 32768) && decide (x.length ≤ 32768 - x.offset)

/-- The 16 bytes of a notice (R474). -/
def Notice.bytes (x : Notice) : List Byte :=
  leBytes 2 x.nseq ++ leBytes 1 x.code ++ leBytes 1 x.nflags ++ leBytes 4 x.offset ++ leBytes 4 x.length ++ leBytes 4 x.param

/-- The empty test (R479). -/
def State.emptyTest (s : State) (k : Nat) : State :=
  let m := s.box k
  if m.emptyArmed && m.inbox.isEmpty then (s.setBox k { m with emptyArmed := false }).cause .MJ_CAUSE 0 1 else s

/-- MBX_POST (R475): a malformed notice is judged before the slots, and the slots before NSEQ. -/
def execMbxPost (w : Who) (k : Fin 8) (notice : Notice) (s : State) : Host.Outcome State Fault Refusal :=
  .next (asCommand w .operator .MBX_POST k (.bytes notice.bytes) (fun s =>
    let m := s.box k
    if !s.boundTo w k then (.session, s)
    else if !notice.formed then (.outOfRange, s)
    else if 4 ≤ m.inbox.length then (.refused, (s.bump .MBX_POST_FULL k).cause .MJ_CAUSE 0 13)
    else if notice.nseq ≠ (m.inSeq + 1) % 65536 then (.sequence, s)
    else
      let m := { m with inbox := m.inbox ++ [notice], inSeq := notice.nseq,
                        inWanted := if notice.nflags % 2 = 1 then m.inWanted ++ [notice.nseq] else m.inWanted }
      (.ok, (s.useBox.setBox k m).crossTest k)) s)

/-- Notices held back in firmware take the slots that are free (R475, R483). -/
def State.placeHeld : Nat → Nat → State → State
  | 0, _, s => s
  | n + 1, k, s =>
    let m := s.box k
    match m.held with
    | [] => s
    | x :: t =>
      if m.outbox.length < 4 then
        let q := (m.outSeq + 1) % 65536
        let s := s.setBox k { m with held := t, outbox := m.outbox ++ [{ x with nseq := q }], outSeq := q }
        State.placeHeld n k (s.cause .MJ_CAUSE 0 0)
      else s

/-- The oldest outbound notice is taken (R476, R478); an event whose notice is taken may post its next (R511). -/
def State.takeNotice (s : State) (k : Nat) : Val × State :=
  let m := s.box k
  match m.outbox with
  | [] => (.bytes [], s)
  | x :: t =>
    let m := { m with outbox := t, taken := x.nseq,
                      unacked := if x.nflags % 2 = 1 then m.unacked ++ [(x.nseq, s.time.kt, false)] else m.unacked }
    let s := s.setBox k m
    let s := if x.code = 0xEE then
        s.setEvDelivery (x.param % 256) { s.evDelivery (x.param % 256) with mbxWaiting := false } else s
    (.bytes x.bytes, (State.placeHeld 4 k s).crossTest k)

/-- MBX_TAKE (R476). -/
def execMbxTake (w : Who) (k : Fin 8) (s : State) : Host.Outcome State Fault Refusal :=
  .next (asRead w .MBX_TAKE (fun s =>
    if s.boundTo w k then let (v, s) := s.useBox.takeNotice k; (.ok, v, s) else (.session, .unit, s)) s)

/-- MBX_ACK_RX (R478): a value beyond the latest notice taken is refused; one that precedes the current changes nothing. -/
def execMbxAckRx (w : Who) (k : Fin 8) (nseq : Nat) (s : State) : Host.Outcome State Fault Refusal :=
  .next (asCommand w .operator .MBX_ACK_RX k (.num nseq) (fun s =>
    let m := s.box k
    if !s.boundTo w k then (.session, s)
    else if !precedes 16 m.ackRx nseq then (.ok, s)
    else if precedes 16 m.taken nseq then (.refused, s)
    else
      let m := { m with ackRx := nseq, unacked := m.unacked.filter (fun x => precedes 16 nseq x.1) }
      (.ok, (s.useBox.setBox k m).crossTest k)) s)

/-- MBX_EMPTY_ARM (R479). -/
def execMbxEmptyArm (w : Who) (k : Fin 8) (s : State) : Host.Outcome State Fault Refusal :=
  .next (asCommand w .operator .MBX_EMPTY_ARM k .unit (fun s =>
    if s.boundTo w k then
      (.ok, ((s.useBox.setBox k { s.box k with emptyArmed := true }).emptyTest k).crossTest k)
    else (.session, s)) s)

/-- Stores bytes of a window from an offset. -/
def storeWindow : Nat → List Byte → List (Nat × Byte) → List (Nat × Byte)
  | _, [], m => m
  | a, b :: t, m => storeWindow (a + 1) t (tput m a b)

/-- Bytes of a window from an offset. -/
def readWindow (m : List (Nat × Byte)) (a n : Nat) : List Byte := (List.range n).map (fun i => tget m (a + i))

/-- MBX_TX_DATA (R477). -/
def execMbxTxData (w : Who) (k : Fin 8) (offset : Nat) (data : List Byte) (s : State) : Host.Outcome State Fault Refusal :=
  .next (asWrite w .operator .MBX_TX_DATA k false false true (.bytes []) (.bytes (leBytes 4 offset ++ data)) (fun s =>
    let m := s.box k
    if !s.boundTo w k then (.session, s)
    else if offset % 4 ≠ 0 ∨ 32768 < offset + data.length then (.outOfRange, s)
    else (.ok, s.useBox.setBox k { m with inWin := storeWindow offset data m.inWin })) s)

/-- MBX_SERVICE_POST (R475, R477): the service's bytes are in its window and its notice is placed or held back. -/
def execMbxServicePost (k : Fin 8) (notice : Notice) (data : List Byte) (s : State) : Host.Outcome State Fault Refusal :=
  if s.get .MBX_STATE k = 0 ∨ notice.formed = false ∨ data.length ≠ notice.length then .next s
  else
    let m := s.box k
    let s := s.setBox k { m with outWin := storeWindow notice.offset data m.outWin, held := m.held ++ [notice] }
    .next ((State.placeHeld 4 k s).crossTest k)

/-- MBX_SERVICE_TAKE (R480): a service without a notice held back has room to answer. -/
def execMbxServiceTake (k : Fin 8) (s : State) : Host.Outcome State Fault Refusal :=
  let m := s.box k
  if s.get .MBX_STATE k = 0 ∨ m.held ≠ [] then .next s
  else .next (((s.setBox k { m with inbox := m.inbox.drop 1 }).emptyTest k).crossTest k)

/-- MBX_SERVICE_ACK (R478): the service has finished a notice with ACK_WANTED that it has taken. -/
def execMbxServiceAck (k : Fin 8) (nseq : Nat) (s : State) : Host.Outcome State Fault Refusal :=
  let m := s.box k
  if s.get .MBX_STATE k ≠ 0 ∧ m.inWanted.contains nseq = true ∧ m.inbox.any (fun x => x.nseq == nseq) = false then
    let changed := s.get .MBX_ACK_TX k != nseq
    let s := s.setBox k { m with inWanted := m.inWanted.filter (fun x => precedes 16 nseq x) }
    let s := s.put .MBX_ACK_TX k nseq
    .next ((if changed then s.cause .MJ_CAUSE 0 2 else s).crossTest k)
  else .next s

/-- MBX_ACK_TIMEOUT (R478): each outbound notice that has been late since its take is counted once. -/
def execMbxAckTimeout (k : Fin 8) (s : State) : Host.Outcome State Fault Refusal :=
  let m := s.box k
  let due (x : Nat × Nat × Bool) : Bool := !x.2.2 && s.countOver (x.2.1 + s.get .MBX_ACK_TIMEOUT 0)
  let n := m.unacked.countP due
  if n = 0 then .next s
  else
    let s := s.setBox k { m with unacked := m.unacked.map (fun x => if due x then (x.1, x.2.1, true) else x) }
    .next ((s.add32 .MBX_ACK_LATE k n).cause .MJ_CAUSE 0 12)

/-- MBX_CROSS_TIMEOUT (R482): a crossing that has ended, or ends in the keeper period in which the time-out matures, wins. -/
def execMbxCrossTimeout (k : Fin 8) (s : State) : Host.Outcome State Fault Refusal :=
  let s := s.crossTest k
  if s.get .MBX_STATE k = 2 ∧ s.countOver ((s.box k).crossedAt + s.get .MBX_CROSS_TIMEOUT 0) = true then
    .next ((s.closeBox k).cause .MJ_CAUSE 0 4)
  else .next s

/-- MJ_CAUSE_CLEAR (R501). -/
def execMjCauseClear (w : Who) (mask : Nat) (s : State) : Host.Outcome State Fault Refusal :=
  .next (clearCommand w .MJ_CAUSE_CLEAR .MJ_CAUSE 0 mask s)

/-! ### Lock registers (R484 to R489) -/

/-- When a lock was acquired or renewed. -/
def State.lockTime (s : State) (n : Nat) : Nat := (Sparse.get (fun _ => ({} : Lock)) s.locks n).renewedAt

/-- A lock is renewed now. -/
def State.renewLock (s : State) (n : Nat) : State :=
  { s with locks := Sparse.put (fun _ => ({} : Lock)) (fun k => k) s.locks n { renewedAt := s.time.kt } }

/-- A read of a lock register by the master of an owner id (R485). -/
def State.readLock (s : State) (own : Int) (n : Nat) : Int × State :=
  let held := s.get .LOCK_n n
  if own = 0 then (held, s)
  else if held = 0 then (own, (s.put .LOCK_n n own).renewLock n)
  else if held = own then (own, if s.get .LOCK_RENEW 0 = 1 then s.renewLock n else s)
  else (held, s.bump .LOCK_CONTESTED 0)

/-- LOCK_READ (R485). -/
def execLockRead (w : Who) (n : Fin 32) (s : State) : Host.Outcome State Fault Refusal :=
  .next (asRead w .LOCK_n (fun s => let (v, s) := s.readLock w.owner n; (.ok, .num v, s)) s)

/-- LOCK_RELEASE (R486). -/
def execLockRelease (w : Who) (n : Fin 32) (s : State) : Host.Outcome State Fault Refusal :=
  .next (asCommand w .operator .LOCK_RELEASE 0 (.num (n : Nat)) (fun s =>
    if s.get .LOCK_n n = w.owner ∧ w.owner ≠ 0 then (.ok, s.put .LOCK_n n 0) else (.refused, s)) s)

/-- LOCK_FORCE (R486). -/
def execLockForce (w : Who) (n : Fin 32) (s : State) : Host.Outcome State Fault Refusal :=
  .next (asCommand w .service .LOCK_FORCE 0 (.num (n : Nat)) (fun s => (.ok, s.put .LOCK_n n 0)) s)

/-- LOCK_TIMEOUT_EXPIRY (R487): a renewing read in the keeper period in which the time-out matures wins. -/
def execLockTimeoutExpiry (n : Fin 32) (s : State) : Host.Outcome State Fault Refusal :=
  if s.get .LOCK_n n ≠ 0 ∧ s.countOver (s.lockTime n + s.get .LOCK_TIMEOUT 0) = true then
    .next (((s.put .LOCK_n n 0).bump .LOCK_EXPIRED 0).cause .MJ_CAUSE 0 5)
  else .next s

/-- Every lock of an owner id is freed (R486). -/
def State.freeLocks (s : State) (own : Int) : State :=
  (List.range 32).foldl (fun s n => if s.get .LOCK_n n = own then s.put .LOCK_n n 0 else s) s

/-! ### Sessions (R464) -/

/-- A session by number. -/
def State.session (s : State) (n : Nat) : Session := tget s.engine.sessions n

/-- Writes a session; SESSIONS_OPEN counts those open. -/
def State.setSession (s : State) (n : Nat) (v : Session) : State :=
  let l := tput s.engine.sessions n v
  { s with engine := { s.engine with sessions := l } }.put .SESSIONS_OPEN 0 (l.countP (fun (x : Nat × Session) => x.2.open_) : Nat)

/-- The owner ids that the sessions of a number have (R484). -/
def ownerIds (n : Nat) : List Int := [(0x30 + n : Nat), (0x40 + n : Nat)]

/-- A session ends (R464): its locks are freed (R486), its channels closed (R473), its held responses dropped (R470). -/
def State.endSession (s : State) (n : Nat) : State :=
  let s := (ownerIds n).foldl (fun s o => s.freeLocks o) s
  let s := (List.range 8).foldl (fun s k =>
    if s.get .MBX_STATE k != 0 && (s.box k).session == n then s.closeBox k else s) s
  let s := s.setSession n {}
  { s with engine := { s.engine with ringHeld := s.engine.ringHeld.filter (fun b => leNat (slice b 12 4) != n) } }

/-- SESSION_IDLE_EXPIRY (R14, R464): each session without a message for SESSION_IDLE ends. -/
def execSessionIdleExpiry (s : State) : Host.Outcome State Fault Refusal :=
  .next ((List.range 16).foldl (fun s n =>
    let x := s.session n
    if x.open_ && runOut (msCycles 1000 * (s.get .SESSION_IDLE 0).toNat) x.lastAt s.time.cycle then s.endSession n
    else s) s)

/-! ### The journal (R495 to R499) -/

/-- An entry of 32 bytes checks (R491). -/
def entryOk (e : List Byte) : Bool := e.length == 32 && crc8 (e.take 31) == (e.getD 31 0).toNat

/-- The HOLE served for a slot that cannot be read (R497). -/
def holeEntry : List Byte := [0, 0, 0, 0, 0xF0] ++ List.replicate 27 0

/-- A slot of the journal is read (R497); `unreadable` when the MRAM read met an uncorrectable error (R525). A slot
never written holds zeros. -/
def State.readSlot (s : State) (slot : Nat) (unreadable : Bool) : List Byte × State :=
  let s := if unreadable then (s.bump .MRAM_ECC_UNCORRECTABLE 0).cause .FI_CAUSE 0 6 else s
  let e := Sparse.get (fun _ => List.replicate 32 (0 : Byte)) s.journal.slots slot
  if !unreadable && !s.journal.badSlots.contains slot && entryOk e then (e, s)
  else
    let m := if s.get .JRN_MIRROR_STATE 0 = 2 then s.journal.mirror.find? (fun x => x.1 == slot && entryOk x.2) else none
    match m with
    | some (_, m) =>
      let s := { s with journal := { s.journal with
        slots := Sparse.insert (fun k => k) slot m s.journal.slots, badSlots := s.journal.badSlots.filter (fun x => x != slot) } }
      (m, (s.bump .JRN_REPAIRED 0).cause .MJ_CAUSE 0 9)
    | none => (holeEntry, (s.bump .JRN_FAULTS 0).cause .MJ_CAUSE 0 10)

/-- A page of the journal is read (R498): 64 slots; `bad` names those of its slots whose MRAM read meets an
uncorrectable error. -/
def State.readPage (s : State) (p : Nat) (bad : List Nat) : List Byte × State :=
  (List.range 64).foldl (fun (x : List Byte × State) i =>
    let (e, s) := x.2.readSlot (64 * p + i) (bad.contains i)
    (x.1 ++ e, s)) ([], s)

/-- JRN_PAGE_READ (R497, R498). -/
def execJrnPageRead (w : Who) (p : Fin 1024) (bad : List Nat) (s : State) : Host.Outcome State Fault Refusal :=
  .next (asRead w .JRN_PAGE_p (fun s => let (b, s) := s.readPage p bad; (.ok, .bytes b, s)) s)

/-- JRN_MIRROR_WRITE (R496): the oldest entry due is written to the cave mirror; `bad` when the write meets an uncorrectable
error. -/
def execJrnMirrorWrite (bad : Bool) (s : State) : Host.Outcome State Fault Refusal :=
  match s.journal.mirrorDue with
  | [] => .next s
  | (slot, e) :: t =>
    let s := { s with journal := { s.journal with mirrorDue := t } }
    if s.get .JRN_MIRROR 0 ≠ 1 ∨ s.get .CAVE_STATE 0 ≠ 2 then .next s
    else if bad then .next ((s.put .JRN_MIRROR_STATE 0 3).cause .MJ_CAUSE 0 11)
    else .next { s with journal := { s.journal with mirror := Sparse.insert (fun k => k) slot e s.journal.mirror } }

/-- JRN_MIRROR_COPY_DONE (R496). -/
def execJrnMirrorCopyDone (s : State) : Host.Outcome State Fault Refusal :=
  if s.get .JRN_MIRROR_STATE 0 = 1 ∧ s.get .CAVE_STATE 0 = 2 then
    let due := s.journal.mirrorDue
    let m := s.journal.slots.filter (fun x => !s.journal.badSlots.contains x.1 && entryOk x.2)
    let m := due.foldl (fun m x => Sparse.insert (fun k => k) x.1 x.2 m) m
    .next ({ s with journal := { s.journal with mirror := m, mirrorDue := [] } }.put .JRN_MIRROR_STATE 0 2)
  else .next s

/-- JRN_HEAD − JRN_HOST_MARK modulo 2^32 (R499). -/
def State.unread (s : State) : Int := ((s.jrnHead : Int) - s.get .JRN_HOST_MARK 0) % 4294967296

/-- JRN_HOST_MARK_WRITE (R499): a write of the mark is itself journalled. -/
def execJrnHostMarkWrite (w : Who) (seq : Nat) (s : State) : Host.Outcome State Fault Refusal :=
  .next (asWrite w .operator .JRN_HOST_MARK 0 true false true (.num (s.get .JRN_HOST_MARK 0)) (.num seq) (fun s =>
    let before := s.unread
    let s := s.put .JRN_HOST_MARK 0 seq
    (.ok, if before < s.get .JRN_ALERT 0 ∧ s.get .JRN_ALERT 0 ≤ s.unread then s.cause .MJ_CAUSE 0 8 else s)) s)

end Sys2Proof.Machine
end

