-- ==== Sys2Proof/Machine/Link.lean ====
section
/-! DEFINITION. The ring link layer (11_ring_link_layer): the bytes of a frame, forwarding and wrapping, the link states,
the direction of Data, pause, acknowledgement and resend. -/

namespace Sys2Proof.Machine

open Sys2Proof

/-! ### The bytes of a frame (R355, R356, R358) -/

/-- FLEN of a frame. -/
def Frame.flen (f : Frame) : Nat := 16 + f.payload.length

/-- The 12-byte header, with a value for byte 8. -/
def Frame.head (f : Frame) (route : Nat) : List Byte :=
  leBytes 1 (16 * f.cls) ++
  leBytes 1 ((if f.resent then 1 else 0) + (if f.bothways then 2 else 0) + (if f.link then 4 else 0)) ++
  leBytes 2 f.flen ++ leBytes 2 (f.srcKind * 16384 + f.srcPos * 512 + f.srcAddr) ++
  leBytes 2 (f.dstKind * 16384 + f.dstPos * 512 + f.dstAddr) ++ leBytes 1 route ++ [0] ++ leBytes 2 f.fseq

/-- FCRC of a frame, byte 8 taken as 0 (R356). -/
def Frame.crc (f : Frame) : Nat := crc32 (f.head 0 ++ f.payload)

/-- The whole frame; a stomped frame carries the complement of FCRC (R357). -/
def Frame.bytes (f : Frame) : List Byte :=
  f.head (f.hops + (if f.wrapped then 128 else 0)) ++ f.payload ++
  leBytes 4 (if f.stomped then f.crc ^^^ 0xFFFFFFFF else f.crc)

/-- The frame whose header and payload bytes hold, its FCRC left out. -/
def frameOf (b : List Byte) : Frame :=
  let flags := leNat (slice b 1 1)
  let src := leNat (slice b 4 2)
  let dst := leNat (slice b 6 2)
  let route := leNat (slice b 8 1)
  { cls := leNat (slice b 0 1) / 16, resent := flags.testBit 0, bothways := flags.testBit 1, link := flags.testBit 2
    srcKind := src / 16384, srcPos := src / 512 % 32, srcAddr := src % 512
    dstKind := dst / 16384, dstPos := dst / 512 % 32, dstAddr := dst % 512
    hops := route % 128, wrapped := route.testBit 7, fseq := leNat (slice b 10 2), payload := slice b 12 (b.length - 16) }

/-- The largest FLEN of a class (R358); 0 for a reserved class. -/
def largestFlen (cls : Nat) : Nat :=
  match cls with
  | 1 => 80 | 2 => 4220 | 3 => 2068 | 4 => 32 | 5 => 1040 | _ => 0

/-- The length and class of a frame are allowed (R358). -/
def lengthOk (b : List Byte) : Bool :=
  let n := leNat (slice b 2 2)
  decide (16 ≤ n) && n % 4 == 0 && decide (n ≤ largestFlen (leNat (slice b 0 1) / 16)) && n == b.length

/-- What the checks of R356 and R358 show of a frame's bytes. -/
def checkFrame (b : List Byte) : FrameCheck :=
  if !lengthOk b then .bad
  else
    let c := (frameOf b).crc
    let stored := leNat (b.drop (b.length - 4))
    if stored = c then .good else if stored = c ^^^ 0xFFFFFFFF then .stomped else .bad

/-- OP of a Service frame. -/
def Frame.op (f : Frame) : Nat := leNat (slice f.payload 0 1)

/-- The rank of a frame that is forwarded (R369): its kind in the express stream, 5 in the transit stream. -/
def Frame.rank (f : Frame) : Nat :=
  match f.cls with
  | 1 => 0
  | 5 => 2
  | 4 => 4
  | 3 => match f.op with
    | 1 | 2 => 3
    | 3 | 4 => 1
    | _ => 5
  | _ => 5

/-! ### Causes (R381) -/

/-- A cause of a ring register that a port brings about; suppressed while the port is fenced (R519). -/
def State.portCause (s : State) (p : Nat) (o : Obj) (b : Nat) : State :=
  if p < 2 then s.causeIn 7 p o 0 b else s.causeIn 8 0 o 0 b

def State.rlCause (s : State) (p b : Nat) : State := s.portCause p .RL_CAUSE b

/-! ### Service frames (R373) -/

/-- A Service payload: OP, TAG, STATUS and the body. -/
def servicePayload (op tag status : Nat) (body : List Byte) : List Byte :=
  leBytes 1 op ++ leBytes 1 tag ++ leBytes 1 status ++ [0] ++ body

/-- A link-scope Service frame out of a port, of express rank 1 (R373). -/
def State.sendNeighbour (s : State) (p op : Nat) (body : List Byte) : State :=
  let (f, s) := s.newFrame 3 false true 3 0 0 (servicePayload op 0 0 body)
  s.sendFrame p 1 f

/-- A Service response towards the endpoint in DATA_DIR (R368, R373); none while DATA_DIR is 0xFF. -/
def State.sendResponse (s : State) (payload : List Byte) : State :=
  let d := (s.get .DATA_DIR 0).toNat
  if d < 2 then
    let (f, s) := s.newFrame 3 false false 2 0 0 payload
    s.sendFrame d 6 f
  else s

/-! ### Transit (R364 to R366, R371) -/

/-- Bytes that wait in a port's transit buffer. -/
def Link.fill (l : Link) : Nat := l.tx.foldl (fun n x => if 0 < x.2.hops then n + x.2.flen else n) 0

/-- A PAUSE for the transit of port `p`, out of the port from which that transit arrives (R371). -/
def State.sendPause (s : State) (p quanta : Nat) : State :=
  let q := 1 - p
  ((s.sendNeighbour q 4 (leBytes 2 quanta ++ [0, 0])).bump .PAUSES_SENT q).rlCause q 7

/-- PAUSE when the transit buffer of a port fills beyond 3/4 (R371); the repeats end when it has fallen to 1/2. -/
def State.pauseWhenHigh (s : State) (p : Nat) : State :=
  let l := s.link p
  if 196608 < l.fill && !l.pausing then
    (s.setLink p { l with pausing := true, pauseOut := true, pauseSentAt := s.time.cycle }).sendPause p 100
  else s

/-- PAUSE with QUANTA 0 when the fill of a port falls below 1/4 (R371). -/
def State.resumeWhenLow (s : State) (p : Nat) : State :=
  let l := s.link p
  let s := if 131072 < l.fill then s else s.setLink p { l with pausing := false }
  if l.fill < 65536 && l.pauseOut then (s.setLink p { l with pausing := false, pauseOut := false }).sendPause p 0 else s

/-- A forwarded frame enters a port's transit buffer of 262,144 bytes, or is dropped (R366, R371). -/
def State.enterTransit (s : State) (p : Nat) (f : Frame) : State :=
  let n := (s.link p).fill + f.flen
  if 262144 < n then (s.bump .TRANSIT_DROPS p).rlCause p 6
  else
    ((s.queueFrame p f.rank f).raiseTo .TRANSIT_HIGH p n).pauseWhenHigh p

/-- Forwards a frame that arrived at port `p` out of the other ring port, or wraps it there (R364, R365). -/
def State.forward (s : State) (p : Nat) (f : Frame) : State :=
  let q := 1 - p
  let st := s.get .LINK_STATE q
  if 96 ≤ f.hops + 1 then s.bump .HOPS_DISCARDS 0
  else
    let f := { f with hops := f.hops + 1 }
    if st = 1 then s.enterTransit q f
    else if st = 2 ∨ st = 3 then
      if f.dstKind = 3 then s
      else if f.wrapped then s.bump .HOPS_DISCARDS 0
      else
        let s := s.add64 .WRAPPED_FRAMES q 1
        if s.get .LINK_STATE p = 1 then s.enterTransit p { f with wrapped := true } else s.bump .HOPS_DISCARDS 0
    else s

/-- SRC of a frame is this member. -/
def State.isOwn (s : State) (f : Frame) : Bool :=
  s.placed && f.srcPos == (s.get .RING_POSITION 0).toNat &&
  (if Config.hubAddress = 0x1FF then f.srcKind == 1 else f.srcKind == 0 && f.srcAddr == Config.hubAddress)

/-- A frame addressed by this hub's address is taken here (R364, R416): by the acting unit of a twin; but for ACK and RESEND
by the unit of side TWIN_PREFER when neither unit is ACTING. -/
def State.takesAddress (s : State) (f : Frame) : Bool :=
  s.acting ||
  ((s.get .PARTNER_STATE 0 != 5 || s.twin.lost) && s.get .TWIN_SIDE 0 == s.get .TWIN_PREFER 0 && !(f.cls == 3 && (f.op == 5 || f.op == 6)))

/-- DST of a frame is this member: its hub address or its position (R364, R416). -/
def State.isMine (s : State) (f : Frame) : Bool :=
  if f.dstKind = 0 then Config.hubAddress != 0x1FF && f.dstAddr == Config.hubAddress && s.takesAddress f
  else f.dstKind == 1 && s.placed && f.dstPos == (s.get .RING_POSITION 0).toNat &&
    (s.acting || !(f.cls == 3 && (f.op == 5 || f.op == 6)))

/-- A frame with DST all has not been delivered here before; it is noted (R364). -/
def State.firstCopy (s : State) (f : Frame) : Bool × State :=
  let src := f.srcKind * 16384 + f.srcPos * 512 + f.srcAddr
  if s.ring.seen.contains (src, f.cls, f.fseq) then (false, s)
  else
    let same := (s.ring.seen.filter (fun x => x.1 == src && x.2.1 == f.cls)).take 63
    let rest := s.ring.seen.filter (fun x => !(x.1 == src && x.2.1 == f.cls))
    (true, { s with ring := { s.ring with seen := (src, f.cls, f.fseq) :: (same ++ rest) } })

/-- What a member does with a good frame (R364): whether it takes it, and the state after any forwarding. No member forwards a
Time frame (R385). -/
def State.route (s : State) (p : Nat) (f : Frame) : Bool × State :=
  if f.link || f.cls == 1 then (true, s)
  else if s.isOwn f && !f.wrapped then (false, s)
  else if s.isMine f then (true, s)
  else if f.dstKind = 3 then
    let (first, s) := s.firstCopy f
    (first, s.forward p f)
  else (false, s.forward p f)

/-- A port takes frames of a scope: none while DOWN, MISWIRED or fenced, link-scope ones in FAILED and HOLD (R360, R377). -/
def State.takesFrame (s : State) (p : Nat) (f : Frame) : Bool :=
  let st := s.get .LINK_STATE p
  !s.portFenced p && !(s.link p).misfit && (st == 1 || ((st == 2 || st == 3) && f.link))

/-- A good frame arrives at a port (R358, R364): whether it is taken here. The twin port carries Time and Twin frames
only, at link scope. -/
def State.receive (s : State) (p : Nat) (f : Frame) : Bool × State :=
  if !s.takesFrame p f then (false, s)
  else
    let s := s.add64 .FRAMES_RX p 1
    if p = 2 then (f.link && (f.cls == 1 || f.cls == 5), s) else s.route p f

/-- A frame whose check fails after it has been forwarded: it goes on with a stomped FCRC (R357). -/
def State.forwardStomped (s : State) (p : Nat) (f : Frame) : State :=
  if p < 2 && s.takesFrame p f && !f.link && !(s.isOwn f && !f.wrapped) && !s.isMine f then
    s.forward p { f with stomped := true }
  else s

/-! ### The direction of Data (R367, R368) -/

/-- A failed link lies on a side of this hub (R367): side 0 East, 1 West. -/
def State.failedOn (s : State) (p : Nat) : Bool :=
  let j := (s.get .RING_POSITION 0).toNat
  (List.range 64).any (fun a => bit (s.get .FAILED_LINKS 0) a && (if p = 1 then decide (a ≤ j) else decide (j < a)))

/-- A side is broken: its beacon has timed out, or it has a failed link (R367). -/
def State.broken (s : State) (p : Nat) : Bool := (s.link p).sideBroken || s.failedOn p

/-- The direction chosen by R368: 0 East, 1 West, 255 none. -/
def State.direction (s : State) : Nat :=
  if !s.placed then 255
  else
    let j := (s.get .RING_POSITION 0).toNat
    let force := (s.get .DIR_FORCE 0).toNat
    if force < 2 && !s.broken force then force
    else
      let n := (s.get .RING_SIZE 0).toNat
      let d := if s.ring.splitValid then (if bit (s.get .SPLIT_MASK 0) j then 0 else 1)
               else if (n + 1) / 2 ≤ j then 0 else 1
      if !s.broken d then d else if !s.broken (1 - d) then 1 - d else 255

/-- An own frame towards the endpoint: an event report, a response or Data (R368). -/
def ownOutward (rank : Nat) (f : Frame) : Bool := f.hops == 0 && !f.link && f.dstKind == 2 && decide (4 ≤ rank)

/-- Own frames not yet begun move from one port to the other (R368). -/
def State.moveOwn (s : State) (from_ to_ : Nat) : State :=
  let l := s.link from_
  let s := s.setLink from_ { l with tx := l.tx.filter (fun x => !ownOutward x.1 x.2) }
  (l.tx.filter (fun x => ownOutward x.1 x.2)).foldl (fun s x => s.sendFrame to_ x.1 x.2) s

/-- Reports and responses held for want of a direction leave (R470, R510). -/
def State.releaseHeld (s : State) : State :=
  let s := (List.range 256).foldl (fun s n => if (s.evDelivery n).held then s.sendReport n else s) s
  let held := s.engine.ringHeld
  held.foldl (fun s p => s.sendResponse p) { s with engine := { s.engine with ringHeld := [] } }

/-- DATA_DIR_CHOICE (R368). -/
def State.chooseDir (s : State) : State :=
  let d := s.direction
  let old := (s.get .DATA_DIR 0).toNat
  if d = old then s
  else
    let s := (s.put .DATA_DIR 0 d).cause .RL_CAUSE 0 14
    if d = 255 then s.cause .RL_CAUSE 0 11
    else
      let s := if old < 2 then s.moveOwn old d else s
      s.releaseHeld

/-! ### Link states (R376, R377) -/

/-- Sets LINK_STATE and LINK_CHANGED. -/
def State.setLinkState (s : State) (p : Nat) (st : Int) : State :=
  if s.get .LINK_STATE p = st then s else (s.put .LINK_STATE p st).put .LINK_CHANGED p s.vtNow

/-- LINK_ID of this hub's link at a port (R361). -/
def State.linkId (s : State) (p : Nat) : Nat :=
  let j := (s.get .RING_POSITION 0).toNat
  if p = 1 then j else j + 1

/-- A LINK_NOTICE out of ports, one frame (R373, R377). -/
def State.sendNotice (s : State) (ports : List Nat) (p code cause : Nat) : State :=
  let both := ports.length == 2
  let (f, s) := s.newFrame 3 both false 3 0 0
    (servicePayload 2 0 0 (leBytes 1 code ++ leBytes 1 (s.linkId p) ++ leBytes 1 cause ++ [0]))
  ports.foldl (fun s q => s.sendFrame q 3 f) s

/-- Adds the hub's own link to the failed set, or takes it out (R367). -/
def State.markFailed (s : State) (a : Nat) (failed : Bool) : State :=
  let v := s.get .FAILED_LINKS 0
  s.put .FAILED_LINKS 0 (if failed then withBit v a else withoutBits v (2 ^ a : Nat))

/-- A frame that waits at a port when its link fails is wrapped by R365; one of transit that finds no room in the buffer of
the other port is dropped (R371). -/
def State.wrapFrame (s : State) (p rank : Nat) (f : Frame) : State :=
  let q := 1 - p
  if 0 < f.hops && s.get .LINK_STATE q == 1 && decide (262144 < (s.link q).fill + f.flen) then (s.bump .TRANSIT_DROPS q).rlCause q 6
  else (s.sendFrame p rank f).pauseWhenHigh q

/-- The frames that wait at a port when its link fails are wrapped by R365; link-scope frames stay. -/
def State.wrapQueue (s : State) (p : Nat) : State :=
  let l := s.link p
  let s := s.setLink p { l with tx := l.tx.filter (fun x => x.2.link), cur := [] }
  ((l.tx.filter (fun x => !x.2.link)).foldl (fun s x => s.wrapFrame p x.1 x.2) s).resumeWhenLow p

/-- PORT_STATE is TWO or ONE: the port carries frames. -/
def State.portUp (s : State) (p : Nat) : Bool := s.get .PORT_STATE p == 2 || s.get .PORT_STATE p == 3

/-- The delay of a port is disqualified (R389, R390). -/
def State.disqualify (s : State) (p : Nat) : State :=
  if s.get .DELAY_STATE p = 0 then s
  else
    let s := (s.put .DELAY_STATE p 0).put .LINK_DELAY_PREV p (s.get .LINK_DELAY p)
    (s.setTimePort p { s.timePort p with raws := [], held := [] }).raise 0x1A

/-- LINK_FAIL (R377): a cause of R376 for the link of a ring port. Its delay is disqualified (R390), except in Hush. -/
def State.linkFail (s : State) (p code : Nat) : State :=
  let st := s.get .LINK_STATE p
  if st = 1 then
    let s := ((s.setLinkState p 2).put .LINK_FAIL_CAUSE p code).wrapQueue p
    let s := if s.portUp p then s.sendNeighbour p 3 (leBytes 1 code ++ [0, 0, 0]) else s
    let s := if s.placed then s.markFailed (s.linkId p) true else s
    let s := (s.sendNotice [1 - p] p 1 code).bump .FAILURES p
    let s := s.rlCause p 0
    let s := if code = 2 then s.rlCause p 4 else s
    let s := if s.get .PORT_STATE p = 4 then s else s.disqualify p
    s.chooseDir
  else if st = 3 then
    let s := (s.setLinkState p 2).put .LINK_FAIL_CAUSE p code
    if s.get .PORT_STATE p = 4 then s else s.disqualify p
  else s

/-- The link leaves FAILED or DOWN for HOLD (R377). -/
def State.linkHold (s : State) (p : Nat) : State :=
  (s.setLink p { s.link p with holdAt := s.time.cycle }).setLinkState p 3

/-- DATA blocks that failed or were missing within the last 256 block periods (R376). -/
def Link.errors (l : Link) : Nat := l.badPeriods.countP (fun t => decide (l.period < t + 256))

/-- No cause of R376 holds. -/
def State.noCause (s : State) (p : Nat) : Bool :=
  s.portUp p && !(s.link p).misfit && !s.portFenced p && decide (((s.link p).errors : Int) < s.get .LINK_ERR_LIMIT p)

/-- The far port does not fit (R360, R377): the LINK_KILL of a link that fails is the last frame of its port. -/
def State.linkMisfit (s : State) (p : Nat) : State :=
  let st := s.get .LINK_STATE p
  let s := if st = 0 ∨ st = 3 then s.setLinkState p 4 else s.linkFail p 4
  (s.setLink p { s.link p with misfit := true }).rlCause p 3

/-- What a change of PORT_STATE brings to the link (R376, R377). -/
def State.linkFollows (s : State) (p : Nat) (old new : Int) : State :=
  let up (x : Int) : Bool := x == 2 || x == 3
  let st := s.get .LINK_STATE p
  if p = 2 then
    if up new && !s.portFenced 2 then s.setLinkState 2 1
    else (s.setLink 2 { s.link 2 with tx := [], cur := [], rx := [], waiting := [0, 1, 2] }).setLinkState 2 0
  else if up old && !up new then
    if st = 4 then s.setLinkState p 0 else s.linkFail p (if new = 4 ∨ new = 5 then 5 else 1)
  else if up new && !up old then
    if st = 0 then (if (s.link p).misfit then (s.setLinkState p 4).rlCause p 3 else s.linkHold p)
    else if st = 2 && s.noCause p then s.linkHold p
    else s
  else if up new && new != old && st = 1 then s.sendNotice [0, 1] p (if new = 3 then 3 else 4) 0
  else s

/-- A link in FAILED whose port is up and for which no cause holds goes to HOLD (R377). -/
def State.linkRecovers (s : State) (p : Nat) : State :=
  if p < 2 && s.get .LINK_STATE p = 2 && s.noCause p then s.linkHold p else s

/-- REJOIN_HOLD_EXPIRY (R376, R377): a cause of R376 in the block period in which the hold matures comes first. -/
def execRejoinHoldExpiry (p : Fin 2) (s : State) : Host.Outcome State Fault Refusal :=
  let hold := msCycles (s.get .REJOIN_HOLD p).toNat
  if s.get .LINK_STATE p = 3 ∧ blocksOut hold (s.link p).holdAt s.time.cycle = true then
    if s.noCause p then
      let s := s.setLinkState p 1
      let s := if s.placed then s.markFailed (s.linkId p) false else s
      .next (((s.sendNotice [0, 1] p 2 0).rlCause p 1).chooseDir)
    else .next (s.setLinkState p 2)
  else .next s

/-! ### Beacons and notices (R362, R363, R367) -/

/-- A side's beacons still arrive within BEACON_TIMEOUT. -/
def State.beaconFresh (s : State) (p : Nat) : Bool :=
  let l := s.link p
  !l.sideBroken && !blocksOut (msCycles (s.get .BEACON_TIMEOUT 0).toNat) l.beaconAt s.time.cycle

/-- The failed links of a side are cleared by a beacon from that side (R367). -/
def State.clearSide (s : State) (p : Nat) : State :=
  let j := (s.get .RING_POSITION 0).toNat
  if s.placed then
    (List.range 64).foldl (fun s a =>
      if (if p = 1 then decide (a ≤ j) else decide (j < a)) && bit (s.get .FAILED_LINKS 0) a then s.markFailed a false else s) s
  else s

/-- The LINK_ID of the hub's own failed links stand in the failed set, once its position gives them (R361, R367). -/
def State.markOwn (s : State) : State :=
  [0, 1].foldl (fun s p => if s.get .LINK_STATE p = 2 ∨ s.get .LINK_STATE p = 3 then s.markFailed (s.linkId p) true else s) s

/-- A beacon taken at a port (R362, R363). -/
def State.onBeacon (s : State) (p : Nat) (f : Frame) : State :=
  let b := f.payload.drop 4
  let id := leNat (slice b 0 4)
  let followed := (s.get .ENDPOINT_ID 0).toNat
  if followed ≠ 0 ∧ id ≠ followed ∧ (s.beaconFresh 0 || s.beaconFresh 1) = true then s.cause .RL_CAUSE 0 10
  else
    let dir := leNat (slice b 8 1)
    let n := leNat (slice b 9 1)
    let s := s.put .ENDPOINT_ID 0 id
    let s := s.put .BEACON_SEQ 0 (leNat (slice b 4 4))
    let s := s.put .RING_SIZE 0 n
    let s := s.put .SPLIT_MASK 0 (leNat (slice b 12 4))
    let s := { s with ring := { s.ring with splitValid := (leNat (slice b 10 1)).testBit 0 } }
    let s := if id = followed then s else (s.put .HOPS_EAST 0 255).put .HOPS_WEST 0 255
    let s := if dir = 0 then s.put .HOPS_EAST 0 f.hops else s.put .HOPS_WEST 0 f.hops
    let s := s.setLink p { s.link p with beaconAt := s.time.cycle, sideBroken := false }
    let east := s.get .HOPS_EAST 0
    let west := s.get .HOPS_WEST 0
    let pos : Int := if east ≠ 255 then east else if n ≠ 0 ∧ west ≠ 255 ∧ west < (n : Int) then n - 1 - west else s.get .RING_POSITION 0
    let s := if pos ≠ s.get .RING_POSITION 0 then ((s.put .RING_POSITION 0 pos).cause .RL_CAUSE 0 9).markOwn else s
    (s.clearSide p).chooseDir

/-- BEACON_TIMEOUT (R363): an arrival in the period in which the time-out matures has moved it on. -/
def execBeaconTimeout (p : Fin 2) (s : State) : Host.Outcome State Fault Refusal :=
  let l := s.link p
  if !l.sideBroken ∧ blocksOut (msCycles (s.get .BEACON_TIMEOUT 0).toNat) l.beaconAt s.time.cycle = true then
    .next (((s.setLink p { l with sideBroken := true }).rlCause p 8).chooseDir)
  else .next s

/-- The hub's own link with a LINK_ID that is FAILED or in HOLD (R378). -/
def State.ownFailing (s : State) (a : Nat) : Bool :=
  s.placed && ((s.linkId 0 == a && (s.get .LINK_STATE 0 == 2 || s.get .LINK_STATE 0 == 3)) ||
               (s.linkId 1 == a && (s.get .LINK_STATE 1 == 2 || s.get .LINK_STATE 1 == 3)))

/-- A LINK_NOTICE taken (R367, R373): DOWN adds its link to the failed set, UP removes it; DEGRADED and RESTORED report. -/
def State.onNotice (s : State) (f : Frame) : State :=
  let b := f.payload.drop 4
  let code := leNat (slice b 0 1)
  let a := leNat (slice b 1 1)
  if (code = 1 ∨ code = 2) ∧ a < 64 ∧ s.ownFailing a = false then (s.markFailed a (code == 1)).chooseDir else s

/-- A PAUSE taken at a port (R371): the block period in which its QUANTA expires. -/
def State.onPause (s : State) (p : Nat) (f : Frame) : State :=
  let q := leNat (slice f.payload 4 2)
  let s := s.bump .PAUSES_RECEIVED p
  let s := s.setLink p { s.link p with pauseEnd := blockOf s.time.cycle + limitBlocks (usCycles q) }
  s.put .PAUSED p (b2i (q != 0))

/-- PAUSE_QUANTA_EXPIRY (R371): once the block period in which QUANTA expires is over, so that a PAUSE in it wins (R14). -/
def execPauseQuantaExpiry (p : Fin 2) (s : State) : Host.Outcome State Fault Refusal :=
  if s.get .PAUSED p = 1 ∧ (s.link p).pauseEnd < blockOf s.time.cycle then .next (s.put .PAUSED p 0) else .next s

/-- PAUSE_REPEAT (R371): every 50 µs while the fill stays above 1/2; `p` is the port of the transit buffer. -/
def execPauseRepeat (p : Fin 2) (s : State) : Host.Outcome State Fault Refusal :=
  let l := s.link p
  if l.pausing ∧ 131072 < l.fill ∧ l.pauseSentAt + usCycles 50 ≤ s.time.cycle then
    .next ((s.setLink p { l with pauseSentAt := s.time.cycle }).sendPause p 100)
  else .next s

/-! ### Acknowledgement and resend (R372) -/

/-- An ACK taken: STREAM_ACK of its queue (R296). -/
def State.onAck (s : State) (f : Frame) : State :=
  let b := f.payload.drop 4
  let q := leNat (slice b 0 1)
  if q < 16 then (s.applyAck q (leNat (slice b 4 4))).2 else s

/-- A RESEND taken: held, or answered with STATUS 2 when 16 are held. A COUNT outside 1 to 1,024 is answered with
STATUS 1 (DEDUCED, R373; log entry 94). -/
def State.onResend (s : State) (f : Frame) : State :=
  let b := f.payload.drop 4
  let tag := leNat (slice f.payload 1 1)
  let count := leNat (slice b 2 2)
  let s := s.bump .RESEND_REQUESTS 0
  if count = 0 ∨ 1024 < count then s.sendResponse (servicePayload 6 tag 1 [])
  else if 16 ≤ s.ring.resends.length then s.sendResponse (servicePayload 6 tag 2 [])
  else
    let r : Resend := { queue := leNat (slice b 0 1), first := leNat (slice b 4 4), count, tag }
    let s := { s with ring := { s.ring with resends := s.ring.resends ++ [r] } }
    s.put .RESEND_PENDING 0 s.ring.resends.length

/-- A packet of the stream ring with its segment and place, and the SEQ of the packet of its queue before it. -/
structure RingPacket where
  seg   : Segment
  place : Nat
  item  : Stored
  prev  : Nat

/-- The packets of the stream ring in stream order. -/
def State.ringPackets (s : State) : List (Segment × Nat × Stored) :=
  s.cave.ring.flatMap (fun g => ((List.range g.pkts.length).zip g.pkts).map (fun kx => (g, kx.1, kx.2)))

/-- The retained packets of a queue in SEQ order; a ripened packet stands for every SEQ from the one after the previous
packet of its queue (R300), and any other for its own. -/
def State.queuePackets (s : State) (q : Nat) : List RingPacket :=
  (s.ringPackets.foldl (fun (a : List RingPacket × Option Nat) x =>
    if x.2.2.pkt.queue = q then
      let seq := x.2.2.pkt.seq
      let own := (seq + 4294967295) % 4294967296
      let prev := if x.2.2.pkt.pflags / 4 % 2 = 1 then a.2.getD own else own
      (a.1 ++ [⟨x.1, x.2.1, x.2.2, prev⟩], some seq)
    else a) ([], none)).1

/-- A packet stands for a SEQ. -/
def RingPacket.standsFor (x : RingPacket) (seq : Nat) : Bool :=
  let d := (seq + 4294967296 - x.prev) % 4294967296
  decide (0 < d) && decide (d ≤ (x.item.pkt.seq + 4294967296 - x.prev) % 4294967296)

/-- The SEQ a request names. -/
def Resend.seqs (r : Resend) : List Nat := (List.range r.count).map (fun i => (r.first + i) % 4294967296)

/-- The SEQ of a request that the hub no longer holds: written before, and held by no packet of the stream ring. -/
def State.gone (s : State) (r : Resend) : List Nat :=
  let have_ := s.queuePackets r.queue
  let last := Sparse.get (fun _ => 4294967295) s.cave.lastSeq r.queue
  r.seqs.filter (fun q => decide ((last + 4294967296 - q) % 4294967296 < 2147483648) && !have_.any (fun x => x.standsFor q))

/-- Marks a packet of the stream ring as sent. -/
def State.markSent (s : State) (seg place : Nat) : State :=
  let f (g : Segment) : Segment :=
    if g.id = seg then
      { g with pkts := ((List.range g.pkts.length).zip g.pkts).map (fun (kx : Nat × Stored) =>
          if kx.1 = place then { kx.2 with sent := true } else kx.2) }
    else g
  { s with cave := { s.cave with ring := s.cave.ring.map f } }

/-- A packet leaves as a Data frame in DATA_DIR (R358, R372). -/
def State.sendData (s : State) (rank : Nat) (resent : Bool) (p : Packet) : State :=
  let (f, s) := s.newFrame 2 false false 2 0 0 p.bytes
  s.sendFrame (s.get .DATA_DIR 0).toNat rank { f with resent }

/-- Puts the head request back, or drops it when nothing of it is left. -/
def State.setHeadResend (s : State) (r : Option Resend) : State :=
  let rest := s.ring.resends.drop 1
  let l := match r with
    | some r => r :: rest
    | none => rest
  ({ s with ring := { s.ring with resends := l } }).put .RESEND_PENDING 0 l.length

/-- Serves the oldest RESEND: the answer for what is gone, then its next packet (R372). -/
def State.serveResend (s : State) (r : Resend) : State :=
  let gone := s.gone r
  let s := match r.begun, gone with
    | false, a :: _ =>
      let b := gone.getLastD a
      ((s.sendResponse (servicePayload 7 r.tag 0 (leBytes 1 r.queue ++ [0, 0, 0] ++ leBytes 4 a ++ leBytes 4 b))).bump
        .RESEND_GONE 0).cause .RL_CAUSE 0 12
    | _, _ => s
  match (s.queuePackets r.queue).find? (fun x => r.seqs.any (fun q => x.standsFor q)) with
  | none => s.setHeadResend none
  | some x =>
    let past := (x.item.pkt.seq + 4294967296 - r.first) % 4294967296 + 1
    let s := s.setHeadResend (if past < r.count then
        some { r with begun := true, first := (r.first + past) % 4294967296, count := r.count - past } else none)
    match s.readPacket x.seg x.place x.item with
    | (none, s) => s
    | (some p, s) => (s.sendData 7 true p).add64 .RESEND_PACKETS 0 1

/-- Own Data frames wait at a port. -/
def Link.dataWaits (l : Link) : Bool := l.tx.any (fun x => decide (7 ≤ x.1))

/-- A replay copy for the ring endpoint leaves with what is left over (R305, R369). -/
def State.sendReplay (s : State) : State :=
  if s.get .REPLAY_STATE 0 = 1 ∧ s.get .REPLAY_DEST 0 = 0xFF then
    match s.replayLeft with
    | [] => s
    | x :: _ =>
      let s := s.replayPast x.2.2
      match s.readPacket x.1 x.2.1 x.2.2 with
      | (none, s) => s
      | (some p, s) => (s.sendData 9 false (p.flagged 2)).add64 .REPLAY_PACKETS 0 1
  else s

/-- The cave serves a ring port's read: READY, or in VIGIL out of self-refresh for the read (R551). -/
def State.caveServes (s : State) : Bool :=
  s.get .CAVE_STATE 0 == 2 || (s.get .CAVE_STATE 0 == 3 && s.get .PWR_STATE 0 == 2)

/-- RING_SEND_PACKET (R369, R372): while no Data frame of its own waits at the port of DATA_DIR, the ring port reads the next
packet: of the oldest RESEND, or the first packet of the stream ring not yet sent, or a replay copy. -/
def execRingSendPacket (s : State) : Host.Outcome State Fault Refusal :=
  let d := (s.get .DATA_DIR 0).toNat
  if d < 2 ∧ s.acting = true ∧ s.caveServes = true ∧ (s.link d).dataWaits = false ∧ s.portFenced d = false then
    match s.ring.resends with
    | r :: _ => .next ((s.serveResend r).settleLosses)
    | [] =>
      match s.ringPackets.find? (fun x => !x.2.2.sent) with
      | some x =>
        let s := s.markSent x.1.id x.2.1
        match s.readPacket x.1 x.2.1 x.2.2 with
        | (none, s) => .next s.settleLosses
        | (some p, s) => .next (s.sendData 8 false p)
      | none => .next (s.sendReplay.settleLosses)
  else .next s

/-! ### Stamps of Time frames (R384 to R388) -/

/-- Bytes of a list replaced from an offset. -/
def patch (b : List Byte) (off : Nat) (v : List Byte) : List Byte := b.take off ++ v ++ b.drop (off + v.length)

/-- An I64 in its 8 bytes. -/
def i64Bytes (v : Int) : List Byte := leBytes 8 (v % 18446744073709551616).toNat

/-- KIND of a Time frame (R385). -/
def Frame.kind (f : Frame) : Nat := leNat (slice f.payload 0 1)

/-- The stamp a Time frame takes as its marker leaves (R384, R385): ORIGIN of a SYNC that its grandmaster sends, RESID of one
that is relayed, T1, T3 and T_TX. T1 also stays with the port for its exchange. -/
def State.stampFrame (s : State) (p : Nat) (f : Frame) : Frame × State :=
  let now := s.vtNow
  if f.cls ≠ 1 then (f, s)
  else match f.kind with
    | 1 =>
      if leNat (slice f.payload 7 1) = 0 then ({ f with payload := patch f.payload 8 (vt80Bytes now) }, s)
      else ({ f with payload := patch f.payload 36 (i64Bytes (leInt (slice f.payload 36 8) + now)) }, s)
    | 2 =>
      let x := s.timePort p
      let d := leNat (slice f.payload 2 2)
      let s := match x.open_ with
        | some (q, none) => if q = d then s.setTimePort p { x with open_ := some (q, some (now, s.time.cycle)) } else s
        | _ => s
      ({ f with payload := patch f.payload 4 (vt80Bytes now) }, s)
    | 3 => ({ f with payload := patch f.payload 16 (vt80Bytes now) }, s)
    | 5 => ({ f with payload := patch f.payload 4 (vt80Bytes now) }, s)
    | _ => (f, s)

/-! ### The received frames of the link layer -/

/-- BEACON_RX (R362): a good beacon arrives at a port; a hub delivers each beacon once and forwards it (R364). -/
def execBeaconRx (p : Fin 2) (f : Frame) (s : State) : Host.Outcome State Fault Refusal :=
  if f.cls = 3 ∧ f.op = 1 then
    match s.receive p f with
    | (true, s) => .next (s.onBeacon p f)
    | (false, s) => .next s
  else .next s

/-- LINK_NOTICE_RX (R373). -/
def execLinkNoticeRx (p : Fin 2) (f : Frame) (s : State) : Host.Outcome State Fault Refusal :=
  if f.cls = 3 ∧ f.op = 2 then
    match s.receive p f with
    | (true, s) => .next (s.onNotice f)
    | (false, s) => .next s
  else .next s

/-- LINK_KILL_RX (R376): a good LINK_KILL fails the link of the port with cause 3. -/
def execLinkKillRx (p : Fin 2) (f : Frame) (s : State) : Host.Outcome State Fault Refusal :=
  if f.cls = 3 ∧ f.op = 3 then
    match s.receive p f with
    | (true, s) => .next (s.linkFail p 3)
    | (false, s) => .next s
  else .next s

/-- PAUSE_RX (R371). -/
def execPauseRx (p : Fin 2) (f : Frame) (s : State) : Host.Outcome State Fault Refusal :=
  if f.cls = 3 ∧ f.op = 4 then
    match s.receive p f with
    | (true, s) => .next (s.onPause p f)
    | (false, s) => .next s
  else .next s

/-- ACK_RX (R372). -/
def execAckRx (p : Fin 2) (f : Frame) (s : State) : Host.Outcome State Fault Refusal :=
  if f.cls = 3 ∧ f.op = 5 then
    match s.receive p f with
    | (true, s) => .next (s.onAck f)
    | (false, s) => .next s
  else .next s

/-- RESEND_RX (R372). -/
def execResendRx (p : Fin 2) (f : Frame) (s : State) : Host.Outcome State Fault Refusal :=
  if f.cls = 3 ∧ f.op = 6 then
    match s.receive p f with
    | (true, s) => .next (s.onResend f)
    | (false, s) => .next s
  else .next s

/-- RL_CAUSE_CLEAR (R381). -/
def execRlCauseClear (w : Who) (mask : Nat) (s : State) : Host.Outcome State Fault Refusal :=
  .next (clearCommand w .RL_CAUSE_CLEAR .RL_CAUSE 0 mask s)

end Sys2Proof.Machine
end

