-- ==== Sys2Proof/Machine/Lanes.lean ====
section
/-! DEFINITION. The serial lanes (10_ring_lanes) and the blocks they carry: the line code, bring-up, Hush and Rest, the loss
and return of one lane, test patterns and injections; and the DATA blocks of 11_ring_link_layer that carry frames. -/

namespace Sys2Proof.Machine

open Sys2Proof

/-! ### Lanes and ports (R318) -/

/-- The port of a lane. -/
def portOf (l : Nat) : Nat := l / 2

/-- The lanes of a port, physical lane 0 first. -/
def portLanes (p : Nat) : List Nat := if p < 2 then [2 * p, 2 * p + 1] else [4]

def State.laneState (s : State) (l : Nat) : Int := s.get .LANE_STATE l

def State.lnCause (s : State) (p b : Nat) : State := s.portCause p .LN_CAUSE b

/-- Number of the set bits of a mask. -/
def ones (m : Nat) : Nat := (List.range 8).countP (fun i => m.testBit i)

/-- The lanes that carry traffic, PORT_LANES and TIMING_LANE (R384); a change of the timing lane disqualifies the delay of
the port (R390). -/
def State.setTraffic (s : State) (p mask : Nat) : State :=
  let s := (s.setLink p { s.link p with traffic := mask }).put .PORT_LANES p (ones mask)
  let lane : Int := if mask = 0 then s.get .TIMING_LANE p else if mask.testBit 0 then 0 else 1
  if lane = s.get .TIMING_LANE p then s else (s.put .TIMING_LANE p lane).disqualify p

/-- PORT_STATE changes, PORT_CHANGED takes VT and the link follows (R343, R377). The delay of the port is disqualified
(R390), but not while it stays among TWO, ONE and HUSH on one timing lane. -/
def State.setPort (s : State) (p : Nat) (st : Int) : State :=
  let old := s.get .PORT_STATE p
  let keeps (x : Int) : Bool := x == 2 || x == 3 || x == 4
  if old = st then s
  else
    let s := (s.put .PORT_STATE p st).put .PORT_CHANGED p s.vtNow
    let s := if keeps old && keeps st then s else s.disqualify p
    s.linkFollows p old st

/-- RX_ADAPT_STATE of a lane as it enters a state (R338). -/
def adaptState (st : Int) : Int := if st = 4 ∨ st = 5 then 1 else if st = 6 then 3 else if st = 7 then 4 else 0

/-- A lane enters a state (R337). -/
def State.setLane' (s : State) (l : Nat) (st : Int) : State :=
  let x := s.serLane l
  let s := s.setSerLane l { x with stateAt := s.time.cycle, badRun := 0, idleRun := 0 }
  (s.put .LANE_STATE l st).put .RX_ADAPT_STATE l (adaptState st)

/-- The DATA streams of a port lose their place: every frame in progress is abandoned, and one already being forwarded is
completed with zero bytes and a stomped FCRC (R354, R357). -/
def State.abandon (s : State) (p : Nat) : State :=
  let l := s.link p
  let s := s.setLink p { l with rx := [], waiting := [0, 1, 2] }
  l.rx.foldl (fun s x =>
    if 12 ≤ x.2.length then
      let n := leNat (slice x.2 2 2)
      s.forwardStomped p (frameOf ((x.2 ++ List.replicate (n - x.2.length) 0).take n))
    else s) s

/-- A lane begins bring-up again (R337): what its receiver had found is gone, and its driver takes the settings of the moment
(R348). -/
def State.enterDetect (s : State) (l : Nat) : State :=
  let s := s.setLane' l 1
  let x := s.serLane l
  let s := s.setSerLane l { x with lastBsn := none, adaptDone := false, farLane := none, readyRun := 0, liveAt := none,
                                   drive := [s.get .TX_SWING l, s.get .TX_DEEMPH l, s.get .TX_PRE l], stripeAt := none, ctl := [], injects := x.injects.filter (fun i => i.1 == 0) }
  s.abandon (portOf l)

/-- A port goes to FAULT; its lanes keep sending TRAIN blocks (R336). -/
def State.portFault (s : State) (p : Nat) (code : Int) : State :=
  let s := (s.setTraffic p 0).put .FAULT_CODE p code
  let s := s.setLink p { s.link p with faultAt := s.time.cycle, waitFrom := none }
  (s.setPort p 7).lnCause p 6

/-! ### RINGCLK and LANE_ENABLE (R319, R337) -/

/-- A lane is powered down. -/
def State.laneOff (s : State) (l : Nat) : State :=
  let s := (s.enterDetect l).setLane' l 0
  s.setSerLane l { s.serLane l with txLocked := false, warm := false, injects := [] }

/-- A port in TRAINING with a lane that is already ACTIVE waits from that lane's entry (R343). -/
def State.startTraining (s : State) (p : Nat) : State :=
  let first := (portLanes p).find? (fun l => s.laneState l == 5)
  (s.setLink p { s.link p with waitFrom := first.map (fun l => (s.serLane l).stateAt) }).setPort p 1

/-- A port leaves TEST when none of its lanes is in TEST any more (R343). -/
def State.testOver (s : State) (p : Nat) : State :=
  if s.get .PORT_STATE p = 6 ∧ (portLanes p).all (fun l => s.laneState l != 8) = true ∧
      (portLanes p).any (fun l => s.laneState l != 0) = true then s.startTraining p else s

/-- A lane leaves OFF when it is enabled and RINGCLK is present (R337, R343). -/
def State.laneOn (s : State) (l : Nat) : State :=
  if (s.serLane l).enabled && s.get .REFCLK_PRESENT 0 == 1 && s.laneState l == 0 then
    let s := s.enterDetect l
    if s.get .PORT_STATE (portOf l) = 0 then s.setPort (portOf l) 1 else s
  else s

/-- A port whose lanes are all OFF is DOWN; one that carried traffic raises PORT_DOWN (R343). -/
def State.portAllOff (s : State) (p : Nat) : State :=
  if (portLanes p).all (fun l => s.laneState l == 0) then
    let was := s.portUp p
    let s := s.setTraffic p 0
    let s := s.setLink p { s.link p with waitFrom := none, request := 0, closing := 0, adding := none }
    let s := s.setPort p 0
    if was then s.lnCause p 5 else s
  else s

/-- RINGCLK_LOST (R319). -/
def execRingclkLost (s : State) : Host.Outcome State Fault Refusal :=
  if s.get .REFCLK_PRESENT 0 = 1 then
    let s := (List.range 5).foldl (fun s l => s.laneOff l) s
    let s := s.put .REFCLK_PRESENT 0 0
    let s := (List.range 3).foldl (fun s p => s.portAllOff p) s
    .next (s.cause .LN_CAUSE 0 14)
  else .next s

/-- RINGCLK_RESTORED (R319): RINGCLK has been present for 100 µs; its frequency is `ppm` × 2^-8 ppm
above the time-unit reference (R349). -/
def execRingclkRestored (ppm : Int) (s : State) : Host.Outcome State Fault Refusal :=
  if s.get .REFCLK_PRESENT 0 = 0 then
    let s := (s.put .REFCLK_PRESENT 0 1).put .REFCLK_PPM 0 ppm
    .next ((List.range 5).foldl (fun s l => s.laneOn l) s)
  else .next s

/-- One traffic lane of a ring port in TWO is gone: the port maps its traffic onto the other (R341). -/
def State.degrade (s : State) (l : Nat) : State :=
  let p := portOf l
  let other := 4 * p + 1 - l
  let s := s.setTraffic p (2 ^ (other % 2))
  let x := s.serLane other
  let s := s.setSerLane other { x with ctl := x.ctl ++ [5 * 16777216 + (l % 2) * 65536], stripeAt := none }
  ((s.setPort p 3).lnCause p 3).bump .DROPS p

/-- The port after one of its lanes has been lost (R341, R343). -/
def State.portLosesLane (s : State) (l : Nat) : State :=
  let p := portOf l
  let L := s.link p
  if L.traffic.testBit (l % 2) then
    let s := s.setLink p { L with adding := none, request := 0 }
    if L.traffic = 2 ^ (l % 2) ∨ 4 ≤ (s.serLane (4 * p + 1 - l)).badRun then ((s.setTraffic p 0).setPort p 0).lnCause p 5
    else s.degrade l
  else s.setLink p { L with adding := none }

/-- LANE_ENABLE takes effect at a start of acquisition (R348). -/
def State.applyLaneEnable (s : State) : State :=
  (List.range 5).foldl (fun s l =>
    let on := s.get .LANE_ENABLE l == 1
    let s := s.setSerLane l { s.serLane l with enabled := on }
    if on then s.laneOn l
    else if s.laneState l = 0 then s
    else (((s.portLosesLane l).laneOff l).portAllOff (portOf l)).testOver (portOf l)) s

/-! ### Bring-up (R329 to R337) -/

/-- TX_PLL_LOCKED (R337): the transmitter sends TRAIN blocks from now on. -/
def execTxPllLocked (l : Fin 5) (s : State) : Host.Outcome State Fault Refusal :=
  if s.laneState l = 0 then .next s else .next (s.setSerLane l { s.serLane l with txLocked := true })

/-- The port of a lane that begins to train leaves DOWN (DEDUCED, R343, log entry 83: its lanes have not been OFF). -/
def State.portTrains (s : State) (p : Nat) : State := if s.get .PORT_STATE p = 0 then s.setPort p 1 else s

/-- A lane in DETECT has seen signal for 10 µs (R337). -/
def State.signalSeen (s : State) (l : Nat) : State :=
  let s := (s.setLane' l 2).portTrains (portOf l)
  s.setSerLane l { s.serLane l with leftAt := s.time.cycle }

/-- A port in Hush or Rest is woken (R339, R343). Both loops have stopped in Rest, so the transmitter PLL locks again before
TRAIN blocks are sent (DEDUCED, R339, log entry 224). -/
def State.wakePort (s : State) (p : Nat) : State :=
  let st := s.get .PORT_STATE p
  if st = 4 then
    let s := (portLanes p).foldl (fun s l => if s.laneState l = 6 then s.setLane' l 5 else s) s
    let s := s.setLink p { s.link p with closing := 0 }
    (s.setPort p (if 1 < ones (s.link p).traffic then 2 else 3)).lnCause p 12
  else if st = 5 then
    let s := (portLanes p).foldl (fun s l => if s.laneState l = 7 then
      let s := s.enterDetect l
      s.setSerLane l { s.serLane l with warm := true, txLocked := false } else s) s
    let s := (s.setTraffic p 0).setLink p { s.link p with closing := 0, traffic := 0, waitFrom := none }
    (s.setPort p 1).lnCause p 12
  else s

/-- SIGNAL_DETECTED (R337): a lane in DETECT goes to LOCK. In Rest the far end's signal is its exit (DEDUCED, R339, log entry 84). -/
def execSignalDetected (l : Fin 5) (s : State) : Host.Outcome State Fault Refusal :=
  if s.laneState l = 7 then .next ((s.wakePort (portOf l)).signalSeen l)
  else if s.laneState l = 1 then .next (s.signalSeen l) else .next s

/-- CDR_LOCKED (R337). -/
def execCdrLocked (l : Fin 5) (s : State) : Host.Outcome State Fault Refusal :=
  if s.laneState l = 2 then .next (s.setLane' l 3) else .next s

/-- CDR_LOCK_TIMEOUT (R326, R337): a lock in the block period in which the 100 µs mature wins. -/
def execCdrLockTimeout (l : Fin 5) (s : State) : Host.Outcome State Fault Refusal :=
  if s.laneState l = 2 ∧ blocksOut (usCycles 100) (s.serLane l).stateAt s.time.cycle = true then
    .next ((s.enterDetect l).bump .RETRIES l)
  else .next s

/-- The information words of a usable TRAIN block are published, and the far port name is judged at each change of FAR_ID
(R329, R331, R348, R360). -/
def State.noteTrain (s : State) (l w0 w1 w2 : Nat) : State :=
  let p := portOf l
  let changed := s.get .FAR_ID l != (w0 : Int)
  let s := (s.put .FAR_ID l w0).put .FAR_VERSION l (w2 / 65536 % 65536)
  let ready := w1.testBit 27
  let x := s.serLane l
  let s := s.setSerLane l { x with readyRun := if ready then x.readyRun + 1 else 0 }
  if changed && decide (p < 2) then
    if w0 / 4194304 % 4 = p then s.linkMisfit p
    else s.setLink p { s.link p with misfit := false }
  else s

/-- The lane numbers the two receivers of a ring port have read: crossed, or the same (R331). -/
def State.judgeLanes (s : State) (p : Nat) : State :=
  if p < 2 then
    match (s.serLane (2 * p)).farLane, (s.serLane (2 * p + 1)).farLane with
    | some a, some b =>
      if a = b then s.portFault p 1
      else if a = 1 ∧ b = 0 then
        if s.get .PORT_REVERSED p = 1 then s
        else ((((s.put .PORT_REVERSED p 1).put .RX_PHYS (2 * p) 1).put .RX_PHYS (2 * p + 1) 0)).lnCause p 8
      else ((s.put .PORT_REVERSED p 0).put .RX_PHYS (2 * p) 0).put .RX_PHYS (2 * p + 1) 1
    | _, _ => s
  else s

/-- ALIGNMENT_FOUND (R330 to R332): 32 headers are found, inverted or not, the last with `bsn`; `w0` to `w2` are the
information words of the first usable TRAIN block. -/
def execAlignmentFound (l : Fin 5) (inverted : Bool) (bsn : Nat) (w0 w1 w2 : Nat) (s : State) :
    Host.Outcome State Fault Refusal :=
  if s.laneState l = 3 then
    let p := portOf l
    let s := (s.setLane' l 4).put .RX_INVERTED l (b2i inverted)
    let s := if inverted then s.lnCause p 7 else s
    let x := s.serLane l
    let s := s.setSerLane l { x with lastBsn := some (bsn % 1024), farLane := some (w0 / 2097152 % 2), adaptDone := false, readyRun := 0 }
    let s := s.noteTrain l w0 w1 w2
    let port := w0 / 4194304 % 4
    if (p = 2 ∧ port ≠ 2) ∨ (p < 2 ∧ port = 2) then .next (s.portFault p 3)
    else .next (s.judgeLanes p)
  else .next s

/-- Blocks over which a lane's receiver adapts, from stored coefficients or from none (R332). -/
def adaptBlocks (warm : Bool) : Nat := if warm then 4096 else 16384

/-- ADAPTATION_DONE (R332): 16,384 blocks after alignment, 4,096 when the lane has left Rest, the coefficients found stand in
RX_CTLE and RX_DFE. -/
def execAdaptationDone (l : Fin 5) (ctle : Nat) (dfe : List Byte) (s : State) : Host.Outcome State Fault Refusal :=
  let x := s.serLane l
  if s.laneState l = 4 ∧ blockOf x.stateAt + adaptBlocks x.warm ≤ blockOf s.time.cycle then
    let s := (s.put .RX_CTLE l (ctle % 256 : Nat)).putBytes .RX_DFE l (dfe.take 5)
    .next (s.setSerLane l { s.serLane l with adaptDone := true, warm := false })
  else .next s

/-- The first block that is live: its BSN is a multiple of 64 and at least 16 ahead (R333). -/
def liveFrom (bsn : Nat) : Nat := (bsn + 16 + 63) / 64 * 64 % 1024

/-- The ring port of a lane that has become ACTIVE, with the arrival skew in UI (R334, R343). -/
def State.portGains (s : State) (p l skew : Nat) : State :=
  if p = 2 then ((s.setTraffic 2 1).setPort 2 3).lnCause 2 2
  else
    let other := 4 * p + 1 - l
    let st := s.get .PORT_STATE p
    if s.laneState other = 5 then
      let s := (s.put .SKEW l (skew % 65536 : Nat)).put .SKEW other (skew % 65536 : Nat)
      if 1088 < skew then s.portFault p 2
      else if st = 1 then (((s.setLink p { s.link p with waitFrom := none }).setTraffic p 3).setPort p 2).lnCause p 2
      else s
    else if st = 1 then s.setLink p { s.link p with waitFrom := some s.time.cycle }
    else s

/-- LANE_ACTIVE (R333): the lane is ready and 8 usable TRAIN blocks with READY have come. -/
def execLaneActive (l : Fin 5) (skew : Nat) (s : State) : Host.Outcome State Fault Refusal :=
  let x := s.serLane l
  if s.laneState l = 4 ∧ x.adaptDone = true ∧ 8 ≤ x.readyRun ∧ s.get .PORT_STATE (portOf l) ≠ 7 then
    let p := portOf l
    let s := s.setLane' l 5
    let s := s.setSerLane l { s.serLane l with liveAt := some (liveFrom (s.link p).bsn) }
    let s := s.put .BRINGUP_TIME l (roundAt .other (s.time.cycle - x.leftAt : Nat) 500)
    .next ((s.lnCause p 0).portGains p l skew)
  else .next s

/-- BRINGUP_LIMIT_EXPIRY (R326, R335): an entry into ACTIVE in the block period in which the limit matures wins. -/
def execBringupLimitExpiry (l : Fin 5) (s : State) : Host.Outcome State Fault Refusal :=
  let st := s.laneState l
  if (st = 3 ∨ st = 4) ∧ s.get .PORT_STATE (portOf l) ≠ 7 ∧
      blocksOut (usCycles (s.get .BRINGUP_LIMIT (portOf l)).toNat) (s.serLane l).leftAt s.time.cycle = true then
    .next (((s.enterDetect l).bump .RETRIES l).lnCause (portOf l) 9)
  else .next s

/-- PORT_WAIT_EXPIRY (R326, R343): a second lane that comes up in the block period in which the wait matures wins. -/
def execPortWaitExpiry (p : Fin 2) (s : State) : Host.Outcome State Fault Refusal :=
  match (s.link p).waitFrom with
  | some t =>
    if s.get .PORT_STATE p = 1 ∧ blocksOut (usCycles (s.get .PORT_WAIT p).toNat) t s.time.cycle = true then
      match (portLanes p).find? (fun l => s.laneState l == 5) with
      | some l =>
        let s := (s.setLink p { s.link p with waitFrom := none }).setTraffic p (2 ^ (l % 2))
        .next ((s.setPort p 3).lnCause p 2)
      | none => .next s
    else .next s
  | none => .next s

/-- PORT_FAULT_RETRY (R326, R336, R343): every 10 ms the lanes go to DETECT and the port to TRAINING, where a cause that is still
there puts it in FAULT again (DEDUCED, log entry 217). -/
def execPortFaultRetry (p : Fin 3) (s : State) : Host.Outcome State Fault Refusal :=
  if s.get .PORT_STATE p = 7 ∧ blockOf (s.link p).faultAt + limitBlocks (msCycles 10) ≤ blockOf s.time.cycle then
    let s := (portLanes p).foldl (fun s l => if s.laneState l = 0 then s else s.enterDetect l) s
    .next ((s.put .FAULT_CODE p 0).setPort p 1)
  else .next s

/-! ### Loss and return of a lane (R328, R341, R342) -/

/-- LANE_LOST (R328): four headers in a row counted, or the amplitude or the clock recovery lost (`analogue`). -/
def execLaneLost (l : Fin 5) (analogue : Bool) (s : State) : Host.Outcome State Fault Refusal :=
  if s.laneState l = 5 ∧ (analogue ∨ 4 ≤ (s.serLane l).badRun) then
    let s := (s.bump .LOCK_LOSSES l).lnCause (portOf l) 1
    .next ((s.enterDetect l).portLosesLane l)
  else .next s

/-- LANE_DROP_RX (R341): the far end has lost a lane; this side drops it too. -/
def execLaneDropRx (p : Fin 2) (lane : Fin 2) (s : State) : Host.Outcome State Fault Refusal :=
  let l := 2 * p.val + lane.val
  if s.get .PORT_STATE p = 2 then .next ((s.enterDetect l).degrade l) else .next s

/-- Both lanes carry traffic again from a BSN on (R342). -/
def State.restore (s : State) (p lane at_ : Nat) : State :=
  let l := 2 * p + lane
  let s := s.setSerLane l { s.serLane l with stripeAt := some (at_ % 1024) }
  let s := (s.setLink p { s.link p with adding := none }).setTraffic p 3
  (s.setPort p 2).lnCause p 4

/-- The lane of a ring port in ONE that is ready and not in use. -/
def State.spareLane (s : State) (p : Nat) : Option Nat :=
  if s.get .PORT_STATE p = 3 then
    (portLanes p).find? (fun l => s.laneState l == 5 && !(s.link p).traffic.testBit (l % 2))
  else none

/-- Sends a command word on the traffic lanes of a port (R340). -/
def State.sendControl (s : State) (p word : Nat) : State :=
  (portLanes p).foldl (fun s l =>
    if (s.link p).traffic.testBit (l % 2) then
      let x := s.serLane l
      s.setSerLane l { x with ctl := x.ctl ++ [word] }
    else s) s

/-- A command word of codes 0x05 to 0x07 (R340). -/
def laneWord (opc lane at_ : Nat) : Nat := opc * 16777216 + lane * 65536 + at_ % 1024

/-- LANE_ADD_SEND (R342): BSN_AT is the first multiple of 64 at least 256 blocks ahead. -/
def execLaneAddSend (p : Fin 2) (s : State) : Host.Outcome State Fault Refusal :=
  match s.spareLane p with
  | some l =>
    let at_ := ((s.link p).bsn + 256 + 63) / 64 * 64 % 1024
    .next ((s.setLink p { s.link p with adding := some (l % 2, at_) }).sendControl p (laneWord 6 (l % 2) at_))
  | none => .next s

/-- The hub address of the far hub of a port, from FAR_ID of a lane (R329). -/
def State.farAddress (s : State) (l : Nat) : Nat := (s.get .FAR_ID l).toNat / 4096 % 512

/-- LANE_ADD_RX (R342): answered with the same BSN_AT, or one 256 blocks ahead when it is too near; when both ends have
sent LANE_ADD, the BSN_AT of the hub with the lower address stands. -/
def execLaneAddRx (p : Fin 2) (lane : Fin 2) (bsnAt : Nat) (s : State) : Host.Outcome State Fault Refusal :=
  match s.spareLane p with
  | some l =>
    if l % 2 = lane.val then
      let other := 4 * p.val + 1 - l
      let now := (s.serLane other).lastBsn.getD (s.link p).bsn
      let near := (bsnAt % 1024 + 1024 - now) % 1024 < 64
      let given := if near then (now + 256) % 1024 else bsnAt % 1024
      let at_ := match (s.link p).adding with
        | some (_, own) => if Config.hubAddress < s.farAddress other then own else given
        | none => given
      .next ((s.sendControl p (laneWord 7 lane at_)).restore p lane at_)
    else .next s
  | none => .next s

/-- LANE_ADD_ACK_RX (R342). -/
def execLaneAddAckRx (p : Fin 2) (lane : Fin 2) (bsnAt : Nat) (s : State) : Host.Outcome State Fault Refusal :=
  match s.spareLane p, (s.link p).adding with
  | some l, some (a, _) => if a = lane.val ∧ l % 2 = lane.val then .next (s.restore p lane bsnAt) else .next s
  | _, _ => .next s

/-! ### Hush and Rest (R339) -/

/-- Hush (1) or Rest (2) is agreed: 8 more CONTROL blocks, then electrical idle. -/
def State.goQuiet (s : State) (p kind word : Nat) : State :=
  let s := s.setLink p { s.link p with request := 0, reqBlocks := 0, closing := 8, closeWord := word }
  let s := (portLanes p).foldl (fun s l => if s.laneState l = 5 then s.setLane' l (5 + (kind : Int)) else s) s
  (s.setPort p (3 + (kind : Int))).lnCause p 11

/-- This hub must not answer a request (R339): it is the vat grandmaster, the ring port carries a twin witness path of its own
(DEDUCED, log entry 218), or its own PORT_POWER is 0. -/
def State.refusesQuiet (s : State) (p : Nat) : Bool :=
  s.get .RT_ROLE 0 == 3 || s.get .PORT_POWER p == 0 || (decide (p < 2) && (s.get .TWIN_ENABLE 0 == 1 ||
  (s.get .WITNESS_ENABLE 0 == 1 && (List.range 4).any (fun w => s.get .WIT_TWIN w != 0x1FF))))

/-- A request for Hush or Rest begins at a port that is up (R339). -/
def State.requestQuiet (s : State) (p kind : Nat) : State :=
  if s.portUp p then s.setLink p { s.link p with request := kind, reqBlocks := 0 } else s

/-- A request for Hush or Rest through PORT_POWER, which takes the state wanted (R339). -/
def State.askQuiet (s : State) (p kind : Nat) : State := (s.put .PORT_POWER p kind).requestQuiet p kind

/-- PORT_HUSH_REQUEST (R339). -/
def execPortHushRequest (w : Who) (p : Fin 3) (s : State) : Host.Outcome State Fault Refusal :=
  .next (asWrite w .engineer .PORT_POWER p true false true (.num (s.get .PORT_POWER p)) (.num 1)
    (fun s => (.ok, (s.abortItems [6]).askQuiet p 1)) s)

/-- PORT_REST_REQUEST (R339). -/
def execPortRestRequest (w : Who) (p : Fin 3) (s : State) : Host.Outcome State Fault Refusal :=
  .next (asWrite w .engineer .PORT_POWER p true false true (.num (s.get .PORT_POWER p)) (.num 2)
    (fun s => (.ok, (s.abortItems [6]).askQuiet p 2)) s)

/-- PORT_ACTIVE_REQUEST (R339). -/
def execPortActiveRequest (w : Who) (p : Fin 3) (s : State) : Host.Outcome State Fault Refusal :=
  .next (asWrite w .engineer .PORT_POWER p true false true (.num (s.get .PORT_POWER p)) (.num 0)
    (fun s =>
      let s := (s.abortItems [6]).put .PORT_POWER p 0
      (.ok, (s.setLink p { s.link p with request := 0 }).wakePort p)) s)

/-- HUSH_ACK_TIMEOUT (R339): 64 blocks without the ACK, and the block period in which they end is over. -/
def execHushAckTimeout (p : Fin 3) (s : State) : Host.Outcome State Fault Refusal :=
  let l := s.link p
  if l.request ≠ 0 ∧ 64 < l.reqBlocks then
    .next ((s.setLink p { l with request := 0, reqBlocks := 0 }).lnCause p 10)
  else .next s

/-- A request of the far end (R339, R346): answered with the ACK, or taken as the ACK of the same request of this end. -/
def State.onQuietReq (s : State) (p kind : Nat) : State :=
  if s.portUp p then
    if (s.link p).request = kind then s.goQuiet p kind (2 * kind * 16777216)
    else if s.refusesQuiet p then s
    else s.goQuiet p kind (2 * kind * 16777216)
  else s

/-- HUSH_REQ_RX (R339). -/
def execHushReqRx (p : Fin 3) (s : State) : Host.Outcome State Fault Refusal := .next (s.onQuietReq p 1)

/-- REST_REQ_RX (R339). -/
def execRestReqRx (p : Fin 3) (s : State) : Host.Outcome State Fault Refusal := .next (s.onQuietReq p 2)

/-- An ACK of the far end (R339). -/
def State.onQuietAck (s : State) (p kind : Nat) : State :=
  if s.portUp p && (s.link p).request == kind then s.goQuiet p kind ((2 * kind - 1) * 16777216) else s

/-- HUSH_ACK_RX (R339). -/
def execHushAckRx (p : Fin 3) (s : State) : Host.Outcome State Fault Refusal := .next (s.onQuietAck p 1)

/-- REST_ACK_RX (R339). -/
def execRestAckRx (p : Fin 3) (s : State) : Host.Outcome State Fault Refusal := .next (s.onQuietAck p 2)

/-! ### Test patterns and injections (R344, R345) -/

/-- LANE_TEST_ENTER (R337, R343): any lane but one that is OFF. -/
def execLaneTestEnter (w : Who) (l : Fin 5) (s : State) : Host.Outcome State Fault Refusal :=
  .next (asCommand w .service .LANE_TEST l (.num 1) (fun s =>
    if s.laneState l = 0 then (.refused, s)
    else
      let p := portOf l
      let s := ((s.enterDetect l).setLane' l 8).put .PAT_SYNC l 0
      let s := s.setSerLane l { s.serLane l with patGood := 0, patBits := 0, patErrs := 0, patRaised := false, warm := false, injects := [] }
      let s := (s.setLink p { s.link p with waitFrom := none, request := 0, adding := none }).setTraffic p 0
      (.ok, s.setPort p 6)) s)

/-- LANE_TEST_LEAVE (R337, R343). -/
def execLaneTestLeave (w : Who) (l : Fin 5) (s : State) : Host.Outcome State Fault Refusal :=
  .next (asCommand w .service .LANE_TEST l (.num 0) (fun s =>
    if s.laneState l = 8 then
      (.ok, (s.enterDetect l).testOver (portOf l))
    else (.ok, s)) s)

/-- A write to INJECT of a kind (R345), refused where the kind does not act. -/
def State.inject (s : State) (l kind n : Nat) : Err × State :=
  let st := s.laneState l
  let acts := if kind = 0 then true else if kind = 2 then st == 5 || st == 8 else st == 5
  if !acts then (.refused, s)
  else if n % 256 = 0 then (.ok, s)
  else
    let x := s.serLane l
    (.ok, s.setSerLane l { x with injects := x.injects ++ [(kind, n % 256)] })

/-- INJECT_LINE_BIT (R345). -/
def execInjectLineBit (w : Who) (l : Fin 5) (n : Nat) (s : State) : Host.Outcome State Fault Refusal :=
  .next (asCommand w .service .INJECT l (.num (n % 256 : Nat)) (fun s => s.inject l 0 n) s)

/-- INJECT_HEADER_BIT (R345). -/
def execInjectHeaderBit (w : Who) (l : Fin 5) (n : Nat) (s : State) : Host.Outcome State Fault Refusal :=
  .next (asCommand w .service .INJECT l (.num (256 + n % 256 : Nat)) (fun s => s.inject l 1 n) s)

/-- INJECT_STUFF (R345). -/
def execInjectStuff (w : Who) (l : Fin 5) (n : Nat) (s : State) : Host.Outcome State Fault Refusal :=
  .next (asCommand w .service .INJECT l (.num (512 + n % 256 : Nat)) (fun s => s.inject l 2 n) s)

/-- INJECT_PAYLOAD_BIT (R345). -/
def execInjectPayloadBit (w : Who) (l : Fin 5) (n : Nat) (s : State) : Host.Outcome State Fault Refusal :=
  .next (asCommand w .service .INJECT l (.num (768 + n % 256 : Nat)) (fun s => s.inject l 3 n) s)

/-- LN_CAUSE_CLEAR (R347). -/
def execLnCauseClear (w : Who) (mask : Nat) (s : State) : Host.Outcome State Fault Refusal :=
  .next (clearCommand w .LN_CAUSE_CLEAR .LN_CAUSE 0 mask s)

/-! ### The line code (R320 to R324, R329, R350, R351) -/

/-- A block header of a type and BSN, HPAR making the number of ones odd (R320). -/
def blockHeader (btype bsn : Nat) : Nat :=
  let h := 6 * 8192 + btype * 2048 + bsn % 1024 * 2
  if (natBits 16 h).countP (fun b => b) % 2 = 1 then h else h + 1

/-- `n` bits of the scrambler's key from a state, first bit most significant (R321). -/
def keyBits : Nat → Nat → Nat → Nat
  | 0, _, acc => acc
  | n + 1, st, acc =>
    let k := if st.testBit 30 != st.testBit 27 then 1 else 0
    keyBits n ((st * 2 + k) % 2 ^ 31) (acc * 2 + k)

/-- The 256 key bits of a block: the seed is BSN, LL and 0xA_53C1 (R321). -/
def blockKey (bsn ll : Nat) : Nat := keyBits 256 (bsn % 1024 * 2 ^ 21 + ll % 2 * 2 ^ 20 + 0xA53C1) 0

/-- The training word TP of a BSN (R324). -/
def trainingWord (bsn : Nat) : Nat :=
  match bsn % 8 with
  | 0 => 0x00000000 | 1 => 0xFFFFFFFF | 2 => 0x55555555 | 3 => 0x33333333
  | 4 => 0x0F0F0F0F | 5 => 0x00FF00FF | 6 => 0x0000FFFF | _ => 0x69966996

/-- Eight words as a payload, the first sent first. -/
def payloadOf (ws : List Nat) : Nat := ws.foldl (fun n w => n * 2 ^ 32 + w % 2 ^ 32) 0

/-- The payload of a TRAIN block of a lane (R329). -/
def State.trainPayload (s : State) (l : Nat) : Nat :=
  let p := portOf l
  let x := s.serLane l
  let st := s.laneState l
  let aligned := st == 4 || st == 5
  let flag (b : Bool) (i : Nat) : Nat := if b then 2 ^ i else 0
  let w0 := 0x5C * 2 ^ 24 + p * 2 ^ 22 + (l % 2) * 2 ^ 21 + Config.hubAddress % 512 * 2 ^ 12
  let w1 := flag aligned 31 + flag (s.get .RX_INVERTED l == 1 && aligned) 30 + flag (s.get .PORT_REVERSED p == 1) 29 +
    flag x.adaptDone 28 + flag (aligned && x.adaptDone) 27
  let w2 := (s.get .RING_VERSION 0).toNat * 2 ^ 16 + (portLanes p).length * 2 ^ 8
  payloadOf ([w0, w1, w2, 0].flatMap (fun w => [w, 2 ^ 32 - 1 - w]))

/-- The words of a frame as they are sent, byte 0 in bits [31:24] (R354). -/
def sendWords : List Byte → List Nat
  | a :: b :: c :: d :: t => (a.toNat * 2 ^ 24 + b.toNat * 2 ^ 16 + c.toNat * 2 ^ 8 + d.toNat) :: sendWords t
  | _ => []

/-- A DATA payload with its BCRC over header and payload (R350, R351). -/
def dataPayload (header stream fstart : Nat) (ws : List Nat) : Nat :=
  let fdata := payloadOf (ws ++ List.replicate (7 - ws.length) 0)
  let upper := fdata * 2 ^ 16 + fstart * 2 ^ 12 + stream * 2 ^ 10 + ws.length * 2 ^ 7
  upper * 2 ^ 16 + crc16Bits (natBits 16 header ++ natBits 240 upper)

/-! ### Sending (R323, R333, R339, R344, R345, R369) -/

/-- The stream of a rank (R369). -/
def streamOf (rank : Nat) : Nat := if rank < 5 then 0 else if rank = 5 then 1 else 2

/-- The first frame of a stream that waits, and those left. -/
def takeStream (stream : Nat) : List (Nat × Frame) → Option Frame × List (Nat × Frame)
  | [] => (none, [])
  | (r, f) :: t =>
    if streamOf r = stream then (some f, t)
    else
      let (g, rest) := takeStream stream t
      (g, (r, f) :: rest)

/-- A Time frame waits at a port. -/
def timeWaits (tx : List (Nat × Frame)) : Bool := tx.any (fun x => x.1 == 0)

/-- Fills a block of a stream: words of the frame in progress, then whole frames begun, up to seven words; with the word
at which the first frame begins, 15 for none. A Time frame begins at word 0 only (R384), and none of its stream
begins before it. -/
def State.fillBlock (p stream : Nat) (held : Bool) :
    Nat → Nat → List Nat → List (Nat × Frame) → State → List Nat × Nat × List (Nat × Frame) × State
  | 0, fs, ws, tx, s => (ws, fs, tx, s)
  | n + 1, fs, ws, tx, s =>
    if 7 ≤ ws.length || held || (stream == 0 && timeWaits tx && !ws.isEmpty) then (ws, fs, tx, s)
    else match takeStream stream tx with
      | (none, _) => (ws, fs, tx, s)
      | (some f, rest) =>
        let (f, s) := s.stampFrame p f
        let s := (s.emit (.frame p f)).add64 .FRAMES_TX p 1
        let s := if 0 < f.hops && !s.isOwn f then s.add64 .FRAMES_FORWARDED p 1 else s
        State.fillBlock p stream held n (if fs = 15 then ws.length else fs) (ws ++ sendWords f.bytes) rest s

/-- The stream that takes the next DATA block of a lane (R369): the lowest that has a frame in progress or may begin one; a
paused port begins no bulk frame (R371), and while a Time frame waits the express stream begins on the timing lane only
(R384). -/
def State.nextStream (s : State) (p lane : Nat) : Option Nat :=
  let l := s.link p
  let paused := s.get .PAUSED p == 1
  let timing := (lane : Int) == s.get .TIMING_LANE p
  [0, 1, 2].find? (fun k =>
    !(Sparse.get (fun _ => []) l.cur k).isEmpty ||
    (l.tx.any (fun x => streamOf x.1 == k) && (if k = 0 then timing || !timeWaits l.tx else !paused)))

/-- The next DATA block of a port: its stream, FSTART and words. -/
def State.nextData (s : State) (p lane : Nat) : Option (Nat × Nat × List Nat) × State :=
  match s.nextStream p lane with
  | none => (none, s)
  | some k =>
    let l := s.link p
    let paused := k != 0 && s.get .PAUSED p == 1
    let (ws, fs, tx, s) := State.fillBlock p k paused 7 15 (Sparse.get (fun _ => []) l.cur k) l.tx s
    let s := s.setLink p { s.link p with tx, cur := Sparse.put (fun _ => []) (fun k => k) l.cur k (ws.drop 7) }
    (some (k, fs, ws.take 7), if p < 2 then s.resumeWhenLow p else s)

/-- What the limiter of R322 has sent: bits, last bit, run, and whether an injection of kind 2 has acted. -/
structure Limiter where
  out  : List Bool
  last : Bool
  run  : Nat
  done : Bool

/-- One bit through the limiter; `skip` 1 omits the next stuff bit that falls due, 2 sends an equal bit in its place. -/
def Limiter.push (skip : Nat) (m : Limiter) (b : Bool) : Limiter :=
  let run := if b = m.last then m.run + 1 else 1
  if run < 48 then { m with out := b :: m.out, last := b, run }
  else if skip = 1 && !m.done then { m with out := b :: m.out, last := b, run := 0, done := true }
  else if skip = 2 && !m.done then { m with out := b :: b :: m.out, last := b, run := 1, done := true }
  else { m with out := (!b) :: b :: m.out, last := !b, run := 1 }

/-- An injection has been applied (R345). -/
def State.injected (s : State) (l : Nat) : State :=
  let x := s.serLane l
  let rest := match x.injects with
    | (k, n) :: t => if n ≤ 1 then t else (k, n - 1) :: t
    | [] => []
  (s.setSerLane l { x with injects := rest, stuffWait := 0 }).bump .INJECTED l

/-- The injection that waits first on a lane (R345), 9 for none. -/
def SerLane.kind (x : SerLane) : Nat := (x.injects.head?.map (fun i => i.1)).getD 9

/-- The line bits that stand for bits of a lane: through the limiter and the injections of kinds 0 and 2; `used` tells that the
injection of another kind has acted (R322, R345). The bit that an injection inverts is `r` (log entry 5). -/
def State.lineBits (s : State) (l r : Nat) (bits : List Bool) (used : Bool) : List Bool × State :=
  let x := s.serLane l
  let kind := x.kind
  let skip := if kind = 2 then (if 1024 ≤ x.stuffWait then 2 else 1) else 0
  let m := bits.foldl (Limiter.push skip) ⟨[], x.lastBit, x.run, false⟩
  let out := m.out.reverse
  let out := if kind = 0 then out.modify (r % out.length) (fun b => !b) else out
  let s := s.setSerLane l { x with lastBit := m.last, run := m.run, stuffWait := if kind = 2 then x.stuffWait + 1 else 0 }
  (out, if kind = 0 ∨ (kind = 2 && m.done) ∨ used then s.injected l else s)

/-- Line bits leave a lane. -/
def State.emitLine (s : State) (l : Nat) (out : List Bool) : State :=
  s.emit (.block l out.length (out.foldl (fun n b => 2 * n + (if b then 1 else 0)) 0))

/-- Sends a block on a lane, through the limiter and whatever injection waits (R322, R345). The bit that an injection inverts
is open (log entry 5). -/
def State.sendBlock (s : State) (l header payload : Nat) (isData : Bool) : State :=
  let kind := (s.serLane l).kind
  let (r, s) := s.draw
  let header := if kind = 1 then header ^^^ 2 ^ 15 else header
  let payload := if kind = 3 && isData then payload ^^^ 2 ^ (r % 256) else payload
  let (out, s) := s.lineBits l r (natBits 272 (header * 2 ^ 256 + payload)) (kind = 1 || (kind = 3 && isData))
  s.emitLine l out

/-! ### Test patterns (R344) -/

/-- The length of a PRBS register and the bits that feed it back. -/
def prbsTaps (mode : Int) : Option (Nat × Nat × Nat) :=
  if mode = 1 then some (7, 6, 5) else if mode = 2 then some (15, 14, 13)
  else if mode = 3 ∨ mode = 7 then some (31, 30, 27) else none

/-- The next bit of a pattern, and the register and place after it. An empty register gives a one, with which a PRBS begins. -/
def patNext (mode : Int) (user : Nat) (reg phase : Nat) : Bool × Nat × Nat :=
  match prbsTaps mode with
  | some (n, a, b) =>
    let r := reg % 2 ^ n
    let k := r == 0 || (r.testBit a != r.testBit b)
    (k, (2 * r + (if k then 1 else 0)) % 2 ^ n, phase)
  | none =>
    let k := if mode = 4 then phase % 2 == 0 else if mode = 5 then decide (phase % 40 < 20) else user.testBit (31 - phase % 32)
    (k, reg, (phase + 1) % 160)

/-- `n` bits of a pattern, and the register and place after them. -/
def patBits (mode : Int) (user : Nat) : Nat → Nat → Nat → List Bool × Nat × Nat
  | 0, reg, phase => ([], reg, phase)
  | n + 1, reg, phase =>
    let (k, reg, phase) := patNext mode user reg phase
    let (t, reg, phase) := patBits mode user n reg phase
    (k :: t, reg, phase)

/-- The receiver's side of the limiter, after a run of a bit: the bits kept, the stuff bits removed and the violations (R322). -/
def destuff (last : Bool) (run : Nat) : List Bool → List Bool × Nat × Nat
  | [] => ([], 0, 0)
  | b :: t =>
    if run = 48 then
      if b = last then
        let (o, n, v) := destuff b 1 t
        (b :: o, n, v + 1)
      else
        let (o, n, v) := destuff b 1 t
        (o, n + 1, v)
    else
      let (o, n, v) := destuff b (if b = last then run + 1 else 1) t
      (b :: o, n, v)

/-- One compared bit of the pattern checker (R344). -/
def State.patternBit (s : State) (l : Nat) (bad : Bool) : State :=
  let x := s.serLane l
  if s.get .PAT_SYNC l = 0 then
    let good := if bad then 0 else x.patGood + 1
    if 64 ≤ good then
      (s.setSerLane l { x with patGood := 0, patBits := 0, patErrs := 0, patRaised := false }).put .PAT_SYNC l 1
    else s.setSerLane l { x with patGood := good }
  else
    let s := s.add64 .PAT_BITS l 1
    let errs := if bad then x.patErrs + 1 else x.patErrs
    let s := if bad then s.add64 .PAT_ERRORS l 1 else s
    let s := if bad && !x.patRaised then s.lnCause (portOf l) 13 else s
    let n := x.patBits + 1
    let x := { x with patBits := if n = 1024 then 0 else n, patErrs := if n = 1024 then 0 else errs, patRaised := x.patRaised || bad }
    if 32 < errs then (s.setSerLane l { x with patGood := 0 }).put .PAT_SYNC l 0 else s.setSerLane l x

/-- One received bit at the checker (R344). Until it is synchronised its register takes what is received and its place in a fixed
pattern waits at each error (DESIGN CHOICE, log entry 219); then both run on by themselves. -/
def State.patternIn (s : State) (l : Nat) (b : Bool) : State :=
  let x := s.serLane l
  let (k, reg, phase) := patNext (s.get .PAT_MODE l) (s.get .PAT_USER l).toNat x.rxReg x.rxPhase
  let bad := k != b
  let x := if s.get .PAT_SYNC l = 0 then
      { x with rxReg := (2 * x.rxReg + (if b then 1 else 0)) % 2 ^ 31, rxPhase := if bad then x.rxPhase else phase }
    else { x with rxReg := reg, rxPhase := phase }
  (s.setSerLane l x).patternBit l bad

/-- A lane in TEST sends 272 bits of its pattern; in near-end loopback its own receiver takes them and the line is idle (R344). -/
def State.sendPattern (s : State) (l : Nat) (mode : Int) : State :=
  let x := s.serLane l
  let (bits, reg, phase) := patBits mode (s.get .PAT_USER l).toNat 272 x.txReg x.txPhase
  let (r, s) := (s.setSerLane l { x with txReg := reg, txPhase := phase }).draw
  let (out, s) := s.lineBits l r bits false
  if mode = 7 then
    let (kept, n, v) := destuff x.lastBit x.run out
    kept.foldl (fun s b => s.patternIn l b) ((s.add64 .STUFF_BITS l n).add32 .STUFF_ERRORS l v)
  else s.emitLine l out

/-- Sends a scrambled block on a lane. -/
def State.sendScrambled (s : State) (l btype bsn payload : Nat) : State :=
  s.sendBlock l (blockHeader btype bsn) (payload ^^^ blockKey bsn (l % 2)) (btype == 0)

/-- A CONTROL block with a command word (R340). -/
def State.sendCommand (s : State) (l bsn word : Nat) : State :=
  let s := s.setSerLane l { s.serLane l with sinceIdle := (s.serLane l).sinceIdle + 1 }
  s.sendScrambled l 3 bsn (payloadOf [word, 0, 0, 0, 0, 0, 0, 0])

/-- An IDLE block (R324). -/
def State.sendIdle (s : State) (l bsn : Nat) : State :=
  let s := s.setSerLane l { s.serLane l with sinceIdle := 0 }
  s.sendScrambled l 1 bsn (payloadOf (List.replicate 8 (trainingWord bsn)))

/-- The live block of an ACTIVE lane (R323, R339, R340, R369); a fenced port sends IDLE and CONTROL blocks alone, once its
LINK_KILL has left (R346, R517). -/
def State.sendLive (s : State) (p l bsn : Nat) : State :=
  let x := s.serLane l
  let L := s.link p
  if 8191 ≤ x.sinceIdle then s.sendIdle l bsn
  else match x.ctl with
  | word :: t => (s.setSerLane l { x with ctl := t }).sendCommand l bsn word
  | [] =>
    if L.request ≠ 0 ∧ L.reqBlocks % 8 = 0 then s.sendCommand l bsn ((2 * L.request - 1) * 16777216)
    else if L.traffic.testBit (l % 2) && x.stripeAt.isNone && (!s.portFenced p || !L.tx.isEmpty || !L.cur.isEmpty) then
      match s.nextData p (l % 2) with
      | (some (k, fs, ws), s) =>
        let s := s.setSerLane l { s.serLane l with sinceIdle := (s.serLane l).sinceIdle + 1 }
        s.sendScrambled l 0 bsn (dataPayload (blockHeader 0 bsn) k fs ws)
      | (none, s) => s.sendIdle l bsn
    else s.sendIdle l bsn

/-- A TRAIN block, not scrambled (R329). -/
def State.sendTrain (s : State) (l bsn : Nat) : State := s.sendBlock l (blockHeader 2 bsn) (s.trainPayload l) false

/-- What a lane sends in a transmit block period (R337, R344). -/
def State.sendLane (s : State) (p l bsn : Nat) : State :=
  let x := s.serLane l
  let st := s.laneState l
  if st = 0 || !x.txLocked then s
  else if st = 8 then
    let mode := s.get .PAT_MODE l
    if mode = 0 then s.sendTrain l bsn else if mode = 8 then s else s.sendPattern l mode
  else if st = 6 ∨ st = 7 then
    if 0 < (s.link p).closing then s.sendCommand l bsn (s.link p).closeWord else s
  else if st < 5 ∨ s.get .PORT_STATE p = 7 then s.sendTrain l bsn
  else
    let x := if x.stripeAt = some bsn then { x with stripeAt := none } else x
    match x.liveAt with
    | some b =>
      if b = bsn then (s.setSerLane l { x with liveAt := none }).sendLive p l bsn
      else (s.setSerLane l x).sendTrain l bsn
    | none => (s.setSerLane l x).sendLive p l bsn

/-- Of what waits at a port that is fenced or goes DOWN only its LINK_KILL still leaves (R346, R517, R550). -/
def State.keepKill (s : State) (p : Nat) : State :=
  let l := s.link p
  s.setLink p { l with tx := l.tx.filter (fun x => x.2.cls == 3 && x.2.op == 3), cur := [] }

/-- A ring port of a hub in SEALING goes DOWN once nothing is left to send (R550; DEDUCED, log entry 222). -/
def State.sealOff (s : State) (p : Nat) : State :=
  if p < 2 ∧ s.get .PWR_STATE 0 = 3 ∧ (s.link p).tx.isEmpty = true ∧ (s.link p).cur.isEmpty = true then
    ((portLanes p).foldl (fun (s : State) l => s.laneOff l) s).portAllOff p
  else s

/-- TRANSMIT_BLOCK (R320, R369): one transmit block period of a port: each of its lanes sends a block of the same BSN. -/
def execTransmitBlock (p : Fin 3) (s : State) : Host.Outcome State Fault Refusal :=
  let bsn := (s.link p).bsn
  let s := (portLanes p).foldl (fun s l => s.sendLane p l bsn) s
  let l := s.link p
  let s := s.setLink p { l with bsn := (bsn + 1) % 1024, closing := l.closing - 1
                                reqBlocks := if l.request = 0 then 0 else l.reqBlocks + 1 }
  .next (s.sealOff p)

/-! ### Receiving (R325 to R328, R338, R350 to R354) -/

/-- Frames of a stream that are whole, the bytes left, and whether the next length is one that no frame has (R353, R358). -/
def cutFrames : Nat → List Byte → List (List Byte) × List Byte × Bool
  | 0, b => ([], b, false)
  | n + 1, b =>
    if b.length < 4 then ([], b, false)
    else
      let len := leNat (slice b 2 2)
      if len < 16 ∨ len % 4 ≠ 0 then ([], [], true)
      else if b.length < len then ([], b, false)
      else
        let (fs, rest, bad) := cutFrames n (b.drop len)
        (b.take len :: fs, rest, bad)

/-- A DATA block failed or is missing: it counts in its block period (R354, R376). -/
def State.noteBad (s : State) (p n : Nat) : State :=
  let l := s.link p
  let kept := l.badPeriods.filter (fun t => decide (l.period < t + 256))
  s.setLink p { l with badPeriods := List.replicate (min n 256) l.period ++ kept }

/-- Cause 2 of R376 is decided. -/
def State.judgeErrors (s : State) (p : Nat) : State :=
  if p < 2 ∧ s.get .LINK_ERR_LIMIT p ≤ ((s.link p).errors : Int) then s.linkFail p 2 else s

/-- The words of a good DATA block enter their stream (R353, R354). -/
def State.takeWords (s : State) (p stream fstart : Nat) (ws : List Nat) : State :=
  let l := s.link p
  let bytes (w : Nat) : List Byte :=
    [BitVec.ofNat 8 (w / 2 ^ 24), BitVec.ofNat 8 (w / 2 ^ 16), BitVec.ofNat 8 (w / 2 ^ 8), BitVec.ofNat 8 w]
  let waits := l.waiting.contains stream
  if waits && decide (7 ≤ fstart) then s
  else
    let ws := if waits then ws.drop fstart else ws
    let held := if waits then [] else Sparse.get (fun _ => []) l.rx stream
    let (fs, rest, bad) := cutFrames 3 (held ++ ws.flatMap bytes)
    let waiting := l.waiting.filter (fun k => k != stream)
    let s := s.setLink p { l with rx := Sparse.put (fun _ => []) (fun k => k) l.rx stream rest, arrived := l.arrived ++ fs
                                  waiting := if bad then stream :: waiting else waiting }
    if bad then (s.bump .FCRC_ERRORS p).rlCause p 5 else s

/-- A DATA block of a lane (R350, R351). -/
def State.takeData (s : State) (p header payload : Nat) : State :=
  let upper := payload / 2 ^ 16
  if crc16Bits (natBits 16 header ++ natBits 240 upper) ≠ payload % 2 ^ 16 then
    (((s.add64 .BCRC_ERRORS p 1).noteBad p 1).abandon p).judgeErrors p
  else
    let stream := upper / 2 ^ 10 % 4
    let valid := upper / 2 ^ 7 % 8
    if stream = 3 ∨ valid = 0 then s
    else
      let ws := (List.range 7).map (fun w => upper / 2 ^ (16 + 32 * (6 - w)) % 2 ^ 32)
      s.takeWords p stream (upper / 2 ^ 12 % 16) (ws.take valid)

/-- A usable TRAIN block (R329): its four information words, each with its complement. -/
def trainWords (payload : Nat) : Option (Nat × Nat × Nat) :=
  let w (k : Nat) : Nat := payload / 2 ^ (32 * (7 - k)) % 2 ^ 32
  if w 0 + w 1 = 2 ^ 32 - 1 ∧ w 2 + w 3 = 2 ^ 32 - 1 ∧ w 4 + w 5 = 2 ^ 32 - 1 ∧ w 6 + w 7 = 2 ^ 32 - 1 ∧
      w 0 / 2 ^ 24 = 0x5C then some (w 0, w 2, w 4) else none

/-- What a block of a type brings once its header is taken (R325, R333, R338, R339). -/
def State.takeBlock (s : State) (l header payload : Nat) : State :=
  let p := portOf l
  let x := s.serLane l
  let st := s.laneState l
  let bsn := header / 2 % 1024
  match header / 2048 % 4 with
  | 2 => match trainWords payload with
    | some (w0, w1, w2) => (s.abortItems [6]).noteTrain l w0 w1 w2
    | none => s.setSerLane l { x with readyRun := 0 }
  | 1 =>
    if st = 6 then
      let s := s.setSerLane l { x with idleRun := x.idleRun + 1 }
      if x.idleRun + 1 = 16 then s.wakePort p else s
    else if st = 5 then
      let s := s.setSerLane l { x with idleRun := x.idleRun + 1 }
      if x.idleRun + 1 = 1024 then s.put .RX_ADAPT_STATE l 2 else s
    else s
  | t =>
    if st = 5 then
      let s := (s.setSerLane l { x with idleRun := 0 }).put .RX_ADAPT_STATE l 1
      if t = 0 && !s.portFenced p then
        s.takeData p header (payload ^^^ blockKey bsn (x.farLane.getD (l % 2)))
      else s
    else s

/-- The first receiving lane of a port marks its receive block periods. -/
def State.countPeriod (s : State) (p l : Nat) : State :=
  let first := (portLanes p).find? (fun k => s.laneState k == 5 || s.laneState k == 6)
  if first = some l then s.setLink p { s.link p with period := (s.link p).period + 1 } else s

/-- A block of a lane that is aligned (R327, R328): its header is checked and the block passed on, counted or discarded. -/
def State.checkBlock (s : State) (l header payload : Nat) : State :=
  let p := portOf l
  let s := s.countPeriod p l
  let x := s.serLane l
  if header / 8192 % 8 ≠ 6 ∨ (natBits 16 header).countP (fun b => b) % 2 = 0 then
    (s.setSerLane l { x with badRun := x.badRun + 1, readyRun := 0, idleRun := if s.laneState l = 6 then 0 else x.idleRun }).bump .HEADER_ERRORS l
  else
    let bsn := header / 2 % 1024
    let gap := match x.lastBsn with
      | some b => (bsn + 1023 - b) % 1024
      | none => 0
    let s := s.setSerLane l { x with lastBsn := some bsn, badRun := if gap = 0 then 0 else x.badRun + 1 }
    let s := if gap = 0 then s else s.bump .BSN_ERRORS l
    let s := if gap ≠ 0 ∧ s.laneState l = 5 then ((s.noteBad p gap).abandon p).judgeErrors p else s
    (s.takeBlock l header payload).linkRecovers p

/-- BLOCK_RECEIVED (R325 to R328): a block of a receiver after destuffing and alignment, in the logical order of its port
(R352): its header and its payload as sent, the stuff bits removed from it and its stuff violations (R322); in TEST the 272 bits are
those of the pattern, `errs` marks the ones that the line has inverted, and far-end loopback sends them back (R344). -/
def execBlockReceived (l : Fin 5) (header payload : Nat) (stuffs viols errs : Nat) (s : State) :
    Host.Outcome State Fault Refusal :=
  let st := s.laneState l
  if st = 0 ∨ st = 7 then .next s
  else
    let s := (s.add64 .STUFF_BITS l stuffs).add32 .STUFF_ERRORS l viols
    if st = 8 then
      let mode := s.get .PAT_MODE l
      let bits := natBits 272 ((header * 2 ^ 256 + payload) ^^^ errs)
      if mode = 0 ∨ mode = 7 then .next s
      else if mode = 8 then
        let (r, s) := s.draw
        let (out, s) := s.lineBits l r bits false
        .next (s.emitLine l out)
      else .next (bits.foldl (fun s b => s.patternIn l b) s)
    else if 4 ≤ st then .next (s.checkBlock l header payload)
    else .next s

end Sys2Proof.Machine
end

