-- ==== Sys2Proof/Machine/RingTime.lean ====
section
/-! DEFINITION. Time transfer round the ring (12_ring_time_transfer): link delays, SYNCs and the offsets they give, the
closure tests, the choice of the grandmaster, and CHECKs between the units of a twin. Stamps and delays are in 2^-16 ns. -/

namespace Sys2Proof.Machine

open Sys2Proof

/-! ### Time frames (R385) -/

/-- A Time frame out of a port. -/
def State.sendTime (s : State) (p : Nat) (payload : List Byte) : State :=
  let (f, s) := s.newFrame 1 false true 3 0 0 payload
  s.sendFrame p 0 f

/-- A port's link carries Time frames: UP or HOLD, or any state but DOWN and MISWIRED for sending (R388, R392, R394). -/
def State.linkGood (s : State) (p : Nat) : Bool := s.get .LINK_STATE p == 1 || s.get .LINK_STATE p == 3

def State.canSend (s : State) (p : Nat) : Bool :=
  s.portUp p && s.get .LINK_STATE p != 0 && s.get .LINK_STATE p != 4 && !s.portFenced p

/-- Cycles of 125 µs, the interval of DREQ and CHECK. -/
def cycles125 : Nat := usCycles 125

/-- A time that has passed since a cycle; at once where there is none. -/
def State.elapsed (s : State) (from_ : Option Nat) (n : Nat) : Bool :=
  match from_ with
  | some t => decide (t + n ≤ s.time.cycle)
  | none => true

/-! ### Link delay (R388 to R390) -/

/-- The exchange that is open has waited 100 µs from T1, to the end of the block period in which the wait matures (R388). -/
def State.dreqMissed (s : State) (x : TimePort) : Bool :=
  match x.open_ with
  | some (_, some (_, c)) => blocksOut (usCycles 100) c s.time.cycle
  | _ => false

/-- DREQ_SEND (R388): every 125 µs while the port is TWO or ONE and the link not MISWIRED; on the twin port between the
units of a twin (R406). An exchange still open after its 100 µs is counted. -/
def execDreqSend (p : Fin 3) (s : State) : Host.Outcome State Fault Refusal :=
  let x := s.timePort p
  if s.canSend p && s.elapsed x.dreqAt cycles125 && (decide (p.val < 2) || s.get .TWIN_ENABLE 0 == 1) then
    let s := if s.dreqMissed x then s.bump .DRESP_MISSED p else s
    let s := s.setTimePort p { x with dseq := (x.dseq + 1) % 65536, dreqAt := some s.time.cycle, open_ := some (x.dseq, none) }
    .next (s.sendTime p ([2, 0] ++ leBytes 2 x.dseq ++ vt80Bytes 0))
  else .next s

/-- DREQ_RX (R388): answered with a DRESP; `t` is the receive stamp of the marker. -/
def execDreqRx (p : Fin 3) (f : Frame) (t : Int) (s : State) : Host.Outcome State Fault Refusal :=
  if f.cls = 1 ∧ f.kind = 2 then
    match s.receive p f with
    | (true, s) => .next (s.sendTime p ([3, 0] ++ slice f.payload 2 2 ++ vt80Bytes t ++ vt80Bytes 0))
    | (false, s) => .next s
  else .next s

/-- A difference of delays is beyond a limit in ps. -/
def beyond (d : Int) (ps : Int) : Bool := decide ((d.natAbs : Int) * 1000 > ps * 65536)

/-- The mean of delays. -/
def meanOf (l : List Int) : Int := if l.isEmpty then 0 else roundAt .mean l.sum l.length

/-- An accepted or held-out raw delay drives DELAY_STATE (R389). -/
def State.takeDelay (s : State) (p : Nat) (m : Int) : State :=
  let s := s.put .DELAY_RAW p m
  let x := s.timePort p
  let lim := s.get .DELAY_STEP_LIMIT 0
  let st := s.get .DELAY_STATE p
  if st = 0 ∨ st = 1 then
    let raws := (m :: x.raws).take 16
    let s := s.setTimePort p { x with raws }
    if raws.length < 16 then s.put .DELAY_STATE p 1
    else
      let d := meanOf raws
      let s := (s.put .LINK_DELAY p d).put .DELAY_STATE p 2
      let s := if beyond (d - s.get .LINK_DELAY_PREV p) lim then (s.bump .DELAY_STEPS p).raise 0x18 else s
      s.raise 0x19
  else if !beyond (m - s.get .LINK_DELAY p) lim then
    let raws := (m :: x.raws).take 16
    ((s.setTimePort p { x with raws, held := [] }).put .DELAY_STATE p 2).put .LINK_DELAY p (meanOf raws)
  else
    let held := (m :: x.held).take 8
    let c := meanOf held
    if st = 3 ∧ held.length = 8 ∧ held.all (fun v => !beyond (v - c) lim) then
      let s := s.put .LINK_DELAY_PREV p (s.get .LINK_DELAY p)
      let s := s.setTimePort p { x with raws := held, held := [] }
      (((s.put .LINK_DELAY p c).put .DELAY_STATE p 2).bump .DELAY_STEPS p).raise 0x18
    else (s.setTimePort p { x with held }).put .DELAY_STATE p 3

/-- DRESP_RX (R388, R389): `t4` is the receive stamp of its marker. A response that no exchange awaits changes nothing. -/
def execDrespRx (p : Fin 3) (f : Frame) (t4 : Int) (s : State) : Host.Outcome State Fault Refusal :=
  if f.cls = 1 ∧ f.kind = 3 then
    match s.receive p f with
    | (true, s) =>
      let x := s.timePort p
      match x.open_ with
      | some (d, some (t1, c)) =>
        if leNat (slice f.payload 2 2) = d then
          let t2 := vt80Of (slice f.payload 4 12)
          let t3 := vt80Of (slice f.payload 16 12)
          let m := roundAt .mean ((t4 - t1) - (t3 - t2)) 2
          let s := s.setTimePort p { x with open_ := none }
          let late := blocksOut (usCycles 100) c s.time.cycle
          if t3 - t2 > 10000 * 65536 ∨ m < 0 ∨ m > 100000 * 65536 ∨ late = true then .next (s.bump .DRESP_MISSED p)
          else .next (s.takeDelay p m)
        else .next s
      | _ => .next s
    | (false, s) => .next s
  else .next s

/-- DRESP_TIMEOUT (R388): a DRESP in the block period in which the wait matures wins. -/
def execDrespTimeout (p : Fin 3) (s : State) : Host.Outcome State Fault Refusal :=
  let x := s.timePort p
  if s.dreqMissed x then .next ((s.setTimePort p { x with open_ := none }).bump .DRESP_MISSED p) else .next s

/-! ### SYNCs (R386, R391 to R394, R396) -/

/-- VT in units of 125,000 ns. -/
def State.syncSlot (s : State) : Int := s.time.vt / (125000 * ns24)

/-- The payload of a SYNC that the grandmaster sends (R386, R391); ORIGIN is stamped as it leaves. -/
def State.syncPayload (s : State) : List Byte :=
  let r := s.ringTime
  let st := s.get .VT_STATE 0
  let flags := (if st = 2 ∨ st = 5 then 0 else 2) + (if r.loopValid then 4 else 0)
  [1] ++ leBytes 1 flags ++ leBytes 2 r.syncSeq ++ leBytes 2 Config.hubAddress ++
  leBytes 1 (s.get .RT_PRIORITY 0).toNat ++ [0] ++ vt80Bytes 0 ++ i64Bytes 0 ++ i64Bytes 0 ++ i64Bytes 0 ++
  i64Bytes r.loopE ++ i64Bytes r.loopW

/-- SYNC_SEND (R391): one SYNC out of each ring port at every VT instant that is a whole multiple of 125,000 ns. -/
def execSyncSend (s : State) : Host.Outcome State Fault Refusal :=
  let slot := s.syncSlot
  if s.ringTime.sending && s.ringTime.syncFor != slot then
    let body := s.syncPayload
    let s := { s with ringTime := { s.ringTime with syncFor := slot, syncSeq := (s.ringTime.syncSeq + 1) % 65536 } }
    .next ((s.sendTime 0 body).sendTime 1 body)
  else .next s

/-- The fields of a SYNC payload. -/
structure Sync where
  suspect : Bool
  hold    : Bool
  loopOk  : Bool
  seq     : Nat
  gm      : Nat
  hops    : Nat
  origin  : Int
  dsum    : Int
  acorr   : Int
  resid   : Int
  loopE   : Int
  loopW   : Int

def syncOf (b : List Byte) : Sync :=
  let flags := leNat (slice b 1 1)
  { suspect := flags.testBit 0, hold := flags.testBit 1, loopOk := flags.testBit 2, seq := leNat (slice b 2 2)
    gm := leNat (slice b 4 2), hops := leNat (slice b 7 1), origin := vt80Of (slice b 8 12), dsum := leInt (slice b 20 8)
    acorr := leInt (slice b 28 8), resid := leInt (slice b 36 8), loopE := leInt (slice b 44 8), loopW := leInt (slice b 52 8) }

/-- ASYM_CORR of a port as it acts on a SYNC received now: a write acts from the next receive block period (R399). -/
def State.asymCorr (s : State) (p : Nat) : Int :=
  match (s.timePort p).corrIn with
  | some (k, v) => if k = blockOf s.time.cycle then v else s.get .ASYM_CORR p
  | none => s.get .ASYM_CORR p

/-- Relays a SYNC received on a port out of the other (R392); RESID is completed as the new marker leaves. The standby unit of a
twin is not the grandmaster that has its hub address (R401). -/
def State.relaySync (s : State) (p : Nat) (b : List Byte) (y : Sync) (t : Int) : State :=
  let q := 1 - p
  if (y.gm = Config.hubAddress ∧ s.acting = true) ∨ 40 ≤ y.hops + 1 ∨ s.canSend q = false then s
  else
    let suspect := y.suspect || s.get .DELAY_STATE p != 2 || !s.linkGood p
    let flags := leNat (slice b 1 1)
    let b := patch b 1 (leBytes 1 (if suspect && !flags.testBit 0 then flags + 1 else flags))
    let b := patch b 7 (leBytes 1 (y.hops + 1))
    let b := patch b 20 (i64Bytes (y.dsum + s.get .LINK_DELAY p))
    let b := patch b 28 (i64Bytes (y.acorr + s.asymCorr p))
    s.sendTime q (patch b 36 (i64Bytes (y.resid - t)))

/-- SYNC_RX (R392 to R396): `t` is the receive stamp of the marker. -/
def execSyncRx (p : Fin 2) (f : Frame) (t : Int) (s : State) : Host.Outcome State Fault Refusal :=
  if f.cls = 1 ∧ f.kind = 1 then
    match s.receive p f with
    | (true, s) =>
      let b := f.payload
      let y := syncOf b
      let s := s.relaySync p b y t
      let sound := s.get .RT_GM 0 == (y.gm : Int) && !y.suspect && s.get .DELAY_STATE p == 2 && s.linkGood p
      let usable := sound && s.get .RT_FAULT 0 == 0
      let s := s.bump (if usable then .SYNC_USED else .SYNC_UNUSABLE) p
      let s := if usable then (s.put .RT_SYNC_SEQ 0 y.seq).put .RT_GM_HOLD 0 (b2i y.hold) else s
      let x := s.timePort p
      if y.gm = Config.hubAddress ∧ s.ringTime.sending = true then
        .next (if y.suspect then s else s.setTimePort p { x with loops := (y.seq, t - y.origin - y.resid) :: x.loops })
      else if sound then
        let dsum := y.dsum + s.get .LINK_DELAY p
        let off := t - (y.origin + dsum + y.acorr + y.resid + s.asymCorr p)
        let n : SyncNote := { seq := y.seq, off, dsum, loop := if y.loopOk then some (y.loopE, y.loopW) else none, used := usable }
        .next (s.setTimePort p { x with syncs := n :: x.syncs })
      else .next s
    | (false, s) => .next s
  else .next s

/-! ### The servo cycle's part (R395 to R398) -/

/-- The pairs of SYNCs of one sequence on both sides: West's and East's. -/
def syncPairs (w e : List SyncNote) : List (SyncNote × SyncNote) :=
  w.filterMap (fun a => (e.find? (fun b => b.seq == a.seq)).map (fun b => (a, b)))

/-- RT_PATHS changes, with its events (R395, R409). -/
def State.setPaths (s : State) (n : Int) : State :=
  let old := s.get .RT_PATHS 0
  let s := s.put .RT_PATHS 0 n
  if old = 2 ∧ n = 1 then s.raise 0x1B else if n = 2 ∧ old ≠ 2 then s.raise 0x1C else s

/-- One closure test against its limit in a checked cycle (R398): the bit of RT_FAULT, its event, and the counts beyond and
within the limit, which it returns. -/
def State.closeTest (s : State) (b event : Nat) (bad : Bool) (runBad runGood : Nat) : Nat × Nat × State :=
  let rb := if bad then runBad + 1 else 0
  let rg := if bad then 0 else runGood + 1
  let v := s.get .RT_FAULT 0
  if bad && s.get .ASYM_CYCLES 0 ≤ (rb : Int) && !bit v b then
    (rb, rg, ((s.put .RT_FAULT 0 (withBit v b)).raise event).orderHoldover)
  else if !bad && s.get .ASYM_CLEAR 0 ≤ (rg : Int) && bit v b then
    (rb, rg, (s.put .RT_FAULT 0 (withoutBits v (2 ^ b : Nat))).raise 0x17)
  else (rb, rg, s)

/-- CLOSURE_CHECK (R397, R398) over the pairs of a cycle: whether the offset is valid. A cycle without a pair whose LOOP_VALID
is set has no delay sum to check. -/
def State.closureCheck (s : State) (pairs : List (SyncNote × SyncNote)) : Bool × State :=
  let d := meanOf (pairs.map (fun x => x.1.off - x.2.off))
  let sums := pairs.filterMap (fun x => (x.1.loop <|> x.2.loop).map (fun l => x.1.dsum + x.2.dsum - roundAt .mean (l.1 + l.2) 2))
  let e := meanOf sums
  let s := s.put .RT_PATH_DIFF 0 d
  let s := if sums.isEmpty then s else s.put .RT_DSUM_ERR 0 e
  let badD := beyond d (s.get .ASYM_LIMIT 0)
  let badE := beyond e (s.get .DSUM_LIMIT 0)
  let r := s.ringTime
  let (ab, ag, s) := s.closeTest 0 0x15 badD r.asymBad r.asymGood
  let (db, dg, s) := if sums.isEmpty then (r.dsumBad, r.dsumGood, s) else s.closeTest 1 0x16 badE r.dsumBad r.dsumGood
  (!badD && !badE, { s with ringTime := { s.ringTime with asymBad := ab, asymGood := ag, dsumBad := db, dsumGood := dg } })

/-- The grandmaster's loop delays of a cycle (R396). -/
def State.closeLoops (s : State) : State :=
  let w := (s.timePort 1).loops
  let e := (s.timePort 0).loops
  let pairs := w.filterMap (fun a => (e.find? (fun b => b.1 == a.1)).map (fun b => (a.2, b.2)))
  let s := (s.setTimePort 1 { s.timePort 1 with loops := [] })
  let s := (s.setTimePort 0 { s.timePort 0 with loops := [] })
  if pairs.isEmpty then { s with ringTime := { s.ringTime with loopValid := false } }
  else
    let le := meanOf (pairs.map (fun x => x.1))
    let lw := meanOf (pairs.map (fun x => x.2))
    let asym := roundAt .mean (le - lw) 2
    let s := ((s.put .RT_LOOP_E 0 le).put .RT_LOOP_W 0 lw).put .RT_RING_ASYM 0 asym
    let s := { s with ringTime := { s.ringTime with loopE := le, loopW := lw, loopValid := true } }
    if beyond asym (s.get .ASYM_LIMIT 0) then s.raise 0x1E else s

/-- RING_OFFSET_FORM (R395, R397, R407): the ring offset of the servo cycle, when it is valid. A cycle in which ASYM_CORR was
written is not checked and gives none. -/
def State.ringOffset (s : State) : Option Int × State :=
  let w := (s.timePort 1).syncs
  let e := (s.timePort 0).syncs
  let s := s.setTimePort 1 { s.timePort 1 with syncs := [] }
  let s := s.setTimePort 0 { s.timePort 0 with syncs := [] }
  let uw := w.filter (fun x => x.used)
  let ue := e.filter (fun x => x.used)
  let s := if uw.isEmpty then s else s.put .PORT_OFFSET 1 (meanOf (uw.map (fun x => x.off)))
  let s := if ue.isEmpty then s else s.put .PORT_OFFSET 0 (meanOf (ue.map (fun x => x.off)))
  let pairs := syncPairs uw ue
  let one := if uw.isEmpty then ue else uw
  let s := s.setPaths (if !pairs.isEmpty then 2 else if !one.isEmpty then 1 else 0)
  let off : Option Int :=
    if !pairs.isEmpty then some (meanOf (pairs.map (fun x => roundAt .mean (x.1.off + x.2.off) 2)))
    else if one.isEmpty then none else some (meanOf (one.map (fun x => x.off)))
  let skip := s.ringTime.corrected
  let s := { s with ringTime := { s.ringTime with corrected := false } }
  let all := syncPairs w e
  if skip then (none, s)
  else if s.ringTime.sending || all.isEmpty then (off, s)
  else match s.closureCheck all with
    | (ok, s) => (if ok then off else none, s)

/-- The mean of the CHECKs of a cycle is PORT_OFFSET of the twin port (R406). -/
def State.closeChecks (s : State) : State :=
  let x := s.timePort 2
  if x.checks.isEmpty then s
  else (s.setTimePort 2 { x with checks := [] }).put .PORT_OFFSET 2 (meanOf x.checks)

/-! ### Grandmaster choice (R401 to R404) -/

/-- This hub is a candidate (R401): its VT_SOURCE is 1, 2 or 3, it has a hub address, of a twin only the acting unit; in
the states of R606 that allow it. -/
def State.isCandidate (s : State) : Bool :=
  let src := s.get .VT_SOURCE 0
  (src == 1 || src == 2 || src == 3) && Config.hubAddress != 0x1FF && s.acting &&
  decide (s.get .VAT_STATE 0 ≤ 2)

/-- Its source serves (R401). -/
def State.isEligible (s : State) : Bool :=
  let src := s.get .VT_SOURCE 0
  s.isCandidate &&
  (if src = 3 then s.get .CLK10_PRESENT 0 == 1 || s.get .CLK_REF_SEL 0 == 0
   else if src = 1 then s.plantOffset.isSome
   else s.get .PPS_IN_ENABLE 0 == 1 && decide (0 < s.time.ppsSince) &&
     !runOut (msCycles (s.get .TIMEOUT_PPS 0).toNat) s.time.ppsSince s.time.cycle)

/-- The eligible candidates, this hub among them. -/
def State.gmEligible (s : State) : List (Nat × Nat) :=
  (s.ringTime.cands.filter (fun c => c.eligible && !(c.addr == Config.hubAddress && s.acting))).map (fun c => (c.prio, c.addr)) ++
  (if s.isEligible then [((s.get .RT_PRIORITY 0).toNat, Config.hubAddress)] else [])

/-- The better of two candidates: the lower RT_PRIORITY, then the lower hub address (R403). -/
def better (a b : Nat × Nat) : Nat × Nat := if a.1 < b.1 ∨ (a.1 = b.1 ∧ a.2 ≤ b.2) then a else b

/-- The hub takes its role by the grandmaster it follows (R403, R404): one that becomes GRANDMASTER sends after 1 ms, and one
that no longer is stops at once. -/
def State.takeRole (s : State) (gm : Int) : State :=
  if gm = 0x1FF then s
  else
    let me := gm == (Config.hubAddress : Int) && s.isCandidate
    let role : Int := if me then 3 else if s.isCandidate then 2 else if Config.hubAddress = 0x1FF then 0 else 1
    let gained := me && s.get .RT_ROLE 0 != 3
    let s := (s.put .RT_GM 0 gm).put .RT_ROLE 0 role
    if gained then { s with ringTime := { s.ringTime with bestAt := s.time.cycle, sending := false } }
    else if !me && s.ringTime.sending then ({ s with ringTime := { s.ringTime with sending := false } }).raise 0x14
    else s

/-- No eligible candidate remains, or there is one again (R403, R409). -/
def State.noteGm (s : State) (none_ : Bool) : State :=
  if none_ && (s.ringTime.none_ || s.get .RT_GM 0 == 0x1FF) then s
  else
    let s := { s with ringTime := { s.ringTime with none_ } }
    if none_ then s.raise 0x1D else s

/-- Another grandmaster is followed: the SYNCs of the former are not used (R404). -/
def State.changeGm (s : State) (gm : Int) : State :=
  if s.get .RT_GM 0 = gm then s
  else
    let s := s.setTimePort 0 { s.timePort 0 with syncs := [] }
    (s.setTimePort 1 { s.timePort 1 with syncs := [] }).raise 0x11

/-- The best candidate is followed, and the hub takes its role (R403, R404, R409); `lost`: the entry of the grandmaster followed
has expired. With no eligible candidate the last one stays. -/
def State.chooseGm (s : State) (lost : Bool) : State :=
  let gm : Int := match s.gmEligible with
    | [] => s.get .RT_GM 0
    | c :: t => (t.foldl better c).2
  let u := ((s.put .RT_CANDIDATES 0 s.gmEligible.length).noteGm s.gmEligible.isEmpty).changeGm gm
  (if lost then u.raise 0x12 else u).takeRole gm

/-- ANNOUNCE_SEND (R402): every 16 ms. -/
def execAnnounceSend (s : State) : Host.Outcome State Fault Refusal :=
  if s.isEligible && s.elapsed s.ringTime.announceAt (msCycles 16) then
    let a := (s.ringTime.aseq + 1) % 65536
    let s := { s with ringTime := { s.ringTime with aseq := a, announceAt := some s.time.cycle } }
    let body := [4, if s.ringTime.sending then 3 else 1] ++ leBytes 2 a ++ leBytes 2 Config.hubAddress ++
      leBytes 1 (s.get .RT_PRIORITY 0).toNat ++ leBytes 1 (s.get .VT_SOURCE 0).toNat ++
      leBytes 1 (s.get .VT_STATE 0).toNat ++ [0, 0, 0, 0, 0, 0, 0]
    .next (((s.sendTime 0 body).sendTime 1 body).chooseGm false)
  else .next s

/-- An ANNOUNCE taken at a port (R402): a new one is stored and passed on; a copy already seen, and the hub's own, is
dropped. -/
def State.onAnnounce (s : State) (p : Nat) (f : Frame) : State :=
  let b := f.payload
  let addr := leNat (slice b 4 2)
  let aseq := leNat (slice b 2 2)
  let old := s.ringTime.cands.find? (fun c => c.addr == addr)
  let fresh := match old with
    | some c => precedes 16 c.aseq aseq
    | none => true
  if (addr = Config.hubAddress ∧ s.acting = true) ∨ fresh = false then s
  else
    let c : Candidate := { addr, aseq, prio := leNat (slice b 6 1), eligible := (leNat (slice b 1 1)).testBit 0, at_ := s.time.cycle }
    let s := { s with ringTime := { s.ringTime with cands := c :: s.ringTime.cands.filter (fun c => c.addr != addr) } }
    let s := if c.eligible && s.get .RT_GM 0 != (addr : Int) then { s with vat := { s.vat with second := true } } else s
    let s := if s.canSend (1 - p) then s.sendTime (1 - p) (patch b 9 (leBytes 1 (leNat (slice b 9 1) + 1))) else s
    s.chooseGm false

/-- ANNOUNCE_RX (R402). -/
def execAnnounceRx (p : Fin 2) (f : Frame) (s : State) : Host.Outcome State Fault Refusal :=
  if f.cls = 1 ∧ f.kind = 4 then
    match s.receive p f with
    | (true, s) => .next (s.onAnnounce p f)
    | (false, s) => .next s
  else .next s

/-- GM_ENTRY_EXPIRY (R402, R404): entries whose ASEQ has not advanced for GM_TIMEOUT. It is judged in servo cycles: an ANNOUNCE
in the servo cycle in which an entry would expire wins. -/
def execGmEntryExpiry (s : State) : Host.Outcome State Fault Refusal :=
  let lim := msCycles (s.get .GM_TIMEOUT 0).toNat
  let keep (c : Candidate) : Bool := decide (s.time.servoAt ≤ c.at_ + lim)
  if s.ringTime.cands.all keep then .next s
  else
    let lost := s.ringTime.cands.any (fun c => !keep c && s.get .RT_GM 0 == (c.addr : Int))
    .next ({ s with ringTime := { s.ringTime with cands := s.ringTime.cands.filter keep } }.chooseGm lost)

/-- BECOME_GRANDMASTER (R404): best for 1 ms. -/
def execBecomeGrandmaster (s : State) : Host.Outcome State Fault Refusal :=
  if s.get .RT_ROLE 0 = 3 ∧ s.ringTime.sending = false ∧ s.ringTime.bestAt + msCycles 1 ≤ s.time.cycle then
    .next ({ s with ringTime := { s.ringTime with sending := true, syncFor := s.syncSlot } }.raise 0x13)
  else .next s

/-- The offset by which VT is steered in a servo cycle (R48, R403): the ring's for VT_SOURCE 0 and for a member that another
candidate leads, otherwise the source's own. A STANDBY publishes its own in RT_OWN_OFFSET. -/
def State.servoOffset (s : State) : Option Int × State :=
  let s := (s.closeLoops.closeChecks).chooseGm false
  let (ring, s) := s.ringOffset
  let src := s.get .VT_SOURCE 0
  let own : Option Int := if src = 1 then s.plantOffset else if src = 2 then s.time.offset else none
  let s := if src ≠ 0 ∧ s.get .RT_ROLE 0 = 2 then (match own with | some o => s.put .RT_OWN_OFFSET 0 o | none => s) else s
  (if s.followsRing then ring else own, s)

/-! ### Twin port, corrections and faults (R398, R399, R406) -/

/-- CHECK_SEND (R406): every 125 µs. -/
def execCheckSend (s : State) : Host.Outcome State Fault Refusal :=
  let x := s.timePort 2
  if s.get .TWIN_ENABLE 0 = 1 ∧ s.canSend 2 = true ∧ s.elapsed x.checkAt cycles125 = true then
    let s := s.setTimePort 2 { x with cseq := (x.cseq + 1) % 65536, checkAt := some s.time.cycle }
    .next (s.sendTime 2 ([5, 0] ++ leBytes 2 x.cseq ++ vt80Bytes 0))
  else .next s

/-- CHECK_RX (R406): `t` is the receive stamp of its marker. -/
def execCheckRx (f : Frame) (t : Int) (s : State) : Host.Outcome State Fault Refusal :=
  if f.cls = 1 ∧ f.kind = 5 then
    match s.receive 2 f with
    | (true, s) =>
      let x := s.timePort 2
      .next (s.setTimePort 2 { x with checks := (t - (vt80Of (slice f.payload 4 12) + s.get .LINK_DELAY 2)) :: x.checks })
    | (false, s) => .next s
  else .next s

/-- ASYM_CORR_WRITE (R399, R407): −10,000 ns to 10,000 ns; the servo cycle that holds it is not checked. That
of the twin port is ignored. -/
def execAsymCorrWrite (w : Who) (p : Fin 3) (v : Int) (s : State) : Host.Outcome State Fault Refusal :=
  .next (asWrite w .engineer .ASYM_CORR p false false (decide (-655360000 ≤ v) && decide (v ≤ 655360000))
    (.num (s.get .ASYM_CORR p)) (.num v)
    (fun s =>
      let s := s.setTimePort p { s.timePort p with corrIn := some (blockOf s.time.cycle, s.asymCorr p) }
      let s := s.put .ASYM_CORR p v
      (.ok, ({ s with ringTime := { s.ringTime with corrected := s.ringTime.corrected || decide (p.val < 2) } }).raise 0x1F)) s)

/-- RT_FAULT_CLEAR (R398): the cycles already counted stand, so that the checks of this cycle may set a bit again (R407). -/
def execRtFaultClear (w : Who) (v : Nat) (s : State) : Host.Outcome State Fault Refusal :=
  .next (asCommand w .engineer .RT_FAULT_CLEAR 0 (.num v) (fun s =>
    let s := s.put .RT_FAULT 0 0
    (.ok, s.raise 0x17)) s)

end Sys2Proof.Machine
end

