-- ==== Sys2Proof/Machine/Twin.lean ====
section
/-! DEFINITION. Twin operation (13_twin_operation): leases and the witness, the twin states, switch-over and
resynchronisation. Times are in KT. -/

namespace Sys2Proof.Machine

open Sys2Proof

/-- A witness slot beside its objects. -/
def State.wit (s : State) (w : Nat) : WitSlot := Sparse.get (fun _ => {}) s.wits w
def State.setWit (s : State) (w : Nat) (v : WitSlot) : State :=
  { s with wits := Sparse.put (fun _ => {}) (fun k => k) s.wits w v }

/-- A happening of the twin logic (R435). -/
def State.twinCause (s : State) (b : Nat) : State := s.cause .TWIN_CAUSE 0 b

/-! ### Leases (R421) -/

/-- HOLD_TERM = LEASE_TERM × 15/16 (R421). -/
def State.holdTerm (s : State) : Nat := (s.get .LEASE_TERM 0).toNat * 15 / 16

/-- The lease is unexpired (R421). -/
def State.leased (s : State) : Bool := decide ((s.time.kt : Int) < s.get .LEASE_EXPIRY 0)

/-- WITNESS_HELD: a witness grant is unexpired (R423). -/
def State.witnessHeld (s : State) : Bool := decide (s.time.kt < s.twin.byWitness)

/-- LEASE_SOURCE (R436): bit 0 for the partner's lease, bit 1 for the witness's. -/
def State.leaseSource (s : State) : Int :=
  (if s.time.kt < s.twin.byPartner then 1 else 0) + (if s.witnessHeld then 2 else 0)

/-- A grant that echoes a request: its expiry counts when it is the latest (R421). -/
def State.takeGrant (s : State) (witness : Bool) (r : Nat) : State :=
  let e := r + s.holdTerm
  let t := s.twin
  let t := if witness then { t with byWitness := max t.byWitness e } else { t with byPartner := max t.byPartner e }
  let s := ({ s with twin := t }).raiseTo .LEASE_EXPIRY 0 e
  s.put .LEASE_SOURCE 0 s.leaseSource

/-! ### Frames (R418, R419) -/

/-- A Twin frame out of the twin port, link scope; CAVE_COPY goes in the bulk stream. -/
def State.sendTwin (s : State) (rank : Nat) (payload : List Byte) : State :=
  let (f, s) := s.newFrame 5 false true 3 0 0 payload
  s.sendFrame 2 rank f

/-- The firmware version of the image that runs (R419). -/
def State.firmware (s : State) : Nat :=
  (if s.get .FW_RUNNING 0 = 0 then s.get .FW_VERSION_A 0 else s.get .FW_VERSION_B 0).toNat

/-- ACKED_SEQ and QUEUE_SEQ of STREAM_QUEUE; zeros without one. While it resynchronises its partner, the ACTING unit names the
SEQ of its first packet at or after SYNC_INDEX in place of QUEUE_SEQ (R432). -/
def State.streamSeqs (s : State) : Nat × Nat :=
  let q := (s.get .STREAM_QUEUE 0).toNat
  if q < 16 then
    ((s.get .ACKED_SEQ q).toNat,
     match s.get .TWIN_STATE 0 == 5 && s.twin.aligning, s.twin.firstSeq with
     | true, some n => n
     | _, _ => (s.get .QUEUE_SEQ q).toNat)
  else (0, 0)

/-- REQ of a heartbeat: an ACTING unit (R423), a unit that waits for its first grant (R427), one that takes over (R428). -/
def State.hbReq (s : State) : Bool :=
  s.get .TWIN_STATE 0 == 5 || (s.get .TWIN_STATE 0 == 3 && (s.twin.asks || s.twin.taking.isSome))

/-- GRANT of a heartbeat: of a STANDBY unit whose partner is present (R422), or of an ACTING unit whose HANDOVER has been
acknowledged (R428). -/
def State.hbGrant (s : State) : Bool :=
  s.twin.reqRx.isSome &&
  ((s.get .TWIN_STATE 0 == 3 && !s.twin.lost) ||
   (s.get .TWIN_STATE 0 == 5 && s.twin.giving.isSome && s.twin.acked))

/-- The payload of a HEARTBEAT (R419). -/
def State.heartbeat (s : State) : List Byte :=
  let giving := s.get .TWIN_STATE 0 == 5 && s.twin.giving.isSome
  let taking := s.get .TWIN_STATE 0 == 3 && s.twin.taking.isSome
  let flags := (if s.hbReq then 1 else 0) + (if s.hbGrant then 2 else 0) + (if giving then 4 else 0) +
    (if taking then 8 else 0) + (if s.witnessHeld then 16 else 0)
  let h := if giving then s.twin.giving.getD 0 else 0
  let (acked, next) := s.streamSeqs
  [1] ++ leBytes 1 (s.get .TWIN_SIDE 0).toNat ++ leBytes 1 (s.get .TWIN_STATE 0).toNat ++ leBytes 1 flags ++
  leBytes 8 (if s.hbReq then s.time.kt else 0) ++ leBytes 8 (if s.hbGrant then s.twin.reqRx.getD 0 else 0) ++
  leBytes 8 h.toNat ++ leBytes 4 s.twinDigest ++ leBytes 4 s.firmware ++
  leBytes 2 (s.get .RING_VERSION 0).toNat ++ [0, 0] ++ leBytes 4 acked ++ leBytes 4 next

/-- A packet sent in CAVE_COPY fragments of at most 1,008 bytes (R419, R432). -/
def State.copyPacket (s : State) (p : Packet) : State :=
  let b := p.bytes
  let n := (b.length + 1007) / 1008
  (List.range n).foldl (fun s k =>
    let part := slice b (1008 * k) 1008
    s.sendTwin 8 ([4, 0] ++ leBytes 2 part.length ++ leBytes 4 p.seq ++ leBytes 2 k ++ leBytes 2 n ++ [0, 0, 0, 0] ++ part)) s

/-- The ACTING unit that has named a SEQ copies the retained packets of STREAM_QUEUE after ACKED_SEQ and before it, once (R432). -/
def State.copyRetained (s : State) : State :=
  if s.get .TWIN_STATE 0 = 5 ∧ s.twin.aligning = true ∧ s.twin.firstSeq.isSome = true ∧ s.twin.copied = false then
    let q := (s.get .STREAM_QUEUE 0).toNat
    let s : State := { s with twin := { s.twin with copied := true } }
    (s.queuePackets q).foldl (fun (s : State) x =>
      if s.acked x.item.pkt || x.item.damage != .none || decide (s.twin.syncIndex ≤ x.item.pkt.grid) then s
      else s.copyPacket x.item.pkt) s
  else s

/-- HEARTBEAT_SEND (R422, R423, R428, R432): every HB_PERIOD outside SOLO; none while the twin link is fenced (R515). -/
def execHeartbeatSend (s : State) : Host.Outcome State Fault Refusal :=
  let t := s.twin
  let due := match t.sentAt with
    | none => true
    | some k => decide (s.get .HB_PERIOD 0 ≤ (s.time.kt : Int) - k)
  if s.get .TWIN_STATE 0 ≠ 0 ∧ due = true ∧ s.fenced 8 0 = false then
    let body := s.heartbeat
    let grants := s.get .TWIN_STATE 0 == 5 && s.hbGrant
    let s := { s with twin := { t with sentAt := some s.time.kt, granted := t.granted || grants } }
    .next ((s.sendTwin 2 body).copyRetained)
  else .next s

/-- A request to the witness over the ring (R419, R423, R424): 1 RENEW, 2 CLAIM, 4 RELEASE. It leaves East, or West when the
East link is not UP (DESIGN CHOICE, log entry 23). -/
def State.sendWreq (s : State) (op : Nat) : State :=
  let addr := (s.get .WITNESS_ADDR 0).toNat
  let s := { s with twin := { s.twin with wreqAt := some s.time.kt } }
  if addr = 0x1FF then s
  else
    let body := [5] ++ leBytes 1 (s.get .TWIN_SIDE 0).toNat ++ leBytes 1 op ++ leBytes 1 (s.get .TWIN_STATE 0).toNat ++
      leBytes 8 s.time.kt ++ leBytes 2 Config.hubAddress ++ leBytes 2 (s.get .LEASE_TERM 0).toNat ++
      leBytes 1 (s.get .TWIN_PREFER 0).toNat ++ [0, 0, 0]
    let (f, s) := s.newFrame 5 false false 0 0 addr body
    s.sendFrame (if s.get .LINK_STATE 0 = 1 then 0 else 1) 2 f

/-! ### Changes of state (R427, R429 to R431) -/

/-- The twin agent's lock (R489): lock 0 for steps 1 and 2 of R432. -/
def State.twinLock (s : State) : State :=
  if s.get .LOCK_n 0 = 0 ∨ s.get .LOCK_n 0 = 0x50 then (s.readLock 0x50 0).2 else s
def State.twinUnlock (s : State) : State := if s.get .LOCK_n 0 = 0x50 then s.put .LOCK_n 0 0 else s

/-- The excitation switch of R431 at index `at_`: every RTD2, RTD3, RTD4 and BRIDGE channel with excitation, but those on
range code 4. -/
def State.switchMarks (s : State) (at_ : Int) : State :=
  (List.range 512).foldl (fun s c =>
    if excMode (s.get .CH_MODE c) && s.get .CH_EXC c != 0 && s.get .CH_RANGE c != 4 then
      s.wheySpan c at_ (spanEnd (s.preset c) at_ (s.get .EXC_SETTLE (bankOf c)).toNat)
    else s) (s.put .SWITCH_INDEX 0 at_)

/-- From an index on this unit acts, or does not (R415). -/
def State.logActing (s : State) (at_ : Int) (on : Bool) : State :=
  { s with twin := { s.twin with actLog := (at_, on) :: s.twin.actLog.take 15 } }

/-- The end of a resynchronisation (R432). -/
def State.endAlign (s : State) : State := { s with twin := { s.twin with aligning := false, firstSeq := none } }

/-- TWIN_STATE changes; leaving ACTING deasserts TWIN_ACT_N and ends a handover, leaving SYNCING frees the twin's lock. In JOINING
and CLAIMING a unit is not synchronised (R427). -/
def State.setTwinState (s : State) (v : Int) : State :=
  let old := s.get .TWIN_STATE 0
  let s := (s.put .TWIN_STATE 0 v).debugCheck
  let s := if old = 2 ∧ v ≠ 2 then s.twinUnlock.endAlign else s
  let s := if v = 1 ∨ v = 4 then { s with twin := { s.twin with synced := false } } else s
  if old = 5 ∧ v ≠ 5 then
    { s.endAlign with twin := { s.endAlign.twin with act := false, giving := none, acked := false, granted := false, renews := false } }
  else if old = 3 ∧ v ≠ 3 then
    { s with twin := { s.twin with asks := false, taking := none, holds := false } }
  else s

/-- The companions are told the side that acts (R429): TWIN_REQ waits as a WRITE on every enabled bank. -/
def State.requestSide (s : State) : State :=
  let v := (s.get .TWIN_SIDE 0).toNat
  (List.range 32).foldl (fun s b =>
    if s.get .BANK_ENABLE b = 1 then
      let B := s.bank b
      s.setBank b { B with plan := Sparse.put (fun _ => 0) (fun k => k) B.plan 3 v
                           writes := if s.get .COMP_LINK_STATE b = 2 then Sparse.insert (fun k => k) 3 v B.writes else B.writes }
    else s) s

/-- The new acting unit sends its stream from the packet after the ACKED_SEQ it last learned (R431). -/
def State.resendUnacked (s : State) : State :=
  let q := (s.get .STREAM_QUEUE 0).toNat
  let f (g : Segment) : Segment :=
    { g with pkts := g.pkts.map (fun (x : Stored) => if x.pkt.queue = q && !s.acked x.pkt then { x with sent := false } else x) }
  { s with cave := { s.cave with ring := s.cave.ring.map f } }

/-- The unit enters ACTING (R427, R429 to R431), its switch at an index. A unit that claimed from SYNCING holds the SEQ it
lacks in HISTORY_GAP (R433). -/
def State.act (s : State) (at_ : Int) : State :=
  let s := s.setTwinState 5
  let s := (s.put .SWITCH_COUNT 0 (countNext 4294967295 (s.get .SWITCH_COUNT 0))).twinCause 0
  let s := ((s.logActing at_ true).switchMarks at_).requestSide.resendUnacked
  let t := s.twin
  let s := { s with twin := { t with act := true, seenFrom := some s.tickKey, gap := false } }
  if t.gap ∧ t.copyFrom ≠ (t.copyTo + 1) % 4294967296 then
    (s.put .HISTORY_GAP 0 (t.copyFrom * 4294967296 + t.copyTo)).twinCause 13
  else s

/-- The index of the switch after a grant (R431): the first at least 2 grid ticks after the assertion. -/
def State.switchIndex (s : State) : Int := s.nextInstant + 2

/-- The unit claims (R424): CLAIM_AT is given. -/
def State.claim (s : State) (at_ : Nat) : State :=
  let s := (s.setTwinState 4).put .CLAIM_AT 0 at_
  { s with twin := { s.twin with wreqAt := none } }

/-- The unit stands down from ACTING into CLAIMING in a count of KT (R425, R427). -/
def State.standDown (s : State) (k : Nat) : State := (s.logActing s.nextInstant false).claim k

/-- CLAIM_AT by R422: LEASE_TERM after the receipt of the partner's latest request, or a count of KT when there was none. -/
def State.claimTime (s : State) (now : Nat) : Nat :=
  match s.twin.reqAt with
  | some k => k + (s.get .LEASE_TERM 0).toNat
  | none => now

/-- The unit enters STANDBY (R422, R427): it grants from now on, and CLAIM_AT follows the latest request. -/
def State.standBy (s : State) (asks : Bool) : State :=
  let s := s.setTwinState 3
  let s := if s.twin.reqAt.isSome then s.put .CLAIM_AT 0 (s.claimTime s.time.kt) else s
  { s with twin := { s.twin with asks, taking := none, holds := false } }

/-- SYNC_INDEX: the first multiple of 8,192 grid ticks after the index in progress (R432; DEDUCED, log entry 220). -/
def State.syncAt (s : State) : Int := ((s.nextInstant - 1) / 8192 + 1) * 8192

/-- A resynchronisation begins (R432). -/
def State.beginAlign (s : State) : State :=
  { s with twin := { s.twin with aligning := true, syncIndex := s.syncAt, firstSeq := none, copied := false } }

/-- The unit enters SYNCING (R432). The bytes still to come are not known before they are sent: a free value (log entry 5). -/
def State.beginSync (s : State) (adopt : Bool) : State :=
  let (n, s) := s.draw
  let s := (s.setTwinState 2).put .SYNC_REMAINING 0 (n % 18446744073709551616 : Nat)
  let from_ := ((s.streamSeqs.1) + 1) % 4294967296
  ({ s with twin := { s.twin with synced := false, copy := none, gap := false, copyFrom := from_, adopting := adopt } }).beginAlign.twinLock

/-- At the start of acquisition (R427): SOLO without twin operation, JOINING from SOLO. -/
def State.twinStart (s : State) : State :=
  if s.get .TWIN_ENABLE 0 ≠ 1 then
    { s.setTwinState 0 with twin := { s.twin with act := false } }
  else if s.get .TWIN_STATE 0 = 0 then
    { s.setTwinState 1 with twin := { s.twin with hbAt := some s.time.kt, lost := false, synced := false } }
  else s

/-! ### The heartbeat (R422, R427, R434) -/

/-- The two units agree (R427). -/
def State.twinAgree (s : State) : Bool :=
  s.twin.digest == s.twinDigest && s.twin.firmware == s.firmware &&
  s.twin.ringVersion / 256 == (s.get .RING_VERSION 0).toNat / 256

/-- They disagree only in TWIN_DIGEST, and this unit adopts the partner's configuration (R432). -/
def State.twinAdopts (s : State) : Bool :=
  s.get .TWIN_ADOPT 0 == 1 && s.twin.digest != s.twinDigest && s.twin.firmware == s.firmware &&
  s.twin.ringVersion / 256 == (s.get .RING_VERSION 0).toNat / 256

/-- The state table of R427 on a heartbeat of a unit that is not ACTING. True when the unit stops acquisition to adopt. -/
def State.twinTable (s : State) : State × Bool :=
  let st := s.get .TWIN_STATE 0
  let acting := s.get .PARTNER_STATE 0 == 5
  let preferred := s.get .TWIN_SIDE 0 == s.get .TWIN_PREFER 0
  let agree := s.twinAgree
  if st = 0 ∨ st = 5 ∨ (st = 3 ∧ s.twin.taking.isSome = true) then (s, false)
  else if agree then
    if acting then
      if st = 1 ∨ st = 4 ∨ (st = 3 ∧ s.twin.synced = false) then (s.beginSync false, false)
      else if st = 6 then (s.setTwinState 1, false)
      else ({ s with twin := { s.twin with asks := false } }, false)
    else if preferred && (st == 1 || st == 3 || st == 4 || st == 6) then
      if st = 3 ∧ s.twin.asks = true then (s, false) else (s.standBy true, false)
    else if st = 1 ∨ st = 4 then (s.standBy false, false)
    else if st = 6 then (s.setTwinState 1, false)
    else (s, false)
  else if acting && s.twinAdopts && (st == 1 || st == 6) then (s.beginSync true, true)
  else if (acting || !preferred) && ((st == 1 || st == 3) || (st == 2 && !s.twin.adopting)) then
    ((s.setTwinState 6).twinCause 12, false)
  else (s, false)

/-- A shared object sent in a DICT_MIRROR frame (R419, R432). -/
def State.mirrorObject (s : State) (r : ObjInfo) (i : Nat) : State :=
  s.mirrorEntry (r.index + i / r.subs) (r.sub + i % r.subs) (valBytes r.type (s.valueOf r i))

/-- The ACTING unit serves the resynchronisation of a partner that has entered SYNCING (R432): shared objects when the
digests differ, and results. The retained packets follow once it has named a SEQ. -/
def State.serveSync (s : State) : State :=
  let s := s.beginAlign
  let s := if s.twin.digest = s.twinDigest then s
    else (cfgEntries.filter (fun e => e.2.1.shared)).foldl (fun s e => s.mirrorObject e.2.1 e.2.2) s
  let s := s.excCal.applied.foldl (fun (s : State) x =>
    s.mirrorEntry (Config.excMirrorPlace / 256) (Config.excMirrorPlace % 256)
      (Config.excMirrorBytes x.1 x.2.1 x.2.2.1 x.2.2.2)) s
  let s := (List.range 512).foldl (fun s c => s.mirrorWrite .CH_WIRE_FAULT c (.num (s.get .CH_WIRE_FAULT c))) s
  (List.range 512).foldl (fun s c => s.mirrorWrite .LEAD_EST_i c (.num (s.get .LEAD_EST_i c))) s

/-- What a HEARTBEAT brings (R421, R422, R427, R428), in the order of R434. True when the unit stops acquisition to adopt. -/
def State.onHeartbeat (s : State) (f : Frame) : State × Bool :=
  let b := f.payload
  let pst : Int := leNat (slice b 2 1)
  let flags := leNat (slice b 3 1)
  let st := s.get .TWIN_STATE 0
  let before := s.get .PARTNER_STATE 0
  if st = 0 then (s, false)
  else
    let t := s.twin
    let back := t.lost
    let s := { s with twin := { t with hbAt := some s.time.kt, lost := false, digest := leNat (slice b 28 4),
                                       firmware := leNat (slice b 32 4), ringVersion := leNat (slice b 36 2),
                                       theirSeq := leNat (slice b 44 4) } }
    let s := s.put .PARTNER_STATE 0 pst
    let s : State := if back then s.twinCause 3 else s
    if st = 5 ∧ pst = 5 then ((s.standDown s.time.kt).twinCause 10, false)
    else
      -- a grant, applied before the expiry test
      let r := leNat (slice b 12 8)
      let s : State := if flags.testBit 1 then
          if st = 5 then s.takeGrant false r
          else if st = 3 ∧ s.twin.taking.isSome = true then
            let s := s.takeGrant false r
            { s with twin := { s.twin with holds := true } }
          else if st = 3 ∧ s.twin.asks = true then
            let s := s.takeGrant false r
            if s.leased then s.act s.switchIndex else s
          else s
        else s
      -- a request
      let s : State := if flags.testBit 0 then
          let s := { s with twin := { s.twin with reqRx := some (leNat (slice b 4 8)), reqAt := some s.time.kt } }
          if s.get .TWIN_STATE 0 = 3 then s.put .CLAIM_AT 0 (s.claimTime s.time.kt) else s
        else s
      -- a handover
      let s : State := if s.get .TWIN_STATE 0 = 3 then
          if flags.testBit 2 ∧ pst = 5 then
            let h : Int := leNat (slice b 20 8)
            if s.twin.taking = some h then s else { s with twin := { s.twin with taking := some h, holds := false } }
          else if s.twin.holds then s
          else { s with twin := { s.twin with taking := none } }
        else if s.get .TWIN_STATE 0 = 5 ∧ s.twin.giving.isSome = true ∧ flags.testBit 3 = true then
          { s with twin := { s.twin with acked := true } }
        else s
      -- the acknowledgements of an acting partner
      let q := (s.get .STREAM_QUEUE 0).toNat
      let s : State := if pst = 5 ∧ s.get .TWIN_STATE 0 = 3 ∧ q < 16 then
          (match s.applyAck q (leNat (slice b 40 4)) with | (.ok, s') => s' | _ => s)
        else s
      let s : State := if s.get .TWIN_STATE 0 = 2 then
          { s with twin := { s.twin with copyTo := (s.twin.theirSeq + 4294967295) % 4294967296 } } else s
      -- the witness is released when the partner is back in STANDBY (R423)
      let s : State := if s.get .TWIN_STATE 0 = 5 ∧ s.twin.renews = true ∧ pst = 3 then
          let s := s.sendWreq 4
          { s with twin := { s.twin with renews := false } }
        else s
      let s : State := if s.get .TWIN_STATE 0 = 5 ∧ pst = 2 ∧ before ≠ 2 then s.serveSync
        else if s.get .TWIN_STATE 0 = 5 ∧ pst ≠ 2 ∧ before = 2 then s.endAlign else s
      s.twinTable

/-- The count of KT in which HB_TIMEOUT matures; none before the first heartbeat (R427). -/
def State.hbEnd (s : State) : Option Nat := s.twin.hbAt.map (fun k => k + (s.get .HB_TIMEOUT 0).toNat)

/-- HEARTBEAT_TIMEOUT (R427): no HEARTBEAT has arrived for HB_TIMEOUT; whatever arrives in the keeper period in which it
matures comes first (R14, R434). A STANDBY that holds the grant of a handover goes on with it (R428). -/
def execHeartbeatTimeout (s : State) : Host.Outcome State Fault Refusal :=
  let k := s.hbEnd.getD s.time.kt
  let due := !s.twin.lost && s.countOver k
  let st := s.get .TWIN_STATE 0
  if st ≠ 0 ∧ due = true then
    let s := { s with twin := { s.twin with lost := true } }
    let s := (s.bump .HB_LOSSES 0).twinCause 2
    if st = 1 then .next (s.claim k)
    else if st = 2 then
      let s := s.claim (s.claimTime k)
      .next ({ s with twin := { s.twin with gap := true, adopting := false } }.twinCause 13)
    else if st = 3 ∧ s.twin.holds = false then .next (s.claim (s.claimTime k))
    else if st = 5 then
      let s := s.twinCause 6
      .next ({ s with twin := { s.twin with renews := true } }.sendWreq 1)
    else .next s
  else .next s

/-- LEASE_EXPIRY (R425): the unit stands down in the keeper period in which KT reaches LEASE_EXPIRY, a grant that arrives in it
being applied first (R421, R434). CLAIM_AT is the KT of that period. -/
def execLeaseExpiry (s : State) : Host.Outcome State Fault Refusal :=
  if s.get .TWIN_STATE 0 = 5 ∧ s.countOver (s.get .LEASE_EXPIRY 0) = true then
    .next (((s.standDown (s.get .LEASE_EXPIRY 0).toNat).bump .STANDDOWN_COUNT 0).twinCause 7)
  else .next s

/-- CLAIM_AT_REACHED (R424). -/
def execClaimAtReached (s : State) : Host.Outcome State Fault Refusal :=
  if s.get .TWIN_STATE 0 = 4 ∧ s.get .CLAIM_AT 0 ≤ s.time.kt ∧ s.twin.wreqAt = none then .next (s.sendWreq 2)
  else .next s

/-- WITNESS_RENEW_TIMER (R423, R424). -/
def execWitnessRenewTimer (s : State) : Host.Outcome State Fault Refusal :=
  match s.twin.wreqAt with
  | some k =>
    if s.get .WITNESS_RENEW 0 ≤ (s.time.kt : Int) - k then
      if s.get .TWIN_STATE 0 = 4 ∧ s.get .CLAIM_AT 0 ≤ s.time.kt then .next (s.sendWreq 2)
      else if s.get .TWIN_STATE 0 = 5 ∧ s.twin.renews = true then .next (s.sendWreq 1)
      else .next s
    else .next s
  | none => .next s

/-! ### The witness (R426) -/

/-- A request as the witness reads it. -/
structure Wreq where
  side   : Nat
  op     : Nat
  acting : Bool
  reqKt  : Nat
  addr   : Nat
  term   : Nat
  prefer : Nat
  pos    : Nat

/-- The request in a WREQ frame (R419). -/
def wreqOf (f : Frame) : Wreq :=
  let b := f.payload
  { side := leNat (slice b 1 1), op := leNat (slice b 2 1), acting := leNat (slice b 3 1) == 5, reqKt := leNat (slice b 4 8)
    addr := leNat (slice b 12 2), term := leNat (slice b 14 2), prefer := leNat (slice b 16 1), pos := f.srcPos }

/-- A WGRANT to the unit that asked, by its ring position (R418, R419), out of a port. -/
def State.sendWgrant (s : State) (port : Nat) (q : Wreq) (result : Nat) (holder : Int) : State :=
  let body := [6] ++ leBytes 1 q.side ++ leBytes 1 result ++ leBytes 1 holder.toNat ++ leBytes 8 q.reqKt ++
    leBytes 2 q.addr ++ [0, 0]
  let (f, s) := s.newFrame 5 false false 1 q.pos 0 body
  s.sendFrame port 2 f

/-- The slot of a twin, or a free one; none when there is neither (R426). -/
def State.witSlotFor (s : State) (addr : Nat) : Option Nat :=
  match (List.range 8).find? (fun w => s.get .WIT_TWIN w == addr) with
  | some w => some w
  | none => (List.range 8).find? (fun w => s.get .WIT_TWIN w == 0x1FF)

/-- A slot is freed (R426). -/
def State.freeWit (s : State) (w : Nat) : State :=
  (((s.put .WIT_TWIN w 0x1FF).put .WIT_HOLDER w 0xFF).put .WIT_GRANT_END w 0).setWit w {}

/-- A request is noted in a slot. -/
def State.noteWit (s : State) (w : Nat) (q : Wreq) : State :=
  let last := if s.get .WIT_TWIN w = 0x1FF then 0xFF else (s.wit w).last
  let s := if s.get .WIT_TWIN w = 0x1FF then
      ((s.put .WIT_TWIN w q.addr).put .WIT_HOLDER w 0xFF).put .WIT_GRANT_END w 0 else s
  s.setWit w { at_ := s.time.kt, term := q.term, last }

/-- A grant to a side is open (R426). -/
def State.witOpen (s : State) (w side : Nat) : Bool :=
  let h := s.get .WIT_HOLDER w
  h == side || h == 0xFF || decide (s.get .WIT_GRANT_END w ≤ s.time.kt)

/-- The slot is granted to the side of a request (R426); bit [15] is set when it was last granted to the other (R435). -/
def State.witGrant (s : State) (port w : Nat) (q : Wreq) : State :=
  let h := (s.wit w).last
  let s := s.setWit w { s.wit w with last := q.side }
  let s := (s.put .WIT_HOLDER w q.side).put .WIT_GRANT_END w (s.time.kt + q.term : Nat)
  let s := s.bump .WIT_GRANTS w
  let s := if h ≠ 0xFF ∧ h ≠ q.side then s.twinCause 15 else s
  s.sendWgrant port q 0 q.side

/-- A request is refused with a result (R426). -/
def State.witRefuse (s : State) (port w : Nat) (q : Wreq) (result : Nat) : State :=
  (s.bump .WIT_REFUSALS w).sendWgrant port q result (s.get .WIT_HOLDER w)

/-- One request, alone in its keeper cycle (R426). A RELEASE from another side than the holder changes nothing and is not
answered. -/
def State.witOne (s : State) (port w : Nat) (q : Wreq) : State :=
  if q.op = 4 then
    if s.get .WIT_HOLDER w = q.side then (s.put .WIT_HOLDER w 0xFF).sendWgrant port q 3 0xFF else s
  else if q.op = 1 ∨ q.op = 2 then
    if s.witOpen w q.side then s.witGrant port w q else s.witRefuse port w q 1
  else s

/-- Requests of both sides in one keeper cycle with a grant to either open (R426). -/
def State.witBoth (s : State) (port w : Nat) (a b : Wreq) : State :=
  let h := s.get .WIT_HOLDER w
  let win (x y : Wreq) : State := (s.witGrant port w x).witRefuse port w y 1
  if h = a.side then win a b
  else if h = b.side then win b a
  else if a.acting && !b.acting then win a b
  else if b.acting && !a.acting then win b a
  else if a.acting || a.prefer != b.prefer then (s.witRefuse port w a 2).witRefuse port w b 2
  else if a.side = a.prefer then win a b else win b a

/-- A request without a slot is noted in one, or refused for want of one (R426). -/
def State.witAdmit (s : State) (port : Nat) (q : Wreq) : Option Nat × State :=
  match s.witSlotFor q.addr with
  | some w => (some w, s.noteWit w q)
  | none => (none, (s.bump .WIT_NO_SLOT 0).sendWgrant port q 4 0xFF)

/-- WREQ_RX (R426): a WREQ arrives at a ring port; `also` is one that arrives in the same keeper cycle. RELEASE is handled
first. -/
def execWreqRx (p : Fin 2) (f : Frame) (also : Option Frame) (s : State) : Host.Outcome State Fault Refusal :=
  let (mine, s) := s.receive p f
  let (mine2, s) := match also with | some g => s.receive p g | none => (false, s)
  let on := s.get .WITNESS_ENABLE 0 == 1
  let isW (g : Frame) : Bool := g.cls == 5 && leNat (slice g.payload 0 1) == 5
  let qs := (if mine && on && isW f then [wreqOf f] else []) ++
    (match also with | some g => if mine2 && on && isW g then [wreqOf g] else [] | none => [])
  match qs with
  | [] => .next s
  | [q] =>
    let (w, s) := s.witAdmit p q
    .next (match w with | some w => s.witOne p w q | none => s)
  | a :: b :: _ =>
    let (wa, s) := s.witAdmit p a
    let (wb, s) := s.witAdmit p b
    match wa, wb with
    | some w, some w' =>
      if w = w' ∧ a.side ≠ b.side ∧ a.op ≠ 4 ∧ b.op ≠ 4 ∧ s.witOpen w a.side = true ∧ s.witOpen w b.side = true then
        .next (s.witBoth p w a b)
      else if b.op = 4 then .next ((s.witOne p w' b).witOne p w a)
      else .next ((s.witOne p w a).witOne p w' b)
    | some w, none => .next (s.witOne p w a)
    | none, some w => .next (s.witOne p w b)
    | none, none => .next s

/-- WITNESS_SLOT_EXPIRY (R426): no WREQ for 4 × LEASE_TERM. -/
def execWitnessSlotExpiry (w : Fin 8) (s : State) : Host.Outcome State Fault Refusal :=
  if s.get .WIT_TWIN w ≠ 0x1FF ∧ s.countOver ((s.wit w).at_ + 4 * (s.wit w).term : Nat) = true then .next (s.freeWit w) else .next s

/-- WGRANT_RX (R421, R424, R427, R430): a WGRANT arrives at a ring port for this side. A RESULT 0 in another state than
CLAIMING or ACTING is answered with RELEASE. -/
def execWgrantRx (p : Fin 2) (f : Frame) (s : State) : Host.Outcome State Fault Refusal :=
  let (mine, s) := s.receive p f
  let b := f.payload
  let result := leNat (slice b 2 1)
  let r := leNat (slice b 4 8)
  let st := s.get .TWIN_STATE 0
  if mine = false ∨ f.cls ≠ 5 ∨ leNat (slice b 0 1) ≠ 6 ∨ leNat (slice b 12 2) ≠ Config.hubAddress ∨
      (leNat (slice b 1 1) : Int) ≠ s.get .TWIN_SIDE 0 then .next s
  else if result = 0 then
    if st = 4 then
      let s := s.takeGrant true r
      if s.leased ∧ s.get .CLAIM_AT 0 ≤ s.time.kt then
        let lost := s.twin.lost
        let s := ((s.twinCause 4).act s.switchIndex).recover
        .next { s with twin := { s.twin with renews := lost } }
      else .next s
    else if st = 5 then .next (s.takeGrant true r)
    else .next (s.sendWreq 4)
  else if result = 1 ∨ result = 2 then .next (s.twinCause 5)
  else .next s

/-! ### The state mirror and the copy (R415, R432) -/

/-- The payload of the MIRROR frame of a tick (R419): the compliance flags. -/
def mirrorPayload (n : Int) (flags : List Nat) : List Byte :=
  let byte (k : Nat) : Byte :=
    BitVec.ofNat 8 (((List.range 8).filter (fun i => flags.contains (8 * k + i))).foldl (fun m i => m + 2 ^ i) 0)
  [2, 0, 0, 0, 0, 0, 0, 0] ++ leBytes 8 n.toNat ++ (List.range 64).map byte

/-- The acting unit of a twin sends the MIRROR frame of a tick at its EMIT step (R418). -/
def State.sendMirror (s : State) (tin : TickIn) (n : Int) : State :=
  if s.get .TWIN_ENABLE 0 = 1 ∧ s.get .TWIN_STATE 0 = 5 then s.sendTwin 2 (mirrorPayload n tin.compliance) else s

/-- MIRROR_RX (R415): the flags of a tick are kept, and presence of the channels with excitation is judged by them. -/
def execMirrorRx (f : Frame) (s : State) : Host.Outcome State Fault Refusal :=
  let (mine, s) := s.receive 2 f
  let b := f.payload
  if mine = true ∧ f.cls = 5 ∧ leNat (slice b 0 1) = 2 ∧ s.acting = false then
    let n : Int := leNat (slice b 8 8)
    let flags := slice b 16 64
    let s := { s with twin := { s.twin with mirrors := (n, flags) :: s.twin.mirrors.take 4095 } }
    .next ((List.range 512).foldl (fun s c =>
      if s.bankOn (bankOf c) && !s.fenced 0 (bankOf c) && excMode (s.get .CH_MODE c) && s.get .CH_EXC c != 0 then
        s.countPresence n c (mapBit flags c) else s) s)
  else .next s

/-- A copied packet is placed in the stream ring under its original write tick (R432): in the latest HELD segment of ticks
not later that has room, or in a free segment of its own. -/
def State.writeCopied (s : State) (tick : Int) (p : Packet) : State :=
  let n := p.length
  let item : Stored := { tick, pkt := p }
  let c := s.cave
  let old := c.ring.filter (fun g => decide (g.hi ≤ tick))
  let new := c.ring.filter (fun g => decide (tick < g.hi))
  match old.getLast? with
  | some g =>
    if g.state = .held ∧ g.bytes + n ≤ segmentBytes then
      let g' := { g with pkts := g.pkts ++ [item], bytes := g.bytes + n, hi := tick }
      { s with cave := { c with ring := old.dropLast ++ [g'] ++ new } }
    else match c.firstFree with
      | some i => { s with cave := { c with ring := old ++ [{ id := i, state := .held, pkts := [item], bytes := n, lo := tick, hi := tick }] ++ new } }
      | none => s
  | none => match c.firstFree with
    | some i => { s with cave := { c with ring := { id := i, state := .held, pkts := [item], bytes := n, lo := tick, hi := tick } :: new } }
    | none => s

/-- CAVE_COPY_RX (R419, R432): a fragment of a packet; a whole packet is written into the stream ring. The write tick is taken
from the packet's GRID (DEDUCED, log entry 24). Steps 1 and 2 of R432 are then done, and the twin's lock is freed (R489). -/
def execCaveCopyRx (f : Frame) (s : State) : Host.Outcome State Fault Refusal :=
  let (mine, s) := s.receive 2 f
  let b := f.payload
  if mine = true ∧ f.cls = 5 ∧ leNat (slice b 0 1) = 4 ∧ s.get .TWIN_STATE 0 = 2 then
    let len := leNat (slice b 2 2)
    let seq := leNat (slice b 4 4)
    let k := leNat (slice b 8 2)
    let total := leNat (slice b 10 2)
    let part := slice b 16 len
    let s := s.twinUnlock
    let left := s.get .SYNC_REMAINING 0 - part.length
    let s := s.put .SYNC_REMAINING 0 (if left < 0 then 0 else left)
    let have_ := match s.twin.copy with
      | some (q, n, x) => if q = seq ∧ n = k then x else []
      | none => []
    let whole := have_ ++ part
    if k + 1 = total then
      let s := { s with twin := { s.twin with copy := none, copyFrom := (seq + 1) % 4294967296 } }
      let p := packetOf whole
      .next (if p.checks then s.writeCopied p.grid p else s)
    else .next { s with twin := { s.twin with copy := some (seq, k + 1, whole) } }
  else .next s

/-- A packet under another SEQ. -/
def Packet.renumbered (p : Packet) (seq : Nat) : Packet :=
  let p := { p with seq }
  let p := { p with e2e := p.e2e.map (fun _ => crc32c p.coveredE2e) }
  { p with pcrc := crc32c p.covered }

/-- This unit's packets of STREAM_QUEUE from SYNC_INDEX on take their partner's numbers: the first of them that which the partner
named (R432). -/
def State.alignSeq (s : State) (q : Nat) : State :=
  match s.twin.firstSeq with
  | none => s.put .QUEUE_SEQ q s.twin.theirSeq
  | some m =>
    let on (n : Nat) : Nat := (n + s.twin.theirSeq + 4294967296 - m) % 4294967296
    let at_ := s.twin.syncIndex
    let f (x : Stored) : Stored :=
      if x.pkt.queue = q ∧ at_ ≤ x.pkt.grid then { x with pkt := x.pkt.renumbered (on x.pkt.seq) } else x
    let last := Sparse.get (fun _ => 4294967295) s.cave.lastSeq q
    let s : State := { s with cave := { s.cave with ring := s.cave.ring.map (fun g => { g with pkts := g.pkts.map f }),
                                                    lastSeq := Sparse.insert (fun k => k) q (on last) s.cave.lastSeq } }
    s.put .QUEUE_SEQ q (on (s.get .QUEUE_SEQ q).toNat)

/-- SYNC_COPY_COMPLETE (R427, R432): the unit enters STANDBY, synchronised, and numbers its packets with its partner. -/
def execSyncCopyComplete (s : State) : Host.Outcome State Fault Refusal :=
  if s.get .TWIN_STATE 0 = 2 ∧ s.twin.adopting = false then
    let q := (s.get .STREAM_QUEUE 0).toNat
    let s := if q < 16 then s.alignSeq q else s
    let s := (s.put .SYNC_REMAINING 0 0).standBy false
    .next ({ s with twin := { s.twin with synced := true, copy := none } }.twinCause 11)
  else .next s

/-! ### Switch-over (R428, R429) -/

/-- A handover may start (R428): not in the keeper period in which HB_TIMEOUT matures without a heartbeat (R434). -/
def State.mayHandOver (s : State) : Bool :=
  s.get .TWIN_STATE 0 == 5 && s.get .PARTNER_STATE 0 == 3 && !s.twin.lost && !s.witnessHeld &&
  decide ((s.time.kt : Int) < s.hbEnd.getD (s.time.kt + 1))

/-- A handover starts at the first index at least 256 grid ticks on (R428); one in progress goes on. -/
def State.startHandover (s : State) : State :=
  if s.twin.giving.isSome then s
  else { s with twin := { s.twin with giving := some (s.nextInstant + 256), acked := false, granted := false } }

/-- TWIN_SWITCH (R428). -/
def execTwinSwitch (w : Who) (v : Nat) (s : State) : Host.Outcome State Fault Refusal :=
  .next (asCommand w .operator .TWIN_SWITCH 0 (.num v) (fun s =>
    if s.mayHandOver then (.ok, s.startHandover) else (.refused, s.twinCause 8)) s)

/-- HANDOVER_CANCEL (R428): the grant has not come by H − 64. -/
def execHandoverCancel (s : State) : Host.Outcome State Fault Refusal :=
  let by_ (h : Int) : Bool := match s.gridIndex with | some g => decide (h - 64 ≤ g) | none => false
  match s.twin.giving, s.twin.taking with
  | some h, _ =>
    if by_ h ∧ s.twin.granted = false ∧ s.get .TWIN_STATE 0 = 5 then
      .next ({ s with twin := { s.twin with giving := none, acked := false } }.twinCause 8)
    else .next s
  | none, some h =>
    if by_ h ∧ s.twin.holds = false then .next { s with twin := { s.twin with taking := none } } else .next s
  | none, none => .next s

/-- HANDOVER_AT_H (R427, R429): at grid instant H the former unit enters STANDBY; 4 µs later the new unit enters ACTING. -/
def execHandoverAtH (s : State) : Host.Outcome State Fault Refusal :=
  match s.twin.giving, s.twin.taking with
  | some h, _ =>
    if s.get .TWIN_STATE 0 = 5 ∧ s.twin.granted = true ∧ s.instant h ≤ s.time.vt then
      let s := ((s.logActing h false).switchMarks h).standBy false
      .next ({ s with twin := { s.twin with synced := true } }.twinCause 1)
    else .next s
  | none, some h =>
    if s.get .TWIN_STATE 0 = 3 ∧ s.twin.holds = true ∧ s.instant h + 4000 * 16777216 ≤ s.time.vt then .next (s.act h)
    else .next s
  | none, none => .next s

/-- TWIN_SEEN_CHECK (R429): four ticks after the switch each bank without TWIN_SEEN is counted. -/
def execTwinSeenCheck (s : State) : Host.Outcome State Fault Refusal :=
  match s.twin.seenFrom with
  | some t =>
    if s.get .TWIN_STATE 0 = 5 ∧ t + 4 ≤ s.tickKey then
      let n := (List.range 32).countP (fun b => s.get .BANK_ENABLE b == 1 && !bit (s.get .COMP_STATUS b) 5)
      let s := { s with twin := { s.twin with seenFrom := none } }
      .next (if n = 0 then s else (s.add32 .COMP_UNCONFIRMED 0 n).twinCause 9)
    else .next s
  | none => .next s

/-- TWIN_CAUSE_CLEAR (R435). -/
def execTwinCauseClear (w : Who) (mask : Nat) (s : State) : Host.Outcome State Fault Refusal :=
  .next (clearCommand w .TWIN_CAUSE_CLEAR .TWIN_CAUSE 0 mask s)

/-- The twin's clocks are apart (R435): PORT_OFFSET of the twin port beyond TWIN_TIME_LIMIT for 16 servo cycles. -/
def State.twinTimeCheck (s : State) : State :=
  if s.get .TWIN_ENABLE 0 = 1 ∧ s.get .TWIN_TIME_LIMIT 0 * 65536 < (s.get .PORT_OFFSET 2).natAbs then
    let n := s.twin.split + 1
    let s := { s with twin := { s.twin with split := n } }
    if 16 ≤ n then s.twinCause 14 else s
  else { s with twin := { s.twin with split := 0 } }

end Sys2Proof.Machine
end

