-- ==== Sys2Proof/Machine/FenceEffects.lean ====
section
/-! DEFINITION. The commands on fences (16_events_fences_integrity) and what a fence and a lift bring to each class. -/

namespace Sys2Proof.Machine

open Sys2Proof

/-! ### What a fence brings (R515, R517, R155, R231, R263, R306, R486) -/

/-- A management core is held in reset (R515, R473, R486): the mailbox channels bound to its services close and its locks
are freed. -/
def State.coreFence (s : State) (core : Nat) : State :=
  let s := (List.range 8).foldl (fun s k =>
    if s.get .MBX_STATE k ≠ 0 ∧ Config.mailService (s.get .MBX_SERVICE k).toNat = some core then s.closeBox k else s) s
  s.freeLocks (if core = 0 then 0x10 else 0x20)

/-- What a fence that has taken effect brings to its class. -/
def State.fenceEffect (s : State) (cls i : Nat) : State :=
  match cls with
  | 0 => s.spareFence i
  | 2 => if i = 52 then s.ripenFence else s
  | 3 => s.unitFence i
  | 4 => (s.trierCause i 8 none).noteTrierCjc i s.tickKey
  | 5 => if s.get .REPLAY_DEST 0 = i then s.cutReplay else s
  | 6 => s.regionFence i
  | 7 =>
    let s := (s.linkFail i 6).keepKill i
    if s.get .REPLAY_DEST 0 = 0xFF && s.get .LINK_STATE 0 != 1 && s.get .LINK_STATE 1 != 1 then s.cutReplay else s
  | 8 => s.setLinkState 2 0
  | 9 => s.coreFence i
  | _ => s

/-- An instance is fenced with a cause code (R513, R514, R517): a ring port first sends LINK_KILL with CAUSE 6. An automatic
fence is entered only while FENCE_AUTO of its class is 1. -/
def State.fenceBy (s : State) (cls i code : Nat) : State :=
  if s.fenced cls i then (if code = 1 then s else s.autoFence cls i code)
  else if code ≠ 1 && code ≠ 2 && !s.mayFence cls then s
  else
    let s := if cls = 7 then s.sendNeighbour i 3 [6, 0, 0, 0] else s
    let s := if code = 1 then s.enterFence cls i code
      else s.autoFence cls i code
    s.fenceEffect cls i

/-- Another management core is not fenced (R518). -/
def State.otherCore (s : State) (core : Nat) : Bool := !s.fenced 9 (1 - core)

/-- FENCE_SET (R513, R518, R521): an instance that the class has not is OUT_OF_RANGE; the last management core is refused. In the
cycle of a lift it comes before the lift, so the instance it finds fenced is lifted all the same. -/
def execFenceSet (w : Who) (cls : Fin 10) (i : Nat) (s : State) : Host.Outcome State Fault Refusal :=
  .next (asCommand w .service .FENCE_SET cls (.num i) (fun s =>
    if fenceInstances cls ≤ i then (.outOfRange, s)
    else if s.fenced cls i || (s.fenceTick cls i).lifted then (.ok, s)
    else if cls.val = 9 && !s.otherCore i then (.refused, s.cause .FI_CAUSE 0 2)
    else (.ok, s.fenceBy cls i 1)) s)

/-! ### What a lift brings (R520, R640) -/

/-- The fence of a bank is lifted in tick n: the excitation of every channel is switched on at n + 1, and every channel with
records that is neither in FAULT nor LOST requalifies from n + 1. -/
def State.bankLift (s : State) (b : Nat) (n : Int) : State :=
  (List.range 16).foldl (fun s i =>
    let c := 16 * b + i
    let st := s.get .CH_PRESENCE c
    let s := if s.hasRecords c && excMode (s.get .CH_MODE c) && s.get .CH_EXC c != 0 then
        s.wheySpan c (n + 1) (spanEnd (s.preset c) (n + 1) (s.get .EXC_SETTLE b).toNat) else s
    if s.hasRecords c && (st == 1 || st == 2 || st == 3) then
      (s.endMarks c .presence n).requalify c (n + 1) (n + 1)
    else s) s

/-- What a lift brings to its class. A port whose lanes are up resumes its link; a queue, a trigger unit, a region and a trier go on
from their present state, and a management core boots. -/
def State.liftEffect (s : State) (cls i : Nat) : State :=
  let n := s.tickKey
  match cls with
  | 0 => s.bankLift i n
  | 1 => s.laneLift i n
  | 2 => s.pressLift i
  | 4 => s.noteTrierCjc i n
  | 7 => s.linkRecovers i
  | 8 => if s.portUp 2 then s.setLinkState 2 1 else s
  | _ => s

/-- FENCE_LIFT (R520, R521): refused in the cycle of an automatic or a self-test fence. A lift is a recovery cause (R598). -/
def execFenceLift (w : Who) (cls : Fin 10) (i : Nat) (s : State) : Host.Outcome State Fault Refusal :=
  .next (asCommand w .service .FENCE_LIFT cls (.num i) (fun s =>
    if fenceInstances cls ≤ i then (.outOfRange, s)
    else if !s.fenced cls i then (.ok, s)
    else if (s.fenceTick cls i).auto then (.refused, s.cause .FI_CAUSE 0 2)
    else
      let s := s.setFenceTick cls i { s.fenceTick cls i with lifted := true }
      (.ok, ((s.leaveFence cls i).recover).liftEffect cls i)) s)

/-! ### Causes of automatic fences (R514, R523, R524) -/

/-- EXC_SUPPLY_OVERCURRENT (R514): code 8. -/
def execExcSupplyOvercurrent (b : Fin 32) (s : State) : Host.Outcome State Fault Refusal := .next (s.fenceBy 0 b 8)

/-- An uncorrectable curd store error in the storage of a press unit, a trigger unit or a queue (R514): more than PARITY_LIMIT
within 64,000 ticks fence it with code 6. -/
def State.curdLimit (s : State) (cls i : Nat) : State :=
  let n := s.tickKey
  let errs := n :: (tget s.curdBad (cls * 64 + i)).filter (fun t => decide (n - 64000 < t))
  let s : State := { s with curdBad := tput s.curdBad (cls * 64 + i) errs }
  if s.get .PARITY_LIMIT 0 < (errs.length : Int) then s.fenceBy cls i 6 else s

/-- A request of the ripen engine is abandoned (R263). -/
def State.ripenAbandon (s : State) : State :=
  if s.get .RIPEN_STATE 0 = 1 then
    ((s.standSeg (s.get .RIPEN_SEGMENT 0).toNat).engineNext).bump .RIPEN_ABANDONED 0
  else s

/-- A press packet of the output buffer is dropped (R241, R524). -/
def State.dropBuffered (s : State) (k : Nat) : State :=
  match s.press.buffer[k]? with
  | none => s
  | some p =>
    let s : State := { s with press := { s.press with buffer := s.press.buffer.eraseIdx k } }
    let s := if p.cls = 0 then s.dropStream p else s.dropReduced p
    s.curdLimit 2 p.unit

/-- What an uncorrectable curd store error does, by what its word held (R524). -/
def State.curdFault (s : State) (x : CurdFault) : State :=
  let s := (s.bump .CURD_ECC_UNCORRECTABLE 0).cause .FI_CAUSE 0 5
  match x with
  | .queueSlot q k =>
    let u := s.queue q
    let slots := ((List.range u.slots.length).zip u.slots).map (fun e => if e.1 = k then { e.2 with bad := true } else e.2)
    (s.setQueue q { u with slots }).curdLimit 5 q
  | .pressBuffer k => s.dropBuffered k
  | .ripenBuffer => s.ripenAbandon.curdLimit 2 52
  | .capture u =>
    let r := (s.get .CAP_REGION u).toNat
    let g := s.region r
    let s := if r < 16 ∧ (g.state = 1 ∨ g.state = 2 ∨ g.state = 3) then s.setRegion r { g with hurt := true } else s
    s.curdLimit 3 u
  | .other => s

/-- CURD_SCRUB_PASS (R524): the corrected errors are counted, EV 0xFC at the first after a clear; each uncorrectable one has
its effect. -/
def execCurdScrubPass (corrected : Nat) (bad : List CurdFault) (s : State) : Host.Outcome State Fault Refusal :=
  let s := if corrected = 0 then s else (s.add64 .CURD_ECC_CORRECTED 0 corrected).cause .FI_CAUSE 0 4
  .next (bad.foldl (fun s x => s.curdFault x) s)

end Sys2Proof.Machine
end

