-- ==== Sys2Proof/Machine/Commit.lean ====
section
/-! DEFINITION. Commits (01_architecture, 14_object_dictionary): staging, the set-wide checks of each chapter, and what a
commit at a grid index changes in every chapter. -/

namespace Sys2Proof.Machine

open Sys2Proof

/-! ### Comparing and keeping values -/

/-- A value of an object differs between two states. -/
def State.differs (s old : State) (o : Obj) (i : Nat) : Bool :=
  if o.info.isBytes then s.getBytes o i != old.getBytes o i else s.get o i != old.get o i

/-- Objects keep the values they had. -/
def State.keepOld (s old : State) (l : List (Obj × Nat)) : State :=
  l.foldl (fun s x => s.setValue x.1.info x.2 (old.valueOf x.1.info x.2)) s

def State.anyDiffers (s old : State) (l : List (Obj × Nat)) : Bool := l.any (fun x => s.differs old x.1 x.2)

/-- One object over consecutive instances. -/
def objRange (o : Obj) (first n : Nat) : List (Obj × Nat) := (List.range n).map (fun k => (o, first + k))

/-! ### The entries that staging changes (R444, R451) -/

/-- Every staged value set in place of the committed one. -/
def State.withStaged (s : State) : State :=
  let rows := objTable.filter (fun r => r.marked)
  let s' := if s.get .STAGED_DEFAULTS 0 = 1 then
      rows.foldl (fun t r => (List.range (r.count * r.subs)).foldl (fun t i => t.setValue r i (r.default i)) t) s else s
  s.engine.staged.foldl (fun t x => if x.1.obj.info.staged then t.setValue x.1.obj.info x.1.inst x.2 else t) s'

/-- Staging is empty, and the mark of R451 cleared (R448). -/
def State.clearStaging (s : State) : State :=
  { s with engine := { s.engine with staged := [] } }.put .STAGED_DEFAULTS 0 0

/-! ### Set-wide checks (R448). Each takes the state with the new values and the old state, and answers whether a part was
refused and the state with the refused part's old values and its cause bits. -/

/-- A refused part of a bank: cause bit [12] (R78, R108). -/
def State.bankRefused (s : State) (b : Nat) : State := s.bankCause b 12

/-- Channel c (R78, R79, R570): mode and range; a channel whose excitation output failed keeps its excitation. The even
channel of a pair is judged before the odd one. -/
def State.judgeChannel (s old : State) (c : Nat) : Bool × State :=
  let b := bankOf c
  let keys : List (Obj × Nat) := [(.CH_MODE, c), (.CH_RANGE, c)]
  let mode := s.get .CH_MODE c
  let was := old.get .CH_MODE c
  let fits := rangeAllowed mode (s.get .CH_RANGE c)
  let (r1, s) : Bool × State :=
    if c % 2 = 1 ∧ s.get .CH_MODE (c - 1) = 4 then
      if mode ≠ was then (true, ((s.keepOld old keys).put .CH_MODE c 8).bankRefused b) else (false, s.put .CH_MODE c 8)
    else if was = 8 then
      if mode = 8 then (false, s.put .CH_MODE c 0)
      else if mode = 4 ∨ fits = false then (true, ((s.keepOld old keys).put .CH_MODE c 0).bankRefused b)
      else (false, s)
    else if s.anyDiffers old keys = true ∧ (fits = false ∨ (mode = 4 ∧ c % 2 = 1)) then (true, (s.keepOld old keys).bankRefused b)
    else (false, s)
  if s.differs old .CH_EXC c && s.get .CH_EXC c != 0 && mapBit (s.getBytes .ST_EXC_FAILED 0) c then
    (true, (s.keepOld old [(.CH_EXC, c)]).bankRefused b)
  else (r1, s)

/-- A bank's scan objects (R131). -/
def State.judgeScan (s old : State) (b : Nat) : Bool × State :=
  let keys := [(.SCAN_LENGTH, b), (.EXC_SETTLE, b), (.LOOP_SETTLE, b)] ++ objRange .SCAN_ENTRY_n (32 * b) 32
  if s.anyDiffers old keys then
    let bad := scanBadEntry (s.get .SCAN_LENGTH b) (s.scanEntry b)
    if bad = 0xFF then (false, s.put .SCAN_BAD_ENTRY b 0xFF)
    else (true, ((s.keepOld old keys).put .SCAN_BAD_ENTRY b bad).bankRefused b)
  else (false, s)

/-- A converter's objects (R156). -/
def trierKeys (t : Nat) : List (Obj × Nat) :=
  [(.TRIER_MODE, t), (.SEQ_LENGTH, t), (.TRIER_CAD, t), (.TRIG_DELAY, t), (.ABORT_LIMIT, t), (.STALE_TICKS, t), (.LIN_GAIN, t),
   (.LIN_OFFSET, t), (.TRIER_QUEUE, t)] ++ objRange .SEQ_ENTRY_n (16 * t) 16 ++ objRange .WINDOW_n (16 * t) 16

/-- SEQ_BAD_ENTRY names nothing for the objects of a converter that a commit changes, before they are judged. -/
def State.freshTrier (s old : State) (t : Nat) : State :=
  if s.anyDiffers old (trierKeys t) || s.differs old .SIMUL_MASK 0 then s.put .SEQ_BAD_ENTRY t 0xFF else s

def State.judgeTrier (s old : State) (t : Nat) : Bool × State :=
  let group := s.differs old .SIMUL_MASK 0
  if s.anyDiffers old (trierKeys t) || group then
    let bad := s.seqBad t
    if bad = 0xFF then (false, s)
    else
      let keys := trierKeys t ++ (if bad = 0x30 && group then [(.SIMUL_MASK, 0)] else [])
      (true, ((s.keepOld old keys).put .SEQ_BAD_ENTRY t bad).trierCause t 3 none)
  else (false, s)

/-- The named entry of CJC_ENTRY lies within SEQ_LENGTH and gives 0.01 °C (R157). -/
def State.cjcGood (s : State) (b : Nat) : Bool :=
  let v := (s.get .CJC_ENTRY b).toNat
  let t := v / 16 % 4
  let e := v % 16
  let w := s.seqWord t e
  decide ((e : Int) < s.get .SEQ_LENGTH t) && (entryTemp w || tempInput (entryInput w))

def State.judgeCjc (s old : State) (b : Nat) : Bool × State :=
  if s.differs old .CJC_ENTRY b && !s.cjcGood b then (true, (s.keepOld old [(.CJC_ENTRY, b)]).bankRefused b) else (false, s)

/-- The harp objects of a lane that are judged as a set (R177). -/
def harpKeys (b : Nat) : List (Obj × Nat) :=
  [(.COEF_ACTIVE, b), (.COEF_FADE, b), (.NOTCH_MODE, b), (.DCB_ENABLE, b), (.DCB_AUTO_FREEZE, b), (.LANE_TRIM, b),
   (.COEF_LABEL, 2 * b), (.COEF_LABEL, 2 * b + 1)] ++ objRange .PRESET_i (16 * b) 16 ++ objRange .DCB_SHIFT_i (16 * b) 16 ++
  objRange .COEF_p (10 * b) 10

/-- The DC gain of a FIR of 48 coefficients lies within 1 % of 2^30 (R170). -/
def gainGood (bytes : List Byte) : Bool :=
  let h (j : Nat) : Int := leInt (slice bytes (4 * j) 4)
  let g := 2 * ((List.range 47).map h).sum + h 47
  bytes.length == 192 && decide ((g - 1073741824).natAbs * 100 ≤ 1073741824)

/-- The harp set of a lane and the delays of its bank's channels (R177). The delays are judged with the LANE_TRIM that the commit
leaves: the old one where another case refuses the set. -/
def State.judgeHarp (s old : State) (b : Nat) : Bool × State :=
  let delays := objRange .GROUP_DELAY (16 * b) 16 ++ objRange .SPARE_DELAY (16 * b) 16
  let set := s.anyDiffers old (harpKeys b) &&
    ((objRange .PRESET_i (16 * b) 16).any (fun x => decide (4 < s.get x.1 x.2)) || decide (3 < s.get .NOTCH_MODE b) ||
     decide (s.get .COEF_FADE b < 2) || decide (256 < s.get .COEF_FADE b) ||
     (objRange .DCB_SHIFT_i (16 * b) 16).any (fun x => decide (s.get x.1 x.2 < 4) || decide (24 < s.get x.1 x.2)) ||
     (objRange .COEF_p (10 * b) 10).any (fun x => s.differs old x.1 x.2 && !gainGood (s.getBytes x.1 x.2)))
  let trim := (if set then old else s).get .LANE_TRIM b
  let moved := trim != old.get .LANE_TRIM b || s.anyDiffers old delays
  let late := moved && delays.any (fun x => !delayAllowed trim (s.get x.1 x.2))
  if late || set then
    (true, ((s.keepOld old (harpKeys b ++ (if late then delays else []))).laneCause b 8).bankRefused b)
  else (false, s)

/-- The objects of a trigger unit, in subindex order (R234). -/
def unitObjs : List Obj :=
  [.TRIG_COND, .TRIG_SOURCE, .TRIG_EDGE, .LEVEL_A, .LEVEL_B, .HYST, .TIME_A, .TIME_B, .PW_QUAL, .SLEW_LIMIT, .BCAST_OUT,
   .BCAST_IN, .CAP_REGION, .CAP_FIRST, .CAP_COUNT, .CAP_PRE, .CAP_POST, .CAP_MODE, .CAP_KEEP, .CAP_QUEUE, .REARM_SAMPLES,
   .CAP_HIST, .CAP_PMAP, .CAP_STAT_INPUT]

/-- The condition objects of a unit (R228), and the capture objects of a leader (R209). -/
def condObjs : List Obj :=
  [.TRIG_COND, .TRIG_SOURCE, .TRIG_EDGE, .LEVEL_A, .LEVEL_B, .HYST, .TIME_A, .TIME_B, .PW_QUAL, .SLEW_LIMIT]
def captureObjs : List Obj :=
  [.CAP_REGION, .CAP_FIRST, .CAP_COUNT, .CAP_PRE, .CAP_POST, .CAP_MODE, .CAP_KEEP, .CAP_QUEUE, .REARM_SAMPLES, .CAP_HIST,
   .CAP_PMAP, .CAP_STAT_INPUT]

/-- The size of a capture region in force, in bytes; before a start the size that the objects give (R219, R293). -/
def State.regionBytes (s : State) : Int :=
  (if s.cave.regionMib = 0 then s.get .REGION_MIB 0 else s.cave.regionMib) * 1048576

/-- The captured channels have records and share one preset (R210, R229). -/
def State.onePreset (s : State) (first count : Nat) : Bool :=
  let cs := (List.range count).map (fun k => first + k)
  cs.all (fun c => s.hasRecords c && s.preset c == s.preset first)

/-- The first field that R229 refuses of a unit, in subindex order. -/
def State.unitBad (s : State) (u : Nat) : Option Obj :=
  let g (o : Obj) : Int := s.get o u
  let cond := g .TRIG_COND
  let src := (g .TRIG_SOURCE).toNat
  let r := (g .CAP_REGION).toNat
  let lead := r < 16 && (s.members r).head? == some u
  let level (v : Int) : Bool := decide (v < -8388608) || decide (8388607 < v)
  let first := (g .CAP_FIRST).toNat
  let count := (g .CAP_COUNT).toNat
  let others (o : Obj) (n : Nat) : Bool := decide ((g o).toNat < n) && (List.range 16).any (fun q =>
    q != r && (match (s.members q).head? with | some v => s.get o v == g o | none => false))
  let unit : List (Obj × Bool) :=
    [(.TRIG_COND, decide (6 < cond)), (.TRIG_SOURCE, decide (511 < src) || (cond != 0 && !s.hasRecords src)),
     (.TRIG_EDGE, decide (2 < g .TRIG_EDGE)), (.LEVEL_A, level (g .LEVEL_A)),
     (.LEVEL_B, level (g .LEVEL_B) || (cond == 3 && decide (g .LEVEL_B ≤ g .LEVEL_A))), (.HYST, decide (8388608 < g .HYST)),
     (.TIME_A, (cond == 2 || cond == 4) && g .TIME_A == 0),
     (.TIME_B, (g .PW_QUAL == 2 || g .PW_QUAL == 3) && decide (g .TIME_B < g .TIME_A)), (.PW_QUAL, decide (3 < g .PW_QUAL)),
     (.SLEW_LIMIT, cond == 5 && (g .SLEW_LIMIT == 0 || decide (g .SLEW_LIMIT ≤ g .HYST))),
     (.BCAST_OUT, decide (15 < g .BCAST_OUT) && g .BCAST_OUT != 255), (.CAP_REGION, decide (15 < r) && r != 255)]
  let leader : List (Obj × Bool) :=
    [(.CAP_FIRST, decide (count ≠ 0) && decide (first + count ≤ 512) && !s.onePreset first count),
     (.CAP_COUNT, count == 0 || decide (512 < first + count)),
     (.CAP_PRE, decide (s.regionBytes < 64 + 4 * g .CAP_COUNT * (g .CAP_PRE + g .CAP_POST))), (.CAP_POST, g .CAP_POST == 0),
     (.CAP_MODE, decide (2 < g .CAP_MODE)), (.CAP_QUEUE, g .CAP_KEEP == 0 && g .CAP_QUEUE == 255),
     (.CAP_HIST, others .CAP_HIST 16), (.CAP_PMAP, others .CAP_PMAP 4),
     (.CAP_STAT_INPUT, decide (g .CAP_COUNT ≤ g .CAP_STAT_INPUT))]
  ((unit ++ (if lead then leader else [])).find? (fun x => x.2)).map (fun x => x.1)

/-- A commit bears on R229 for a unit whose own objects it leaves: the unit becomes leader, or a channel it names gains or loses
its records. -/
def State.unitTouched (s old : State) (u : Nat) : Bool :=
  let r := (s.get .CAP_REGION u).toNat
  let leads (t : State) : Bool := decide (r < 16) && (t.members r).head? == some u
  let moved (c : Nat) : Bool := s.hasRecords c != old.hasRecords c
  (leads s && !leads old) || (s.unitOn u && moved (s.get .TRIG_SOURCE u).toNat) ||
  (leads s && (List.range (s.get .CAP_COUNT u).toNat).any (fun k => moved ((s.get .CAP_FIRST u).toNat + k)))

def State.judgeUnit (s old : State) (u : Nat) : Bool × State :=
  let keys := unitObjs.map (fun o => (o, u))
  if s.anyDiffers old keys || s.unitTouched old u then
    match s.unitBad u with
    | none => (false, s.put .UNIT_BAD_FIELD u 0xFF)
    | some o => (true, ((s.keepOld old keys).put .UNIT_BAD_FIELD u (o.place u).2).unitCause u 11)
  else (false, s)

/-- A refused press unit (R265): PRESS_BAD_FIELD and cause bit [8]. -/
def State.pressRefused (s old : State) (unit : Nat) (keys : List (Obj × Nat)) (bad : Obj × Nat) : Bool × State :=
  let (index, sub) := bad.1.place bad.2
  (true, ((s.keepOld old keys).put .PRESS_BAD_FIELD 0 (index * 65536 + sub : Nat)).pressCause unit 8)

/-- The objects of a press unit with the fields that R265 refuses. -/
def State.judgePress (s old : State) (unit : Nat) (keys : List (Obj × Nat)) (bad : List ((Obj × Nat) × Bool)) : Bool × State :=
  if s.anyDiffers old keys then
    match bad.find? (fun x => x.2) with
    | none => (false, s)
    | some x => s.pressRefused old unit keys x.1
  else (false, s)

def State.judgeStream (s old : State) (b : Nat) : Bool × State :=
  let g (o : Obj) : Int := s.get o b
  let sel (x : Obj × Nat) : Bool := let v := (s.get x.1 x.2).toNat; decide (15 < v) || v % 4 == 3
  let sels := objRange .OUT_SEL_i (16 * b) 16
  let floors := objRange .RIPEN_FLOOR_i (16 * b) 16
  let keys := [(.AVG_N, b), (.AVG_MIN_USED, b), (.STAT_N, b), (.ALIGN, b)] ++ sels ++ floors
  s.judgePress old b keys
    ([((.AVG_N, b), decide (g .AVG_N < 2) || decide (4096 < g .AVG_N)),
      ((.AVG_MIN_USED, b), decide (g .AVG_MIN_USED < 1) || decide (g .AVG_N < g .AVG_MIN_USED)),
      ((.STAT_N, b), decide (g .STAT_N < 2) || decide (1048576 < g .STAT_N)), ((.ALIGN, b), decide (1 < g .ALIGN))] ++
     sels.map (fun x => (x, sel x)) ++ floors.map (fun x => (x, decide (4 < s.get x.1 x.2))))

def histKeys (h : Nat) : List (Obj × Nat) :=
  [(.HIST_ENABLE, h), (.HIST_SOURCE, h), (.HIST_BASE, h), (.HIST_SHIFT, h), (.HIST_WINDOW, h), (.HIST_EMIT, h)]

def State.judgeHist (s old : State) (h : Nat) : Bool × State :=
  let src := (s.get .HIST_SOURCE h).toNat
  s.judgePress old (32 + h) (histKeys h)
    [((.HIST_SOURCE, h), decide (511 < src) || (s.get .HIST_ENABLE h == 1 && !s.hasRecords src)),
     ((.HIST_SHIFT, h), decide (14 < s.get .HIST_SHIFT h))]

/-- The queues of the press (R265): each names a queue, and no two the same. The objects belong to no unit; cause bit [8]. -/
def State.judgeQueues (s old : State) : Bool × State :=
  let a := s.get .STREAM_QUEUE 0
  let b := s.get .REDUCED_QUEUE 0
  let c := s.get .STAT_QUEUE 0
  let keys := [(.STREAM_QUEUE, 0), (.REDUCED_QUEUE, 0), (.STAT_QUEUE, 0), (.VERIFY_LIMIT, 0)]
  if s.anyDiffers old keys then
    match [((.STREAM_QUEUE, 0), decide (15 < a)), ((.REDUCED_QUEUE, 0), decide (15 < b) || a == b),
           ((.STAT_QUEUE, 0), decide (15 < c) || a == c || b == c)].find? (fun (x : (Obj × Nat) × Bool) => x.2) with
    | none => (false, s)
    | some x =>
      let (index, sub) := x.1.1.place x.1.2
      (true, ((s.keepOld old keys).put .PRESS_BAD_FIELD 0 (index * 65536 + sub : Nat)).cause .PRESS_CAUSE 0 8)
  else (false, s)

/-- The member record of a hub address says that it is a unit of a twin (R426, R600). -/
def State.isTwin (s : State) (addr : Nat) : Bool :=
  (addr == Config.hubAddress && s.get .TWIN_ENABLE 0 == 1) ||
  s.vat.recs.any (fun x => leNat (slice x.2.1 2 2) % 512 == addr && (leNat (slice x.2.1 14 1)).testBit 2)

/-- The twin objects (R426, R436): the relations that R436 states among the terms, and a witness that is no twin. -/
def State.judgeTwin (s old : State) : Bool × State :=
  let g (o : Obj) : Int := s.get o 0
  let terms := [(.LEASE_TERM, 0), (.HB_PERIOD, 0), (.HB_TIMEOUT, 0), (.WITNESS_RENEW, 0)]
  let bad := decide (g .LEASE_TERM % 16 ≠ 0) || decide (g .HB_TIMEOUT < 3 * g .HB_PERIOD) ||
    decide (g .LEASE_TERM < 4 * g .HB_TIMEOUT) || decide (g .LEASE_TERM < 4 * g .WITNESS_RENEW)
  let (r1, s) : Bool × State := if s.anyDiffers old terms && bad then (true, s.keepOld old terms) else (false, s)
  if s.differs old .WITNESS_ADDR 0 && s.isTwin (g .WITNESS_ADDR).toNat then (true, s.keepOld old [(.WITNESS_ADDR, 0)])
  else (r1, s)

/-- Folds a check over instances. -/
def judgeAll (n : Nat) (f : State → Nat → Bool × State) (x : Bool × State) : Bool × State :=
  (List.range n).foldl (fun (a : Bool × State) i => let (r, s) := f a.2 i; (a.1 || r, s)) x

/-- Everything staged put in place and judged (R448): whether a part was refused, and the state with the values that stand.
The press is judged from its last unit down, so that PRESS_BAD_FIELD keeps the field of the lowest index (R265). -/
def State.judgeCommit (old : State) : Bool × State :=
  let x : Bool × State := (false, old.withStaged)
  let x := judgeAll 512 (fun s c => s.judgeChannel old c) x
  let x := judgeAll 32 (fun s b => s.judgeScan old b) x
  let x := judgeAll 4 (fun s t => (false, s.freshTrier old t)) x
  let x := judgeAll 16 (fun s k => s.judgeTrier old (k % 4)) x
  let x := judgeAll 32 (fun s b => s.judgeCjc old b) x
  let x := judgeAll 32 (fun s b => s.judgeHarp old b) x
  let x := judgeAll 16 (fun s u => s.judgeUnit old u) x
  let x := judgeAll 1 (fun s _ => s.judgeQueues old) x
  let x := judgeAll 16 (fun s h => s.judgeHist old (15 - h)) x
  let x := judgeAll 32 (fun s b => s.judgeStream old (31 - b)) x
  judgeAll 1 (fun s _ => s.judgeTwin old) x

/-! ### What a commit at G changes -/

/-- The largest row of R124 that a mode's front end involves. DEDUCED, log entry 207: range code 4, excitation, RTD4 pairing and
loop power, as the channel's settings have them. -/
def State.modeSettle (s : State) (c : Nat) : Nat :=
  let b := bankOf c
  let mode := s.get .CH_MODE c
  let range := s.get .CH_RANGE c
  let rows : List (Bool × Nat) :=
    [(true, 4), (range == 4, 8), (excMode mode && s.get .CH_EXC c != 0, (s.get .EXC_SETTLE b).toNat),
     (mode == 6 && bit (s.get .COMP_LOOP_POWER b) (inputOf c), (s.get .LOOP_SETTLE b).toNat)]
  (rows.filter (fun x => x.1)).foldl (fun m x => max m x.2) 0

/-- Analogue settling A of a commit for a channel (R124), none where no row applies; the DIVIDER apart. -/
def State.commitSettle (s old : State) (c : Nat) : Option Nat :=
  let b := bankOf c
  let mode := s.get .CH_MODE c
  let was := old.get .CH_MODE c
  let range := s.get .CH_RANGE c
  let powered := bit (s.get .COMP_LOOP_POWER b) (inputOf c) && !bit (old.get .COMP_LOOP_POWER b) (inputOf c)
  let excNow : Int := if excMode mode then s.get .CH_EXC c else 0
  let excWas : Int := if excMode was then old.get .CH_EXC c else 0
  let rows : List (Bool × Nat) :=
    [(decide (range ≠ old.get .CH_RANGE c), 2), (decide (excNow ≠ excWas), (s.get .EXC_SETTLE b).toNat),
     (decide (mode ≠ was) && (mode == 4 || was == 4), 4), (powered, (s.get .LOOP_SETTLE b).toNat),
     (decide (mode ≠ was), s.modeSettle c),
     (decide (s.preset c ≠ old.preset c), 0)]
  let hit := rows.filter (fun x => x.1)
  if hit.isEmpty then none else some (hit.foldl (fun m x => max m x.2) 0)

/-- No healthy modulator serves a channel (R101). -/
def State.unserved (s : State) (c : Nat) : Bool :=
  let b := bankOf c
  (s.bank b).failed.contains (inputOf c) && !(s.get .SPARE_STATE b == 7 && s.spareInput b == inputOf c)

/-- A channel has records, and its bank is on. -/
def State.sampled (s : State) (c : Nat) : Bool := s.hasRecords c && s.get .BANK_ENABLE (bankOf c) == 1

/-- What a commit makes of a channel's chain (R26, R191, R193): its configuration is logged, a changed preset begins a new chain, and
so does a channel that has records from now on. -/
def State.commitChain (s old : State) (c : Nat) (g : Int) : State :=
  let now := s.sampled c
  let was := old.sampled c
  let fresh := was && (!now || s.preset c != old.preset c)
  let s := if s.cfgNow c = old.cfgNow c then s else s.logCfg c g
  let s := if fresh then s.changePreset c (old.preset c) g
    else if now && !was then s.setChan c { s.chan c with chain := { preset := s.preset c, start := g, body := { since := g } } }
    else s
  let s := if was && !now then s.logExc c g 1 else s
  if fresh then s.pressCut c g else s

/-- The settling that a commit brings to a channel (R124, R125). -/
def State.commitSpan (s old : State) (c : Nat) (g : Int) : State :=
  let s := match s.commitSettle old c with
    | some a => if s.sampled c then let e := spanEnd (s.preset c) g a; (s.wheySpan c g e).mergeSpan c g e else s
    | none => s
  let four := (s.get .CH_RANGE c == 4) != (old.get .CH_RANGE c == 4)
  if s.sampled c && four then s.dividerSwitch c g else s

/-- The presence of a channel whose mode or range a commit changes (R94, R101): judged anew, or clear without records. -/
def State.commitPresence (s old : State) (c : Nat) (g : Int) : State :=
  if s.differs old .CH_MODE c || s.differs old .CH_RANGE c then
    let s := (s.endMarks c .presence (g - 1)).endMarks c .fault (g - 1)
    let s := s.setChan c { s.chan c with failRun := 0, passRun := 0, faultKind := 0, verdict := none }
    if !s.sampled c then (s.put .CH_WIRE_FAULT c 0).put .CH_PRESENCE c 0
    else
      let s := s.requalify c g g
      if s.unserved c then s.enterLost c else s
  else s

/-- What a commit at G does to one channel while acquisition runs (R26, R94, R124, R191). DESIGN CHOICE, log entry 205: the presence
detector's result of the tick, taken under the old settings, is dropped with the counts. -/
def State.commitChannel (s old : State) (c : Nat) (g : Int) : State :=
  ((s.commitChain old c g).commitSpan old c g).commitPresence old c g

/-- What a commit does to one bank (R87, R88, R132, R171, R172). -/
def State.commitBank (s old : State) (b : Nat) (g : Int) : State :=
  let s := s.planCommit s b
  let scans := (.SCAN_LENGTH, b) :: objRange .SCAN_ENTRY_n (32 * b) 32
  if s.differs old .BANK_ENABLE b then
    if s.get .BANK_ENABLE b = 1 then
      let s := ((s.linkStart b).scanBegin b g).spareStart b
      (List.range 16).foldl (fun s i =>
        let c := 16 * b + i
        if s.hasRecords c then (s.wheySpan c g (spanEnd (s.preset c) g 0)).requalify c g g else s) s
    else
      let s := ((s.linkStop b).scanStop b).spareStop b
      (List.range 16).foldl (fun s i => s.put .CH_PRESENCE (16 * b + i) 0) s
  else if s.get .BANK_ENABLE b = 1 ∧ s.anyDiffers old scans = true then s.scanBegin b g
  else s

/-- Coefficient contents and requests of a lane, and DC blockers that the commit enables (R171, R172, R189). -/
def State.commitLane (s old : State) (b : Nat) (g : Int) : State :=
  let s := (List.range 16).foldl (fun (s : State) i =>
    if bit (s.get .DCB_ENABLE b) i && !bit (old.get .DCB_ENABLE b) i then s.put .DCB_ESTIMATE_i (16 * b + i) 0 else s) s
  let s := (List.range 10).foldl (fun s j =>
    let k := 10 * b + j
    if s.differs old .COEF_p k then s.changeCoef b (j / 5) (j % 5) (old.getBytes .COEF_p k) g else s) s
  if s.differs old .COEF_ACTIVE b then s.requestSwap b (s.get .COEF_ACTIVE b).toNat g true else s

/-- The press at a commit (R237, R243, R255). -/
def State.commitPress (s old : State) (g : Int) : State :=
  let s := (List.range 32).foldl (fun s b =>
    let unit := s.anyDiffers old [(.AVG_N, b), (.AVG_MIN_USED, b), (.STAT_N, b), (.ALIGN, b)]
    let s := (List.range 16).foldl (fun s i =>
      if unit || s.differs old .OUT_SEL_i (16 * b + i) || s.differs old .RIPEN_FLOOR_i (16 * b + i) then s.pressCut (16 * b + i) g else s) s
    s.notePasses b g) s
  let s : State := if s.pressQueuesNow = old.pressQueuesNow then s
    else { s with press := { s.press with queues := logAdd g s.pressQueuesNow s.press.queues } }
  (List.range 16).foldl (fun s h =>
    let s := if s.histCfgNow h = old.histCfgNow h then s else s.logHist h g
    if s.differs old .HIST_ENABLE h && (s.hist h).bound.isNone then
      if s.get .HIST_ENABLE h = 1 then s.histBegin h g else s.histEnd h g
    else s) s

/-- A group at a commit (R217, R228, R230). -/
def State.commitGroup (s old : State) (r : Nat) (g : Int) : State :=
  let lead := (s.members r).head?
  let was := (old.members r).head?
  let reg := s.region r
  let changed := lead != was || (match lead with
    | some u => captureObjs.any (fun o => s.differs old o u)
    | none => false)
  let chans := (List.range reg.count).map (fun k => reg.first + k)
  let preset := chans.any (fun c => s.preset c != old.preset c)
  let mixed := match lead with
    | some u => !s.presetsShared (s.get .CAP_FIRST u).toNat (s.get .CAP_COUNT u).toNat
    | none => false
  let block (s : State) : State := (s.withRegion r { s.region r with state := 5, rows := [], written := 0, armFrom := none }).groupCause r 11
  let st := reg.state
  if st = 4 then s.showGroup r
  else if st = 5 then if mixed then s.showGroup r else s.armGroup r (some g)
  else if st = 3 then
    if preset && mixed then block (s.cutGroup r false false)
    else if changed || preset || !s.groupOn r then s.cutGroup r false false
    else s.showGroup r
  else if st = 0 then if s.running && s.groupOn r then s.armGroup r (some g) else s.showGroup r
  else if changed || preset || !s.groupOn r then s.armGroup r (some g)
  else s.showGroup r

/-- The rennet at a commit (R226 to R230, R255, R258): detectors, groups, and the bound units of the press. -/
def State.commitRennet (s old : State) (g : Int) : State :=
  let s : State := (List.range 16).foldl (fun (s : State) u =>
    let src := (s.get .TRIG_SOURCE u).toNat
    let conds := condObjs.any (fun o => s.differs old o u)
    let s : State := if conds then s.setUnit u { s.unit u with det := {}, matured := none, skipTo := g }
      else if s.preset src != old.preset src then s.setUnit u { s.unit u with det := {}, matured := none } else s
    let begins := s.unitOn u && (!old.unitOn u || s.differs old .CAP_REGION u)
    let s : State := if begins then s.setUnit u { s.unit u with armFrom := none } else s
    if s.get .CAP_REGION u = 255 then (s.put .UNIT_STATE u (s.aloneState u)).put .CAP_HELD u 0 else s) s
  let s := (List.range 16).foldl (fun s r => s.commitGroup old r g) s
  let owner (o : Obj) (n : Nat) : Option Nat := (List.range 16).find? (fun r =>
    match (s.members r).head? with | some u => s.get o u == (n : Int) | none => false)
  let s := (List.range 16).foldl (fun s h =>
    let have_ := (s.hist h).bound
    match owner .CAP_HIST h with
    | some r => if have_ = some r then s else s.histBind h r
    | none => if have_.isSome then s.histUnbind h g else s) s
  (List.range 4).foldl (fun s m =>
    let bound := (owner .CAP_PMAP m).isSome
    let s := s.setPmap m { s.pmap m with bound }
    if s.get .PMAP_STATE m = 2 then s else s.put .PMAP_STATE m (b2i bound)) s

/-- The converters at a commit (R156, R157): it aborts items 1 and 2 of a test when it changes a TRIER_MODE (R571). -/
def State.commitTriers (s old : State) (g : Int) : State :=
  let s := (List.range 4).foldl (fun s t =>
    let s := if s.differs old .TRIER_MODE t then s.abortItems [1, 2] else s
    if s.anyDiffers old ((.SIMUL_MASK, 0) :: trierKeys t) then s.trierCommitted t else s) s
  (List.range 32).foldl (fun s b => if s.differs old .CJC_ENTRY b then s.noteCjc b (g - 1) else s) s

/-- The instance, class × 64 + number, whose COMMIT step applies an entry (R21); none for the entries of no instance, which any
COMMIT step applies. -/
def Key.stepUnit (k : Key) : Option Nat :=
  let x := (k.obj.place k.inst).1
  if 0x2000 ≤ x && x < 0x2020 then some (x - 0x2000) else if 0x2100 ≤ x && x < 0x2120 then some (x - 0x2100)
  else if 0x3000 ≤ x && x < 0x3200 then some ((x - 0x3000) / 16)
  else if 0x4000 ≤ x && x < 0x4020 then some (64 + (x - 0x4000)) else if 0x4040 ≤ x && x < 0x4080 then some (64 + (x - 0x4040) / 2)
  else if 0x5000 ≤ x && x < 0x5020 then some (128 + (x - 0x5000)) else if 0x5020 ≤ x && x < 0x5030 then some (160 + (x - 0x5020))
  else if 0x4800 ≤ x && x < 0x4810 then some (192 + (x - 0x4800))
  else if 0x2200 ≤ x && x < 0x2208 then some (256 + x % 4)
  else if 0x5800 ≤ x && x < 0x5810 then some (320 + (x - 0x5800))
  else none

/-- The COMMIT steps of the tick name the instance of an entry. -/
def State.stepNamed (s : State) (k : Key) : Bool :=
  match k.stepUnit with
  | some u => s.frame.commits.contains u
  | none => true

/-- What each chapter does with a commit at G whose values are in place. -/
def State.takeCommit (s old : State) (g : Int) : State :=
  let s := if s.running then
      let s := (List.range 512).foldl (fun s c => s.commitChannel old c g) s
      let s := (List.range 32).foldl (fun s b => s.commitBank old b g) s
      s.commitPress old g
    else s
  let s := (List.range 32).foldl (fun s b => s.commitLane old b g) s
  (s.commitRennet old g).commitTriers old g

/-- Values of an earlier commit are applied where `named` holds of their entries (R21; log entry 123). -/
def State.applyOwed (s : State) (named : Key → Bool) (g : Int) : State :=
  let (mine, rest) := s.engine.owed.partition (fun x => named x.1)
  if mine.isEmpty then s
  else
    let staged := s.engine.staged
    let defaults := s.get .STAGED_DEFAULTS 0
    let old := { s with engine := { s.engine with staged := mine, owed := rest } }.put .STAGED_DEFAULTS 0 0
    let (part, s) := old.judgeCommit
    let s := if part then s.bump .COMMIT_PARTS_REFUSED 0 else s
    let s := s.takeCommit old g
    { s with engine := { s.engine with staged } }.put .STAGED_DEFAULTS 0 defaults

/-- A commit stands (R26, R446, R448): the judged values are put in place, staging is emptied, the counters and the journal
record it, and each chapter takes it at grid index G. While acquisition runs the COMMIT steps of the tick apply the values of
the instances they name, and the others wait for a step that names them (R21; log entry 123). -/
def State.commitAt (s : State) (g : Int) : State :=
  let (mine, rest) := if s.running then s.engine.staged.partition (fun x => s.stepNamed x.1) else (s.engine.staged, [])
  let old := { s with engine := { s.engine with staged := mine, owed := s.engine.owed ++ rest } }
  let (part, s) := old.judgeCommit
  let s := (s.clearStaging).bump .COMMIT_COUNT 0
  let s := if part then s.bump .COMMIT_PARTS_REFUSED 0 else s
  let s := s.jrnWrite 3 0 0x1010 0x0A false part (leBytes 8 (s.get .LAST_COMMIT_INDEX 0).toNat) (leBytes 8 g.toNat)
  (s.put .LAST_COMMIT_INDEX 0 g).takeCommit old g

/-- The settings that the COMMIT steps of the tick will leave, `comes` where a commit is applied in it (R26, R87). -/
def State.coming (s : State) (comes : Bool) : State :=
  let mine := (s.engine.owed ++ (if comes then s.engine.staged else [])).filter (fun x => s.stepNamed x.1)
  if mine.isEmpty && !comes then s else ({ s with engine := { s.engine with staged := mine } } : State).judgeCommit.2

/-- The armed commit is gone: ARMED_INDEX reads all ones. -/
def State.disarm (s : State) : State :=
  ({ s with engine := { s.engine with armed := none } }.put .ARMED_INDEX 0 18446744073709551615).put .ARMED_DIGEST 0 0

/-! ### The commands -/

/-- A commit refused as a whole (R448). -/
def State.refuseCommit (s : State) (e : Err) : Err × State := (e, s.bump .COMMIT_REFUSALS 0)

/-- The hub is discordant for R35 (R606). -/
def State.discordant (s : State) : Bool := decide (3 ≤ s.get .VAT_STATE 0)

/-- COMMIT_ARM (R635): the first case that holds decides. An arming is sent to the partner of a twin (R417). -/
def execCommitArm (w : Who) (g digest : Nat) (s : State) : Host.Outcome State Fault Refusal :=
  let value : Val := .bytes (leBytes 8 g ++ leBytes 4 digest)
  .next (asCommand w .engineer .COMMIT_ARM 0 value (fun s =>
    if s.engine.armed = some (g, digest) then (.ok, s)
    else if s.discordant then s.refuseCommit .discordant
    else if s.engine.armed.isSome then s.refuseCommit .commitArmed
    else
      let ahead := s.instant g - s.time.vt
      if ahead < 64 * tick24 ∨ 67108864 * tick24 < ahead then (s.cause .MJ_CAUSE 0 6).refuseCommit .commitLate
      else if digest ≠ s.stagedDigest then (s.cause .MJ_CAUSE 0 7).refuseCommit .commitDigest
      else
        let s := ({ s with engine := { s.engine with armed := some (g, digest) } }.put .ARMED_INDEX 0 g).put .ARMED_DIGEST 0 digest
        (.ok, if w.origin = .twin then s else s.mirrorWrite .COMMIT_ARM 0 value)) s)

/-- COMMIT_CANCEL (R471): refused when another G is armed, or none. -/
def execCommitCancel (w : Who) (g : Nat) (s : State) : Host.Outcome State Fault Refusal :=
  .next (asCommand w .engineer .COMMIT_CANCEL 0 (.num g) (fun s =>
    match s.engine.armed with
    | some (a, _) =>
      if a = g then (.ok, if w.origin = .twin then s.disarm else s.disarm.mirrorWrite .COMMIT_CANCEL 0 (.num g)) else (.refused, s)
    | none => (.refused, s)) s)

/-- The grid index of an immediate commit while acquisition is stopped (R446): that of the next grid instant. -/
def State.nextIndex (s : State) : Int := max 0 s.nextInstant

/-- COMMIT_NOW (R446, R447): at once while stopped; while acquisition runs, by the COMMIT steps of the first tick that begins
after acceptance. -/
def execCommitNow (w : Who) (digest : Nat) (s : State) : Host.Outcome State Fault Refusal :=
  .next (asCommand w .engineer .COMMIT_NOW 0 (.num digest) (fun s =>
    if s.engine.armed.isSome then (.commitArmed, s)
    else if digest ≠ s.stagedDigest then s.refuseCommit .commitDigest
    else if s.running then (.ok, { s with frame := { s.frame with immediate := true } })
    else (.ok, s.commitAt s.nextIndex)) s)

/-- The armed commit is applied when its tick has run its COMMIT steps (R26). -/
def State.commitDue (s : State) : Bool :=
  match s.engine.armed with
  | some (g, _) => s.running && decide ((g : Int) - 1 ≤ s.tickKey) && s.frame.commitRan
  | none => false

def State.dueCommit (s : State) : State :=
  match s.engine.armed with
  | some (g, _) => if s.commitDue then s.disarm.commitAt (max (g : Int) (s.tickKey + 1)) else s
  | none => s

/-- The commit that is due in the tick, after what R232 puts before a commit. -/
def State.commitFirst (s : State) : State := if s.commitDue then s.judgeWaiting.pressEmit.dueCommit else s

/-- SCHEDULED_COMMIT_DUE (R26): in tick G − 1, once its COMMIT steps have run. -/
def execScheduledCommitDue (s : State) : Host.Outcome State Fault Refusal := settled s.commitFirst

/-- STAGE_DISCARD (R447, R448, R451). -/
def execStageDiscard (w : Who) (s : State) : Host.Outcome State Fault Refusal :=
  .next (asCommand w .engineer .STAGE_DISCARD 0 .unit (fun s =>
    if s.engine.armed.isSome then (.commitArmed, s) else (.ok, s.clearStaging)) s)

/-- RESTORE_DEFAULTS (R447, R451): staged values of the entries whose default is a value are emptied, and the mark is set. -/
def execRestoreDefaults (w : Who) (s : State) : Host.Outcome State Fault Refusal :=
  .next (asCommand w .engineer .RESTORE_DEFAULTS 0 .unit (fun s =>
    if s.engine.armed.isSome then (.commitArmed, s)
    else
      let kept := s.engine.staged.filter (fun x => !x.1.obj.info.marked)
      (.ok, { s with engine := { s.engine with staged := kept } }.put .STAGED_DEFAULTS 0 1)) s)

/-- CFG_SAVE (R450, R612): the committed values of every RW and RWS entry are stored, LEFT with them. -/
def execCfgSave (w : Who) (s : State) : Host.Outcome State Fault Refusal :=
  .next (asCommand w .engineer .CFG_SAVE 0 .unit (fun s =>
    let vals := cfgEntries.map (fun e => ((⟨e.2.1.obj, e.2.2⟩ : Key), s.valueOf e.2.1 e.2.2))
    let s := { s with engine := { s.engine with saved := some vals }, boot := { s.boot with leftSaved := s.vat.left } }
    (.ok, s.put .CFG_SAVED_DIGEST 0 s.cfgDigest)) s)

end Sys2Proof.Machine
end

