-- ==== Sys2Proof/Machine/LaneEnds.lean ====
section
/-! DEFINITION. What ends on a harp lane in a tick, after the commit that is due in it (06_harp_decimation, R174 and R195): priming,
a fade between coefficient banks, and the swap requests judged after them. -/

namespace Sys2Proof.Machine

open Sys2Proof

/-- PRIMING_END (R174): in tick PRIME_END − 1. -/
def execPrimingEnd (b : Fin 32) (s : State) : Host.Outcome State Fault Refusal := settled (s.commitFirst.endPriming b)

/-- COEF_FADE_END (R173, R174): in tick E − 1. -/
def execCoefFadeEnd (b : Fin 32) (s : State) : Host.Outcome State Fault Refusal := settled (s.commitFirst.endFade b)

/-- SWAP_REQUEST_JUDGED (R172, R174, R195): in tick S − 1, what ends in the tick before it. -/
def execSwapRequestJudged (b : Fin 32) (s : State) : Host.Outcome State Fault Refusal :=
  if s.running then settled (((s.commitFirst.endPriming b).endFade b).judgeSwaps b) else .next s

end Sys2Proof.Machine
end

