-- ==== Sys2Proof/Machine/PowerStates.lean ====
section
/-! DEFINITION. What a change between RUN, DIM and VIGIL brings to the cave, the ring ports and the time unit
(17_security_debug_power R549 to R552). -/

namespace Sys2Proof.Machine

open Sys2Proof

/-- The cave loses its contents: the stream ring, the captures held in the regions and the journal mirror. -/
def State.caveLost (s : State) : State :=
  let s : State := { s with cave := { s.cave with ring := [], request := none },
                            journal := { s.journal with mirror := [], mirrorDue := [] } }
  (List.range 16).foldl (fun (s : State) r => s.setRegion r { s.region r with header := [], data := [], rows := [], parts := [] }) s

/-- The hub enters VIGIL (R549, R550): the ring ports are asked for PWR_VIGIL_PORTS, and the cave stays in self-refresh, or
is powered down when PWR_VIGIL_CAVE is 1 and nothing is unacknowledged. CAVE_STATE then reads SELF_REFRESH too
(DESIGN CHOICE, log entry 27). -/
def State.toVigil (s : State) : State :=
  let s := s.setPower 2
  let quiet := (s.get .PWR_VIGIL_PORTS 0).toNat
  let s := if quiet = 0 then s else (s.requestQuiet 0 quiet).requestQuiet 1 quiet
  if s.get .CAVE_STATE 0 = 2 then
    let s := s.put .CAVE_STATE 0 3
    if s.get .PWR_VIGIL_CAVE 0 = 1 ∧ s.unackedBytes = 0 then s.caveLost.put .JRN_MIRROR_STATE 0 0 else s
  else s

/-- A ring port returns to what PORT_POWER wants (R549). -/
def State.portBack (s : State) (p : Nat) : State :=
  if s.get .PORT_POWER p = 0 then (s.setLink p { s.link p with request := 0 }).wakePort p else s

/-- VT stopped in VIGIL: its state is UNSET, as after a restart, and PT's (R549). -/
def State.timeRestarts (s : State) : State :=
  let s := s.restartSource
  let s : State := { s with time := { s.time with ptLostRun := 0, ptLostRaised := false, ptQualify := 0, ptOffset := none } }
  s.put .PT_STATE 0 0

/-- The hub returns to RUN from VIGIL or DIM (R550): the cave is READY, and what VIGIL had stopped runs again. -/
def State.toRun (s : State) : State :=
  let was := s.get .PWR_STATE 0
  if was = 0 ∨ was = 3 then s
  else
    let s : State := { s with power := { s.power with caveIdleAt := none, stoppedAt := s.time.cycle } }
    let s := (s.setPower 0).caveReady
    if was = 2 then
      let s := if s.get .PWR_VIGIL_TIME 0 = 0 then s.timeRestarts else s
      (s.portBack 0).portBack 1
    else s

/-- BRINGUP begins (R592, R593): the cave trains and the lanes leave OFF. -/
def State.bringUp (s : State) : State := ((s.put .START_STATE 0 5).put .CAVE_STATE 0 1).applyLaneEnable

end Sys2Proof.Machine
end

