-- ==== Sys2Proof/Machine/Acquire.lean ====
section
/-! DEFINITION. The frame table, and starting and stopping acquisition (01_architecture R21 to R27 and R637,
19_startup_and_vat_membership R594 to R597). -/

namespace Sys2Proof.Machine

open Sys2Proof

/-! ### Frame table steps (R21) -/

/-- A frame table step word (R21). -/
def stepWord (op cls first last cad : Nat) : Nat := op * 2 ^ 28 + cls * 2 ^ 24 + first * 2 ^ 16 + last * 2 ^ 8 + cad * 2 ^ 4

def stepOp (w : Nat) : Nat := w / 2 ^ 28 % 16
def stepClass (w : Nat) : Nat := w / 2 ^ 24 % 16
def stepFirst (w : Nat) : Nat := w / 2 ^ 16 % 256
def stepLast (w : Nat) : Nat := w / 2 ^ 8 % 256
def stepCad (w : Nat) : Nat := w / 2 ^ 4 % 16

/-- A step runs in tick n (R21). -/
def stepRuns (w : Nat) (n : Int) : Bool := decide (n % (2 ^ stepCad w : Nat) = 0)

/-- The 256 steps of the table. -/
def State.frameSteps (s : State) : List Nat := (List.range 256).map (fun k => (s.get .FRAME_STEP_n k).toNat)

/-- The number of the first END step, 255 when there is none (R637). -/
def endStep (l : List Nat) : Nat := (l.findIdx? (fun w => stepOp w == 0)).getD 255

/-- A step that R23 refuses by itself. -/
def stepBad (w : Nat) : Bool :=
  decide (7 < stepOp w) || decide (7 < stepClass w) || decide (stepLast w < stepFirst w) ||
  decide (fenceInstances (stepClass w) ≤ stepLast w)

/-- The first step that R23 refuses, among the steps up to the first END: `k` is the number of the first step of the list, `op`
the greatest OP of the ordered steps so far. WAKE and NOP may stand anywhere. -/
def badStep (k op : Nat) : List Nat → Option Nat
  | [] => none
  | w :: t =>
    if stepOp w = 0 then none
    else if stepBad w then some k
    else if stepOp w ≤ 5 then (if stepOp w < op then some k else badStep (k + 1) (stepOp w) t)
    else badStep (k + 1) op t

/-- The table that the firmware generates (R637). -/
def State.genTable (s : State) : List Nat :=
  let whole (op cls : Nat) : Nat := stepWord op cls 0 (fenceInstances cls - 1) 0
  let grid := (List.range 4).filter (fun t => s.get .TRIER_MODE t == 3)
  [whole 1 0] ++ grid.map (fun t => stepWord 1 4 t t (s.get .TRIER_CAD t).toNat) ++
  [whole 2 1, whole 2 3, whole 2 2, whole 3 3, whole 3 2] ++ (List.range 8).map (whole 4) ++
  [whole 5 2, whole 5 3, whole 5 4, whole 5 5, whole 5 6, whole 5 7, 0]

/-- Writes a table, the steps after it reading 0, and FRAME_END_STEP. -/
def State.writeTable (s : State) (l : List Nat) : State :=
  let s := (List.range 256).foldl (fun (s : State) k => s.put .FRAME_STEP_n k (l.getD k 0)) s
  s.put .FRAME_END_STEP 0 (endStep s.frameSteps)

/-- The steps that a start validates: the generated table, or the one written (R24, R25). -/
def State.startSteps (s : State) : List Nat := if s.get .FRAME_SOURCE 0 = 1 then s.frameSteps else s.genTable

/-- An INVALID sequencer returns to STOPPED (R25), from where R550 counts; FRAME_END_STEP follows the table. -/
def State.tableWritten (s : State) : State :=
  let s := s.put .FRAME_END_STEP 0 (endStep s.frameSteps)
  if s.get .FRAME_STATE 0 = 2 then
    { (s.put .FRAME_STATE 0 0).put .FRAME_BAD_STEP 0 0 with power := { s.power with stoppedAt := s.time.cycle } }
  else s

/-- FRAME_TABLE_WRITE (R24, R25): FRAME_SOURCE, or step n. -/
def execFrameTableWrite (w : Who) (n : Option (Fin 256)) (v : Nat) (s : State) : Host.Outcome State Fault Refusal :=
  match n with
  | none =>
    .next (asWrite w .engineer .FRAME_SOURCE 0 true true (decide (v ≤ 1)) (.num (s.get .FRAME_SOURCE 0)) (.num v)
      (fun s => (.ok, (s.put .FRAME_SOURCE 0 v).tableWritten)) s)
  | some k =>
    .next (asWrite w .engineer .FRAME_STEP_n k true true (decide (v < 4294967296)) (.num (s.get .FRAME_STEP_n k)) (.num v)
      (fun s => (.ok, (s.put .FRAME_STEP_n k (v / 16 * 16 : Nat)).tableWritten)) s)

/-! ### Judging a start (R293, R594) -/

/-- Spare and save space of the layout that the objects give, MiB (R36, R292). -/
def State.spareMib (s : State) : Int :=
  let fitted := s.get .CAVE_FITTED 0
  fitted * 7 / 8 - 16 * s.get .STREAM_SEGMENTS 0 - 16 * s.get .REGION_MIB 0 - fitted / 512 - 2

/-- The layout of the objects is not the one in force. -/
def State.layoutChanges (s : State) : Bool :=
  s.get .STREAM_SEGMENTS 0 != (s.cave.total : Int) || s.get .REGION_MIB 0 != (s.cave.regionMib : Int)

/-- The code of LAYOUT_BAD for the layout of the objects (R293). -/
def State.layoutBad (s : State) : Nat :=
  if s.get .STREAM_SEGMENTS 0 < 16 then 1
  else if s.spareMib * 32 < s.get .CAVE_FITTED 0 then 2
  else if s.cave.total ≠ 0 ∧ s.layoutChanges = true ∧ s.unackedBytes ≠ 0 then 3
  else 0

/-- The depths that the objects give exceed the slots available (R273, R575). -/
def State.depthsExceed (s : State) : Bool :=
  decide (s.curdSlots < (List.range 16).foldl (fun (n : Int) q => n + s.get .QUEUE_DEPTH q) 0)

/-- The judgement of a start (R594): the first code that holds, with the side effects of the conditions judged. -/
def State.judgeStart (s : State) : Option Nat × State :=
  let vt := s.get .VT_STATE 0
  let vat := s.get .VAT_STATE 0
  let cave := s.get .CAVE_STATE 0
  if s.get .START_STATE 0 ≠ 6 then (some 1, s)
  else if s.get .SEC_STATE 0 = 4 then (some 2, s)
  else if s.get .PWR_STATE 0 = 3 then (some 3, s)
  else if cave = 0 ∨ cave = 4 then (some 4, s)
  else
    let bad := s.layoutBad
    let s := s.put .LAYOUT_BAD 0 bad
    if bad ≠ 0 then (some 4, s.cause .QC_CAUSE 0 14)
    else if vt = 0 ∨ (s.get .START_NEED_LOCK 0 = 1 ∧ vt ≠ 2 ∧ vt ≠ 5) ∨ s.gridIndex = none then (some 5, s)
    else if vat = 5 ∨ vat = 6 then (some 6, s)
    else match badStep 0 0 s.startSteps with
      | some k => (some 7, (((s.put .FRAME_STATE 0 2).put .FRAME_BAD_STEP 0 k).cause .PW_CAUSE 0 5).debugCheck)
      | none => if s.depthsExceed then (some 8, s) else (none, s)

/-! ### An accepted start (R595) -/

/-- The layout of the objects is applied (R293): another layout than that in force starts an empty stream ring, and neither
marks (R303) nor captures stay. -/
def State.applyLayout (s : State) : State :=
  let s := s.put .SPARE_MIB 0 s.spareMib
  if s.layoutChanges then
    let total := (s.get .STREAM_SEGMENTS 0).toNat
    let mib := (s.get .REGION_MIB 0).toNat
    let out := (List.range total).filter (fun i => s.test.regionsOut.any (fun t => Config.inTestRegion total mib false i t))
    let s : State := { s with cave := { s.cave with ring := [], total, regionMib := mib, withdrawn := out, request := none } }
    let s := (s.put .WRITE_BYTES 0 0).cutReplay
    let s := (List.range 16).foldl (fun (s : State) n => s.put .MARK_STATE n 0) s
    (List.range 16).foldl (fun (s : State) r =>
      let g := s.region r
      if g.state = 4 then (s.setRegion r {}).showGroup r else s) s
  else s

/-- The RWS values of the queues take effect (R273, R311): a queue whose depth or framing changes starts empty. -/
def State.applyQueues (s : State) : State :=
  (List.range 16).foldl (fun (s : State) q =>
    let u := s.queue q
    let depth := (s.get .QUEUE_DEPTH q).toNat
    let framing := (s.get .QUEUE_FRAMING q).toNat
    let drain := (s.get .QUEUE_DRAIN q).toNat
    if u.depth = depth ∧ u.framing = framing then s.setQueue q { u with drain }
    else s.setQueue q { depth, framing, drain, waiting := u.waiting }) s

/-- Soft entries that REPAIR_CLEAR named are emptied (R577): a spare that stood for one is a spare again. -/
def State.applyClears (s : State) : State :=
  let s := s.test.clears.foldl (fun (s : State) n =>
    let e := s.mapEntry n
    let b := repairUnit e
    let s := s.put .REPAIR_ENTRY_n n 0
    if repairKind e = repModulator then
      let s := s.setBank b { s.bank b with replaced := (s.bank b).replaced.filter (fun i => i != repairElement e) }
      if s.get .SPARE_STATE b = 7 ∧ s.spareInput b = repairElement e then s.spareTo b 0 none else s
    else s) s
  { s with test := { s.test with clears := [] } }

/-- The repairs of modulators take effect (R575, R577): the spare serves the input for good. -/
def State.applyModulators (s : State) : State :=
  (s.repairs.filter (fun e => repairKind e == repModulator)).foldl (fun (s : State) e =>
    let b := repairUnit e
    let i := repairElement e % 16
    let B := s.bank b
    let s := if B.replaced.contains i then s else s.setBank b { B with replaced := i :: B.replaced }
    let st := s.get .SPARE_STATE b
    if st = 7 ∨ st = 8 then s else s.spareTo b 7 (some i)) s

/-- A scheduled commit whose grid index the run will not meet is applied with the start (R27). -/
def State.startCommit (s : State) (s0 : Int) : State :=
  match s.engine.armed with
  | some (g, _) => if (g : Int) ≤ s0 then s.disarm.commitAt s0 else s
  | none => s

/-- A bank starts with first tick s0 (R88, R132, R595); one whose BANK_ENABLE is 0 has no records. -/
def State.startBank (s : State) (b : Nat) (s0 : Int) : State :=
  let s := s.laneStart b s0
  if s.get .BANK_ENABLE b = 1 then
    let s := ((s.spareStart b).linkStart b).scanBegin b s0
    (List.range 16).foldl (fun (s : State) i =>
      let c := 16 * b + i
      if !s.hasRecords c then s.put .CH_PRESENCE c 0
      else if s.unserved c then s.enterLost c
      else s.requalify c s0 s0) s
  else (List.range 16).foldl (fun (s : State) i => s.put .CH_PRESENCE (16 * b + i) 0) s

/-- An accepted start (R595): the RWS values take effect together with a scheduled commit whose index has passed. -/
def State.startAcq (s : State) : State :=
  let s := s.toRun
  let s0 := s.nextInstant + 2
  let s := ((s.applyLayout.applyOwed (fun _ => true) s0).startCommit s0).applyQueues.applyLaneEnable.takeRef.applyClears.applyModulators
  let s := if s.get .FRAME_SOURCE 0 = 1 then s.writeTable s.frameSteps else s.writeTable s.genTable
  let s := s.setModclk 1
  let s : State := { s with excCal := { s.excCal with applied := s.excCal.stored },
                            frame := { next := s0 },
                            engine := { s.engine with snapTaken := false },
                            boot := { s.boot with startedAt := s.time.cycle, qualified := [] } }
  let s := ((s.put .FRAME_STATE 0 1).put .FRAME_BAD_STEP 0 0).put .START_STATE 0 7
  let s := (s.put .SERVICE_PHASE 0 0).put .START_QUALIFIED 0 0
  let s := (List.range 32).foldl (fun (s : State) b => s.startBank b s0) s
  ((s.pressStart s0).rennetStart.twinStart).debugCheck

/-- A start of a master or of the hub itself, judged and carried out; a refusal leaves its code (R594). A start during an
on-demand self-test ends the run at the next step boundary and waits for it (R571). -/
def State.tryStart (s : State) (w : Who) : Err × State :=
  match s.judgeStart with
  | (some code, s) => (.refused, s.put .START_REFUSAL 0 code)
  | (none, s) =>
    if s.get .ST_STATE 0 ≠ 0 then
      (.ok, { s with test := { s.test with abort := true, stop := true, start := some w } })
    else (.ok, s.startAcq)

/-- ACQ_START (R594, R595). -/
def execAcqStart (w : Who) (s : State) : Host.Outcome State Fault Refusal :=
  .next (asCommand w .operator .ACQ_START 0 .unit (fun s => s.tryStart w) s)

/-- AUTO_START (R594): once for each entry into READY, in a servo cycle in which the start passes and the vat is concordant. -/
def execAutoStart (s : State) : Host.Outcome State Fault Refusal :=
  if s.get .AUTO_START 0 = 1 ∧ s.get .START_STATE 0 = 6 ∧ s.boot.autoDone = false ∧ s.get .VAT_STATE 0 = 2 ∧
      s.judgeStart.1 = none then
    let w : Who := ⟨.hub, .service, 0⟩
    let s : State := { s with boot := { s.boot with autoDone := true } }
    .next ((s.jrnCommand w .ACQ_START 0 .unit).tryStart w).2
  else .next s

/-! ### Stopping (R25, R27, R597) -/

/-- The units at a stop, in the order of R267 and R277: captures are cut and windows closed, and what waits is pushed; links, scan
tables and spares stop; armed passes are dropped. -/
def State.stopUnits (s : State) : State :=
  let s : State := { s with frame := { s.frame with emits := (List.range 16).map (fun q => 5 * 64 + q) } }
  let s := ((s.rennetStop.pressStop s.frame.badBlocks).pushCaptures).pushTriers
  let s := (List.range 32).foldl (fun (s : State) b => ((s.linkStop b).scanStop b).spareStop b) s
  (List.range 4).foldl (fun (s : State) t => s.updTrier t (fun x => { x with armed := [] })) s

/-- The frame sequencer stops (R27): FRAME_STATE STOPPED and, from RUNNING, START_STATE READY. -/
def State.stopFrames (s : State) : State :=
  let s : State := { s with scans := [], frame := {}, power := { s.power with stoppedAt := s.time.cycle } }
  let s := (s.setModclk 0).put .FRAME_STATE 0 0
  (if s.get .START_STATE 0 = 7 then s.put .START_STATE 0 6 else s).toRun

/-- The commits that a stop meets (R27): the scheduled one that is due, and then the immediate one that waits. -/
def State.stopCommits (s : State) (due late : Bool) (g : Int) : State :=
  let s := match s.engine.armed with
    | some (a, _) => if due then s.disarm.commitAt (max (a : Int) g) else s
    | none => s
  if late then s.commitAt s.nextIndex else s

/-- Acquisition stops at the end of the last tick (R597): captures are cut, open blocks close, and what was formed is emitted;
the links and the scan tables stop; a commit due in the tick is applied after the cuts (R232). An immediate commit that waited
applies at once (R446). -/
def State.stopAcq (s : State) : State :=
  if !s.running then s
  else
    let u := s.stopUnits
    (u.stopFrames.stopCommits s.commitDue u.frame.immediate (s.tickKey + 1)).settleLosses.debugCheck

/-- ACQ_STOP (R597): at any other time it changes nothing. -/
def execAcqStop (w : Who) (s : State) : Host.Outcome State Fault Refusal :=
  .next (asCommand w .operator .ACQ_STOP 0 .unit (fun s => (.ok, s.stopAcq)) s)

end Sys2Proof.Machine
end

