-- ==== Sys2Proof/Machine/SelfTest.lean ====
section
/-! DEFINITION. Self-test runs, what a failed element brings, the commands on repairs and fuses, and the life record
(18_self_test_repair_life R562 to R587). -/

namespace Sys2Proof.Machine

open Sys2Proof

/-! ### Failed elements (R570, R575) -/

/-- Sets bit c mod 8 of byte c / 8 of a map of bytes. -/
def setMapBit (map : List Byte) (c : Nat) : List Byte :=
  ((List.range map.length).zip map).map (fun x => if x.1 = c / 8 then x.2 ||| BitVec.ofNat 8 (2 ^ (c % 8)) else x.2)

/-- A repair is tried (R570, R577): true when the element is repaired, by an entry that stands or a new one. -/
def State.tryRepair (s : State) (kind unit element : Nat) : Bool × State :=
  if s.repairs.any (fun x => sameResource x (repairWord kind unit 0 element)) then (true, s)
  else match s.firstSpare kind unit with
    | some k => s.proposeRepair (repairWord kind unit k element)
    | none => (false, s.exhausted)

/-- A cave test region leaves service (R575): its stream segments leave the pool, their unacknowledged packets are lost with
cause WITHDRAWN, and capture regions in it are fenced. -/
def State.withdrawRegion (s : State) (t : Nat) : State :=
  let total := s.cave.total
  let mib := s.cave.regionMib
  let inside (i : Nat) : Bool := Config.inTestRegion total mib false i t
  let hit := s.cave.ring.filter (fun g => inside g.id)
  let s : State := hit.foldl (fun (s : State) g => s.loseSegment 6 g) s
  let out := (List.range total).filter (fun i => inside i || s.cave.withdrawn.contains i)
  let s : State := { s with cave := { s.cave with ring := s.cave.ring.filter (fun g => !inside g.id), withdrawn := out },
                            test := { s.test with regionsOut := t :: s.test.regionsOut } }
  let s := (List.range 16).foldl (fun (s : State) r =>
    if Config.inTestRegion total mib true r t then s.fenceBy 6 r 2 else s) s
  (s.put .ST_SAVE_PENDING 0 65535).settleLosses

/-- A management core is fenced by self-test; the last one stays (R518). -/
def State.coreFails (s : State) (core : Nat) : State := if s.otherCore core then s.fenceBy 9 core 2 else s

/-- What becomes of a failed element (R570, R575): whether it is repaired, and the state. -/
def State.actOn (s : State) (x : TestFail) : Bool × State :=
  match x with
  | .modulator b m =>
    let c := 16 * (b : Nat) + m
    if m.val = 16 then (false, if s.get .SPARE_STATE b = 8 then s else s.spareFailed b s.tickKey)
    else
      let (r, s) := s.tryRepair repModulator b m
      if r then (r, s)
      else
        let B := s.bank b
        let s := if B.failed.contains m.val then s else s.setBank b { B with failed := m.val :: B.failed }
        (false, if s.hasRecords c then s.enterLost c else s)
  | .exc c => (false, s.putBytes .ST_EXC_FAILED 0 (setMapBit (s.getBytes .ST_EXC_FAILED 0) c))
  | .trier t => (false, s.fenceBy 4 t 2)
  | .curdRow a r =>
    let (ok, s) := s.tryRepair repCurdRow a r
    let t := s.test
    (ok, if ok || t.rowsOut.contains (a.val, r.val) then s else { s with test := { t with rowsOut := (a.val, r.val) :: t.rowsOut } })
  | .coreRow a r =>
    let (ok, s) := s.tryRepair repCoreRow a r
    (ok, if ok then s else s.coreFails (a / 16))
  | .transitRow p a r =>
    let (ok, s) := s.tryRepair repCoreRow a r
    (ok, if ok then s else s.fenceBy 7 p 2)
  | .lane l => (false, if l.val < 4 then s.fenceBy 7 (l / 2) 2 else s.fenceBy 8 0 2)
  | .caveRegion t =>
    let (ok, s) := s.tryRepair repCave t 0
    (ok, if ok || s.test.regionsOut.contains t.val then s else s.withdrawRegion t)

/-- A failed element of the item that runs: EV 0xF1, and ST_FAILS_i (R570). -/
def State.elementFails (s : State) (x : TestFail) : State :=
  let s := (s.cause .ST_CAUSE 0 1).bump .ST_FAILS_i (s.get .ST_ITEM 0).toNat
  let (ok, s) := s.actOn x
  { s with test := { s.test with failed := s.test.failed + 1, repaired := s.test.repaired + (if ok then 1 else 0) } }

/-! ### Items and runs (R562 to R569) -/

/-- Steps of the cave item for a size fitted, MiB (R562). -/
def caveSteps (fitted : Int) : Nat :=
  if fitted = 4096 then 12544 else if fitted = 8192 then 25088 else if fitted = 16384 then 50176 else 0

/-- The terminal count of an item (R562). -/
def State.terminal (s : State) (item : Nat) : Nat :=
  match item with
  | 0 => 96 | 1 => 24 | 2 => 8 | 3 => 100 | 4 => 40 | 5 => 12 | 6 => 16
  | _ => caveSteps (s.get .CAVE_FITTED 0)

/-- The MISR takes a compare word (R564; the order of its bits is DEDUCED, log entry 28). -/
def misrStep (misr word : Nat) : Nat := crcRightBit 0x82F63B78 misr ^^^ (word % 4294967296)

/-- STATUS of an item's result (R567). -/
def State.itemStatus (s : State) (i : Nat) : Nat := (s.get .ST_RESULT_i i).toNat % 16

/-- The run ends, `early` before its last item (R569): it is sealed when every item of the profile is. -/
def State.endRun (s : State) (early : Bool) : State :=
  let t := s.test
  let demand := s.get .ST_ORIGIN 0 == 2
  let whole := (List.range (t.last + 1)).all (fun i =>
    let st := s.itemStatus i
    st == 2 || st == 3 || st == 6 || (st == 5 && demand))
  let s := (s.put .ST_STATE 0 0).put .ST_ITEM 0 255
  let s := if whole && !early then ((s.put .ST_SEALED 0 1).put .ST_SEAL_KT 0 s.time.kt).cause .ST_CAUSE 0 0 else s.put .ST_SEALED 0 0
  let s : State := { s with test := { s.test with stop := false, abort := false, cut := false, start := none } }
  if s.get .ST_ORIGIN 0 = 3 ∧ s.get .START_STATE 0 = 4 then s.bringUp
  else match t.start with
    | some w => (s.tryStart w).2
    | none => s

/-- An item begins. -/
def State.startItem (s : State) (i : Nat) : State :=
  let s : State := { s with test := { s.test with misr := 0xFFFFFFFF, step := 0, failed := 0, repaired := 0, abort := false, cut := false } }
  ((s.put .ST_STATE 0 1).put .ST_ITEM 0 i).put .ST_RESULT_i i 1

/-- An item is passed over with a status: 5 SKIPPED, 4 UNSEALED. -/
def State.passItem (s : State) (i status : Nat) : State := (s.put .ST_RESULT_i i status).put .ST_LAST_KT i s.time.kt

/-- Item 6 has a port to run on (R565). -/
def State.loopPort (s : State) : Bool := (List.range 3).any (fun p => s.get .PORT_STATE p == 0 || s.get .PORT_STATE p == 6)

/-- The cave item begins, when the profile has it and a cave is fitted. -/
def State.beginCave (s : State) : State :=
  if s.test.last < 7 then s.endRun false
  else if s.terminal 7 = 0 then (s.passItem 7 4).endRun false
  else s.startItem 7

/-- The item of a number begins, or the run ends (R562, R565). -/
def State.beginItem (s : State) (i : Nat) : State :=
  if 7 < i then s.endRun false
  else if i = 7 then s.beginCave
  else if i = 6 ∧ s.loopPort = false then (s.passItem 6 5).beginCave
  else s.startItem i

/-- A run begins (R565, R569). -/
def State.beginRun (s : State) (origin : Int) (last : Nat) : State :=
  let s : State := { s with test := { s.test with last, stop := false, start := none } }
  ((s.put .ST_SEALED 0 0).put .ST_ORIGIN 0 origin).beginItem 0

/-- The result of an item that ends (R567, R568). -/
def State.endItem (s : State) (i : Nat) (whole : Bool) : State :=
  let t := s.test
  let golden := (s.get .ST_GOLDEN_i i).toNat / 2 ^ 32
  let status := if !whole then 4 else if t.misr = golden then 2 else if 0 < t.failed ∧ t.failed = t.repaired then 6 else 3
  (s.put .ST_RESULT_i i (t.misr * 2 ^ 32 + t.step % 65536 * 2 ^ 16 + min t.failed 255 * 2 ^ 8 + status : Nat)).put .ST_LAST_KT i s.time.kt

/-- After an item: the next one, or the end of the run when it was stopped (R571). A stop in the last step of the last item is
not acted on (R573). -/
def State.nextItem (s : State) (i : Nat) : State :=
  if s.test.stop then s.endRun (decide (i < s.test.last)) else s.beginItem (i + 1)

/-- What the step of the cave item that has ended does to the region under test (R563, R572): a seventh of its steps save it,
five sevenths march it, a seventh restores it. -/
def State.regionStep (s : State) : State :=
  let per := s.terminal 7 / 256
  let k := s.test.step % per
  let t := (s.test.step - 1) / per
  if k = per / 7 then s.put .ST_SAVE_PENDING 0 t
  else if k = per / 7 * 6 ∧ s.get .ST_SAVE_PENDING 0 ≠ 65535 then s.put .ST_STATE 0 2
  else if k = 0 then (s.put .ST_SAVE_PENDING 0 65535).put .ST_STATE 0 1
  else s

/-- A test step ends (R564, R573): its failures first, then the item's end, then an abort or a stop. -/
def State.testStep (s : State) (compare : Nat) (failed : List TestFail) : State :=
  let i := (s.get .ST_ITEM 0).toNat
  let s : State := { s with test := { s.test with misr := misrStep s.test.misr compare, step := s.test.step + 1 } }
  let s := failed.foldl (fun (s : State) x => s.elementFails x) s
  let s := if i = 7 then s.regionStep else s
  if s.test.step = s.terminal i then (s.endItem i true).nextItem i
  else if s.test.abort || s.test.stop then
    let s := (s.endItem i false).cause .ST_CAUSE 0 2
    if s.get .ST_SAVE_PENDING 0 ≠ 65535 then { s.put .ST_STATE 0 2 with test := { s.test with cut := true } }
    else s.nextItem i
  else s

/-- TEST_STEP_END (R564): `compare` is the compare word, `failed` the elements that the step found failed. -/
def execTestStepEnd (compare : Nat) (failed : List TestFail) (s : State) : Host.Outcome State Fault Refusal :=
  if s.get .ST_STATE 0 = 0 ∨ s.get .ST_ITEM 0 = 255 ∨ s.test.cut = true then .next s else .next (s.testStep compare failed)

/-- ST_RUN (R565): refused unless FRAME_STATE is STOPPED, in DIM and SEALING, and while a run is going. -/
def State.runOnDemand (s : State) (last : Nat) : Err × State :=
  if s.get .FRAME_STATE 0 ≠ 0 ∨ (s.get .PWR_STATE 0 ≠ 0 ∧ s.get .PWR_STATE 0 ≠ 2) ∨ s.get .ST_STATE 0 ≠ 0 then (.refused, s)
  else (.ok, s.beginRun 2 last)

/-- ST_RUN_QUICK (R565). -/
def execStRunQuick (w : Who) (s : State) : Host.Outcome State Fault Refusal :=
  .next (asCommand w .engineer .ST_RUN 0 (.num 1) (fun s => s.runOnDemand 6) s)

/-- ST_RUN_FULL (R565). -/
def execStRunFull (w : Who) (s : State) : Host.Outcome State Fault Refusal :=
  .next (asCommand w .engineer .ST_RUN 0 (.num 2) (fun s => s.runOnDemand 7) s)

/-- ST_STOP (R565, R571): the run ends at the next step boundary. -/
def execStStop (w : Who) (s : State) : Host.Outcome State Fault Refusal :=
  .next (asCommand w .engineer .ST_STOP 0 .unit (fun s =>
    (.ok, if s.get .ST_STATE 0 = 0 then s else { s with test := { s.test with stop := true } })) s)

/-! ### Repairs and fuses (R577, R578) -/

/-- REPAIR_ACCEPT (R577): refused with none waiting, or with no map entry left. -/
def execRepairAccept (w : Who) (s : State) : Host.Outcome State Fault Refusal :=
  let e := (s.get .REPAIR_PROPOSED 0).toNat
  .next (asCommand w .service .REPAIR_ACCEPT 0 (.num e) (fun s =>
    if e = 0 then (.refused, s)
    else match s.mapFree with
      | none => (.refused, s.exhausted)
      | some n => (.ok, (s.writeRepair n e).put .REPAIR_PROPOSED 0 0)) s)

/-- REPAIR_CLEAR (R577): a soft entry that is not FUSED empties with the next start. -/
def execRepairClear (w : Who) (n : Nat) (s : State) : Host.Outcome State Fault Refusal :=
  .next (asCommand w .service .REPAIR_CLEAR 0 (.num n) (fun s =>
    if 64 ≤ n then (.outOfRange, s)
    else if s.mapEntry n = 0 ∨ repairFused (s.mapEntry n) = true then (.refused, s)
    else (.ok, { s with test := { s.test with clears := n :: s.test.clears.filter (fun k => k != n) } })) s)

/-- REPAIR_FUSE (R578): accepted only while STOPPED and in VIGIL, for a soft entry and with a fuse entry free. -/
def execRepairFuse (w : Who) (n : Nat) (s : State) : Host.Outcome State Fault Refusal :=
  .next (asCommand w .service .REPAIR_FUSE 0 (.num n) (fun s =>
    if 64 ≤ n then (.outOfRange, s)
    else match (List.range 48).find? s.fuseFree with
      | some k =>
        if s.get .FRAME_STATE 0 ≠ 0 ∨ s.get .PWR_STATE 0 ≠ 2 ∨ s.mapEntry n = 0 ∨ repairFused (s.mapEntry n) = true ∨
            s.test.fuse.isSome = true then (.refused, s)
        else (.ok, { s with test := { s.test with fuse := some (n, k, s.time.cycle + msCycles 2) } })
      | none => (.refused, s)) s)

/-- FUSE_BLOW_DONE (R578): `good` says whether the entry read at margin. What a failed one reads is open (log entry 5). -/
def execFuseBlowDone (good : Bool) (s : State) : Host.Outcome State Fault Refusal :=
  match s.test.fuse with
  | some (n, k, at_) =>
    if at_ ≤ s.time.cycle then
      let s : State := { s with test := { s.test with fuse := none } }
      let e := s.mapEntry n
      if good then .next ((s.put .FUSE_ENTRY_n k e).put .REPAIR_ENTRY_n n (if repairFused e then e else e + 2 ^ 27 : Nat))
      else
        let (v, s) := s.draw
        let s : State := { s with test := { s.test with badFuses := k :: s.test.badFuses } }
        .next (((s.put .FUSE_ENTRY_n k (v % 4294967296 : Nat)).bump .FUSE_MARGIN_FAILS 0).cause .ST_CAUSE 0 6)
    else .next s
  | none => .next s

/-! ### Patrol and service life (R583, R585) -/

/-- Counts of KT in an hour. -/
def hourKt : Nat := 32768 * 3600

/-- MRAM_PATROL (R525, R583): the patrol, which runs in RUN, DIM and VIGIL, has rewritten every word; `corrected` single-bit
errors and `bad` uncorrectable ones were found on the round. -/
def execMramPatrol (corrected bad : Nat) (s : State) : Host.Outcome State Fault Refusal :=
  if s.served && s.get .PWR_STATE 0 != 3 then
    let s := if corrected = 0 then s else s.add32 .MRAM_ECC_CORRECTED 0 corrected
    .next (if bad = 0 then s else (s.add32 .MRAM_ECC_UNCORRECTABLE 0 bad).cause .FI_CAUSE 0 6)
  else .next s

/-- The share of 350,640 equivalent hours that one hour in a bin of LIFE_TJ_HIST takes, in 10^-9 ppm (R581, R585): AF at the
bin's midpoint, from −35 °C in steps of 10 °C. -/
def lifeShare : List Nat :=
  [31030, 122671, 435968, 1409581, 4188714, 11540961, 29708248, 71921788, 164704470, 358606834, 745668411, 1486651329,
   2851927903, 5280774557, 9464676237, 16461017266, 27844164679]

/-- LIFE_RECORD_UPDATE (R585): the hour goes to the bin of the hottest sensor. -/
def execLifeRecordUpdate (s : State) : Host.Outcome State Fault Refusal :=
  if s.served && decide (s.test.lifeAt + hourKt ≤ s.time.kt) then
    let k := (min 16 (max 0 ((s.get .PWR_DIE_TEMP 0 + 4000) / 1000))).toNat
    let h := s.getBytes .LIFE_TJ_HIST 0
    let n := countNext 4294967295 (leNat (slice h (4 * k) 4))
    let part := s.test.lifePart + lifeShare.getD k 0
    let s := (s.bump .LIFE_HOURS 0).putBytes .LIFE_TJ_HIST 0 (h.take (4 * k) ++ leBytes 4 n.toNat ++ h.drop (4 * k + 4))
    let s := s.add32 .LIFE_CONSUMED 0 (part / 1000000000)
    .next { s with test := { s.test with lifeAt := s.time.kt, lifePart := part % 1000000000 } }
  else .next s

/-- ST_CAUSE_CLEAR (R586). -/
def execStCauseClear (w : Who) (mask : Nat) (s : State) : Host.Outcome State Fault Refusal :=
  .next (clearCommand w .ST_CAUSE_CLEAR .ST_CAUSE 0 mask s)

end Sys2Proof.Machine
end

