-- ==== Sys2Proof/Machine/Startup.lean ====
section
/-! DEFINITION. Reset, boot and the start sequence (19_startup_and_vat_membership R588 to R593), with the firmware images that
the boot ROM judges (17_security_debug_power R541, R542) and the watchdogs of the management cores (R514). -/

namespace Sys2Proof.Machine

open Sys2Proof

/-! ### Firmware images (R541) -/

/-- The contents of an image slot: 0 A, 1 B. -/
def State.image (s : State) (slot : Nat) : List Byte :=
  match s.sec.images.find? (fun x => x.1 == slot) with
  | some x => x.2
  | none => Config.factoryImage slot

def imageVersion (b : List Byte) : Nat := leNat (slice b 4 4)
def imageRollback (b : List Byte) : Nat := leNat (slice b 8 2)
def imageKeySlot (b : List Byte) : Nat := leNat (slice b 10 1)

/-- The image of a slot is valid (R541). -/
def State.imageValid (s : State) (slot : Nat) : Bool :=
  let b := s.image slot
  let len := leNat (slice b 12 4)
  let k := imageKeySlot b
  let key := slice b 48 64
  leNat (slice b 0 4) == 0x59514657 && decide (len ≤ 2096896) && decide (k < 4) &&
  Config.sha256 key == s.getBytes .FW_KEY_HASH_k k && !bit (s.get .FW_KEY_REVOKED 0) k &&
  Config.ecdsaVerify key (Config.sha256 (slice b 0 112)) (slice b 112 64) &&
  Config.sha256 (slice b 256 len) == slice b 16 32 && decide (s.get .ROLLBACK_MIN 0 ≤ (imageRollback b : Int))

/-- FW_VERSION_A and FW_VERSION_B: VERSION of the slot, 0 when its image is invalid (R560). -/
def State.showVersions (s : State) : State :=
  let v (k : Nat) : Int := if s.imageValid k then (imageVersion (s.image k) : Int) else 0
  (s.put .FW_VERSION_A 0 (v 0)).put .FW_VERSION_B 0 (v 1)

/-! ### What a reset leaves (R588 to R591, R536, R549) -/

/-- An object of MRAM, of the fuses or of the keeper: a reset does not change it. Calibration and production data stay, but
not coefficients committed and not saved. -/
def Obj.survives (o : Obj) : Bool :=
  match o with
  | .COEF_p | .COEF_CRC => false
  | .PASSWORD_FAILS | .PASSWORD_LOCKED_UNTIL | .ROLE_KEY_r | .BOOT_NEXT
  | .ST_SEALED | .ST_SEAL_KT | .ST_SAVE_PENDING | .ST_RESULT_i | .ST_LAST_KT | .ST_EXC_FAILED | .ST_CAL_LOST
  | .REPAIR_ENTRY_n | .LIFE_HOURS | .LIFE_TJ_HIST | .LIFE_CONSUMED | .CFG_SAVED_DIGEST | .JRN_BOOTS
  | .PWR_WAKE_MASK | .PWR_WAKE_AT | .OFF_CAUSE | .KT_CLOCK => true
  | _ => o.info.kind == .production || o.info.kind == .perPart

/-- What the replay index in the cave holds beside the segments (R591). -/
def Obj.inIndex (o : Obj) : Bool :=
  match o with
  | .ACKED_SEQ | .MARK_INDEX | .MARK_STATE | .MARK_OVERTAKEN | .MARK_RIPE | .OLDEST_INDEX => true
  | _ => false

/-- What a capture region in the cave still holds. -/
def Region.asKept (g : Region) : Region :=
  { first := g.first, count := g.count, pre := g.pre, post := g.post, header := g.header, data := g.data, dataStart := g.dataStart }

/-- Every function outside the keeper is reset (R589, R590). The cave is left in self-refresh when it was trained. -/
def State.resetCore (s : State) : State :=
  let cave := s.get .CAVE_STATE 0
  let kept := (cave == 2 || cave == 3)
  { obj := s.obj.filter (fun x => x.1.obj.survives)
    blob := s.blob.filter (fun x => x.1.obj.survives)
    time := { cycle := s.time.cycle, kt := s.time.kt, ktPhase := s.time.ktPhase, rcFallback := s.time.rcFallback }
    engine := { saved := s.engine.saved }
    journal := { slots := s.journal.slots, badSlots := s.journal.badSlots, next := s.journal.next, boot := s.journal.boot }
    excCal := { stored := s.excCal.stored }
    cave := if kept then { ring := s.cave.ring, total := s.cave.total, withdrawn := s.cave.withdrawn,
                           regionMib := s.cave.regionMib, lastSeq := s.cave.lastSeq } else {}
    regions := if kept then s.regions.map (fun x => (x.1, x.2.asKept)) else []
    sec := { password := s.sec.password, granted := s.sec.granted, reopenEnd := s.sec.reopenEnd, images := s.sec.images,
             trial := s.sec.trial, trialAt := s.sec.trialAt }
    test := { last := s.test.last, lifeAt := s.test.lifeAt, lifePart := s.test.lifePart,
              rowsOut := s.test.rowsOut, regionsOut := s.test.regionsOut, badFuses := s.test.badFuses, clears := s.test.clears }
    boot := { rstLow := s.boot.rstLow, cause := s.boot.cause, at_ := s.time.cycle, sec := s.boot.sec, pw := s.boot.pw,
              st := s.boot.st, leftSaved := s.boot.leftSaved, caveKept := kept
              index := if kept then s.obj.filter (fun x => x.1.obj.inIndex) else [] }
    draws := s.draws, out := s.out, answer := s.answer, pending := s.pending }

/-- A reopened security state ends with a reset or a start from OFF (R533); EV 0xD0 waits for the event controller. -/
def State.endReopen (s : State) : State :=
  let st := s.get .SEC_STATE 0
  if st = 2 ∨ st = 3 then
    { s.put .SEC_STATE 0 1 with boot := { s.boot with sec := s.boot.sec ||| 1 }, sec := { s.sec with granted := 0, reopenEnd := 0 } }
  else s

/-- BOOT begins for a cause (R588, R592). -/
def State.beginBoot (s : State) : State :=
  let s : State := { s with boot := { s.boot with at_ := s.time.cycle } }
  (s.put .RESET_CAUSE 0 s.boot.cause).put .START_STATE 0 1

/-- The hub restarts at once for a cause of its own, 4 FW_RESTART or 5 WATCHDOG (R588). -/
def State.restart (s : State) (cause : Nat) : State :=
  let s := s.resetCore
  let s : State := { s with boot := { s.boot with cause } }
  if s.boot.rstLow then s else s.beginBoot

/-- The hub enters OFF (R549, R550): the cave loses its contents, and a reopening ends. Of the hour of R585 the time powered is
kept. -/
def State.enterOff (s : State) (cause : Int) : State :=
  let s := s.resetCore.endReopen
  let s : State := { s with cave := {}, regions := [], boot := { s.boot with caveKept := false, index := [] },
                            power := { off := true }, test := { s.test with lifeAt := s.time.kt - s.test.lifeAt } }
  (s.put .OFF_CAUSE 0 cause).put .ST_SAVE_PENDING 0 65535

/-- KEEPER_POR (R588): everything but MRAM and the fuses starts afresh, KT and the keeper's registers included. RST_N is low
(R623). -/
def execKeeperPor (s : State) : Host.Outcome State Fault Refusal :=
  let s := (s.enterOff 0)
  let s : State := { s with power := {}, time := { s.time with kt := 0, ktPhase := 0, rcFallback := false },
                            boot := { s.boot with rstLow := true, cause := 0, sec := 0, pw := 0, st := 0 } }
  let s := (((s.put .KT_CLOCK 0 0).put .ST_SEALED 0 0).put .PWR_WAKE_MASK 0 (Obj.dflt .PWR_WAKE_MASK 0)).put .PWR_WAKE_AT 0 0
  .next { s with test := { s.test with lifeAt := 0 } }

/-- RST_N_ASSERT (R589): RST_N is low for a time in ns. Below 1 µs nothing happens; between 1 and 10 µs it either resets the hub
or not (log entry 5). A low level in OFF, or while the keeper waits for the rails, is part of that wake. -/
def execRstNAssert (held : Nat) (s : State) : Host.Outcome State Fault Refusal :=
  if held < 1000 then .next s
  else
    let (v, s) : Nat × State := if held < 10000 then s.draw else (1, s)
    if v % 2 = 0 then .next s
    else if s.power.off || s.power.settling then .next { s with boot := { s.boot with rstLow := true } }
    else
      let s := s.resetCore.endReopen.put .ST_SEALED 0 0
      .next { s with boot := { s.boot with rstLow := true, cause := 1 } }

/-- RST_N_RELEASE (R589): the boot begins, unless the hub is in OFF or the keeper still waits (R624). -/
def execRstNRelease (s : State) : Host.Outcome State Fault Refusal :=
  if s.boot.rstLow then
    let s : State := { s with boot := { s.boot with rstLow := false } }
    if s.power.off || s.power.settling then .next s else .next s.beginBoot
  else .next s

/-- VDD_CORE_SETTLED (R624). -/
def execVddCoreSettled (s : State) : Host.Outcome State Fault Refusal :=
  if s.power.settling then
    let s : State := { s with power := { s.power with settling := false } }
    if s.boot.rstLow then .next s else .next s.beginBoot
  else .next s

/-! ### BOOT and INIT (R542, R592) -/

/-- A slot runs (R542, R543): the trial image runs on trial, and the former image is tried first from then on. -/
def State.runImage (s : State) (slot : Nat) : State :=
  let trial := s.sec.trial == some slot
  let s := ((s.put .FW_RUNNING 0 slot).put .FW_STAGE_SLOT 0 (1 - slot : Nat)).put .START_STATE 0 3
  let s := if trial then (s.put .FW_STATE 0 4).put .BOOT_NEXT 0 (1 - slot : Nat) else s.put .FW_STATE 0 0
  let s : State := { s with sec := { s.sec with trial := none, trialAt := if trial then s.time.kt else s.sec.trialAt } }
  s.showVersions

/-- BOOT_COMPLETE (R542, R592): the slot that BOOT_NEXT names is tried first; `bad` names slots with uncorrectable errors. -/
def execBootComplete (bad : List (Fin 2)) (s : State) : Host.Outcome State Fault Refusal :=
  if s.get .START_STATE 0 = 1 then
    let first := (s.get .BOOT_NEXT 0).toNat % 2
    let ok (k : Nat) : Bool := !bad.any (fun x => x.val == k) && s.imageValid k
    if ok first then .next (s.runImage first)
    else
      let s : State := { s with boot := { s.boot with sec := s.boot.sec ||| 64 } }
      if ok (1 - first) then
        let s : State := { s with boot := { s.boot with sec := s.boot.sec ||| 128 }, sec := { s.sec with trial := none } }
        .next ((s.put .BOOT_NEXT 0 (1 - first : Nat)).runImage (1 - first))
      else .next (s.put .START_STATE 0 2)
  else .next s

/-- Causes found at boot are set as the event controller starts (R558, R559, R586, R592). -/
def State.bootCauses (s : State) : State :=
  let set (o : Obj) (m : Nat) (s : State) : State := (maskBits 16 m).foldl (fun (s : State) b => s.cause o 0 b) s
  let b := s.boot
  let wake := if b.cause = 2 ∨ b.cause = 3 then 4 else 0
  let off := if s.get .OFF_CAUSE 0 = 2 then 64 else if s.get .OFF_CAUSE 0 = 3 then 128 else 0
  let fromOff := b.cause = 0 ∨ b.cause = 2 ∨ b.cause = 3
  let s := set .SEC_CAUSE b.sec (set .PW_CAUSE (b.pw ||| wake ||| (if fromOff then off else 0)) (set .ST_CAUSE b.st s))
  { s with boot := { s.boot with sec := 0, pw := 0, st := 0 } }

/-- The stored configuration is loaded (R450, R544): entries it lacks keep their defaults; the wake alarm and mask are the
keeper's. -/
def State.loadConfig (s : State) (bad : Bool) : State :=
  if bad then
    { s.put .CFG_SAVED_DIGEST 0 0 with boot := { s.boot with sec := s.boot.sec ||| 8192 }, engine := { s.engine with saved := none } }
  else match s.engine.saved with
    | some l =>
      let s : State := l.foldl (fun (s : State) x =>
        if x.1.obj.survives || x.1.obj.info.access == .ro then s else s.setValue x.1.obj.info x.1.inst x.2) s
      { s with vat := { s.vat with left := s.boot.leftSaved } }
    | none => s

/-- The fuses, the repair map and the calibration data as they are read (R579, R580). -/
def State.loadRepairs (s : State) (x : BootFound) : State :=
  let unread := x.unread.map (fun (k : Fin 48) => k.val)
  let fuseBad := !x.margins.isEmpty || !unread.isEmpty
  let lost := decide (2 ≤ x.mapBad) || !x.calBad.isEmpty
  let s := if x.margins.isEmpty then s else s.add32 .FUSE_MARGIN_FAILS 0 x.margins.length
  let s : State := { s with test := { s.test with badFuses := unread ++ s.test.badFuses.filter (fun k => !unread.contains k) }
                            boot := { s.boot with st := s.boot.st ||| (if fuseBad then 64 else 0) ||| (if lost then 32 else 0) } }
  let s := if 2 ≤ x.mapBad then (List.range 64).foldl (fun (s : State) n => s.put .REPAIR_ENTRY_n n 0) s else s
  let s := x.calBad.foldl (fun (s : State) (c : Fin 512) =>
    let s := (((s.put .CAL_GAIN c 1073741824).put .CAL_OFFSET c 0).put .GROUP_DELAY c 0).put .SPARE_DELAY c 0
    s.putBytes .ST_CAL_LOST 0 (setMapBit (s.getBytes .ST_CAL_LOST 0) c)) s
  s.applyModulators

/-- JRN_HEAD is found, and the ANCHOR and BOOT entries are written (R492, R493, R495). -/
def State.openJournal (s : State) : State :=
  let next := s.journal.slots.foldl (fun (n : Nat) x => max n (leNat (x.2.take 4) + 1)) 0
  let s : State := { s with journal := { s.journal with next, anchor := none } }
  let prev := s.journal.boot
  let s := s.jrnAnchor
  let seq := s.journal.next
  let s := s.jrnWrite 4 0 0 0 false false (leBytes 4 prev)
    [BitVec.ofInt 8 (s.get .FW_RUNNING 0), BitVec.ofInt 8 (s.get .RESET_CAUSE 0)]
  { s with journal := { s.journal with boot := seq } }.bump .JRN_BOOTS 0

/-- The start may skip its Quick test (R566). KEEPER_POR clears ST_SEALED, so VDD_AON has stayed up since the seal. -/
def State.skipsTest (s : State) : Bool :=
  s.get .ST_SEALED 0 == 1 &&
  (List.range (s.test.last + 1)).all (fun i => s.itemStatus i == 2 || s.itemStatus i == 6) &&
  decide ((s.time.kt : Int) - s.get .ST_SEAL_KT 0 ≤ s.get .ST_SEAL_VALID 0 * 1966080)

/-- INIT_COMPLETE (R592). -/
def execInitComplete (x : BootFound) (s : State) : Host.Outcome State Fault Refusal :=
  if s.get .START_STATE 0 = 3 then
    let s := (s.loadConfig x.cfgBad).loadRepairs x
    let was := bit s.boot.sec 0
    let s := s.openJournal.bootCauses
    let s := if was then s.jrnWrite 1 0 0x1500 0x03 false false [] [] else s
    let s := s.keeperClock.takeRef.alignPps.ptpBegin
    let s : State := { s with time := { s.time with ppsSince := s.time.cycle } }
    if s.skipsTest then .next s.bringUp
    else .next (((s.put .START_STATE 0 4).cause .ST_CAUSE 0 7).beginRun 3 6)
  else .next s

/-! ### BRINGUP (R591 to R593) -/

/-- The stream ring as the replay index shows it (R591): segments are HELD or ACKED, and unacknowledged packets are to be
sent again. -/
def State.rebuildRing (s : State) : State :=
  let fresh (s : State) (g : Segment) : Segment :=
    s.settled { g with pkts := g.pkts.map (fun x => if s.acked x.pkt then x else { x with sent := false }) }
  let s : State := { s with cave := { s.cave with ring := s.cave.ring.map (fresh s) } }
  s.cave.lastSeq.foldl (fun (s : State) x => s.put .QUEUE_SEQ x.1 ((x.2 + 1) % 4294967296 : Nat)) s

/-- Writes every object that the replay index held. -/
def State.writeIndex (s : State) (v : Key × Int → Int) : State :=
  s.boot.index.foldl (fun (s : State) e => if e.1.obj.inIndex then s.put e.1.obj e.1.inst (v e) else s) s

/-- The cave manager takes up the cave's contents (R591). -/
def State.takeCave (s : State) (x : CaveFound) : State :=
  let s' : State := s.writeIndex (fun e => e.2)
  if !(s.boot.caveKept && x.kept) || s.layoutChanges then { s with cave := {}, regions := [] }
  else if x.indexOk then s'.rebuildRing
  else
    let s' : State := s'.cave.ring.foldl (fun (s : State) g => s.loseSegment 4 g) s'
    let s' : State := { s' with cave := { s'.cave with ring := [], lastSeq := [] } }
    s'.writeIndex (fun e => objDefault e.1)

/-- The hub becomes READY (R592), in PWR_WAKE_STATE (R550). -/
def State.becomeReady (s : State) : State :=
  let s : State := { s with boot := { s.boot with trained := false, autoDone := false, caveKept := false, index := [] }
                            power := { s.power with stoppedAt := s.time.cycle } }
  let s := (s.put .START_STATE 0 6).put .BOOT_TIME 0 ((s.time.cycle - s.boot.at_) / 500 : Nat)
  let s := s.startMirror.settleLosses
  if s.get .PWR_WAKE_STATE 0 = 2 then s.toVigil else s

/-- The layout of R292 for the size fitted, where no stored configuration and no write has given another. -/
def State.defaultLayout (s : State) (fitted : Nat) : State :=
  let fresh (o : Obj) : Bool := s.engine.saved.isNone && s.get o 0 == 0
  let s' := if fresh .STREAM_SEGMENTS then s.put .STREAM_SEGMENTS 0 (fitted * 3 / 64 : Nat) else s
  if fresh .REGION_MIB then s'.put .REGION_MIB 0 (fitted / 256 : Nat) else s'

/-- CAVE_TRAINING_DONE (R591, R592): a restore that R572 owes comes before READY. -/
def execCaveTrainingDone (x : CaveFound) (s : State) : Host.Outcome State Fault Refusal :=
  if s.get .START_STATE 0 = 5 ∧ s.get .CAVE_STATE 0 = 1 then
    let s := (s.put .CAVE_FITTED 0 x.fitted).defaultLayout x.fitted
    if x.fitted = 0 then .next ((s.put .CAVE_STATE 0 0).becomeReady)
    else if !x.trained then .next ((s.put .CAVE_STATE 0 4).becomeReady)
    else
      let s := (s.put .CAVE_STATE 0 2).takeCave x
      let s : State := { s with cave := { s.cave with scrubAt := s.time.cycle } }
      if s.get .ST_SAVE_PENDING 0 ≠ 65535 then
        .next ({ s with boot := { s.boot with trained := true } }.put .ST_STATE 0 2)
      else .next s.becomeReady
  else .next s

/-- REGION_RESTORE_DONE (R572): after a cut cave item, or after a reset in one. -/
def execRegionRestoreDone (s : State) : Host.Outcome State Fault Refusal :=
  if s.get .ST_STATE 0 = 2 then
    if s.test.cut then
      let s : State := { s with test := { s.test with cut := false } }
      .next ((s.put .ST_SAVE_PENDING 0 65535).nextItem 7)
    else if s.boot.trained then .next (((s.put .ST_SAVE_PENDING 0 65535).put .ST_STATE 0 0).becomeReady)
    else .next s
  else .next s

/-! ### Watchdogs (R514, R518, R548) -/

/-- CORE_WATCHDOG_EXPIRY (R514, R588): a core fenced or halted has none; the last core not fenced restarts the hub. -/
def execCoreWatchdogExpiry (core : Fin 2) (s : State) : Host.Outcome State Fault Refusal :=
  if s.fenced 9 core || bit (s.get .DEBUG_HALTED 0) core || !s.served then .next s
  else if s.otherCore core then .next (s.fenceBy 9 core 9)
  else .next (s.restart 5)

end Sys2Proof.Machine
end

