-- ==== Sys2Proof/Machine/Power.lean ====
section
/-! DEFINITION. The commands and happenings of the power manager (17_security_debug_power R549 to R559). -/

namespace Sys2Proof.Machine

open Sys2Proof

/-- A request refused with cause bit [1] (R550). -/
def State.powerRefused (s : State) : Err × State := (.refused, s.cause .PW_CAUSE 0 1)

/-- A wake source has come in this keeper period: a request for a lower state is refused (R557). -/
def State.wokeNow (s : State) : Bool := s.power.wokenAt == some s.time.kt

/-! ### Shutting down (R550, R427) -/

/-- A self-test run that SEALING overtakes ends with its item UNSEALED, its region restored (DESIGN CHOICE, log entry 29). -/
def State.dropRun (s : State) : State :=
  if s.get .ST_STATE 0 = 0 then s
  else
    let s := if s.test.cut then s else (s.endItem (s.get .ST_ITEM 0).toNat false).cause .ST_CAUSE 0 2
    ((s.put .ST_SAVE_PENDING 0 65535).put .ST_STATE 0 0).put .ST_ITEM 0 255

/-- A ring port sends LINK_KILL with CAUSE 1 and goes DOWN (R550): one that cannot send goes DOWN at once. -/
def State.sealPort (s : State) (p : Nat) : State :=
  (if s.portUp p then (s.sendNeighbour p 3 [1, 0, 0, 0]).keepKill p else s).sealOff p

/-- The hub enters SEALING (R550, R565): acquisition stops, the ring ports go DOWN, and the profile of ST_SEAL_PROFILE runs. -/
def State.beginSealing (s : State) : State :=
  let s : State := { s with power := { s.power with leaving := false } }
  let s := (s.stopAcq.dropRun).setPower 3
  let s := (s.sealPort 0).sealPort 1
  let k := s.get .ST_SEAL_PROFILE 0
  if k = 0 then s else s.beginRun 1 (if k = 2 then 7 else 6)

/-- A shutdown is accepted: an ACTING twin unit first hands over when it can, and otherwise stands down (R427, R550). -/
def State.shutDown (s : State) : State :=
  if s.get .TWIN_ENABLE 0 = 1 ∧ s.get .TWIN_STATE 0 = 5 then
    if s.mayHandOver then { s.startHandover with power := { s.power with leaving := true } }
    else (s.standDown s.time.kt).beginSealing
  else s.beginSealing

/-- A shutdown that waits for a handover (R427): once the unit no longer acts it goes on; a handover that came to nothing is
followed by a stand-down. -/
def State.leaveCheck (s : State) : State :=
  if s.power.leaving then
    if s.get .TWIN_STATE 0 ≠ 5 then s.beginSealing
    else if s.twin.giving.isNone then (s.standDown s.time.kt).beginSealing
    else s
  else s

/-- PWR_REQUEST_OFF (R550): refused while data is unacknowledged. -/
def execPwrRequestOff (w : Who) (s : State) : Host.Outcome State Fault Refusal :=
  .next (asCommand w .engineer .PWR_REQUEST 0 (.num 3) (fun s =>
    if s.unackedBytes = 0 && !s.wokeNow then (.ok, s.shutDown) else s.powerRefused) s)

/-- PWR_REQUEST_OFF_DATA_LOSS (R550): from a Service session only. -/
def execPwrRequestOffDataLoss (w : Who) (s : State) : Host.Outcome State Fault Refusal :=
  .next (asCommand w .engineer .PWR_REQUEST 0 (.num 4) (fun s =>
    if w.role.rank < Role.service.rank then (.role, s) else if s.wokeNow then s.powerRefused else (.ok, s.shutDown)) s)

/-! ### RUN, DIM and VIGIL (R550, R552) -/

/-- PWR_REQUEST_RUN (R550). -/
def execPwrRequestRun (w : Who) (s : State) : Host.Outcome State Fault Refusal :=
  .next (asCommand w .engineer .PWR_REQUEST 0 (.num 0) (fun s => (.ok, s.toRun)) s)

/-- The hub enters DIM (R552): the cave goes to self-refresh. -/
def State.toDim (s : State) : State :=
  let s := s.setPower 1
  if s.get .CAVE_STATE 0 = 2 then s.put .CAVE_STATE 0 3 else s

/-- PWR_REQUEST_DIM (R550, R548): from RUN with PWR_DIM_ENABLE 1, acquisition running and no core halted. -/
def execPwrRequestDim (w : Who) (s : State) : Host.Outcome State Fault Refusal :=
  .next (asCommand w .engineer .PWR_REQUEST 0 (.num 1) (fun s =>
    if s.get .PWR_STATE 0 = 1 then (.ok, s)
    else if s.get .PWR_STATE 0 = 0 ∧ s.get .PWR_DIM_ENABLE 0 = 1 ∧ s.running = true ∧ s.get .DEBUG_HALTED 0 = 0 then (.ok, s.toDim)
    else s.powerRefused) s)

/-- PWR_REQUEST_VIGIL (R550): from RUN, while FRAME_STATE is STOPPED. -/
def execPwrRequestVigil (w : Who) (s : State) : Host.Outcome State Fault Refusal :=
  .next (asCommand w .engineer .PWR_REQUEST 0 (.num 2) (fun s =>
    if s.get .PWR_STATE 0 = 2 then (.ok, s)
    else if s.get .PWR_STATE 0 = 0 ∧ s.get .FRAME_STATE 0 = 0 ∧ s.wokeNow = false then (.ok, s.toVigil)
    else s.powerRefused) s)

/-- PWR_AUTO_DELAY_EXPIRY (R550, R557): a start in the keeper period in which the delay matures wins. -/
def execPwrAutoDelayExpiry (s : State) : Host.Outcome State Fault Refusal :=
  if s.get .PWR_AUTO_VIGIL 0 = 1 ∧ s.get .PWR_STATE 0 = 0 ∧ s.get .FRAME_STATE 0 = 0 ∧ s.get .START_STATE 0 = 6 ∧
      s.power.stoppedAt + msCycles (1000 * (s.get .PWR_AUTO_DELAY 0).toNat) < s.keeperSince then .next s.toVigil
  else .next s

/-! ### OFF, wakes and trips (R549, R550, R624) -/

/-- A wake from OFF (R550, R624): SLEEP_N is released and the keeper waits for VDD_CORE. The hour of R585 goes on. -/
def State.wakeUp (s : State) (cause : Nat) : State :=
  { s with power := { settling := true }, boot := { s.boot with cause }, test := { s.test with lifeAt := s.time.kt - s.test.lifeAt } }

/-- SEALING_COMPLETE (R550): the hub enters OFF; a wake latched meanwhile boots it again at once. -/
def execSealingComplete (s : State) : Host.Outcome State Fault Refusal :=
  if s.get .PWR_STATE 0 = 3 ∧ s.get .ST_STATE 0 = 0 then
    match s.power.wake with
    | some c => .next ((s.enterOff 1).wakeUp c)
    | none => .next (s.enterOff 1)
  else .next s

/-- A wake source in OFF or SEALING (R550). -/
def State.wakeSource (s : State) (cause : Nat) : State :=
  if s.power.off then s.wakeUp cause
  else if s.get .PWR_STATE 0 = 3 ∧ s.power.wake = none then { s with power := { s.power with wake := some cause } }
  else s

/-- WAKE_N_WAKE (R550): in OFF and SEALING while PWR_WAKE_MASK enables it; it also ends VIGIL. -/
def execWakeNWake (s : State) : Host.Outcome State Fault Refusal :=
  if s.get .PWR_STATE 0 = 2 ∧ s.power.off = false then
    .next { s.toRun with power := { s.toRun.power with wokenAt := some s.time.kt } }
  else if bit (s.get .PWR_WAKE_MASK 0) 0 then .next (s.wakeSource 2)
  else .next s

/-- PWR_WAKE_AT_ALARM (R550): in the count of KT that equals PWR_WAKE_AT. -/
def execPwrWakeAtAlarm (s : State) : Host.Outcome State Fault Refusal :=
  let at_ := s.get .PWR_WAKE_AT 0
  if at_ ≠ 0 ∧ (s.time.kt : Int) = at_ ∧ bit (s.get .PWR_WAKE_MASK 0) 1 = true then .next (s.wakeSource 3) else .next s

/-- SUPPLY_TRIP (R550). -/
def execSupplyTrip (s : State) : Host.Outcome State Fault Refusal :=
  if s.power.off || s.power.settling then .next s else .next (s.enterOff 2)

/-- THERMAL_TRIP (R550). -/
def execThermalTrip (s : State) : Host.Outcome State Fault Refusal :=
  if s.power.off || s.power.settling then .next s else .next (s.enterOff 3)

/-- DIE_TEMP_SAMPLE (R553): the hottest reading, 0.01 °C. -/
def execDieTempSample (temp : Int) (s : State) : Host.Outcome State Fault Refusal :=
  if s.served then
    let s := s.put .PWR_DIE_TEMP 0 temp
    if s.get .PWR_HOT_LIMIT 0 < temp then
      let s := s.cause .PW_CAUSE 0 4
      let st := s.get .PWR_STATE 0
      .next (if s.get .PWR_HOT_ACTION 0 = 1 ∧ (st = 0 ∨ st = 1) then s.stopAcq.toVigil else s)
    else .next s
  else .next s

/-- CORE_PLL_UNLOCK (R551). -/
def execCorePllUnlock (s : State) : Host.Outcome State Fault Refusal :=
  if s.served then .next (s.cause .PW_CAUSE 0 3) else .next s

/-! ### The cave in DIM (R552) -/

/-- A WAKE step of class 0x6 runs in the tick last begun. -/
def State.wakeStep (s : State) : Bool :=
  let l := s.frameSteps
  (l.take (endStep l)).any (fun w => stepOp w == 6 && stepClass w == 6 && stepRuns w s.tickKey)

/-- Something brings the cave out of self-refresh (R552); a region read does it itself. -/
def State.caveNeeded (s : State) : Bool :=
  (List.range 16).any (fun q => (s.queue q).drain == 0 && decide (s.get .PWR_DIM_BURST 0 ≤ ((s.queue q).slots.length : Int))) ||
  s.wakeStep || !s.ring.resends.isEmpty || s.get .REPLAY_STATE 0 == 1

/-- CAVE_DIM_WAKE (R552). -/
def execCaveDimWake (s : State) : Host.Outcome State Fault Refusal :=
  if s.get .PWR_STATE 0 = 1 ∧ s.get .CAVE_STATE 0 = 3 ∧ s.caveNeeded = true then
    .next { s.caveReady with power := { s.power with caveIdleAt := none } }
  else .next s

/-- The cave has work in DIM (R552): words for the cave writer, or stream packets for a ring port that can take them. -/
def State.caveBusy (s : State) : Bool :=
  let d := (s.get .DATA_DIR 0).toNat
  (List.range 16).any (fun q => (s.queue q).drain == 0 && !(s.queue q).slots.isEmpty) ||
  (decide (d < 2) && s.get .LINK_STATE d == 1 &&
    (s.ringPackets.any (fun x => !x.2.2.sent) || !s.ring.resends.isEmpty)) || s.get .REPLAY_STATE 0 == 1

/-- The tick in which the cave's work ended is kept (R552). -/
def State.noteCaveIdle (s : State) (n : Int) : State :=
  if s.get .PWR_STATE 0 ≠ 1 ∨ s.get .CAVE_STATE 0 ≠ 2 then s
  else if s.caveBusy then { s with power := { s.power with caveIdleAt := none } }
  else if s.power.caveIdleAt.isNone then { s with power := { s.power with caveIdleAt := some n } }
  else s

/-- CAVE_DIM_HOLD_EXPIRY (R552). -/
def execCaveDimHoldExpiry (s : State) : Host.Outcome State Fault Refusal :=
  match s.power.caveIdleAt with
  | some t =>
    if s.get .PWR_STATE 0 = 1 ∧ s.get .CAVE_STATE 0 = 2 ∧ s.caveBusy = false ∧ t + s.get .PWR_DIM_CAVE_HOLD 0 ≤ s.tickKey then
      .next ({ s with power := { s.power with caveIdleAt := none } }.put .CAVE_STATE 0 3)
    else .next s
  | none => .next s

/-- PW_CAUSE_CLEAR (R559). -/
def execPwCauseClear (w : Who) (mask : Nat) (s : State) : Host.Outcome State Fault Refusal :=
  .next (clearCommand w .PW_CAUSE_CLEAR .PW_CAUSE 0 mask s)

end Sys2Proof.Machine
end

