-- ==== Sys2Proof/Machine/Secure.lean ====
section
/-! DEFINITION. Security states, reopening, firmware updates and debug (17_security_debug_power R533 to R548, R555, R556). -/

namespace Sys2Proof.Machine

open Sys2Proof

/-! ### Security states (R533 to R536) -/

/-- SEC_STATE changes (R535): EV 0xD0, every session ends, and the debug level is formed anew. -/
def State.setSec (s : State) (v : Int) : State :=
  if s.get .SEC_STATE 0 = v then s.debugCheck
  else
    let s := (s.put .SEC_STATE 0 v).cause .SEC_CAUSE 0 0
    let s := (List.range 16).foldl (fun (s : State) n => if (s.session n).open_ then s.endSession n else s) s
    s.debugCheck

/-- The hub is reopened. -/
def State.reopened (s : State) : Bool := s.get .SEC_STATE 0 == 2 || s.get .SEC_STATE 0 == 3

/-- A reopening ends and the hub is Closed again (R533). -/
def State.reclose (s : State) : State :=
  { s with sec := { s.sec with granted := 0, reopenEnd := 0 } }.setSec 1

/-- The bytes are all zero: no key. -/
def noKey (b : List Byte) : Bool := b.all (fun x => x == 0)

/-- SEC_CLOSE (R534). -/
def execSecClose (w : Who) (s : State) : Host.Outcome State Fault Refusal :=
  .next (asCommand w .service .SEC_CLOSE 0 .unit (fun s =>
    if s.get .SEC_STATE 0 ≠ 0 then (.refused, s)
    else if noKey (s.getBytes .ROLE_KEY_r 2) then (.refused, s.cause .SEC_CAUSE 0 4)
    else (.ok, s.setSec 1)) s)

/-- SEC_RECLOSE (R533): refused unless the hub is reopened. -/
def execSecReclose (w : Who) (s : State) : Host.Outcome State Fault Refusal :=
  .next (asCommand w .engineer .SEC_RECLOSE 0 .unit (fun s =>
    if s.reopened then (.ok, s.reclose) else (.refused, s)) s)

/-- SEC_REVOKE (R534). -/
def execSecRevoke (w : Who) (v : Nat) (s : State) : Host.Outcome State Fault Refusal :=
  .next (asCommand w .service .SEC_REVOKE 0 (.num v) (fun s =>
    if v ≠ 0xA5A50F0F then (.refused, s)
    else
      let s := [1, 2, 3].foldl (fun (s : State) r => s.putBytes .ROLE_KEY_r r (List.replicate 64 0)) s
      let s : State := { s with sec := { s.sec with password := [], granted := 0, reopenEnd := 0, challenge := none } }
      (.ok, s.stopAcq.setSec 4)) s)

/-- FW_KEY_REVOKE (R536): refused for the slot of the running image, and for the last slot not revoked. -/
def execFwKeyRevoke (w : Who) (k : Nat) (s : State) : Host.Outcome State Fault Refusal :=
  .next (asCommand w .service .FW_KEY_REVOKE 0 (.num k) (fun s =>
    let gone := s.get .FW_KEY_REVOKED 0
    let left := (List.range 4).filter (fun j => !bit gone j)
    if 4 ≤ k then (.outOfRange, s)
    else if imageKeySlot (s.image (s.get .FW_RUNNING 0).toNat) = k ∨ left = [k] then (.refused, s.cause .SEC_CAUSE 0 12)
    else (.ok, s.put .FW_KEY_REVOKED 0 (withBit gone k))) s)

/-! ### Reopening (R540, R556) -/

/-- A reopening by a route stands: the term starts (R540). -/
def State.reopen (s : State) (state : Int) (granted : Nat) : State :=
  let end_ := s.time.kt + (s.get .REOPEN_TERM 0).toNat
  { s with sec := { s.sec with granted, reopenEnd := end_ } }.setSec state

/-- REOPEN_REMAINING (R540). -/
def State.reopenRemaining (s : State) : Int := if s.reopened then (s.sec.reopenEnd - s.time.kt : Nat) else 0

/-- A route of reopening is not refused by the state (R540). -/
def State.reopenable (s : State) : Bool := s.get .SEC_STATE 0 != 0 && s.get .SEC_STATE 0 != 4

/-- The password matches the record (R536, R540). -/
def State.passwordMatches (s : State) (pw : List Byte) : Bool :=
  s.sec.password.length == 48 && Config.sha256 (s.sec.password.take 16 ++ pw) == s.sec.password.drop 16

/-- A password that does not match (R540). -/
def State.passwordFails (s : State) : State :=
  let f := s.get .PASSWORD_FAILS 0 + 1
  let s := (s.put .PASSWORD_FAILS 0 (min f 4294967295)).cause .SEC_CAUSE 0 2
  if f < 5 then s
  else (s.put .PASSWORD_LOCKED_UNTIL 0 (s.time.kt + min (2 ^ (f - 5).toNat) 1024 * 1966080 : Nat)).cause .SEC_CAUSE 0 3

/-- REOPEN_PASSWORD (R540). -/
def execReopenPassword (w : Who) (pw : List Byte) (s : State) : Host.Outcome State Fault Refusal :=
  .next (asCommand w .engineer .REOPEN_PASSWORD 0 (.bytes pw) (fun s =>
    if !s.reopenable then (.refused, s)
    else if pw.length < 8 ∨ 32 < pw.length then (.badLength, s)
    else if (s.time.kt : Int) < s.get .PASSWORD_LOCKED_UNTIL 0 then (.refused, s)
    else if s.passwordMatches pw then (.ok, (s.put .PASSWORD_FAILS 0 0).reopen 2 0)
    else (.refused, s.passwordFails)) s)

/-- REOPEN_CHALLENGE (R540): a fresh nonce (log entry 5) and the first half of the hash of DEVICE_PUB. -/
def execReopenChallenge (w : Who) (s : State) : Host.Outcome State Fault Refusal :=
  .next (asRead w .REOPEN_CHALLENGE (fun s =>
    if !s.reopenable then (.refused, .unit, s)
    else
      let nonce := (Config.freeBytes s.draws 32 ++ List.replicate 32 0).take 32
      let c := nonce ++ (Config.sha256 (s.getBytes .DEVICE_PUB 0)).take 16
      (.ok, .bytes c, { s with draws := s.draws + 1, sec := { s.sec with challenge := some (c, s.time.kt) } })) s)

/-- A response is valid (R540): within 300 s of the read, for a level of 1 or 2, and signed by SERVICE_ROOT. -/
def State.responseValid (s : State) (r : List Byte) : Bool :=
  match s.sec.challenge with
  | some (c, at_) =>
    let level := leNat (r.take 1)
    decide (s.time.kt - at_ ≤ 9830400) && (level == 1 || level == 2) &&
    Config.ecdsaVerify (s.getBytes .SERVICE_ROOT 0) (Config.sha256 (c ++ r.take 1)) (r.drop 1)
  | none => false

/-- REOPEN_RESPONSE (R540). -/
def execReopenResponse (w : Who) (r : List Byte) (s : State) : Host.Outcome State Fault Refusal :=
  .next (asCommand w .observer .REOPEN_RESPONSE 0 (.bytes r) (fun s =>
    if !s.reopenable then (.refused, s)
    else if r.length ≠ 65 then (.badLength, s)
    else if s.responseValid r then
      (.ok, { s with sec := { s.sec with challenge := none } }.reopen 3 (leNat (r.take 1)))
    else (.refused, s.cause .SEC_CAUSE 0 4)) s)

/-- REOPEN_EXPIRED (R533, R556): a reopening in the keeper period in which the term ends wins. -/
def execReopenExpired (s : State) : Host.Outcome State Fault Refusal :=
  if s.reopened && s.countOver s.sec.reopenEnd then
    let s := s.jrnWrite 1 0 0x1500 0x03 false false [] []
    .next (s.reclose.cause .SEC_CAUSE 0 5)
  else .next s

/-- PASSWORD_SET (R540): a fresh salt (log entry 5). -/
def execPasswordSet (w : Who) (pw : List Byte) (s : State) : Host.Outcome State Fault Refusal :=
  .next (asCommand w .service .PASSWORD_SET 0 (.bytes pw) (fun s =>
    if s.get .SEC_STATE 0 ≠ 0 ∧ s.reopened = false then (.refused, s)
    else if pw.length < 8 ∨ 32 < pw.length then (.badLength, s)
    else
      let salt := (Config.freeBytes s.draws 16 ++ List.replicate 16 0).take 16
      (.ok, { s with draws := s.draws + 1, sec := { s.sec with password := salt ++ Config.sha256 (salt ++ pw) } })) s)

/-! ### Firmware updates (R543, R555) -/

/-- Staging, verification and activation are refused in DIM (R555), and while a trial image runs, whose former image must
stay (DEDUCED, R543; log entry 160). -/
def State.updateRefused (s : State) : Bool := s.get .PWR_STATE 0 == 1 || s.get .FW_STATE 0 == 4

/-- Bytes written into an image at an offset. -/
def overwrite (img : List Byte) (off : Nat) (data : List Byte) : List Byte :=
  (img ++ List.replicate (off - img.length) 0).take off ++ data ++ img.drop (off + data.length)

/-- A write into the slot that was to run on trial ends that: the running image is tried first (DEDUCED, R543; log entry 232). -/
def State.dropTrial (s : State) (k : Nat) : State :=
  if s.sec.trial = some k then { s with sec := { s.sec with trial := none } }.put .BOOT_NEXT 0 (s.get .FW_RUNNING 0) else s

/-- FW_STAGE (R543): a U32 offset, then up to 61,440 bytes. -/
def execFwStage (w : Who) (data : List Byte) (s : State) : Host.Outcome State Fault Refusal :=
  .next (asWrite w .engineer .FW_STAGE 0 false false true (.bytes []) (.bytes data) (fun s =>
    let off := leNat (data.take 4)
    let body := data.drop 4
    if data.length < 4 ∨ 61440 < body.length then (.badLength, s)
    else if 2097152 < off + body.length then (.outOfRange, s)
    else if s.updateRefused then (.refused, s)
    else
      let k := (s.get .FW_STAGE_SLOT 0).toNat
      let s := s.dropTrial k
      let s : State := { s with sec := { s.sec with images := tput s.sec.images k (overwrite (s.image k) off body) } }
      (.ok, (s.put .FW_STATE 0 1).showVersions)) s)

/-- FW_VERIFY (R543). -/
def execFwVerify (w : Who) (s : State) : Host.Outcome State Fault Refusal :=
  .next (asCommand w .engineer .FW_VERIFY 0 .unit (fun s =>
    if s.updateRefused then (.refused, s)
    else if s.imageValid (s.get .FW_STAGE_SLOT 0).toNat then (.ok, (s.put .FW_STATE 0 2).showVersions)
    else (.ok, ((s.put .FW_STATE 0 3).cause .SEC_CAUSE 0 9).showVersions)) s)

/-- The verified slot becomes the trial image (R543). -/
def State.makeTrial (s : State) : State :=
  let k := (s.get .FW_STAGE_SLOT 0).toNat
  { s with sec := { s.sec with trial := some k } }.put .BOOT_NEXT 0 k

/-- FW_ACTIVATE_NEXT_START (R543). -/
def execFwActivateNextStart (w : Who) (s : State) : Host.Outcome State Fault Refusal :=
  .next (asCommand w .engineer .FW_ACTIVATE 0 (.num 0) (fun s =>
    if s.updateRefused ∨ s.get .FW_STATE 0 ≠ 2 then (.refused, s) else (.ok, s.makeTrial)) s)

/-- FW_ACTIVATE_NOW (R543): refused while acquisition runs or the unit is ACTING; the hub restarts at once. -/
def execFwActivateNow (w : Who) (s : State) : Host.Outcome State Fault Refusal :=
  .next (asCommand w .engineer .FW_ACTIVATE 0 (.num 1) (fun s =>
    if s.updateRefused ∨ s.get .FW_STATE 0 ≠ 2 ∨ s.running = true ∨ s.get .TWIN_STATE 0 = 5 then (.refused, s)
    else (.ok, s.makeTrial.restart 4)) s)

/-- FW_CONFIRM (R543): the trial image is preferred, and ROLLBACK_MIN rises to its ROLLBACK. -/
def execFwConfirm (w : Who) (s : State) : Host.Outcome State Fault Refusal :=
  .next (asCommand w .engineer .FW_CONFIRM 0 .unit (fun s =>
    if s.get .FW_STATE 0 ≠ 4 then (.refused, s)
    else
      let k := (s.get .FW_RUNNING 0).toNat
      (.ok, (((s.put .FW_STATE 0 5).put .BOOT_NEXT 0 k).raiseTo .ROLLBACK_MIN 0 (imageRollback (s.image k))).showVersions)) s)

/-- FW_TRIAL_EXPIRY (R543): the hub restarts into the former image, cause bit [8]; a confirmation in the keeper period in which
the time matures wins. -/
def execFwTrialExpiry (s : State) : Host.Outcome State Fault Refusal :=
  if s.get .FW_STATE 0 = 4 ∧ s.countOver (s.sec.trialAt + s.get .FW_TRIAL_TIME 0) = true then
    let s : State := { s with boot := { s.boot with sec := s.boot.sec ||| 256 } }
    .next (s.restart 4)
  else .next s

/-! ### Debug (R545 to R548) -/

/-- DEBUG_SET (R546). -/
def execDebugSet (w : Who) (v : Nat) (s : State) : Host.Outcome State Fault Refusal :=
  .next (asCommand w .service .DEBUG_SET 0 (.num v) (fun s =>
    if 2 < v then (.outOfRange, s) else (.ok, { s with sec := { s.sec with asked := v } }.debugCheck)) s)

/-- A TAP instruction is allowed (R545, R555): in RESET and BOOT only BYPASS and IDCODE. -/
def State.tapAllows (s : State) (t : Tap) : Bool :=
  let l := (s.get .DEBUG_EFFECTIVE 0).toNat
  match t with
  | .reset | .bypass | .idcode => true
  | .sample => s.served && decide (1 ≤ l)
  | .extest | .clamp | .highz => s.served && s.scanAllowed l
  | .debugPort => s.served && decide (2 ≤ l)
  | .other => false

/-- TAP_INSTRUCTION (R545, R546): one that is not allowed acts as BYPASS, reported once until Test-Logic-Reset. In OFF the
TAP has no power. -/
def execTapInstruction (t : Tap) (s : State) : Host.Outcome State Fault Refusal :=
  if s.power.off then .next s
  else if t = .reset then .next s.tapReset
  else if s.tapAllows t then .next { s with sec := { s.sec with tap := t } }
  else
    let s : State := { s with sec := { s.sec with tap := .bypass } }
    if s.sec.tapRefused then .next s
    else .next ({ s with sec := { s.sec with tapRefused := true } }.cause .SEC_CAUSE 0 11)

/-- The debug port has the cores (R545). -/
def State.debugHas (s : State) : Bool := s.sec.tap == .debugPort && s.get .DEBUG_EFFECTIVE 0 == 2

/-- DEBUG_HALT (R548, R550): the second core is not halted in RUN and DIM; a halt ends DIM. -/
def execDebugHalt (core : Fin 2) (s : State) : Host.Outcome State Fault Refusal :=
  let h := s.get .DEBUG_HALTED 0
  if s.debugHas = true ∧ bit h core = false ∧ (h = 0 ∨ s.get .PWR_STATE 0 = 2) then
    let s := (s.put .DEBUG_HALTED 0 (withBit h core)).coreFence core
    .next (if s.get .PWR_STATE 0 = 1 then s.toRun else s)
  else .next s

/-- DEBUG_RESUME (R545). -/
def execDebugResume (core : Fin 2) (s : State) : Host.Outcome State Fault Refusal :=
  if s.debugHas = true then .next (s.put .DEBUG_HALTED 0 (withoutBits (s.get .DEBUG_HALTED 0) (2 ^ core.val : Nat)))
  else .next s

/-- SEC_CAUSE_CLEAR (R558). -/
def execSecCauseClear (w : Who) (mask : Nat) (s : State) : Host.Outcome State Fault Refusal :=
  .next (clearCommand w .SEC_CAUSE_CLEAR .SEC_CAUSE 0 mask s)

end Sys2Proof.Machine
end

