-- ==== Sys2Proof/Machine/Vat.lean ====
section
/-! DEFINITION. Vat membership and the service phases (19_startup_and_vat_membership): member records, the disagreements and
the state they give, leaving and rejoining, and what ends START_UP, RECOVERY and TEST. -/

namespace Sys2Proof.Machine

open Sys2Proof

/-! ### Member records (R600 to R603) -/

/-- VAT_DIGEST (R602). -/
def State.vatDigest (s : State) : Nat :=
  crc32c (leBytes 4 (s.get .VAT_ID 0).toNat ++ vt80Bytes (s.get .VAT_EPOCH 0))

/-- Byte 14 of the hub's member record. -/
def State.memberByte (s : State) : Nat :=
  (s.get .RT_ROLE 0).toNat % 4 + 4 * (s.get .TWIN_ENABLE 0).toNat + 8 * (s.get .TWIN_SIDE 0).toNat +
  (if holdState (s.get .VT_STATE 0) then 16 else 0) + 32 * (s.get .SERVICE_PHASE 0).toNat + (if s.running then 128 else 0)

/-- The hub's member record, 16 bytes (R600). -/
def State.memberRecord (s : State) : List Byte :=
  [3] ++ leBytes 1 (s.get .VAT_STATE 0).toNat ++ leBytes 2 Config.hubAddress ++ leBytes 4 s.vatDigest ++
  leBytes 4 s.firmware ++ leBytes 2 (s.get .RING_VERSION 0).toNat ++ leBytes 1 s.memberByte ++ [0]

/-- A record without byte 14, whose change alone does not send it (R601). -/
def withoutByte14 (b : List Byte) : List Byte := b.take 14 ++ b.drop 15

/-- The record leaves by both ring ports with one FSEQ (R601); the standby unit of a twin sends it too. -/
def State.sendMember (s : State) : State :=
  let b := s.memberRecord
  let (f, s) := s.newFrame 4 true false 3 0 0 b
  let s := (s.sendFrame 0 4 f).sendFrame 1 4 f
  { s with vat := { s.vat with sent := b, sentAt := some s.time.cycle } }

/-- MEMBER_RECORD_SEND (R601): every MEMBER_PERIOD, and at once when a field other than byte 14 has changed, the entry into
JOINING among them. A hub without a ring position sends link-scope frames only (R363). -/
def execMemberRecordSend (s : State) : Host.Outcome State Fault Refusal :=
  let due := match s.vat.sentAt with
    | some t => decide (t + msCycles (s.get .MEMBER_PERIOD 0).toNat ≤ s.time.cycle)
    | none => true
  if s.placed && (due || withoutByte14 s.vat.sent != withoutByte14 s.memberRecord) then .next s.sendMember else .next s

/-- A member record taken (R601): the latest of its position; the grandmaster answers one that shows JOINING. -/
def State.onMember (s : State) (f : Frame) : State :=
  let recs := (f.srcPos, f.payload.take 16, s.time.cycle) :: s.vat.recs.filter (fun x => x.1 != f.srcPos)
  let s := { s with vat := { s.vat with recs } }
  if s.get .RT_ROLE 0 = 3 ∧ leNat (slice f.payload 1 1) = 1 then s.sendMember else s

/-- MEMBER_RECORD_RX (R601). -/
def execMemberRecordRx (p : Fin 2) (f : Frame) (s : State) : Host.Outcome State Fault Refusal :=
  if f.cls = 4 ∧ f.kind = 3 then
    match s.receive p f with
    | (true, s) => .next (s.onMember f)
    | (false, s) => .next s
  else .next s

/-- The records that have not expired (R601), judged in servo cycles (R603): one that arrives in the servo cycle in which the
former expires wins. -/
def State.heard (s : State) : List (Nat × List Byte × Nat) :=
  s.vat.recs.filter (fun x => decide (s.time.servoAt ≤ x.2.2 + 4 * msCycles (s.get .MEMBER_PERIOD 0).toNat))

/-- MEMBER_RECORD_EXPIRY (R601). -/
def execMemberRecordExpiry (s : State) : Host.Outcome State Fault Refusal :=
  .next { s with vat := { s.vat with recs := s.heard } }

/-- VAT_MEMBERS: the record of ring position k at byte 16k, zeros when none (R612). -/
def State.vatMembers (s : State) : List Byte :=
  (List.range 32).flatMap (fun k =>
    match s.heard.find? (fun x => x.1 == k) with
    | some x => x.2.1
    | none => List.replicate 16 0)

/-- The hub address in a record. -/
def recAddr (b : List Byte) : Nat := leNat (slice b 2 2) % 512

/-- The reference's record (R603): of the units of a twin at its address, the one whose RT_ROLE is GRANDMASTER first. -/
def State.reference (s : State) : Option (List Byte) :=
  let l := (s.heard.map (fun x => x.2.1)).filter (fun b => (recAddr b : Int) == s.get .RT_GM 0)
  match l.find? (fun b => leNat (slice b 14 1) % 4 == 3) with
  | some b => some b
  | none => l.head?

/-! ### Disagreements (R604) -/

/-- A record is that of the hub's twin partner (R604). -/
def State.isPartnerRec (s : State) (b : List Byte) : Bool :=
  let x := leNat (slice b 14 1)
  s.get .TWIN_ENABLE 0 == 1 && x.testBit 2 && x / 8 % 2 != (s.get .TWIN_SIDE 0).toNat

/-- Bit [2]: another record holds this hub's address, and this hub is the one rejected (R604). -/
def State.addressClash (s : State) : Bool :=
  let joining := s.get .VAT_STATE 0 == 1
  Config.hubAddress != 0x1FF &&
  s.heard.any (fun x =>
    recAddr x.2.1 == Config.hubAddress && !s.isPartnerRec x.2.1 &&
    (let other := leNat (slice x.2.1 1 1) == 1
     (joining && !other) || (joining == other && decide ((x.1 : Int) < s.get .RING_POSITION 0))))

/-- VAT_DISAGREE in a servo cycle but for bit [4] (R604): the reference is concordant with itself, and without its record
nothing is held against it (R603). -/
def State.disagree (s : State) : Nat :=
  let own := s.get .RT_ROLE 0 == 3
  let r := if own then none else s.reference
  let against (f : List Byte → Bool) : Bool := (r.map f).getD false
  let ver := (s.get .RING_VERSION 0).toNat
  let fw := s.firmware
  let major (b : List Byte) : Int := leNat (slice b 11 1)
  let far (b : List Byte) : Bool := decide (s.get .VAT_FW_WINDOW 0 < ((fw / 16777216 : Nat) - major b).natAbs)
  let b0 := against (fun b => leNat (slice b 13 1) != ver / 256)
  let b1 := against far
  let b3 := against (fun b => leNat (slice b 4 4) != s.vatDigest)
  let b5 := against (fun b => (leNat (slice b 8 4) != fw && !far b) || leNat (slice b 12 1) != ver % 256)
  (if b0 then 1 else 0) + (if b1 then 2 else 0) + (if s.addressClash then 4 else 0) + (if b3 then 8 else 0) +
  (if b5 then 32 else 0) + (if s.vat.second then 64 else 0)

/-- Bit [4] (R604): VAT_SPLIT_CYCLES servo cycles in a row with a refused jump while RUNNING set it and order holdover;
LOCKED clears it. -/
def State.judgeSplit (s : State) : Bool × State :=
  let n := if s.running && s.vat.jump then s.vat.split + 1 else 0
  let s := { s with vat := { s.vat with split := n, jump := false } }
  if s.get .VT_STATE 0 = 2 then (false, s)
  else if bit (s.get .VAT_DISAGREE 0) 4 then (true, s)
  else if s.get .VAT_SPLIT_CYCLES 0 ≤ (n : Int) then (true, s.orderHoldover)
  else (false, s)

/-! ### The state (R605 to R607) -/

/-- VAT_STATE by the list of R605. -/
def State.vatStateNow (s : State) (bits : Nat) : Int :=
  if s.vat.left then 6
  else if bits % 8 ≠ 0 then 5
  else if !s.placed && s.get .RT_ROLE 0 != 3 then 0
  else if s.get .RT_ROLE 0 != 3 && s.reference.isNone then 1
  else if bits.testBit 4 then 4
  else if bits.testBit 3 then 3
  else 2

/-- VAT_STATE changes (R605, R607): a state that refuses scheduled commits raises EV 0xC7; the return to CONCORDANT is a
recovery cause (R598, R611). -/
def State.setVatState (s : State) (v : Int) : State :=
  if s.get .VAT_STATE 0 = v then s
  else
    let s := (s.put .VAT_STATE 0 v).put .VAT_STATE_CHANGED 0 s.vtNow
    if 3 ≤ v then s.cause .MJ_CAUSE 0 7 else if v = 2 then s.recover else s

/-- The evaluation cycle of membership (R603 to R605). -/
def State.judgeVat (s : State) : State :=
  let (split, s) := s.judgeSplit
  let bits := s.disagree + (if split then 16 else 0)
  let s := { s.put .VAT_DISAGREE 0 bits with vat := { s.vat with second := false } }
  s.setVatState (s.vatStateNow bits)

/-! ### Leaving and rejoining (R610, R611) -/

/-- A candidate withdraws: an ANNOUNCE with ELIGIBLE clear (R610). -/
def State.withdrawCandidate (s : State) : State :=
  if s.isCandidate then
    let a := (s.ringTime.aseq + 1) % 65536
    let s := { s with ringTime := { s.ringTime with aseq := a, announceAt := some s.time.cycle } }
    let body := [4, 0] ++ leBytes 2 a ++ leBytes 2 Config.hubAddress ++
      leBytes 1 (s.get .RT_PRIORITY 0).toNat ++ leBytes 1 (s.get .VT_SOURCE 0).toNat ++
      leBytes 1 (s.get .VT_STATE 0).toNat ++ [0, 0, 0, 0, 0, 0, 0]
    (s.sendTime 0 body).sendTime 1 body
  else s

/-- VAT_LEAVE (R610): only while FRAME_STATE is STOPPED. -/
def execVatLeave (w : Who) (s : State) : Host.Outcome State Fault Refusal :=
  .next (asCommand w .engineer .VAT_LEAVE 0 .unit (fun s =>
    if s.get .FRAME_STATE 0 = 0 then
      let s := s.withdrawCandidate
      (.ok, { s with vat := { s.vat with left := true } }.setVatState 6)
    else (.refused, s)) s)

/-- VAT_REJOIN (R611): the hub enters JOINING; in any other state than LEFT there is nothing to clear. -/
def execVatRejoin (w : Who) (s : State) : Host.Outcome State Fault Refusal :=
  .next (asCommand w .engineer .VAT_REJOIN 0 .unit (fun s =>
    if s.vat.left then (.ok, { s with vat := { s.vat with left := false } }.setVatState 1) else (.ok, s)) s)

/-! ### Service phases (R598, R599) -/

/-- START_LIMIT_EXPIRY (R598). -/
def execStartLimitExpiry (s : State) : Host.Outcome State Fault Refusal :=
  if s.get .SERVICE_PHASE 0 = 0 ∧ s.running = true ∧
      s.boot.startedAt + msCycles (s.get .START_LIMIT 0).toNat ≤ s.time.cycle then .next s.startDone
  else .next s

/-- RECOVERY_TICKS_EXPIRY (R598). -/
def execRecoveryTicksExpiry (s : State) : Host.Outcome State Fault Refusal :=
  if s.get .SERVICE_PHASE 0 = 3 ∧ s.boot.recoveryAt + s.get .RECOVERY_TICKS 0 ≤ s.tickKey then .next (s.put .SERVICE_PHASE 0 1)
  else .next s

/-- SERVICE_PHASE_NORMAL (R598): from START_UP, TEST and RECOVERY; in NORMAL nothing changes. -/
def execServicePhaseNormal (w : Who) (s : State) : Host.Outcome State Fault Refusal :=
  .next (asCommand w .operator .SERVICE_PHASE_SET 0 (.num 1)
    (fun s => (.ok, if s.get .SERVICE_PHASE 0 = 0 then s.startDone else s.put .SERVICE_PHASE 0 1)) s)

/-- SERVICE_PHASE_TEST (R598): from START_UP, NORMAL and RECOVERY; in TEST nothing changes. -/
def execServicePhaseTest (w : Who) (s : State) : Host.Outcome State Fault Refusal :=
  .next (asCommand w .operator .SERVICE_PHASE_SET 0 (.num 2) (fun s => (.ok, s.put .SERVICE_PHASE 0 2)) s)

end Sys2Proof.Machine
end

