-- ==== Sys2Proof/Machine/Dictionary.lean ====
section
/-! DEFINITION. Reading and writing entries of the object dictionary (14_object_dictionary): what a read gives, the order of
checks of R462, staging, and what a write does. -/

namespace Sys2Proof.Machine

open Sys2Proof

/-! ### What a read gives (R18, R445) -/

/-- 32 bytes, bit n for EV_PENDING of n. -/
def State.pendingMap (s : State) : List Byte :=
  (List.range 32).map (fun k =>
    BitVec.ofNat 8 ((List.range 8).foldl (fun (v : Nat) j => if s.get .EV_PENDING (8 * k + j) == 1 then v + 2 ^ j else v) 0))

/-- The window of outbound notices (R477). -/
def State.rxWindow (s : State) (k : Nat) : List Byte :=
  (List.range 32768).map (fun a => tget (s.box k).outWin a)

/-- Held locks (R500). -/
def State.heldLocks (s : State) : Nat :=
  (List.range 32).foldl (fun (v : Nat) n => if s.get .LOCK_n n == 0 then v else v + 2 ^ n) 0

/-- STATE_SUMMARY (R500). -/
def State.summary (s : State) : List Byte :=
  let g (o : Obj) : Nat := (s.get o 0).toNat
  let b := leBytes 4 s.jrnHead ++ leBytes 4 (g .JRN_BOOTS) ++ leBytes 8 s.time.kt ++ vt80Bytes s.vtNow ++
    leBytes 1 (g .FRAME_STATE) ++ leBytes 1 (g .VT_STATE) ++ leBytes 1 (g .TWIN_STATE) ++ leBytes 1 (g .SESSIONS_OPEN) ++
    leBytes 2 s.stagedCount ++ leBytes 4 s.cfgDigest ++ leBytes 4 s.stagedDigest ++ leBytes 4 (g .CFG_SAVED_DIGEST) ++
    leBytes 8 (g .LAST_COMMIT_INDEX) ++ leBytes 8 (g .ARMED_INDEX) ++ leBytes 4 (g .ARMED_DIGEST) ++
    leBytes 4 s.heldLocks ++ leBytes 4 s.jrnOldest
  b ++ leBytes 4 (crc32c b)

/-- COEF_CRC: over the five committed BLOBs of a bank in subindex order (R197). -/
def State.coefCrc (s : State) (k : Nat) : Nat := crc32c ((List.range 5).flatMap (fun p => s.getBytes .COEF_p (5 * k + p)))

/-- The value of a numeric object at the moment: those the hub forms from what it holds, and the others as they stand. The
grid index before VAT_EPOCH is no number (R58): a free value. -/
def State.now (s : State) (o : Obj) (i : Nat) : Int :=
  match o with
  | .VT_NOW => s.vtNow
  | .SLEW_REMAINING => s.time.vtSlew / 256
  | .GRID_INDEX => s.gridIndex.getD (Config.freeValue s.draws % 18446744073709551616 : Nat)
  | .GRID_INSTANT => s.instant (s.gridIndex.getD (Config.freeValue s.draws % 18446744073709551616 : Nat)) / 256
  | .PT_NOW => s.time.pt / 256
  | .PT_SLEW_REMAINING => s.time.ptSlew / 256
  | .KT_NOW => s.time.kt
  | .COEF_CRC => s.coefCrc i
  | .TWIN_DIGEST => s.twinDigest
  | .STAGED_COUNT => s.stagedCount
  | .STAGED_DIGEST => s.stagedDigest
  | .CFG_DIGEST => s.cfgDigest
  | .STAGE_BYTES => s.stageBytes
  | .JRN_HEAD => s.jrnHead
  | .JRN_OLDEST => s.jrnOldest
  | .MBX_FILL => (16 * (s.box i).outbox.length + (s.box i).inbox.length : Nat)
  | .IRQ_STATE => (List.range 4).foldl (fun (v : Int) k => if s.irqLow k then withBit v k else v) 0
  | .IRQ_FIRST_k => s.irqFirst i
  | .REOPEN_REMAINING => s.reopenRemaining
  | .REPAIR_COUNT => s.repairCount
  | .FUSE_FREE => s.fusesFree
  | .SPARES_LEFT => s.sparesLeft
  | .VAT_DIGEST => s.vatDigest
  | .VAT_REFERENCE => s.get .RT_GM 0
  | .VAT_MEMBER_COUNT => s.heard.length
  | _ => s.statusNow o i

/-- The value of a STR or BLOB object at the moment. -/
def State.nowBytes (s : State) (o : Obj) (i : Nat) : List Byte :=
  match o with
  | .STATE_SUMMARY => s.summary
  | .EV_PENDING_MAP => s.pendingMap
  | .MBX_RX_DATA => s.rxWindow i
  | .VAT_MEMBERS => s.vatMembers
  | _ => s.getBytes o i

/-- Status objects of the control and data planes (R18): the frame sequencer's, the commit logic's, those of the ranges of R452
from the banks to the cave, and the ring ports'. COEF_CRC is taken as committed configuration, and what the dictionary engine
forms of staging and configuration as its own. -/
def ObjInfo.status (r : ObjInfo) : Bool :=
  r.access == .ro &&
  ((0x2000 ≤ r.index && r.index ≤ 0x5FFF && r.obj != .COEF_CRC) || (0x6000 ≤ r.index && r.index ≤ 0x601F) || r.index == 0x1680 ||
   r.obj == .ARMED_INDEX || r.obj == .ARMED_DIGEST || r.obj == .LAST_COMMIT_INDEX || r.obj == .COMMIT_COUNT ||
   r.obj == .COMMIT_REFUSALS || r.obj == .COMMIT_PARTS_REFUSED)

/-- A read answers from the copy of R18: while acquisition runs and once one has been taken since the start. -/
def State.fromSnap (s : State) (r : ObjInfo) : Bool := r.status && s.running && s.engine.snapTaken

/-- What a read shows of a value: reserved bits that a commit judges are held as written, and read as 0 (R5, R156, R265). -/
def Obj.shown (o : Obj) (v : Val) : Val :=
  match o, v with
  | .OUT_SEL_i, .num n => .num (withoutBits n 0xF0)
  | .SEQ_ENTRY_n, .num n => .num (n / 16384 * 16384)
  | _, v => v

/-- The value that a read of an entry returns: staged with the STAGED flag (R445), else committed, copied or current. -/
def State.readOf (s : State) (staged : Bool) (r : ObjInfo) (i : Nat) : Val :=
  r.obj.shown <|
  if staged && r.staged then s.stagedOf r i
  else if r.isBytes then
    .bytes (if s.fromSnap r then Sparse.get blobDefault s.engine.snapBytes ⟨r.obj, i⟩ else s.nowBytes r.obj i)
  else .num (if s.fromSnap r then Sparse.get objDefault s.engine.snap ⟨r.obj, i⟩ else s.now r.obj i)

/-- What a meaning answered and left. -/
def State.ran (s : State) (x : Host.Outcome State Fault Refusal) : Err × Val × State :=
  match x with
  | .next t => (t.answer.err, t.answer.val, t)
  | _ => (.refused, .unit, s)

/-- A read of an entry other than QUEUE_READ, role and access checked: its error, its value and its effect. `bad` names the
journal slots that read uncorrectably, `hurt` an uncorrectable error in the capture region. -/
def State.readEntry (s : State) (w : Who) (staged : Bool) (bad : List Nat) (hurt : Bool) (r : ObjInfo) (i : Nat) :
    Err × Val × State :=
  match r.obj with
  | .LOCK_n => s.ran (execLockRead w (Fin.ofNat 32 i) s)
  | .JRN_PAGE_p => s.ran (execJrnPageRead w (Fin.ofNat 1024 i) bad s)
  | .MBX_TAKE => s.ran (execMbxTake w (Fin.ofNat 8 i) s)
  | .MBX_RX_DATA => if s.boundTo w i then (.ok, s.readOf staged r i, s) else (.session, .unit, s)
  | .REGION_DATA => s.ran (execRegionDataRead w (Fin.ofNat 16 i) hurt s)
  | .REOPEN_CHALLENGE => s.ran (execReopenChallenge w s)
  | _ => (.ok, s.readOf staged r i, s)

/-! ### Reads of QUEUE_READ (R278, R280) -/

/-- The value of a slot's word as it is delivered: a word with an uncorrectable error is delivered as read, a free value (R524). -/
def State.slotWord (s : State) (x : Slot) : Word × State :=
  if x.bad then let (v, s) := s.draw; (BitVec.ofNat 32 v, s) else (x.word.getD 0, s)

/-- The words of slots as they are delivered. -/
def State.slotWords (s : State) (xs : List Slot) : List Word × State :=
  xs.foldl (fun (a : List Word × State) x => let (w, s) := a.2.slotWord x; (a.1 ++ [w], s)) ([], s)

/-- Bytes of the packet at the head of a queue; none when no packet is readable. -/
def State.headBytes (s : State) (q : Nat) : Option Nat :=
  let u := s.queue q
  match u.reading, u.wholeHead with
  | none, some n => if s.fenced 5 q then none else some (4 * (if u.framing = 0 then n - 1 else n))
  | _, _ => none

/-- The packet at the head of a queue is taken (R280). -/
def State.takeBytes (s : State) (q : Nat) : List Byte × State :=
  match s.takePacket q with
  | (some xs, s) => let (ws, s) := s.slotWords xs; (wordsBytes ws, s)
  | (none, s) => ([], s)

/-- What a read of QUEUE_READ comes to. -/
inductive QueueAns where
  /-- Another consumer drains the queue (R278). -/
  | path
  /-- No packet is readable, and the read may wait. -/
  | wait
  | empty
  /-- The packet does not fit: its length. -/
  | segmented (n : Nat)
  | packet
deriving DecidableEq, Repr, Inhabited

/-- What a read of QUEUE_READ of a queue comes to, with room for so many bytes (R278, R280). A fenced queue reads empty. -/
def State.queueAns (s : State) (q room : Nat) (mayWait : Bool) : QueueAns :=
  if (s.queue q).drain ≠ 2 then .path
  else match s.headBytes q with
    | some n => if room < n then .segmented n else .packet
    | none => if mayWait && !s.fenced 5 q && s.get .QUEUE_READ_WAIT q != 0 then .wait else .empty

/-- The cycle in which the wait of a read that begins now matures. -/
def State.waitEnd (s : State) (q : Nat) : Nat := s.time.cycle + msCycles (s.get .QUEUE_READ_WAIT q).toNat

/-- A read of QUEUE_READ answered: the error and the value. SEGMENTED gives the packet's length. -/
def State.queueGive (s : State) (q room : Nat) : Err × Val × State :=
  match s.queueAns q room false with
  | .path => (.path, .unit, s)
  | .segmented n => (.segmented, .num n, s)
  | .packet => let (b, s) := s.takeBytes q; (.ok, .bytes b, s)
  | _ => (.ok, .bytes [], s)

/-- QUEUE_READ (R280): a master reads with room for `room` bytes. It needs the queue stores that item 3 tests (R571). -/
def execQueueRead (w : Who) (q : Fin 16) (room : Nat) (s : State) : Host.Outcome State Fault Refusal :=
  .next (asRead w .QUEUE_READ (fun s =>
    let s := s.abortItems [3]
    match s.queueAns q room true with
    | .wait => (.notDone, .unit, s.setQueue q { s.queue q with waiting := (s.queue q).waiting ++ [(s.waitEnd q, room)] })
    | _ => s.queueGive q room) s)

/-- A read that waits until a cycle is answered: a packet is readable, the queue is fenced, or the queue cycle in which its
wait matured is over, so that an arrival in that cycle wins (R14, R280, R308). -/
def State.waitOver (s : State) (q until_ : Nat) : Bool :=
  (s.headBytes q).isSome || decide (until_ < s.time.cycle) || s.fenced 5 q

/-- One read of a master that waits: answered, or left waiting behind those before it. -/
def State.serveOne (s : State) (q : Nat) (x : Nat × Nat) : State :=
  if s.waitOver q x.1 then
    let (e, v, s) := s.queueGive q x.2
    s.reply e v
  else s.setQueue q { s.queue q with waiting := (s.queue q).waiting ++ [x] }

/-- The reads of masters that wait on a queue, oldest first (R280). -/
def State.serveWaiting (s : State) (q : Nat) : State :=
  (s.queue q).waiting.foldl (fun (s : State) x => s.serveOne q x) (s.setQueue q { s.queue q with waiting := [] })

/-! ### The checks of a write (R439, R440, R462) -/

/-- Least and greatest length of the BLOB or STR of an object (R440). -/
def Obj.lengths (o : Obj) : Nat × Nat :=
  match o with
  | .CJC_TABLE => (48, 48)
  | .COEF_p => (192, 192)
  | .COMMIT_ARM => (12, 12)
  | .MBX_POST | .MBX_TAKE => (16, 16)
  | .MBX_TX_DATA => (4, 32772)
  | .EV_ACK_MAP | .EV_PENDING_MAP | .FW_KEY_HASH_k => (32, 32)
  | .REOPEN_PASSWORD | .PASSWORD_SET => (8, 32)
  | .REOPEN_RESPONSE => (65, 65)
  | .ROLE_KEY_r | .CAP_HEADER | .DEVICE_PUB | .SERVICE_ROOT | .ST_EXC_FAILED | .ST_CAL_LOST => (64, 64)
  | .FW_STAGE => (4, 61444)
  | .HIST_BINS => (4096, 4096)
  | .QUEUE_READ => (0, 4204)
  | .REGION_DATA => (1024, 1024)
  | .RX_DFE => (5, 5)
  | .STATE_SUMMARY => (78, 78)
  | .JRN_PAGE_p => (2048, 2048)
  | .MBX_RX_DATA => (32768, 32768)
  | .REOPEN_CHALLENGE => (48, 48)
  | .LIFE_TJ_HIST => (68, 68)
  | .VAT_MEMBERS => (512, 512)
  | _ => (0, 64)

/-- Type codes and widths (R439). -/
def ObjType.code : ObjType → Nat
  | .none => 0 | .bool => 1 | .u8 => 2 | .u16 => 3 | .u32 => 4 | .u64 => 5 | .i32 => 6 | .i64 => 7 | .vt80 => 8 | .str => 9
  | .blob => 10

def ObjType.width : ObjType → Nat
  | .none => 0 | .bool => 1 | .u8 => 1 | .u16 => 2 | .u32 => 4 | .u64 => 8 | .i32 => 4 | .i64 => 8 | .vt80 => 12 | .str => 64
  | .blob => 65535

/-- The value that bytes hold in a type (R439). Nanoseconds that no second has are taken as 999,999,999, so that R59 refuses
them (DEDUCED, log entry 200). -/
def ObjType.decode (t : ObjType) (b : List Byte) : Val :=
  match t with
  | .none => .unit
  | .str | .blob => .bytes b
  | .i32 | .i64 => .num (leInt b)
  | .vt80 => .num (vt80Of (b.take 2 ++ leBytes 4 (min (leNat (slice b 2 4)) 999999999) ++ b.drop 6))
  | _ => .num (leNat b)

/-- The length of a value suits the object (R440). -/
def ObjInfo.lengthOk (r : ObjInfo) (n : Nat) : Bool :=
  if r.isBytes then decide (r.obj.lengths.1 ≤ n) && decide (n ≤ r.obj.lengths.2) else n == r.type.width

/-- The codes and values that the Meaning column lists for a command (R440). -/
def Obj.commandTop (o : Obj) : Option (Int × Int) :=
  match o with
  | .SCAN_HOLD | .LANE_TEST | .FW_ACTIVATE | .COEF_SWAP => some (0, 1)
  | .ST_RUN | .SERVICE_PHASE_SET => some (1, 2)
  | .DEBUG_SET => some (0, 2)
  | .FW_KEY_REVOKE => some (0, 3)
  | .PWR_REQUEST => some (0, 4)
  | .EXC_CAL | .LOCK_RELEASE | .LOCK_FORCE => some (0, 31)
  | .REPAIR_CLEAR | .REPAIR_FUSE => some (0, 63)
  | .INJECT => some (0, 1023)
  | _ => none

/-- A number is a power of two. -/
def isPowerOfTwo (v : Int) : Bool := (List.range 64).any (fun k => v == (2 ^ k : Nat))

/-- A value lies within the range of its object (R440): the range of the Meaning column, and what it says beyond two bounds. -/
def State.inRange (s : State) (r : ObjInfo) (v : Val) : Bool :=
  match v with
  | .num n =>
    ((r.lo ≤ n && n ≤ r.hi) || r.extra.contains n) &&
    (match r.obj.commandTop with | some (a, b) => a ≤ n && n ≤ b | none => true) &&
    (match r.obj with
     | .QUEUE_DEPTH => isPowerOfTwo n
     | .LEASE_TERM => n % 16 == 0
     | .REGION_OFFSET => n % 4 == 0
     | .RIPEN_LOW_WATER => 1 ≤ n && n ≤ s.get .STREAM_SEGMENTS 0 - 8
     | _ => true)
  | _ => true

/-- The bits of a value that are not reserved: the hub ignores the others, and they read as 0 (R5, R21, R116, R507). Those of
OUT_SEL_i and SEQ_ENTRY_n are held until the commit, which refuses them (R156, R265; Obj.shown). -/
def Obj.keepBits (o : Obj) (v : Val) : Val :=
  match o, v with
  | .SCAN_ENTRY_n, .num n => .num (withoutBits n 0xF00)
  | .EV_ROUTE, .num n => .num (withoutBits (n % 65536) 0xE00)
  | .FRAME_STEP_n, .num n => .num (n / 16 * 16)
  | _, v => v

/-- The entry at an index and subindex (R438, R462 step 1). -/
def entryAt (index sub : Nat) : Except Err (ObjInfo × Nat) :=
  match objAt index sub with
  | some x => .ok x
  | none => .error (if objIndexDefined index then .noSubindex else .noObject)

/-- The role suffices, and no state of the hub bars the access (R441, R539, R542, R555; R462 step 2). -/
def State.roleStep (s : State) (w : Who) (r : ObjInfo) (write : Bool) : Option Err :=
  if w.role.rank < r.role.rank then some .role else s.barred w r.obj write

/-- Staging has room for a value of an entry (R444). -/
def State.stageRoom (s : State) (r : ObjInfo) (i n : Nat) : Bool :=
  match s.stagedValue ⟨r.obj, i⟩ with
  | some old => decide (s.stageBytes - (valBytes r.type old).length + n ≤ 65536)
  | none => decide (s.stagedCount < 4096) && decide (s.stageBytes + n ≤ 65536)

/-- Steps 1 to 8 of R462 for an item of a WRITE: the entry and the value, or the first error. -/
def State.checkWrite (s : State) (w : Who) (it : Item) : Except Err (ObjInfo × Nat × Val) :=
  match entryAt it.index it.sub with
  | .error e => .error e
  | .ok (r, i) =>
    match s.roleStep w r true with
    | some e => .error e
    | none =>
      if r.access = .ro then .error .readOnly
      else if it.type ≠ r.type.code then .error .typeMismatch
      else if !r.lengthOk it.value.length then .error .badLength
      else if r.shared && s.notActingFor w then .error .notActing
      else if r.access = .rws ∧ s.running = true then .error .running
      else if r.staged && s.engine.armed.isSome then .error .commitArmed
      else if r.staged && !s.stageRoom r i it.value.length then .error .stageFull
      else
        let v := r.type.decode it.value
        if s.inRange r v then .ok (r, i, v) else .error .outOfRange

/-! ### What a write does (R443, R462 step 9) -/

/-- A notice from its 16 bytes (R474). -/
def noticeOf (b : List Byte) : Notice :=
  { nseq := leNat (slice b 0 2), code := leNat (slice b 2 1), nflags := leNat (slice b 3 1), offset := leNat (slice b 4 4),
    length := leNat (slice b 8 4), param := leNat (slice b 12 4) }

/-- What the write of an object that acts at once brings with it: a new VT source (R52), the PTP port (R68), the keeper's clock
(R72), PPS_IN (R64), the direction of Data (R368), the journal mirror (R496) and the seal of a profile (R569). -/
def State.actOnWrite (s old : State) (o : Obj) : State :=
  match o with
  | .VT_SOURCE => if s.get .VT_SOURCE 0 = old.get .VT_SOURCE 0 then s else s.restartSource
  | .PTP_MODE => if s.get .PTP_MODE 0 = old.get .PTP_MODE 0 then s else s.ptpBegin
  | .KT_CLOCK_SEL => s.keeperClock
  | .PPS_OUT_MODE =>
    if s.get .PPS_OUT_MODE 0 = 0 then { s with time := { s.time with ppsOut := false } } else s.alignPps
  | .PPS_OUT_DELAY => s.alignPps
  | .PPS_IN_ENABLE => { s with time := { s.time with ppsSince := s.time.cycle, ppsRaised := false } }
  | .DIR_FORCE => s.chooseDir
  | .JRN_MIRROR => if s.get .JRN_MIRROR 0 = old.get .JRN_MIRROR 0 then s else s.startMirror
  | .ST_SEAL_PROFILE => if s.get .ST_SEAL_PROFILE 0 = old.get .ST_SEAL_PROFILE 0 then s else s.put .ST_SEALED 0 0
  | _ => s

/-- A value is staged in place of one already staged for its entry (R444). -/
def State.stage (s : State) (k : Key) (v : Val) : State :=
  { s with engine := { s.engine with staged := s.engine.staged.filter (fun x => x.1 != k) ++ [(k, v)] } }

/-- The write of an RW or RWS object without a row of its own: staged, or in effect at once (R443). PT_INCREMENT keeps the
range of R39 (R44). It is journalled first, with the value it replaces (R490, R494), and sent to the partner (R417). -/
def State.writePlain (s : State) (w : Who) (r : ObjInfo) (i : Nat) (v : Val) : Err × State :=
  let inc := match v with | .num n => decide (incLo ≤ n) && decide (n ≤ incHi) | _ => true
  if r.obj = .PT_INCREMENT && !inc then (.refused, s.raise 0x05)
  else if r.staged && !s.stageRoom r i (valBytes r.type v).length then (.stageFull, s)
  else
    let kept := r.obj.keepBits v
    let s := s.jrnWriteObj w r.obj i r.staged (if r.staged then s.stagedOf r i else s.valueOf r i) kept
    let s' := if r.staged then s.stage ⟨r.obj, i⟩ kept else (s.setValue r i kept).actOnWrite s r.obj
    (.ok, if r.shared && w.origin != .twin then s'.mirrorWrite r.obj i kept else s')

/-- QUEUE_CONTROL (R283, R284): bits [31:2] are reserved; with neither bit set nothing is done. -/
def State.queueControl (s : State) (w : Who) (q : Fin 16) (v : Nat) : Err × State :=
  if v.testBit 0 || v.testBit 1 then
    let a : Err × State := if v.testBit 0 then let (e, _, s) := s.ran (execQueueFlush w q s); (e, s) else (.ok, s)
    if a.1 = .ok && v.testBit 1 then let (e, _, s) := a.2.ran (execQueueDropRest w q a.2); (e, s) else a
  else
    let s := asCommand w .engineer .QUEUE_CONTROL q (.num v) (fun s => (.ok, s)) s
    (s.answer.err, s)

/-- INJECT (R345): the kind in [9:8], the number in [7:0]. -/
def execInject (w : Who) (l : Fin 5) (v : Nat) (s : State) : Host.Outcome State Fault Refusal :=
  match v / 256 with
  | 0 => execInjectLineBit w l (v % 256) s
  | 1 => execInjectHeaderBit w l (v % 256) s
  | 2 => execInjectStuff w l (v % 256) s
  | _ => execInjectPayloadBit w l (v % 256) s

/-- The meaning of the command or write that stands at an entry with a row of its own; none for the other entries. -/
def writeMeaning (w : Who) (o : Obj) (i : Nat) (v : Val) (s : State) : Option (Host.Outcome State Fault Refusal) :=
  let z : Int := match v with | .num n => n | _ => 0
  let n := z.toNat
  let b : List Byte := match v with | .bytes b => b | _ => []
  match o with
  | .VT_INCREMENT => some (execVtIncrementWrite w z s)
  | .VT_LOAD => some (execVtLoad w z s)
  | .VT_SLEW => some (execVtSlew w z s)
  | .PT_SLEW => some (execPtSlew w z s)
  | .SERVO_OWNER => some (execServoOwnerWrite w z s)
  | .VAT_EPOCH => some (execVatEpochWrite w z s)
  | .CLK_REF_SEL => some (execClkRefSelWrite w z s)
  | .FRAME_SOURCE => some (execFrameTableWrite w none n s)
  | .FRAME_STEP_n => some (execFrameTableWrite w (some (Fin.ofNat 256 i)) n s)
  | .CH_CALIBRATE => some (execChCalibrate w (Fin.ofNat 512 i) s)
  | .BANK_CAUSE_CLEAR => some (execBankCauseClear w (Fin.ofNat 32 i) n s)
  | .BANK_DELAY_CAL => some (execBankDelayCal w (Fin.ofNat 32 i) s)
  | .SCAN_HOLD => some (if n = 1 then execScanHold w (Fin.ofNat 32 i) s else execScanRelease w (Fin.ofNat 32 i) s)
  | .START => some (execTrierStart w (Fin.ofNat 4 i) s)
  | .INJ_REQUEST => some (execInjRequest w (Fin.ofNat 4 i) n s)
  | .CAL_START => some (execTrierCalStart w (Fin.ofNat 4 i) s)
  | .TRIER_CAUSE_CLEAR => some (execTrierCauseClear w (Fin.ofNat 4 i) n s)
  | .EXC_CAL => some (execExcCal w n s)
  | .COEF_SWAP => some (execCoefSwap w (Fin.ofNat 32 i) n s)
  | .LANE_CAUSE_CLEAR => some (execLaneCauseClear w (Fin.ofNat 32 i) n s)
  | .DCB_FREEZE => some (execDcbFreezeWrite w (Fin.ofNat 32 i) n s)
  | .TRIG_FORCE => some (execTrigForce w (Fin.ofNat 16 i) s)
  | .CAP_RELEASE => some (execCapRelease w (Fin.ofNat 16 i) s)
  | .UNIT_CAUSE_CLEAR => some (execUnitCauseClear w (Fin.ofNat 16 i) n s)
  | .HIST_CLOSE => some (execHistClose w (Fin.ofNat 16 i) s)
  | .PMAP_CLEAR => some (execPmapClear w (Fin.ofNat 4 i) s)
  | .PMAP_READOUT => some (execPmapReadout w (Fin.ofNat 4 i) s)
  | .PRESS_CAUSE_CLEAR => some (execPressCauseClear w n s)
  | .STREAM_ACK => some (execStreamAck w (Fin.ofNat 16 i) n s)
  | .QC_CAUSE_CLEAR => some (execQcCauseClear w n s)
  | .CAVE_DISCARD => some (execCaveDiscard w s)
  | .MARK_SET => some (execMarkSet w (Fin.ofNat 16 i) n s)
  | .MARK_CLEAR => some (execMarkClear w (Fin.ofNat 16 i) s)
  | .REPLAY_START => some (execReplayStart w s)
  | .REPLAY_STOP => some (execReplayStop w s)
  | .LANE_TEST => some (if n = 1 then execLaneTestEnter w (Fin.ofNat 5 i) s else execLaneTestLeave w (Fin.ofNat 5 i) s)
  | .INJECT => some (execInject w (Fin.ofNat 5 i) n s)
  | .LN_CAUSE_CLEAR => some (execLnCauseClear w n s)
  | .PORT_POWER => some (
      if n = 0 then execPortActiveRequest w (Fin.ofNat 3 i) s
      else if n = 1 then execPortHushRequest w (Fin.ofNat 3 i) s else execPortRestRequest w (Fin.ofNat 3 i) s)
  | .RL_CAUSE_CLEAR => some (execRlCauseClear w n s)
  | .RT_FAULT_CLEAR => some (execRtFaultClear w n s)
  | .ASYM_CORR => some (execAsymCorrWrite w (Fin.ofNat 3 i) z s)
  | .TWIN_SWITCH => some (execTwinSwitch w n s)
  | .TWIN_CAUSE_CLEAR => some (execTwinCauseClear w n s)
  | .COMMIT_NOW => some (execCommitNow w n s)
  | .COMMIT_ARM => some (execCommitArm w (leNat (slice b 0 8)) (leNat (slice b 8 4)) s)
  | .COMMIT_CANCEL => some (execCommitCancel w n s)
  | .STAGE_DISCARD => some (execStageDiscard w s)
  | .RESTORE_DEFAULTS => some (execRestoreDefaults w s)
  | .CFG_SAVE => some (execCfgSave w s)
  | .LOCK_RELEASE => some (execLockRelease w (Fin.ofNat 32 n) s)
  | .LOCK_FORCE => some (execLockForce w (Fin.ofNat 32 n) s)
  | .MBX_OPEN => some (execMbxOpen w (Fin.ofNat 8 i) n s)
  | .MBX_CLOSE => some (execMbxClose w (Fin.ofNat 8 i) s)
  | .MBX_POST => some (execMbxPost w (Fin.ofNat 8 i) (noticeOf b) s)
  | .MBX_ACK_RX => some (execMbxAckRx w (Fin.ofNat 8 i) n s)
  | .MBX_EMPTY_ARM => some (execMbxEmptyArm w (Fin.ofNat 8 i) s)
  | .MBX_TX_DATA => some (execMbxTxData w (Fin.ofNat 8 i) (leNat (slice b 0 4)) (b.drop 4) s)
  | .MJ_CAUSE_CLEAR => some (execMjCauseClear w n s)
  | .JRN_HOST_MARK => some (execJrnHostMarkWrite w n s)
  | .EV_ACK => some (execEvAck w (Fin.ofNat 256 i) s)
  | .EV_ACK_MAP => some (execEvAckMap w b s)
  | .FENCE_SET => some (execFenceSet w (Fin.ofNat 10 i) n s)
  | .FENCE_LIFT => some (execFenceLift w (Fin.ofNat 10 i) n s)
  | .FI_CAUSE_CLEAR => some (execFiCauseClear w n s)
  | .SEC_CLOSE => some (execSecClose w s)
  | .SEC_RECLOSE => some (execSecReclose w s)
  | .SEC_REVOKE => some (execSecRevoke w n s)
  | .REOPEN_PASSWORD => some (execReopenPassword w b s)
  | .REOPEN_RESPONSE => some (execReopenResponse w b s)
  | .PASSWORD_SET => some (execPasswordSet w b s)
  | .SEC_CAUSE_CLEAR => some (execSecCauseClear w n s)
  | .FW_KEY_REVOKE => some (execFwKeyRevoke w n s)
  | .FW_STAGE => some (execFwStage w b s)
  | .FW_VERIFY => some (execFwVerify w s)
  | .FW_ACTIVATE => some (if n = 1 then execFwActivateNow w s else execFwActivateNextStart w s)
  | .FW_CONFIRM => some (execFwConfirm w s)
  | .DEBUG_SET => some (execDebugSet w n s)
  | .PWR_REQUEST => some (
      match n with
      | 0 => execPwrRequestRun w s
      | 1 => execPwrRequestDim w s
      | 2 => execPwrRequestVigil w s
      | 3 => execPwrRequestOff w s
      | _ => execPwrRequestOffDataLoss w s)
  | .PW_CAUSE_CLEAR => some (execPwCauseClear w n s)
  | .ST_RUN => some (if n = 1 then execStRunQuick w s else execStRunFull w s)
  | .ST_STOP => some (execStStop w s)
  | .ST_CAUSE_CLEAR => some (execStCauseClear w n s)
  | .REPAIR_ACCEPT => some (execRepairAccept w s)
  | .REPAIR_CLEAR => some (execRepairClear w n s)
  | .REPAIR_FUSE => some (execRepairFuse w n s)
  | .ACQ_START => some (execAcqStart w s)
  | .ACQ_STOP => some (execAcqStop w s)
  | .VAT_LEAVE => some (execVatLeave w s)
  | .VAT_REJOIN => some (execVatRejoin w s)
  | .SERVICE_PHASE_SET => some (if n = 1 then execServicePhaseNormal w s else execServicePhaseTest w s)
  | _ => none

/-- Step 9 of R462: the write of an entry that has passed the other steps. -/
def State.applyWrite (s : State) (w : Who) (r : ObjInfo) (i : Nat) (v : Val) : Err × State :=
  if r.obj = .QUEUE_CONTROL then s.queueControl w (Fin.ofNat 16 i) (match v with | .num n => n.toNat | _ => 0)
  else match writeMeaning w r.obj i v s with
    | some x => let (e, _, s) := s.ran x; (e, s)
    | none => s.writePlain w r i v

/-- DICT_WRITE (R462): the write of one entry, its type code and its bytes. -/
def execDictWrite (w : Who) (index sub type : Nat) (value : List Byte) (s : State) : Host.Outcome State Fault Refusal :=
  if !s.served then .next s
  else match s.checkWrite w ⟨index, sub, type, value⟩ with
    | .error e => .next (s.reply e)
    | .ok (r, i, v) => let (e, s) := s.applyWrite w r i v; .next (s.reply e)

end Sys2Proof.Machine
end

