-- ==== Sys2Proof/Machine/Names.lean ====
section
/-! DEFINITION. The names of the objects as the dictionary gives them in a DESCRIBE (R461). -/

namespace Sys2Proof.Machine

/-- NAME of an object (R461). -/
def Obj.name (o : Obj) : String :=
  match o with
  | .PART_NUMBER => "PART_NUMBER"
  | .STEPPING => "STEPPING"
  | .VARIANT => "VARIANT"
  | .FRAME_STATE => "FRAME_STATE"
  | .FRAME_END_STEP => "FRAME_END_STEP"
  | .FRAME_TICK => "FRAME_TICK"
  | .FRAME_SOURCE => "FRAME_SOURCE"
  | .FRAME_BAD_STEP => "FRAME_BAD_STEP"
  | .FRAME_STEP_n => "FRAME_STEP_n"
  | .VT_NOW => "VT_NOW"
  | .VT_STATE => "VT_STATE"
  | .VT_SOURCE => "VT_SOURCE"
  | .VT_INCREMENT => "VT_INCREMENT"
  | .SERVO_OWNER => "SERVO_OWNER"
  | .STEP_THRESHOLD => "STEP_THRESHOLD"
  | .VT_LOAD => "VT_LOAD"
  | .VT_SLEW => "VT_SLEW"
  | .SLEW_REMAINING => "SLEW_REMAINING"
  | .SLEW_RATE => "SLEW_RATE"
  | .PHASE_ERROR => "PHASE_ERROR"
  | .LOCK_WINDOW => "LOCK_WINDOW"
  | .QUALIFY_COUNT => "QUALIFY_COUNT"
  | .HOLDOVER_AVG => "HOLDOVER_AVG"
  | .HOLD_INCREMENT => "HOLD_INCREMENT"
  | .HOLDOVER_LIMIT => "HOLDOVER_LIMIT"
  | .TIMEOUT_RING => "TIMEOUT_RING"
  | .TIMEOUT_PT => "TIMEOUT_PT"
  | .TIMEOUT_PPS => "TIMEOUT_PPS"
  | .HOLDOVER_TIME => "HOLDOVER_TIME"
  | .VAT_EPOCH => "VAT_EPOCH"
  | .GRID_INDEX => "GRID_INDEX"
  | .GRID_INSTANT => "GRID_INSTANT"
  | .MODCLK_STATE => "MODCLK_STATE"
  | .MODCLK_PHASE => "MODCLK_PHASE"
  | .MODCLK_UNLOCKS => "MODCLK_UNLOCKS"
  | .PT_NOW => "PT_NOW"
  | .PT_STATE => "PT_STATE"
  | .PT_INCREMENT => "PT_INCREMENT"
  | .PT_SLEW => "PT_SLEW"
  | .VT_PT_OFFSET => "VT_PT_OFFSET"
  | .PT_SLEW_REMAINING => "PT_SLEW_REMAINING"
  | .KT_NOW => "KT_NOW"
  | .KT_CLOCK => "KT_CLOCK"
  | .KT_CLOCK_SEL => "KT_CLOCK_SEL"
  | .CLK_REF_SEL => "CLK_REF_SEL"
  | .CLK10_PRESENT => "CLK10_PRESENT"
  | .PPS_IN_ENABLE => "PPS_IN_ENABLE"
  | .PPS_IN_EDGE => "PPS_IN_EDGE"
  | .PPS_IN_DELAY => "PPS_IN_DELAY"
  | .PPS_IN_LAST => "PPS_IN_LAST"
  | .PPS_OUT_MODE => "PPS_OUT_MODE"
  | .PPS_OUT_WIDTH => "PPS_OUT_WIDTH"
  | .PPS_OUT_DELAY => "PPS_OUT_DELAY"
  | .CLK_REF_ACTIVE => "CLK_REF_ACTIVE"
  | .PTP_MODE => "PTP_MODE"
  | .PTP_DOMAIN => "PTP_DOMAIN"
  | .PTP_TRANSPORT => "PTP_TRANSPORT"
  | .PTP_DELAY_MECH => "PTP_DELAY_MECH"
  | .PTP_ONE_STEP => "PTP_ONE_STEP"
  | .PTP_LOG_SYNC => "PTP_LOG_SYNC"
  | .PTP_LOG_ANNOUNCE => "PTP_LOG_ANNOUNCE"
  | .PTP_ANNOUNCE_TIMEOUT => "PTP_ANNOUNCE_TIMEOUT"
  | .PTP_LOG_DELAY_REQ => "PTP_LOG_DELAY_REQ"
  | .PTP_PRIORITY1 => "PTP_PRIORITY1"
  | .PTP_PRIORITY2 => "PTP_PRIORITY2"
  | .PTP_PORT_STATE => "PTP_PORT_STATE"
  | .PTP_GM_IDENTITY => "PTP_GM_IDENTITY"
  | .PTP_MEAN_DELAY => "PTP_MEAN_DELAY"
  | .PTP_OFFSET => "PTP_OFFSET"
  | .PHY_TX_LATENCY => "PHY_TX_LATENCY"
  | .PHY_RX_LATENCY => "PHY_RX_LATENCY"
  | .CH_MODE => "CH_MODE"
  | .CH_RANGE => "CH_RANGE"
  | .CH_EXC => "CH_EXC"
  | .BURNOUT => "BURNOUT"
  | .CAL_OFFSET => "CAL_OFFSET"
  | .CAL_GAIN => "CAL_GAIN"
  | .GROUP_DELAY => "GROUP_DELAY"
  | .SPARE_OFFSET => "SPARE_OFFSET"
  | .SPARE_GAIN => "SPARE_GAIN"
  | .SPARE_DELAY => "SPARE_DELAY"
  | .CH_PRESENCE => "CH_PRESENCE"
  | .CH_WIRE_FAULT => "CH_WIRE_FAULT"
  | .CH_ABSENT_COUNT => "CH_ABSENT_COUNT"
  | .CH_FAULT_COUNT => "CH_FAULT_COUNT"
  | .CH_SERVED_BY => "CH_SERVED_BY"
  | .CH_CALIBRATE => "CH_CALIBRATE"
  | .LEAD_OFFSET => "LEAD_OFFSET"
  | .BANK_ENABLE => "BANK_ENABLE"
  | .GUARD_MODE => "GUARD_MODE"
  | .GUARD_SOURCE => "GUARD_SOURCE"
  | .COMP_LINK_STATE => "COMP_LINK_STATE"
  | .COMP_STATUS => "COMP_STATUS"
  | .COMP_LOOP_FAULT => "COMP_LOOP_FAULT"
  | .COMP_ERRORS => "COMP_ERRORS"
  | .COMP_VERSION => "COMP_VERSION"
  | .COMP_LOOP_POWER => "COMP_LOOP_POWER"
  | .BANK_CAUSE => "BANK_CAUSE"
  | .BANK_CAUSE_CLEAR => "BANK_CAUSE_CLEAR"
  | .SHADOW_ENABLE => "SHADOW_ENABLE"
  | .SHADOW_DWELL => "SHADOW_DWELL"
  | .SHADOW_MEAN_LIMIT => "SHADOW_MEAN_LIMIT"
  | .SHADOW_RMS_LIMIT => "SHADOW_RMS_LIMIT"
  | .SHADOW_LAST => "SHADOW_LAST"
  | .SHADOW_MISMATCHES => "SHADOW_MISMATCHES"
  | .SHADOW_SKIPS => "SHADOW_SKIPS"
  | .SHADOW_UNRESOLVED => "SHADOW_UNRESOLVED"
  | .SPARE_STATE => "SPARE_STATE"
  | .SPARE_CHANNEL => "SPARE_CHANNEL"
  | .TAKEOVER_FADE => "TAKEOVER_FADE"
  | .ARB_LIMIT => "ARB_LIMIT"
  | .OPEN_LIMIT => "OPEN_LIMIT"
  | .SHORT_LIMIT => "SHORT_LIMIT"
  | .LOOP_ABSENT_LIMIT => "LOOP_ABSENT_LIMIT"
  | .REV_LIMIT => "REV_LIMIT"
  | .REQUAL_TICKS => "REQUAL_TICKS"
  | .CJC_ENTRY => "CJC_ENTRY"
  | .CJC_TABLE => "CJC_TABLE"
  | .BANK_DELAY_CAL => "BANK_DELAY_CAL"
  | .COMP_FAULT_LATCH => "COMP_FAULT_LATCH"
  | .SCAN_LENGTH => "SCAN_LENGTH"
  | .SCAN_STATE => "SCAN_STATE"
  | .SCAN_ENTRY => "SCAN_ENTRY"
  | .SCAN_EXECUTION => "SCAN_EXECUTION"
  | .SCAN_PASS => "SCAN_PASS"
  | .SCAN_PASS_TICKS => "SCAN_PASS_TICKS"
  | .SCAN_START => "SCAN_START"
  | .EXC_SETTLE => "EXC_SETTLE"
  | .LOOP_SETTLE => "LOOP_SETTLE"
  | .SCAN_HOLD => "SCAN_HOLD"
  | .SCAN_BAD_ENTRY => "SCAN_BAD_ENTRY"
  | .SCAN_INCONCLUSIVE => "SCAN_INCONCLUSIVE"
  | .SCAN_TESTS => "SCAN_TESTS"
  | .SCAN_ENTRY_n => "SCAN_ENTRY_n"
  | .LEAD_EST_i => "LEAD_EST_i"
  | .WHEY_COUNT_i => "WHEY_COUNT_i"
  | .TRIER_MODE => "TRIER_MODE"
  | .TRIER_STATE => "TRIER_STATE"
  | .SEQ_LENGTH => "SEQ_LENGTH"
  | .TRIER_CAD => "TRIER_CAD"
  | .TRIG_DELAY => "TRIG_DELAY"
  | .START => "START"
  | .ABORT_LIMIT => "ABORT_LIMIT"
  | .STALE_TICKS => "STALE_TICKS"
  | .PASS_COUNT => "PASS_COUNT"
  | .PASS_SKIPS => "PASS_SKIPS"
  | .ABORTS => "ABORTS"
  | .INJ_REQUEST => "INJ_REQUEST"
  | .INJ_RESULT => "INJ_RESULT"
  | .INJ_REFUSED => "INJ_REFUSED"
  | .CAL_START => "CAL_START"
  | .CAL_STATE => "CAL_STATE"
  | .TRIER_CAL_OFFSET => "CAL_OFFSET"
  | .TRIER_CAL_GAIN => "CAL_GAIN"
  | .LIN_GAIN => "LIN_GAIN"
  | .LIN_OFFSET => "LIN_OFFSET"
  | .TRIER_QUEUE => "TRIER_QUEUE"
  | .PASS_GRID => "PASS_GRID"
  | .TRIER_CAUSE => "TRIER_CAUSE"
  | .TRIER_CAUSE_CLEAR => "TRIER_CAUSE_CLEAR"
  | .SEQ_BAD_ENTRY => "SEQ_BAD_ENTRY"
  | .SEQ_ENTRY_n => "SEQ_ENTRY_n"
  | .WINDOW_n => "WINDOW_n"
  | .RESULT_n => "RESULT_n"
  | .SIMUL_MASK => "SIMUL_MASK"
  | .EXC_CAL => "EXC_CAL"
  | .EXC_CAL_TRIER => "EXC_CAL_TRIER"
  | .EXC_CAL_STATUS => "EXC_CAL_STATUS"
  | .COEF_ACTIVE => "COEF_ACTIVE"
  | .COEF_IN_USE => "COEF_IN_USE"
  | .COEF_SWAP => "COEF_SWAP"
  | .COEF_STATE => "COEF_STATE"
  | .COEF_PENDING => "COEF_PENDING"
  | .COEF_FADE => "COEF_FADE"
  | .SWAP_COUNT => "SWAP_COUNT"
  | .SWAP_DEFERRED => "SWAP_DEFERRED"
  | .SWAP_REPLACED => "SWAP_REPLACED"
  | .NOTCH_MODE => "NOTCH_MODE"
  | .DCB_ENABLE => "DCB_ENABLE"
  | .DCB_FREEZE => "DCB_FREEZE"
  | .DCB_AUTO_FREEZE => "DCB_AUTO_FREEZE"
  | .LANE_TRIM => "LANE_TRIM"
  | .RESIDUE_ERRORS => "RESIDUE_ERRORS"
  | .COEF_PARITY_ERRORS => "COEF_PARITY_ERRORS"
  | .DRAINS_ABANDONED => "DRAINS_ABANDONED"
  | .LANE_CAUSE => "LANE_CAUSE"
  | .LANE_CAUSE_CLEAR => "LANE_CAUSE_CLEAR"
  | .PRIME_END => "PRIME_END"
  | .PRESET_i => "PRESET_i"
  | .DCB_SHIFT_i => "DCB_SHIFT_i"
  | .DCB_ESTIMATE_i => "DCB_ESTIMATE_i"
  | .CLIP_COUNT_i => "CLIP_COUNT_i"
  | .FD_MU_i => "FD_MU_i"
  | .FD_MU_SPARE => "FD_MU_SPARE"
  | .COEF_p => "COEF_p"
  | .COEF_CRC => "COEF_CRC"
  | .COEF_LABEL => "COEF_LABEL"
  | .RESIDUE_LIMIT => "RESIDUE_LIMIT"
  | .PRIME_SAMPLES => "PRIME_SAMPLES"
  | .TRIG_COND => "TRIG_COND"
  | .TRIG_SOURCE => "TRIG_SOURCE"
  | .TRIG_EDGE => "TRIG_EDGE"
  | .LEVEL_A => "LEVEL_A"
  | .LEVEL_B => "LEVEL_B"
  | .HYST => "HYST"
  | .TIME_A => "TIME_A"
  | .TIME_B => "TIME_B"
  | .PW_QUAL => "PW_QUAL"
  | .SLEW_LIMIT => "SLEW_LIMIT"
  | .BCAST_OUT => "BCAST_OUT"
  | .BCAST_IN => "BCAST_IN"
  | .CAP_REGION => "CAP_REGION"
  | .CAP_FIRST => "CAP_FIRST"
  | .CAP_COUNT => "CAP_COUNT"
  | .CAP_PRE => "CAP_PRE"
  | .CAP_POST => "CAP_POST"
  | .CAP_MODE => "CAP_MODE"
  | .CAP_KEEP => "CAP_KEEP"
  | .CAP_QUEUE => "CAP_QUEUE"
  | .REARM_SAMPLES => "REARM_SAMPLES"
  | .CAP_HIST => "CAP_HIST"
  | .CAP_PMAP => "CAP_PMAP"
  | .CAP_STAT_INPUT => "CAP_STAT_INPUT"
  | .UNIT_STATE => "UNIT_STATE"
  | .CAP_MODE_NOW => "CAP_MODE_NOW"
  | .TRIG_FORCE => "TRIG_FORCE"
  | .CAP_RELEASE => "CAP_RELEASE"
  | .FIRE_COUNT => "FIRE_COUNT"
  | .ACCEPT_COUNT => "ACCEPT_COUNT"
  | .EARLY_COUNT => "EARLY_COUNT"
  | .REARM_COUNT => "REARM_COUNT"
  | .LATE_COUNT => "LATE_COUNT"
  | .SKIP_COUNT => "SKIP_COUNT"
  | .LOST_COUNT => "LOST_COUNT"
  | .LAST_TRIGGER => "LAST_TRIGGER"
  | .CAP_HEADER => "CAP_HEADER"
  | .UNIT_CAUSE => "UNIT_CAUSE"
  | .UNIT_CAUSE_CLEAR => "UNIT_CAUSE_CLEAR"
  | .UNIT_BAD_FIELD => "UNIT_BAD_FIELD"
  | .CAP_HELD => "CAP_HELD"
  | .AVG_N => "AVG_N"
  | .AVG_MIN_USED => "AVG_MIN_USED"
  | .STAT_N => "STAT_N"
  | .ALIGN => "ALIGN"
  | .BLOCKS => "BLOCKS"
  | .BLOCKS_VERBATIM => "BLOCKS_VERBATIM"
  | .BITS_IN => "BITS_IN"
  | .BITS_OUT => "BITS_OUT"
  | .VERIFY_FAILS => "VERIFY_FAILS"
  | .STREAM_DROPPED => "STREAM_DROPPED"
  | .AVG_SHORT => "AVG_SHORT"
  | .OUT_SEL_i => "OUT_SEL_i"
  | .RIPEN_FLOOR_i => "RIPEN_FLOOR_i"
  | .RIPENED_i => "RIPENED_i"
  | .HIST_ENABLE => "HIST_ENABLE"
  | .HIST_SOURCE => "HIST_SOURCE"
  | .HIST_BASE => "HIST_BASE"
  | .HIST_SHIFT => "HIST_SHIFT"
  | .HIST_WINDOW => "HIST_WINDOW"
  | .HIST_EMIT => "HIST_EMIT"
  | .HIST_CLOSE => "HIST_CLOSE"
  | .HIST_STATE => "HIST_STATE"
  | .HIST_FROM => "HIST_FROM"
  | .HIST_TO => "HIST_TO"
  | .HIST_UNDER => "HIST_UNDER"
  | .HIST_OVER => "HIST_OVER"
  | .HIST_EXCLUDED => "HIST_EXCLUDED"
  | .HIST_BINS => "HIST_BINS"
  | .HIST_CLOSES => "HIST_CLOSES"
  | .PMAP_STATE => "PMAP_STATE"
  | .PMAP_CLEAR => "PMAP_CLEAR"
  | .PMAP_READOUT => "PMAP_READOUT"
  | .PMAP_CAPTURES => "PMAP_CAPTURES"
  | .PMAP_MAX => "PMAP_MAX"
  | .PMAP_PENDING => "PMAP_PENDING"
  | .RIPEN_STATE => "RIPEN_STATE"
  | .RIPEN_SEGMENT => "RIPEN_SEGMENT"
  | .RIPEN_PENDING => "RIPEN_PENDING"
  | .RIPEN_DONE => "RIPEN_DONE"
  | .RIPEN_BEHIND => "RIPEN_BEHIND"
  | .RIPEN_ABANDONED => "RIPEN_ABANDONED"
  | .STREAM_QUEUE => "STREAM_QUEUE"
  | .REDUCED_QUEUE => "REDUCED_QUEUE"
  | .STAT_QUEUE => "STAT_QUEUE"
  | .VERIFY_LIMIT => "VERIFY_LIMIT"
  | .PRESS_CAUSE => "PRESS_CAUSE"
  | .PRESS_CAUSE_CLEAR => "PRESS_CAUSE_CLEAR"
  | .PRESS_BAD_FIELD => "PRESS_BAD_FIELD"
  | .BUFFER_HIGH => "BUFFER_HIGH"
  | .REDUCED_DROPPED => "REDUCED_DROPPED"
  | .QUEUE_DEPTH => "QUEUE_DEPTH"
  | .QUEUE_FRAMING => "QUEUE_FRAMING"
  | .QUEUE_DRAIN => "QUEUE_DRAIN"
  | .QUEUE_E2E => "QUEUE_E2E"
  | .QUEUE_CONTROL => "QUEUE_CONTROL"
  | .QUEUE_FILL => "QUEUE_FILL"
  | .QUEUE_PACKETS => "QUEUE_PACKETS"
  | .QUEUE_STATUS => "QUEUE_STATUS"
  | .QUEUE_HIGH_WATER => "QUEUE_HIGH_WATER"
  | .QUEUE_SEQ => "QUEUE_SEQ"
  | .QUEUE_READ => "QUEUE_READ"
  | .QUEUE_READ_WAIT => "QUEUE_READ_WAIT"
  | .STREAM_ACK => "STREAM_ACK"
  | .ACKED_SEQ => "ACKED_SEQ"
  | .FLUSHED_PACKETS => "FLUSHED_PACKETS"
  | .DROPPED_WORDS => "DROPPED_WORDS"
  | .FENCED_DROPS => "FENCED_DROPS"
  | .MAX_FILL => "MAX_FILL"
  | .QC_CAUSE => "QC_CAUSE"
  | .QC_CAUSE_CLEAR => "QC_CAUSE_CLEAR"
  | .LOSS_SEQ => "LOSS_SEQ"
  | .CAVE_STATE => "CAVE_STATE"
  | .CAVE_FITTED => "CAVE_FITTED"
  | .STREAM_SEGMENTS => "STREAM_SEGMENTS"
  | .REGION_MIB => "REGION_MIB"
  | .SPARE_MIB => "SPARE_MIB"
  | .LAYOUT_BAD => "LAYOUT_BAD"
  | .CAVE_DISCARD => "CAVE_DISCARD"
  | .ECC_CORRECTED => "ECC_CORRECTED"
  | .ECC_UNCORRECTABLE => "ECC_UNCORRECTABLE"
  | .SCRUB_HOURS => "SCRUB_HOURS"
  | .PCRC_FAILS => "PCRC_FAILS"
  | .OVERFLOW_POLICY => "OVERFLOW_POLICY"
  | .RESERVE_SEGMENTS => "RESERVE_SEGMENTS"
  | .RIPEN_LOW_WATER => "RIPEN_LOW_WATER"
  | .SEG_FREE => "SEG_FREE"
  | .SEG_ACKED => "SEG_ACKED"
  | .SEG_HELD => "SEG_HELD"
  | .UNACKED_BYTES => "UNACKED_BYTES"
  | .OLDEST_INDEX => "OLDEST_INDEX"
  | .WRITE_BYTES => "WRITE_BYTES"
  | .LOST_RECLAIMED => "LOST_RECLAIMED"
  | .LOST_PRESS => "LOST_PRESS"
  | .LOST_FENCE => "LOST_FENCE"
  | .LOST_UNREADABLE => "LOST_UNREADABLE"
  | .LOST_DISCARD => "LOST_DISCARD"
  | .RIPEN_REQUESTS => "RIPEN_REQUESTS"
  | .LOST_WITHDRAWN => "LOST_WITHDRAWN"
  | .MARK_SET => "MARK_SET"
  | .MARK_INDEX => "MARK_INDEX"
  | .MARK_STATE => "MARK_STATE"
  | .MARK_OVERTAKEN => "MARK_OVERTAKEN"
  | .MARK_CLEAR => "MARK_CLEAR"
  | .MARK_RIPE => "MARK_RIPE"
  | .REPLAY_FROM => "REPLAY_FROM"
  | .REPLAY_MARK => "REPLAY_MARK"
  | .REPLAY_TO => "REPLAY_TO"
  | .REPLAY_DEST => "REPLAY_DEST"
  | .REPLAY_QUEUES => "REPLAY_QUEUES"
  | .REPLAY_START => "REPLAY_START"
  | .REPLAY_STOP => "REPLAY_STOP"
  | .REPLAY_STATE => "REPLAY_STATE"
  | .REPLAY_PACKETS => "REPLAY_PACKETS"
  | .REPLAY_SKIPPED_TICKS => "REPLAY_SKIPPED_TICKS"
  | .REGION_OFFSET => "REGION_OFFSET"
  | .REGION_DATA => "REGION_DATA"
  | .LOST_i => "LOST_i"
  | .LANE_ENABLE => "LANE_ENABLE"
  | .LANE_STATE => "LANE_STATE"
  | .RX_INVERTED => "RX_INVERTED"
  | .RX_PHYS => "RX_PHYS"
  | .FAR_ID => "FAR_ID"
  | .FAR_VERSION => "FAR_VERSION"
  | .TX_SWING => "TX_SWING"
  | .TX_DEEMPH => "TX_DEEMPH"
  | .TX_PRE => "TX_PRE"
  | .RX_ADAPT_STATE => "RX_ADAPT_STATE"
  | .RX_CTLE => "RX_CTLE"
  | .RX_DFE => "RX_DFE"
  | .HEADER_ERRORS => "HEADER_ERRORS"
  | .BSN_ERRORS => "BSN_ERRORS"
  | .STUFF_ERRORS => "STUFF_ERRORS"
  | .STUFF_BITS => "STUFF_BITS"
  | .LOCK_LOSSES => "LOCK_LOSSES"
  | .RETRIES => "RETRIES"
  | .SKEW => "SKEW"
  | .BRINGUP_TIME => "BRINGUP_TIME"
  | .PAT_MODE => "PAT_MODE"
  | .PAT_USER => "PAT_USER"
  | .PAT_ERRORS => "PAT_ERRORS"
  | .PAT_BITS => "PAT_BITS"
  | .PAT_SYNC => "PAT_SYNC"
  | .LANE_TEST => "LANE_TEST"
  | .INJECT => "INJECT"
  | .INJECTED => "INJECTED"
  | .PORT_STATE => "PORT_STATE"
  | .PORT_POWER => "PORT_POWER"
  | .PORT_LANES => "PORT_LANES"
  | .PORT_REVERSED => "PORT_REVERSED"
  | .PORT_WAIT => "PORT_WAIT"
  | .BRINGUP_LIMIT => "BRINGUP_LIMIT"
  | .FAULT_CODE => "FAULT_CODE"
  | .DROPS => "DROPS"
  | .PORT_CHANGED => "PORT_CHANGED"
  | .REFCLK_PRESENT => "REFCLK_PRESENT"
  | .REFCLK_PPM => "REFCLK_PPM"
  | .LN_CAUSE => "LN_CAUSE"
  | .LN_CAUSE_CLEAR => "LN_CAUSE_CLEAR"
  | .LINK_STATE => "LINK_STATE"
  | .LINK_FAIL_CAUSE => "LINK_FAIL_CAUSE"
  | .BCRC_ERRORS => "BCRC_ERRORS"
  | .FCRC_ERRORS => "FCRC_ERRORS"
  | .FRAMES_STOMPED => "FRAMES_STOMPED"
  | .FRAMES_TX => "FRAMES_TX"
  | .FRAMES_RX => "FRAMES_RX"
  | .FRAMES_FORWARDED => "FRAMES_FORWARDED"
  | .TRANSIT_DROPS => "TRANSIT_DROPS"
  | .PAUSES_SENT => "PAUSES_SENT"
  | .PAUSES_RECEIVED => "PAUSES_RECEIVED"
  | .PAUSED => "PAUSED"
  | .WRAPPED_FRAMES => "WRAPPED_FRAMES"
  | .FAILURES => "FAILURES"
  | .LINK_ERR_LIMIT => "LINK_ERR_LIMIT"
  | .REJOIN_HOLD => "REJOIN_HOLD"
  | .TRANSIT_HIGH => "TRANSIT_HIGH"
  | .LINK_CHANGED => "LINK_CHANGED"
  | .RING_POSITION => "RING_POSITION"
  | .RING_SIZE => "RING_SIZE"
  | .HOPS_EAST => "HOPS_EAST"
  | .HOPS_WEST => "HOPS_WEST"
  | .DATA_DIR => "DATA_DIR"
  | .DIR_FORCE => "DIR_FORCE"
  | .SPLIT_MASK => "SPLIT_MASK"
  | .FAILED_LINKS => "FAILED_LINKS"
  | .BEACON_TIMEOUT => "BEACON_TIMEOUT"
  | .BEACON_SEQ => "BEACON_SEQ"
  | .ENDPOINT_ID => "ENDPOINT_ID"
  | .RING_VERSION => "RING_VERSION"
  | .RESEND_PENDING => "RESEND_PENDING"
  | .RESEND_REQUESTS => "RESEND_REQUESTS"
  | .RESEND_PACKETS => "RESEND_PACKETS"
  | .RESEND_GONE => "RESEND_GONE"
  | .HOPS_DISCARDS => "HOPS_DISCARDS"
  | .RL_CAUSE => "RL_CAUSE"
  | .RL_CAUSE_CLEAR => "RL_CAUSE_CLEAR"
  | .RT_ROLE => "RT_ROLE"
  | .RT_PRIORITY => "RT_PRIORITY"
  | .RT_GM => "RT_GM"
  | .RT_GM_HOLD => "RT_GM_HOLD"
  | .RT_PATHS => "RT_PATHS"
  | .RT_PATH_DIFF => "RT_PATH_DIFF"
  | .RT_DSUM_ERR => "RT_DSUM_ERR"
  | .RT_LOOP_E => "RT_LOOP_E"
  | .RT_LOOP_W => "RT_LOOP_W"
  | .RT_RING_ASYM => "RT_RING_ASYM"
  | .RT_FAULT => "RT_FAULT"
  | .RT_FAULT_CLEAR => "RT_FAULT_CLEAR"
  | .ASYM_LIMIT => "ASYM_LIMIT"
  | .DSUM_LIMIT => "DSUM_LIMIT"
  | .ASYM_CYCLES => "ASYM_CYCLES"
  | .ASYM_CLEAR => "ASYM_CLEAR"
  | .DELAY_STEP_LIMIT => "DELAY_STEP_LIMIT"
  | .GM_TIMEOUT => "GM_TIMEOUT"
  | .RT_OWN_OFFSET => "RT_OWN_OFFSET"
  | .RT_CANDIDATES => "RT_CANDIDATES"
  | .RT_SYNC_SEQ => "RT_SYNC_SEQ"
  | .DELAY_STATE => "DELAY_STATE"
  | .LINK_DELAY => "LINK_DELAY"
  | .LINK_DELAY_PREV => "LINK_DELAY_PREV"
  | .DELAY_RAW => "DELAY_RAW"
  | .DELAY_STEPS => "DELAY_STEPS"
  | .ASYM_CORR => "ASYM_CORR"
  | .TIMING_LANE => "TIMING_LANE"
  | .PORT_OFFSET => "PORT_OFFSET"
  | .SYNC_USED => "SYNC_USED"
  | .SYNC_UNUSABLE => "SYNC_UNUSABLE"
  | .DRESP_MISSED => "DRESP_MISSED"
  | .TWIN_ENABLE => "TWIN_ENABLE"
  | .TWIN_SIDE => "TWIN_SIDE"
  | .TWIN_PREFER => "TWIN_PREFER"
  | .WITNESS_ADDR => "WITNESS_ADDR"
  | .LEASE_TERM => "LEASE_TERM"
  | .HB_PERIOD => "HB_PERIOD"
  | .HB_TIMEOUT => "HB_TIMEOUT"
  | .WITNESS_RENEW => "WITNESS_RENEW"
  | .TWIN_STATE => "TWIN_STATE"
  | .PARTNER_STATE => "PARTNER_STATE"
  | .LEASE_SOURCE => "LEASE_SOURCE"
  | .LEASE_EXPIRY => "LEASE_EXPIRY"
  | .CLAIM_AT => "CLAIM_AT"
  | .TWIN_SWITCH => "TWIN_SWITCH"
  | .SWITCH_INDEX => "SWITCH_INDEX"
  | .SWITCH_COUNT => "SWITCH_COUNT"
  | .STANDDOWN_COUNT => "STANDDOWN_COUNT"
  | .HB_LOSSES => "HB_LOSSES"
  | .COMP_UNCONFIRMED => "COMP_UNCONFIRMED"
  | .TWIN_ADOPT => "TWIN_ADOPT"
  | .SYNC_REMAINING => "SYNC_REMAINING"
  | .HISTORY_GAP => "HISTORY_GAP"
  | .TWIN_TIME_LIMIT => "TWIN_TIME_LIMIT"
  | .TWIN_CAUSE => "TWIN_CAUSE"
  | .TWIN_CAUSE_CLEAR => "TWIN_CAUSE_CLEAR"
  | .TWIN_DIGEST => "TWIN_DIGEST"
  | .WIT_TWIN => "WIT_TWIN"
  | .WIT_HOLDER => "WIT_HOLDER"
  | .WIT_GRANT_END => "WIT_GRANT_END"
  | .WIT_GRANTS => "WIT_GRANTS"
  | .WIT_REFUSALS => "WIT_REFUSALS"
  | .WITNESS_ENABLE => "WITNESS_ENABLE"
  | .WIT_NO_SLOT => "WIT_NO_SLOT"
  | .STAGED_COUNT => "STAGED_COUNT"
  | .STAGED_DIGEST => "STAGED_DIGEST"
  | .CFG_DIGEST => "CFG_DIGEST"
  | .COMMIT_NOW => "COMMIT_NOW"
  | .COMMIT_ARM => "COMMIT_ARM"
  | .COMMIT_CANCEL => "COMMIT_CANCEL"
  | .STAGE_DISCARD => "STAGE_DISCARD"
  | .ARMED_INDEX => "ARMED_INDEX"
  | .ARMED_DIGEST => "ARMED_DIGEST"
  | .LAST_COMMIT_INDEX => "LAST_COMMIT_INDEX"
  | .COMMIT_COUNT => "COMMIT_COUNT"
  | .COMMIT_REFUSALS => "COMMIT_REFUSALS"
  | .STAGE_BYTES => "STAGE_BYTES"
  | .COMMIT_PARTS_REFUSED => "COMMIT_PARTS_REFUSED"
  | .RESTORE_DEFAULTS => "RESTORE_DEFAULTS"
  | .CFG_SAVE => "CFG_SAVE"
  | .CFG_SAVED_DIGEST => "CFG_SAVED_DIGEST"
  | .STAGED_DEFAULTS => "STAGED_DEFAULTS"
  | .ETH_MODE => "ETH_MODE"
  | .MAC_ADDRESS => "MAC_ADDRESS"
  | .IP_ADDRESS => "IP_ADDRESS"
  | .IP_NETMASK => "IP_NETMASK"
  | .IP_GATEWAY => "IP_GATEWAY"
  | .ACCESS_PORT => "ACCESS_PORT"
  | .ETH_LINK => "ETH_LINK"
  | .ETH_RX_DROPPED => "ETH_RX_DROPPED"
  | .SPI_ENABLE => "SPI_ENABLE"
  | .SPI_ERRORS => "SPI_ERRORS"
  | .SESSION_IDLE => "SESSION_IDLE"
  | .ACCESS_PATHS => "ACCESS_PATHS"
  | .SESSIONS_OPEN => "SESSIONS_OPEN"
  | .AUTH_FAILS => "AUTH_FAILS"
  | .SEQ_REJECTS => "SEQ_REJECTS"
  | .PATH_DROPS => "PATH_DROPS"
  | .MESSAGES => "MESSAGES"
  | .JRN_HEAD => "JRN_HEAD"
  | .JRN_OLDEST => "JRN_OLDEST"
  | .JRN_HOST_MARK => "JRN_HOST_MARK"
  | .JRN_ALERT => "JRN_ALERT"
  | .JRN_MIRROR => "JRN_MIRROR"
  | .JRN_MIRROR_STATE => "JRN_MIRROR_STATE"
  | .JRN_REPAIRED => "JRN_REPAIRED"
  | .JRN_FAULTS => "JRN_FAULTS"
  | .JRN_BOOTS => "JRN_BOOTS"
  | .STATE_SUMMARY => "STATE_SUMMARY"
  | .JRN_PAGE_p => "JRN_PAGE_p"
  | .LOCK_n => "LOCK_n"
  | .LOCK_RELEASE => "LOCK_RELEASE"
  | .LOCK_FORCE => "LOCK_FORCE"
  | .LOCK_TIMEOUT => "LOCK_TIMEOUT"
  | .LOCK_RENEW => "LOCK_RENEW"
  | .LOCK_EXPIRED => "LOCK_EXPIRED"
  | .LOCK_CONTESTED => "LOCK_CONTESTED"
  | .MBX_OPEN => "MBX_OPEN"
  | .MBX_CLOSE => "MBX_CLOSE"
  | .MBX_STATE => "MBX_STATE"
  | .MBX_OWNER => "MBX_OWNER"
  | .MBX_SERVICE => "MBX_SERVICE"
  | .MBX_POST => "MBX_POST"
  | .MBX_TAKE => "MBX_TAKE"
  | .MBX_ACK_RX => "MBX_ACK_RX"
  | .MBX_ACK_TX => "MBX_ACK_TX"
  | .MBX_EMPTY_ARM => "MBX_EMPTY_ARM"
  | .MBX_FILL => "MBX_FILL"
  | .MBX_TX_DATA => "MBX_TX_DATA"
  | .MBX_RX_DATA => "MBX_RX_DATA"
  | .MBX_POST_FULL => "MBX_POST_FULL"
  | .MBX_CROSSINGS => "MBX_CROSSINGS"
  | .MBX_ACK_LATE => "MBX_ACK_LATE"
  | .MBX_ACK_TIMEOUT => "MBX_ACK_TIMEOUT"
  | .MBX_CROSS_TIMEOUT => "MBX_CROSS_TIMEOUT"
  | .MJ_CAUSE => "MJ_CAUSE"
  | .MJ_CAUSE_CLEAR => "MJ_CAUSE_CLEAR"
  | .EV_ROUTE => "EV_ROUTE"
  | .EV_COUNT => "EV_COUNT"
  | .EV_LAST => "EV_LAST"
  | .EV_PENDING => "EV_PENDING"
  | .EV_ACK => "EV_ACK"
  | .EV_UNSENT => "EV_UNSENT"
  | .IRQ_STATE => "IRQ_STATE"
  | .EV_PENDING_MAP => "EV_PENDING_MAP"
  | .EV_ACK_MAP => "EV_ACK_MAP"
  | .IRQ_FIRST_k => "IRQ_FIRST_k"
  | .FENCED => "FENCED"
  | .FENCE_SET => "FENCE_SET"
  | .FENCE_LIFT => "FENCE_LIFT"
  | .FENCE_AUTO => "FENCE_AUTO"
  | .FENCE_ENTRIES => "FENCE_ENTRIES"
  | .FENCE_SUPPRESSED => "FENCE_SUPPRESSED"
  | .FENCE_LAST => "FENCE_LAST"
  | .FENCE_VALUE => "FENCE_VALUE"
  | .PARITY_LIMIT => "PARITY_LIMIT"
  | .BUS_PARITY_ERRORS => "BUS_PARITY_ERRORS"
  | .CURD_ECC_CORRECTED => "CURD_ECC_CORRECTED"
  | .CURD_ECC_UNCORRECTABLE => "CURD_ECC_UNCORRECTABLE"
  | .MRAM_ECC_CORRECTED => "MRAM_ECC_CORRECTED"
  | .MRAM_ECC_UNCORRECTABLE => "MRAM_ECC_UNCORRECTABLE"
  | .TRANSIT_ECC_CORRECTED => "TRANSIT_ECC_CORRECTED"
  | .TRANSIT_ECC_UNCORRECTABLE => "TRANSIT_ECC_UNCORRECTABLE"
  | .FI_CAUSE => "FI_CAUSE"
  | .FI_CAUSE_CLEAR => "FI_CAUSE_CLEAR"
  | .SEC_STATE => "SEC_STATE"
  | .SEC_CLOSE => "SEC_CLOSE"
  | .SEC_RECLOSE => "SEC_RECLOSE"
  | .SEC_REVOKE => "SEC_REVOKE"
  | .REOPEN_PASSWORD => "REOPEN_PASSWORD"
  | .REOPEN_CHALLENGE => "REOPEN_CHALLENGE"
  | .REOPEN_RESPONSE => "REOPEN_RESPONSE"
  | .REOPEN_REMAINING => "REOPEN_REMAINING"
  | .REOPEN_TERM => "REOPEN_TERM"
  | .PASSWORD_SET => "PASSWORD_SET"
  | .PASSWORD_FAILS => "PASSWORD_FAILS"
  | .PASSWORD_LOCKED_UNTIL => "PASSWORD_LOCKED_UNTIL"
  | .PROVE_FAILS => "PROVE_FAILS"
  | .SEC_CAUSE => "SEC_CAUSE"
  | .SEC_CAUSE_CLEAR => "SEC_CAUSE_CLEAR"
  | .ROLE_KEY_r => "ROLE_KEY_r"
  | .FW_KEY_HASH_k => "FW_KEY_HASH_k"
  | .FW_KEY_REVOKED => "FW_KEY_REVOKED"
  | .ROLLBACK_MIN => "ROLLBACK_MIN"
  | .DEVICE_PUB => "DEVICE_PUB"
  | .SERVICE_ROOT => "SERVICE_ROOT"
  | .FW_KEY_REVOKE => "FW_KEY_REVOKE"
  | .FW_RUNNING => "FW_RUNNING"
  | .FW_VERSION_A => "FW_VERSION_A"
  | .FW_VERSION_B => "FW_VERSION_B"
  | .FW_STATE => "FW_STATE"
  | .FW_STAGE => "FW_STAGE"
  | .FW_VERIFY => "FW_VERIFY"
  | .FW_ACTIVATE => "FW_ACTIVATE"
  | .FW_CONFIRM => "FW_CONFIRM"
  | .FW_TRIAL_TIME => "FW_TRIAL_TIME"
  | .FW_STAGE_SLOT => "FW_STAGE_SLOT"
  | .BOOT_NEXT => "BOOT_NEXT"
  | .DEBUG_SET => "DEBUG_SET"
  | .DEBUG_EFFECTIVE => "DEBUG_EFFECTIVE"
  | .DEBUG_HALTED => "DEBUG_HALTED"
  | .PWR_STATE => "PWR_STATE"
  | .PWR_REQUEST => "PWR_REQUEST"
  | .PWR_CHANGED => "PWR_CHANGED"
  | .PWR_DIE_TEMP => "PWR_DIE_TEMP"
  | .PW_CAUSE => "PW_CAUSE"
  | .PW_CAUSE_CLEAR => "PW_CAUSE_CLEAR"
  | .PWR_DIM_ENABLE => "PWR_DIM_ENABLE"
  | .PWR_DIM_BURST => "PWR_DIM_BURST"
  | .PWR_DIM_CAVE_HOLD => "PWR_DIM_CAVE_HOLD"
  | .PWR_CORE_GATE => "PWR_CORE_GATE"
  | .PWR_VIGIL_PORTS => "PWR_VIGIL_PORTS"
  | .PWR_VIGIL_CAVE => "PWR_VIGIL_CAVE"
  | .PWR_VIGIL_ETH => "PWR_VIGIL_ETH"
  | .PWR_VIGIL_TIME => "PWR_VIGIL_TIME"
  | .PWR_AUTO_VIGIL => "PWR_AUTO_VIGIL"
  | .PWR_AUTO_DELAY => "PWR_AUTO_DELAY"
  | .PWR_WAKE_MASK => "PWR_WAKE_MASK"
  | .PWR_WAKE_AT => "PWR_WAKE_AT"
  | .PWR_WAKE_STATE => "PWR_WAKE_STATE"
  | .PWR_HOT_LIMIT => "PWR_HOT_LIMIT"
  | .PWR_HOT_ACTION => "PWR_HOT_ACTION"
  | .ST_RUN => "ST_RUN"
  | .ST_STOP => "ST_STOP"
  | .ST_STATE => "ST_STATE"
  | .ST_ORIGIN => "ST_ORIGIN"
  | .ST_ITEM => "ST_ITEM"
  | .ST_SEAL_PROFILE => "ST_SEAL_PROFILE"
  | .ST_SEALED => "ST_SEALED"
  | .ST_SEAL_KT => "ST_SEAL_KT"
  | .ST_SEAL_VALID => "ST_SEAL_VALID"
  | .ST_AUTO_REPAIR => "ST_AUTO_REPAIR"
  | .ST_SAVE_PENDING => "ST_SAVE_PENDING"
  | .ST_EXC_FAILED => "ST_EXC_FAILED"
  | .ST_CAL_LOST => "ST_CAL_LOST"
  | .ST_CAUSE => "ST_CAUSE"
  | .ST_CAUSE_CLEAR => "ST_CAUSE_CLEAR"
  | .ST_RESULT_i => "ST_RESULT_i"
  | .ST_GOLDEN_i => "ST_GOLDEN_i"
  | .ST_FAILS_i => "ST_FAILS_i"
  | .ST_LAST_KT => "ST_LAST_KT"
  | .REPAIR_COUNT => "REPAIR_COUNT"
  | .REPAIR_PROPOSED => "REPAIR_PROPOSED"
  | .REPAIR_ACCEPT => "REPAIR_ACCEPT"
  | .REPAIR_CLEAR => "REPAIR_CLEAR"
  | .REPAIR_FUSE => "REPAIR_FUSE"
  | .FUSE_FREE => "FUSE_FREE"
  | .FUSE_MARGIN_FAILS => "FUSE_MARGIN_FAILS"
  | .SPARES_LEFT => "SPARES_LEFT"
  | .REPAIR_ENTRY_n => "REPAIR_ENTRY_n"
  | .FUSE_ENTRY_n => "FUSE_ENTRY_n"
  | .LIFE_HOURS => "LIFE_HOURS"
  | .LIFE_TJ_HIST => "LIFE_TJ_HIST"
  | .LIFE_CONSUMED => "LIFE_CONSUMED"
  | .VAT_ID => "VAT_ID"
  | .VAT_FW_WINDOW => "VAT_FW_WINDOW"
  | .VAT_SPLIT_CYCLES => "VAT_SPLIT_CYCLES"
  | .MEMBER_PERIOD => "MEMBER_PERIOD"
  | .AUTO_START => "AUTO_START"
  | .START_NEED_LOCK => "START_NEED_LOCK"
  | .START_LIMIT => "START_LIMIT"
  | .RECOVERY_TICKS => "RECOVERY_TICKS"
  | .ACQ_START => "ACQ_START"
  | .ACQ_STOP => "ACQ_STOP"
  | .VAT_LEAVE => "VAT_LEAVE"
  | .VAT_REJOIN => "VAT_REJOIN"
  | .SERVICE_PHASE_SET => "SERVICE_PHASE_SET"
  | .START_STATE => "START_STATE"
  | .RESET_CAUSE => "RESET_CAUSE"
  | .OFF_CAUSE => "OFF_CAUSE"
  | .START_REFUSAL => "START_REFUSAL"
  | .SERVICE_PHASE => "SERVICE_PHASE"
  | .START_QUALIFIED => "START_QUALIFIED"
  | .START_DONE_INDEX => "START_DONE_INDEX"
  | .BOOT_TIME => "BOOT_TIME"
  | .VAT_STATE => "VAT_STATE"
  | .VAT_DISAGREE => "VAT_DISAGREE"
  | .VAT_DIGEST => "VAT_DIGEST"
  | .VAT_REFERENCE => "VAT_REFERENCE"
  | .VAT_MEMBER_COUNT => "VAT_MEMBER_COUNT"
  | .VAT_MEMBERS => "VAT_MEMBERS"
  | .VAT_STATE_CHANGED => "VAT_STATE_CHANGED"

end Sys2Proof.Machine
end

