-- ==== Sys2Proof/Machine/Access.lean ====
section
/-! DEFINITION. Access messages (14_object_dictionary): their form and seal, sessions and sequence, the operations, and the
Ethernet and SPI transports. -/

namespace Sys2Proof.Machine

open Sys2Proof

/-! ### Messages (R453 to R455) -/

/-- The first `n` bytes of a list that is meant to have as many. -/
def fitBytes (n : Nat) (b : List Byte) : List Byte := (b ++ List.replicate n 0).take n

/-- The header of a message (R453). -/
def Msg.head (m : Msg) : List Byte :=
  leBytes 2 m.magic ++ leBytes 1 m.version ++ leBytes 1 m.op ++ leBytes 1 m.flags ++ leBytes 1 m.status ++
  leBytes 2 m.body.length ++ leBytes 4 m.session ++ leBytes 4 m.mseq

/-- A message in bytes (R453). -/
def Msg.bytes (m : Msg) : List Byte := m.head ++ m.body ++ m.tag

/-- The message that bytes hold; none without MAGIC, or with a LENGTH that is not theirs. -/
def msgOf (b : List Byte) : Option Msg :=
  let n := leNat (slice b 6 2)
  if leNat (slice b 0 2) ≠ 0x5951 ∨ b.length ≠ n + 32 then none
  else some { magic := 0x5951, version := leNat (slice b 2 1), op := leNat (slice b 3 1), flags := leNat (slice b 4 1),
              status := leNat (slice b 5 1), session := leNat (slice b 8 4), mseq := leNat (slice b 12 4),
              body := slice b 16 n, tag := slice b (16 + n) 16 }

/-- The nonce of a message: direction 0 request, 1 response (R455). -/
def Msg.nonce (m : Msg) (dir : Nat) : List Byte := leBytes 4 m.session ++ leBytes 4 m.mseq ++ leBytes 4 dir

/-- Bytes combined with a key stream. -/
def xorBytes (a k : List Byte) : List Byte := (a.zip k).map (fun x => x.1 ^^^ x.2)

/-- A body sealed, or opened again, under a key (R455). -/
def Msg.crypt (m : Msg) (key : List Byte) (dir : Nat) : List Byte :=
  xorBytes m.body (fitBytes m.body.length (Config.gcmStream key (m.nonce dir) m.body.length))

/-- A response sealed under the key of its direction (R455). -/
def Msg.sealWith (m : Msg) (key : List Byte) : Msg :=
  let c : Msg := { m with body := m.crypt key 1 }
  { c with tag := fitBytes 16 (Config.gcmTag key (m.nonce 1) c.head c.body) }

/-- The tag of a request holds under a key (R455). -/
def Msg.authentic (m : Msg) (key : List Byte) : Bool := m.tag == fitBytes 16 (Config.gcmTag key (m.nonce 0) m.head m.body)

/-- Greatest body over a path (R454). -/
def Path.bodyLimit : Path → Nat
  | .udp => 1440
  | .spi => 2016
  | .ring => 2016

/-- Bytes padded with zeros to a multiple of 4. -/
def padded (b : List Byte) : List Byte := b ++ List.replicate ((4 - b.length % 4) % 4) 0

/-- The origin of writes that come over a path (R492). -/
def Path.origin : Path → Origin
  | .udp => .udp
  | .spi => .spi
  | .ring => .ring

/-- Who runs a request. -/
def Held.who (h : Held) : Who := { origin := h.dest.path.origin, role := h.role, session := h.session }

/-- The response to a request (R453): RESPONSE and the flags given, in clear where no key is held. -/
def Held.message (h : Held) (flags status : Nat) (body : List Byte) : Msg :=
  let m : Msg := { magic := 0x5951, version := 1, op := h.op, flags := 1 + flags, status, session := h.session, mseq := h.mseq,
                   body, tag := List.replicate 16 0 }
  if h.keyOut.isEmpty then m else m.sealWith h.keyOut

/-- A response leaves on its path (R468 to R470): over SPI it waits to be read; over the ring it is padded to whole words (R358)
and held while DATA_DIR is 0xFF, unless its session has ended. A hub that is restarting sends none. -/
def State.transmit (s : State) (h : Held) (m : Msg) : State :=
  if !s.served then s
  else match h.dest.path with
    | .udp => s.emit (.message h.dest m)
    | .spi => { s with engine := { s.engine with spiOut := s.engine.spiOut ++ [m] } }
    | .ring =>
      let p := servicePayload 9 h.tag 0 (padded m.bytes)
      if s.get .DATA_DIR 0 = 0xFF then
        if m.session = 0 ∨ (s.session m.session).open_ = true then
          { s with engine := { s.engine with ringHeld := s.engine.ringHeld ++ [p] } }
        else s
      else s.sendResponse p

/-- A response that is not kept. -/
def State.respond (s : State) (h : Held) (status : Err) : State := s.transmit h (h.message 0 status.code [])

/-- The response to an executed request: the session keeps the last 4 (R465). -/
def State.finish (s : State) (h : Held) (flags status : Nat) (body : List Byte) : State :=
  let m := h.message flags status body
  let x := s.session h.session
  let s := if x.open_ && x.keyOut == h.keyOut then s.setSession h.session { x with kept := ((h.mseq, m) :: x.kept).take 4 } else s
  s.transmit h m

/-! ### Arrival (R453, R467) -/

/-- The request of a message as it is answered: sealed where a session of its binding is open (R455). -/
def State.heldOf (s : State) (dest : Binding) (tag : Nat) (m : Msg) : Held :=
  let x := s.session m.session
  { dest, tag, op := m.op, session := m.session, mseq := m.mseq, role := x.role
    keyOut := if 3 ≤ m.op && x.open_ && x.binding == dest then x.keyOut else [] }

/-- The bit of ACCESS_PATHS of a path. -/
def Path.bit : Path → Nat
  | .udp => 0
  | .spi => 1
  | .ring => 2

/-- Messages that wait on a path. -/
def State.waitingOn (s : State) (p : Path) : Nat :=
  match p with
  | .udp => s.engine.udpIn.length
  | .spi => s.engine.spiIn.length
  | .ring => s.engine.ringIn.length

/-- A message joins those that wait on its path. -/
def State.queueMsg (s : State) (dest : Binding) (tag : Nat) (m : Msg) : State :=
  match dest.path with
  | .udp => { s with engine := { s.engine with udpIn := s.engine.udpIn ++ [(dest, m)] } }
  | .spi => { s with engine := { s.engine with spiIn := s.engine.spiIn ++ [m] } }
  | .ring => { s with engine := { s.engine with ringIn := s.engine.ringIn ++ [(dest, tag, m)] } }

/-- A request of this MSEQ is still being executed (R465). -/
def State.executing (s : State) (m : Msg) : Bool :=
  let is (h : Held) : Bool := h.session == m.session && h.mseq == m.mseq
  ((s.session m.session).parked.map is).getD false || (s.engine.late.map is).getD false

/-- A message arrives (R453, R465, R467): dropped on a path not set, or while the request is executed already; BUSY when its
path holds 4, on SPI dropped; BAD_OP for an unknown VERSION or OP. A response is no request and is dropped. -/
def State.arrive (s : State) (dest : Binding) (tag : Nat) (m : Msg) : State :=
  if !s.served then s
  else if !bit (s.get .ACCESS_PATHS 0) dest.path.bit then s.bump .PATH_DROPS 0
  else if m.flags % 2 = 1 then s
  else if 3 ≤ m.op && (s.session m.session).binding == dest && s.executing m then s.bump .SEQ_REJECTS 0
  else if 4 ≤ s.waitingOn dest.path then
    if dest.path = .spi then s.bump .SPI_ERRORS 0 else s.respond (s.heldOf dest tag m) .busy
  else if m.version ≠ 1 ∨ m.op = 0 ∨ 9 < m.op then s.respond (s.heldOf dest tag m) .badOp
  else s.queueMsg dest tag m

/-! ### Taking a message (R467) -/

/-- Takes the first element that a test accepts out of a list. -/
def takeFirst {α : Type} (p : α → Bool) : List α → Option (α × List α)
  | [] => none
  | x :: t => if p x then some (x, t) else (takeFirst p t).map (fun y => (y.1, x :: y.2))

/-- Where the next message comes from: its binding, the TAG of its frame, and the message, with the state without it. A
session's requests wait behind one that waits for a packet (R460). -/
def State.nextMsg (s : State) : Option (Binding × Nat × Msg × State) :=
  let ready (m : Msg) : Bool := (s.session m.session).parked.isNone
  match takeFirst ready s.engine.spiIn with
  | some (m, l) => some ({ path := .spi }, 0, m, { s with engine := { s.engine with spiIn := l } })
  | none => match takeFirst (fun x => ready x.2) s.engine.udpIn with
    | some ((b, m), l) => some (b, 0, m, { s with engine := { s.engine with udpIn := l } })
    | none => match takeFirst (fun x => ready x.2.2) s.engine.ringIn with
      | some ((b, t, m), l) => some (b, t, m, { s with engine := { s.engine with ringIn := l } })
      | none => none

/-- The dictionary engine takes the next message when it is of an operation; it takes none while a COMMIT_NOW waits for its
tick (R446, R467). -/
def State.engineTakes (s : State) (op : Nat) (f : Binding → Nat → Msg → State → State) : State :=
  if !s.served || s.engine.late.isSome then s
  else match s.nextMsg with
    | some (b, t, m, s') => if m.op = op then f b t m s' else s
    | none => s

/-! ### OPEN, PROVE, and the session of a request (R464, R465, R537 to R539) -/

/-- A role is admitted in the security state (R539). -/
def State.admits (s : State) (role : Nat) : Bool :=
  let st := s.get .SEC_STATE 0
  if st = 1 then decide (role ≤ 2) else if st = 4 then role == 0 else decide (role ≤ 3)

/-- The role of a code (R537). -/
def roleOf (n : Nat) : Role := if n = 0 then .observer else if n = 1 then .operator else if n = 2 then .engineer else .service

/-- A request counts as executed. -/
def State.countMsg (s : State) : State := s.add64 .MESSAGES 0 1

/-- OPEN judged and answered (R464, R537, R538): nonce and ephemeral key are fresh (log entry 5). -/
def State.openSession (dest : Binding) (tag : Nat) (m : Msg) (s : State) : State :=
  let h : Held := { dest, tag, op := 1, mseq := m.mseq }
  let role := leNat (slice m.body 0 1)
  let opens := (List.range 16).countP (fun n => (s.session n).open_)
  let free := (List.range 16).find? (fun n => 1 ≤ n && !(s.session n).open_)
  let s := s.countMsg
  if m.body.length ≠ 84 then s.respond h .badLength
  else if !s.admits role then s.respond h .role
  else if 8 ≤ opens then s.respond h .busy
  else match free with
    | none => s.respond h .busy
    | some n =>
      let nonce := fitBytes 16 (Config.freeBytes s.draws 16)
      let priv := fitBytes 32 (Config.freeBytes (s.draws + 1) 32)
      let eph := fitBytes 64 (Config.publicOf priv)
      let sig := fitBytes 64 (Config.ecdsaSign Config.deviceKey (Config.sha256 (m.body ++ nonce ++ eph)))
      let rsp := leBytes 4 n ++ nonce ++ eph ++ sig
      let prk := Config.kdf (Config.ecdh priv (slice m.body 20 64)) (slice m.body 4 16 ++ nonce)
      let info (t : List Byte) : List Byte := [0x59, 0x51, 0x48, 0x35, 0x31, 0x32, 0x30, 0x20] ++ t
      let x : Session :=
        { open_ := true, role := roleOf role, binding := dest
          keyIn := fitBytes 32 (Config.kdf prk (info [0x72, 0x65, 0x71]))
          keyOut := fitBytes 32 (Config.kdf prk (info [0x72, 0x73, 0x70]))
          transcript := Config.sha256 (m.body ++ rsp), lastAt := s.time.cycle }
      let s := { s with draws := s.draws + 2 }.setSession n x
      s.transmit h (h.message 0 0 rsp)

/-- OPEN (R456, R464, R537). -/
def execOpen (s : State) : Host.Outcome State Fault Refusal := .next (s.engineTakes 1 State.openSession)

/-- A proof passes (R539). -/
def State.proves (s : State) (x : Session) (sig : List Byte) : Bool :=
  let key := s.getBytes .ROLE_KEY_r x.role.rank
  s.get .SEC_STATE 0 == 0 || (!noKey key && Config.ecdsaVerify key x.transcript sig)

/-- PROVE judged and answered (R537, R539). One repeated after it was accepted is answered from the kept response (R465). -/
def State.proveSession (dest : Binding) (tag : Nat) (m : Msg) (s : State) : State :=
  let h : Held := { dest, tag, op := 2, session := m.session, mseq := m.mseq }
  let x := s.session m.session
  if !x.open_ || x.binding != dest then s.countMsg.respond h .session
  else
    let x : Session := { x with lastAt := s.time.cycle }
    let s := s.setSession m.session x
    match x.kept.find? (fun k => k.1 == m.mseq && k.2.op == 2) with
    | some k => s.transmit h k.2
    | none =>
      let s := s.countMsg
      if x.admitted then s.respond h .refused
      else if m.body.length ≠ 64 then s.respond h .badLength
      else if s.proves x m.body then
        let r := h.message 0 0 []
        (s.setSession m.session { x with admitted := true, kept := [(m.mseq, r)] }).transmit h r
      else (((s.endSession m.session).bump .PROVE_FAILS 0).cause .SEC_CAUSE 0 1).respond h .role

/-- PROVE (R456, R537, R539). -/
def execProve (s : State) : Host.Outcome State Fault Refusal := .next (s.engineTakes 2 State.proveSession)

/-- An MSEQ is below the window of the last 64, or executed with its response no longer kept (R465). -/
def Session.stale (x : Session) (n : Nat) : Bool := n == 0 || decide (n + 64 ≤ x.mseq) || x.window.contains n

/-- An MSEQ is executed (R465). -/
def Session.note (x : Session) (n : Nat) : Session :=
  let top := max x.mseq n
  { x with mseq := top, window := (n :: x.window).filter (fun k => decide (top < k + 64)) }

/-- A request other than OPEN and PROVE (R455, R464, R465): its session, its tag, its length and its MSEQ, which starts anew after
PROVE, are judged; then it is executed by `f` with its body in clear. -/
def State.request (f : Held → Msg → State → State) (dest : Binding) (tag : Nat) (m : Msg) (s : State) : State :=
  let h := s.heldOf dest tag m
  let x := s.session m.session
  if !x.open_ || x.binding != dest then s.respond h .session
  else if !m.authentic x.keyIn then s.bump .AUTH_FAILS 0
  else
    let x : Session := { x with lastAt := s.time.cycle }
    let s := s.setSession m.session x
    if dest.path.bodyLimit < m.body.length then s.respond h .badLength
    else if !x.admitted then
      if m.op = 3 then f h { m with body := m.crypt x.keyIn 0 } s.countMsg else s.respond h .session
    else match x.kept.find? (fun k => k.1 == m.mseq && k.2.op != 2) with
      | some k => s.transmit h k.2
      | none =>
        if x.stale m.mseq then (s.bump .SEQ_REJECTS 0).respond h .sequence
        else f h { m with body := m.crypt x.keyIn 0 } (s.setSession m.session (x.note m.mseq)).countMsg

/-- CLOSE (R456, R464): the session ends after the response. -/
def execClose (s : State) : Host.Outcome State Fault Refusal :=
  .next (s.engineTakes 3 (State.request (fun h m s =>
    if m.body.isEmpty then (s.finish h 0 0 []).endSession h.session else s.finish h 0 Err.badLength.code [])))

/-- KEEP (R456): the message itself has reset the idle time. -/
def execKeep (s : State) : Host.Outcome State Fault Refusal :=
  .next (s.engineTakes 9 (State.request (fun h m s => s.finish h 0 (if m.body.isEmpty then 0 else Err.badLength.code) [])))

/-! ### READ (R457) -/

/-- A response item of a READ. -/
def readItem (it : Item) (e : Err) (type len : Nat) (v : List Byte) : List Byte :=
  leBytes 2 it.index ++ leBytes 1 it.sub ++ leBytes 1 e.code ++ leBytes 1 type ++ [0] ++ leBytes 2 len ++ padded v

/-- An item served: its error counts for STATUS when it is the first other than NOT_DONE (R453). -/
def Held.serve (h : Held) (e : Err) (item : List Byte) : Held :=
  { h with done := h.done ++ item, count := h.count + 1, err := if h.err = 0 ∧ e ≠ .notDone then e.code else h.err }

/-- What the next item of a READ comes to: served, too long for what is left of the response, or a wait for a packet. -/
inductive Served where
  | item (h : Held) (s : State)
  | full
  | wait (q : Nat)

/-- The next item of a READ is served (R440, R457, R462), with a body of `limit` bytes at most. -/
def State.serveItem (s : State) (h : Held) (limit : Nat) (bad : List Nat) (hurt mayWait : Bool) (it : Item) : Served :=
  let room := limit - 4 - h.done.length
  let plain (e : Err) (type len : Nat) (s : State) : Served :=
    if room < 8 then .full else .item (h.serve e (readItem it e type len [])) s
  let value (type : Nat) (b : List Byte) (s' : State) : Served :=
    if limit < 12 + (padded b).length then plain .segmented type b.length s
    else if room < 8 + (padded b).length then .full
    else .item (h.serve .ok (readItem it .ok type b.length b)) s'
  match entryAt it.index it.sub with
  | .error e => plain e 0 0 s
  | .ok (r, i) =>
    match s.roleStep h.who r false with
    | some e => plain e r.type.code 0 s
    | none =>
      if r.access = .wo ∨ r.access = .cmd then plain .writeOnly r.type.code 0 s
      else if r.obj = .QUEUE_READ then
        let s := s.abortItems [3]
        match s.queueAns i (limit - 12) mayWait with
        | .path => plain .path r.type.code 0 s
        | .wait => .wait i
        | .empty => plain .ok r.type.code 0 s
        | .segmented n => plain .segmented r.type.code n s
        | .packet => let (b, s') := s.takeBytes i; value r.type.code b s'
      else match s.readEntry h.who h.staged bad hurt r i with
        | (.ok, v, s') => value r.type.code (valBytes r.type v) s'
        | (e, _, s') => plain e r.type.code 0 s'

/-- The response of a READ; MORE when items are left. -/
def State.finishRead (s : State) (h : Held) (more : Bool) : State :=
  s.finish h (if more then 2 else 0) h.err (leBytes 2 h.count ++ [0, 0] ++ h.done)

/-- The items of a READ in order, until one does not fit or must wait for a packet; the wait is judged from its beginning. -/
def State.readItems (limit : Nat) (bad : List Nat) (hurt : Bool) : List Item → Bool → Held → State → State
  | [], _, h, s => s.finishRead h false
  | it :: t, mayWait, h, s =>
    match s.serveItem h limit bad hurt mayWait it with
    | .item h s => State.readItems limit bad hurt t true h s
    | .full => s.finishRead h true
    | .wait q =>
      let s := s.abortItems [3]
      let x := s.session h.session
      s.setSession h.session { x with parked := some { h with todo := it :: t, wait := some (q, s.waitEnd q) } }

/-- The items of a READ body (R457). -/
def readItemsOf (b : List Byte) : Option (List Item) :=
  let n := leNat (slice b 0 2)
  if n = 0 ∨ 255 < n ∨ b.length ≠ 4 + 4 * n then none
  else some ((List.range n).map (fun k => ({ index := leNat (slice b (4 + 4 * k) 2), sub := leNat (slice b (6 + 4 * k) 1) } : Item)))

/-- READ (R457). -/
def execRead (bad : List Nat) (hurt : Bool) (s : State) : Host.Outcome State Fault Refusal :=
  .next (s.engineTakes 4 (State.request (fun h m s =>
    match readItemsOf m.body with
    | none => s.finish h 0 Err.badLength.code []
    | some l => State.readItems h.dest.path.bodyLimit bad hurt l true { h with staged := m.flags.testBit 2 } s)))

/-! ### WRITE (R458) -/

/-- The items of a WRITE body behind its COUNT. -/
def writeItemsOf : Nat → List Byte → Option (List Item)
  | 0, b => if b.isEmpty then some [] else none
  | n + 1, b =>
    let len := leNat (slice b 4 2)
    let v := slice b 8 len
    let whole := 8 + (padded v).length
    if b.length < 8 ∨ v.length < len ∨ b.length < whole then none
    else (writeItemsOf n (b.drop whole)).map (fun l =>
      ({ index := leNat (slice b 0 2), sub := leNat (slice b 2 1), type := leNat (slice b 3 1), value := v } : Item) :: l)

/-- A response item of a WRITE. -/
def writeItem (it : Item) (e : Err) : List Byte := leBytes 2 it.index ++ leBytes 1 it.sub ++ leBytes 1 e.code

/-- Items that are not applied. -/
def Held.leave (h : Held) (l : List Item) : Held := l.foldl (fun (h : Held) it => h.serve .notDone (writeItem it .notDone)) h

/-- The response of a WRITE. -/
def State.finishWrite (s : State) (h : Held) : State := s.finish h 0 h.err (leBytes 2 h.count ++ [0, 0] ++ h.done)

/-- Step 9 of R462 for an item that has passed the others; no item for a read-only object does (step 3). -/
def State.applyItem (s : State) (w : Who) (it : Item) : Err × State :=
  match entryAt it.index it.sub with
  | .error e => (e, s)
  | .ok (r, i) => if r.access = .ro then (.readOnly, s) else s.applyWrite w r i (r.type.decode it.value)

/-- The items of a WRITE applied in order, up to the first refusal; behind a COMMIT_NOW that waits for its tick the engine
waits (R446). -/
def State.applyItems : List Item → Held → State → State
  | [], h, s => s.finishWrite h
  | it :: t, h, s =>
    let waiting := s.frame.immediate
    let (e, s) := s.applyItem h.who it
    let h := h.serve e (writeItem it e)
    if e ≠ .ok then s.finishWrite (h.leave t)
    else if s.frame.immediate && !waiting then { s with engine := { s.engine with late := some { h with todo := t } } }
    else State.applyItems t h s

/-- A WRITE's items are checked, and applied when all pass (R458). -/
def State.writeItems (s : State) (h : Held) (l : List Item) : State :=
  let bad (it : Item) : Option Err := match s.checkWrite h.who it with | .error e => some e | .ok _ => none
  match l.findIdx? (fun it => (bad it).isSome) with
  | none => State.applyItems l h s
  | some k =>
    let it := l.getD k default
    let e := (bad it).getD .refused
    let h := ((h.leave (l.take k)).serve e (writeItem it e)).leave (l.drop (k + 1))
    s.finishWrite h

/-- WRITE (R458). -/
def execWrite (s : State) : Host.Outcome State Fault Refusal :=
  .next (s.engineTakes 5 (State.request (fun h m s =>
    let n := leNat (slice m.body 0 2)
    match if n = 0 ∨ 255 < n ∨ m.body.length < 4 then none else writeItemsOf n (m.body.drop 4) with
    | none => s.finish h 0 Err.badLength.code []
    | some l => s.writeItems h l)))

/-- The commit that a WRITE waited for has been applied: the rest of its items follow (R446, R458). -/
def State.resumeWrite (s : State) : State :=
  match s.engine.late with
  | some h =>
    if s.frame.immediate then s
    else State.applyItems h.todo { h with todo := [] } { s with engine := { s.engine with late := none } }
  | none => s

/-! ### SEG_READ and SEG_WRITE (R459, R460) -/

/-- The head of a segment: INDEX, SUB, OFFSET and TOTAL. -/
def segHead (it : Item) (off total : Nat) : List Byte :=
  leBytes 2 it.index ++ leBytes 1 it.sub ++ [0] ++ leBytes 4 off ++ leBytes 4 total

/-- The response of a SEG_READ: bytes of a value from an offset, with LAST where they end it. -/
def State.giveSegment (s : State) (h : Held) (it : Item) (whole : List Byte) : State :=
  let part := slice whole h.offset (h.dest.path.bodyLimit - 12)
  let last := decide (whole.length ≤ h.offset + part.length)
  s.finish h (if last then 8 else 0) 0 (segHead it h.offset whole.length ++ part)

/-- What a session still holds of a packet (R460) is discarded and counted in DROPPED_WORDS of its queue. -/
def State.dropHeld (s : State) (n : Nat) : State :=
  let x := s.session n
  match x.segQueue with
  | some q =>
    let left := (x.segBuf.length - x.segPos) / 4
    let s := if left = 0 then s else s.add32 .DROPPED_WORDS q left
    s.setSession n { x with segKey := none, segBuf := [], segQueue := none, segPos := 0 }
  | none => s

/-- A segment of the packet that a session holds. -/
def State.giveHeld (s : State) (h : Held) (it : Item) : State :=
  let x := s.session h.session
  let upto := min x.segBuf.length (h.offset + (h.dest.path.bodyLimit - 12))
  (s.setSession h.session { x with segPos := max x.segPos upto }).giveSegment h it x.segBuf

/-- SEG_READ of QUEUE_READ at OFFSET 0 (R460): one packet is taken and held; an empty value where none is readable. -/
def State.segPacket (s : State) (h : Held) (it : Item) (q : Nat) (mayWait : Bool) : State :=
  let s := s.abortItems [3]
  match s.queueAns q 65536 mayWait with
  | .path => s.finish h 0 Err.path.code []
  | .wait =>
    let x := s.session h.session
    s.setSession h.session { x with parked := some { h with todo := [it], wait := some (q, s.waitEnd q) } }
  | .packet =>
    let (b, s) := s.takeBytes q
    let x := s.session h.session
    (s.setSession h.session { x with segKey := some ⟨.QUEUE_READ, q⟩, segBuf := b, segQueue := some q, segPos := 0 }).giveHeld h it
  | _ => s.giveSegment h it []

/-- A SEG_READ is executed (R459, R460, R462). -/
def State.segRead (bad : List Nat) (hurt : Bool) (h : Held) (it : Item) (s : State) : State :=
  match entryAt it.index it.sub with
  | .error e => s.finish h 0 e.code []
  | .ok (r, i) =>
    match s.roleStep h.who r false with
    | some e => s.finish h 0 e.code []
    | none =>
      if r.access = .wo ∨ r.access = .cmd then s.finish h 0 Err.writeOnly.code []
      else if !r.isBytes then s.finish h 0 Err.typeMismatch.code []
      else if r.obj = .QUEUE_READ then
        if h.offset = 0 then (s.dropHeld h.session).segPacket h it i true
        else if (s.session h.session).segQueue = some i then s.giveHeld h it
        else s.finish h 0 Err.sequence.code []
      else match s.readEntry h.who h.staged bad hurt r i with
        | (.ok, v, s) => s.giveSegment h it (valBytes r.type v)
        | (e, _, s) => s.finish h 0 e.code []

/-- SEG_READ (R459, R460). -/
def execSegRead (bad : List Nat) (hurt : Bool) (s : State) : Host.Outcome State Fault Refusal :=
  .next (s.engineTakes 6 (State.request (fun h m s =>
    if m.body.length ≠ 12 then s.finish h 0 Err.badLength.code []
    else
      let it : Item := { index := leNat (slice m.body 0 2), sub := leNat (slice m.body 2 1) }
      State.segRead bad hurt { h with staged := m.flags.testBit 2, offset := leNat (slice m.body 4 4) } it s)))

/-- A session's segment buffer in SEG_WRITE. -/
def State.setSegBuf (s : State) (n : Nat) (k : Option Key) (b : List Byte) : State :=
  let s := s.dropHeld n
  s.setSession n { s.session n with segKey := k, segBuf := b }

/-- A SEG_WRITE is executed (R459): the segment joins the buffer; the last one makes a one-item WRITE of the whole. -/
def State.segWrite (h : Held) (it : Item) (total : Nat) (part : List Byte) (last : Bool) (s : State) : State :=
  let answer (s : State) (e : Err) : State := s.finish h 0 e.code (segHead it h.offset total)
  match entryAt it.index it.sub with
  | .error e => answer s e
  | .ok (r, i) =>
    let k : Key := ⟨r.obj, i⟩
    let x := s.session h.session
    let before := if x.segKey = some k ∧ x.segQueue = none then x.segBuf else []
    let whole := before ++ part
    if !r.isBytes then answer s .typeMismatch
    else if h.offset ≠ before.length then answer (s.setSegBuf h.session none []) .sequence
    else if 65536 < whole.length ∨ (last = true ∧ total ≠ whole.length) then answer (s.setSegBuf h.session none []) .badLength
    else if !last then answer (s.setSegBuf h.session (some k) whole) .ok
    else
      let s := s.setSegBuf h.session none []
      let it' : Item := { it with type := r.type.code, value := whole }
      match s.checkWrite h.who it' with
      | .error e => answer s e
      | .ok _ => let (e, s) := s.applyItem h.who it'; answer s e

/-- SEG_WRITE (R459). -/
def execSegWrite (s : State) : Host.Outcome State Fault Refusal :=
  .next (s.engineTakes 7 (State.request (fun h m s =>
    if m.body.length < 12 then s.finish h 0 Err.badLength.code []
    else
      let it : Item := { index := leNat (slice m.body 0 2), sub := leNat (slice m.body 2 1) }
      State.segWrite { h with offset := leNat (slice m.body 4 4) } it (leNat (slice m.body 8 4)) (m.body.drop 12)
        (m.flags.testBit 3) s)))

/-! ### Requests that wait for a packet (R280, R460) -/

/-- A session's request goes on when a packet is readable or its wait has matured; the arrival wins (R14). -/
def State.resumeParked (s : State) (q n : Nat) : State :=
  let x := s.session n
  match x.parked with
  | some h =>
    match h.wait, h.todo with
    | some (q', t), it :: rest =>
      if q' = q ∧ s.waitOver q t = true then
        let s := s.setSession n { x with parked := none }
        let h : Held := { h with todo := [], wait := none }
        if h.op = 6 then s.segPacket h it q false
        else State.readItems h.dest.path.bodyLimit [] false (it :: rest) false h s
      else s
    | _, _ => s
  | none => s

/-- Every read that waits on a queue is looked at: a master's first, then the sessions' in order. -/
def State.serveReads (s : State) (q : Nat) : State :=
  (List.range 16).foldl (fun (s : State) n => s.resumeParked q n) (s.serveWaiting q)

/-- QUEUE_READ_WAIT_EXPIRY (R280). -/
def execQueueReadWaitExpiry (q : Fin 16) (s : State) : Host.Outcome State Fault Refusal := .next (s.serveReads q)

/-! ### DESCRIBE (R461) -/

/-- The access code of R461. -/
def Access.code : Access → Nat
  | .ro => 0 | .rw => 1 | .wo => 2 | .rws => 3 | .cmd => 4

/-- MAXLEN of an object. -/
def ObjInfo.maxLen (r : ObjInfo) : Nat := if r.type = .blob then r.obj.lengths.2 else r.type.width

/-- What a DESCRIBE gives of an entry (R461). -/
def describeBytes (r : ObjInfo) (i : Nat) : List Byte :=
  let flags := (if r.staged then 1 else 0) + (if r.parameter then 2 else 0)
  let dflt := if r.kind == .value then padded (valBytes r.type (r.default i)) else []
  leBytes 1 r.type.code ++ leBytes 1 r.access.code ++ leBytes 1 r.role.rank ++ leBytes 1 flags ++ leBytes 2 r.maxLen ++ [0, 0] ++
  dflt ++ r.obj.name.toList.map (fun c => BitVec.ofNat 8 c.toNat)

/-- DESCRIBE (R441, R461): every role may ask for every object. -/
def execDescribe (s : State) : Host.Outcome State Fault Refusal :=
  .next (s.engineTakes 8 (State.request (fun h m s =>
    if m.body.length ≠ 4 then s.finish h 0 Err.badLength.code []
    else match entryAt (leNat (slice m.body 0 2)) (leNat (slice m.body 2 1)) with
      | .error e => s.finish h 0 e.code []
      | .ok (r, i) => s.finish h 0 0 (describeBytes r i))))

/-! ### Ethernet (R468) -/

/-- The management port works: ETH_MODE is not off, and in VIGIL PWR_VIGIL_ETH keeps it on (R549). -/
def State.ethOn (s : State) : Bool :=
  s.served && s.get .ETH_MODE 0 != 0 && !(s.get .PWR_STATE 0 == 2 && s.get .PWR_VIGIL_ETH 0 == 0)

/-- A frame has arrived on the management port: its link is up at the rate of ETH_MODE. -/
def State.ethFrame (s : State) : State :=
  let m := s.get .ETH_MODE 0
  s.put .ETH_LINK 0 (if m = 1 then 3 else if m = 2 then 2 else 1)

/-- UDP_DATAGRAM_RX (R468): fragments, and datagrams that are not for ACCESS_PORT at IP_ADDRESS or hold no message, are
dropped. -/
def execUdpDatagramRx (sip sport dip dport : Nat) (fragment : Bool) (data : List Byte) (s : State) :
    Host.Outcome State Fault Refusal :=
  if s.ethOn then
    let s := s.ethFrame
    if fragment || (dip : Int) != s.get .IP_ADDRESS 0 || (dport : Int) != s.get .ACCESS_PORT 0 then .next (s.bump .ETH_RX_DROPPED 0)
    else match msgOf data with
      | some m => .next (s.arrive { path := .udp, addr := sip, port := sport } 0 m)
      | none => .next (s.bump .ETH_RX_DROPPED 0)
  else .next s

/-- ARP_REQUEST (R468): answered with MAC_ADDRESS when it asks for IP_ADDRESS. -/
def execArpRequest (sip tip : Nat) (s : State) : Host.Outcome State Fault Refusal :=
  if s.ethOn then
    let s := s.ethFrame
    .next (if (tip : Int) = s.get .IP_ADDRESS 0 then s.emit (.ethReply 0 sip (leBytes 6 (s.get .MAC_ADDRESS 0).toNat)) else s)
  else .next s

/-- ICMP_ECHO (R468): the data go back. -/
def execIcmpEcho (sip dip : Nat) (data : List Byte) (s : State) : Host.Outcome State Fault Refusal :=
  if s.ethOn then
    let s := s.ethFrame
    .next (if (dip : Int) = s.get .IP_ADDRESS 0 then s.emit (.ethReply 1 sip data) else s)
  else .next s

/-! ### SPI (R279, R469) -/

/-- The SPI host port is in use. -/
def State.spiOn (s : State) : Bool := s.served && s.get .SPI_ENABLE 0 == 1

/-- A session of the SPI port exists. -/
def State.spiSession (s : State) : Bool := (List.range 16).any (fun n => (s.session n).open_ && (s.session n).binding.path == .spi)

/-- The SPI host port reads something (R279, R469). -/
def State.spiReads (s : State) (x : Option SpiRead) : State := { s with engine := { s.engine with spiRead := x } }

/-- The level of SPI_RDY (R279, R308, R469, R617): low before INIT, and while what the port reads is not ready, a queue
whose head is EMPTY or reserved or a response; a fenced queue does not lower it. Its delays are left out (log entry 188). -/
def State.spiRdy (s : State) : Bool :=
  decide (3 ≤ s.get .START_STATE 0) &&
  (match s.engine.spiRead with
   | none => true
   | some (.queue q) => s.fenced 5 q || (match (s.queue q).slots with | x :: _ => x.word.isSome | [] => false)
   | some .response => !s.engine.spiOut.isEmpty)

/-- SPI_STATUS (R469): the four status bytes. Command bytes that R469 does not list are ignored and counted; those of the other
commands are theirs. -/
def execSpiStatus (cmd : Byte) (s : State) : Host.Outcome State Fault Refusal :=
  if s.spiOn then
    let s := s.spiReads none
    if cmd = 1 then
      let n := match s.engine.spiOut with | m :: _ => m.bytes.length | [] => 0
      let v := (if s.engine.spiOut.isEmpty then 0 else 1) + (if 4 ≤ s.engine.spiIn.length then 2 else 0) +
        (if s.spiSession then 4 else 0)
      .next (s.emit (.spi (leBytes 1 v ++ leBytes 2 n ++ [0])))
    else if cmd = 2 ∨ cmd = 3 ∨ cmd = 0x0B then .next s
    else .next (s.bump .SPI_ERRORS 0)
  else .next s

/-- SPI_MSG_WRITE (R469): bytes that hold no message are dropped. -/
def execSpiMsgWrite (data : List Byte) (s : State) : Host.Outcome State Fault Refusal :=
  if s.spiOn then
    let s := s.spiReads none
    if 4 ≤ s.engine.spiIn.length then .next (s.bump .SPI_ERRORS 0)
    else match msgOf data with
      | some m => .next (s.arrive { path := .spi } 0 m)
      | none => .next s
  else .next s

/-- SPI_MSG_READ (R469): `n` bytes are clocked. Bits clocked while the read stalls read as ones (R279); a read that ends early
leaves the response pending. -/
def execSpiMsgRead (n : Nat) (s : State) : Host.Outcome State Fault Refusal :=
  if s.spiOn then
    let s := s.spiReads (some .response)
    match s.engine.spiOut with
    | [] => .next (s.emit (.spi (List.replicate n 0xFF)))
    | m :: t =>
      let b := m.bytes
      let sent := b.take n ++ List.replicate (n - b.length) 0xFF
      let s : State := if b.length ≤ n then { s with engine := { s.engine with spiOut := t } } else s
      .next (s.emit (.spi sent))
  else .next s

/-- The words of a queue as SPI clocks them (R279, R469): bit [31] first, then the tag byte; ones while the read stalls, and
zeros while the queue is fenced (R308). -/
def State.spiWords (s : State) (q : Nat) : Nat → List Byte → List Byte × State
  | 0, b => (b, s)
  | n + 1, b =>
    if s.fenced 5 q then State.spiWords s q n (b ++ List.replicate 5 0)
    else match s.popWord q with
    | (some w, s) =>
      let (v, s) := s.slotWord w
      let tag : Byte := if (s.queue q).framing = 1 && w.mark then 1 else 0
      State.spiWords s q n (b ++ (wordBytes v).reverse ++ [tag])
    | (none, s) => State.spiWords s q n (b ++ List.replicate 5 0xFF)

/-- SPI_QUEUE_READ (R278, R279, R469): a queue that SPI does not drain is refused, without a word removed. -/
def execSpiQueueRead (q words : Nat) (s : State) : Host.Outcome State Fault Refusal :=
  if s.spiOn then
    let s := s.abortItems [3]
    if 16 ≤ q ∨ (s.queue q).drain ≠ 1 then .next ((s.spiReads none).emit (.spi (List.replicate (5 * words) 0xFF)))
    else
      let (b, s) := s.spiWords q words []
      .next ((s.spiReads (some (.queue q))).emit (.spi b))
  else .next s

end Sys2Proof.Machine
end

