-- ==== Sys2Proof/Machine/FrameTick.lean ====
section
/-! DEFINITION. The grid tick and the servo cycle (01_architecture R20 to R27, 02_time_and_grid R47): what the frame sequencer
orders in a tick, and what the control plane does in each. -/

namespace Sys2Proof.Machine

open Sys2Proof

/-! ### The steps of a tick (R20, R21) -/

/-- Steps up to the first END (R20). -/
def untilEnd (l : List Nat) : List Nat := l.takeWhile (fun w => stepOp w != 0)

/-- The steps that run in tick n (R20, R21). -/
def State.stepsOf (s : State) (n : Int) : List Nat := (untilEnd s.frameSteps).filter (fun w => stepRuns w n)

/-- The instances a step acts on, among those of its class. -/
def stepUnits (w : Nat) : List Nat :=
  (List.range (fenceInstances (stepClass w))).filter (fun i => decide (stepFirst w ≤ i) && decide (i ≤ stepLast w))

/-- Instances that a step names, as class × 64 + instance. -/
def stepNames (w : Nat) : List Nat := (stepUnits w).map (fun i => stepClass w * 64 + i)

/-- LATCH: the banks' inputs, and the converters that a pass waits for (R144, R190). -/
def State.latchStep (s : State) (tin : TickIn) (n : Int) (w : Nat) : State :=
  let s : State := { s with frame := { s.frame with latches := s.frame.latches ++ stepNames w } }
  match stepClass w with
  | 0 => (stepUnits w).foldl (fun (s : State) b => s.latchLane tin n b) s
  | 4 => (stepUnits w).foldl (fun (s : State) t => s.armTrier t n) s
  | _ => s

/-- A lane's parity failures (R514, R523): more than PARITY_LIMIT within 64,000 ticks fence it with code 4. -/
def State.laneParity (s : State) (b : Nat) (n : Int) (count : Nat) : State :=
  let l := s.lane b
  let ts := List.replicate count n ++ l.parities.filter (fun t => decide (n - 64000 < t))
  let s := s.setLane b { l with parities := ts }
  if s.get .PARITY_LIMIT 0 < (ts.length : Int) then s.fenceBy 1 b 4 else s

/-- Records of a lane whose byte parity fails on the bus (R523): they are taken with FENCE_VALUE and WHEY alone. -/
def State.busParity (s : State) (tin : TickIn) (n : Int) (b : Nat) : State :=
  let hit (r : Rec) : Bool := r.chan / 16 == b && (tin.parity.contains r.chan || r.par != r.parity)
  let k := s.frame.bus.countP hit
  if k = 0 then s
  else
    let v := s.get .FENCE_VALUE 0
    let bus := s.frame.bus.map (fun r => if hit r then ({ r with value := v, flags := flagWhey } : Rec).sealed else r)
    let s : State := { s with frame := { s.frame with bus } }
    ((s.add32 .BUS_PARITY_ERRORS 0 k).cause .FI_CAUSE 0 3).laneParity b n k

/-- ADVANCE: lanes whose bank has been latched up to this grid instant, then what takes their records, as the table orders them
(R21, R200, R236). -/
def State.advanceStep (s : State) (tin : TickIn) (n : Int) (w : Nat) : State :=
  match stepClass w with
  | 1 => (stepUnits w).foldl (fun (s : State) b =>
      if s.frame.latches.contains b then (s.advanceLane n b).busParity tin n b else s) s
  | 2 => (stepUnits w).foldl (fun (s : State) u =>
      if u < 32 then s.advanceStream u else if u < 48 then s.advanceHist (u - 32) else s) s
  | 3 => s.advanceRennet (stepUnits w)
  | _ => s

/-- CLOSE: windows, blocks and captures of the instances named may close in the tick. -/
def State.closeStep (s : State) (w : Nat) : State := { s with frame := { s.frame with closes := s.frame.closes ++ stepNames w } }

/-- Instances that the COMMIT steps of tick n name, as class × 64 + instance. -/
def State.commitNames (s : State) (n : Int) : List Nat := ((s.stepsOf n).filter (fun w => stepOp w == 4)).flatMap stepNames

/-- An immediate commit may be applied in tick n: no scheduled one is due in it (R27, R446). -/
def State.immediateDue (s : State) (n : Int) : Bool :=
  s.frame.immediate && !(match s.engine.armed with | some (g, _) => decide ((g : Int) ≤ n + 1) | none => false)

/-- COMMIT (R18, R26, R446): the copy of the status objects, and the immediate commit with G = n + 1, after the triggers and the
captures that the tick has judged (R232). A scheduled one follows as SCHEDULED_COMMIT_DUE. -/
def State.commitStep (s : State) (n : Int) : State :=
  if s.frame.commitRan then s
  else
    let s : State := { s with frame := { s.frame with commitRan := true } }
    let s := if s.immediateDue n || s.engine.owed.any (fun x => s.stepNamed x.1) then s.judgeWaiting else s
    let s := s.applyOwed s.stepNamed (n + 1)
    (if s.immediateDue n then { s with frame := { s.frame with immediate := false } }.commitAt (n + 1) else s).takeSnap

/-- EMIT (R21, R277): packets formed by the press; the queues named take what waits for them, and reads that wait are served;
the cave manager requests ripening (R299); the ring ports carry the twin's MIRROR frame (R418). -/
def State.emitStep (s : State) (tin : TickIn) (n : Int) (w : Nat) : State :=
  let s : State := { s with frame := { s.frame with emits := s.frame.emits ++ stepNames w } }
  match stepClass w with
  | 2 => (stepUnits w).foldl (fun (s : State) u => if 48 ≤ u ∧ u < 52 then s.readoutStep (u - 48) else s)
      (s.formRaw ((stepUnits w).filter (fun u => decide (u < 32))))
  | 5 => (stepUnits w).foldl (fun (s : State) q => s.serveReads q) ((s.pressEmit.pushCaptures).pushTriers).replayToQueue
  | 6 => s.issueRipen
  | 7 => s.sendMirror tin n
  | _ => s

/-- One step of the frame table in tick n (R21). WAKE asks for clocks, which nothing of the model shows; NOP does nothing. -/
def State.frameStep (s : State) (tin : TickIn) (n : Int) (w : Nat) : State :=
  match stepOp w with
  | 1 => s.latchStep tin n w
  | 2 => s.advanceStep tin n w
  | 3 => s.closeStep w
  | 4 => s.commitStep n
  | 5 => s.emitStep tin n w
  | _ => s

/-! ### The control plane in a tick -/

/-- A commit will be applied in tick n (R26, R87). -/
def State.commitComes (s : State) (n : Int) : Bool :=
  (s.stepsOf n).any (fun w => stepOp w == 4) &&
  (s.frame.immediate || (match s.engine.armed with | some (g, _) => decide ((g : Int) ≤ n + 1) | none => false))

/-- The companion exchanges of a tick (R84, R87): registers planned by what the tick applies, then the commands. -/
def State.companionTick (s : State) (n : Int) : State :=
  let next := s.coming (s.commitComes n)
  let s := (List.range 32).foldl (fun (s : State) b => ((s.planProbe n b).planTable next n b).planCommit next b) s
  (List.range 32).foldl (fun (s : State) b => s.companionTx n b) s

/-- What the control plane notes in each tick: the clock's phase (R61), monitors (R95), presence (R89), the scanners (R119) and
the spares (R104). -/
def State.controlTick (s : State) (tin : TickIn) (n : Int) : State :=
  let s := s.notePhase tin.phase
  let s := (List.range 32).foldl (fun (s : State) b => ((s.noteMonitors tin b).laneFirstTick b).notePasses b n) s
  let s := s.judgeAllPresence tin n
  (List.range 32).foldl (fun (s : State) b => (s.scanTick tin n b).spareTick n b) s

/-- Tick n begins 1 µs after its grid instant (R20). -/
def State.tickDue (s : State) : Bool := s.running && decide (s.instant s.frame.next + 1000 * ns24 ≤ s.time.vt)

/-- Tick n of the frame sequencer (R20, R21): what still waits of the tick before is judged, releases take effect
(R232), the losses of the tick before are reported (R301), the control plane acts, the steps run in table order. -/
def State.tick (s : State) (tin : TickIn) : State :=
  let n := s.frame.next
  let s := ((s.judgeWaiting.closeHists).pressFlush.takeReleases).closeAccounts
  let fresh : Sequencer := { s.frame with next := n + 1, closes := [], emits := [], latches := [], bus := [], commitRan := false }
  let s : State := { s with frame := { fresh with commits := s.commitNames n, badBlocks := tin.badBlocks } }
  let s := (s.companionTick n).controlTick tin n
  let s := (s.stepsOf n).foldl (fun (s : State) w => s.frameStep tin n w) s
  let s := tin.curdBad.foldl (fun (s : State) x => s.curdFault x) s
  (((s.noteCaveIdle n).put .FRAME_TICK 0 n).judgeStartUp).resumeWrite

/-- GRID_TICK (R20). -/
def execGridTick (tin : TickIn) (s : State) : Host.Outcome State Fault Refusal :=
  .next (if s.tickDue then s.tick tin else s)

/-! ### The servo cycle (R47) -/

/-- The servo cycle: ring time's part and VT's, the twin's clocks (R435), vat membership (R602), a shutdown that waits (R427),
and a WRITE whose commit a stop has applied. -/
def State.servo (s : State) : State :=
  let (off, s) := s.servoOffset
  (((((s.servoVt off).twinTimeCheck).judgeVat).leaveCheck).resumeWrite)

/-- SERVO_CYCLE (R47): at each VT millisecond boundary. -/
def execServoCycle (s : State) : Host.Outcome State Fault Refusal :=
  let ms := s.time.vt / (1000000 * ns24)
  .next (if ms = s.time.servoMs then s else { s with time := { s.time with servoMs := ms, servoAt := s.time.cycle } }.servo)

end Sys2Proof.Machine
end

