-- ==== Sys2Proof/Machine/Receive.lean ====
section
/-! DEFINITION. Frames as they arrive (11_ring_link_layer R356 to R366 and R373): the checks of a received frame, what takes it
here, and the frames that reach the dictionary and the twin. -/

namespace Sys2Proof.Machine

open Sys2Proof

/-! ### Frames for one receiver -/

/-- VAT_TRIGGER_RX (R225, R375). -/
def execVatTriggerRx (p : Fin 2) (f : Frame) (s : State) : Host.Outcome State Fault Refusal :=
  if f.cls = 4 ∧ f.kind = 2 then
    match s.receive p f with
    | (true, s) => .next (if s.running then s.onVatTrigger f else s)
    | (false, s) => .next s
  else .next s

/-- An access message in the body of a DICT_REQ (R470): bytes behind its LENGTH are padding (R358). Its session is bound to
ENDPOINT_ID and SRC (R464). -/
def State.onDictReq (s : State) (f : Frame) : State :=
  let b := f.payload.drop 4
  match msgOf (b.take (leNat (slice b 6 2) + 32)) with
  | some m =>
    s.arrive { path := .ring, addr := (s.get .ENDPOINT_ID 0).toNat, port := f.srcKind * 16384 + f.srcPos * 512 + f.srcAddr }
      (leNat (slice f.payload 1 1)) m
  | none => s

/-- DICT_REQ_RX (R373, R470). -/
def execDictReqRx (p : Fin 2) (f : Frame) (s : State) : Host.Outcome State Fault Refusal :=
  if f.cls = 3 ∧ f.op = 8 then
    match s.receive p f with
    | (true, s) => .next (s.onDictReq f)
    | (false, s) => .next s
  else .next s

/-- A unit that has adopted its partner's configuration starts acquisition again (R432). -/
def State.endAdoption (s : State) : State :=
  if s.twin.adopting && !s.running && s.twinAgree then
    let w : Who := ⟨.twin, .service, 0⟩
    let s : State := { s with twin := { s.twin with adopting := false } }
    ((s.jrnCommand w .ACQ_START 0 .unit).tryStart w).2
  else s

/-- HEARTBEAT_RX (R421, R422, R427, R428, R432). -/
def execHeartbeatRx (f : Frame) (s : State) : Host.Outcome State Fault Refusal :=
  if f.cls = 5 ∧ f.kind = 1 then
    match s.receive 2 f with
    | (true, s) =>
      let (stop, s) : Bool × State := let (s, x) := s.onHeartbeat f; (x, s)
      .next (if stop then s.stopAcq else s.endAdoption)
    | (false, s) => .next s
  else .next s

/-- An entry that a DICT_MIRROR brings (R415, R417, R432): a shared object or an armed commit as a write of the twin agent, put in
place at once while the unit adopts; CH_WIRE_FAULT and LEAD_EST_i as results of the acting unit. -/
def State.onMirror (s : State) (it : Item) : State :=
  let w : Who := ⟨.twin, .service, 0⟩
  match entryAt it.index it.sub with
  | .error _ => s
  | .ok (r, i) =>
    let v := r.type.decode it.value
    if r.obj = .CH_WIRE_FAULT ∨ r.obj = .LEAD_EST_i then
      if !s.acting && r.lengthOk it.value.length then s.setValue r i v else s
    else if s.twin.adopting && r.shared && r.lengthOk it.value.length && s.inRange r v then
      (s.jrnWriteObj w r.obj i false (s.valueOf r i) v).setValue r i (r.obj.keepBits v)
    else
      let it : Item := { it with type := r.type.code }
      match s.checkWrite w it with
      | .ok _ => (s.applyItem w it).2
      | .error _ => s

/-- DICT_MIRROR_RX (R417, R419, R432). Its entry may be that of the excitation calibration: `exc` is what such a frame says, by
channel (log entry 22). -/
def execDictMirrorRx (f : Frame) (exc : List (Nat × Int × Int × Int)) (s : State) : Host.Outcome State Fault Refusal :=
  if f.cls = 5 ∧ f.kind = 3 then
    match s.receive 2 f with
    | (true, s) =>
      let b := f.payload
      let it : Item := { index := leNat (slice b 8 2), sub := leNat (slice b 10 1), value := slice b 12 (leNat (slice b 2 2)) }
      if s.get .TWIN_ENABLE 0 ≠ 1 ∨ s.served = false then .next s
      else if it.index * 256 + it.sub = Config.excMirrorPlace then
        .next (if s.acting then s else
          { s with excCal := { s.excCal with applied := exc ++ s.excCal.applied.filter (fun x => exc.all (fun y => y.1 != x.1)) } })
      else .next (s.onMirror it)
    | (false, s) => .next s
  else .next s

/-! ### FRAME_RECEIVED (R353, R356 to R366, R373, R526) -/

/-- A good frame without a receiver of its own: forwarded or taken; a Service request with another OP that is addressed here is
answered with STATUS 3 (R373). -/
def State.plainFrame (s : State) (p : Nat) (f : Frame) : State :=
  let (mine, s) := s.receive p f
  if mine && f.cls == 3 && !f.link && f.dstKind != 3 && (f.op == 0 || 9 < f.op) then
    s.sendResponse (servicePayload f.op (leNat (slice f.payload 1 1)) 3 [])
  else s

/-- A good frame of a ring port, by what it is; `t` is the receive stamp of a Time frame's marker (R386). -/
def State.ringFrame (s : State) (p : Fin 2) (f : Frame) (t : Int) : Host.Outcome State Fault Refusal :=
  let q : Fin 3 := ⟨p.val, by omega⟩
  match f.cls with
  | 1 => match f.kind with
    | 1 => execSyncRx p f t s
    | 2 => execDreqRx q f t s
    | 3 => execDrespRx q f t s
    | 4 => execAnnounceRx p f s
    | _ => .next (s.plainFrame p f)
  | 3 => match f.op with
    | 1 => execBeaconRx p f s
    | 2 => execLinkNoticeRx p f s
    | 3 => execLinkKillRx p f s
    | 4 => execPauseRx p f s
    | 5 => execAckRx p f s
    | 6 => execResendRx p f s
    | 8 => execDictReqRx p f s
    | _ => .next (s.plainFrame p f)
  | 4 => match f.kind with
    | 2 => execVatTriggerRx p f s
    | 3 => execMemberRecordRx p f s
    | _ => .next (s.plainFrame p f)
  | 5 => match f.kind with
    | 5 => execWreqRx p f none s
    | 6 => execWgrantRx p f s
    | _ => .next (s.plainFrame p f)
  | _ => .next (s.plainFrame p f)

/-- A good frame of the twin port, by what it is (R358, R418). -/
def State.twinFrame (s : State) (f : Frame) (t : Int) : Host.Outcome State Fault Refusal :=
  match f.cls with
  | 1 => match f.kind with
    | 2 => execDreqRx 2 f t s
    | 3 => execDrespRx 2 f t s
    | 5 => execCheckRx f t s
    | _ => .next (s.plainFrame 2 f)
  | 5 => match f.kind with
    | 1 => execHeartbeatRx f s
    | 2 => execMirrorRx f s
    | 3 => execDictMirrorRx f [] s
    | 4 => execCaveCopyRx f s
    | _ => .next (s.plainFrame 2 f)
  | _ => .next (s.plainFrame 2 f)

/-- A good frame of a port. -/
def State.goodFrame (s : State) (p : Fin 3) (f : Frame) (t : Int) : Host.Outcome State Fault Refusal :=
  if h : p.val < 2 then s.ringFrame ⟨p.val, h⟩ f t else s.twinFrame f t

/-- The port receives frames at all (R360, R377, R515). -/
def State.portReceives (s : State) (p : Nat) : Bool :=
  let st := s.get .LINK_STATE p
  !s.portFenced p && !(s.link p).misfit && (st == 1 || st == 2 || st == 3)

/-- FRAME_RECEIVED: the bytes of a frame, whole; `corrected` errors of the transit buffer were corrected and, with `ecc`, one was
not (R526). A frame that fails its check, or is not allowed, is discarded and counted, and what was forwarded of it is stomped
(R356 to R358); cause bit [5] is that of a failed FCRC. -/
def execFrameReceived (p : Fin 3) (bytes : List Byte) (stamp : Int) (corrected : Nat) (ecc : Bool) (s : State) :
    Host.Outcome State Fault Refusal :=
  let l := s.link p
  let s := if l.arrived.head? = some bytes then s.setLink p { l with arrived := l.arrived.tail } else s
  let s := if corrected = 0 then s else s.add32 .TRANSIT_ECC_CORRECTED 0 corrected
  let f := frameOf bytes
  if !s.portReceives p then .next s
  else match if ecc then FrameCheck.transitEcc else checkFrame bytes with
    | .good => s.goodFrame p f stamp
    | .stomped => .next ((s.bump .FRAMES_STOMPED p).forwardStomped p f)
    | .bad =>
      let s := s.bump .FCRC_ERRORS p
      .next ((if lengthOk bytes then s.rlCause p 5 else s).forwardStomped p f)
    | .transitEcc => .next (((s.bump .TRANSIT_ECC_UNCORRECTABLE 0).cause .FI_CAUSE 0 7).forwardStomped p f)

end Sys2Proof.Machine
end

