-- ==== Sys2Proof/Machine/Dispatch.lean ====
section
/-! DEFINITION. The meaning of each command: one arm per constructor, each a direct call of its own meaning. -/

namespace Sys2Proof.Machine

open Sys2Proof

/-- The effect of a command on everything but the queue. -/
def exec (i : Instr) (s : State) : Host.Outcome State Fault Refusal :=
  match i with
  | .gridTick tin => Sys2Proof.Machine.execGridTick tin s
  | .eventHoldoffEnd n => Sys2Proof.Machine.execEventHoldoffEnd n s
  | .acqStart w => Sys2Proof.Machine.execAcqStart w s
  | .autoStart => Sys2Proof.Machine.execAutoStart s
  | .acqStop w => Sys2Proof.Machine.execAcqStop w s
  | .frameTableWrite w n v => Sys2Proof.Machine.execFrameTableWrite w n v s
  | .commitArm w g digest => Sys2Proof.Machine.execCommitArm w g digest s
  | .commitCancel w g => Sys2Proof.Machine.execCommitCancel w g s
  | .commitNow w digest => Sys2Proof.Machine.execCommitNow w digest s
  | .scheduledCommitDue => Sys2Proof.Machine.execScheduledCommitDue s
  | .stageDiscard w => Sys2Proof.Machine.execStageDiscard w s
  | .restoreDefaults w => Sys2Proof.Machine.execRestoreDefaults w s
  | .cfgSave w => Sys2Proof.Machine.execCfgSave w s
  | .servoCycle => Sys2Proof.Machine.execServoCycle s
  | .ptServoCycle => Sys2Proof.Machine.execPtServoCycle s
  | .timeSourceLost => Sys2Proof.Machine.execTimeSourceLost s
  | .holdoverLimitReached => Sys2Proof.Machine.execHoldoverLimitReached s
  | .vtIncrementWrite w v => Sys2Proof.Machine.execVtIncrementWrite w v s
  | .vtSlew w v => Sys2Proof.Machine.execVtSlew w v s
  | .ptSlew w v => Sys2Proof.Machine.execPtSlew w v s
  | .timeSlewDone pt => Sys2Proof.Machine.execTimeSlewDone pt s
  | .vtLoad w v => Sys2Proof.Machine.execVtLoad w v s
  | .servoOwnerWrite w v => Sys2Proof.Machine.execServoOwnerWrite w v s
  | .vatEpochWrite w v => Sys2Proof.Machine.execVatEpochWrite w v s
  | .clkRefSelWrite w v => Sys2Proof.Machine.execClkRefSelWrite w v s
  | .clk10Lost ratio => Sys2Proof.Machine.execClk10Lost ratio s
  | .modclkLocked => Sys2Proof.Machine.execModclkLocked s
  | .modclkUnlock => Sys2Proof.Machine.execModclkUnlock s
  | .ppsInEdge rising => Sys2Proof.Machine.execPpsInEdge rising s
  | .ppsInMissing => Sys2Proof.Machine.execPpsInMissing s
  | .ppsOutPulse => Sys2Proof.Machine.execPpsOutPulse s
  | .ptpMessageRx domain m => Sys2Proof.Machine.execPtpMessageRx domain m s
  | .keeperClockFail => Sys2Proof.Machine.execKeeperClockFail s
  | .compResponseRx b resp => Sys2Proof.Machine.execCompResponseRx b resp s
  | .compSyncTimeout b => Sys2Proof.Machine.execCompSyncTimeout b s
  | .channelAbsent c => Sys2Proof.Machine.execChannelAbsent c s
  | .channelRequalify c => Sys2Proof.Machine.execChannelRequalify c s
  | .channelReleased c => Sys2Proof.Machine.execChannelReleased c s
  | .modulatorFailed b m => Sys2Proof.Machine.execModulatorFailed b m s
  | .spareSettled b => Sys2Proof.Machine.execSpareSettled b s
  | .shadowVerdict b => Sys2Proof.Machine.execShadowVerdict b s
  | .spareFadeDone b => Sys2Proof.Machine.execSpareFadeDone b s
  | .arbitrateVerdict b live spare => Sys2Proof.Machine.execArbitrateVerdict b live spare s
  | .chCalibrate w c => Sys2Proof.Machine.execChCalibrate w c s
  | .calibrationDone b offset gain => Sys2Proof.Machine.execCalibrationDone b offset gain s
  | .bankDelayCal w b => Sys2Proof.Machine.execBankDelayCal w b s
  | .bankDelayCalDone b live spare => Sys2Proof.Machine.execBankDelayCalDone b live spare s
  | .bankCauseClear w b mask => Sys2Proof.Machine.execBankCauseClear w b mask s
  | .scanExecutionBoundary b => Sys2Proof.Machine.execScanExecutionBoundary b s
  | .scanTestVerdict b => Sys2Proof.Machine.execScanTestVerdict b s
  | .leadExecutionDone b => Sys2Proof.Machine.execLeadExecutionDone b s
  | .scanHold w b => Sys2Proof.Machine.execScanHold w b s
  | .scanRelease w b => Sys2Proof.Machine.execScanRelease w b s
  | .trierPassArmedStart t => Sys2Proof.Machine.execTrierPassArmedStart t s
  | .trierConversionDone t raw => Sys2Proof.Machine.execTrierConversionDone t raw s
  | .trierStart w t => Sys2Proof.Machine.execTrierStart w t s
  | .injRequest w t word => Sys2Proof.Machine.execInjRequest w t word s
  | .trierCalStart w t => Sys2Proof.Machine.execTrierCalStart w t s
  | .trierCalStepDone t offset gain => Sys2Proof.Machine.execTrierCalStepDone t offset gain s
  | .trierPowered t => Sys2Proof.Machine.execTrierPowered t s
  | .cjcStale b => Sys2Proof.Machine.execCjcStale b s
  | .trierCauseClear w t mask => Sys2Proof.Machine.execTrierCauseClear w t mask s
  | .excCal w b => Sys2Proof.Machine.execExcCal w b s
  | .excCalDone b cut => Sys2Proof.Machine.execExcCalDone b cut s
  | .residueMismatch b path => Sys2Proof.Machine.execResidueMismatch b path s
  | .coefSwap w b k => Sys2Proof.Machine.execCoefSwap w b k s
  | .swapRequestJudged b => Sys2Proof.Machine.execSwapRequestJudged b s
  | .primingEnd b => Sys2Proof.Machine.execPrimingEnd b s
  | .coefFadeEnd b => Sys2Proof.Machine.execCoefFadeEnd b s
  | .coefParityFail b k paths => Sys2Proof.Machine.execCoefParityFail b k paths s
  | .dcbFreezeWrite w b v => Sys2Proof.Machine.execDcbFreezeWrite w b v s
  | .laneCauseClear w b mask => Sys2Proof.Machine.execLaneCauseClear w b mask s
  | .trigTimeoutMatures u => Sys2Proof.Machine.execTrigTimeoutMatures u s
  | .trigForce w u => Sys2Proof.Machine.execTrigForce w u s
  | .captureClose r => Sys2Proof.Machine.execCaptureClose r s
  | .capturePushDone r => Sys2Proof.Machine.execCapturePushDone r s
  | .capRelease w u => Sys2Proof.Machine.execCapRelease w u s
  | .vatTriggerRx p f => Sys2Proof.Machine.execVatTriggerRx p f s
  | .broadcastDelivery => Sys2Proof.Machine.execBroadcastDelivery s
  | .unitCauseClear w u mask => Sys2Proof.Machine.execUnitCauseClear w u mask s
  | .compressedBlockClose b bad => Sys2Proof.Machine.execCompressedBlockClose b bad s
  | .averagingIntervalClose b => Sys2Proof.Machine.execAveragingIntervalClose b s
  | .statsWindowClose b => Sys2Proof.Machine.execStatsWindowClose b s
  | .histWindowClose h => Sys2Proof.Machine.execHistWindowClose h s
  | .histClose w h => Sys2Proof.Machine.execHistClose w h s
  | .pmapReadout w m => Sys2Proof.Machine.execPmapReadout w m s
  | .pmapReadoutDone m => Sys2Proof.Machine.execPmapReadoutDone m s
  | .pmapClear w m => Sys2Proof.Machine.execPmapClear w m s
  | .ripenRequestRx => Sys2Proof.Machine.execRipenRequestRx s
  | .ripenSegmentDone => Sys2Proof.Machine.execRipenSegmentDone s
  | .pressCauseClear w mask => Sys2Proof.Machine.execPressCauseClear w mask s
  | .caveWritePacket q => Sys2Proof.Machine.execCaveWritePacket q s
  | .queueRead w q room => Sys2Proof.Machine.execQueueRead w q room s
  | .queueReadWaitExpiry q => Sys2Proof.Machine.execQueueReadWaitExpiry q s
  | .queueFlush w q => Sys2Proof.Machine.execQueueFlush w q s
  | .queueDropRest w q => Sys2Proof.Machine.execQueueDropRest w q s
  | .streamAck w q seq => Sys2Proof.Machine.execStreamAck w q seq s
  | .caveDiscard w => Sys2Proof.Machine.execCaveDiscard w s
  | .caveScrubPass corrected bad hurt => Sys2Proof.Machine.execCaveScrubPass corrected bad hurt s
  | .markSet w n m => Sys2Proof.Machine.execMarkSet w n m s
  | .markClear w n => Sys2Proof.Machine.execMarkClear w n s
  | .replayStart w => Sys2Proof.Machine.execReplayStart w s
  | .replayStop w => Sys2Proof.Machine.execReplayStop w s
  | .replayDone => Sys2Proof.Machine.execReplayDone s
  | .regionDataRead w r bad => Sys2Proof.Machine.execRegionDataRead w r bad s
  | .qcCauseClear w mask => Sys2Proof.Machine.execQcCauseClear w mask s
  | .ringSendPacket => Sys2Proof.Machine.execRingSendPacket s
  | .ringclkLost => Sys2Proof.Machine.execRingclkLost s
  | .ringclkRestored ppm => Sys2Proof.Machine.execRingclkRestored ppm s
  | .blockReceived l header payload stuffs viols errs => Sys2Proof.Machine.execBlockReceived l header payload stuffs viols errs s
  | .transmitBlock p => Sys2Proof.Machine.execTransmitBlock p s
  | .laneLost l analogue => Sys2Proof.Machine.execLaneLost l analogue s
  | .signalDetected l => Sys2Proof.Machine.execSignalDetected l s
  | .cdrLocked l => Sys2Proof.Machine.execCdrLocked l s
  | .cdrLockTimeout l => Sys2Proof.Machine.execCdrLockTimeout l s
  | .alignmentFound l inverted bsn w0 w1 w2 => Sys2Proof.Machine.execAlignmentFound l inverted bsn w0 w1 w2 s
  | .adaptationDone l ctle dfe => Sys2Proof.Machine.execAdaptationDone l ctle dfe s
  | .laneActive l skew => Sys2Proof.Machine.execLaneActive l skew s
  | .bringupLimitExpiry l => Sys2Proof.Machine.execBringupLimitExpiry l s
  | .portWaitExpiry p => Sys2Proof.Machine.execPortWaitExpiry p s
  | .portFaultRetry p => Sys2Proof.Machine.execPortFaultRetry p s
  | .portHushRequest w p => Sys2Proof.Machine.execPortHushRequest w p s
  | .portRestRequest w p => Sys2Proof.Machine.execPortRestRequest w p s
  | .portActiveRequest w p => Sys2Proof.Machine.execPortActiveRequest w p s
  | .hushAckTimeout p => Sys2Proof.Machine.execHushAckTimeout p s
  | .hushReqRx p => Sys2Proof.Machine.execHushReqRx p s
  | .hushAckRx p => Sys2Proof.Machine.execHushAckRx p s
  | .restReqRx p => Sys2Proof.Machine.execRestReqRx p s
  | .restAckRx p => Sys2Proof.Machine.execRestAckRx p s
  | .laneDropRx p lane => Sys2Proof.Machine.execLaneDropRx p lane s
  | .laneAddRx p lane bsnAt => Sys2Proof.Machine.execLaneAddRx p lane bsnAt s
  | .laneAddAckRx p lane bsnAt => Sys2Proof.Machine.execLaneAddAckRx p lane bsnAt s
  | .laneAddSend p => Sys2Proof.Machine.execLaneAddSend p s
  | .laneTestEnter w l => Sys2Proof.Machine.execLaneTestEnter w l s
  | .laneTestLeave w l => Sys2Proof.Machine.execLaneTestLeave w l s
  | .injectLineBit w l n => Sys2Proof.Machine.execInjectLineBit w l n s
  | .injectHeaderBit w l n => Sys2Proof.Machine.execInjectHeaderBit w l n s
  | .injectStuff w l n => Sys2Proof.Machine.execInjectStuff w l n s
  | .injectPayloadBit w l n => Sys2Proof.Machine.execInjectPayloadBit w l n s
  | .lnCauseClear w mask => Sys2Proof.Machine.execLnCauseClear w mask s
  | .frameReceived p bytes stamp corrected ecc => Sys2Proof.Machine.execFrameReceived p bytes stamp corrected ecc s
  | .beaconRx p f => Sys2Proof.Machine.execBeaconRx p f s
  | .beaconTimeout p => Sys2Proof.Machine.execBeaconTimeout p s
  | .linkNoticeRx p f => Sys2Proof.Machine.execLinkNoticeRx p f s
  | .linkKillRx p f => Sys2Proof.Machine.execLinkKillRx p f s
  | .rejoinHoldExpiry p => Sys2Proof.Machine.execRejoinHoldExpiry p s
  | .pauseRx p f => Sys2Proof.Machine.execPauseRx p f s
  | .pauseQuantaExpiry p => Sys2Proof.Machine.execPauseQuantaExpiry p s
  | .pauseRepeat p => Sys2Proof.Machine.execPauseRepeat p s
  | .ackRx p f => Sys2Proof.Machine.execAckRx p f s
  | .resendRx p f => Sys2Proof.Machine.execResendRx p f s
  | .dictReqRx p f => Sys2Proof.Machine.execDictReqRx p f s
  | .rlCauseClear w mask => Sys2Proof.Machine.execRlCauseClear w mask s
  | .dreqSend p => Sys2Proof.Machine.execDreqSend p s
  | .dreqRx p f t => Sys2Proof.Machine.execDreqRx p f t s
  | .drespRx p f t4 => Sys2Proof.Machine.execDrespRx p f t4 s
  | .drespTimeout p => Sys2Proof.Machine.execDrespTimeout p s
  | .syncSend => Sys2Proof.Machine.execSyncSend s
  | .syncRx p f t => Sys2Proof.Machine.execSyncRx p f t s
  | .announceSend => Sys2Proof.Machine.execAnnounceSend s
  | .announceRx p f => Sys2Proof.Machine.execAnnounceRx p f s
  | .gmEntryExpiry => Sys2Proof.Machine.execGmEntryExpiry s
  | .becomeGrandmaster => Sys2Proof.Machine.execBecomeGrandmaster s
  | .checkSend => Sys2Proof.Machine.execCheckSend s
  | .checkRx f t => Sys2Proof.Machine.execCheckRx f t s
  | .asymCorrWrite w p v => Sys2Proof.Machine.execAsymCorrWrite w p v s
  | .rtFaultClear w v => Sys2Proof.Machine.execRtFaultClear w v s
  | .heartbeatSend => Sys2Proof.Machine.execHeartbeatSend s
  | .heartbeatRx f => Sys2Proof.Machine.execHeartbeatRx f s
  | .heartbeatTimeout => Sys2Proof.Machine.execHeartbeatTimeout s
  | .leaseExpiry => Sys2Proof.Machine.execLeaseExpiry s
  | .claimAtReached => Sys2Proof.Machine.execClaimAtReached s
  | .witnessRenewTimer => Sys2Proof.Machine.execWitnessRenewTimer s
  | .wreqRx p f also => Sys2Proof.Machine.execWreqRx p f also s
  | .wgrantRx p f => Sys2Proof.Machine.execWgrantRx p f s
  | .witnessSlotExpiry w => Sys2Proof.Machine.execWitnessSlotExpiry w s
  | .mirrorRx f => Sys2Proof.Machine.execMirrorRx f s
  | .dictMirrorRx f exc => Sys2Proof.Machine.execDictMirrorRx f exc s
  | .caveCopyRx f => Sys2Proof.Machine.execCaveCopyRx f s
  | .syncCopyComplete => Sys2Proof.Machine.execSyncCopyComplete s
  | .twinSwitch w v => Sys2Proof.Machine.execTwinSwitch w v s
  | .handoverCancel => Sys2Proof.Machine.execHandoverCancel s
  | .handoverAtH => Sys2Proof.Machine.execHandoverAtH s
  | .twinSeenCheck => Sys2Proof.Machine.execTwinSeenCheck s
  | .twinCauseClear w mask => Sys2Proof.Machine.execTwinCauseClear w mask s
  | .udpDatagramRx sip sport dip dport fragment data => Sys2Proof.Machine.execUdpDatagramRx sip sport dip dport fragment data s
  | .arpRequest sip tip => Sys2Proof.Machine.execArpRequest sip tip s
  | .icmpEcho sip dip data => Sys2Proof.Machine.execIcmpEcho sip dip data s
  | .spiStatus cmd => Sys2Proof.Machine.execSpiStatus cmd s
  | .spiMsgWrite data => Sys2Proof.Machine.execSpiMsgWrite data s
  | .spiMsgRead n => Sys2Proof.Machine.execSpiMsgRead n s
  | .spiQueueRead q words => Sys2Proof.Machine.execSpiQueueRead q words s
  | .open => Sys2Proof.Machine.execOpen s
  | .prove => Sys2Proof.Machine.execProve s
  | .close => Sys2Proof.Machine.execClose s
  | .read bad hurt => Sys2Proof.Machine.execRead bad hurt s
  | .write => Sys2Proof.Machine.execWrite s
  | .segRead bad hurt => Sys2Proof.Machine.execSegRead bad hurt s
  | .segWrite => Sys2Proof.Machine.execSegWrite s
  | .describe => Sys2Proof.Machine.execDescribe s
  | .keep => Sys2Proof.Machine.execKeep s
  | .dictWrite w index sub type value => Sys2Proof.Machine.execDictWrite w index sub type value s
  | .sessionIdleExpiry => Sys2Proof.Machine.execSessionIdleExpiry s
  | .mbxOpen w k service => Sys2Proof.Machine.execMbxOpen w k service s
  | .mbxClose w k => Sys2Proof.Machine.execMbxClose w k s
  | .mbxPost w k notice => Sys2Proof.Machine.execMbxPost w k notice s
  | .mbxTake w k => Sys2Proof.Machine.execMbxTake w k s
  | .mbxAckRx w k nseq => Sys2Proof.Machine.execMbxAckRx w k nseq s
  | .mbxEmptyArm w k => Sys2Proof.Machine.execMbxEmptyArm w k s
  | .mbxTxData w k offset data => Sys2Proof.Machine.execMbxTxData w k offset data s
  | .mbxServicePost k notice data => Sys2Proof.Machine.execMbxServicePost k notice data s
  | .mbxServiceTake k => Sys2Proof.Machine.execMbxServiceTake k s
  | .mbxServiceAck k nseq => Sys2Proof.Machine.execMbxServiceAck k nseq s
  | .mbxAckTimeout k => Sys2Proof.Machine.execMbxAckTimeout k s
  | .mbxCrossTimeout k => Sys2Proof.Machine.execMbxCrossTimeout k s
  | .lockRead w n => Sys2Proof.Machine.execLockRead w n s
  | .lockRelease w n => Sys2Proof.Machine.execLockRelease w n s
  | .lockForce w n => Sys2Proof.Machine.execLockForce w n s
  | .lockTimeoutExpiry n => Sys2Proof.Machine.execLockTimeoutExpiry n s
  | .jrnPageRead w p bad => Sys2Proof.Machine.execJrnPageRead w p bad s
  | .jrnMirrorWrite bad => Sys2Proof.Machine.execJrnMirrorWrite bad s
  | .jrnMirrorCopyDone => Sys2Proof.Machine.execJrnMirrorCopyDone s
  | .jrnHostMarkWrite w seq => Sys2Proof.Machine.execJrnHostMarkWrite w seq s
  | .mjCauseClear w mask => Sys2Proof.Machine.execMjCauseClear w mask s
  | .evAck w n => Sys2Proof.Machine.execEvAck w n s
  | .evAckMap w map => Sys2Proof.Machine.execEvAckMap w map s
  | .fenceSet w cls n => Sys2Proof.Machine.execFenceSet w cls n s
  | .fenceLift w cls n => Sys2Proof.Machine.execFenceLift w cls n s
  | .excSupplyOvercurrent b => Sys2Proof.Machine.execExcSupplyOvercurrent b s
  | .coreWatchdogExpiry core => Sys2Proof.Machine.execCoreWatchdogExpiry core s
  | .curdScrubPass corrected bad => Sys2Proof.Machine.execCurdScrubPass corrected bad s
  | .fiCauseClear w mask => Sys2Proof.Machine.execFiCauseClear w mask s
  | .secClose w => Sys2Proof.Machine.execSecClose w s
  | .secReclose w => Sys2Proof.Machine.execSecReclose w s
  | .secRevoke w v => Sys2Proof.Machine.execSecRevoke w v s
  | .reopenPassword w pw => Sys2Proof.Machine.execReopenPassword w pw s
  | .reopenChallenge w => Sys2Proof.Machine.execReopenChallenge w s
  | .reopenResponse w r => Sys2Proof.Machine.execReopenResponse w r s
  | .reopenExpired => Sys2Proof.Machine.execReopenExpired s
  | .passwordSet w pw => Sys2Proof.Machine.execPasswordSet w pw s
  | .fwKeyRevoke w k => Sys2Proof.Machine.execFwKeyRevoke w k s
  | .fwStage w data => Sys2Proof.Machine.execFwStage w data s
  | .fwVerify w => Sys2Proof.Machine.execFwVerify w s
  | .fwActivateNextStart w => Sys2Proof.Machine.execFwActivateNextStart w s
  | .fwActivateNow w => Sys2Proof.Machine.execFwActivateNow w s
  | .fwConfirm w => Sys2Proof.Machine.execFwConfirm w s
  | .fwTrialExpiry => Sys2Proof.Machine.execFwTrialExpiry s
  | .debugSet w v => Sys2Proof.Machine.execDebugSet w v s
  | .tapInstruction t => Sys2Proof.Machine.execTapInstruction t s
  | .debugHalt core => Sys2Proof.Machine.execDebugHalt core s
  | .secCauseClear w mask => Sys2Proof.Machine.execSecCauseClear w mask s
  | .pwrRequestRun w => Sys2Proof.Machine.execPwrRequestRun w s
  | .pwrRequestDim w => Sys2Proof.Machine.execPwrRequestDim w s
  | .pwrRequestVigil w => Sys2Proof.Machine.execPwrRequestVigil w s
  | .pwrRequestOff w => Sys2Proof.Machine.execPwrRequestOff w s
  | .pwrRequestOffDataLoss w => Sys2Proof.Machine.execPwrRequestOffDataLoss w s
  | .sealingComplete => Sys2Proof.Machine.execSealingComplete s
  | .wakeNWake => Sys2Proof.Machine.execWakeNWake s
  | .pwrWakeAtAlarm => Sys2Proof.Machine.execPwrWakeAtAlarm s
  | .pwrAutoDelayExpiry => Sys2Proof.Machine.execPwrAutoDelayExpiry s
  | .supplyTrip => Sys2Proof.Machine.execSupplyTrip s
  | .thermalTrip => Sys2Proof.Machine.execThermalTrip s
  | .dieTempSample temp => Sys2Proof.Machine.execDieTempSample temp s
  | .corePllUnlock => Sys2Proof.Machine.execCorePllUnlock s
  | .caveDimWake => Sys2Proof.Machine.execCaveDimWake s
  | .caveDimHoldExpiry => Sys2Proof.Machine.execCaveDimHoldExpiry s
  | .pwCauseClear w mask => Sys2Proof.Machine.execPwCauseClear w mask s
  | .stRunQuick w => Sys2Proof.Machine.execStRunQuick w s
  | .stRunFull w => Sys2Proof.Machine.execStRunFull w s
  | .stStop w => Sys2Proof.Machine.execStStop w s
  | .testStepEnd compare failed => Sys2Proof.Machine.execTestStepEnd compare failed s
  | .regionRestoreDone => Sys2Proof.Machine.execRegionRestoreDone s
  | .repairAccept w => Sys2Proof.Machine.execRepairAccept w s
  | .repairClear w n => Sys2Proof.Machine.execRepairClear w n s
  | .repairFuse w n => Sys2Proof.Machine.execRepairFuse w n s
  | .fuseBlowDone good => Sys2Proof.Machine.execFuseBlowDone good s
  | .mramPatrol corrected bad => Sys2Proof.Machine.execMramPatrol corrected bad s
  | .lifeRecordUpdate => Sys2Proof.Machine.execLifeRecordUpdate s
  | .stCauseClear w mask => Sys2Proof.Machine.execStCauseClear w mask s
  | .keeperPor => Sys2Proof.Machine.execKeeperPor s
  | .rstNAssert held => Sys2Proof.Machine.execRstNAssert held s
  | .rstNRelease => Sys2Proof.Machine.execRstNRelease s
  | .bootComplete bad => Sys2Proof.Machine.execBootComplete bad s
  | .initComplete x => Sys2Proof.Machine.execInitComplete x s
  | .caveTrainingDone x => Sys2Proof.Machine.execCaveTrainingDone x s
  | .startLimitExpiry => Sys2Proof.Machine.execStartLimitExpiry s
  | .recoveryTicksExpiry => Sys2Proof.Machine.execRecoveryTicksExpiry s
  | .servicePhaseNormal w => Sys2Proof.Machine.execServicePhaseNormal w s
  | .servicePhaseTest w => Sys2Proof.Machine.execServicePhaseTest w s
  | .memberRecordSend => Sys2Proof.Machine.execMemberRecordSend s
  | .memberRecordRx p f => Sys2Proof.Machine.execMemberRecordRx p f s
  | .memberRecordExpiry => Sys2Proof.Machine.execMemberRecordExpiry s
  | .vatLeave w => Sys2Proof.Machine.execVatLeave w s
  | .vatRejoin w => Sys2Proof.Machine.execVatRejoin w s
  | .clk10Present => Sys2Proof.Machine.execClk10Present s
  | .vddCoreSettled => Sys2Proof.Machine.execVddCoreSettled s
  | .ptpAnnounceTimeout => Sys2Proof.Machine.execPtpAnnounceTimeout s
  | .ptpMessageTx => Sys2Proof.Machine.execPtpMessageTx s
  | .txPllLocked l => Sys2Proof.Machine.execTxPllLocked l s
  | .debugResume core => Sys2Proof.Machine.execDebugResume core s

end Sys2Proof.Machine
end

