-- ==== Sys2Proof/Safety.lean ====
section
/-! DEFINITION. What counts as a sound state: stores in canonical form, and mode registers at codes that the manual
gives them. -/

namespace Sys2Proof.Machine

open Sys2Proof

/-- The stores of objects are in canonical form, so that equal contents are equal data. -/
def State.canonical (s : State) : Bool :=
  Sparse.wf objDefault Key.code s.obj && Sparse.wf blobDefault Key.code s.blob

/-- The greatest code of a mode register, whose codes run from 0 (R25, R52, R63, R88, R93, R104, R132, R152, R174,
R313, R337, R343, R377, R410, R411, R427, R502, R504, R533, R550, R560, R587, R592, R598, R605); none for other objects. -/
def Obj.greatestCode (o : Obj) : Option Int :=
  match o with
  | .FRAME_STATE => some 2
  | .VT_STATE => some 5
  | .PT_STATE => some 5
  | .MODCLK_STATE => some 2
  | .COMP_LINK_STATE => some 4
  | .CH_PRESENCE => some 5
  | .SPARE_STATE => some 8
  | .SCAN_STATE => some 3
  | .TRIER_STATE => some 4
  | .COEF_STATE => some 2
  | .CAVE_STATE => some 4
  | .LANE_STATE => some 8
  | .PORT_STATE => some 7
  | .LINK_STATE => some 4
  | .RT_ROLE => some 3
  | .DELAY_STATE => some 3
  | .TWIN_STATE => some 6
  | .JRN_MIRROR_STATE => some 3
  | .MBX_STATE => some 2
  | .SEC_STATE => some 4
  | .PWR_STATE => some 3
  | .FW_STATE => some 5
  | .ST_STATE => some 2
  | .START_STATE => some 7
  | .SERVICE_PHASE => some 3
  | .VAT_STATE => some 6
  | _ => none

/-- A value is one that an object may hold: a mode register holds one of its codes. -/
def Obj.legal (o : Obj) (v : Int) : Bool :=
  match o.greatestCode with
  | some m => decide (0 ≤ v) && decide (v ≤ m)
  | none => true

/-- Every mode register holds one of its codes. -/
def State.modesLegal (s : State) : Prop := ∀ (o : Obj) (i : Nat), o.legal (s.get o i) = true

/-- The invariant of every step: canonical stores and legal modes. -/
structure State.Sound (s : State) : Prop where
  canonical : s.canonical = true
  modes : s.modesLegal

/-! ### Frames: what a command leaves as it is -/

/-- A part of the state beside the numeric objects: each is a field of State. -/
inductive Part where
  | blob | time | ptp | frame | chans | banks | scans | triers | lanes | events | fences | causes | engine | mail
  | locks | journal | serLanes | links | ringTime | twin | wits | ring | excCal | curdBad | queues | cave | units
  | regions | bcasts | press | trierOut | sec | power | test | boot | vat | draws | out | answer | pending
deriving DecidableEq, Repr

/-- Two states agree in a part. -/
def Part.same (p : Part) (s t : State) : Prop :=
  match p with
  | .blob => t.blob = s.blob
  | .time => t.time = s.time
  | .ptp => t.ptp = s.ptp
  | .frame => t.frame = s.frame
  | .chans => t.chans = s.chans
  | .banks => t.banks = s.banks
  | .scans => t.scans = s.scans
  | .triers => t.triers = s.triers
  | .lanes => t.lanes = s.lanes
  | .events => t.events = s.events
  | .fences => t.fences = s.fences
  | .causes => t.causes = s.causes
  | .engine => t.engine = s.engine
  | .mail => t.mail = s.mail
  | .locks => t.locks = s.locks
  | .journal => t.journal = s.journal
  | .serLanes => t.serLanes = s.serLanes
  | .links => t.links = s.links
  | .ringTime => t.ringTime = s.ringTime
  | .twin => t.twin = s.twin
  | .wits => t.wits = s.wits
  | .ring => t.ring = s.ring
  | .excCal => t.excCal = s.excCal
  | .curdBad => t.curdBad = s.curdBad
  | .queues => t.queues = s.queues
  | .cave => t.cave = s.cave
  | .units => t.units = s.units
  | .regions => t.regions = s.regions
  | .bcasts => t.bcasts = s.bcasts
  | .press => t.press = s.press
  | .trierOut => t.trierOut = s.trierOut
  | .sec => t.sec = s.sec
  | .power => t.power = s.power
  | .test => t.test = s.test
  | .boot => t.boot = s.boot
  | .vat => t.vat = s.vat
  | .draws => t.draws = s.draws
  | .out => t.out = s.out
  | .answer => t.answer = s.answer
  | .pending => t.pending = s.pending

/-- The objects that journalling a command, raising an event and sending what both bring with them may write (R365, R490,
R499, R506, R510, R511, R598): every command may change them beside its own. -/
def Obj.reporting (o : Obj) : Bool :=
  match o with
  | .EV_COUNT | .EV_LAST | .EV_PENDING | .EV_UNSENT | .JRN_FAULTS | .MJ_CAUSE | .WRAPPED_FRAMES | .HOPS_DISCARDS
  | .SERVICE_PHASE => true
  | _ => false

/-- The parts that the same may change: deliveries of events and causes of the tick, notices, the journal, frames on their
way, the start of a recovery, and the answer to the requester. -/
def Part.reporting (p : Part) : Bool :=
  match p with
  | .events | .causes | .mail | .journal | .links | .twin | .ring | .boot | .answer => true
  | _ => false

/-- From `s` to `t` nothing changes but the objects `os` (by instance), the parts `ps`, and what journalling and reporting
change. -/
structure State.Within (os : List (Obj × Nat)) (ps : List Part) (s t : State) : Prop where
  objects : ∀ (o : Obj) (i : Nat), (o, i) ∉ os → o.reporting = false → t.get o i = s.get o i
  parts : ∀ p : Part, p ∉ ps → p.reporting = false → p.same s t

/-- From `s` to `t` nothing changes but objects of the kinds `os`, of every instance, the parts `ps`, and what journalling
and reporting change. -/
structure State.WithinKinds (os : List Obj) (ps : List Part) (s t : State) : Prop where
  objects : ∀ (o : Obj) (i : Nat), o ∉ os → o.reporting = false → t.get o i = s.get o i
  parts : ∀ p : Part, p ∉ ps → p.reporting = false → p.same s t

/-- A command of a requester reaches its meaning: the dictionary is served, the role suffices, and no state of the hub bars the
object (R441, R539, R542, R555, R592). -/
structure State.Open (s : State) (w : Who) (role : Role) (o : Obj) : Prop where
  served : s.served = true
  role : role.rank ≤ w.role.rank
  free : s.barred w o true = none

/-- The causes of a register that arose in the present cycle of that register (R109), as a mask. -/
def State.causedNow (s : State) (o : Obj) (i : Nat) : Nat :=
  let c := s.causeTick o i
  if s.causeCycle o = some c.tick then c.mask else 0

/-! ### What a requester must show (R11) -/

/-- What a command of a requester is judged by: who asks, the role its object asks for (R11), the object, and whether it
writes. -/
structure Judged where
  who   : Who
  role  : Role
  obj   : Obj
  write : Bool
deriving DecidableEq, Repr

/-- What a command of a requester is judged by. A dictionary write names its object by index, and is judged by what it
finds there; a happening has no requester. -/
def judgedBy : Instr → Option Judged
  | .acqStart w => some ⟨w, .operator, .ACQ_START, true⟩
  | .acqStop w => some ⟨w, .operator, .ACQ_STOP, true⟩
  | .frameTableWrite w none _ => some ⟨w, .engineer, .FRAME_SOURCE, true⟩
  | .frameTableWrite w (some _) _ => some ⟨w, .engineer, .FRAME_STEP_n, true⟩
  | .commitArm w _ _ => some ⟨w, .engineer, .COMMIT_ARM, true⟩
  | .commitCancel w _ => some ⟨w, .engineer, .COMMIT_CANCEL, true⟩
  | .commitNow w _ => some ⟨w, .engineer, .COMMIT_NOW, true⟩
  | .stageDiscard w => some ⟨w, .engineer, .STAGE_DISCARD, true⟩
  | .restoreDefaults w => some ⟨w, .engineer, .RESTORE_DEFAULTS, true⟩
  | .cfgSave w => some ⟨w, .engineer, .CFG_SAVE, true⟩
  | .vtIncrementWrite w _ => some ⟨w, .engineer, .VT_INCREMENT, true⟩
  | .vtSlew w _ => some ⟨w, .engineer, .VT_SLEW, true⟩
  | .ptSlew w _ => some ⟨w, .engineer, .PT_SLEW, true⟩
  | .vtLoad w _ => some ⟨w, .engineer, .VT_LOAD, true⟩
  | .servoOwnerWrite w _ => some ⟨w, .engineer, .SERVO_OWNER, true⟩
  | .vatEpochWrite w _ => some ⟨w, .engineer, .VAT_EPOCH, true⟩
  | .clkRefSelWrite w _ => some ⟨w, .engineer, .CLK_REF_SEL, true⟩
  | .chCalibrate w _ => some ⟨w, .service, .CH_CALIBRATE, true⟩
  | .bankDelayCal w _ => some ⟨w, .service, .BANK_DELAY_CAL, true⟩
  | .bankCauseClear w _ _ => some ⟨w, .operator, .BANK_CAUSE_CLEAR, true⟩
  | .scanHold w _ => some ⟨w, .operator, .SCAN_HOLD, true⟩
  | .scanRelease w _ => some ⟨w, .operator, .SCAN_HOLD, true⟩
  | .trierStart w _ => some ⟨w, .operator, .START, true⟩
  | .injRequest w _ _ => some ⟨w, .engineer, .INJ_REQUEST, true⟩
  | .trierCalStart w _ => some ⟨w, .engineer, .CAL_START, true⟩
  | .trierCauseClear w _ _ => some ⟨w, .operator, .TRIER_CAUSE_CLEAR, true⟩
  | .excCal w _ => some ⟨w, .service, .EXC_CAL, true⟩
  | .coefSwap w _ _ => some ⟨w, .operator, .COEF_SWAP, true⟩
  | .dcbFreezeWrite w _ _ => some ⟨w, .operator, .DCB_FREEZE, true⟩
  | .laneCauseClear w _ _ => some ⟨w, .operator, .LANE_CAUSE_CLEAR, true⟩
  | .trigForce w _ => some ⟨w, .operator, .TRIG_FORCE, true⟩
  | .capRelease w _ => some ⟨w, .operator, .CAP_RELEASE, true⟩
  | .unitCauseClear w _ _ => some ⟨w, .operator, .UNIT_CAUSE_CLEAR, true⟩
  | .histClose w _ => some ⟨w, .operator, .HIST_CLOSE, true⟩
  | .pmapReadout w _ => some ⟨w, .operator, .PMAP_READOUT, true⟩
  | .pmapClear w _ => some ⟨w, .operator, .PMAP_CLEAR, true⟩
  | .pressCauseClear w _ => some ⟨w, .operator, .PRESS_CAUSE_CLEAR, true⟩
  | .queueRead w _ _ => some ⟨w, .operator, .QUEUE_READ, false⟩
  | .queueFlush w _ => some ⟨w, .engineer, .QUEUE_CONTROL, true⟩
  | .queueDropRest w _ => some ⟨w, .engineer, .QUEUE_CONTROL, true⟩
  | .streamAck w _ _ => some ⟨w, .operator, .STREAM_ACK, true⟩
  | .caveDiscard w => some ⟨w, .service, .CAVE_DISCARD, true⟩
  | .markSet w _ _ => some ⟨w, .operator, .MARK_SET, true⟩
  | .markClear w _ => some ⟨w, .operator, .MARK_CLEAR, true⟩
  | .replayStart w => some ⟨w, .operator, .REPLAY_START, true⟩
  | .replayStop w => some ⟨w, .operator, .REPLAY_STOP, true⟩
  | .regionDataRead w _ _ => some ⟨w, .operator, .REGION_DATA, false⟩
  | .qcCauseClear w _ => some ⟨w, .operator, .QC_CAUSE_CLEAR, true⟩
  | .portHushRequest w _ => some ⟨w, .engineer, .PORT_POWER, true⟩
  | .portRestRequest w _ => some ⟨w, .engineer, .PORT_POWER, true⟩
  | .portActiveRequest w _ => some ⟨w, .engineer, .PORT_POWER, true⟩
  | .laneTestEnter w _ => some ⟨w, .service, .LANE_TEST, true⟩
  | .laneTestLeave w _ => some ⟨w, .service, .LANE_TEST, true⟩
  | .injectLineBit w _ _ => some ⟨w, .service, .INJECT, true⟩
  | .injectHeaderBit w _ _ => some ⟨w, .service, .INJECT, true⟩
  | .injectStuff w _ _ => some ⟨w, .service, .INJECT, true⟩
  | .injectPayloadBit w _ _ => some ⟨w, .service, .INJECT, true⟩
  | .lnCauseClear w _ => some ⟨w, .operator, .LN_CAUSE_CLEAR, true⟩
  | .rlCauseClear w _ => some ⟨w, .operator, .RL_CAUSE_CLEAR, true⟩
  | .asymCorrWrite w _ _ => some ⟨w, .engineer, .ASYM_CORR, true⟩
  | .rtFaultClear w _ => some ⟨w, .engineer, .RT_FAULT_CLEAR, true⟩
  | .twinSwitch w _ => some ⟨w, .operator, .TWIN_SWITCH, true⟩
  | .twinCauseClear w _ => some ⟨w, .operator, .TWIN_CAUSE_CLEAR, true⟩
  | .mbxOpen w _ _ => some ⟨w, .operator, .MBX_OPEN, true⟩
  | .mbxClose w _ => some ⟨w, .operator, .MBX_CLOSE, true⟩
  | .mbxPost w _ _ => some ⟨w, .operator, .MBX_POST, true⟩
  | .mbxTake w _ => some ⟨w, .operator, .MBX_TAKE, false⟩
  | .mbxAckRx w _ _ => some ⟨w, .operator, .MBX_ACK_RX, true⟩
  | .mbxEmptyArm w _ => some ⟨w, .operator, .MBX_EMPTY_ARM, true⟩
  | .mbxTxData w _ _ _ => some ⟨w, .operator, .MBX_TX_DATA, true⟩
  | .lockRead w _ => some ⟨w, .operator, .LOCK_n, false⟩
  | .lockRelease w _ => some ⟨w, .operator, .LOCK_RELEASE, true⟩
  | .lockForce w _ => some ⟨w, .service, .LOCK_FORCE, true⟩
  | .jrnPageRead w _ _ => some ⟨w, .observer, .JRN_PAGE_p, false⟩
  | .jrnHostMarkWrite w _ => some ⟨w, .operator, .JRN_HOST_MARK, true⟩
  | .mjCauseClear w _ => some ⟨w, .operator, .MJ_CAUSE_CLEAR, true⟩
  | .evAck w _ => some ⟨w, .operator, .EV_ACK, true⟩
  | .evAckMap w _ => some ⟨w, .operator, .EV_ACK_MAP, true⟩
  | .fenceSet w _ _ => some ⟨w, .service, .FENCE_SET, true⟩
  | .fenceLift w _ _ => some ⟨w, .service, .FENCE_LIFT, true⟩
  | .fiCauseClear w _ => some ⟨w, .operator, .FI_CAUSE_CLEAR, true⟩
  | .secClose w => some ⟨w, .service, .SEC_CLOSE, true⟩
  | .secReclose w => some ⟨w, .engineer, .SEC_RECLOSE, true⟩
  | .secRevoke w _ => some ⟨w, .service, .SEC_REVOKE, true⟩
  | .reopenPassword w _ => some ⟨w, .engineer, .REOPEN_PASSWORD, true⟩
  | .reopenChallenge w => some ⟨w, .observer, .REOPEN_CHALLENGE, false⟩
  | .reopenResponse w _ => some ⟨w, .observer, .REOPEN_RESPONSE, true⟩
  | .passwordSet w _ => some ⟨w, .service, .PASSWORD_SET, true⟩
  | .fwKeyRevoke w _ => some ⟨w, .service, .FW_KEY_REVOKE, true⟩
  | .fwStage w _ => some ⟨w, .engineer, .FW_STAGE, true⟩
  | .fwVerify w => some ⟨w, .engineer, .FW_VERIFY, true⟩
  | .fwActivateNextStart w => some ⟨w, .engineer, .FW_ACTIVATE, true⟩
  | .fwActivateNow w => some ⟨w, .engineer, .FW_ACTIVATE, true⟩
  | .fwConfirm w => some ⟨w, .engineer, .FW_CONFIRM, true⟩
  | .debugSet w _ => some ⟨w, .service, .DEBUG_SET, true⟩
  | .secCauseClear w _ => some ⟨w, .operator, .SEC_CAUSE_CLEAR, true⟩
  | .pwrRequestRun w => some ⟨w, .engineer, .PWR_REQUEST, true⟩
  | .pwrRequestDim w => some ⟨w, .engineer, .PWR_REQUEST, true⟩
  | .pwrRequestVigil w => some ⟨w, .engineer, .PWR_REQUEST, true⟩
  | .pwrRequestOff w => some ⟨w, .engineer, .PWR_REQUEST, true⟩
  | .pwrRequestOffDataLoss w => some ⟨w, .engineer, .PWR_REQUEST, true⟩
  | .pwCauseClear w _ => some ⟨w, .operator, .PW_CAUSE_CLEAR, true⟩
  | .stRunQuick w => some ⟨w, .engineer, .ST_RUN, true⟩
  | .stRunFull w => some ⟨w, .engineer, .ST_RUN, true⟩
  | .stStop w => some ⟨w, .engineer, .ST_STOP, true⟩
  | .repairAccept w => some ⟨w, .service, .REPAIR_ACCEPT, true⟩
  | .repairClear w _ => some ⟨w, .service, .REPAIR_CLEAR, true⟩
  | .repairFuse w _ => some ⟨w, .service, .REPAIR_FUSE, true⟩
  | .stCauseClear w _ => some ⟨w, .operator, .ST_CAUSE_CLEAR, true⟩
  | .servicePhaseNormal w => some ⟨w, .operator, .SERVICE_PHASE_SET, true⟩
  | .servicePhaseTest w => some ⟨w, .operator, .SERVICE_PHASE_SET, true⟩
  | .vatLeave w => some ⟨w, .engineer, .VAT_LEAVE, true⟩
  | .vatRejoin w => some ⟨w, .engineer, .VAT_REJOIN, true⟩
  | _ => none

end Sys2Proof.Machine
end

