-- ==== Sys2Proof/Certificates/Slice0/Obligations.lean ====
section
/-! DEFINITION. The statements for the provers: what the block does with each of its commands, what every step keeps, and the
round trips of its coded forms. A statement about a command names the hypotheses on the state and the operands under which the
command has its own effect, and says that exec then answers a next state, what that state holds, and that nothing else changes:
State.Within lists the objects by instance, State.WithinKinds by kind, and the parts that may differ, beside what
journalling and reporting change. -/

open Sys2Proof Sys2Proof.Machine

set_option linter.unusedVariables false

/-- The step of the block: a state whose queue begins with a command is taken to what that command does on the state
with the rest of the queue. With nothing pending, one cycle of the 500 MHz clock passes: the model's choice, log
entry 1. -/
def Obligations.StepTakesTheFront : Prop :=
  (∀ (c : Instr) (rest : List Instr) (s : State), s.pending = c :: rest →
    step s = exec c { s with pending := rest }) ∧
  (∀ s : State, s.pending = [] → step s = .next s.clockCycle ∧ s.clockCycle.time.cycle = s.time.cycle + 1)

/-- The values that the Default columns of the dictionary tables give the status, mode and counting objects, in the
state right after reset; nothing is pending, held or on its way. -/
def Obligations.ResetValues : Prop :=
  (∀ o ∈ [Obj.FRAME_STATE, .VT_STATE, .MODCLK_STATE, .START_STATE, .TWIN_STATE, .PWR_STATE, .CAVE_STATE, .RT_ROLE, .FW_STATE,
      .ST_STATE, .SERVICE_PHASE, .VAT_STATE, .RIPEN_STATE, .PRESS_CAUSE, .MJ_CAUSE], State.reset.get o 0 = 0) ∧
  (∀ o ∈ [Obj.EV_COUNT, .EV_PENDING, .FENCED, .LOCK_n, .MBX_STATE, .LANE_STATE, .PORT_STATE, .LINK_STATE, .COMP_LINK_STATE,
      .CH_PRESENCE, .SPARE_STATE, .SCAN_STATE, .TRIER_STATE, .COEF_STATE, .UNIT_STATE, .HIST_STATE, .QUEUE_FILL, .BANK_CAUSE,
      .TRIER_CAUSE, .LANE_CAUSE, .UNIT_CAUSE], ∀ i : Nat, State.reset.get o i = 0) ∧
  State.reset.get .VT_INCREMENT 0 = 0x02000000 ∧ State.reset.get .PTP_PORT_STATE 0 = 1 ∧
  State.reset.get .ARMED_INDEX 0 = 0xFFFFFFFFFFFFFFFF ∧ State.reset.get .ST_ITEM 0 = 0xFF ∧
  State.reset.get .VAT_REFERENCE 0 = 0x1FF ∧ (∀ w : Nat, State.reset.get .WIT_TWIN w = 0x1FF) ∧
  (∀ b : Nat, State.reset.get .COEF_PENDING b = 0xFF) ∧
  State.reset.pending = [] ∧ State.reset.queues = [] ∧ State.reset.cave.ring = [] ∧ State.reset.out = []

/-- State.Sound holds at reset: the stores of objects are in canonical form and every mode register holds one of its
codes. -/
def Obligations.ResetIsSound : Prop :=
  State.reset.Sound

/-- The invariant of the block, from every sound state: the step of any command, or of an empty queue, leaves the
stores of objects in canonical form and each of the mode registers of Obj.greatestCode at a code that the manual
lists for it. -/
def Obligations.StepKeepsSound : Prop :=
  ∀ s t : State, s.Sound → step s = .next t → t.Sound

/-- No command of the table faults or is refused by the model, whatever the state and its operands: an access that a
rule refuses answers with its code, and a happening whose condition does not hold changes nothing (log entry 1).
None adds to the queue of commands or takes from it. -/
def Obligations.EveryCommandCompletes : Prop :=
  ∀ (c : Instr) (s : State), ∃ t, exec c s = .next t ∧ t.pending = s.pending

/-- For every command that a requester sends: before the dictionary is served nothing happens; a role below that of
the object (R11) is answered ROLE; and a write by a requester other than the hub is answered ROLE while the hub is
Revoked, REFUSED without an image but for the objects of the firmware update, and REFUSED while the hub seals. In
each case nothing else changes. A dictionary write by index is judged by the object it finds, in the statement
WritesWithoutEffect. -/
def Obligations.RequestersAreJudged : Prop :=
  ∀ (c : Instr) (j : Judged) (s : State), judgedBy c = some j →
    (s.served = false → exec c s = .next s) ∧
    (s.served = true → j.who.role.rank < j.role.rank → exec c s = .next (s.reply .role)) ∧
    (s.served = true → j.role.rank ≤ j.who.role.rank → j.write = true → j.who.origin ≠ .hub →
      (s.get .SEC_STATE 0 = 4 → exec c s = .next (s.reply .role)) ∧
      (s.get .SEC_STATE 0 ≠ 4 → s.get .START_STATE 0 = 2 → j.obj ≠ .FW_STAGE → j.obj ≠ .FW_VERIFY → j.obj ≠ .FW_ACTIVATE →
        exec c s = .next (s.reply .refused)) ∧
      (s.get .SEC_STATE 0 ≠ 4 → s.get .START_STATE 0 ≠ 2 → s.get .PWR_STATE 0 = 3 → exec c s = .next (s.reply .refused)))

/-- Conventions of R10 and R11, over every object of the dictionary: such a write is answered with an error and
changes nothing else, and before the dictionary is served it has no effect at all. An Observer can write nothing
but the response to a reopening challenge, at index 0x1500. -/
def Obligations.WritesWithoutEffect : Prop :=
  (∀ (w : Who) (index sub type : Nat) (value : List Byte) (r : ObjInfo) (i : Nat) (s : State),
    entryAt index sub = .ok (r, i) →
    r.access = .ro ∨ (r.access = .rws ∧ s.running = true) ∨ w.role.rank < r.role.rank →
    ∃ e, e ≠ .ok ∧ exec (.dictWrite w index sub type value) s = .next (if s.served then s.reply e else s)) ∧
  (∀ (w : Who) (index sub type : Nat) (value : List Byte) (s : State), w.role = .observer → index ≠ 0x1500 →
    ∃ e, e ≠ .ok ∧ exec (.dictWrite w index sub type value) s = .next (if s.served then s.reply e else s))

/-- What State.raise does with an event whose route asks for no ring or mailbox delivery, but for EV 0xA1, which
begins a recovery: EV_COUNT gains 1 up to 0xFFFF_FFFF, EV_LAST takes VT, EV_PENDING is set when EV_ROUTE holds an
interrupt bit, and nothing else of any event changes. -/
def Obligations.RaiseCountsAnEvent : Prop :=
  ∀ (n : Nat) (s : State), s.routes n 4 = false → s.routes n 5 = false → n ≠ 0xA1 →
    (s.raise n).get .EV_COUNT n = min (s.get .EV_COUNT n + 1) 0xFFFFFFFF ∧
    (s.raise n).get .EV_LAST n = s.vtNow ∧
    (s.raise n).get .EV_PENDING n = (if field (s.get .EV_ROUTE n) 3 0 ≠ 0 then 1 else s.get .EV_PENDING n) ∧
    (∀ (o : Obj) (i : Nat), (o, i) ≠ (.EV_COUNT, n) → (o, i) ≠ (.EV_LAST, n) → (o, i) ≠ (.EV_PENDING, n) →
      (s.raise n).get o i = s.get o i) ∧
    (∀ p : Part, p ≠ .events → p.same s (s.raise n))

/-- R39 to R46, R52, R59, R65: the writes of the time unit, each where nothing bars it and where its own rule accepts
it. -/
def Obligations.TimeWrites : Prop :=
  (∀ (w : Who) (v : Int) (s : State), s.Open w .engineer .PT_SLEW → (((s.time.ptSlew + v * 256).natAbs : Int) ≤
    s.threshold24) → ∃ t, exec (.ptSlew w v) s = .next t ∧ t.time =
    { s.time with ptSlew := s.time.ptSlew + v * 256, ptSlewing := s.time.ptSlewing || v != 0 } ∧ t.answer =
    ⟨.ok, .unit⟩ ∧ s.Within [] [.time] t) ∧
  (∀ (w : Who) (v : Int) (s : State), s.Open w .engineer .SERVO_OWNER → s.notActingFor w = false → v = 0 ∨ v = 1 → ∃
    t, exec (.servoOwnerWrite w v) s = .next t ∧ t.time = { s.time with ownerNext := some v } ∧ t.answer =
    ⟨.ok, .unit⟩ ∧ s.Within [] [.time] t) ∧
  (∀ (w : Who) (v : Int) (s : State), s.Open w .engineer .VAT_EPOCH → s.notActingFor w = false → s.running = false →
    0 ≤ v → v % (1000000000 * 65536) = 0 → ∃ t, exec (.vatEpochWrite w v) s = .next t ∧ t.get .VAT_EPOCH 0 = v ∧
    t.answer = ⟨.ok, .unit⟩ ∧ s.Within [(.VAT_EPOCH, 0)] [.time] t) ∧
  (∀ (w : Who) (v : Int) (s : State), s.Open w .engineer .CLK_REF_SEL → s.notActingFor w = false → s.running = false
    → v = 0 ∨ v = 1 → (v = 1 → s.get .CLK10_PRESENT 0 = 1) → ∃ t, exec (.clkRefSelWrite w v) s = .next t ∧ t.get
    .CLK_REF_SEL 0 = v ∧ t.get .CLK_REF_ACTIVE 0 = v ∧ t.answer = ⟨.ok, .unit⟩ ∧ s.Within [(.CLK_REF_SEL, 0),
    (.CLK_REF_ACTIVE, 0)] [.time] t)

/-- R42, R44, R47, R50, R54, R65, R69, R72: what the time unit's own events do when their condition holds. A servo
cycle is the operation State.servo of one VT millisecond. -/
def Obligations.TimeEvents : Prop :=
  (∀ (s : State), s.time.vt / (1000000 * ns24) ≠ s.time.servoMs → s.engine.late = none → s.power.leaving = false → ∃
    t, exec (.servoCycle) s = .next t ∧ t.time.servoMs = s.time.vt / (1000000 * ns24) ∧ t.time.servoAt = s.time.cycle
    ∧ t.time.ownerNext = none ∧ t.get .SERVO_OWNER 0 = s.time.ownerNext.getD (s.get .SERVO_OWNER 0) ∧ s.WithinKinds
    [.SERVO_OWNER, .VT_STATE, .VT_INCREMENT, .HOLD_INCREMENT, .HOLDOVER_TIME, .PHASE_ERROR, .RT_CANDIDATES, .RT_GM,
    .RT_ROLE, .RT_LOOP_E, .RT_LOOP_W, .RT_RING_ASYM, .RT_OWN_OFFSET, .RT_PATHS, .RT_PATH_DIFF, .RT_DSUM_ERR,
    .RT_FAULT, .PORT_OFFSET, .TWIN_CAUSE, .VAT_DISAGREE, .VAT_STATE, .VAT_STATE_CHANGED] [.time, .ringTime, .vat] t) ∧
  (∀ (s : State), s.time.vt / (1000000 * ns24) ≠ s.time.servoMs → s.engine.late = none → s.power.leaving = false →
    s.get .VT_SOURCE 0 = 0 → (s.timePort 0).syncs = [] → (s.timePort 1).syncs = [] → s.get .VT_STATE 0 = 3 → ∃ t,
    exec (.servoCycle) s = .next t ∧ t.get .HOLDOVER_TIME 0 = min (s.get .HOLDOVER_TIME 0 + 1) 4294967295 ∧ t.get
    .VT_STATE 0 = 3 ∧ t.time.lostRun = s.time.lostRun + 1) ∧
  (∀ (off : Int) (s : State), s.time.vt / (1000000 * ns24) ≠ s.time.servoMs → s.engine.late = none → s.power.leaving
    = false → s.get .VT_SOURCE 0 = 2 → s.isCandidate = false → s.followsRing = false → s.ringTime.cands = [] → s.get
    .RT_GM 0 = 0x1FF → s.time.offset = some off → (((off * 256).natAbs : Int) ≤ s.threshold24) → s.get .VT_STATE 0 =
    1 → ((off.natAbs : Int) ≤ s.get .LOCK_WINDOW 0 * 65536) → (s.get .QUALIFY_COUNT 0 ≤ ((s.time.qualify + 1 : Nat) :
    Int)) → ∃ t, exec (.servoCycle) s = .next t ∧ t.get .PHASE_ERROR 0 = off ∧ t.get .VT_STATE 0 = 2 ∧ t.time.lostRun
    = 0) ∧
  (∀ (s : State), s.time.pt / (1000000 * ns24) ≠ s.time.ptMs → s.get .PTP_PORT_STATE 0 ≠ 9 → s.running = false → ∃ t,
    exec (.ptServoCycle) s = .next t ∧ t.get .PT_STATE 0 = 5 ∧ t.time.pt = s.time.vt - s.get .VT_PT_OFFSET 0 * ns24 ∧
    t.time.ptSlew = 0 ∧ t.time.ptMs = s.time.pt / (1000000 * ns24) ∧ s.Within [(.PT_STATE, 0)] [.time] t) ∧
  (∀ (lim : Int) (s : State), s.sourceTimeout = some lim → lim ≤ s.time.lostRun → s.time.lostRaised = false → s.get
    .VT_STATE 0 = 2 → ∃ t, exec (.timeSourceLost) s = .next t ∧ t.get .VT_STATE 0 = 3 ∧ t.time.lostRaised = true ∧
    t.get .EV_COUNT 0x03 = min (s.get .EV_COUNT 0x03 + 1) 4294967295 ∧ t.get .EV_COUNT 0x01 = min (s.get .EV_COUNT
    0x01 + 1) 4294967295 ∧ s.Within [(.VT_STATE, 0), (.HOLD_INCREMENT, 0), (.VT_INCREMENT, 0)] [.time] t) ∧
  (∀ (s : State), s.get .VT_STATE 0 = 3 → s.get .HOLDOVER_LIMIT 0 ≤ s.get .HOLDOVER_TIME 0 → ∃ t, exec
    (.holdoverLimitReached) s = .next t ∧ t.get .VT_STATE 0 = 4 ∧ t.get .EV_COUNT 0x02 = min (s.get .EV_COUNT 0x02 +
    1) 4294967295 ∧ s.Within [(.VT_STATE, 0)] [.time] t) ∧
  (∀ (s : State), s.time.vtSlewing = true → s.time.vtSlew = 0 → ∃ t, exec (.timeSlewDone false) s = .next t ∧ t.time
    = { s.time with vtSlewing := false } ∧ t.get .EV_COUNT 0x06 = min (s.get .EV_COUNT 0x06 + 1) 4294967295 ∧
    s.Within [] [.time] t) ∧
  (∀ (s : State), s.time.ptSlewing = true → s.time.ptSlew = 0 → ∃ t, exec (.timeSlewDone true) s = .next t ∧ t.time =
    { s.time with ptSlewing := false } ∧ t.get .EV_COUNT 0x06 = min (s.get .EV_COUNT 0x06 + 1) 4294967295 ∧ s.Within
    [] [.time] t) ∧
  (∀ (ratio : Nat) (s : State), s.get .CLK_REF_ACTIVE 0 = 1 → ∃ t, exec (.clk10Lost ratio) s = .next t ∧ t.get
    .CLK_REF_ACTIVE 0 = 0 ∧ t.get .CLK10_PRESENT 0 = 0 ∧ t.get .VT_INCREMENT 0 = scaleInc ratio (s.get .VT_INCREMENT
    0) ∧ t.get .EV_COUNT 0x0A = min (s.get .EV_COUNT 0x0A + 1) 4294967295 ∧ s.Within [(.CLK_REF_ACTIVE, 0),
    (.CLK10_PRESENT, 0), (.VT_INCREMENT, 0), (.HOLD_INCREMENT, 0), (.VT_STATE, 0), (.HOLDOVER_TIME, 0)] [.time] t) ∧
  (∀ (s : State), s.get .CLK_REF_SEL 0 = 0 ∨ s.time.clkLost = true ∨ s.running = true → ∃ t, exec (.clk10Present) s =
    .next t ∧ t.get .CLK10_PRESENT 0 = 1 ∧ t.get .CLK_REF_ACTIVE 0 = s.get .CLK_REF_ACTIVE 0 ∧ s.Within
    [(.CLK10_PRESENT, 0)] [] t) ∧
  (∀ (s : State), s.get .CLK_REF_SEL 0 = 1 → s.time.clkLost = false → s.running = false → ∃ t, exec (.clk10Present) s
    = .next t ∧ t.get .CLK10_PRESENT 0 = 1 ∧ t.get .CLK_REF_ACTIVE 0 = 1 ∧ s.Within [(.CLK10_PRESENT, 0),
    (.CLK_REF_ACTIVE, 0)] [] t) ∧
  (∀ (s : State), s.get .KT_CLOCK 0 = 0 → ∃ t, exec (.keeperClockFail) s = .next t ∧ t.get .KT_CLOCK 0 = 1 ∧
    t.time.rcFallback = true ∧ t.get .EV_COUNT 0x10 = min (s.get .EV_COUNT 0x10 + 1) 4294967295 ∧ s.Within
    [(.KT_CLOCK, 0)] [.time] t)

/-- R61, R64, R66, R68: locks of the modulator clock, edges of PPS_IN and PPS_OUT, and messages of the PTP port. -/
def Obligations.TimePins : Prop :=
  (∀ (s : State), s.get .MODCLK_STATE 0 = 1 → 64 ≤ s.time.phaseGood → ∃ t, exec (.modclkLocked) s = .next t ∧ t.get
    .MODCLK_STATE 0 = 2 ∧ t.get .EV_COUNT 0x08 = min (s.get .EV_COUNT 0x08 + 1) 4294967295 ∧ s.Within
    [(.MODCLK_STATE, 0), (.START_QUALIFIED, 0), (.START_DONE_INDEX, 0)] [.time, .engine] t) ∧
  (∀ (s : State), s.get .MODCLK_STATE 0 = 2 → s.time.phaseBad = true → ∃ t, exec (.modclkUnlock) s = .next t ∧ t.get
    .MODCLK_STATE 0 = 1 ∧ t.get .MODCLK_UNLOCKS 0 = countNext 4294967295 (s.get .MODCLK_UNLOCKS 0) ∧ t.get .EV_COUNT
    0x09 = min (s.get .EV_COUNT 0x09 + 1) 4294967295 ∧ s.Within [(.MODCLK_STATE, 0), (.MODCLK_UNLOCKS, 0),
    (.START_QUALIFIED, 0), (.START_DONE_INDEX, 0)] [.time, .engine] t) ∧
  (∀ (rising : Bool) (s : State), s.get .PPS_IN_ENABLE 0 = 1 → rising = (s.get .PPS_IN_EDGE 0 == 0) → (((fromSecond
    (s.time.vt - s.get .PPS_IN_DELAY 0 * ns24)).natAbs : Int) ≤ s.threshold24) → ∃ t, exec (.ppsInEdge rising) s =
    .next t ∧ t.get .PPS_IN_LAST 0 = (s.time.vt - s.get .PPS_IN_DELAY 0 * ns24) / 256 ∧ t.time.offset = some
    (fromSecond (s.time.vt - s.get .PPS_IN_DELAY 0 * ns24) / 256) ∧ t.time.ppsSince = s.time.cycle ∧ s.Within
    [(.PPS_IN_LAST, 0)] [.time] t) ∧
  (∀ (s : State), s.get .PPS_IN_ENABLE 0 = 1 → s.time.ppsRaised = false → msCycles (s.get .TIMEOUT_PPS 0).toNat <
    s.time.cycle - s.time.ppsSince → ∃ t, exec (.ppsInMissing) s = .next t ∧ t.time =
    { s.time with ppsRaised := true } ∧ t.get .EV_COUNT 0x0B = min (s.get .EV_COUNT 0x0B + 1) 4294967295 ∧ s.Within
    [] [.time] t) ∧
  (∀ (s : State), s.get .PPS_OUT_MODE 0 = 1 → s.time.ppsOutSecond < (s.time.vt + s.get .PPS_OUT_DELAY 0 * ns24) /
    second24 → ∃ t, exec (.ppsOutPulse) s = .next t ∧ t.time.ppsOut = true ∧ t.time.ppsOutSecond = (s.time.vt + s.get
    .PPS_OUT_DELAY 0 * ns24) / second24 ∧ t.time.ppsOutSince = s.time.cycle ∧ s.Within [] [.time] t) ∧
  (∀ (d : Nat) (tx rx : Int) (s : State), s.get .PTP_MODE 0 ≠ 0 → ((d : Int) = s.get .PTP_DOMAIN 0) → s.get
    .PTP_PORT_STATE 0 = 8 → tx ≠ 0 → ∃ t, exec (.ptpMessageRx d (.sync tx rx)) s = .next t ∧ t.get .PTP_OFFSET 0 =
    s.rxStamp rx - tx - s.get .PTP_MEAN_DELAY 0 ∧ t.get .PTP_PORT_STATE 0 = 9 ∧ t.time.ptOffset = some (s.rxStamp rx
    - tx - s.get .PTP_MEAN_DELAY 0) ∧ t.get .EV_COUNT 0x0E = min (s.get .EV_COUNT 0x0E + 1) 4294967295 ∧ s.Within
    [(.PTP_OFFSET, 0), (.PTP_PORT_STATE, 0)] [.time, .ptp] t) ∧
  (∀ (d : Nat) (rx : Int) (s : State), s.get .PTP_MODE 0 ≠ 0 → ((d : Int) = s.get .PTP_DOMAIN 0) → s.get
    .PTP_DELAY_MECH 0 = 0 → ∃ t, exec (.ptpMessageRx d (.delayResp rx)) s = .next t ∧ t.get .PTP_MEAN_DELAY 0 =
    ((s.ptp.syncRx - s.ptp.syncTx) + (rx - s.ptp.delayTx)) / 2 ∧ s.Within [(.PTP_MEAN_DELAY, 0)] [] t) ∧
  (∀ (s : State), s.get .PTP_MODE 0 = 1 → s.get .PTP_PORT_STATE 0 = 8 → (s.get .PTP_ANNOUNCE_TIMEOUT 0).toNat *
    logCycles (s.get .PTP_LOG_ANNOUNCE 0) < s.time.cycle - s.ptp.announceAt → ∃ t, exec (.ptpAnnounceTimeout) s =
    .next t ∧ t.get .PTP_PORT_STATE 0 = 4 ∧ t.get .EV_COUNT 0x0E = min (s.get .EV_COUNT 0x0E + 1) 4294967295 ∧
    s.Within [(.PTP_PORT_STATE, 0)] [.ptp] t) ∧
  (∀ (s : State), s.get .PTP_MODE 0 ≠ 0 → s.get .PTP_PORT_STATE 0 = 9 → s.get .PTP_DELAY_MECH 0 = 0 → logCycles
    (s.get .PTP_LOG_DELAY_REQ 0) ≤ s.time.cycle - s.ptp.delayAt → ∃ t, exec (.ptpMessageTx) s = .next t ∧ t.out =
    s.out ++ [.ptp 1 s.ptp.delaySeq s.txStamp s.clockClass (s.get .PTP_TRANSPORT 0 == 0) (s.get .PTP_TRANSPORT 0 == 0
    && s.get .PTP_ONE_STEP 0 == 1)] ∧ t.ptp.delaySeq = (s.ptp.delaySeq + 1) % 65536 ∧ t.ptp.delayAt = s.time.cycle ∧
    t.ptp.delayTx = s.txStamp ∧ s.Within [] [.out, .ptp] t)

/-- R108, R161, R196, R233, R268, R310, R347, R381, R435, R528, R558, R559, R586: a write of a cause register's clear
command clears the bits written as 1, but for a cause that arose in the same tick (R14). -/
def Obligations.CauseClears : Prop :=
  (∀ (w : Who) (b : Fin 32) (m : Nat) (s : State), s.Open w .operator .BANK_CAUSE_CLEAR → s.causedNow .BANK_CAUSE b
    &&& m = 0 → ∃ t, exec (.bankCauseClear w b m) s = .next t ∧ t.get .BANK_CAUSE b = withoutBits (s.get .BANK_CAUSE
    b) m ∧ t.answer = ⟨.ok, .unit⟩ ∧ s.Within [(.BANK_CAUSE, b.val)] [] t) ∧
  (∀ (w : Who) (b : Fin 4) (m : Nat) (s : State), s.Open w .operator .TRIER_CAUSE_CLEAR → s.causedNow .TRIER_CAUSE b
    &&& m = 0 → ∃ t, exec (.trierCauseClear w b m) s = .next t ∧ t.get .TRIER_CAUSE b = withoutBits (s.get
    .TRIER_CAUSE b) m ∧ t.answer = ⟨.ok, .unit⟩ ∧ s.Within [(.TRIER_CAUSE, b.val)] [] t) ∧
  (∀ (w : Who) (b : Fin 32) (m : Nat) (s : State), s.Open w .operator .LANE_CAUSE_CLEAR → s.causedNow .LANE_CAUSE b
    &&& m = 0 → ∃ t, exec (.laneCauseClear w b m) s = .next t ∧ t.get .LANE_CAUSE b = withoutBits (s.get .LANE_CAUSE
    b) m ∧ t.answer = ⟨.ok, .unit⟩ ∧ s.Within [(.LANE_CAUSE, b.val)] [] t) ∧
  (∀ (w : Who) (b : Fin 16) (m : Nat) (s : State), s.Open w .operator .UNIT_CAUSE_CLEAR → s.causedNow .UNIT_CAUSE b
    &&& m = 0 → ∃ t, exec (.unitCauseClear w b m) s = .next t ∧ t.get .UNIT_CAUSE b = withoutBits (s.get .UNIT_CAUSE
    b) m ∧ t.answer = ⟨.ok, .unit⟩ ∧ s.Within [(.UNIT_CAUSE, b.val)] [] t) ∧
  (∀ (w : Who) (m : Nat) (s : State), s.Open w .operator .PRESS_CAUSE_CLEAR → s.causedNow .PRESS_CAUSE 0 &&& m = 0 →
    ∃ t, exec (.pressCauseClear w m) s = .next t ∧ t.get .PRESS_CAUSE 0 = withoutBits (s.get .PRESS_CAUSE 0) m ∧
    t.answer = ⟨.ok, .unit⟩ ∧ s.Within [(.PRESS_CAUSE, 0)] [] t) ∧
  (∀ (w : Who) (m : Nat) (s : State), s.Open w .operator .QC_CAUSE_CLEAR → s.causedNow .QC_CAUSE 0 &&& m = 0 → ∃ t,
    exec (.qcCauseClear w m) s = .next t ∧ t.get .QC_CAUSE 0 = withoutBits (s.get .QC_CAUSE 0) m ∧ t.answer =
    ⟨.ok, .unit⟩ ∧ s.Within [(.QC_CAUSE, 0)] [] t) ∧
  (∀ (w : Who) (m : Nat) (s : State), s.Open w .operator .LN_CAUSE_CLEAR → s.causedNow .LN_CAUSE 0 &&& m = 0 → ∃ t,
    exec (.lnCauseClear w m) s = .next t ∧ t.get .LN_CAUSE 0 = withoutBits (s.get .LN_CAUSE 0) m ∧ t.answer =
    ⟨.ok, .unit⟩ ∧ s.Within [(.LN_CAUSE, 0)] [] t) ∧
  (∀ (w : Who) (m : Nat) (s : State), s.Open w .operator .RL_CAUSE_CLEAR → s.causedNow .RL_CAUSE 0 &&& m = 0 → ∃ t,
    exec (.rlCauseClear w m) s = .next t ∧ t.get .RL_CAUSE 0 = withoutBits (s.get .RL_CAUSE 0) m ∧ t.answer =
    ⟨.ok, .unit⟩ ∧ s.Within [(.RL_CAUSE, 0)] [] t) ∧
  (∀ (w : Who) (m : Nat) (s : State), s.Open w .operator .TWIN_CAUSE_CLEAR → s.causedNow .TWIN_CAUSE 0 &&& m = 0 → ∃
    t, exec (.twinCauseClear w m) s = .next t ∧ t.get .TWIN_CAUSE 0 = withoutBits (s.get .TWIN_CAUSE 0) m ∧ t.answer
    = ⟨.ok, .unit⟩ ∧ s.Within [(.TWIN_CAUSE, 0)] [] t) ∧
  (∀ (w : Who) (m : Nat) (s : State), s.Open w .operator .FI_CAUSE_CLEAR → s.causedNow .FI_CAUSE 0 &&& m = 0 → ∃ t,
    exec (.fiCauseClear w m) s = .next t ∧ t.get .FI_CAUSE 0 = withoutBits (s.get .FI_CAUSE 0) m ∧ t.answer =
    ⟨.ok, .unit⟩ ∧ s.Within [(.FI_CAUSE, 0)] [] t) ∧
  (∀ (w : Who) (m : Nat) (s : State), s.Open w .operator .SEC_CAUSE_CLEAR → s.causedNow .SEC_CAUSE 0 &&& m = 0 → ∃ t,
    exec (.secCauseClear w m) s = .next t ∧ t.get .SEC_CAUSE 0 = withoutBits (s.get .SEC_CAUSE 0) m ∧ t.answer =
    ⟨.ok, .unit⟩ ∧ s.Within [(.SEC_CAUSE, 0)] [] t) ∧
  (∀ (w : Who) (m : Nat) (s : State), s.Open w .operator .PW_CAUSE_CLEAR → s.causedNow .PW_CAUSE 0 &&& m = 0 → ∃ t,
    exec (.pwCauseClear w m) s = .next t ∧ t.get .PW_CAUSE 0 = withoutBits (s.get .PW_CAUSE 0) m ∧ t.answer =
    ⟨.ok, .unit⟩ ∧ s.Within [(.PW_CAUSE, 0)] [] t) ∧
  (∀ (w : Who) (m : Nat) (s : State), s.Open w .operator .ST_CAUSE_CLEAR → s.causedNow .ST_CAUSE 0 &&& m = 0 → ∃ t,
    exec (.stCauseClear w m) s = .next t ∧ t.get .ST_CAUSE 0 = withoutBits (s.get .ST_CAUSE 0) m ∧ t.answer =
    ⟨.ok, .unit⟩ ∧ s.Within [(.ST_CAUSE, 0)] [] t) ∧
  (∀ (w : Who) (m : Nat) (s : State), s.Open w .operator .MJ_CAUSE_CLEAR → (s.jrnCommand w .MJ_CAUSE_CLEAR 0 (.num
    m)).causedNow .MJ_CAUSE 0 &&& m = 0 → ∃ t, exec (.mjCauseClear w m) s = .next t ∧ t.get .MJ_CAUSE 0 = withoutBits
    ((s.jrnCommand w .MJ_CAUSE_CLEAR 0 (.num m)).get .MJ_CAUSE 0) m ∧ t.answer = ⟨.ok, .unit⟩ ∧ s.Within [] [] t)

/-- R85, R88, R90, R93: a good and a bad exchange of a companion, its time-out, and the presence of a channel. -/
def Obligations.Companions : Prop :=
  (∀ (b : Fin 32) (resp : BitVec 48) (c : CompCmd) (s : State), (s.bank b).sent = some c → s.get .COMP_LINK_STATE b =
    1 ∨ s.get .COMP_LINK_STATE b = 3 → (CompResp.ofWord resp.toNat).good c = true → c.opc = 2 → c.reg = 0x10 →
    (CompResp.ofWord resp.toNat).data / 256 = 1 → 7 ≤ (s.bank b).goodRun → ∃ t, exec (.compResponseRx b resp) s =
    .next t ∧ t.get .COMP_LINK_STATE b = 2 ∧ t.get .COMP_VERSION b = (CompResp.ofWord resp.toNat).data ∧ t.get
    .COMP_STATUS b = (CompResp.ofWord resp.toNat).status ∧ (t.bank b).sent = none ∧ (t.bank b).goodRun = (s.bank
    b).goodRun + 1 ∧ (t.bank b).badRun = 0 ∧ (t.bank b).writes.map (fun x => x.1) = [1, 2, 3, 4] ∧ bit (t.get
    .BANK_CAUSE b) 4 = true ∧ s.Within [(.COMP_LINK_STATE, b.val), (.COMP_VERSION, b.val), (.COMP_STATUS, b.val),
    (.BANK_CAUSE, b.val), (.FENCE_SUPPRESSED, 0), (.START_QUALIFIED, 0), (.START_DONE_INDEX, 0)] [.banks, .scans,
    .engine] t) ∧
  (∀ (b : Fin 32) (resp : BitVec 48) (c : CompCmd) (s : State), (s.bank b).sent = some c → s.get .COMP_LINK_STATE b =
    2 → (CompResp.ofWord resp.toNat).good c = true → c.opc = 0 → ∃ t, exec (.compResponseRx b resp) s = .next t ∧
    t.get .COMP_LINK_STATE b = 2 ∧ t.get .COMP_STATUS b = (CompResp.ofWord resp.toNat).status ∧ t.get
    .COMP_LOOP_FAULT b = (CompResp.ofWord resp.toNat).data ∧ (t.bank b).sent = none ∧ (t.bank b).goodRun = (s.bank
    b).goodRun + 1 ∧ (t.bank b).badRun = 0 ∧ (((CompResp.ofWord resp.toNat).status ≠ 0 → bit (t.get .BANK_CAUSE b) 5
    = true)) ∧ s.Within [(.COMP_LOOP_FAULT, b.val), (.COMP_STATUS, b.val), (.BANK_CAUSE, b.val), (.FENCE_SUPPRESSED,
    0), (.START_QUALIFIED, 0), (.START_DONE_INDEX, 0)] [.banks, .scans, .engine] t) ∧
  (∀ (b : Fin 32) (resp : BitVec 48) (c : CompCmd) (s : State), (s.bank b).sent = some c → s.get .COMP_LINK_STATE b =
    2 → (CompResp.ofWord resp.toNat).good c = false → (s.bank b).badRun < 3 → ∃ t, exec (.compResponseRx b resp) s =
    .next t ∧ t.get .COMP_ERRORS b = countNext 4294967295 (s.get .COMP_ERRORS b) ∧ t.bank b =
    { s.bank b with sent := none, goodRun := 0, badRun := (s.bank b).badRun + 1 } ∧ t.get .COMP_LINK_STATE b = 2 ∧
    s.Within [(.COMP_ERRORS, b.val), (.START_QUALIFIED, 0), (.START_DONE_INDEX, 0)] [.banks, .engine] t) ∧
  (∀ (b : Fin 32) (s : State), s.get .COMP_LINK_STATE b = 1 → 256 ≤ (s.bank b).syncTicks → ∃ t, exec
    (.compSyncTimeout b) s = .next t ∧ t.get .COMP_LINK_STATE b = 3 ∧ bit (t.get .BANK_CAUSE b) 3 = true ∧ s.Within
    [(.COMP_LINK_STATE, b.val), (.BANK_CAUSE, b.val), (.FENCE_SUPPRESSED, 0), (.START_QUALIFIED, 0),
    (.START_DONE_INDEX, 0)] [.engine] t) ∧
  (∀ (c : Fin 512) (n : Int) (s : State), (s.chan c).verdict = some (n, true) → s.hasRecords c = true → s.get
    .CH_PRESENCE c = 1 → 2 ≤ (s.chan c).failRun → s.bankOn (bankOf c) = true → s.fenced 0 (bankOf c) = false → ∃ t,
    exec (.channelAbsent c) s = .next t ∧ t.get .CH_PRESENCE c = 2 ∧ t.get .CH_ABSENT_COUNT c = countNext 4294967295
    (s.get .CH_ABSENT_COUNT c) ∧ (t.chan c).marks = ⟨.absent, .presence, (s.chan c).failFrom, none⟩ :: (s.chan
    c).marks ∧ bit (t.get .BANK_CAUSE (bankOf c)) 0 = true ∧ s.Within [(.CH_PRESENCE, c.val), (.CH_ABSENT_COUNT,
    c.val), (.BANK_CAUSE, bankOf c), (.FENCE_SUPPRESSED, 0), (.START_QUALIFIED, 0), (.START_DONE_INDEX, 0)] [.chans,
    .engine] t) ∧
  (∀ (c : Fin 512) (s : State), (s.chan c).verdict = none → s.get .CH_PRESENCE c = 1 → 3 ≤ (s.chan c).failRun →
    s.bankOn (bankOf c) = true → s.fenced 0 (bankOf c) = false → ∃ t, exec (.channelAbsent c) s = .next t ∧ t.get
    .CH_PRESENCE c = 2 ∧ t.get .CH_ABSENT_COUNT c = countNext 4294967295 (s.get .CH_ABSENT_COUNT c) ∧ (t.chan
    c).marks = ⟨.absent, .presence, (s.chan c).failFrom, none⟩ :: (s.chan c).marks ∧ bit (t.get .BANK_CAUSE (bankOf
    c)) 0 = true ∧ s.Within [(.CH_PRESENCE, c.val), (.CH_ABSENT_COUNT, c.val), (.BANK_CAUSE, bankOf c),
    (.FENCE_SUPPRESSED, 0), (.START_QUALIFIED, 0), (.START_DONE_INDEX, 0)] [.chans, .engine] t) ∧
  (∀ (c : Fin 512) (s : State), (s.chan c).verdict = none → s.get .CH_PRESENCE c = 2 → (s.get .REQUAL_TICKS (bankOf
    c) ≤ ((s.chan c).passRun : Int)) → s.bankOn (bankOf c) = true → s.fenced 0 (bankOf c) = false → ∃ t, exec
    (.channelRequalify c) s = .next t ∧ t.get .CH_PRESENCE c = 3 ∧ t.get .CH_WIRE_FAULT c = 0 ∧ (t.chan c).failRun =
    0 ∧ (t.chan c).passRun = 0 ∧ s.Within [(.CH_PRESENCE, c.val), (.CH_WIRE_FAULT, c.val), (.START_QUALIFIED, 0),
    (.START_DONE_INDEX, 0)] [.chans, .engine] t) ∧
  (∀ (c : Fin 512) (s : State), (s.chan c).verdict = none → s.get .CH_PRESENCE c = 3 → (s.chan c).release ≤ s.tickKey
    → s.bankOn (bankOf c) = true → s.fenced 0 (bankOf c) = false → s.hasSpare (bankOf c) = false → ∃ t, exec
    (.channelReleased c) s = .next t ∧ t.get .CH_PRESENCE c = 1 ∧ bit (t.get .BANK_CAUSE (bankOf c)) 1 = true ∧
    s.Within [(.CH_PRESENCE, c.val), (.BANK_CAUSE, bankOf c), (.FENCE_SUPPRESSED, 0), (.START_QUALIFIED, 0),
    (.START_DONE_INDEX, 0)] [.engine] t)

/-- R95 to R105: the stages of the spare modulator of a bank, and what a calibration changes. -/
def Obligations.SpareModulators : Prop :=
  (∀ (b : Fin 32) (m : Fin 16) (s : State), s.bankOn b = true → (s.bank b).monRuns = [(m.val, 2)] → (s.bank b).failed
    = [] → s.running = true → s.get .SPARE_STATE b = 0 → ∃ t, exec (.modulatorFailed b m.castSucc) s = .next t ∧
    t.get .SPARE_STATE b = 7 ∧ t.get .SPARE_CHANNEL b = m.val ∧ (t.bank b).failed = [m.val] ∧ bit (t.get .BANK_CAUSE
    b) 7 = true ∧ bit (t.get .BANK_CAUSE b) 8 = true ∧ t.get .CH_PRESENCE (16 * b.val + m.val) = s.get .CH_PRESENCE
    (16 * b.val + m.val)) ∧
  (∀ (b : Fin 32) (m : Fin 16) (s : State), s.bankOn b = true → (s.bank b).monRuns = [(m.val, 2)] → (s.bank
    b).failed.contains m.val = false → s.get .SPARE_STATE b = 8 → ∃ t, exec (.modulatorFailed b m.castSucc) s = .next
    t ∧ t.get .CH_PRESENCE (16 * b.val + m.val) = 5 ∧ t.get .CH_WIRE_FAULT (16 * b.val + m.val) = 5 ∧ (t.bank
    b).failed = m.val :: (s.bank b).failed ∧ bit (t.get .BANK_CAUSE b) 7 = true ∧ s.Within [(.CH_PRESENCE, 16 * b.val
    + m.val), (.CH_WIRE_FAULT, 16 * b.val + m.val), (.BANK_CAUSE, b.val), (.FENCE_SUPPRESSED, 0), (.START_QUALIFIED,
    0), (.START_DONE_INDEX, 0)] [.banks, .chans, .engine] t) ∧
  (∀ (b : Fin 32) (s : State), s.bankOn b = true → 2 ≤ s.monRun b 16 → (s.bank b).failed.contains 16 = false → s.get
    .SPARE_STATE b = 0 → ∃ t, exec (.modulatorFailed b 16) s = .next t ∧ t.get .SPARE_STATE b = 8 ∧ t.get
    .SPARE_CHANNEL b = 0xFF ∧ (t.bank b).failed.contains 16 = true ∧ bit (t.get .BANK_CAUSE b) 10 = true ∧ s.Within
    [(.SPARE_STATE, b.val), (.SPARE_CHANNEL, b.val), (.BANK_CAUSE, b.val), (.FENCE_SUPPRESSED, 0), (.START_QUALIFIED,
    0), (.START_DONE_INDEX, 0)] [.banks, .engine] t) ∧
  (∀ (b : Fin 32) (s : State), s.get .SPARE_STATE b = 1 → (s.bank b).spare.spanEnd < s.tickKey → s.bankOn b = true →
    (s.bank b).spare.visit ≠ .calibrate → ∃ t, exec (.spareSettled b) s = .next t ∧ t.get .SPARE_STATE b = 2 ∧ t.get
    .SPARE_CHANNEL b = s.spareInput b ∧ (t.bank b).spare.pairs = 0 ∧ (t.bank b).spare.from_ = (s.bank
    b).spare.spanEnd + presetPeriod (s.preset (16 * b.val + s.spareInput b)) ∧ t.draws = s.draws + 2 ∧ s.Within
    [(.SPARE_STATE, b.val), (.SPARE_CHANNEL, b.val), (.SPARE_OFFSET, 16 * b.val + s.spareInput b), (.SPARE_GAIN, 16 *
    b.val + s.spareInput b), (.START_QUALIFIED, 0), (.START_DONE_INDEX, 0)] [.banks, .draws, .engine] t) ∧
  (∀ (b : Fin 32) (s : State), s.get .SPARE_STATE b = 2 → (s.bank b).spare.upto + presetLatency (s.preset (16 * b.val
    + s.spareInput b)) ≤ s.tickKey → s.bankOn b = true → (s.bank b).monRuns = [] → (s.bank b).spare.spoiled = false →
    16 ≤ (s.bank b).spare.pairs → (((s.bank b).spare.diffSum.natAbs : Int) ≤ s.get .SHADOW_MEAN_LIMIT b * 256 *
    (s.bank b).spare.pairs) → (((s.bank b).spare.diffSq : Int) ≤ s.get .SHADOW_RMS_LIMIT b * s.get .SHADOW_RMS_LIMIT
    b * 65536 * (s.bank b).spare.pairs) → ∃ t, exec (.shadowVerdict b) s = .next t ∧ t.get .SHADOW_LAST b =
    s.spareInput b * 2 ^ 56 + (s.bank b).spare.from_ % 2 ^ 56 ∧ t.get .SPARE_STATE b ≤ 1 ∧ s.Within [(.SHADOW_LAST,
    b.val), (.SPARE_STATE, b.val), (.SPARE_CHANNEL, b.val), (.START_QUALIFIED, 0), (.START_DONE_INDEX, 0)] [.banks,
    .engine] t) ∧
  (∀ (b : Fin 32) (s : State), s.get .SPARE_STATE b = 2 → (s.bank b).spare.upto + presetLatency (s.preset (16 * b.val
    + s.spareInput b)) ≤ s.tickKey → s.bankOn b = true → (s.bank b).monRuns = [] → (s.bank b).spare.spoiled = true ∨
    (s.bank b).spare.pairs < 16 → ∃ t, exec (.shadowVerdict b) s = .next t ∧ t.get .SHADOW_SKIPS b = countNext
    4294967295 (s.get .SHADOW_SKIPS b) ∧ t.get .SHADOW_LAST b = 2 * 2 ^ 60 + s.spareInput b * 2 ^ 56 + (s.bank
    b).spare.from_ % 2 ^ 56 ∧ t.get .SPARE_STATE b ≤ 1 ∧ s.Within [(.SHADOW_LAST, b.val), (.SHADOW_SKIPS, b.val),
    (.SPARE_STATE, b.val), (.SPARE_CHANNEL, b.val), (.START_QUALIFIED, 0), (.START_DONE_INDEX, 0)] [.banks, .engine]
    t) ∧
  (∀ (b : Fin 32) (s : State), s.get .SPARE_STATE b = 2 → (s.bank b).spare.upto + presetLatency (s.preset (16 * b.val
    + s.spareInput b)) ≤ s.tickKey → s.bankOn b = true → (s.bank b).monRuns = [] → (s.bank b).spare.spoiled = false →
    16 ≤ (s.bank b).spare.pairs → (s.get .SHADOW_MEAN_LIMIT b * 256 * (s.bank b).spare.pairs < ((s.bank
    b).spare.diffSum.natAbs : Int)) → ∃ t, exec (.shadowVerdict b) s = .next t ∧ t.get .SHADOW_LAST b = 2 ^ 60 +
    s.spareInput b * 2 ^ 56 + (s.bank b).spare.from_ % 2 ^ 56 ∧ t.get .SPARE_STATE b = 3 ∧ t.get .SHADOW_MISMATCHES b
    = countNext 4294967295 (s.get .SHADOW_MISMATCHES b) ∧ bit (t.get .BANK_CAUSE b) 6 = true ∧ s.Within
    [(.SHADOW_LAST, b.val), (.SHADOW_MISMATCHES, b.val), (.BANK_CAUSE, b.val), (.FENCE_SUPPRESSED, 0), (.SPARE_STATE,
    b.val), (.SPARE_CHANNEL, b.val), (.START_QUALIFIED, 0), (.START_DONE_INDEX, 0)] [.banks, .chans, .engine] t) ∧
  (∀ (b : Fin 32) (s : State), s.bankOn b = true → (s.bank b).monRuns = [] → (s.bank b).spare.stageEnd ≤ s.tickKey →
    s.get .SPARE_STATE b = 3 → (s.bank b).spare.visit = .calibrate → ∃ t, exec (.spareFadeDone b) s = .next t ∧ t.get
    .SPARE_STATE b = 5 ∧ t.get .SPARE_CHANNEL b = s.spareInput b ∧ (t.bank b).spare.off = some (s.tickKey, s.tickKey
    + 1024) ∧ s.Within [(.SPARE_STATE, b.val), (.SPARE_CHANNEL, b.val), (.START_QUALIFIED, 0), (.START_DONE_INDEX,
    0)] [.banks, .engine] t) ∧
  (∀ (b : Fin 32) (live spare : List Int) (s : State), s.get .SPARE_STATE b = 4 → s.bankOn b = true → (s.bank
    b).monRuns = [] → (s.bank b).spare.stageEnd ≤ s.tickKey → arbPasses (s.get .ARB_LIMIT b) live = false → arbPasses
    (s.get .ARB_LIMIT b) spare = true → ∃ t, exec (.arbitrateVerdict b live spare) s = .next t ∧ t.get .SPARE_STATE b
    = 7 ∧ t.get .SPARE_CHANNEL b = s.spareInput b ∧ (t.bank b).spare.off = none ∧ (t.bank b).failed.contains
    (s.spareInput b) = true ∧ bit (t.get .BANK_CAUSE b) 7 = true ∧ bit (t.get .BANK_CAUSE b) 8 = true ∧ s.WithinKinds
    [.BANK_CAUSE, .FENCE_SUPPRESSED, .REPAIR_ENTRY_n, .REPAIR_PROPOSED, .SPARE_CHANNEL, .SPARE_STATE,
    .START_DONE_INDEX, .START_QUALIFIED, .ST_CAUSE] [.banks, .engine, .cave, .test, .out] t) ∧
  (∀ (w : Who) (c : Fin 512) (s : State), s.Open w .service .CH_CALIBRATE → s.running = false → (s.bank (bankOf
    c)).calNow = none → ∃ t, exec (.chCalibrate w c) s = .next t ∧ t.bank (bankOf c) =
    { s.bank (bankOf c) with calNow := some (inputOf c, s.time.cycle + tickCycles 1024) } ∧ t.answer = ⟨.ok, .unit⟩ ∧
    s.Within [] [.banks] t) ∧
  (∀ (b : Fin 32) (offset : Int) (gain i at_ : Nat) (s : State), s.running = false → (s.bank b).calNow = some (i,
    at_) → at_ ≤ s.time.cycle → (s.bank b).calQueue = [] → ∃ t, exec (.calibrationDone b offset gain) s = .next t ∧
    t.get .CAL_OFFSET (16 * b.val + i) = clampInt (-2147483648) 2147483647 offset ∧ t.get .CAL_GAIN (16 * b.val + i)
    = (gain % 4294967296 : Nat) ∧ (t.bank b).calNow = none ∧ bit (t.get .BANK_CAUSE b) 11 = true ∧ s.Within
    [(.CAL_OFFSET, 16 * b.val + i), (.CAL_GAIN, 16 * b.val + i), (.BANK_CAUSE, b.val), (.FENCE_SUPPRESSED, 0),
    (.START_QUALIFIED, 0), (.START_DONE_INDEX, 0)] [.banks, .engine] t) ∧
  (∀ (w : Who) (c : Fin 512) (s : State), s.Open w .service .CH_CALIBRATE → s.running = true → s.hasSpare (bankOf c)
    = false ∨ s.hasRecords c = false → ∃ t, exec (.chCalibrate w c) s = .next t ∧ t.answer = ⟨.refused, .unit⟩ ∧ bit
    (t.get .BANK_CAUSE (bankOf c)) 12 = true ∧ s.Within [(.BANK_CAUSE, bankOf c), (.FENCE_SUPPRESSED, 0)] [] t) ∧
  (∀ (w : Who) (c : Fin 512) (s : State), s.Open w .service .CH_CALIBRATE → s.running = true → s.hasSpare (bankOf c)
    = true → s.hasRecords c = true → 3 ≤ s.get .SPARE_STATE (bankOf c) → ∃ t, exec (.chCalibrate w c) s = .next t ∧
    (t.bank (bankOf c)).calQueue.contains (inputOf c) = true ∧ t.answer = ⟨.ok, .unit⟩ ∧ s.Within [] [.banks] t) ∧
  (∀ (w : Who) (b : Fin 32) (s : State), s.Open w .service .BANK_DELAY_CAL → s.running = false → ∃ t, exec
    (.bankDelayCal w b) s = .next t ∧ t.bank b = { s.bank b with delayCal := some (s.time.cycle + tickCycles 256) } ∧
    t.answer = ⟨.ok, .unit⟩ ∧ s.Within [] [.banks] t) ∧
  (∀ (b : Fin 32) (at_ : Nat) (live spare : List Int) (s : State), (s.bank b).delayCal = some at_ → at_ ≤
    s.time.cycle → live.length = 16 → spare.length = 16 → live.all (delayAllowed (s.get .LANE_TRIM b)) = true →
    spare.all (delayAllowed (s.get .LANE_TRIM b)) = true → ∃ t, exec (.bankDelayCalDone b live spare) s = .next t ∧
    (t.bank b).delayCal = none ∧ bit (t.get .BANK_CAUSE b) 11 = true ∧ (∀ i < 16, t.get .GROUP_DELAY (16 * b.val + i)
    = live.getD i 0 ∧ t.get .SPARE_DELAY (16 * b.val + i) = spare.getD i 0) ∧ s.WithinKinds [.BANK_CAUSE,
    .FENCE_SUPPRESSED, .GROUP_DELAY, .SPARE_DELAY] [.banks] t)

/-- R114, R118, R120, R123, R132: the boundaries of a scan table's executions, its holds, and what its tests hand
over. -/
def Obligations.ScanTables : Prop :=
  (∀ (b : Fin 32) (e : Exec) (s : State), s.bankOn b = true → s.get .SCAN_STATE b = 2 → (s.scan b).current = some e →
    e.stop ≤ s.tickKey + 1 → (s.scan b).holdWait = true → ∃ t, exec (.scanExecutionBoundary b) s = .next t ∧ t.get
    .SCAN_STATE b = 3 ∧ (t.scan b).current = none ∧ (t.scan b).holdWait = false ∧ s.WithinKinds [.SCAN_ENTRY,
    .SCAN_EXECUTION, .SCAN_PASS, .SCAN_STATE, .START_DONE_INDEX, .START_QUALIFIED] [.chans, .banks, .scans, .engine]
    t) ∧
  (∀ (b : Fin 32) (e : Exec) (s : State), s.bankOn b = true → s.get .SCAN_STATE b = 2 → (s.scan b).current = some e →
    e.stop ≤ s.tickKey + 1 → (s.scan b).holdWait = false → e.number < (s.scanEntry b e.entry).rep → ∃ t, exec
    (.scanExecutionBoundary b) s = .next t ∧ t.get .SCAN_STATE b = 2 ∧ t.get .SCAN_ENTRY b = e.entry ∧ t.get
    .SCAN_EXECUTION b = (e.number + 1 : Nat) ∧ t.get .SCAN_PASS b = e.pass ∧ (t.scan b).current.map (fun x =>
    (x.start, x.stop)) = some (e.stop, e.stop + (s.scanEntry b e.entry).dwell) ∧ s.WithinKinds [.SCAN_ENTRY,
    .SCAN_EXECUTION, .SCAN_PASS, .SCAN_STATE, .START_DONE_INDEX, .START_QUALIFIED] [.chans, .banks, .scans, .engine]
    t) ∧
  (∀ (b : Fin 32) (e : Exec) (s : State), s.bankOn b = true → s.get .SCAN_STATE b = 2 → (s.scan b).current = some e →
    e.stop ≤ s.tickKey + 1 → (s.scan b).holdWait = false → (s.scanEntry b e.entry).rep ≤ e.number → ((e.entry + 1 :
    Int) < s.get .SCAN_LENGTH b) → ∃ t, exec (.scanExecutionBoundary b) s = .next t ∧ t.get .SCAN_STATE b = 2 ∧ t.get
    .SCAN_ENTRY b = (e.entry + 1 : Nat) ∧ t.get .SCAN_EXECUTION b = 0 ∧ t.get .SCAN_PASS b = e.pass ∧ (t.scan
    b).current.map (fun x => (x.start, x.stop)) = some (e.stop, e.stop + (s.scanEntry b (e.entry + 1)).dwell) ∧
    s.WithinKinds [.SCAN_ENTRY, .SCAN_EXECUTION, .SCAN_PASS, .SCAN_STATE, .START_DONE_INDEX, .START_QUALIFIED]
    [.chans, .banks, .scans, .engine] t) ∧
  (∀ (b : Fin 32) (e : Exec) (s : State), s.bankOn b = true → s.get .SCAN_STATE b = 2 → (s.scan b).current = some e →
    e.stop ≤ s.tickKey + 1 → (s.scan b).holdWait = false → (s.scanEntry b e.entry).rep ≤ e.number → (s.get
    .SCAN_LENGTH b ≤ (e.entry + 1 : Int)) → ∃ t, exec (.scanExecutionBoundary b) s = .next t ∧ t.get .SCAN_STATE b =
    2 ∧ t.get .SCAN_ENTRY b = 0 ∧ t.get .SCAN_EXECUTION b = 0 ∧ t.get .SCAN_PASS b = (e.pass + 1 : Nat) ∧ (t.scan
    b).current.map (fun x => (x.start, x.stop)) = some (e.stop, e.stop + (s.scanEntry b 0).dwell) ∧ s.WithinKinds
    [.SCAN_ENTRY, .SCAN_EXECUTION, .SCAN_PASS, .SCAN_STATE, .START_DONE_INDEX, .START_QUALIFIED] [.chans, .banks,
    .scans, .engine] t) ∧
  (∀ (b : Fin 32) (r : TestRun) (i : Fin 16) (code : Int) (s : State), (s.scan b).runs = [r] → r.closed = true → 3 ≤
    r.kind → r.left = [i.val] → r.fenced = false → s.acting = true → s.runReady b r i s.tickKey = true → s.runVerdict
    b r i = some code → code ≠ 0 → s.fenced 0 b = false → s.get .CH_PRESENCE (16 * b.val + i.val) = 1 → ∃ t, exec
    (.scanTestVerdict b) s = .next t ∧ t.get .CH_WIRE_FAULT (16 * b.val + i.val) = code ∧ t.get .CH_PRESENCE (16 *
    b.val + i.val) = 4 ∧ t.get .CH_FAULT_COUNT (16 * b.val + i.val) = countNext 4294967295 (s.get .CH_FAULT_COUNT (16
    * b.val + i.val)) ∧ t.get .SCAN_TESTS b = countNext 4294967295 (s.get .SCAN_TESTS b) ∧ bit (t.get .BANK_CAUSE b)
    2 = true ∧ (t.scan b).runs = [] ∧ s.Within [(.CH_WIRE_FAULT, 16 * b.val + i.val), (.CH_PRESENCE, 16 * b.val +
    i.val), (.CH_FAULT_COUNT, 16 * b.val + i.val), (.SCAN_TESTS, b.val), (.BANK_CAUSE, b.val), (.FENCE_SUPPRESSED,
    0), (.START_QUALIFIED, 0), (.START_DONE_INDEX, 0)] [.chans, .scans, .engine] t) ∧
  (∀ (b : Fin 32) (r : TestRun) (i : Fin 16) (s : State), (s.scan b).runs = [r] → r.closed = true → 3 ≤ r.kind →
    r.left = [i.val] → r.fenced = false → s.acting = true → s.runReady b r i s.tickKey = true → s.runVerdict b r i =
    some 0 → s.fenced 0 b = false → s.get .CH_PRESENCE (16 * b.val + i.val) = 4 → (s.chan (16 * b.val +
    i.val)).faultKind = r.kind → ∃ t, exec (.scanTestVerdict b) s = .next t ∧ t.get .CH_WIRE_FAULT (16 * b.val +
    i.val) = 0 ∧ t.get .CH_PRESENCE (16 * b.val + i.val) = 3 ∧ t.get .SCAN_TESTS b = countNext 4294967295 (s.get
    .SCAN_TESTS b) ∧ (t.scan b).runs = [] ∧ s.Within [(.CH_WIRE_FAULT, 16 * b.val + i.val), (.CH_PRESENCE, 16 * b.val
    + i.val), (.SCAN_TESTS, b.val), (.START_QUALIFIED, 0), (.START_DONE_INDEX, 0)] [.chans, .scans, .engine] t) ∧
  (∀ (b : Fin 32) (r : TestRun) (i : Fin 16) (s : State), (s.scan b).runs = [r] → r.closed = true → 3 ≤ r.kind →
    r.left = [i.val] → r.fenced = false → s.acting = true → s.runReady b r i s.tickKey = true → s.runVerdict b r i =
    none → ∃ t, exec (.scanTestVerdict b) s = .next t ∧ t.get .SCAN_INCONCLUSIVE b = countNext 4294967295 (s.get
    .SCAN_INCONCLUSIVE b) ∧ (t.scan b).runs = [] ∧ s.Within [(.SCAN_INCONCLUSIVE, b.val), (.START_QUALIFIED, 0),
    (.START_DONE_INDEX, 0)] [.scans, .engine] t) ∧
  (∀ (b : Fin 32) (r : TestRun) (e : Exec) (i : Fin 16) (s : State), (s.scan b).runs = [r] → r.closed = true → r.kind
    = 2 → r.left = [i.val] → r.execs = [e] → s.acting = true → s.runReady b r i s.tickKey = true → (e.stat i).numA ≠
    0 → (s.cfgAt (16 * b.val + i.val) e.start).exc ≠ 0 → ∃ t, exec (.leadExecutionDone b) s = .next t ∧ t.get
    .LEAD_EST_i (16 * b.val + i.val) = clampInt (-2147483648) 2147483647 (roundAt .leadEst ((e.stat i).sumA *
    fullScale (s.cfgAt (16 * b.val + i.val) e.start).range) (((e.stat i).numA : Int) * (s.cfgAt (16 * b.val + i.val)
    e.start).exc * 2147483648)) ∧ (t.chan (16 * b.val + i.val)).leadDone = true ∧ (t.scan b).runs = [] ∧ s.Within
    [(.LEAD_EST_i, 16 * b.val + i.val), (.START_QUALIFIED, 0), (.START_DONE_INDEX, 0)] [.chans, .scans, .engine] t) ∧
  (∀ (b : Fin 32) (r : TestRun) (e : Exec) (i : Fin 16) (s : State), (s.scan b).runs = [r] → r.closed = true → r.kind
    = 2 → r.left = [i.val] → r.execs = [e] → s.runReady b r i s.tickKey = true → (e.stat i).numA = 0 → ∃ t, exec
    (.leadExecutionDone b) s = .next t ∧ t.get .LEAD_EST_i (16 * b.val + i.val) = s.get .LEAD_EST_i (16 * b.val +
    i.val) ∧ (t.scan b).runs = [] ∧ s.Within [(.START_QUALIFIED, 0), (.START_DONE_INDEX, 0)] [.scans, .engine] t) ∧
  (∀ (w : Who) (b : Fin 32) (e : Exec) (s : State), s.Open w .operator .SCAN_HOLD → s.get .SCAN_STATE b = 2 → (s.scan
    b).holdWait = false → (s.scan b).current = some e → ∃ t, exec (.scanHold w b) s = .next t ∧ t.scan b =
    { s.scan b with holdWait := true } ∧ t.answer = ⟨.ok, .unit⟩ ∧ s.Within [] [.scans] t) ∧
  (∀ (w : Who) (b : Fin 32) (s : State), s.Open w .operator .SCAN_HOLD → s.get .SCAN_STATE b = 2 → (s.scan
    b).holdWait = false → (s.scan b).current = none → ∃ t, exec (.scanHold w b) s = .next t ∧ t.get .SCAN_STATE b = 3
    ∧ (t.scan b).resume = none ∧ t.answer = ⟨.ok, .unit⟩ ∧ s.Within [(.SCAN_STATE, b.val)] [.scans] t) ∧
  (∀ (w : Who) (b : Fin 32) (s : State), s.Open w .operator .SCAN_HOLD → s.get .SCAN_STATE b = 3 → ∃ t, exec
    (.scanRelease w b) s = .next t ∧ t.get .SCAN_STATE b = 2 ∧ (t.scan b).resume = some (s.passBoundary b s.tickKey)
    ∧ t.answer = ⟨.ok, .unit⟩ ∧ s.Within [(.SCAN_STATE, b.val)] [.scans] t) ∧
  (∀ (w : Who) (b : Fin 32) (s : State), s.Open w .operator .SCAN_HOLD → s.get .SCAN_STATE b = 2 → (s.scan
    b).holdWait = true → ∃ t, exec (.scanRelease w b) s = .next t ∧ t.scan b = { s.scan b with holdWait := false } ∧
    t.answer = ⟨.ok, .unit⟩ ∧ s.Within [] [.scans] t)

/-- R168, R172 to R176, R188: coefficient banks, residues, parity and the freeze of the bridge estimate. -/
def Obligations.HarpLanes : Prop :=
  (∀ (w : Who) (b : Fin 32) (k : Nat) (n : Int) (s : State), s.Open w .operator .COEF_SWAP → k ≤ 1 → s.curTick = some
    n → ∃ t, exec (.coefSwap w b k) s = .next t ∧ t.lane b =
    { s.lane b with requests := (s.lane b).requests ++ [(k, n + 2, false)] } ∧ t.answer = ⟨.ok, .unit⟩ ∧ s.Within []
    [.lanes] t) ∧
  (∀ (w : Who) (b : Fin 32) (k : Nat) (s : State), s.Open w .operator .COEF_SWAP → k ≤ 1 → s.curTick = none → ∃ t,
    exec (.coefSwap w b k) s = .next t ∧ t.answer = ⟨.refused, .unit⟩ ∧ s.Within [] [] t) ∧
  (∀ (b : Fin 32) (k : Nat) (at_ : Int) (s : State), s.running = true → s.commitDue = false → (s.lane b).requests =
    [(k, at_, false)] → at_ ≤ s.tickKey + 1 → s.get .COEF_IN_USE b ≠ k → s.get .COEF_STATE b = 0 → ∃ t, exec
    (.swapRequestJudged b) s = .next t ∧ t.get .COEF_STATE b = 2 ∧ (t.lane b).requests = [] ∧ (t.lane b).fadeTo = k ∧
    (t.lane b).fadeEnd = at_ + ((s.get .COEF_FADE b).toNat * s.pLane b : Nat) ∧ s.Within [(.COEF_STATE, b.val),
    (.START_QUALIFIED, 0), (.START_DONE_INDEX, 0)] [.lanes, .engine] t) ∧
  (∀ (b : Fin 32) (s : State), s.commitDue = false → s.get .COEF_STATE b = 1 → s.get .PRIME_END b - 1 ≤ s.tickKey →
    s.get .COEF_PENDING b = 0xFF → ∃ t, exec (.primingEnd b) s = .next t ∧ t.get .COEF_STATE b = 0 ∧ bit (t.get
    .LANE_CAUSE b) 4 = true ∧ s.Within [(.COEF_STATE, b.val), (.LANE_CAUSE, b.val), (.FENCE_SUPPRESSED, 1),
    (.START_QUALIFIED, 0), (.START_DONE_INDEX, 0)] [.engine] t) ∧
  (∀ (b : Fin 32) (s : State), s.commitDue = false → s.get .COEF_STATE b = 2 → (s.lane b).fadeEnd - 1 ≤ s.tickKey →
    (s.lane b).former = [] → s.get .COEF_PENDING b = 0xFF → ∃ t, exec (.coefFadeEnd b) s = .next t ∧ t.get
    .COEF_STATE b = 0 ∧ t.get .COEF_IN_USE b = (s.lane b).fadeTo ∧ t.get .SWAP_COUNT b = countNext 4294967295 (s.get
    .SWAP_COUNT b) ∧ bit (t.get .LANE_CAUSE b) 1 = true ∧ s.Within [(.COEF_STATE, b.val), (.COEF_IN_USE, b.val),
    (.SWAP_COUNT, b.val), (.LANE_CAUSE, b.val), (.FENCE_SUPPRESSED, 1), (.START_QUALIFIED, 0), (.START_DONE_INDEX,
    0)] [.lanes, .engine] t) ∧
  (∀ (b : Fin 32) (k : Fin 2) (paths : List Nat) (s : State), ∃ t, exec (.coefParityFail b k paths) s = .next t ∧
    (t.lane b).reload = (k.val, paths, s.tickKey + 2) :: (s.lane b).reload.filter (fun x => decide (s.tickKey <
    x.2.2)) ∧ t.get .COEF_PARITY_ERRORS b = countNext 4294967295 (s.get .COEF_PARITY_ERRORS b) ∧ bit (t.get
    .LANE_CAUSE b) 5 = true ∧ s.Within [(.COEF_PARITY_ERRORS, b.val), (.LANE_CAUSE, b.val), (.FENCE_SUPPRESSED, 1),
    (.START_QUALIFIED, 0), (.START_DONE_INDEX, 0)] [.chans, .banks, .lanes, .engine] t) ∧
  (∀ (b : Fin 32) (path : Fin 17) (s : State), ((s.lane b).residues.filter (fun n => decide (s.tickKey + 1 - 64000 <
    n))).length < s.get .RESIDUE_LIMIT 0 → ∃ t, exec (.residueMismatch b path) s = .next t ∧ t.get .RESIDUE_ERRORS b
    = countNext 4294967295 (s.get .RESIDUE_ERRORS b) ∧ (t.lane b).residues = (s.tickKey + 1) :: (s.lane
    b).residues.filter (fun n => decide (s.tickKey + 1 - 64000 < n)) ∧ bit (t.get .LANE_CAUSE b) 0 = true ∧ s.Within
    [(.RESIDUE_ERRORS, b.val), (.LANE_CAUSE, b.val), (.FENCE_SUPPRESSED, 1)] [.chans, .banks, .lanes] t) ∧
  (∀ (w : Who) (b : Fin 32) (v : Nat) (s : State), s.Open w .operator .DCB_FREEZE → s.notActingFor w = false → v <
    65536 → ∃ t, exec (.dcbFreezeWrite w b v) s = .next t ∧ t.get .DCB_FREEZE b = v ∧ t.answer = ⟨.ok, .unit⟩ ∧
    s.Within [(.DCB_FREEZE, b.val)] [] t)

/-- R141 to R158: the ends of conversions and of calibration steps, requests to a trier, and the excitation
calibration. -/
def Obligations.Triers : Prop :=
  (∀ (t0 : Fin 4) (raw : Int) (e : Nat) (s : State), s.workOver (s.trier t0) = true → (s.trier t0).work = .sequence e
    → ∃ t, exec (.trierConversionDone t0 raw) s = .next t ∧ t.get .RESULT_n (16 * t0.val + e) = ((s.resultWord t0
    (s.trier t0) raw e false).toNat : Int) ∧ s.WithinKinds [.CAL_STATE, .FENCE_SUPPRESSED, .INJECTED, .INJ_REFUSED,
    .INJ_RESULT, .PASS_COUNT, .PASS_GRID, .RESULT_n, .TRIER_CAUSE, .TRIER_STATE] [.banks, .triers, .serLanes,
    .excCal, .trierOut] t) ∧
  (∀ (w : Who) (t0 : Fin 4) (s : State), s.Open w .operator .START → s.get .TRIER_MODE t0 = 1 → ((s.trier
    t0).pass.isSome || (s.trier t0).startDue) = true → ∃ t, exec (.trierStart w t0) s = .next t ∧ t.get .PASS_SKIPS
    t0 = countNext 4294967295 (s.get .PASS_SKIPS t0) ∧ t.answer = ⟨.ok, .unit⟩ ∧ s.Within [(.PASS_SKIPS, t0.val)] []
    t) ∧
  (∀ (w : Who) (t0 : Fin 4) (s : State), s.Open w .operator .START → s.get .TRIER_MODE t0 = 1 → (s.trier t0).pass =
    none → (s.trier t0).startDue = false → s.takenNow t0 = false → (s.trier t0).work ≠ .none → ∃ t, exec (.trierStart
    w t0) s = .next t ∧ t.trier t0 = { s.trier t0 with startDue := true, startAt := some s.trierClock } ∧ t.answer =
    ⟨.ok, .unit⟩ ∧ s.Within [] [.triers] t) ∧
  (∀ (t0 : Fin 4) (raw : Int) (w : Nat) (s : State), s.workOver (s.trier t0) = true → (s.trier t0).work = .injected w
    → ∃ t, exec (.trierConversionDone t0 raw) s = .next t ∧ t.get .INJ_RESULT t0 = ((s.resultWord t0 (s.trier t0) raw
    0 true).toNat : Int) ∧ s.WithinKinds [.CAL_STATE, .FENCE_SUPPRESSED, .INJECTED, .INJ_REFUSED, .INJ_RESULT,
    .PASS_COUNT, .PASS_GRID, .RESULT_n, .TRIER_CAUSE, .TRIER_STATE] [.banks, .triers, .serLanes, .excCal, .trierOut]
    t) ∧
  (∀ (w : Who) (t0 : Fin 4) (s : State), s.Open w .operator .START → s.get .TRIER_MODE t0 = 1 → s.get .TRIER_STATE t0
    = 1 → s.trierGroup t0 = [t0.val] → s.groupIdle [t0.val] = true → (s.trier t0).startDue = false → s.takenNow t0 =
    false → (s.trier t0).offDue = false → (s.trier t0).cutDue = false → (s.trier t0).readyAt = none → (s.trier
    t0).calPending = false → 0 < s.get .SEQ_LENGTH t0 → s.entrySkipped t0 0 = false → ∃ t, exec (.trierStart w t0) s
    = .next t ∧ t.get .TRIER_STATE t0 = 2 ∧ (t.trier t0).work = .sequence 0 ∧ (t.trier t0).pass = some 0 ∧ (t.trier
    t0).begun = s.trierClock + 1 ∧ t.answer = ⟨.ok, .unit⟩ ∧ s.Within [(.TRIER_STATE, t0.val)] [.triers] t) ∧
  (∀ (t0 : Fin 4) (m : Int) (l : List Int) (s : State), (s.trier t0).armed = m :: l → m * 625 + s.get .TRIG_DELAY t0
    ≤ s.trierClock → s.trierGroup t0 = [t0.val] → s.groupIdle [t0.val] = true → (s.trier t0).readyAt = none →
    s.takenNow t0 = false → 0 < s.get .SEQ_LENGTH t0 → s.entrySkipped t0 0 = false → ∃ t, exec (.trierPassArmedStart
    t0) s = .next t ∧ t.get .TRIER_STATE t0 = 2 ∧ (t.trier t0).work = .sequence 0 ∧ (t.trier t0).pass = some 0 ∧
    (t.trier t0).begun = m * 625 + s.get .TRIG_DELAY t0 ∧ (t.trier t0).passGrid = (m * 625 + s.get .TRIG_DELAY t0) /
    625 ∧ (t.trier t0).armed = (m :: l).filter (fun a => decide (m < a)) ∧ s.Within [(.TRIER_STATE, t0.val)]
    [.triers] t) ∧
  (∀ (t0 : Fin 4) (m : Int) (l : List Int) (s : State), (s.trier t0).armed = m :: l → m * 625 + s.get .TRIG_DELAY t0
    ≤ s.trierClock → s.trierGroup t0 = [t0.val] → s.groupIdle [t0.val] = false → ∃ t, exec (.trierPassArmedStart t0)
    s = .next t ∧ t.get .PASS_SKIPS t0 = countNext 4294967295 (s.get .PASS_SKIPS t0) ∧ (t.trier t0).armed = (m ::
    l).filter (fun a => decide (m < a)) ∧ bit (t.get .TRIER_CAUSE t0) 0 = true ∧ s.Within [(.PASS_SKIPS, t0.val),
    (.TRIER_CAUSE, t0.val), (.FENCE_SUPPRESSED, 4)] [.triers] t) ∧
  (∀ (w : Who) (t0 : Fin 4) (word k : Nat) (s : State), s.Open w .engineer .INJ_REQUEST → s.get .TRIER_STATE t0 ≠ 0 →
    (s.trier t0).slot = none → entryGood word = true → s.trierGroup t0 = [t0.val] → (s.trier t0).startAt ≠ some
    s.trierClock → (s.trier t0).work = .injected k → ∃ t, exec (.injRequest w t0 word) s = .next t ∧ t.trier t0 =
    { s.trier t0 with slot := some word, injAt := some s.trierClock } ∧ t.answer = ⟨.ok, .unit⟩ ∧ s.Within []
    [.triers, .test] t) ∧
  (∀ (w : Who) (t0 : Fin 4) (s : State), s.Open w .engineer .CAL_START → s.get .TRIER_STATE t0 ≠ 0 → s.fenced 4 t0 =
    false → s.trierGroup t0 = [t0.val] → (s.trier t0).calPending = false → (s.trier t0).calNext = none → (s.trier
    t0).startAt ≠ some s.trierClock → (s.trier t0).work ≠ .none → ∃ t, exec (.trierCalStart w t0) s = .next t ∧ t.get
    .CAL_STATE t0 = 1 ∧ t.trier t0 = { s.trier t0 with calPending := true, calAt := some s.trierClock } ∧ t.answer =
    ⟨.ok, .unit⟩ ∧ s.Within [(.CAL_STATE, t0.val)] [.triers, .test] t) ∧
  (∀ (t0 : Fin 4) (offset : Int) (gain k : Nat) (s : State), (s.trier t0).work = .calibrate k → k < 63 → s.workOver
    (s.trier t0) = true → s.get .TRIER_STATE t0 ≠ 0 → (s.trier t0).offDue = false → (s.trier t0).slot = none →
    (s.trier t0).readyAt = none → ∃ t, exec (.trierCalStepDone t0 offset gain) s = .next t ∧ t.get .CAL_STATE t0 = 2
    ∧ t.get .TRIER_STATE t0 = 4 ∧ (t.trier t0).work = .calibrate (k + 1) ∧ (t.trier t0).begun = (s.trier t0).ends ∧
    (t.trier t0).ends = (s.trier t0).ends + 1600 ∧ s.WithinKinds [.CAL_STATE, .FENCE_SUPPRESSED, .INJECTED,
    .INJ_REFUSED, .PASS_COUNT, .PASS_GRID, .TRIER_CAL_GAIN, .TRIER_CAL_OFFSET, .TRIER_CAUSE, .TRIER_STATE] [.banks,
    .triers, .serLanes] t) ∧
  (∀ (t0 : Fin 4) (offset : Int) (gain : Nat) (s : State), (s.trier t0).work = .calibrate 63 → (s.trier
    t0).calPending = false → s.workOver (s.trier t0) = true → ((offset.natAbs : Nat) ≤ 16384) → (((gain : Int) -
    1073741824).natAbs * 100 ≤ 1073741824) → ∃ t, exec (.trierCalStepDone t0 offset gain) s = .next t ∧ t.get
    .TRIER_CAL_OFFSET t0 = offset ∧ t.get .TRIER_CAL_GAIN t0 = gain ∧ t.get .CAL_STATE t0 = 3 ∧ bit (t.get
    .TRIER_CAUSE t0) 4 = true ∧ s.WithinKinds [.CAL_STATE, .FENCE_SUPPRESSED, .INJECTED, .INJ_REFUSED, .PASS_COUNT,
    .PASS_GRID, .TRIER_CAL_GAIN, .TRIER_CAL_OFFSET, .TRIER_CAUSE, .TRIER_STATE] [.banks, .triers, .serLanes] t) ∧
  (∀ (t0 : Fin 4) (r : Int) (s : State), (s.trier t0).readyAt = some r → r ≤ s.trierClock → ∃ t, exec (.trierPowered
    t0) s = .next t ∧ (t.trier t0).readyAt = none ∧ s.WithinKinds [.CAL_STATE, .FENCE_SUPPRESSED, .INJECTED,
    .INJ_REFUSED, .PASS_COUNT, .PASS_GRID, .TRIER_CAUSE, .TRIER_STATE] [.banks, .triers, .serLanes] t) ∧
  (∀ (t0 : Fin 4) (r : Int) (s : State), (s.trier t0).readyAt = some r → r ≤ s.trierClock → s.get .TRIER_MODE t0 = 2
    → s.get .TRIER_STATE t0 ≠ 0 → s.trierGroup t0 = [t0.val] → s.groupIdle [t0.val] = true → (s.trier t0).offDue =
    false → (s.trier t0).cutDue = false → (s.trier t0).calPending = false → 0 < s.get .SEQ_LENGTH t0 → s.entrySkipped
    t0 0 = false → ∃ t, exec (.trierPowered t0) s = .next t ∧ t.get .TRIER_STATE t0 = 2 ∧ (t.trier t0).work =
    .sequence 0 ∧ (t.trier t0).pass = some 0 ∧ (t.trier t0).begun = r ∧ (t.trier t0).readyAt = none ∧ s.Within
    [(.TRIER_STATE, t0.val)] [.triers] t) ∧
  (∀ (b : Fin 32) (s : State), (s.bank b).cjc = [] → ∃ t, exec (.cjcStale b) s = .next t ∧ (t.bank b).cjc =
    [(s.tickKey, s.cjcResult b s.tickKey)] ∧ s.Within [(.START_QUALIFIED, 0), (.START_DONE_INDEX, 0)] [.banks,
    .engine] t) ∧
  (∀ (w : Who) (b : Nat) (s : State), s.Open w .service .EXC_CAL → b < 32 → s.get .FRAME_STATE 0 = 0 → s.get
    .TRIER_STATE (s.get .EXC_CAL_TRIER 0).toNat ≠ 0 → s.excCal.bank = none → ∃ t, exec (.excCal w b) s = .next t ∧
    t.excCal =
    { s.excCal with bank := some b, sums := [], readyAt := s.time.cycle + usCycles 500, count := 0, sum := 0, waiting := false }
    ∧ t.get .EXC_CAL_STATUS 0 = (b * 16777216 + 65536 : Nat) ∧ t.answer = ⟨.ok, .unit⟩ ∧ s.Within [(.EXC_CAL_STATUS,
    0)] [.excCal, .test] t) ∧
  (∀ (b : Fin 32) (cut : Bool) (s : State), s.excCal.bank = some b.val → s.excCal.sums.length = 48 → (excFound
    s.excCal.sums).all (fun m => decide (m.1.natAbs ≤ 10000) && decide (m.2.1.natAbs ≤ 2000) && decide (m.2.2.natAbs
    ≤ 2000)) = true → ∃ t, exec (.excCalDone b cut) s = .next t ∧ t.excCal.bank = none ∧ t.excCal.sums = [] ∧ t.get
    .EXC_CAL_STATUS 0 / 65536 = (b.val * 256 + 2 : Nat) ∧ ((t.fenced 4 ((s.get .EXC_CAL_TRIER 0).toNat % 4) = false →
    t.get .EV_COUNT 0x4E = min (s.get .EV_COUNT 0x4E + 1) 4294967295)) ∧ s.Within [(.EXC_CAL_STATUS, 0),
    (.FENCE_SUPPRESSED, 4)] [.excCal] t)

/-- R206, R208, R216, R225, R309: what acts on trigger units and on the capture regions of their groups. -/
def Obligations.TriggerUnits : Prop :=
  (∀ (u : Fin 16) (r : Rec) (s : State), (s.unit u).matured = some r → s.fenced 3 u = true → ∃ t, exec
    (.trigTimeoutMatures u) s = .next t ∧ t.get .FIRE_COUNT u = countNext 4294967295 (s.get .FIRE_COUNT u) ∧ t.unit u
    = { s.unit u with matured := none } ∧ s.Within [(.FIRE_COUNT, u.val), (.START_QUALIFIED, 0), (.START_DONE_INDEX,
    0)] [.units, .engine] t) ∧
  (∀ (u : Fin 16) (r : Rec) (s : State), (s.unit u).matured = some r → s.fenced 3 u = false → s.get .CAP_REGION u =
    255 → s.unitOn u = true → s.get .REARM_SAMPLES u = 0 → (s.unit u).armFrom = none → ∃ t, exec (.trigTimeoutMatures
    u) s = .next t ∧ t.get .FIRE_COUNT u = countNext 4294967295 (s.get .FIRE_COUNT u) ∧ t.get .ACCEPT_COUNT u =
    countNext 4294967295 (s.get .ACCEPT_COUNT u) ∧ t.get .LAST_TRIGGER u = r.index ∧ (t.unit u).matured = none ∧
    (t.unit u).armFrom = some (r.index + presetPeriod (s.preset (s.get .TRIG_SOURCE u).toNat)) ∧ bit (t.get
    .UNIT_CAUSE u) 0 = true ∧ s.WithinKinds [.ACCEPT_COUNT, .CAP_HELD, .CAP_MODE_NOW, .EARLY_COUNT,
    .FENCE_SUPPRESSED, .FIRE_COUNT, .LAST_TRIGGER, .LATE_COUNT, .LOST_COUNT, .PMAP_MAX, .PRESS_CAUSE, .REARM_COUNT,
    .START_DONE_INDEX, .START_QUALIFIED, .UNIT_CAUSE, .UNIT_STATE] [.frame, .engine, .units, .regions, .bcasts,
    .press, .out] t) ∧
  (∀ (u : Fin 16) (q : Fin 16) (r : Rec) (s : State), (s.unit u).matured = some r → s.fenced 3 u = false → s.get
    .CAP_REGION u = q → (s.region q).state = 4 → ∃ t, exec (.trigTimeoutMatures u) s = .next t ∧ t.get .FIRE_COUNT u
    = countNext 4294967295 (s.get .FIRE_COUNT u) ∧ t.get .REARM_COUNT u = countNext 4294967295 (s.get .REARM_COUNT u)
    ∧ bit (t.get .UNIT_CAUSE u) 9 = true ∧ t.unit u = { s.unit u with matured := none } ∧ s.Within [(.FIRE_COUNT,
    u.val), (.REARM_COUNT, u.val), (.UNIT_CAUSE, u.val), (.FENCE_SUPPRESSED, 3), (.FENCE_SUPPRESSED, 6),
    (.START_QUALIFIED, 0), (.START_DONE_INDEX, 0)] [.units, .engine] t) ∧
  (∀ (w : Who) (u : Fin 16) (s : State), s.Open w .operator .TRIG_FORCE → ∃ t, exec (.trigForce w u) s = .next t ∧
    t.unit u = { s.unit u with force := true } ∧ t.answer = ⟨.ok, .unit⟩ ∧ s.Within [] [.units] t) ∧
  (∀ (s : State), s.running = true → (∀ u < 16, (s.unit u).matured = none) → ∃ t, exec (.broadcastDelivery) s = .next
    t ∧ t.bcasts = s.bcasts.filter (fun x => !decide (x.tick < s.tickKey)) ∧ s.WithinKinds [.ACCEPT_COUNT, .CAP_HELD,
    .CAP_MODE_NOW, .EARLY_COUNT, .FENCE_SUPPRESSED, .FIRE_COUNT, .LAST_TRIGGER, .LATE_COUNT, .LOST_COUNT, .PMAP_MAX,
    .PRESS_CAUSE, .REARM_COUNT, .START_DONE_INDEX, .START_QUALIFIED, .UNIT_CAUSE, .UNIT_STATE] [.frame, .engine,
    .units, .regions, .bcasts, .press, .out] t) ∧
  (∀ (u : Fin 16) (x : Bcast) (s : State), s.running = true → (∀ v < 16, (s.unit v).matured = none) → s.bcasts = [x]
    → x.tick < s.tickKey → (∀ v < 16, bit (s.get .BCAST_IN v) x.line = decide (v = u.val)) → s.unitOn u = true →
    s.fenced 3 u = false → s.get .CAP_REGION u = 255 → s.get .REARM_SAMPLES u = 0 → (s.unit u).armFrom = none → ∃ t,
    exec (.broadcastDelivery) s = .next t ∧ t.bcasts = [] ∧ t.get .ACCEPT_COUNT u = countNext 4294967295 (s.get
    .ACCEPT_COUNT u) ∧ t.get .LAST_TRIGGER u = x.t ∧ (t.unit u).armFrom = some (x.t + presetPeriod (s.preset (s.get
    .TRIG_SOURCE u).toNat)) ∧ bit (t.get .UNIT_CAUSE u) 0 = true ∧ bit (t.get .UNIT_CAUSE u) 4 = true ∧ s.Within
    [(.ACCEPT_COUNT, u.val), (.LAST_TRIGGER, u.val), (.CAP_MODE_NOW, u.val), (.UNIT_STATE, u.val), (.UNIT_CAUSE,
    u.val), (.START_QUALIFIED, 0), (.START_DONE_INDEX, 0)] [.units, .bcasts, .engine] t) ∧
  (∀ (r : Fin 16) (s : State), s.captureDue r = true → (∀ u < 16, (s.unit u).matured = none) → s.bcasts = [] → 16 ≤
    (s.region r).hist → 4 ≤ (s.region r).pmap → s.fenced 6 r = false → ∃ t, exec (.captureClose r) s = .next t ∧
    (t.region r).state = 4 ∧ (t.region r).seq = ((s.region r).seq + 1) % 4294967296 ∧ (t.region r).pushing =
    !(s.region r).keep ∧ (t.region r).data = (s.region r).rows.flatMap (fun row => row.2) ∧ (∀ u < 16, s.get
    .CAP_REGION u = r → t.get .UNIT_STATE u = 4 ∧ t.getBytes .CAP_HEADER u = (t.region r).header ∧ bit (t.get
    .UNIT_CAUSE u) 1 = true ∧ ((s.region r).preHeld < (s.region r).pre → bit (t.get .UNIT_CAUSE u) 5 = true)) ∧
    s.WithinKinds [.ACCEPT_COUNT, .BUFFER_HIGH, .CAP_HEADER, .CAP_HELD, .CAP_MODE_NOW, .EARLY_COUNT, .FENCED_DROPS,
    .FENCE_SUPPRESSED, .FIRE_COUNT, .HIST_BINS, .HIST_CLOSES, .HIST_EXCLUDED, .HIST_FROM, .HIST_OVER, .HIST_STATE,
    .HIST_TO, .HIST_UNDER, .LAST_TRIGGER, .LATE_COUNT, .LOSS_SEQ, .LOST_COUNT, .LOST_DISCARD, .LOST_FENCE,
    .LOST_PRESS, .LOST_RECLAIMED, .LOST_UNREADABLE, .LOST_WITHDRAWN, .LOST_i, .MARK_INDEX, .MARK_OVERTAKEN,
    .MARK_STATE, .MAX_FILL, .OLDEST_INDEX, .PMAP_CAPTURES, .PMAP_MAX, .PMAP_PENDING, .PMAP_STATE, .PRESS_CAUSE,
    .QC_CAUSE, .QUEUE_SEQ, .REARM_COUNT, .REDUCED_DROPPED, .REPLAY_SKIPPED_TICKS, .START_DONE_INDEX,
    .START_QUALIFIED, .STREAM_DROPPED, .UNIT_CAUSE, .UNIT_STATE, .WRITE_BYTES] [.blob, .frame, .engine, .queues,
    .cave, .units, .regions, .bcasts, .press, .draws, .out] t) ∧
  (∀ (r : Fin 16) (s : State), (s.region r).state = 4 → (s.region r).pushing = true → (s.region r).parts = [] →
    (s.queue (s.region r).queue).incoming = none → s.running = true → ∃ t, exec (.capturePushDone r) s = .next t ∧
    t.region r = { s.region r with release := true } ∧ s.Within [] [.regions] t) ∧
  (∀ (r : Fin 16) (s : State), (s.region r).state = 4 → (s.region r).pushing = true → (s.region r).parts = [] →
    (s.queue (s.region r).queue).incoming = none → s.running = false → ∃ t, exec (.capturePushDone r) s = .next t ∧
    (t.region r).state = 0 ∧ (t.region r).rows = [] ∧ (t.region r).header = (s.region r).header ∧ (∀ u < 16, s.get
    .CAP_REGION u = r → t.get .UNIT_STATE u = 0) ∧ s.WithinKinds [.UNIT_STATE, .CAP_HELD] [.regions] t) ∧
  (∀ (w : Who) (u r : Fin 16) (s : State), s.Open w .operator .CAP_RELEASE → s.get .CAP_REGION u = r → (s.region
    r).state = 4 → (s.region r).pushing = false → s.running = true → ∃ t, exec (.capRelease w u) s = .next t ∧
    t.region r = { s.region r with release := true } ∧ t.answer = ⟨.ok, .unit⟩ ∧ s.Within [] [.regions] t) ∧
  (∀ (w : Who) (u r : Fin 16) (s : State), s.Open w .operator .CAP_RELEASE → s.get .CAP_REGION u = r → (s.region
    r).state = 4 → (s.region r).pushing = false → s.running = false → ∃ t, exec (.capRelease w u) s = .next t ∧
    (t.region r).state = 0 ∧ (t.region r).rows = [] ∧ (t.region r).header = (s.region r).header ∧ t.get .UNIT_STATE u
    = 0 ∧ t.answer = ⟨.ok, .unit⟩ ∧ s.WithinKinds [.UNIT_STATE, .CAP_HELD] [.regions] t) ∧
  (∀ (w : Who) (u : Fin 16) (s : State), s.Open w .operator .CAP_RELEASE → (s.region (s.get .CAP_REGION
    u).toNat).state ≠ 4 ∨ (s.region (s.get .CAP_REGION u).toNat).pushing = true → ∃ t, exec (.capRelease w u) s =
    .next t ∧ t.answer = ⟨.ok, .unit⟩ ∧ s.Within [] [] t) ∧
  (∀ (w : Who) (r : Fin 16) (bad : Bool) (s : State), s.served = true → Role.observer.rank ≤ w.role.rank → s.barred w
    .REGION_DATA false = none → ∃ t, exec (.regionDataRead w r bad) s = .next t ∧ t.answer =
    ⟨.ok, (s.readRegion r bad).1⟩ ∧ t.get .REGION_OFFSET r = (((s.get .REGION_OFFSET r).toNat + 1024) % 4294967296 :
    Nat))

/-- R243, R248 to R258: the closes of a tick, and the commands of histograms and pulse maps. -/
def Obligations.PressWindows : Prop :=
  (∀ (b : Fin 32) (bad : List Nat) (s : State), s.running = true → s.closeNamed 2 b = true → ∃ t, exec
    (.compressedBlockClose b bad) s = .next t ∧ (t.strm b).blocks = (s.strm b).blocks.filter (fun x => !(x.2.complete
    || s.allLeft x.1 x.2.stop)) ∧ s.WithinKinds [.BITS_IN, .BITS_OUT, .BLOCKS, .BLOCKS_VERBATIM, .BUFFER_HIGH,
    .FENCED, .FENCED_DROPS, .FENCE_ENTRIES, .FENCE_LAST, .FENCE_SUPPRESSED, .FI_CAUSE, .LOSS_SEQ, .LOST_DISCARD,
    .LOST_FENCE, .LOST_PRESS, .LOST_RECLAIMED, .LOST_UNREADABLE, .LOST_WITHDRAWN, .LOST_i, .MARK_INDEX,
    .MARK_OVERTAKEN, .MARK_STATE, .MAX_FILL, .OLDEST_INDEX, .PRESS_CAUSE, .QC_CAUSE, .QUEUE_SEQ, .REDUCED_DROPPED,
    .REPLAY_SKIPPED_TICKS, .START_DONE_INDEX, .START_QUALIFIED, .STREAM_DROPPED, .VERIFY_FAILS, .WRITE_BYTES]
    [.fences, .engine, .queues, .cave, .units, .press] t) ∧
  (∀ (b : Fin 32) (bad : List Nat) (c : Nat) (x : Block) (s : State), s.running = true → s.closeNamed 2 b = true → c
    < 512 → (s.strm b).blocks = [(c, x)] → x.complete = true → x.recs ≠ [] → s.fenced 2 b = false → bad = [] → ∃ t,
    exec (.compressedBlockClose b bad) s = .next t ∧ (t.strm b).blocks = [] ∧ t.get .BLOCKS b = countNext 4294967295
    (s.get .BLOCKS b) ∧ t.get .VERIFY_FAILS b = s.get .VERIFY_FAILS b ∧ s.WithinKinds [.BITS_IN, .BITS_OUT, .BLOCKS,
    .BLOCKS_VERBATIM, .BUFFER_HIGH, .FENCED, .FENCED_DROPS, .FENCE_ENTRIES, .FENCE_LAST, .FENCE_SUPPRESSED,
    .FI_CAUSE, .LOSS_SEQ, .LOST_DISCARD, .LOST_FENCE, .LOST_PRESS, .LOST_RECLAIMED, .LOST_UNREADABLE,
    .LOST_WITHDRAWN, .LOST_i, .MARK_INDEX, .MARK_OVERTAKEN, .MARK_STATE, .MAX_FILL, .OLDEST_INDEX, .PRESS_CAUSE,
    .QC_CAUSE, .QUEUE_SEQ, .REDUCED_DROPPED, .REPLAY_SKIPPED_TICKS, .START_DONE_INDEX, .START_QUALIFIED,
    .STREAM_DROPPED, .VERIFY_FAILS, .WRITE_BYTES] [.fences, .engine, .queues, .cave, .units, .press] t) ∧
  (∀ (b : Fin 32) (bad : List Nat) (c : Nat) (x : Block) (s : State), s.running = true → s.closeNamed 2 b = true → c
    < 512 → (s.strm b).blocks = [(c, x)] → x.complete = true → x.recs ≠ [] → s.fenced 2 b = false → bad.contains c =
    true → (encodeBlock false x.recs).2 = false → (((s.strm b).fails.length : Int) < s.get .VERIFY_LIMIT 0) → ∃ t,
    exec (.compressedBlockClose b bad) s = .next t ∧ (t.strm b).blocks = [] ∧ t.get .BLOCKS b = countNext 4294967295
    (s.get .BLOCKS b) ∧ t.get .BLOCKS_VERBATIM b = countNext 4294967295 (s.get .BLOCKS_VERBATIM b) ∧ t.get
    .VERIFY_FAILS b = countNext 4294967295 (s.get .VERIFY_FAILS b) ∧ bit (t.get .PRESS_CAUSE 0) 0 = true ∧
    s.WithinKinds [.BITS_IN, .BITS_OUT, .BLOCKS, .BLOCKS_VERBATIM, .BUFFER_HIGH, .FENCED, .FENCED_DROPS,
    .FENCE_ENTRIES, .FENCE_LAST, .FENCE_SUPPRESSED, .FI_CAUSE, .LOSS_SEQ, .LOST_DISCARD, .LOST_FENCE, .LOST_PRESS,
    .LOST_RECLAIMED, .LOST_UNREADABLE, .LOST_WITHDRAWN, .LOST_i, .MARK_INDEX, .MARK_OVERTAKEN, .MARK_STATE,
    .MAX_FILL, .OLDEST_INDEX, .PRESS_CAUSE, .QC_CAUSE, .QUEUE_SEQ, .REDUCED_DROPPED, .REPLAY_SKIPPED_TICKS,
    .START_DONE_INDEX, .START_QUALIFIED, .STREAM_DROPPED, .VERIFY_FAILS, .WRITE_BYTES] [.fences, .engine, .queues,
    .cave, .units, .press] t) ∧
  (∀ (b : Fin 32) (s : State), s.running = true → s.closeNamed 2 b = true → ∃ t, exec (.averagingIntervalClose b) s =
    .next t ∧ (t.strm b).avgs = (s.strm b).avgs.filter (fun x => !s.allLeft x.1 x.2.stop) ∧ (t.strm b).stats =
    (s.strm b).stats ∧ s.WithinKinds [.AVG_SHORT, .BUFFER_HIGH, .FENCED_DROPS, .FENCE_SUPPRESSED, .LOSS_SEQ,
    .LOST_DISCARD, .LOST_FENCE, .LOST_PRESS, .LOST_RECLAIMED, .LOST_UNREADABLE, .LOST_WITHDRAWN, .LOST_i,
    .MARK_INDEX, .MARK_OVERTAKEN, .MARK_STATE, .MAX_FILL, .OLDEST_INDEX, .PRESS_CAUSE, .QC_CAUSE, .QUEUE_SEQ,
    .REDUCED_DROPPED, .REPLAY_SKIPPED_TICKS, .START_DONE_INDEX, .START_QUALIFIED, .STREAM_DROPPED, .WRITE_BYTES]
    [.engine, .queues, .cave, .units, .press] t) ∧
  (∀ (b : Fin 32) (c : Nat) (x : Win) (s : State), s.running = true → s.closeNamed 2 b = true → c < 512 → (s.strm
    b).avgs = [(c, x)] → s.allLeft c x.stop = true → s.fenced 2 b = false → x.used < (s.pressCfg b (alignUp x.stop
    (presetPeriod x.preset) - presetPeriod x.preset)).avgMin → ∃ t, exec (.averagingIntervalClose b) s = .next t ∧
    (t.strm b).avgs = [] ∧ t.get .AVG_SHORT b = countNext 4294967295 (s.get .AVG_SHORT b) ∧ bit (t.get .PRESS_CAUSE
    0) 11 = true ∧ s.WithinKinds [.AVG_SHORT, .BUFFER_HIGH, .FENCED_DROPS, .FENCE_SUPPRESSED, .LOSS_SEQ,
    .LOST_DISCARD, .LOST_FENCE, .LOST_PRESS, .LOST_RECLAIMED, .LOST_UNREADABLE, .LOST_WITHDRAWN, .LOST_i,
    .MARK_INDEX, .MARK_OVERTAKEN, .MARK_STATE, .MAX_FILL, .OLDEST_INDEX, .PRESS_CAUSE, .QC_CAUSE, .QUEUE_SEQ,
    .REDUCED_DROPPED, .REPLAY_SKIPPED_TICKS, .START_DONE_INDEX, .START_QUALIFIED, .STREAM_DROPPED, .WRITE_BYTES]
    [.engine, .queues, .cave, .units, .press] t) ∧
  (∀ (b : Fin 32) (s : State), s.running = true → s.closeNamed 2 b = true → ∃ t, exec (.statsWindowClose b) s = .next
    t ∧ (t.strm b).stats = (s.strm b).stats.filter (fun x => !s.allLeft x.1 x.2.stop) ∧ (t.strm b).avgs = (s.strm
    b).avgs ∧ s.WithinKinds [.AVG_SHORT, .BUFFER_HIGH, .FENCED_DROPS, .FENCE_SUPPRESSED, .LOSS_SEQ, .LOST_DISCARD,
    .LOST_FENCE, .LOST_PRESS, .LOST_RECLAIMED, .LOST_UNREADABLE, .LOST_WITHDRAWN, .LOST_i, .MARK_INDEX,
    .MARK_OVERTAKEN, .MARK_STATE, .MAX_FILL, .OLDEST_INDEX, .PRESS_CAUSE, .QC_CAUSE, .QUEUE_SEQ, .REDUCED_DROPPED,
    .REPLAY_SKIPPED_TICKS, .START_DONE_INDEX, .START_QUALIFIED, .STREAM_DROPPED, .WRITE_BYTES] [.engine, .queues,
    .cave, .units, .press] t) ∧
  (∀ (h : Fin 16) (fr : Int) (s : State), s.running = true → s.closeNamed 2 (32 + h.val) = true → s.histDue h = true
    → (s.hist h).done = [] → (s.hist h).live.from_ = some fr → s.fenced 2 (32 + h.val) = false → ∃ t, exec
    (.histWindowClose h) s = .next t ∧ t.get .HIST_CLOSES h = countNext 4294967295 (s.get .HIST_CLOSES h) ∧ t.get
    .HIST_FROM h = fr ∧ t.get .HIST_TO h = (s.hist h).live.to_ ∧ t.get .HIST_UNDER h = (s.hist h).live.under ∧ t.get
    .HIST_OVER h = (s.hist h).live.above ∧ t.get .HIST_EXCLUDED h = (s.hist h).live.excluded ∧ t.getBytes .HIST_BINS
    h = binBytes (s.hist h).live.bins ∧ (t.hist h).live = ({} : HistWin) ∧ (t.hist h).closedAt = some s.tickKey ∧ bit
    (t.get .PRESS_CAUSE 0) 2 = true ∧ s.WithinKinds [.BUFFER_HIGH, .FENCED_DROPS, .FENCE_SUPPRESSED, .HIST_BINS,
    .HIST_CLOSES, .HIST_EXCLUDED, .HIST_FROM, .HIST_OVER, .HIST_STATE, .HIST_TO, .HIST_UNDER, .LOSS_SEQ,
    .LOST_DISCARD, .LOST_FENCE, .LOST_PRESS, .LOST_RECLAIMED, .LOST_UNREADABLE, .LOST_WITHDRAWN, .LOST_i,
    .MARK_INDEX, .MARK_OVERTAKEN, .MARK_STATE, .MAX_FILL, .OLDEST_INDEX, .PRESS_CAUSE, .QC_CAUSE, .QUEUE_SEQ,
    .REDUCED_DROPPED, .REPLAY_SKIPPED_TICKS, .START_DONE_INDEX, .START_QUALIFIED, .STREAM_DROPPED, .WRITE_BYTES]
    [.blob, .engine, .queues, .cave, .press, .out] t) ∧
  (∀ (w : Who) (h : Fin 16) (fr : Int) (s : State), s.Open w .operator .HIST_CLOSE → s.running = true → s.get
    .HIST_STATE h = 1 → (s.hist h).closedAt ≠ some s.tickKey → s.closeNamed 2 (32 + h.val) = true → (s.hist h).done =
    [] → (s.hist h).live.from_ = some fr → s.fenced 2 (32 + h.val) = false → ∃ t, exec (.histClose w h) s = .next t ∧
    t.get .HIST_CLOSES h = countNext 4294967295 (s.get .HIST_CLOSES h) ∧ t.get .HIST_FROM h = fr ∧ t.get .HIST_TO h =
    (s.hist h).live.to_ ∧ t.get .HIST_UNDER h = (s.hist h).live.under ∧ t.get .HIST_OVER h = (s.hist h).live.above ∧
    t.get .HIST_EXCLUDED h = (s.hist h).live.excluded ∧ t.getBytes .HIST_BINS h = binBytes (s.hist h).live.bins ∧
    (t.hist h).live = ({} : HistWin) ∧ (t.hist h).closedAt = some s.tickKey ∧ bit (t.get .PRESS_CAUSE 0) 2 = true ∧
    t.answer = ⟨.ok, .unit⟩ ∧ s.WithinKinds [.BUFFER_HIGH, .FENCED_DROPS, .FENCE_SUPPRESSED, .HIST_BINS,
    .HIST_CLOSES, .HIST_EXCLUDED, .HIST_FROM, .HIST_OVER, .HIST_STATE, .HIST_TO, .HIST_UNDER, .LOSS_SEQ,
    .LOST_DISCARD, .LOST_FENCE, .LOST_PRESS, .LOST_RECLAIMED, .LOST_UNREADABLE, .LOST_WITHDRAWN, .LOST_i,
    .MARK_INDEX, .MARK_OVERTAKEN, .MARK_STATE, .MAX_FILL, .OLDEST_INDEX, .PRESS_CAUSE, .QC_CAUSE, .QUEUE_SEQ,
    .REDUCED_DROPPED, .REPLAY_SKIPPED_TICKS, .START_DONE_INDEX, .START_QUALIFIED, .STREAM_DROPPED, .WRITE_BYTES]
    [.blob, .engine, .queues, .cave, .press, .out] t) ∧
  (∀ (w : Who) (h : Fin 16) (s : State), s.Open w .operator .HIST_CLOSE → s.get .HIST_STATE h = 1 → (s.hist
    h).closedAt ≠ some s.tickKey → s.running = false ∨ s.closeNamed 2 (32 + h.val) = false → ∃ t, exec (.histClose w
    h) s = .next t ∧ t.get .HIST_CLOSES h = s.get .HIST_CLOSES h ∧ t.hist h = { s.hist h with want := true } ∧
    t.answer = ⟨.ok, .unit⟩ ∧ s.WithinKinds [.BUFFER_HIGH, .FENCED_DROPS, .FENCE_SUPPRESSED, .HIST_BINS,
    .HIST_CLOSES, .HIST_EXCLUDED, .HIST_FROM, .HIST_OVER, .HIST_STATE, .HIST_TO, .HIST_UNDER, .LOSS_SEQ,
    .LOST_DISCARD, .LOST_FENCE, .LOST_PRESS, .LOST_RECLAIMED, .LOST_UNREADABLE, .LOST_WITHDRAWN, .LOST_i,
    .MARK_INDEX, .MARK_OVERTAKEN, .MARK_STATE, .MAX_FILL, .OLDEST_INDEX, .PRESS_CAUSE, .QC_CAUSE, .QUEUE_SEQ,
    .REDUCED_DROPPED, .REPLAY_SKIPPED_TICKS, .START_DONE_INDEX, .START_QUALIFIED, .STREAM_DROPPED, .WRITE_BYTES]
    [.blob, .engine, .queues, .cave, .press, .out] t) ∧
  (∀ (w : Who) (h : Fin 16) (s : State), s.Open w .operator .HIST_CLOSE → s.get .HIST_STATE h ≠ 1 → ∃ t, exec
    (.histClose w h) s = .next t ∧ t.answer = ⟨.ok, .unit⟩ ∧ s.Within [] [] t) ∧
  (∀ (w : Who) (m : Fin 4) (s : State), s.Open w .operator .PMAP_READOUT → s.get .PMAP_STATE m ≠ 2 → bit (s.get
    .PMAP_PENDING m) 1 = false → s.mapInPost m = false → ∃ t, exec (.pmapReadout w m) s = .next t ∧ t.get .PMAP_STATE
    m = 2 ∧ t.pmap m = { s.pmap m with next := some 0, start := s.tickKey + 1 } ∧ t.answer = ⟨.ok, .unit⟩ ∧ s.Within
    [(.PMAP_STATE, m.val), (.PMAP_PENDING, m.val)] [.press] t) ∧
  (∀ (w : Who) (m : Fin 4) (s : State), s.Open w .operator .PMAP_READOUT → s.get .PMAP_STATE m ≠ 2 → bit (s.get
    .PMAP_PENDING m) 1 = false → s.mapInPost m = true → ∃ t, exec (.pmapReadout w m) s = .next t ∧ t.get
    .PMAP_PENDING m = withBit (s.get .PMAP_PENDING m) 1 ∧ t.answer = ⟨.ok, .unit⟩ ∧ s.Within [(.PMAP_PENDING, m.val)]
    [] t) ∧
  (∀ (w : Who) (m : Fin 4) (s : State), s.Open w .operator .PMAP_CLEAR → s.get .PMAP_STATE m ≠ 2 → bit (s.get
    .PMAP_PENDING m) 1 = false → s.mapInPost m = false → s.fenced 2 (48 + m.val) = false → ∃ t, exec (.pmapClear w m)
    s = .next t ∧ t.get .PMAP_CAPTURES m = 0 ∧ t.get .PMAP_MAX m = 0 ∧ (t.pmap m).cells = [] ∧ (∀ u ∈ (s.pmap
    m).units, bit (t.get .UNIT_CAUSE u) 12 = false) ∧ t.answer = ⟨.ok, .unit⟩ ∧ s.WithinKinds [.PMAP_CAPTURES,
    .PMAP_MAX, .PMAP_PENDING, .UNIT_CAUSE] [.press] t) ∧
  (∀ (m : Fin 4) (s : State), (s.pmap m).next = some 32 → s.get .PMAP_PENDING m = 0 → ∃ t, exec (.pmapReadoutDone m)
    s = .next t ∧ t.get .PMAP_STATE m = (if (s.pmap m).bound then 1 else 0) ∧ (t.pmap m).next = none ∧ s.Within
    [(.PMAP_STATE, m.val), (.PRESS_CAUSE, 0), (.FENCE_SUPPRESSED, 2)] [.press] t)

/-- R259 to R264, R299: the request for a segment and what comes of it. -/
def Obligations.Ripening : Prop :=
  (∀ (id : Nat) (s : State), s.cave.request = some id → s.fenced 2 52 = false → s.get .RIPEN_STATE 0 = 0 → ∃ t, exec
    (.ripenRequestRx) s = .next t ∧ t.get .RIPEN_STATE 0 = 1 ∧ t.get .RIPEN_SEGMENT 0 = id ∧ t.cave =
    { s.cave with request := none } ∧ s.Within [(.RIPEN_STATE, 0), (.RIPEN_SEGMENT, 0)] [.cave] t) ∧
  (∀ (id : Nat) (s : State), s.cave.request = some id → s.fenced 2 52 = false → s.get .RIPEN_STATE 0 ≠ 0 → s.get
    .RIPEN_PENDING 0 = 0xFFFFFFFF → ∃ t, exec (.ripenRequestRx) s = .next t ∧ t.get .RIPEN_PENDING 0 = id ∧ t.cave =
    { s.cave with request := none } ∧ s.Within [(.RIPEN_PENDING, 0)] [.cave] t) ∧
  (∀ (g : Segment) (s : State), s.get .RIPEN_STATE 0 = 1 → (s.cave.ring.find? (fun (g : Segment) => g.id == (s.get
    .RIPEN_SEGMENT 0).toNat && g.state == .ripening) = some g) → (s.placeRipe g (s.ripenSegment g).1).isSome = true →
    s.get .RIPEN_PENDING 0 = 0xFFFFFFFF → s.fenced 2 52 = false → ∃ t, exec (.ripenSegmentDone) s = .next t ∧ t.get
    .RIPEN_STATE 0 = 0 ∧ t.get .RIPEN_SEGMENT 0 = 0xFFFFFFFF ∧ t.get .RIPEN_DONE 0 = countNext 4294967295 (s.get
    .RIPEN_DONE 0) ∧ (∀ x ∈ t.cave.ring, x.id ≠ g.id) ∧ bit (t.get .PRESS_CAUSE 0) 5 = true ∧ s.WithinKinds
    [.FENCE_SUPPRESSED, .MARK_RIPE, .PRESS_CAUSE, .QC_CAUSE, .RIPENED_i, .RIPEN_ABANDONED, .RIPEN_DONE,
    .RIPEN_PENDING, .RIPEN_SEGMENT, .RIPEN_STATE, .START_DONE_INDEX, .START_QUALIFIED] [.chans, .engine, .cave,
    .press] t) ∧
  (∀ (g : Segment) (s : State), s.get .RIPEN_STATE 0 = 1 → (s.cave.ring.find? (fun (g : Segment) => g.id == (s.get
    .RIPEN_SEGMENT 0).toNat && g.state == .ripening) = some g) → (s.placeRipe g (s.ripenSegment g).1).isSome = true →
    s.get .RIPEN_PENDING 0 ≠ 0xFFFFFFFF → s.fenced 2 52 = false → ∃ t, exec (.ripenSegmentDone) s = .next t ∧ t.get
    .RIPEN_STATE 0 = 1 ∧ t.get .RIPEN_SEGMENT 0 = s.get .RIPEN_PENDING 0 ∧ t.get .RIPEN_PENDING 0 = 0xFFFFFFFF ∧
    t.get .RIPEN_DONE 0 = countNext 4294967295 (s.get .RIPEN_DONE 0) ∧ (∀ x ∈ t.cave.ring, x.id ≠ g.id) ∧
    s.WithinKinds [.FENCE_SUPPRESSED, .MARK_RIPE, .PRESS_CAUSE, .QC_CAUSE, .RIPENED_i, .RIPEN_ABANDONED, .RIPEN_DONE,
    .RIPEN_PENDING, .RIPEN_SEGMENT, .RIPEN_STATE, .START_DONE_INDEX, .START_QUALIFIED] [.chans, .engine, .cave,
    .press] t) ∧
  (∀ (g : Segment) (s : State), s.get .RIPEN_STATE 0 = 1 → (s.cave.ring.find? (fun (g : Segment) => g.id == (s.get
    .RIPEN_SEGMENT 0).toNat && g.state == .ripening) = some g) → s.placeRipe g (s.ripenSegment g).1 = none → s.get
    .RIPEN_PENDING 0 = 0xFFFFFFFF → ∃ t, exec (.ripenSegmentDone) s = .next t ∧ t.get .RIPEN_STATE 0 = 0 ∧ t.get
    .RIPEN_SEGMENT 0 = 0xFFFFFFFF ∧ t.get .RIPEN_ABANDONED 0 = countNext 4294967295 (s.get .RIPEN_ABANDONED 0) ∧
    t.get .RIPEN_DONE 0 = s.get .RIPEN_DONE 0 ∧ (∀ x ∈ t.cave.ring, x.id = g.id → x.state ≠ .ripening) ∧
    s.WithinKinds [.FENCE_SUPPRESSED, .MARK_RIPE, .PRESS_CAUSE, .QC_CAUSE, .RIPENED_i, .RIPEN_ABANDONED, .RIPEN_DONE,
    .RIPEN_PENDING, .RIPEN_SEGMENT, .RIPEN_STATE, .START_DONE_INDEX, .START_QUALIFIED] [.chans, .engine, .cave,
    .press] t)

/-- R20, R24 to R26, R509 to R511: grid ticks, deliveries and acknowledgements of events, and the writes of the frame
table. -/
def Obligations.EventsAndTicks : Prop :=
  (∀ (tin : TickIn) (s : State), s.tickDue = true → s.engine.late = none → s.frame.immediate = false → ∃ t, exec
    (.gridTick tin) s = .next t ∧ t.get .FRAME_TICK 0 = s.frame.next ∧ t.frame.next = s.frame.next + 1 ∧ t.time.cycle
    = s.time.cycle) ∧
  (∀ (tin : TickIn) (s : State), s.tickDue = false → ∃ t, exec (.gridTick tin) s = .next t ∧ s.Within [] [] t) ∧
  (∀ (n : Fin 256) (a b : Nat) (s : State), (s.evDelivery n).until_ = some a → a ≤ s.time.cycle → (s.evDelivery
    n).count = 0 → (s.evDelivery n).mbxUntil = some b → b ≤ s.time.cycle → (s.evDelivery n).mbxCount = 0 → ∃ t, exec
    (.eventHoldoffEnd n) s = .next t ∧ (t.evDelivery n).until_ = none ∧ (t.evDelivery n).mbxUntil = none ∧ s.Within
    [] [.events] t) ∧
  (∀ (n : Fin 256) (a : Nat) (s : State), (s.evDelivery n).until_ = some a → a ≤ s.time.cycle → 0 < (s.evDelivery
    n).count → (s.evDelivery n).held = false → s.acting = true → s.get .DATA_DIR 0 ≠ 0xFF → 0 < s.holdoff n →
    (s.evDelivery n).mbxUntil = none → ∃ t, exec (.eventHoldoffEnd n) s = .next t ∧ (t.evDelivery n).count = 0 ∧
    (t.evDelivery n).until_ = some (s.time.cycle + s.holdoff n) ∧ s.WithinKinds [] [] t) ∧
  (∀ (n : Fin 256) (a : Nat) (s : State), (s.evDelivery n).until_ = some a → a ≤ s.time.cycle → 0 < (s.evDelivery
    n).count → (s.evDelivery n).held = false → s.acting = true → s.get .DATA_DIR 0 = 0xFF → (s.evDelivery n).mbxUntil
    = none → ∃ t, exec (.eventHoldoffEnd n) s = .next t ∧ (t.evDelivery n).held = true ∧ (t.evDelivery n).count =
    (s.evDelivery n).count ∧ (t.evDelivery n).until_ = none ∧ s.Within [] [.events] t) ∧
  (∀ (n : Fin 256) (s : State), ((∀ a : Nat, (s.evDelivery n).until_ = some a → s.time.cycle < a)) → ((∀ a : Nat,
    (s.evDelivery n).mbxUntil = some a → s.time.cycle < a)) → ∃ t, exec (.eventHoldoffEnd n) s = .next t ∧
    t.evDelivery n = s.evDelivery n ∧ s.Within [] [] t) ∧
  (∀ (w : Who) (n : Fin 256) (s : State), s.Open w .operator .EV_ACK → ((s.jrnCommand w .EV_ACK n .unit).evDelivery
    n).raisedAt ≠ some s.time.cycle → ∃ t, exec (.evAck w n) s = .next t ∧ t.get .EV_PENDING n = 0 ∧ t.answer =
    ⟨.ok, .unit⟩ ∧ s.Within [] [] t) ∧
  (∀ (w : Who) (n : Fin 256) (s : State), s.Open w .operator .EV_ACK → (s.evDelivery n).raisedAt = some s.time.cycle
    → s.get .EV_PENDING n = 1 → ∃ t, exec (.evAck w n) s = .next t ∧ t.get .EV_PENDING n = 1 ∧ t.answer =
    ⟨.ok, .unit⟩ ∧ s.Within [] [] t) ∧
  (∀ (w : Who) (map : List Byte) (s : State), s.Open w .operator .EV_ACK_MAP → map.length = 32 → ∃ t, exec (.evAckMap
    w map) s = .next t ∧ (∀ n < 256, mapBit map n = true → ((s.jrnCommand w .EV_ACK_MAP 0 (.bytes map)).evDelivery
    n).raisedAt ≠ some s.time.cycle → t.get .EV_PENDING n = 0) ∧ (∀ n < 256, mapBit map n = false → t.get .EV_PENDING
    n = (s.jrnCommand w .EV_ACK_MAP 0 (.bytes map)).get .EV_PENDING n) ∧ t.answer = ⟨.ok, .unit⟩ ∧ s.Within [] [] t) ∧
  (∀ (w : Who) (v : Nat) (s : State), s.Open w .engineer .FRAME_SOURCE → s.notActingFor w = false → s.running = false
    → v ≤ 1 → ∃ t, exec (.frameTableWrite w none v) s = .next t ∧ t.get .FRAME_SOURCE 0 = v ∧ t.answer = ⟨.ok, .unit⟩
    ∧ s.Within [(.FRAME_SOURCE, 0), (.FRAME_END_STEP, 0), (.FRAME_STATE, 0), (.FRAME_BAD_STEP, 0)] [] t) ∧
  (∀ (w : Who) (n : Fin 256) (v : Nat) (s : State), s.Open w .engineer .FRAME_STEP_n → s.notActingFor w = false →
    s.running = false → v < 4294967296 → ∃ t, exec (.frameTableWrite w (some n) v) s = .next t ∧ t.get .FRAME_STEP_n
    n = ((v / 16 * 16 : Nat) : Int) ∧ t.answer = ⟨.ok, .unit⟩ ∧ s.Within [(.FRAME_STEP_n, n.val), (.FRAME_END_STEP,
    0), (.FRAME_STATE, 0), (.FRAME_BAD_STEP, 0)] [] t)

/-- R26, R447 to R451, R471, R594, R635: the commands of the staged configuration, each where its own rule accepts
it. -/
def Obligations.CommitCommands : Prop :=
  (∀ (w : Who) (g d : Nat) (s : State), s.Open w .engineer .COMMIT_CANCEL → s.engine.armed = some (g, d) → ∃ t, exec
    (.commitCancel w g) s = .next t ∧ t.engine = { s.engine with armed := none } ∧ t.get .ARMED_INDEX 0 =
    18446744073709551615 ∧ t.get .ARMED_DIGEST 0 = 0 ∧ t.answer = ⟨.ok, .unit⟩ ∧ s.Within [(.ARMED_INDEX, 0),
    (.ARMED_DIGEST, 0)] [.engine] t) ∧
  (∀ (w : Who) (d : Nat) (s : State), s.Open w .engineer .COMMIT_NOW → s.engine.armed = none → d = s.stagedDigest →
    s.running = false → ∃ t, exec (.commitNow w d) s = .next t ∧ t.get .LAST_COMMIT_INDEX 0 = s.nextIndex ∧ t.get
    .COMMIT_COUNT 0 = countNext 4294967295 (s.get .COMMIT_COUNT 0) ∧ t.get .STAGED_DEFAULTS 0 = 0 ∧ t.engine.staged =
    [] ∧ t.answer = ⟨.ok, .unit⟩ ∧ s.WithinKinds [.ABORT_LIMIT, .ALIGN, .AVG_MIN_USED, .AVG_N, .BANK_CAUSE,
    .BANK_ENABLE, .BCAST_IN, .BCAST_OUT, .CAL_STATE, .CAP_COUNT, .CAP_FIRST, .CAP_HEADER, .CAP_HELD, .CAP_HIST,
    .CAP_KEEP, .CAP_MODE, .CAP_PMAP, .CAP_POST, .CAP_PRE, .CAP_QUEUE, .CAP_REGION, .CAP_STAT_INPUT, .CH_EXC,
    .CH_MODE, .CH_PRESENCE, .CH_RANGE, .CH_WIRE_FAULT, .CJC_ENTRY, .COEF_ACTIVE, .COEF_FADE, .COEF_LABEL,
    .COEF_STATE, .COEF_p, .COMMIT_COUNT, .COMMIT_PARTS_REFUSED, .COMMIT_REFUSALS, .COMP_LINK_STATE, .DCB_AUTO_FREEZE,
    .DCB_ENABLE, .DCB_ESTIMATE_i, .DCB_SHIFT_i, .DRAINS_ABANDONED, .EXC_SETTLE, .FENCE_SUPPRESSED, .GROUP_DELAY,
    .HB_PERIOD, .HB_TIMEOUT, .HIST_BASE, .HIST_BINS, .HIST_CLOSES, .HIST_EMIT, .HIST_ENABLE, .HIST_EXCLUDED,
    .HIST_FROM, .HIST_OVER, .HIST_SHIFT, .HIST_SOURCE, .HIST_STATE, .HIST_TO, .HIST_UNDER, .HIST_WINDOW, .HYST,
    .INJECTED, .INJ_REFUSED, .LANE_CAUSE, .LANE_TRIM, .LAST_COMMIT_INDEX, .LEASE_TERM, .LEVEL_A, .LEVEL_B, .LIN_GAIN,
    .LIN_OFFSET, .LOOP_SETTLE, .NOTCH_MODE, .OUT_SEL_i, .PASS_COUNT, .PASS_GRID, .PMAP_CAPTURES, .PMAP_MAX,
    .PMAP_PENDING, .PMAP_STATE, .PRESET_i, .PRESS_BAD_FIELD, .PRESS_CAUSE, .PRIME_END, .PW_QUAL, .REARM_SAMPLES,
    .REDUCED_QUEUE, .RIPEN_FLOOR_i, .SCAN_BAD_ENTRY, .SCAN_ENTRY, .SCAN_ENTRY_n, .SCAN_EXECUTION, .SCAN_LENGTH,
    .SCAN_PASS, .SCAN_PASS_TICKS, .SCAN_START, .SCAN_STATE, .SEQ_BAD_ENTRY, .SEQ_ENTRY_n, .SEQ_LENGTH, .SHADOW_LAST,
    .SHADOW_SKIPS, .SIMUL_MASK, .SLEW_LIMIT, .SPARE_CHANNEL, .SPARE_DELAY, .SPARE_STATE, .STAGED_DEFAULTS,
    .STALE_TICKS, .START_DONE_INDEX, .START_QUALIFIED, .STAT_N, .STAT_QUEUE, .STREAM_QUEUE, .TIME_A, .TIME_B,
    .TRIER_CAD, .TRIER_CAUSE, .TRIER_MODE, .TRIER_QUEUE, .TRIER_STATE, .TRIG_COND, .TRIG_DELAY, .TRIG_EDGE,
    .TRIG_SOURCE, .UNIT_BAD_FIELD, .UNIT_CAUSE, .UNIT_STATE, .VERIFY_LIMIT, .WINDOW_n, .WITNESS_ADDR, .WITNESS_RENEW]
    [.blob, .frame, .chans, .banks, .scans, .triers, .lanes, .engine, .serLanes, .queues, .units, .regions, .press,
    .test, .draws, .out] t) ∧
  (∀ (w : Who) (d : Nat) (v : Int) (s : State), s.Open w .engineer .COMMIT_NOW → s.engine.armed = none → d =
    s.stagedDigest → s.running = false → s.engine.staged = [(⟨.LOOP_SETTLE, 2⟩, .num v)] → s.get .STAGED_DEFAULTS 0 =
    0 → 64 ≤ v → v ≤ 65535 → ∃ t, exec (.commitNow w d) s = .next t ∧ t.get .LOOP_SETTLE 2 = v ∧ t.engine.staged = []
    ∧ t.answer = ⟨.ok, .unit⟩) ∧
  (∀ (w : Who) (d : Nat) (s : State), s.Open w .engineer .COMMIT_NOW → s.engine.armed = none → d = s.stagedDigest →
    s.running = true → ∃ t, exec (.commitNow w d) s = .next t ∧ t.frame = { s.frame with immediate := true } ∧
    t.answer = ⟨.ok, .unit⟩ ∧ s.Within [] [.frame] t) ∧
  (∀ (g d : Nat) (s : State), s.engine.armed = some (g, d) → s.running = true → ((g : Int) - 1 ≤ s.tickKey) →
    s.frame.commitRan = true → ∃ t, exec (.scheduledCommitDue) s = .next t ∧ t.engine.armed = none ∧ t.get
    .ARMED_INDEX 0 = 18446744073709551615 ∧ t.get .ARMED_DIGEST 0 = 0 ∧ t.get .LAST_COMMIT_INDEX 0 = max (g : Int)
    (s.tickKey + 1) ∧ t.get .COMMIT_COUNT 0 = countNext 4294967295 (s.get .COMMIT_COUNT 0) ∧ s.WithinKinds
    [.ABORT_LIMIT, .ACCEPT_COUNT, .ALIGN, .ARMED_DIGEST, .ARMED_INDEX, .AVG_MIN_USED, .AVG_N, .BANK_CAUSE,
    .BANK_ENABLE, .BCAST_IN, .BCAST_OUT, .BUFFER_HIGH, .CAL_STATE, .CAP_COUNT, .CAP_FIRST, .CAP_HEADER, .CAP_HELD,
    .CAP_HIST, .CAP_KEEP, .CAP_MODE, .CAP_MODE_NOW, .CAP_PMAP, .CAP_POST, .CAP_PRE, .CAP_QUEUE, .CAP_REGION,
    .CAP_STAT_INPUT, .CH_EXC, .CH_MODE, .CH_PRESENCE, .CH_RANGE, .CH_WIRE_FAULT, .CJC_ENTRY, .COEF_ACTIVE,
    .COEF_FADE, .COEF_LABEL, .COEF_STATE, .COEF_p, .COMMIT_COUNT, .COMMIT_PARTS_REFUSED, .COMP_LINK_STATE,
    .DCB_AUTO_FREEZE, .DCB_ENABLE, .DCB_ESTIMATE_i, .DCB_SHIFT_i, .DRAINS_ABANDONED, .EARLY_COUNT, .EXC_SETTLE,
    .FENCED_DROPS, .FENCE_SUPPRESSED, .FIRE_COUNT, .GROUP_DELAY, .HB_PERIOD, .HB_TIMEOUT, .HIST_BASE, .HIST_BINS,
    .HIST_CLOSES, .HIST_EMIT, .HIST_ENABLE, .HIST_EXCLUDED, .HIST_FROM, .HIST_OVER, .HIST_SHIFT, .HIST_SOURCE,
    .HIST_STATE, .HIST_TO, .HIST_UNDER, .HIST_WINDOW, .HYST, .INJECTED, .INJ_REFUSED, .LANE_CAUSE, .LANE_TRIM,
    .LAST_COMMIT_INDEX, .LAST_TRIGGER, .LATE_COUNT, .LEASE_TERM, .LEVEL_A, .LEVEL_B, .LIN_GAIN, .LIN_OFFSET,
    .LOOP_SETTLE, .LOSS_SEQ, .LOST_COUNT, .LOST_DISCARD, .LOST_FENCE, .LOST_PRESS, .LOST_RECLAIMED, .LOST_UNREADABLE,
    .LOST_WITHDRAWN, .LOST_i, .MARK_INDEX, .MARK_OVERTAKEN, .MARK_STATE, .MAX_FILL, .NOTCH_MODE, .OLDEST_INDEX,
    .OUT_SEL_i, .PASS_COUNT, .PASS_GRID, .PMAP_CAPTURES, .PMAP_MAX, .PMAP_PENDING, .PMAP_STATE, .PRESET_i,
    .PRESS_BAD_FIELD, .PRESS_CAUSE, .PRIME_END, .PW_QUAL, .QC_CAUSE, .QUEUE_SEQ, .REARM_COUNT, .REARM_SAMPLES,
    .REDUCED_DROPPED, .REDUCED_QUEUE, .REPLAY_SKIPPED_TICKS, .RIPEN_FLOOR_i, .SCAN_BAD_ENTRY, .SCAN_ENTRY,
    .SCAN_ENTRY_n, .SCAN_EXECUTION, .SCAN_LENGTH, .SCAN_PASS, .SCAN_PASS_TICKS, .SCAN_START, .SCAN_STATE,
    .SEQ_BAD_ENTRY, .SEQ_ENTRY_n, .SEQ_LENGTH, .SHADOW_LAST, .SHADOW_SKIPS, .SIMUL_MASK, .SLEW_LIMIT, .SPARE_CHANNEL,
    .SPARE_DELAY, .SPARE_STATE, .STAGED_DEFAULTS, .STALE_TICKS, .START_DONE_INDEX, .START_QUALIFIED, .STAT_N,
    .STAT_QUEUE, .STREAM_DROPPED, .STREAM_QUEUE, .TIME_A, .TIME_B, .TRIER_CAD, .TRIER_CAUSE, .TRIER_MODE,
    .TRIER_QUEUE, .TRIER_STATE, .TRIG_COND, .TRIG_DELAY, .TRIG_EDGE, .TRIG_SOURCE, .UNIT_BAD_FIELD, .UNIT_CAUSE,
    .UNIT_STATE, .VERIFY_LIMIT, .WINDOW_n, .WITNESS_ADDR, .WITNESS_RENEW, .WRITE_BYTES] [.blob, .frame, .chans,
    .banks, .scans, .triers, .lanes, .engine, .serLanes, .queues, .cave, .units, .regions, .bcasts, .press, .test,
    .draws, .out] t) ∧
  (∀ (w : Who) (s : State), s.Open w .engineer .STAGE_DISCARD → s.engine.armed = none → ∃ t, exec (.stageDiscard w) s
    = .next t ∧ t.engine = { s.engine with staged := [] } ∧ t.get .STAGED_DEFAULTS 0 = 0 ∧ t.answer = ⟨.ok, .unit⟩ ∧
    s.Within [(.STAGED_DEFAULTS, 0)] [.engine] t) ∧
  (∀ (w : Who) (s : State), s.Open w .engineer .RESTORE_DEFAULTS → s.engine.armed = none → ∃ t, exec
    (.restoreDefaults w) s = .next t ∧ t.engine =
    { s.engine with staged := s.engine.staged.filter (fun x => !x.1.obj.info.marked) } ∧ t.get .STAGED_DEFAULTS 0 = 1
    ∧ t.answer = ⟨.ok, .unit⟩ ∧ s.Within [(.STAGED_DEFAULTS, 0)] [.engine] t) ∧
  (∀ (w : Who) (s : State), s.Open w .engineer .CFG_SAVE → ∃ t, exec (.cfgSave w) s = .next t ∧ t.engine.saved = some
    (cfgEntries.map (fun e => ((⟨e.2.1.obj, e.2.2⟩ : Key), s.valueOf e.2.1 e.2.2))) ∧ t.boot.leftSaved = s.vat.left ∧
    t.answer = ⟨.ok, .unit⟩ ∧ s.Within [(.CFG_SAVED_DIGEST, 0)] [.engine] t)

/-- R530, R594, R595, R597, R612: the starts and the stop of acquisition. -/
def Obligations.AcquisitionCommands : Prop :=
  (∀ (w : Who) (s : State), s.Open w .operator .ACQ_START → s.judgeStart.1 = none → s.get .ST_STATE 0 = 0 → ∃ t, exec
    (.acqStart w) s = .next t ∧ t.get .FRAME_STATE 0 = 1 ∧ t.get .START_STATE 0 = 7 ∧ t.get .FRAME_BAD_STEP 0 = 0 ∧
    t.get .MODCLK_STATE 0 = 1 ∧ t.get .SERVICE_PHASE 0 = 0 ∧ t.get .START_QUALIFIED 0 = 0 ∧ t.frame.next =
    s.nextInstant + 2 ∧ t.boot.startedAt = s.time.cycle ∧ t.answer = ⟨.ok, .unit⟩ ∧ s.WithinKinds [.ABORT_LIMIT,
    .ALIGN, .ARMED_DIGEST, .ARMED_INDEX, .AUTH_FAILS, .AVG_MIN_USED, .AVG_N, .BANK_CAUSE, .BANK_ENABLE, .BCAST_IN,
    .BCAST_OUT, .CAL_STATE, .CAP_COUNT, .CAP_FIRST, .CAP_HEADER, .CAP_HELD, .CAP_HIST, .CAP_KEEP, .CAP_MODE,
    .CAP_PMAP, .CAP_POST, .CAP_PRE, .CAP_QUEUE, .CAP_REGION, .CAP_STAT_INPUT, .CAVE_STATE, .CH_EXC, .CH_MODE,
    .CH_PRESENCE, .CH_RANGE, .CH_WIRE_FAULT, .CJC_ENTRY, .CLK_REF_ACTIVE, .COEF_ACTIVE, .COEF_FADE, .COEF_IN_USE,
    .COEF_LABEL, .COEF_PENDING, .COEF_STATE, .COEF_p, .COMMIT_COUNT, .COMMIT_PARTS_REFUSED, .COMP_LINK_STATE,
    .DATA_DIR, .DCB_AUTO_FREEZE, .DCB_ENABLE, .DCB_ESTIMATE_i, .DCB_SHIFT_i, .DEBUG_EFFECTIVE, .DEBUG_HALTED,
    .DELAY_STATE, .DRAINS_ABANDONED, .DROPS, .EXC_SETTLE, .FAILED_LINKS, .FAILURES, .FENCE_SUPPRESSED,
    .FRAME_BAD_STEP, .FRAME_END_STEP, .FRAME_STATE, .FRAME_STEP_n, .GROUP_DELAY, .HB_PERIOD, .HB_TIMEOUT,
    .HISTORY_GAP, .HIST_BASE, .HIST_BINS, .HIST_CLOSES, .HIST_EMIT, .HIST_ENABLE, .HIST_EXCLUDED, .HIST_FROM,
    .HIST_OVER, .HIST_SHIFT, .HIST_SOURCE, .HIST_STATE, .HIST_TO, .HIST_UNDER, .HIST_WINDOW, .HOLDOVER_TIME, .HYST,
    .INJECTED, .INJ_REFUSED, .JRN_MIRROR_STATE, .LANE_CAUSE, .LANE_STATE, .LANE_TRIM, .LAST_COMMIT_INDEX,
    .LAYOUT_BAD, .LEASE_TERM, .LEVEL_A, .LEVEL_B, .LINK_CHANGED, .LINK_DELAY_PREV, .LINK_FAIL_CAUSE, .LINK_STATE,
    .LIN_GAIN, .LIN_OFFSET, .LN_CAUSE, .LOCK_n, .LOOP_SETTLE, .MARK_STATE, .MESSAGES, .MODCLK_STATE, .NOTCH_MODE,
    .OUT_SEL_i, .PASS_COUNT, .PASS_GRID, .PAUSES_SENT, .PMAP_CAPTURES, .PMAP_MAX, .PMAP_PENDING, .PMAP_STATE,
    .PORT_CHANGED, .PORT_LANES, .PORT_STATE, .PRESET_i, .PRESS_BAD_FIELD, .PRESS_CAUSE, .PRIME_END, .PT_STATE,
    .PWR_CHANGED, .PWR_STATE, .PW_CAUSE, .PW_QUAL, .QC_CAUSE, .REARM_SAMPLES, .REDUCED_QUEUE, .REPAIR_ENTRY_n,
    .REPLAY_STATE, .RIPEN_FLOOR_i, .RL_CAUSE, .RX_ADAPT_STATE, .SCAN_BAD_ENTRY, .SCAN_ENTRY, .SCAN_ENTRY_n,
    .SCAN_EXECUTION, .SCAN_LENGTH, .SCAN_PASS, .SCAN_PASS_TICKS, .SCAN_START, .SCAN_STATE, .SEC_CAUSE,
    .SEQ_BAD_ENTRY, .SEQ_ENTRY_n, .SEQ_LENGTH, .SEQ_REJECTS, .SESSIONS_OPEN, .SHADOW_LAST, .SHADOW_SKIPS,
    .SIMUL_MASK, .SLEW_LIMIT, .SPARE_CHANNEL, .SPARE_DELAY, .SPARE_MIB, .SPARE_STATE, .STAGED_DEFAULTS, .STALE_TICKS,
    .START_DONE_INDEX, .START_QUALIFIED, .START_REFUSAL, .START_STATE, .STAT_N, .STAT_QUEUE, .STREAM_QUEUE,
    .SWAP_COUNT, .SWITCH_COUNT, .SWITCH_INDEX, .TIME_A, .TIME_B, .TIMING_LANE, .TRANSIT_DROPS, .TRANSIT_HIGH,
    .TRIER_CAD, .TRIER_CAUSE, .TRIER_MODE, .TRIER_QUEUE, .TRIER_STATE, .TRIG_COND, .TRIG_DELAY, .TRIG_EDGE,
    .TRIG_SOURCE, .TWIN_CAUSE, .TWIN_STATE, .UNIT_BAD_FIELD, .UNIT_CAUSE, .UNIT_STATE, .VERIFY_LIMIT, .VT_STATE,
    .WINDOW_n, .WITNESS_ADDR, .WITNESS_RENEW, .WRITE_BYTES] [.blob, .time, .frame, .chans, .banks, .scans, .triers,
    .lanes, .engine, .serLanes, .ringTime, .excCal, .queues, .cave, .units, .regions, .bcasts, .press, .sec, .power,
    .test, .vat, .draws, .out] t) ∧
  (∀ (w : Who) (s : State), s.Open w .operator .ACQ_START → s.judgeStart.1 = none → s.get .ST_STATE 0 ≠ 0 → ∃ t, exec
    (.acqStart w) s = .next t ∧ t.test.abort = true ∧ t.test.stop = true ∧ t.test.start = some w ∧ t.answer =
    ⟨.ok, .unit⟩) ∧
  (∀ (w : Who) (code : Nat) (s : State), s.Open w .operator .ACQ_START → s.judgeStart.1 = some code → ∃ t, exec
    (.acqStart w) s = .next t ∧ t.get .START_REFUSAL 0 = code ∧ t.answer = ⟨.refused, .unit⟩) ∧
  (∀ (s : State), s.get .AUTO_START 0 = 1 → s.get .START_STATE 0 = 6 → s.boot.autoDone = false → s.get .VAT_STATE 0 =
    2 → s.judgeStart.1 = none → s.get .ST_STATE 0 = 0 → ∃ t, exec (.autoStart) s = .next t ∧ t.get .FRAME_STATE 0 = 1
    ∧ t.get .START_STATE 0 = 7 ∧ t.get .FRAME_BAD_STEP 0 = 0 ∧ t.get .MODCLK_STATE 0 = 1 ∧ t.get .SERVICE_PHASE 0 = 0
    ∧ t.get .START_QUALIFIED 0 = 0 ∧ t.frame.next = s.nextInstant + 2 ∧ t.boot.autoDone = true ∧ s.WithinKinds
    [.ABORT_LIMIT, .ALIGN, .ARMED_DIGEST, .ARMED_INDEX, .AUTH_FAILS, .AVG_MIN_USED, .AVG_N, .BANK_CAUSE,
    .BANK_ENABLE, .BCAST_IN, .BCAST_OUT, .CAL_STATE, .CAP_COUNT, .CAP_FIRST, .CAP_HEADER, .CAP_HELD, .CAP_HIST,
    .CAP_KEEP, .CAP_MODE, .CAP_PMAP, .CAP_POST, .CAP_PRE, .CAP_QUEUE, .CAP_REGION, .CAP_STAT_INPUT, .CAVE_STATE,
    .CH_EXC, .CH_MODE, .CH_PRESENCE, .CH_RANGE, .CH_WIRE_FAULT, .CJC_ENTRY, .CLK_REF_ACTIVE, .COEF_ACTIVE,
    .COEF_FADE, .COEF_IN_USE, .COEF_LABEL, .COEF_PENDING, .COEF_STATE, .COEF_p, .COMMIT_COUNT, .COMMIT_PARTS_REFUSED,
    .COMP_LINK_STATE, .DATA_DIR, .DCB_AUTO_FREEZE, .DCB_ENABLE, .DCB_ESTIMATE_i, .DCB_SHIFT_i, .DEBUG_EFFECTIVE,
    .DEBUG_HALTED, .DELAY_STATE, .DRAINS_ABANDONED, .DROPS, .EXC_SETTLE, .FAILED_LINKS, .FAILURES, .FENCE_SUPPRESSED,
    .FRAME_BAD_STEP, .FRAME_END_STEP, .FRAME_STATE, .FRAME_STEP_n, .GROUP_DELAY, .HB_PERIOD, .HB_TIMEOUT,
    .HISTORY_GAP, .HIST_BASE, .HIST_BINS, .HIST_CLOSES, .HIST_EMIT, .HIST_ENABLE, .HIST_EXCLUDED, .HIST_FROM,
    .HIST_OVER, .HIST_SHIFT, .HIST_SOURCE, .HIST_STATE, .HIST_TO, .HIST_UNDER, .HIST_WINDOW, .HOLDOVER_TIME, .HYST,
    .INJECTED, .INJ_REFUSED, .JRN_MIRROR_STATE, .LANE_CAUSE, .LANE_STATE, .LANE_TRIM, .LAST_COMMIT_INDEX,
    .LAYOUT_BAD, .LEASE_TERM, .LEVEL_A, .LEVEL_B, .LINK_CHANGED, .LINK_DELAY_PREV, .LINK_FAIL_CAUSE, .LINK_STATE,
    .LIN_GAIN, .LIN_OFFSET, .LN_CAUSE, .LOCK_n, .LOOP_SETTLE, .MARK_STATE, .MESSAGES, .MODCLK_STATE, .NOTCH_MODE,
    .OUT_SEL_i, .PASS_COUNT, .PASS_GRID, .PAUSES_SENT, .PMAP_CAPTURES, .PMAP_MAX, .PMAP_PENDING, .PMAP_STATE,
    .PORT_CHANGED, .PORT_LANES, .PORT_STATE, .PRESET_i, .PRESS_BAD_FIELD, .PRESS_CAUSE, .PRIME_END, .PT_STATE,
    .PWR_CHANGED, .PWR_STATE, .PW_CAUSE, .PW_QUAL, .QC_CAUSE, .REARM_SAMPLES, .REDUCED_QUEUE, .REPAIR_ENTRY_n,
    .REPLAY_STATE, .RIPEN_FLOOR_i, .RL_CAUSE, .RX_ADAPT_STATE, .SCAN_BAD_ENTRY, .SCAN_ENTRY, .SCAN_ENTRY_n,
    .SCAN_EXECUTION, .SCAN_LENGTH, .SCAN_PASS, .SCAN_PASS_TICKS, .SCAN_START, .SCAN_STATE, .SEC_CAUSE,
    .SEQ_BAD_ENTRY, .SEQ_ENTRY_n, .SEQ_LENGTH, .SEQ_REJECTS, .SESSIONS_OPEN, .SHADOW_LAST, .SHADOW_SKIPS,
    .SIMUL_MASK, .SLEW_LIMIT, .SPARE_CHANNEL, .SPARE_DELAY, .SPARE_MIB, .SPARE_STATE, .STAGED_DEFAULTS, .STALE_TICKS,
    .START_DONE_INDEX, .START_QUALIFIED, .START_REFUSAL, .START_STATE, .STAT_N, .STAT_QUEUE, .STREAM_QUEUE,
    .SWAP_COUNT, .SWITCH_COUNT, .SWITCH_INDEX, .TIME_A, .TIME_B, .TIMING_LANE, .TRANSIT_DROPS, .TRANSIT_HIGH,
    .TRIER_CAD, .TRIER_CAUSE, .TRIER_MODE, .TRIER_QUEUE, .TRIER_STATE, .TRIG_COND, .TRIG_DELAY, .TRIG_EDGE,
    .TRIG_SOURCE, .TWIN_CAUSE, .TWIN_STATE, .UNIT_BAD_FIELD, .UNIT_CAUSE, .UNIT_STATE, .VERIFY_LIMIT, .VT_STATE,
    .WINDOW_n, .WITNESS_ADDR, .WITNESS_RENEW, .WRITE_BYTES] [.blob, .time, .frame, .chans, .banks, .scans, .triers,
    .lanes, .engine, .serLanes, .ringTime, .excCal, .queues, .cave, .units, .regions, .bcasts, .press, .sec, .power,
    .test, .vat, .draws, .out] t) ∧
  (∀ (s : State), s.boot.autoDone = true ∨ s.get .AUTO_START 0 ≠ 1 → ∃ t, exec (.autoStart) s = .next t ∧ s.Within []
    [] t) ∧
  (∀ (w : Who) (s : State), s.Open w .operator .ACQ_STOP → s.running = true → s.engine.armed = none →
    s.frame.immediate = false → s.get .ST_STATE 0 = 0 → ∃ t, exec (.acqStop w) s = .next t ∧ t.get .FRAME_STATE 0 = 0
    ∧ t.get .MODCLK_STATE 0 = 0 ∧ t.get .START_STATE 0 = (if s.get .START_STATE 0 = 7 then 6 else s.get .START_STATE
    0) ∧ t.frame = {} ∧ t.scans = [] ∧ t.power.stoppedAt = s.time.cycle ∧ ((∀ b < 32, t.get .COMP_LINK_STATE b = 0 ∧
    t.get .SCAN_STATE b = 0 ∧ t.get .SPARE_STATE b ∈ [0, 7, 8])) ∧ t.answer = ⟨.ok, .unit⟩ ∧ s.WithinKinds
    [.ABORT_LIMIT, .ALIGN, .ARMED_DIGEST, .ARMED_INDEX, .AUTH_FAILS, .AVG_MIN_USED, .AVG_N, .AVG_SHORT, .BANK_CAUSE,
    .BANK_ENABLE, .BCAST_IN, .BCAST_OUT, .BITS_IN, .BITS_OUT, .BLOCKS, .BLOCKS_VERBATIM, .BUFFER_HIGH, .CAL_STATE,
    .CAP_COUNT, .CAP_FIRST, .CAP_HEADER, .CAP_HELD, .CAP_HIST, .CAP_KEEP, .CAP_MODE, .CAP_PMAP, .CAP_POST, .CAP_PRE,
    .CAP_QUEUE, .CAP_REGION, .CAP_STAT_INPUT, .CAVE_STATE, .CH_EXC, .CH_MODE, .CH_PRESENCE, .CH_RANGE,
    .CH_WIRE_FAULT, .CJC_ENTRY, .COEF_ACTIVE, .COEF_FADE, .COEF_LABEL, .COEF_STATE, .COEF_p, .COMMIT_COUNT,
    .COMMIT_PARTS_REFUSED, .COMP_LINK_STATE, .DATA_DIR, .DCB_AUTO_FREEZE, .DCB_ENABLE, .DCB_ESTIMATE_i, .DCB_SHIFT_i,
    .DEBUG_EFFECTIVE, .DEBUG_HALTED, .DELAY_STATE, .DRAINS_ABANDONED, .EXC_SETTLE, .FAILED_LINKS, .FAILURES, .FENCED,
    .FENCED_DROPS, .FENCE_ENTRIES, .FENCE_LAST, .FENCE_SUPPRESSED, .FI_CAUSE, .FRAME_STATE, .GROUP_DELAY, .HB_PERIOD,
    .HB_TIMEOUT, .HIST_BASE, .HIST_BINS, .HIST_CLOSES, .HIST_EMIT, .HIST_ENABLE, .HIST_EXCLUDED, .HIST_FROM,
    .HIST_OVER, .HIST_SHIFT, .HIST_SOURCE, .HIST_STATE, .HIST_TO, .HIST_UNDER, .HIST_WINDOW, .HOLDOVER_TIME, .HYST,
    .INJECTED, .INJ_REFUSED, .JRN_MIRROR_STATE, .LANE_CAUSE, .LANE_STATE, .LANE_TRIM, .LAST_COMMIT_INDEX,
    .LEASE_TERM, .LEVEL_A, .LEVEL_B, .LINK_CHANGED, .LINK_DELAY_PREV, .LINK_FAIL_CAUSE, .LINK_STATE, .LIN_GAIN,
    .LIN_OFFSET, .LN_CAUSE, .LOOP_SETTLE, .LOSS_SEQ, .LOST_DISCARD, .LOST_FENCE, .LOST_PRESS, .LOST_RECLAIMED,
    .LOST_UNREADABLE, .LOST_WITHDRAWN, .LOST_i, .MARK_INDEX, .MARK_OVERTAKEN, .MARK_STATE, .MAX_FILL, .MESSAGES,
    .MODCLK_STATE, .NOTCH_MODE, .OLDEST_INDEX, .OUT_SEL_i, .PASS_COUNT, .PASS_GRID, .PAUSES_SENT, .PMAP_CAPTURES,
    .PMAP_MAX, .PMAP_PENDING, .PMAP_STATE, .PORT_CHANGED, .PORT_LANES, .PORT_STATE, .PRESET_i, .PRESS_BAD_FIELD,
    .PRESS_CAUSE, .PRIME_END, .PT_STATE, .PWR_CHANGED, .PWR_STATE, .PW_CAUSE, .PW_QUAL, .QC_CAUSE, .QUEUE_SEQ,
    .REARM_SAMPLES, .REDUCED_DROPPED, .REDUCED_QUEUE, .REPLAY_SKIPPED_TICKS, .RIPEN_FLOOR_i, .RL_CAUSE,
    .RX_ADAPT_STATE, .SCAN_BAD_ENTRY, .SCAN_ENTRY, .SCAN_ENTRY_n, .SCAN_EXECUTION, .SCAN_LENGTH, .SCAN_PASS,
    .SCAN_PASS_TICKS, .SCAN_START, .SCAN_STATE, .SEC_CAUSE, .SEQ_BAD_ENTRY, .SEQ_ENTRY_n, .SEQ_LENGTH, .SEQ_REJECTS,
    .SESSIONS_OPEN, .SHADOW_LAST, .SHADOW_SKIPS, .SIMUL_MASK, .SLEW_LIMIT, .SPARE_CHANNEL, .SPARE_DELAY,
    .SPARE_STATE, .STAGED_DEFAULTS, .STALE_TICKS, .START_DONE_INDEX, .START_QUALIFIED, .START_STATE, .STAT_N,
    .STAT_QUEUE, .STREAM_DROPPED, .STREAM_QUEUE, .TIME_A, .TIME_B, .TIMING_LANE, .TRANSIT_DROPS, .TRANSIT_HIGH,
    .TRIER_CAD, .TRIER_CAUSE, .TRIER_MODE, .TRIER_QUEUE, .TRIER_STATE, .TRIG_COND, .TRIG_DELAY, .TRIG_EDGE,
    .TRIG_SOURCE, .UNIT_BAD_FIELD, .UNIT_CAUSE, .UNIT_STATE, .VERIFY_FAILS, .VERIFY_LIMIT, .VT_STATE, .WINDOW_n,
    .WITNESS_ADDR, .WITNESS_RENEW, .WRITE_BYTES] [.blob, .time, .frame, .chans, .banks, .scans, .triers, .lanes,
    .fences, .engine, .serLanes, .ringTime, .queues, .cave, .units, .regions, .press, .trierOut, .sec, .power, .test,
    .draws, .out] t) ∧
  (∀ (w : Who) (s : State), s.Open w .operator .ACQ_STOP → s.running = false → ∃ t, exec (.acqStop w) s = .next t ∧
    t.frame = s.frame ∧ t.answer = ⟨.ok, .unit⟩ ∧ s.Within [] [] t)

/-- R278 to R283, R288, R297 to R302: packets leaving the queues for the cave, for requesters and for the ring, the
commands of QUEUE_CONTROL, and the acknowledgements. -/
def Obligations.QueueCommands : Prop :=
  (∀ (q : Fin 16) (n : Nat) (xs : List Slot) (p : Packet) (g : Segment) (s : State), (s.queue q).drain = 0 → s.get
    .CAVE_STATE 0 = 2 → 0 < s.cave.total → s.fenced 5 q = false → (s.queue q).reading = none → (s.queue q).wholeHead
    = some n → (s.queue q).incoming = none → xs = (if (s.queue q).framing = 0 then ((s.queue q).slots.take n).drop 1
    else (s.queue q).slots.take n) → xs.all (fun x => !x.bad) = true → p = packetOf (wordsBytes (xs.filterMap (fun x
    => x.word))) → s.cave.ring = [g] → g.state = .writing → g.bytes + p.length ≤ segmentBytes → s.running = true → ∃
    t, exec (.caveWritePacket q) s = .next t ∧ (t.queue q).slots = (s.queue q).slots.drop n ∧ t.cave.ring =
    [{ g with pkts := g.pkts ++ [{ tick := s.tickKey, pkt := p }], bytes := g.bytes + p.length, hi := s.tickKey, lo := if g.pkts.isEmpty then s.tickKey else g.lo }]
    ∧ t.cave.lastSeq = Sparse.insert (fun k => k) q.val p.seq s.cave.lastSeq ∧ t.get .WRITE_BYTES 0 = min (s.get
    .WRITE_BYTES 0 + p.length) 18446744073709551615 ∧ s.Within [(.WRITE_BYTES, 0)] [.queues, .cave] t) ∧
  (∀ (q : Fin 16) (n : Nat) (xs : List Slot) (p : Packet) (s : State), (s.queue q).drain = 0 → s.get .CAVE_STATE 0 =
    2 → 0 < s.cave.total → s.fenced 5 q = false → (s.queue q).reading = none → (s.queue q).wholeHead = some n →
    (s.queue q).incoming = none → xs = (if (s.queue q).framing = 0 then ((s.queue q).slots.take n).drop 1 else
    (s.queue q).slots.take n) → xs.any (fun x => x.bad) = true → p = packetOf (wordsBytes (xs.filterMap (fun x =>
    x.word))) → p.isStream = true → s.running = true → ∃ t, exec (.caveWritePacket q) s = .next t ∧ (t.queue q).slots
    = (s.queue q).slots.drop n ∧ t.cave.ring = s.cave.ring ∧ t.get .LOST_UNREADABLE 0 = min (s.get .LOST_UNREADABLE 0
    + 1) 18446744073709551615 ∧ t.get .WRITE_BYTES 0 = s.get .WRITE_BYTES 0 ∧ s.WithinKinds [.FENCE_SUPPRESSED,
    .LOSS_SEQ, .LOST_DISCARD, .LOST_FENCE, .LOST_PRESS, .LOST_RECLAIMED, .LOST_UNREADABLE, .LOST_WITHDRAWN, .LOST_i,
    .MARK_INDEX, .MARK_OVERTAKEN, .MARK_STATE, .MAX_FILL, .OLDEST_INDEX, .QC_CAUSE, .REPLAY_SKIPPED_TICKS,
    .WRITE_BYTES] [.queues, .cave] t) ∧
  (∀ (q : Fin 16) (s : State), (s.queue q).drain ≠ 0 ∨ s.get .CAVE_STATE 0 ≠ 2 ∨ s.fenced 5 q = true → ∃ t, exec
    (.caveWritePacket q) s = .next t ∧ s.Within [] [] t) ∧
  (∀ (w : Who) (q : Fin 16) (room n : Nat) (xs : List Slot) (s : State), s.served = true →
    Obj.QUEUE_READ.info.role.rank ≤ w.role.rank → s.barred w .QUEUE_READ false = none → s.get .ST_STATE 0 ≠ 1 →
    (s.queue q).drain = 2 → s.fenced 5 q = false → (s.queue q).reading = none → (s.queue q).wholeHead = some n →
    (s.queue q).incoming = none → xs = (if (s.queue q).framing = 0 then ((s.queue q).slots.take n).drop 1 else
    (s.queue q).slots.take n) → xs.all (fun x => !x.bad) = true → 4 * (if (s.queue q).framing = 0 then n - 1 else n)
    ≤ room → ∃ t, exec (.queueRead w q room) s = .next t ∧ t.answer =
    ⟨.ok, .bytes (wordsBytes (xs.filterMap (fun x => x.word)))⟩ ∧ (t.queue q).slots = (s.queue q).slots.drop n ∧
    s.WithinKinds [.FENCE_SUPPRESSED, .MAX_FILL, .QC_CAUSE] [.queues] t) ∧
  (∀ (w : Who) (q : Fin 16) (room n : Nat) (s : State), s.served = true → Obj.QUEUE_READ.info.role.rank ≤ w.role.rank
    → s.barred w .QUEUE_READ false = none → s.get .ST_STATE 0 ≠ 1 → (s.queue q).drain = 2 → s.headBytes q = some n →
    room < n → ∃ t, exec (.queueRead w q room) s = .next t ∧ t.answer = ⟨.segmented, .num n⟩ ∧ s.Within [] [] t) ∧
  (∀ (w : Who) (q : Fin 16) (room : Nat) (s : State), s.served = true → Obj.QUEUE_READ.info.role.rank ≤ w.role.rank →
    s.barred w .QUEUE_READ false = none → s.get .ST_STATE 0 ≠ 1 → (s.queue q).drain = 2 → s.headBytes q = none →
    s.fenced 5 q = false → s.get .QUEUE_READ_WAIT q ≠ 0 → ∃ t, exec (.queueRead w q room) s = .next t ∧ t.answer =
    ⟨.notDone, .unit⟩ ∧ t.queue q =
    { s.queue q with waiting := (s.queue q).waiting ++ [(s.time.cycle + msCycles (s.get .QUEUE_READ_WAIT q).toNat, room)] }
    ∧ s.Within [] [.queues] t) ∧
  (∀ (w : Who) (q : Fin 16) (room : Nat) (s : State), s.served = true → Obj.QUEUE_READ.info.role.rank ≤ w.role.rank →
    s.barred w .QUEUE_READ false = none → s.get .ST_STATE 0 ≠ 1 → (s.queue q).drain = 2 → s.headBytes q = none →
    s.fenced 5 q = true ∨ s.get .QUEUE_READ_WAIT q = 0 → ∃ t, exec (.queueRead w q room) s = .next t ∧ t.answer =
    ⟨.ok, .bytes []⟩ ∧ s.Within [] [] t) ∧
  (∀ (w : Who) (q : Fin 16) (room : Nat) (s : State), s.served = true → Obj.QUEUE_READ.info.role.rank ≤ w.role.rank →
    s.barred w .QUEUE_READ false = none → (s.queue q).drain ≠ 2 → ∃ t, exec (.queueRead w q room) s = .next t ∧
    t.answer = ⟨.path, .unit⟩ ∧ t.queues = s.queues ∧ s.Within [] [.test] t) ∧
  (∀ (q : Fin 16) (room a : Nat) (s : State), (s.queue q).waiting = [(a, room)] → a < s.time.cycle → s.headBytes q =
    none → (s.queue q).drain = 2 → s.engine.sessions = [] → ∃ t, exec (.queueReadWaitExpiry q) s = .next t ∧ (t.queue
    q).waiting = [] ∧ t.answer = ⟨.ok, .bytes []⟩ ∧ (t.queue q).slots = (s.queue q).slots ∧ s.Within [] [.queues] t) ∧
  (∀ (q : Fin 16) (room a : Nat) (s : State), (s.queue q).waiting = [(a, room)] → s.time.cycle ≤ a → s.headBytes q =
    none → s.fenced 5 q = false → s.engine.sessions = [] → ∃ t, exec (.queueReadWaitExpiry q) s = .next t ∧ (t.queue
    q).waiting = [(a, room)] ∧ (t.queue q).slots = (s.queue q).slots ∧ s.Within [] [.queues] t) ∧
  (∀ (q : Fin 16) (room a n : Nat) (xs : List Slot) (s : State), (s.queue q).waiting = [(a, room)] → (s.queue
    q).drain = 2 → s.fenced 5 q = false → (s.queue q).reading = none → (s.queue q).wholeHead = some n → (s.queue
    q).incoming = none → xs = (if (s.queue q).framing = 0 then ((s.queue q).slots.take n).drop 1 else (s.queue
    q).slots.take n) → xs.all (fun x => !x.bad) = true → 4 * (if (s.queue q).framing = 0 then n - 1 else n) ≤ room →
    s.engine.sessions = [] → ∃ t, exec (.queueReadWaitExpiry q) s = .next t ∧ (t.queue q).waiting = [] ∧ t.answer =
    ⟨.ok, .bytes (wordsBytes (xs.filterMap (fun x => x.word)))⟩ ∧ (t.queue q).slots = (s.queue q).slots.drop n ∧
    s.Within [(.QC_CAUSE, 0), (.FENCE_SUPPRESSED, 5)] [.queues] t) ∧
  (∀ (w : Who) (q : Fin 16) (s : State), s.Open w .engineer .QUEUE_CONTROL → ∃ t, exec (.queueFlush w q) s = .next t
    ∧ (t.queue q).slots = [] ∧ (t.queue q).incoming = none ∧ (t.queue q).reading = none ∧ (t.queue q).rp = (s.queue
    q).wp ∧ t.answer = ⟨.ok, .unit⟩ ∧ s.Within [(.FLUSHED_PACKETS, q.val), (.QC_CAUSE, 0), (.FENCE_SUPPRESSED, 5)]
    [.queues] t) ∧
  (∀ (w : Who) (q : Fin 16) (k : Nat) (s : State), s.Open w .engineer .QUEUE_CONTROL → (s.queue q).drain ≠ 0 →
    (s.queue q).reading = some k → (s.queue q).framing = 0 → (s.queue q).incoming = none → ∃ t, exec (.queueDropRest
    w q) s = .next t ∧ (t.queue q).reading = none ∧ (t.queue q).slots = (s.queue q).slots.drop k ∧ t.get
    .DROPPED_WORDS q = min (s.get .DROPPED_WORDS q + k) 4294967295 ∧ ((s.fenced 5 q = false → bit (t.get .QC_CAUSE 0)
    3 = true)) ∧ t.answer = ⟨.ok, .unit⟩ ∧ s.Within [(.DROPPED_WORDS, q.val), (.QC_CAUSE, 0), (.FENCE_SUPPRESSED, 5)]
    [.queues] t) ∧
  (∀ (w : Who) (q : Fin 16) (j : Nat) (s : State), s.Open w .engineer .QUEUE_CONTROL → (s.queue q).drain ≠ 0 →
    (s.queue q).reading = some 0 → (s.queue q).framing ≠ 0 → (s.queue q).slots.findIdx? (fun x => x.mark) = some j →
    (s.queue q).incoming = none → ∃ t, exec (.queueDropRest w q) s = .next t ∧ (t.queue q).reading = none ∧ (t.queue
    q).slots = (s.queue q).slots.drop (j + 1) ∧ t.get .DROPPED_WORDS q = min (s.get .DROPPED_WORDS q + (j + 1 : Nat))
    4294967295 ∧ t.answer = ⟨.ok, .unit⟩ ∧ s.Within [(.DROPPED_WORDS, q.val), (.QC_CAUSE, 0), (.FENCE_SUPPRESSED, 5)]
    [.queues] t) ∧
  (∀ (w : Who) (q : Fin 16) (s : State), s.Open w .engineer .QUEUE_CONTROL → (s.queue q).drain ≠ 0 → (s.queue
    q).reading = none → ∃ t, exec (.queueDropRest w q) s = .next t ∧ t.answer = ⟨.ok, .unit⟩ ∧ s.Within [] [] t) ∧
  (∀ (w : Who) (q : Fin 16) (s : State), s.Open w .engineer .QUEUE_CONTROL → (s.queue q).drain = 0 → ∃ t, exec
    (.queueDropRest w q) s = .next t ∧ t.answer = ⟨.refused, .unit⟩ ∧ s.Within [] [] t) ∧
  (∀ (w : Who) (q : Fin 16) (seq now : Nat) (s : State), s.Open w .operator .STREAM_ACK → seq < 4294967296 → s.get
    .ACKED_SEQ q = now → now < 4294967296 → 0 < (seq + 4294967296 - now) % 4294967296 → (seq + 4294967296 - now) %
    4294967296 < 2147483648 → (seq + 4294967296 - now) % 4294967296 ≤ (Sparse.get (fun _ => 4294967295)
    s.cave.lastSeq q.val + 4294967296 - now) % 4294967296 → (Sparse.get (fun _ => 4294967295) s.cave.lastSeq q.val +
    4294967296 - now) % 4294967296 < 2147483648 → ∃ t, exec (.streamAck w q seq) s = .next t ∧ t.get .ACKED_SEQ q =
    seq ∧ t.answer = ⟨.ok, .unit⟩ ∧ (∀ g ∈ t.cave.ring, g.state = .held → t.segAcked g = false) ∧ s.Within
    [(.ACKED_SEQ, q.val)] [.cave] t) ∧
  (∀ (w : Who) (q : Fin 16) (seq now : Nat) (s : State), s.Open w .operator .STREAM_ACK → seq < 4294967296 → s.get
    .ACKED_SEQ q = now → now < 4294967296 → 2147483648 ≤ (seq + 4294967296 - now) % 4294967296 ∨ seq = now → ∃ t,
    exec (.streamAck w q seq) s = .next t ∧ t.answer = ⟨.ok, .unit⟩ ∧ s.Within [] [] t) ∧
  (∀ (w : Who) (q : Fin 16) (seq now : Nat) (s : State), s.Open w .operator .STREAM_ACK → seq < 4294967296 → s.get
    .ACKED_SEQ q = now → now < 4294967296 → 0 < (seq + 4294967296 - now) % 4294967296 → (seq + 4294967296 - now) %
    4294967296 < 2147483648 → (Sparse.get (fun _ => 4294967295) s.cave.lastSeq q.val + 4294967296 - now) % 4294967296
    < (seq + 4294967296 - now) % 4294967296 ∨ 2147483648 ≤ (Sparse.get (fun _ => 4294967295) s.cave.lastSeq q.val +
    4294967296 - now) % 4294967296 → ∃ t, exec (.streamAck w q seq) s = .next t ∧ t.answer = ⟨.refused, .unit⟩ ∧
    t.get .ACKED_SEQ q = s.get .ACKED_SEQ q ∧ ((s.fenced 5 q = false → bit (t.get .QC_CAUSE 0) 7 = true)) ∧ s.Within
    [(.QC_CAUSE, 0), (.FENCE_SUPPRESSED, 5)] [] t) ∧
  (∀ (d : Nat) (s : State), s.get .DATA_DIR 0 = d → d < 2 → s.acting = true → s.caveServes = true → (s.link
    d).dataWaits = false → s.portFenced d = false → s.ring.resends = [] → s.ringPackets.find? (fun x => !x.2.2.sent)
    = none → s.get .REPLAY_STATE 0 ≠ 1 → s.running = true → ∃ t, exec (.ringSendPacket) s = .next t ∧ s.Within [] []
    t ∧ t.links = s.links) ∧
  (∀ (d : Nat) (g : Segment) (k : Nat) (x : Stored) (s : State), s.get .DATA_DIR 0 = d → d < 2 → s.acting = true →
    s.caveServes = true → (s.link d).dataWaits = false → s.portFenced d = false → s.ring.resends = [] →
    s.ringPackets.find? (fun x => !x.2.2.sent) = some (g, k, x) → s.get .ST_STATE 0 ≠ 1 → x.damage = .none →
    x.pkt.checks = true → s.get .LINK_STATE d = 1 → s.placed = true → ∃ t, exec (.ringSendPacket) s = .next t ∧ (∃ fr
    : Frame, (t.link d).tx = txInsert 8 fr (s.link d).tx ∧ fr.cls = 2 ∧ fr.resent = false ∧ fr.payload = x.pkt.bytes
    ∧ fr.fseq = tget s.ring.fseq 2) ∧ t.ringPackets.all (fun y => !(y.1.id == g.id && y.2.1 == k) || y.2.2.sent) =
    true ∧ s.Within [] [.cave] t) ∧
  (∀ (d : Nat) (r : Resend) (s : State), s.get .DATA_DIR 0 = d → d < 2 → s.acting = true → s.caveServes = true →
    (s.link d).dataWaits = false → s.portFenced d = false → s.ring.resends = [r] → s.gone r = [] → (s.queuePackets
    r.queue).find? (fun x => r.seqs.any (fun q => x.standsFor q)) = none → s.running = true → ∃ t, exec
    (.ringSendPacket) s = .next t ∧ t.ring.resends = [] ∧ t.links = s.links ∧ s.Within [(.RESEND_PENDING, 0)] [] t) ∧
  (∀ (d : Nat) (r : Resend) (a : Nat) (l : List Nat) (s : State), s.get .DATA_DIR 0 = d → d < 2 → s.acting = true →
    s.caveServes = true → (s.link d).dataWaits = false → s.portFenced d = false → s.ring.resends = [r] → r.begun =
    false → s.gone r = a :: l → (s.queuePackets r.queue).find? (fun x => r.seqs.any (fun q => x.standsFor q)) = none
    → s.running = true → ∃ t, exec (.ringSendPacket) s = .next t ∧ t.ring.resends = [] ∧ t.get .RESEND_GONE 0 =
    countNext 4294967295 (s.get .RESEND_GONE 0) ∧ bit (t.get .RL_CAUSE 0) 12 = true ∧ s.WithinKinds [.LOST_DISCARD,
    .LOST_FENCE, .LOST_PRESS, .LOST_RECLAIMED, .LOST_UNREADABLE, .LOST_WITHDRAWN, .LOST_i, .PCRC_FAILS, .QC_CAUSE,
    .RESEND_GONE, .RESEND_PACKETS, .RESEND_PENDING, .RL_CAUSE] [.test] t) ∧
  (∀ (d : Nat) (r : Resend) (rs : List Resend) (x : RingPacket) (s : State), s.get .DATA_DIR 0 = d → d < 2 → s.acting
    = true → s.caveServes = true → (s.link d).dataWaits = false → s.portFenced d = false → s.ring.resends = r :: rs →
    s.gone r = [] → (s.queuePackets r.queue).find? (fun x => r.seqs.any (fun q => x.standsFor q)) = some x →
    x.item.damage = .none → x.item.pkt.checks = true → s.get .ST_STATE 0 ≠ 1 → s.get .LINK_STATE d = 1 → s.placed =
    true → s.running = true → ∃ t, exec (.ringSendPacket) s = .next t ∧ t.get .RESEND_PACKETS 0 = min (s.get
    .RESEND_PACKETS 0 + 1) 18446744073709551615 ∧ (∃ fr : Frame, (t.link d).tx = txInsert 7 fr (s.link d).tx ∧ fr.cls
    = 2 ∧ fr.resent = true ∧ fr.payload = x.item.pkt.bytes) ∧ s.Within [(.RESEND_PACKETS, 0), (.RESEND_PENDING, 0)]
    [] t)

/-- R301, R303 to R306, R525: CAVE_DISCARD, a scrub pass, marks and replays. -/
def Obligations.CaveCommands : Prop :=
  (∀ (w : Who) (s : State), s.Open w .service .CAVE_DISCARD → s.running = true → ∃ t, exec (.caveDiscard w) s = .next
    t ∧ (∀ g ∈ t.cave.ring, ∀ x ∈ g.pkts, t.acked x.pkt = true) ∧ (∀ g ∈ t.cave.ring, g.state ≠ .held) ∧
    t.cave.ring.map (fun g => g.id) = s.cave.ring.map (fun g => g.id) ∧ t.answer = ⟨.ok, .unit⟩ ∧ s.WithinKinds
    [.LOSS_SEQ, .LOST_DISCARD, .LOST_FENCE, .LOST_PRESS, .LOST_RECLAIMED, .LOST_UNREADABLE, .LOST_WITHDRAWN, .LOST_i,
    .MARK_INDEX, .MARK_OVERTAKEN, .MARK_STATE, .OLDEST_INDEX, .QC_CAUSE, .REPLAY_SKIPPED_TICKS, .WRITE_BYTES] [.cave]
    t) ∧
  (∀ (w : Who) (g : Segment) (x : Stored) (s : State), s.Open w .service .CAVE_DISCARD → s.running = true →
    s.cave.ring = [g] → g.pkts = [x] → x.pkt.isStream = true → s.acked x.pkt = false → ∃ t, exec (.caveDiscard w) s =
    .next t ∧ t.cave.ring.map (fun g => g.pkts) = [[]] ∧ t.get .LOST_DISCARD 0 = min (s.get .LOST_DISCARD 0 + 1)
    18446744073709551615 ∧ t.answer = ⟨.ok, .unit⟩ ∧ s.WithinKinds [.LOSS_SEQ, .LOST_DISCARD, .LOST_FENCE,
    .LOST_PRESS, .LOST_RECLAIMED, .LOST_UNREADABLE, .LOST_WITHDRAWN, .LOST_i, .MARK_INDEX, .MARK_OVERTAKEN,
    .MARK_STATE, .OLDEST_INDEX, .QC_CAUSE, .REPLAY_SKIPPED_TICKS, .WRITE_BYTES] [.cave] t) ∧
  (∀ (c b : Nat) (hurt : List (Nat × Nat × Damage)) (s : State), s.get .CAVE_STATE 0 = 2 → s.cave.scrubAt +
    hourCycles (s.get .SCRUB_HOURS 0).toNat ≤ s.time.cycle → 0 < c → 0 < b → ∃ t, exec (.caveScrubPass c b hurt) s =
    .next t ∧ t.get .ECC_CORRECTED 0 = min (s.get .ECC_CORRECTED 0 + c) 18446744073709551615 ∧ t.get
    .ECC_UNCORRECTABLE 0 = min (s.get .ECC_UNCORRECTABLE 0 + b) 4294967295 ∧ s.Within [(.ECC_CORRECTED, 0),
    (.ECC_UNCORRECTABLE, 0), (.QC_CAUSE, 0), (.FENCE_SUPPRESSED, 5)] [.cave] t) ∧
  (∀ (c b : Nat) (hurt : List (Nat × Nat × Damage)) (s : State), s.get .CAVE_STATE 0 ≠ 2 ∨ s.time.cycle <
    s.cave.scrubAt + hourCycles (s.get .SCRUB_HOURS 0).toNat → ∃ t, exec (.caveScrubPass c b hurt) s = .next t ∧
    s.Within [] [] t) ∧
  (∀ (w : Who) (n : Fin 16) (m : Nat) (cur : Int) (s : State), s.Open w .operator .MARK_SET → s.curTick = some cur →
    ((m : Int) ≤ cur) → m ≠ 0xFFFFFFFFFFFFFFFF → s.get .OLDEST_INDEX 0 ≤ m → ∃ t, exec (.markSet w n m) s = .next t ∧
    t.get .MARK_INDEX n = m ∧ t.get .MARK_STATE n = 1 ∧ t.get .MARK_OVERTAKEN n = 0 ∧ t.answer = ⟨.ok, .unit⟩ ∧
    s.WithinKinds [.MARK_INDEX, .MARK_OVERTAKEN, .MARK_RIPE, .MARK_STATE, .OLDEST_INDEX, .QC_CAUSE,
    .REPLAY_SKIPPED_TICKS] [.cave] t) ∧
  (∀ (w : Who) (n : Fin 16) (m : Nat) (cur : Int) (s : State), s.Open w .operator .MARK_SET → s.curTick = some cur →
    (cur < (m : Int)) → m ≠ 0xFFFFFFFFFFFFFFFF → ∃ t, exec (.markSet w n m) s = .next t ∧ t.answer =
    ⟨.refused, .unit⟩ ∧ s.Within [(.QC_CAUSE, 0), (.FENCE_SUPPRESSED, 5)] [] t) ∧
  (∀ (w : Who) (n : Fin 16) (s : State), s.Open w .operator .MARK_CLEAR → ∃ t, exec (.markClear w n) s = .next t ∧
    t.get .MARK_STATE n = 0 ∧ t.answer = ⟨.ok, .unit⟩ ∧ s.Within [(.MARK_STATE, n.val)] [] t) ∧
  (∀ (w : Who) (cur : Int) (s : State), s.Open w .operator .REPLAY_START → s.get .REPLAY_MARK 0 = 0xFF → s.curTick =
    some cur → s.get .REPLAY_STATE 0 ≠ 1 → s.get .REPLAY_FROM 0 ≤ cur → s.get .OLDEST_INDEX 0 ≤ s.get .REPLAY_FROM 0
    → s.replayDestOk = true → ∃ t, exec (.replayStart w) s = .next t ∧ t.get .REPLAY_STATE 0 = 1 ∧ t.get
    .REPLAY_PACKETS 0 = 0 ∧ t.cave.replayAt = s.get .REPLAY_FROM 0 ∧ t.cave.replayTo = (if s.get .REPLAY_TO 0 = 0
    then cur else s.get .REPLAY_TO 0) ∧ t.cave.replayDone = 0 ∧ t.answer = ⟨.ok, .unit⟩ ∧ s.WithinKinds [.MARK_INDEX,
    .MARK_OVERTAKEN, .MARK_STATE, .OLDEST_INDEX, .QC_CAUSE, .REPLAY_PACKETS, .REPLAY_SKIPPED_TICKS, .REPLAY_STATE]
    [.cave] t) ∧
  (∀ (w : Who) (s : State), s.Open w .operator .REPLAY_STOP → s.get .REPLAY_STATE 0 = 1 → ∃ t, exec (.replayStop w) s
    = .next t ∧ t.get .REPLAY_STATE 0 = 3 ∧ t.answer = ⟨.ok, .unit⟩ ∧ s.Within [(.REPLAY_STATE, 0)] [] t) ∧
  (∀ (s : State), s.get .REPLAY_STATE 0 = 1 → s.replayLeft = [] → s.running = false → ∃ t, exec (.replayDone) s =
    .next t ∧ t.get .REPLAY_STATE 0 = 2 ∧ s.Within [(.REPLAY_STATE, 0), (.QC_CAUSE, 0), (.FENCE_SUPPRESSED, 5)] [] t)

/-- R319, R327 to R337: RINGCLK, the bring-up of a lane and its loss. -/
def Obligations.LaneBringUp : Prop :=
  (∀ (s : State), s.get .REFCLK_PRESENT 0 = 1 → ∃ t, exec (.ringclkLost) s = .next t ∧ t.get .REFCLK_PRESENT 0 = 0 ∧
    ((∀ l < 5, t.laneState l = 0 ∧ (t.serLane l).txLocked = false)) ∧ ((∀ p < 3, t.get .PORT_STATE p = 0 ∧ t.get
    .PORT_LANES p = 0)) ∧ bit (t.get .LN_CAUSE 0) 14 = true ∧ s.WithinKinds [.AUTH_FAILS, .DATA_DIR, .DELAY_STATE,
    .FAILED_LINKS, .FAILURES, .FENCE_SUPPRESSED, .LANE_STATE, .LINK_CHANGED, .LINK_DELAY_PREV, .LINK_FAIL_CAUSE,
    .LINK_STATE, .LN_CAUSE, .MESSAGES, .PAUSES_SENT, .PORT_CHANGED, .PORT_LANES, .PORT_STATE, .REFCLK_PRESENT,
    .RL_CAUSE, .RX_ADAPT_STATE, .SEQ_REJECTS, .SESSIONS_OPEN, .TIMING_LANE, .TRANSIT_DROPS, .TRANSIT_HIGH] [.engine,
    .serLanes, .ringTime, .out] t) ∧
  (∀ (s : State), s.get .REFCLK_PRESENT 0 = 0 → ∃ t, exec (.ringclkLost) s = .next t ∧ s.Within [] [] t) ∧
  (∀ (ppm : Int) (s : State), s.get .REFCLK_PRESENT 0 = 0 → ∃ t, exec (.ringclkRestored ppm) s = .next t ∧ t.get
    .REFCLK_PRESENT 0 = 1 ∧ t.get .REFCLK_PPM 0 = ppm ∧ ((∀ l < 5, (s.serLane l).enabled = true → s.laneState l = 0 →
    t.laneState l = 1)) ∧ ((∀ l < 5, (s.serLane l).enabled = false → t.laneState l = s.laneState l)) ∧ ((∀ p < 3,
    s.get .PORT_STATE p ≠ 0 → t.get .PORT_STATE p = s.get .PORT_STATE p)) ∧ s.WithinKinds [.DATA_DIR, .DELAY_STATE,
    .FAILED_LINKS, .FAILURES, .FENCE_SUPPRESSED, .LANE_STATE, .LINK_CHANGED, .LINK_DELAY_PREV, .LINK_FAIL_CAUSE,
    .LINK_STATE, .PAUSES_SENT, .PORT_CHANGED, .PORT_STATE, .REFCLK_PPM, .REFCLK_PRESENT, .RL_CAUSE, .RX_ADAPT_STATE,
    .TRANSIT_DROPS, .TRANSIT_HIGH] [.engine, .serLanes, .ringTime] t) ∧
  (∀ (l : Fin 5) (s : State), s.laneState l ≠ 0 → ∃ t, exec (.txPllLocked l) s = .next t ∧ t.serLane l =
    { s.serLane l with txLocked := true } ∧ s.Within [] [.serLanes] t) ∧
  (∀ (l : Fin 5) (s : State), s.laneState l = 1 → s.get .PORT_STATE (portOf l) ≠ 0 → ∃ t, exec (.signalDetected l) s
    = .next t ∧ t.laneState l = 2 ∧ (t.serLane l).leftAt = s.time.cycle ∧ (t.serLane l).stateAt = s.time.cycle ∧
    s.Within [(.LANE_STATE, l.val), (.RX_ADAPT_STATE, l.val)] [.serLanes] t) ∧
  (∀ (l : Fin 5) (s : State), s.laneState l = 1 → s.get .PORT_STATE (portOf l) = 0 → ∃ t, exec (.signalDetected l) s
    = .next t ∧ t.laneState l = 2 ∧ t.get .PORT_STATE (portOf l) = 1 ∧ t.get .PORT_CHANGED (portOf l) = s.vtNow ∧
    (t.serLane l).leftAt = s.time.cycle ∧ s.WithinKinds [.DATA_DIR, .DELAY_STATE, .FAILED_LINKS, .FAILURES,
    .FENCE_SUPPRESSED, .LANE_STATE, .LINK_CHANGED, .LINK_DELAY_PREV, .LINK_FAIL_CAUSE, .LINK_STATE, .LN_CAUSE,
    .PAUSES_SENT, .PORT_CHANGED, .PORT_LANES, .PORT_STATE, .RL_CAUSE, .RX_ADAPT_STATE, .TIMING_LANE, .TRANSIT_DROPS,
    .TRANSIT_HIGH] [.engine, .serLanes, .ringTime] t) ∧
  (∀ (l : Fin 5) (s : State), s.laneState l = 7 → s.get .PORT_STATE (portOf l) = 5 → s.portFenced (portOf l) = false
    → ∃ t, exec (.signalDetected l) s = .next t ∧ t.laneState l = 2 ∧ t.get .PORT_STATE (portOf l) = 1 ∧ (t.serLane
    l).leftAt = s.time.cycle ∧ bit (t.get .LN_CAUSE 0) 12 = true ∧ s.WithinKinds [.DATA_DIR, .DELAY_STATE,
    .FAILED_LINKS, .FAILURES, .FENCE_SUPPRESSED, .LANE_STATE, .LINK_CHANGED, .LINK_DELAY_PREV, .LINK_FAIL_CAUSE,
    .LINK_STATE, .LN_CAUSE, .PAUSES_SENT, .PORT_CHANGED, .PORT_LANES, .PORT_STATE, .RL_CAUSE, .RX_ADAPT_STATE,
    .TIMING_LANE, .TRANSIT_DROPS, .TRANSIT_HIGH] [.engine, .serLanes, .ringTime] t) ∧
  (∀ (l : Fin 5) (s : State), s.laneState l = 2 → ∃ t, exec (.cdrLocked l) s = .next t ∧ t.laneState l = 3 ∧
    (t.serLane l).stateAt = s.time.cycle ∧ s.Within [(.LANE_STATE, l.val), (.RX_ADAPT_STATE, l.val)] [.serLanes] t) ∧
  (∀ (l : Fin 5) (s : State), s.laneState l = 2 → blocksOut (usCycles 100) (s.serLane l).stateAt s.time.cycle = true
    → ∃ t, exec (.cdrLockTimeout l) s = .next t ∧ t.laneState l = 1 ∧ t.get .RETRIES l = countNext 4294967295 (s.get
    .RETRIES l) ∧ (t.serLane l).stateAt = s.time.cycle ∧ (t.serLane l).lastBsn = none ∧ (t.serLane l).adaptDone =
    false ∧ s.WithinKinds [.FENCE_SUPPRESSED, .LANE_STATE, .PAUSES_SENT, .RETRIES, .RL_CAUSE, .RX_ADAPT_STATE,
    .TRANSIT_DROPS, .TRANSIT_HIGH] [.serLanes] t) ∧
  (∀ (l : Fin 5) (s : State), s.laneState l = 2 → blocksOut (usCycles 100) (s.serLane l).stateAt s.time.cycle = false
    → ∃ t, exec (.cdrLockTimeout l) s = .next t ∧ t.laneState l = 2 ∧ s.Within [] [] t) ∧
  (∀ (l : Fin 5) (inv : Bool) (bsn w0 w1 w2 : Nat) (s : State), s.laneState l = 3 → portOf l < 2 → w0 / 4194304 % 4 ≠
    2 → ∃ t, exec (.alignmentFound l inv bsn w0 w1 w2) s = .next t ∧ t.get .RX_INVERTED l = b2i inv ∧ t.get .FAR_ID l
    = w0 ∧ t.get .FAR_VERSION l = ((w2 / 65536 % 65536 : Nat) : Int) ∧ (t.serLane l).lastBsn = some (bsn % 1024) ∧
    (t.serLane l).farLane = some (w0 / 2097152 % 2)) ∧
  (∀ (l : Fin 5) (ctle : Nat) (dfe : List Byte) (s : State), s.laneState l = 4 → blockOf (s.serLane l).stateAt +
    adaptBlocks (s.serLane l).warm ≤ blockOf s.time.cycle → ∃ t, exec (.adaptationDone l ctle dfe) s = .next t ∧
    t.get .RX_CTLE l = ((ctle % 256 : Nat) : Int) ∧ (t.serLane l).adaptDone = true ∧ (t.serLane l).warm = false ∧
    s.Within [(.RX_CTLE, l.val)] [.blob, .serLanes] t) ∧
  (∀ (l : Fin 5) (skew : Nat) (s : State), s.laneState l = 4 → (s.serLane l).adaptDone = true → 8 ≤ (s.serLane
    l).readyRun → s.get .PORT_STATE (portOf l) ≠ 7 → ∃ t, exec (.laneActive l skew) s = .next t ∧ t.laneState l = 5 ∧
    t.get .BRINGUP_TIME l = roundAt .other ((s.time.cycle - (s.serLane l).leftAt : Nat) : Int) 500) ∧
  (∀ (l : Fin 5) (s : State), s.laneState l = 3 ∨ s.laneState l = 4 → s.get .PORT_STATE (portOf l) ≠ 7 → blocksOut
    (usCycles (s.get .BRINGUP_LIMIT (portOf l)).toNat) (s.serLane l).leftAt s.time.cycle = true → s.portFenced
    (portOf l) = false → ∃ t, exec (.bringupLimitExpiry l) s = .next t ∧ t.laneState l = 1 ∧ t.get .RETRIES l =
    countNext 4294967295 (s.get .RETRIES l) ∧ (t.serLane l).lastBsn = none ∧ bit (t.get .LN_CAUSE 0) 9 = true ∧
    s.WithinKinds [.FENCE_SUPPRESSED, .LANE_STATE, .LN_CAUSE, .PAUSES_SENT, .RETRIES, .RL_CAUSE, .RX_ADAPT_STATE,
    .TRANSIT_DROPS, .TRANSIT_HIGH] [.serLanes] t) ∧
  (∀ (l : Fin 5) (analogue : Bool) (s : State), s.laneState l = 5 → analogue = true ∨ 4 ≤ (s.serLane l).badRun →
    (s.link (portOf l)).traffic.testBit (l.val % 2) = false → s.portFenced (portOf l) = false → ∃ t, exec (.laneLost
    l analogue) s = .next t ∧ t.laneState l = 1 ∧ t.get .LOCK_LOSSES l = countNext 4294967295 (s.get .LOCK_LOSSES l)
    ∧ bit (t.get .LN_CAUSE 0) 1 = true ∧ (t.link (portOf l)).adding = none ∧ t.get .PORT_STATE (portOf l) = s.get
    .PORT_STATE (portOf l) ∧ s.WithinKinds [.AUTH_FAILS, .DATA_DIR, .DELAY_STATE, .DROPS, .FAILED_LINKS, .FAILURES,
    .FENCE_SUPPRESSED, .LANE_STATE, .LINK_CHANGED, .LINK_DELAY_PREV, .LINK_FAIL_CAUSE, .LINK_STATE, .LN_CAUSE,
    .LOCK_LOSSES, .MESSAGES, .PAUSES_SENT, .PORT_CHANGED, .PORT_LANES, .PORT_STATE, .RL_CAUSE, .RX_ADAPT_STATE,
    .SEQ_REJECTS, .SESSIONS_OPEN, .TIMING_LANE, .TRANSIT_DROPS, .TRANSIT_HIGH] [.engine, .serLanes, .ringTime, .out]
    t) ∧
  (∀ (l : Fin 5) (analogue : Bool) (s : State), s.laneState l = 5 → analogue = true ∨ 4 ≤ (s.serLane l).badRun →
    (s.link (portOf l)).traffic = 2 ^ (l.val % 2) → s.portFenced (portOf l) = false → ∃ t, exec (.laneLost l
    analogue) s = .next t ∧ t.laneState l = 1 ∧ t.get .LOCK_LOSSES l = countNext 4294967295 (s.get .LOCK_LOSSES l) ∧
    t.get .PORT_STATE (portOf l) = 0 ∧ t.get .PORT_LANES (portOf l) = 0 ∧ bit (t.get .LN_CAUSE 0) 1 = true ∧ bit
    (t.get .LN_CAUSE 0) 5 = true ∧ s.WithinKinds [.AUTH_FAILS, .DATA_DIR, .DELAY_STATE, .DROPS, .FAILED_LINKS,
    .FAILURES, .FENCE_SUPPRESSED, .LANE_STATE, .LINK_CHANGED, .LINK_DELAY_PREV, .LINK_FAIL_CAUSE, .LINK_STATE,
    .LN_CAUSE, .LOCK_LOSSES, .MESSAGES, .PAUSES_SENT, .PORT_CHANGED, .PORT_LANES, .PORT_STATE, .RL_CAUSE,
    .RX_ADAPT_STATE, .SEQ_REJECTS, .SESSIONS_OPEN, .TIMING_LANE, .TRANSIT_DROPS, .TRANSIT_HIGH] [.engine, .serLanes,
    .ringTime, .out] t) ∧
  (∀ (l : Fin 5) (analogue : Bool) (s : State), s.laneState l = 5 → analogue = true ∨ 4 ≤ (s.serLane l).badRun →
    l.val < 4 → (s.link (portOf l)).traffic = 3 → (s.serLane (4 * portOf l + 1 - l)).badRun < 4 → s.portFenced
    (portOf l) = false → ∃ t, exec (.laneLost l analogue) s = .next t ∧ t.laneState l = 1 ∧ t.get .LOCK_LOSSES l =
    countNext 4294967295 (s.get .LOCK_LOSSES l) ∧ t.get .PORT_STATE (portOf l) = 3 ∧ t.get .PORT_LANES (portOf l) = 1
    ∧ t.get .DROPS (portOf l) = countNext 4294967295 (s.get .DROPS (portOf l)) ∧ bit (t.get .LN_CAUSE 0) 1 = true ∧
    bit (t.get .LN_CAUSE 0) 3 = true ∧ s.WithinKinds [.AUTH_FAILS, .DATA_DIR, .DELAY_STATE, .DROPS, .FAILED_LINKS,
    .FAILURES, .FENCE_SUPPRESSED, .LANE_STATE, .LINK_CHANGED, .LINK_DELAY_PREV, .LINK_FAIL_CAUSE, .LINK_STATE,
    .LN_CAUSE, .LOCK_LOSSES, .MESSAGES, .PAUSES_SENT, .PORT_CHANGED, .PORT_LANES, .PORT_STATE, .RL_CAUSE,
    .RX_ADAPT_STATE, .SEQ_REJECTS, .SESSIONS_OPEN, .TIMING_LANE, .TRANSIT_DROPS, .TRANSIT_HIGH] [.engine, .serLanes,
    .ringTime, .out] t)

/-- R322, R340 to R342: the orders that drop and add a lane, and the blocks of a lane. -/
def Obligations.LaneDropAndAdd : Prop :=
  (∀ (p lane : Fin 2) (s : State), s.get .PORT_STATE p = 2 → s.portFenced p = false → ∃ t, exec (.laneDropRx p lane)
    s = .next t ∧ t.laneState (2 * p.val + lane.val) = 1 ∧ t.get .PORT_STATE p = 3 ∧ t.get .PORT_LANES p = 1 ∧
    (t.link p).traffic = 2 ^ (1 - lane.val) ∧ t.get .DROPS p = countNext 4294967295 (s.get .DROPS p) ∧ bit (t.get
    .LN_CAUSE 0) 3 = true ∧ s.WithinKinds [.DATA_DIR, .DELAY_STATE, .DROPS, .FAILED_LINKS, .FAILURES,
    .FENCE_SUPPRESSED, .LANE_STATE, .LINK_CHANGED, .LINK_DELAY_PREV, .LINK_FAIL_CAUSE, .LINK_STATE, .LN_CAUSE,
    .PAUSES_SENT, .PORT_CHANGED, .PORT_LANES, .PORT_STATE, .RL_CAUSE, .RX_ADAPT_STATE, .TIMING_LANE, .TRANSIT_DROPS,
    .TRANSIT_HIGH] [.engine, .serLanes, .ringTime] t) ∧
  (∀ (p lane : Fin 2) (s : State), s.get .PORT_STATE p ≠ 2 → ∃ t, exec (.laneDropRx p lane) s = .next t ∧ s.Within []
    [] t) ∧
  (∀ (p : Fin 2) (l : Nat) (s : State), s.spareLane p = some l → ∃ t, exec (.laneAddSend p) s = .next t ∧ (t.link
    p).adding = some (l % 2, ((s.link p).bsn + 256 + 63) / 64 * 64 % 1024) ∧ s.Within [] [.links, .serLanes] t) ∧
  (∀ (p lane : Fin 2) (at_ l : Nat) (s : State), s.spareLane p = some l → l % 2 = lane.val → (s.link p).adding = none
    → 64 ≤ (at_ % 1024 + 1024 - (s.serLane (4 * p.val + 1 - l)).lastBsn.getD (s.link p).bsn) % 1024 → s.portFenced p
    = false → ∃ t, exec (.laneAddRx p lane at_) s = .next t ∧ t.get .PORT_STATE p = 2 ∧ t.get .PORT_LANES p = 2 ∧
    (t.serLane l).stripeAt = some (at_ % 1024) ∧ (t.link p).adding = none ∧ (t.link p).traffic = 3 ∧ bit (t.get
    .LN_CAUSE 0) 4 = true ∧ (((s.link p).traffic.testBit (1 - lane.val) = true → (t.serLane (4 * p.val + 1 - l)).ctl
    = (s.serLane (4 * p.val + 1 - l)).ctl ++ [laneWord 7 lane (at_ % 1024)])) ∧ s.WithinKinds [.DATA_DIR,
    .DELAY_STATE, .FAILED_LINKS, .FAILURES, .FENCE_SUPPRESSED, .LINK_CHANGED, .LINK_DELAY_PREV, .LINK_FAIL_CAUSE,
    .LINK_STATE, .LN_CAUSE, .PAUSES_SENT, .PORT_CHANGED, .PORT_LANES, .PORT_STATE, .RL_CAUSE, .TIMING_LANE,
    .TRANSIT_DROPS] [.engine, .serLanes, .ringTime] t) ∧
  (∀ (p lane : Fin 2) (at_ l b : Nat) (s : State), s.spareLane p = some l → (s.link p).adding = some (lane.val, b) →
    l % 2 = lane.val → s.portFenced p = false → ∃ t, exec (.laneAddAckRx p lane at_) s = .next t ∧ t.get .PORT_STATE
    p = 2 ∧ t.get .PORT_LANES p = 2 ∧ (t.serLane l).stripeAt = some (at_ % 1024) ∧ (t.link p).adding = none ∧ (t.link
    p).traffic = 3 ∧ bit (t.get .LN_CAUSE 0) 4 = true ∧ s.WithinKinds [.DATA_DIR, .DELAY_STATE, .FAILED_LINKS,
    .FAILURES, .FENCE_SUPPRESSED, .LINK_CHANGED, .LINK_DELAY_PREV, .LINK_FAIL_CAUSE, .LINK_STATE, .LN_CAUSE,
    .PAUSES_SENT, .PORT_CHANGED, .PORT_LANES, .PORT_STATE, .RL_CAUSE, .TIMING_LANE, .TRANSIT_DROPS] [.engine,
    .serLanes, .ringTime] t) ∧
  (∀ (p : Fin 3) (s : State), ∃ t, exec (.transmitBlock p) s = .next t ∧ (t.link p).bsn = ((s.link p).bsn + 1) %
    1024) ∧
  (∀ (l : Fin 5) (header payload stuffs viols errs : Nat) (s : State), s.laneState l ≠ 0 → s.laneState l < 4 → ∃ t,
    exec (.blockReceived l header payload stuffs viols errs) s = .next t ∧ t.get .STUFF_BITS l = (s.get .STUFF_BITS l
    + stuffs) % 18446744073709551616 ∧ t.get .STUFF_ERRORS l = min 4294967295 (s.get .STUFF_ERRORS l + viols) ∧
    s.Within [(.STUFF_BITS, l.val), (.STUFF_ERRORS, l.val)] [] t) ∧
  (∀ (l : Fin 5) (header payload stuffs viols errs : Nat) (s : State), 4 ≤ s.laneState l → s.laneState l ≠ 7 →
    s.laneState l ≠ 8 → header / 8192 % 8 ≠ 6 → ∃ t, exec (.blockReceived l header payload stuffs viols errs) s =
    .next t ∧ t.get .HEADER_ERRORS l = countNext 4294967295 (s.get .HEADER_ERRORS l) ∧ (t.serLane l).badRun =
    (s.serLane l).badRun + 1 ∧ s.Within [(.STUFF_BITS, l.val), (.STUFF_ERRORS, l.val), (.HEADER_ERRORS, l.val)]
    [.serLanes] t) ∧
  (∀ (l : Fin 5) (header payload stuffs viols errs b : Nat) (s : State), s.laneState l = 5 → header / 8192 % 8 = 6 →
    (natBits 16 header).countP (fun b => b) % 2 = 1 → (s.serLane l).lastBsn = some b → header / 2 % 1024 = (b + 1) %
    1024 → header / 2048 % 4 = 1 → l.val < 4 → s.get .LINK_STATE (portOf l) ≠ 2 → ∃ t, exec (.blockReceived l header
    payload stuffs viols errs) s = .next t ∧ (t.serLane l).lastBsn = some (header / 2 % 1024) ∧ (t.serLane l).badRun
    = 0 ∧ (t.serLane l).idleRun = (s.serLane l).idleRun + 1 ∧ t.get .HEADER_ERRORS l = s.get .HEADER_ERRORS l ∧ t.get
    .BSN_ERRORS l = s.get .BSN_ERRORS l ∧ s.Within [(.STUFF_BITS, l.val), (.STUFF_ERRORS, l.val), (.RX_ADAPT_STATE,
    l.val)] [.serLanes] t) ∧
  (∀ (l : Fin 5) (header payload stuffs viols errs : Nat) (s : State), s.laneState l = 0 ∨ s.laneState l = 7 → ∃ t,
    exec (.blockReceived l header payload stuffs viols errs) s = .next t ∧ s.Within [] [] t)

/-- R344, R345: the test of a lane and the errors put into what it sends. -/
def Obligations.LaneTests : Prop :=
  (∀ (w : Who) (l : Fin 5) (s : State), s.Open w .service .LANE_TEST → s.laneState l ≠ 0 → ∃ t, exec (.laneTestEnter
    w l) s = .next t ∧ t.laneState l = 8 ∧ t.get .PORT_STATE (portOf l) = 6 ∧ t.get .PORT_LANES (portOf l) = 0 ∧
    t.get .PAT_SYNC l = 0 ∧ t.answer = ⟨.ok, .unit⟩) ∧
  (∀ (w : Who) (l : Fin 5) (s : State), s.Open w .service .LANE_TEST → s.laneState l = 8 → ∃ t, exec (.laneTestLeave
    w l) s = .next t ∧ t.laneState l = 1 ∧ t.answer = ⟨.ok, .unit⟩) ∧
  (∀ (w : Who) (l : Fin 5) (n : Nat) (s : State), s.Open w .service .INJECT → n % 256 ≠ 0 → ∃ t, exec (.injectLineBit
    w l n) s = .next t ∧ t.serLane l = { s.serLane l with injects := (s.serLane l).injects ++ [(0, n % 256)] } ∧
    t.answer = ⟨.ok, .unit⟩ ∧ s.Within [] [.serLanes] t) ∧
  (∀ (w : Who) (l : Fin 5) (n : Nat) (s : State), s.Open w .service .INJECT → n % 256 ≠ 0 → s.laneState l = 5 → ∃ t,
    exec (.injectHeaderBit w l n) s = .next t ∧ t.serLane l =
    { s.serLane l with injects := (s.serLane l).injects ++ [(1, n % 256)] } ∧ t.answer = ⟨.ok, .unit⟩ ∧ s.Within []
    [.serLanes] t) ∧
  (∀ (w : Who) (l : Fin 5) (n : Nat) (s : State), s.Open w .service .INJECT → n % 256 ≠ 0 → s.laneState l = 5 ∨
    s.laneState l = 8 → ∃ t, exec (.injectStuff w l n) s = .next t ∧ t.serLane l =
    { s.serLane l with injects := (s.serLane l).injects ++ [(2, n % 256)] } ∧ t.answer = ⟨.ok, .unit⟩ ∧ s.Within []
    [.serLanes] t) ∧
  (∀ (w : Who) (l : Fin 5) (n : Nat) (s : State), s.Open w .service .INJECT → n % 256 ≠ 0 → s.laneState l = 5 → ∃ t,
    exec (.injectPayloadBit w l n) s = .next t ∧ t.serLane l =
    { s.serLane l with injects := (s.serLane l).injects ++ [(3, n % 256)] } ∧ t.answer = ⟨.ok, .unit⟩ ∧ s.Within []
    [.serLanes] t)

/-- R336, R339, R343: the waits of a port, its FAULT state, and the requests and acknowledgements of Hush and Rest.
-/
def Obligations.PortHappenings : Prop :=
  (∀ (p : Fin 2) (a l : Nat) (s : State), (s.link p).waitFrom = some a → s.get .PORT_STATE p = 1 → blocksOut
    (usCycles (s.get .PORT_WAIT p).toNat) a s.time.cycle = true → (portLanes p).find? (fun l => s.laneState l == 5) =
    some l → s.portFenced p = false → ∃ t, exec (.portWaitExpiry p) s = .next t ∧ t.get .PORT_STATE p = 3 ∧ t.get
    .PORT_LANES p = 1 ∧ (t.link p).traffic = 2 ^ (l % 2) ∧ (t.link p).waitFrom = none ∧ t.get .PORT_CHANGED p =
    s.vtNow ∧ bit (t.get .LN_CAUSE 0) 2 = true ∧ s.WithinKinds [.DATA_DIR, .DELAY_STATE, .FAILED_LINKS, .FAILURES,
    .FENCE_SUPPRESSED, .LINK_CHANGED, .LINK_DELAY_PREV, .LINK_FAIL_CAUSE, .LINK_STATE, .LN_CAUSE, .PAUSES_SENT,
    .PORT_CHANGED, .PORT_LANES, .PORT_STATE, .RL_CAUSE, .TIMING_LANE, .TRANSIT_DROPS] [.engine, .ringTime] t) ∧
  (∀ (p : Fin 2) (a : Nat) (s : State), (s.link p).waitFrom = some a → blocksOut (usCycles (s.get .PORT_WAIT
    p).toNat) a s.time.cycle = false → ∃ t, exec (.portWaitExpiry p) s = .next t ∧ s.Within [] [] t) ∧
  (∀ (p : Fin 3) (s : State), s.get .PORT_STATE p = 7 → blocksOut (msCycles 10) (s.link p).faultAt s.time.cycle =
    true → ∃ t, exec (.portFaultRetry p) s = .next t ∧ t.get .FAULT_CODE p = 0 ∧ t.get .PORT_STATE p = 1) ∧
  (∀ (w : Who) (p : Fin 3) (s : State), s.Open w .engineer .PORT_POWER → s.notActingFor w = false → ∃ t, exec
    (.portHushRequest w p) s = .next t ∧ t.get .PORT_POWER p = 1 ∧ t.answer = ⟨.ok, .unit⟩) ∧
  (∀ (w : Who) (p : Fin 3) (s : State), s.Open w .engineer .PORT_POWER → s.notActingFor w = false → ∃ t, exec
    (.portRestRequest w p) s = .next t ∧ t.get .PORT_POWER p = 2 ∧ t.answer = ⟨.ok, .unit⟩) ∧
  (∀ (w : Who) (p : Fin 3) (s : State), s.Open w .engineer .PORT_POWER → s.notActingFor w = false → ∃ t, exec
    (.portActiveRequest w p) s = .next t ∧ t.get .PORT_POWER p = 0 ∧ (t.link p).request = 0 ∧ t.answer =
    ⟨.ok, .unit⟩) ∧
  (∀ (p : Fin 3) (s : State), (s.link p).request ≠ 0 → 64 < (s.link p).reqBlocks → s.portFenced p = false → ∃ t, exec
    (.hushAckTimeout p) s = .next t ∧ (t.link p).request = 0 ∧ (t.link p).reqBlocks = 0 ∧ bit (t.get .LN_CAUSE 0) 10
    = true ∧ t.get .PORT_STATE p = s.get .PORT_STATE p ∧ s.Within [(.LN_CAUSE, 0), (.FENCE_SUPPRESSED, 7),
    (.FENCE_SUPPRESSED, 8)] [] t) ∧
  (∀ (p : Fin 3) (s : State), (s.link p).request = 0 ∨ (s.link p).reqBlocks ≤ 64 → ∃ t, exec (.hushAckTimeout p) s =
    .next t ∧ t.link p = s.link p ∧ s.Within [] [] t) ∧
  (∀ (p : Fin 3) (s : State), s.portUp p = true → s.refusesQuiet p = false → s.portFenced p = false → ∃ t, exec
    (.hushReqRx p) s = .next t ∧ t.get .PORT_STATE p = 4 ∧ (t.link p).request = 0 ∧ (t.link p).closing = 8 ∧ (t.link
    p).closeWord = 2 * 16777216 ∧ ((∀ l ∈ portLanes p, s.laneState l = 5 → t.laneState l = 6)) ∧ bit (t.get .LN_CAUSE
    0) 11 = true ∧ s.WithinKinds [.AUTH_FAILS, .DATA_DIR, .DELAY_STATE, .FAILED_LINKS, .FAILURES, .FENCE_SUPPRESSED,
    .LANE_STATE, .LINK_CHANGED, .LINK_DELAY_PREV, .LINK_FAIL_CAUSE, .LINK_STATE, .LN_CAUSE, .MESSAGES, .PAUSES_SENT,
    .PORT_CHANGED, .PORT_STATE, .RL_CAUSE, .RX_ADAPT_STATE, .SEQ_REJECTS, .SESSIONS_OPEN, .TRANSIT_DROPS] [.engine,
    .serLanes, .ringTime, .out] t) ∧
  (∀ (p : Fin 3) (s : State), (s.link p).request ≠ 1 → s.refusesQuiet p = true → ∃ t, exec (.hushReqRx p) s = .next t
    ∧ s.Within [] [] t) ∧
  (∀ (p : Fin 3) (s : State), s.portUp p = true → s.refusesQuiet p = false → s.portFenced p = false → ∃ t, exec
    (.restReqRx p) s = .next t ∧ t.get .PORT_STATE p = 5 ∧ (t.link p).request = 0 ∧ (t.link p).closing = 8 ∧ (t.link
    p).closeWord = 4 * 16777216 ∧ ((∀ l ∈ portLanes p, s.laneState l = 5 → t.laneState l = 7)) ∧ bit (t.get .LN_CAUSE
    0) 11 = true ∧ s.WithinKinds [.AUTH_FAILS, .DATA_DIR, .DELAY_STATE, .FAILED_LINKS, .FAILURES, .FENCE_SUPPRESSED,
    .LANE_STATE, .LINK_CHANGED, .LINK_DELAY_PREV, .LINK_FAIL_CAUSE, .LINK_STATE, .LN_CAUSE, .MESSAGES, .PAUSES_SENT,
    .PORT_CHANGED, .PORT_STATE, .RL_CAUSE, .RX_ADAPT_STATE, .SEQ_REJECTS, .SESSIONS_OPEN, .TRANSIT_DROPS] [.engine,
    .serLanes, .ringTime, .out] t) ∧
  (∀ (p : Fin 3) (s : State), (s.link p).request ≠ 2 → s.refusesQuiet p = true → ∃ t, exec (.restReqRx p) s = .next t
    ∧ s.Within [] [] t) ∧
  (∀ (p : Fin 3) (s : State), s.portUp p = true → (s.link p).request = 1 → s.portFenced p = false → ∃ t, exec
    (.hushAckRx p) s = .next t ∧ t.get .PORT_STATE p = 4 ∧ (t.link p).request = 0 ∧ (t.link p).closing = 8 ∧ (t.link
    p).closeWord = 1 * 16777216 ∧ ((∀ l ∈ portLanes p, s.laneState l = 5 → t.laneState l = 6)) ∧ bit (t.get .LN_CAUSE
    0) 11 = true ∧ s.WithinKinds [.AUTH_FAILS, .DATA_DIR, .DELAY_STATE, .FAILED_LINKS, .FAILURES, .FENCE_SUPPRESSED,
    .LANE_STATE, .LINK_CHANGED, .LINK_DELAY_PREV, .LINK_FAIL_CAUSE, .LINK_STATE, .LN_CAUSE, .MESSAGES, .PAUSES_SENT,
    .PORT_CHANGED, .PORT_STATE, .RL_CAUSE, .RX_ADAPT_STATE, .SEQ_REJECTS, .SESSIONS_OPEN, .TRANSIT_DROPS] [.engine,
    .serLanes, .ringTime, .out] t) ∧
  (∀ (p : Fin 3) (s : State), (s.link p).request ≠ 1 → ∃ t, exec (.hushAckRx p) s = .next t ∧ s.Within [] [] t) ∧
  (∀ (p : Fin 3) (s : State), s.portUp p = true → (s.link p).request = 2 → s.portFenced p = false → ∃ t, exec
    (.restAckRx p) s = .next t ∧ t.get .PORT_STATE p = 5 ∧ (t.link p).request = 0 ∧ (t.link p).closing = 8 ∧ (t.link
    p).closeWord = 3 * 16777216 ∧ ((∀ l ∈ portLanes p, s.laneState l = 5 → t.laneState l = 7)) ∧ bit (t.get .LN_CAUSE
    0) 11 = true ∧ s.WithinKinds [.AUTH_FAILS, .DATA_DIR, .DELAY_STATE, .FAILED_LINKS, .FAILURES, .FENCE_SUPPRESSED,
    .LANE_STATE, .LINK_CHANGED, .LINK_DELAY_PREV, .LINK_FAIL_CAUSE, .LINK_STATE, .LN_CAUSE, .MESSAGES, .PAUSES_SENT,
    .PORT_CHANGED, .PORT_STATE, .RL_CAUSE, .RX_ADAPT_STATE, .SEQ_REJECTS, .SESSIONS_OPEN, .TRANSIT_DROPS] [.engine,
    .serLanes, .ringTime, .out] t) ∧
  (∀ (p : Fin 3) (s : State), (s.link p).request ≠ 2 → ∃ t, exec (.restAckRx p) s = .next t ∧ s.Within [] [] t)

/-- R356, R357, R364, R470: a frame as a port receives it. -/
def Obligations.FramesReceived : Prop :=
  (∀ (p : Fin 3) (bytes : List Byte) (stamp : Int) (corrected : Nat) (s : State), s.portReceives p = true → corrected
    = 0 → (s.link p).arrived = [] → checkFrame bytes = .bad → ∃ t, exec (.frameReceived p bytes stamp corrected
    false) s = .next t ∧ t.get .FCRC_ERRORS p = countNext 4294967295 (s.get .FCRC_ERRORS p) ∧ ((lengthOk bytes = true
    → s.portFenced p = false → bit (t.get .RL_CAUSE 0) 5 = true)) ∧ t.get .FRAMES_RX p = s.get .FRAMES_RX p ∧
    s.WithinKinds [.ABORTS, .ABORT_LIMIT, .ACKED_SEQ, .ALIGN, .ARMED_DIGEST, .ARMED_INDEX, .ASYM_CORR, .AUTH_FAILS,
    .AVG_MIN_USED, .AVG_N, .AVG_SHORT, .BANK_CAUSE, .BANK_CAUSE_CLEAR, .BANK_ENABLE, .BCAST_IN, .BCAST_OUT,
    .BEACON_SEQ, .BITS_IN, .BITS_OUT, .BLOCKS, .BLOCKS_VERBATIM, .BOOT_NEXT, .BUFFER_HIGH, .CAL_STATE, .CAP_COUNT,
    .CAP_FIRST, .CAP_HEADER, .CAP_HELD, .CAP_HIST, .CAP_KEEP, .CAP_MODE, .CAP_PMAP, .CAP_POST, .CAP_PRE, .CAP_QUEUE,
    .CAP_REGION, .CAP_STAT_INPUT, .CAVE_STATE, .CFG_SAVED_DIGEST, .CH_EXC, .CH_MODE, .CH_PRESENCE, .CH_RANGE,
    .CH_WIRE_FAULT, .CJC_ENTRY, .CLAIM_AT, .CLK_REF_ACTIVE, .CLK_REF_SEL, .COEF_ACTIVE, .COEF_FADE, .COEF_IN_USE,
    .COEF_LABEL, .COEF_PENDING, .COEF_STATE, .COEF_p, .COMMIT_ARM, .COMMIT_CANCEL, .COMMIT_COUNT,
    .COMMIT_PARTS_REFUSED, .COMMIT_REFUSALS, .COMP_LINK_STATE, .DATA_DIR, .DCB_AUTO_FREEZE, .DCB_ENABLE,
    .DCB_ESTIMATE_i, .DCB_FREEZE, .DCB_SHIFT_i, .DEBUG_EFFECTIVE, .DEBUG_HALTED, .DELAY_RAW, .DELAY_STATE,
    .DELAY_STEPS, .DRAINS_ABANDONED, .DRESP_MISSED, .DROPPED_WORDS, .DROPS, .ENDPOINT_ID, .EXC_CAL_STATUS,
    .EXC_SETTLE, .FAILED_LINKS, .FAILURES, .FCRC_ERRORS, .FENCED, .FENCED_DROPS, .FENCE_ENTRIES, .FENCE_LAST,
    .FENCE_SUPPRESSED, .FI_CAUSE, .FI_CAUSE_CLEAR, .FLUSHED_PACKETS, .FRAMES_RX, .FRAMES_STOMPED, .FRAME_BAD_STEP,
    .FRAME_END_STEP, .FRAME_SOURCE, .FRAME_STATE, .FRAME_STEP_n, .FW_KEY_REVOKED, .FW_STAGE, .FW_STATE,
    .FW_VERSION_A, .FW_VERSION_B, .GROUP_DELAY, .HB_PERIOD, .HB_TIMEOUT, .HISTORY_GAP, .HIST_BASE, .HIST_BINS,
    .HIST_CLOSES, .HIST_EMIT, .HIST_ENABLE, .HIST_EXCLUDED, .HIST_FROM, .HIST_OVER, .HIST_SHIFT, .HIST_SOURCE,
    .HIST_STATE, .HIST_TO, .HIST_UNDER, .HIST_WINDOW, .HOLDOVER_TIME, .HOPS_EAST, .HOPS_WEST, .HYST, .INJECTED,
    .INJ_REFUSED, .JRN_HOST_MARK, .JRN_MIRROR_STATE, .KT_CLOCK, .LANE_CAUSE, .LANE_CAUSE_CLEAR, .LANE_STATE,
    .LANE_TRIM, .LAST_COMMIT_INDEX, .LAYOUT_BAD, .LEAD_EST_i, .LEASE_EXPIRY, .LEASE_SOURCE, .LEASE_TERM, .LEVEL_A,
    .LEVEL_B, .LINK_CHANGED, .LINK_DELAY, .LINK_DELAY_PREV, .LINK_FAIL_CAUSE, .LINK_STATE, .LIN_GAIN, .LIN_OFFSET,
    .LN_CAUSE, .LN_CAUSE_CLEAR, .LOCK_CONTESTED, .LOCK_n, .LOOP_SETTLE, .LOSS_SEQ, .LOST_DISCARD, .LOST_FENCE,
    .LOST_PRESS, .LOST_RECLAIMED, .LOST_UNREADABLE, .LOST_WITHDRAWN, .LOST_i, .MARK_INDEX, .MARK_OVERTAKEN,
    .MARK_RIPE, .MARK_STATE, .MAX_FILL, .MBX_ACK_TX, .MBX_CROSSINGS, .MBX_OWNER, .MBX_POST_FULL, .MBX_SERVICE,
    .MBX_STATE, .MBX_TX_DATA, .MESSAGES, .MJ_CAUSE_CLEAR, .MODCLK_STATE, .NOTCH_MODE, .OLDEST_INDEX, .OUT_SEL_i,
    .PARTNER_STATE, .PASSWORD_FAILS, .PASSWORD_LOCKED_UNTIL, .PASS_COUNT, .PASS_GRID, .PASS_SKIPS, .PATH_DROPS,
    .PAT_SYNC, .PAUSED, .PAUSES_RECEIVED, .PAUSES_SENT, .PMAP_CAPTURES, .PMAP_MAX, .PMAP_PENDING, .PMAP_STATE,
    .PORT_CHANGED, .PORT_LANES, .PORT_POWER, .PORT_STATE, .PRESET_i, .PRESS_BAD_FIELD, .PRESS_CAUSE,
    .PRESS_CAUSE_CLEAR, .PRIME_END, .PTP_GM_IDENTITY, .PTP_PORT_STATE, .PT_STATE, .PWR_CHANGED, .PWR_STATE,
    .PW_CAUSE, .PW_CAUSE_CLEAR, .PW_QUAL, .QC_CAUSE, .QC_CAUSE_CLEAR, .QUEUE_SEQ, .REARM_SAMPLES, .REDUCED_DROPPED,
    .REDUCED_QUEUE, .REPAIR_ENTRY_n, .REPAIR_PROPOSED, .REPLAY_PACKETS, .REPLAY_SKIPPED_TICKS, .REPLAY_STATE,
    .RESEND_PENDING, .RESEND_REQUESTS, .RESET_CAUSE, .RING_POSITION, .RING_SIZE, .RIPEN_ABANDONED, .RIPEN_BEHIND,
    .RIPEN_FLOOR_i, .RIPEN_PENDING, .RIPEN_SEGMENT, .RIPEN_STATE, .RL_CAUSE, .RL_CAUSE_CLEAR, .ROLE_KEY_r,
    .ROLLBACK_MIN, .RT_CANDIDATES, .RT_FAULT, .RT_GM, .RT_GM_HOLD, .RT_ROLE, .RT_SYNC_SEQ, .RX_ADAPT_STATE,
    .SCAN_BAD_ENTRY, .SCAN_ENTRY, .SCAN_ENTRY_n, .SCAN_EXECUTION, .SCAN_LENGTH, .SCAN_PASS, .SCAN_PASS_TICKS,
    .SCAN_START, .SCAN_STATE, .SEC_CAUSE, .SEC_CAUSE_CLEAR, .SEC_STATE, .SEQ_BAD_ENTRY, .SEQ_ENTRY_n, .SEQ_LENGTH,
    .SEQ_REJECTS, .SERVO_OWNER, .SESSIONS_OPEN, .SHADOW_LAST, .SHADOW_SKIPS, .SHADOW_UNRESOLVED, .SIMUL_MASK,
    .SLEW_LIMIT, .SPARE_CHANNEL, .SPARE_DELAY, .SPARE_MIB, .SPARE_STATE, .SPI_ERRORS, .SPLIT_MASK, .STAGED_DEFAULTS,
    .STALE_TICKS, .START_DONE_INDEX, .START_QUALIFIED, .START_REFUSAL, .START_STATE, .STAT_N, .STAT_QUEUE,
    .STREAM_DROPPED, .STREAM_QUEUE, .ST_CAUSE, .ST_CAUSE_CLEAR, .ST_ITEM, .ST_LAST_KT, .ST_ORIGIN, .ST_RESULT_i,
    .ST_SAVE_PENDING, .ST_SEALED, .ST_SEAL_KT, .ST_STATE, .SWAP_COUNT, .SWITCH_COUNT, .SWITCH_INDEX, .SYNC_REMAINING,
    .SYNC_UNUSABLE, .SYNC_USED, .TIME_A, .TIME_B, .TIMING_LANE, .TRANSIT_DROPS, .TRANSIT_ECC_CORRECTED,
    .TRANSIT_ECC_UNCORRECTABLE, .TRANSIT_HIGH, .TRIER_CAD, .TRIER_CAUSE, .TRIER_CAUSE_CLEAR, .TRIER_MODE,
    .TRIER_QUEUE, .TRIER_STATE, .TRIG_COND, .TRIG_DELAY, .TRIG_EDGE, .TRIG_SOURCE, .TWIN_CAUSE, .TWIN_CAUSE_CLEAR,
    .TWIN_STATE, .UNIT_BAD_FIELD, .UNIT_CAUSE, .UNIT_CAUSE_CLEAR, .UNIT_STATE, .VAT_EPOCH, .VAT_STATE,
    .VAT_STATE_CHANGED, .VERIFY_FAILS, .VERIFY_LIMIT, .VT_INCREMENT, .VT_STATE, .WINDOW_n, .WITNESS_ADDR,
    .WITNESS_RENEW, .WIT_GRANTS, .WIT_GRANT_END, .WIT_HOLDER, .WIT_NO_SLOT, .WIT_REFUSALS, .WIT_TWIN, .WRITE_BYTES]
    [.blob, .time, .ptp, .frame, .chans, .banks, .scans, .triers, .lanes, .fences, .engine, .locks, .serLanes,
    .ringTime, .wits, .excCal, .queues, .cave, .units, .regions, .bcasts, .press, .trierOut, .sec, .power, .test,
    .vat, .draws, .out] t) ∧
  (∀ (p : Fin 3) (bytes : List Byte) (stamp : Int) (corrected : Nat) (s : State), s.portReceives p = true → 0 <
    corrected → (s.link p).arrived = [] → checkFrame bytes = .stomped → ∃ t, exec (.frameReceived p bytes stamp
    corrected false) s = .next t ∧ t.get .FRAMES_STOMPED p = countNext 4294967295 (s.get .FRAMES_STOMPED p) ∧ t.get
    .TRANSIT_ECC_CORRECTED 0 = min 4294967295 (s.get .TRANSIT_ECC_CORRECTED 0 + corrected) ∧ t.get .FRAMES_RX p =
    s.get .FRAMES_RX p ∧ s.WithinKinds [.ABORTS, .ABORT_LIMIT, .ACKED_SEQ, .ALIGN, .ARMED_DIGEST, .ARMED_INDEX,
    .ASYM_CORR, .AUTH_FAILS, .AVG_MIN_USED, .AVG_N, .AVG_SHORT, .BANK_CAUSE, .BANK_CAUSE_CLEAR, .BANK_ENABLE,
    .BCAST_IN, .BCAST_OUT, .BEACON_SEQ, .BITS_IN, .BITS_OUT, .BLOCKS, .BLOCKS_VERBATIM, .BOOT_NEXT, .BUFFER_HIGH,
    .CAL_STATE, .CAP_COUNT, .CAP_FIRST, .CAP_HEADER, .CAP_HELD, .CAP_HIST, .CAP_KEEP, .CAP_MODE, .CAP_PMAP,
    .CAP_POST, .CAP_PRE, .CAP_QUEUE, .CAP_REGION, .CAP_STAT_INPUT, .CAVE_STATE, .CFG_SAVED_DIGEST, .CH_EXC, .CH_MODE,
    .CH_PRESENCE, .CH_RANGE, .CH_WIRE_FAULT, .CJC_ENTRY, .CLAIM_AT, .CLK_REF_ACTIVE, .CLK_REF_SEL, .COEF_ACTIVE,
    .COEF_FADE, .COEF_IN_USE, .COEF_LABEL, .COEF_PENDING, .COEF_STATE, .COEF_p, .COMMIT_ARM, .COMMIT_CANCEL,
    .COMMIT_COUNT, .COMMIT_PARTS_REFUSED, .COMMIT_REFUSALS, .COMP_LINK_STATE, .DATA_DIR, .DCB_AUTO_FREEZE,
    .DCB_ENABLE, .DCB_ESTIMATE_i, .DCB_FREEZE, .DCB_SHIFT_i, .DEBUG_EFFECTIVE, .DEBUG_HALTED, .DELAY_RAW,
    .DELAY_STATE, .DELAY_STEPS, .DRAINS_ABANDONED, .DRESP_MISSED, .DROPPED_WORDS, .DROPS, .ENDPOINT_ID,
    .EXC_CAL_STATUS, .EXC_SETTLE, .FAILED_LINKS, .FAILURES, .FCRC_ERRORS, .FENCED, .FENCED_DROPS, .FENCE_ENTRIES,
    .FENCE_LAST, .FENCE_SUPPRESSED, .FI_CAUSE, .FI_CAUSE_CLEAR, .FLUSHED_PACKETS, .FRAMES_RX, .FRAMES_STOMPED,
    .FRAME_BAD_STEP, .FRAME_END_STEP, .FRAME_SOURCE, .FRAME_STATE, .FRAME_STEP_n, .FW_KEY_REVOKED, .FW_STAGE,
    .FW_STATE, .FW_VERSION_A, .FW_VERSION_B, .GROUP_DELAY, .HB_PERIOD, .HB_TIMEOUT, .HISTORY_GAP, .HIST_BASE,
    .HIST_BINS, .HIST_CLOSES, .HIST_EMIT, .HIST_ENABLE, .HIST_EXCLUDED, .HIST_FROM, .HIST_OVER, .HIST_SHIFT,
    .HIST_SOURCE, .HIST_STATE, .HIST_TO, .HIST_UNDER, .HIST_WINDOW, .HOLDOVER_TIME, .HOPS_EAST, .HOPS_WEST, .HYST,
    .INJECTED, .INJ_REFUSED, .JRN_HOST_MARK, .JRN_MIRROR_STATE, .KT_CLOCK, .LANE_CAUSE, .LANE_CAUSE_CLEAR,
    .LANE_STATE, .LANE_TRIM, .LAST_COMMIT_INDEX, .LAYOUT_BAD, .LEAD_EST_i, .LEASE_EXPIRY, .LEASE_SOURCE, .LEASE_TERM,
    .LEVEL_A, .LEVEL_B, .LINK_CHANGED, .LINK_DELAY, .LINK_DELAY_PREV, .LINK_FAIL_CAUSE, .LINK_STATE, .LIN_GAIN,
    .LIN_OFFSET, .LN_CAUSE, .LN_CAUSE_CLEAR, .LOCK_CONTESTED, .LOCK_n, .LOOP_SETTLE, .LOSS_SEQ, .LOST_DISCARD,
    .LOST_FENCE, .LOST_PRESS, .LOST_RECLAIMED, .LOST_UNREADABLE, .LOST_WITHDRAWN, .LOST_i, .MARK_INDEX,
    .MARK_OVERTAKEN, .MARK_RIPE, .MARK_STATE, .MAX_FILL, .MBX_ACK_TX, .MBX_CROSSINGS, .MBX_OWNER, .MBX_POST_FULL,
    .MBX_SERVICE, .MBX_STATE, .MBX_TX_DATA, .MESSAGES, .MJ_CAUSE_CLEAR, .MODCLK_STATE, .NOTCH_MODE, .OLDEST_INDEX,
    .OUT_SEL_i, .PARTNER_STATE, .PASSWORD_FAILS, .PASSWORD_LOCKED_UNTIL, .PASS_COUNT, .PASS_GRID, .PASS_SKIPS,
    .PATH_DROPS, .PAT_SYNC, .PAUSED, .PAUSES_RECEIVED, .PAUSES_SENT, .PMAP_CAPTURES, .PMAP_MAX, .PMAP_PENDING,
    .PMAP_STATE, .PORT_CHANGED, .PORT_LANES, .PORT_POWER, .PORT_STATE, .PRESET_i, .PRESS_BAD_FIELD, .PRESS_CAUSE,
    .PRESS_CAUSE_CLEAR, .PRIME_END, .PTP_GM_IDENTITY, .PTP_PORT_STATE, .PT_STATE, .PWR_CHANGED, .PWR_STATE,
    .PW_CAUSE, .PW_CAUSE_CLEAR, .PW_QUAL, .QC_CAUSE, .QC_CAUSE_CLEAR, .QUEUE_SEQ, .REARM_SAMPLES, .REDUCED_DROPPED,
    .REDUCED_QUEUE, .REPAIR_ENTRY_n, .REPAIR_PROPOSED, .REPLAY_PACKETS, .REPLAY_SKIPPED_TICKS, .REPLAY_STATE,
    .RESEND_PENDING, .RESEND_REQUESTS, .RESET_CAUSE, .RING_POSITION, .RING_SIZE, .RIPEN_ABANDONED, .RIPEN_BEHIND,
    .RIPEN_FLOOR_i, .RIPEN_PENDING, .RIPEN_SEGMENT, .RIPEN_STATE, .RL_CAUSE, .RL_CAUSE_CLEAR, .ROLE_KEY_r,
    .ROLLBACK_MIN, .RT_CANDIDATES, .RT_FAULT, .RT_GM, .RT_GM_HOLD, .RT_ROLE, .RT_SYNC_SEQ, .RX_ADAPT_STATE,
    .SCAN_BAD_ENTRY, .SCAN_ENTRY, .SCAN_ENTRY_n, .SCAN_EXECUTION, .SCAN_LENGTH, .SCAN_PASS, .SCAN_PASS_TICKS,
    .SCAN_START, .SCAN_STATE, .SEC_CAUSE, .SEC_CAUSE_CLEAR, .SEC_STATE, .SEQ_BAD_ENTRY, .SEQ_ENTRY_n, .SEQ_LENGTH,
    .SEQ_REJECTS, .SERVO_OWNER, .SESSIONS_OPEN, .SHADOW_LAST, .SHADOW_SKIPS, .SHADOW_UNRESOLVED, .SIMUL_MASK,
    .SLEW_LIMIT, .SPARE_CHANNEL, .SPARE_DELAY, .SPARE_MIB, .SPARE_STATE, .SPI_ERRORS, .SPLIT_MASK, .STAGED_DEFAULTS,
    .STALE_TICKS, .START_DONE_INDEX, .START_QUALIFIED, .START_REFUSAL, .START_STATE, .STAT_N, .STAT_QUEUE,
    .STREAM_DROPPED, .STREAM_QUEUE, .ST_CAUSE, .ST_CAUSE_CLEAR, .ST_ITEM, .ST_LAST_KT, .ST_ORIGIN, .ST_RESULT_i,
    .ST_SAVE_PENDING, .ST_SEALED, .ST_SEAL_KT, .ST_STATE, .SWAP_COUNT, .SWITCH_COUNT, .SWITCH_INDEX, .SYNC_REMAINING,
    .SYNC_UNUSABLE, .SYNC_USED, .TIME_A, .TIME_B, .TIMING_LANE, .TRANSIT_DROPS, .TRANSIT_ECC_CORRECTED,
    .TRANSIT_ECC_UNCORRECTABLE, .TRANSIT_HIGH, .TRIER_CAD, .TRIER_CAUSE, .TRIER_CAUSE_CLEAR, .TRIER_MODE,
    .TRIER_QUEUE, .TRIER_STATE, .TRIG_COND, .TRIG_DELAY, .TRIG_EDGE, .TRIG_SOURCE, .TWIN_CAUSE, .TWIN_CAUSE_CLEAR,
    .TWIN_STATE, .UNIT_BAD_FIELD, .UNIT_CAUSE, .UNIT_CAUSE_CLEAR, .UNIT_STATE, .VAT_EPOCH, .VAT_STATE,
    .VAT_STATE_CHANGED, .VERIFY_FAILS, .VERIFY_LIMIT, .VT_INCREMENT, .VT_STATE, .WINDOW_n, .WITNESS_ADDR,
    .WITNESS_RENEW, .WIT_GRANTS, .WIT_GRANT_END, .WIT_HOLDER, .WIT_NO_SLOT, .WIT_REFUSALS, .WIT_TWIN, .WRITE_BYTES]
    [.blob, .time, .ptp, .frame, .chans, .banks, .scans, .triers, .lanes, .fences, .engine, .locks, .serLanes,
    .ringTime, .wits, .excCal, .queues, .cave, .units, .regions, .bcasts, .press, .trierOut, .sec, .power, .test,
    .vat, .draws, .out] t) ∧
  (∀ (p : Fin 3) (bytes : List Byte) (stamp : Int) (corrected : Nat) (s : State), s.portReceives p = true → corrected
    = 0 → (s.link p).arrived = [] → ∃ t, exec (.frameReceived p bytes stamp corrected true) s = .next t ∧ t.get
    .TRANSIT_ECC_UNCORRECTABLE 0 = countNext 4294967295 (s.get .TRANSIT_ECC_UNCORRECTABLE 0) ∧ bit (t.get .FI_CAUSE
    0) 7 = true ∧ t.get .FRAMES_RX p = s.get .FRAMES_RX p ∧ s.WithinKinds [.ABORTS, .ABORT_LIMIT, .ACKED_SEQ, .ALIGN,
    .ARMED_DIGEST, .ARMED_INDEX, .ASYM_CORR, .AUTH_FAILS, .AVG_MIN_USED, .AVG_N, .AVG_SHORT, .BANK_CAUSE,
    .BANK_CAUSE_CLEAR, .BANK_ENABLE, .BCAST_IN, .BCAST_OUT, .BEACON_SEQ, .BITS_IN, .BITS_OUT, .BLOCKS,
    .BLOCKS_VERBATIM, .BOOT_NEXT, .BUFFER_HIGH, .CAL_STATE, .CAP_COUNT, .CAP_FIRST, .CAP_HEADER, .CAP_HELD,
    .CAP_HIST, .CAP_KEEP, .CAP_MODE, .CAP_PMAP, .CAP_POST, .CAP_PRE, .CAP_QUEUE, .CAP_REGION, .CAP_STAT_INPUT,
    .CAVE_STATE, .CFG_SAVED_DIGEST, .CH_EXC, .CH_MODE, .CH_PRESENCE, .CH_RANGE, .CH_WIRE_FAULT, .CJC_ENTRY,
    .CLAIM_AT, .CLK_REF_ACTIVE, .CLK_REF_SEL, .COEF_ACTIVE, .COEF_FADE, .COEF_IN_USE, .COEF_LABEL, .COEF_PENDING,
    .COEF_STATE, .COEF_p, .COMMIT_ARM, .COMMIT_CANCEL, .COMMIT_COUNT, .COMMIT_PARTS_REFUSED, .COMMIT_REFUSALS,
    .COMP_LINK_STATE, .DATA_DIR, .DCB_AUTO_FREEZE, .DCB_ENABLE, .DCB_ESTIMATE_i, .DCB_FREEZE, .DCB_SHIFT_i,
    .DEBUG_EFFECTIVE, .DEBUG_HALTED, .DELAY_RAW, .DELAY_STATE, .DELAY_STEPS, .DRAINS_ABANDONED, .DRESP_MISSED,
    .DROPPED_WORDS, .DROPS, .ENDPOINT_ID, .EXC_CAL_STATUS, .EXC_SETTLE, .FAILED_LINKS, .FAILURES, .FCRC_ERRORS,
    .FENCED, .FENCED_DROPS, .FENCE_ENTRIES, .FENCE_LAST, .FENCE_SUPPRESSED, .FI_CAUSE, .FI_CAUSE_CLEAR,
    .FLUSHED_PACKETS, .FRAMES_RX, .FRAMES_STOMPED, .FRAME_BAD_STEP, .FRAME_END_STEP, .FRAME_SOURCE, .FRAME_STATE,
    .FRAME_STEP_n, .FW_KEY_REVOKED, .FW_STAGE, .FW_STATE, .FW_VERSION_A, .FW_VERSION_B, .GROUP_DELAY, .HB_PERIOD,
    .HB_TIMEOUT, .HISTORY_GAP, .HIST_BASE, .HIST_BINS, .HIST_CLOSES, .HIST_EMIT, .HIST_ENABLE, .HIST_EXCLUDED,
    .HIST_FROM, .HIST_OVER, .HIST_SHIFT, .HIST_SOURCE, .HIST_STATE, .HIST_TO, .HIST_UNDER, .HIST_WINDOW,
    .HOLDOVER_TIME, .HOPS_EAST, .HOPS_WEST, .HYST, .INJECTED, .INJ_REFUSED, .JRN_HOST_MARK, .JRN_MIRROR_STATE,
    .KT_CLOCK, .LANE_CAUSE, .LANE_CAUSE_CLEAR, .LANE_STATE, .LANE_TRIM, .LAST_COMMIT_INDEX, .LAYOUT_BAD, .LEAD_EST_i,
    .LEASE_EXPIRY, .LEASE_SOURCE, .LEASE_TERM, .LEVEL_A, .LEVEL_B, .LINK_CHANGED, .LINK_DELAY, .LINK_DELAY_PREV,
    .LINK_FAIL_CAUSE, .LINK_STATE, .LIN_GAIN, .LIN_OFFSET, .LN_CAUSE, .LN_CAUSE_CLEAR, .LOCK_CONTESTED, .LOCK_n,
    .LOOP_SETTLE, .LOSS_SEQ, .LOST_DISCARD, .LOST_FENCE, .LOST_PRESS, .LOST_RECLAIMED, .LOST_UNREADABLE,
    .LOST_WITHDRAWN, .LOST_i, .MARK_INDEX, .MARK_OVERTAKEN, .MARK_RIPE, .MARK_STATE, .MAX_FILL, .MBX_ACK_TX,
    .MBX_CROSSINGS, .MBX_OWNER, .MBX_POST_FULL, .MBX_SERVICE, .MBX_STATE, .MBX_TX_DATA, .MESSAGES, .MJ_CAUSE_CLEAR,
    .MODCLK_STATE, .NOTCH_MODE, .OLDEST_INDEX, .OUT_SEL_i, .PARTNER_STATE, .PASSWORD_FAILS, .PASSWORD_LOCKED_UNTIL,
    .PASS_COUNT, .PASS_GRID, .PASS_SKIPS, .PATH_DROPS, .PAT_SYNC, .PAUSED, .PAUSES_RECEIVED, .PAUSES_SENT,
    .PMAP_CAPTURES, .PMAP_MAX, .PMAP_PENDING, .PMAP_STATE, .PORT_CHANGED, .PORT_LANES, .PORT_POWER, .PORT_STATE,
    .PRESET_i, .PRESS_BAD_FIELD, .PRESS_CAUSE, .PRESS_CAUSE_CLEAR, .PRIME_END, .PTP_GM_IDENTITY, .PTP_PORT_STATE,
    .PT_STATE, .PWR_CHANGED, .PWR_STATE, .PW_CAUSE, .PW_CAUSE_CLEAR, .PW_QUAL, .QC_CAUSE, .QC_CAUSE_CLEAR,
    .QUEUE_SEQ, .REARM_SAMPLES, .REDUCED_DROPPED, .REDUCED_QUEUE, .REPAIR_ENTRY_n, .REPAIR_PROPOSED, .REPLAY_PACKETS,
    .REPLAY_SKIPPED_TICKS, .REPLAY_STATE, .RESEND_PENDING, .RESEND_REQUESTS, .RESET_CAUSE, .RING_POSITION,
    .RING_SIZE, .RIPEN_ABANDONED, .RIPEN_BEHIND, .RIPEN_FLOOR_i, .RIPEN_PENDING, .RIPEN_SEGMENT, .RIPEN_STATE,
    .RL_CAUSE, .RL_CAUSE_CLEAR, .ROLE_KEY_r, .ROLLBACK_MIN, .RT_CANDIDATES, .RT_FAULT, .RT_GM, .RT_GM_HOLD, .RT_ROLE,
    .RT_SYNC_SEQ, .RX_ADAPT_STATE, .SCAN_BAD_ENTRY, .SCAN_ENTRY, .SCAN_ENTRY_n, .SCAN_EXECUTION, .SCAN_LENGTH,
    .SCAN_PASS, .SCAN_PASS_TICKS, .SCAN_START, .SCAN_STATE, .SEC_CAUSE, .SEC_CAUSE_CLEAR, .SEC_STATE, .SEQ_BAD_ENTRY,
    .SEQ_ENTRY_n, .SEQ_LENGTH, .SEQ_REJECTS, .SERVO_OWNER, .SESSIONS_OPEN, .SHADOW_LAST, .SHADOW_SKIPS,
    .SHADOW_UNRESOLVED, .SIMUL_MASK, .SLEW_LIMIT, .SPARE_CHANNEL, .SPARE_DELAY, .SPARE_MIB, .SPARE_STATE,
    .SPI_ERRORS, .SPLIT_MASK, .STAGED_DEFAULTS, .STALE_TICKS, .START_DONE_INDEX, .START_QUALIFIED, .START_REFUSAL,
    .START_STATE, .STAT_N, .STAT_QUEUE, .STREAM_DROPPED, .STREAM_QUEUE, .ST_CAUSE, .ST_CAUSE_CLEAR, .ST_ITEM,
    .ST_LAST_KT, .ST_ORIGIN, .ST_RESULT_i, .ST_SAVE_PENDING, .ST_SEALED, .ST_SEAL_KT, .ST_STATE, .SWAP_COUNT,
    .SWITCH_COUNT, .SWITCH_INDEX, .SYNC_REMAINING, .SYNC_UNUSABLE, .SYNC_USED, .TIME_A, .TIME_B, .TIMING_LANE,
    .TRANSIT_DROPS, .TRANSIT_ECC_CORRECTED, .TRANSIT_ECC_UNCORRECTABLE, .TRANSIT_HIGH, .TRIER_CAD, .TRIER_CAUSE,
    .TRIER_CAUSE_CLEAR, .TRIER_MODE, .TRIER_QUEUE, .TRIER_STATE, .TRIG_COND, .TRIG_DELAY, .TRIG_EDGE, .TRIG_SOURCE,
    .TWIN_CAUSE, .TWIN_CAUSE_CLEAR, .TWIN_STATE, .UNIT_BAD_FIELD, .UNIT_CAUSE, .UNIT_CAUSE_CLEAR, .UNIT_STATE,
    .VAT_EPOCH, .VAT_STATE, .VAT_STATE_CHANGED, .VERIFY_FAILS, .VERIFY_LIMIT, .VT_INCREMENT, .VT_STATE, .WINDOW_n,
    .WITNESS_ADDR, .WITNESS_RENEW, .WIT_GRANTS, .WIT_GRANT_END, .WIT_HOLDER, .WIT_NO_SLOT, .WIT_REFUSALS, .WIT_TWIN,
    .WRITE_BYTES] [.blob, .time, .ptp, .frame, .chans, .banks, .scans, .triers, .lanes, .fences, .engine, .locks,
    .serLanes, .ringTime, .wits, .excCal, .queues, .cave, .units, .regions, .bcasts, .press, .trierOut, .sec, .power,
    .test, .vat, .draws, .out] t) ∧
  (∀ (p : Fin 2) (bytes : List Byte) (stamp : Int) (corrected : Nat) (s : State), s.portReceives p = true → corrected
    = 0 → (s.link p).arrived = [] → checkFrame bytes = .good → (frameOf bytes).cls = 3 → (frameOf bytes).op = 4 → ∃
    t, exec (.frameReceived (if p.val = 0 then 0 else 1) bytes stamp corrected false) s = .next t ∧ exec (.pauseRx p
    (frameOf bytes)) s = .next t ∧ t.get .PAUSES_RECEIVED p = countNext 4294967295 (s.get .PAUSES_RECEIVED p))

/-- R362 to R364, R371, R377: the rejoin hold, the beacons and the pauses of a link. -/
def Obligations.LinkTimers : Prop :=
  (∀ (p : Fin 2) (s : State), s.get .LINK_STATE p = 3 → blocksOut (msCycles (s.get .REJOIN_HOLD p).toNat) (s.link
    p).holdAt s.time.cycle = true → s.noCause p = false → ∃ t, exec (.rejoinHoldExpiry p) s = .next t ∧ t.get
    .LINK_STATE p = 2 ∧ t.get .LINK_CHANGED p = s.vtNow ∧ s.Within [(.LINK_STATE, p.val), (.LINK_CHANGED, p.val)] []
    t) ∧
  (∀ (p : Fin 2) (s : State), s.get .LINK_STATE p = 3 → blocksOut (msCycles (s.get .REJOIN_HOLD p).toNat) (s.link
    p).holdAt s.time.cycle = true → s.noCause p = true → ∃ t, exec (.rejoinHoldExpiry p) s = .next t ∧ t.get
    .LINK_STATE p = 1 ∧ t.get .LINK_CHANGED p = s.vtNow ∧ bit (t.get .RL_CAUSE 0) 1 = true ∧ ((s.placed = true → bit
    (t.get .FAILED_LINKS 0) (s.linkId p) = false)) ∧ ((s.placed = false → t.get .FAILED_LINKS 0 = s.get .FAILED_LINKS
    0)) ∧ t.get .DATA_DIR 0 = t.direction ∧ s.WithinKinds [.BUFFER_HIGH, .DATA_DIR, .FAILED_LINKS, .FENCE_SUPPRESSED,
    .LINK_CHANGED, .LINK_STATE, .LOST_DISCARD, .LOST_FENCE, .LOST_PRESS, .LOST_RECLAIMED, .LOST_UNREADABLE,
    .LOST_WITHDRAWN, .LOST_i, .PRESS_CAUSE, .REDUCED_DROPPED, .RL_CAUSE, .STREAM_DROPPED] [.engine, .cave, .press] t) ∧
  (∀ (p : Fin 2) (s : State), (s.link p).sideBroken = false → blocksOut (msCycles (s.get .BEACON_TIMEOUT 0).toNat)
    (s.link p).beaconAt s.time.cycle = true → s.portFenced p = false → ∃ t, exec (.beaconTimeout p) s = .next t ∧
    (t.link p).sideBroken = true ∧ bit (t.get .RL_CAUSE 0) 8 = true ∧ t.get .DATA_DIR 0 = t.direction ∧ s.WithinKinds
    [.DATA_DIR, .FENCE_SUPPRESSED, .RL_CAUSE] [.engine] t) ∧
  (∀ (p : Fin 2) (s : State), (s.link p).sideBroken = true ∨ blocksOut (msCycles (s.get .BEACON_TIMEOUT 0).toNat)
    (s.link p).beaconAt s.time.cycle = false → ∃ t, exec (.beaconTimeout p) s = .next t ∧ t.link p = s.link p ∧
    s.Within [] [] t) ∧
  (∀ (p : Fin 2) (s : State), s.get .PAUSED p = 1 → (s.link p).pauseEnd < blockOf s.time.cycle → ∃ t, exec
    (.pauseQuantaExpiry p) s = .next t ∧ t.get .PAUSED p = 0 ∧ s.Within [(.PAUSED, p.val)] [] t) ∧
  (∀ (p : Fin 2) (s : State), (s.link p).pausing = true → 131072 < (s.link p).fill → (s.link p).pauseSentAt +
    usCycles 50 ≤ s.time.cycle → ∃ t, exec (.pauseRepeat p) s = .next t ∧ (t.link p).pauseSentAt = s.time.cycle ∧
    t.get .PAUSES_SENT (1 - p.val) = countNext 4294967295 (s.get .PAUSES_SENT (1 - p.val)) ∧ ((s.portFenced (1 -
    p.val) = false → bit (t.get .RL_CAUSE 0) 7 = true)) ∧ s.WithinKinds [.FENCE_SUPPRESSED, .PAUSES_SENT, .RL_CAUSE]
    [] t) ∧
  (∀ (p : Fin 2) (s : State), (s.link p).pausing = false → ∃ t, exec (.pauseRepeat p) s = .next t ∧ t.link p = s.link
    p ∧ s.Within [] [] t)

/-- R362 to R377, R470: the frames of the control class that a port receives, and a trigger of the vat. -/
def Obligations.ControlFrames : Prop :=
  (∀ (p : Fin 2) (f : Frame) (b : List Byte) (s : State), b = f.payload.drop 4 → f.cls = 3 → f.op = 1 → f.link = true
    → s.takesFrame p f = true → (s.get .ENDPOINT_ID 0 = 0 ∨ s.get .ENDPOINT_ID 0 = (leNat (slice b 0 4) : Int)) → ∃
    t, exec (.beaconRx p f) s = .next t ∧ t.get .ENDPOINT_ID 0 = (leNat (slice b 0 4) : Int) ∧ t.get .BEACON_SEQ 0 =
    (leNat (slice b 4 4) : Int) ∧ t.get .RING_SIZE 0 = (leNat (slice b 9 1) : Int) ∧ t.get .SPLIT_MASK 0 = (leNat
    (slice b 12 4) : Int) ∧ ((leNat (slice b 8 1) = 0 → t.get .HOPS_EAST 0 = (f.hops : Int))) ∧ ((leNat (slice b 8 1)
    ≠ 0 → t.get .HOPS_WEST 0 = (f.hops : Int))) ∧ (t.link p).beaconAt = s.time.cycle ∧ (t.link p).sideBroken = false
    ∧ ((t.get .HOPS_EAST 0 ≠ 255 → t.get .RING_POSITION 0 = t.get .HOPS_EAST 0)) ∧ t.get .DATA_DIR 0 = t.direction ∧
    s.WithinKinds [.BEACON_SEQ, .DATA_DIR, .ENDPOINT_ID, .FAILED_LINKS, .FENCE_SUPPRESSED, .FRAMES_RX, .HOPS_EAST,
    .HOPS_WEST, .PAUSES_SENT, .RING_POSITION, .RING_SIZE, .RL_CAUSE, .SPLIT_MASK, .TRANSIT_DROPS, .TRANSIT_HIGH]
    [.engine] t) ∧
  (∀ (p : Fin 2) (f : Frame) (s : State), f.cls = 3 → f.op = 1 → f.link = true → s.takesFrame p f = true → s.get
    .ENDPOINT_ID 0 = 9 → leNat (slice (f.payload.drop 4) 0 4) ≠ 9 → s.beaconFresh 0 = true ∨ s.beaconFresh 1 = true →
    ∃ t, exec (.beaconRx p f) s = .next t ∧ t.get .ENDPOINT_ID 0 = 9 ∧ bit (t.get .RL_CAUSE 0) 10 = true ∧ s.Within
    [(.FRAMES_RX, p.val), (.RL_CAUSE, 0)] [] t) ∧
  (∀ (p : Fin 2) (f : Frame) (code a : Nat) (s : State), f.cls = 3 → f.op = 2 → (s.receive p f).1 = true → code =
    leNat (slice (f.payload.drop 4) 0 1) → a = leNat (slice (f.payload.drop 4) 1 1) → code = 1 ∨ code = 2 → a < 64 →
    s.ownFailing a = false → ∃ t, exec (.linkNoticeRx p f) s = .next t ∧ bit (t.get .FAILED_LINKS 0) a = (code == 1)
    ∧ ((∀ k < 64, k ≠ a → bit (t.get .FAILED_LINKS 0) k = bit (s.get .FAILED_LINKS 0) k)) ∧ t.get .DATA_DIR 0 =
    t.direction ∧ s.WithinKinds [.DATA_DIR, .FAILED_LINKS, .FENCE_SUPPRESSED, .FRAMES_RX, .PAUSES_SENT, .RL_CAUSE,
    .TRANSIT_DROPS, .TRANSIT_HIGH] [.engine] t) ∧
  (∀ (p : Fin 2) (f : Frame) (s : State), f.cls = 3 → f.op = 2 → f.link = true → s.takesFrame p f = true → 2 < leNat
    (slice (f.payload.drop 4) 0 1) → ∃ t, exec (.linkNoticeRx p f) s = .next t ∧ s.Within [(.FRAMES_RX, p.val)] [] t) ∧
  (∀ (p : Fin 2) (f : Frame) (s : State), f.cls = 3 → f.op = 3 → f.link = true → s.takesFrame p f = true → ∃ t, exec
    (.linkKillRx p f) s = .next t ∧ t.get .LINK_STATE p = 2 ∧ t.get .LINK_FAIL_CAUSE p = (if s.get .LINK_STATE p = 2
    then s.get .LINK_FAIL_CAUSE p else 3) ∧ ((s.get .LINK_STATE p = 1 → t.get .FAILURES p = countNext 4294967295
    (s.get .FAILURES p) ∧ bit (t.get .RL_CAUSE 0) 0 = true)) ∧ ((s.get .LINK_STATE p = 1 → s.placed = true → bit
    (t.get .FAILED_LINKS 0) (s.linkId p) = true)) ∧ s.WithinKinds [.DATA_DIR, .DELAY_STATE, .FAILED_LINKS, .FAILURES,
    .FENCE_SUPPRESSED, .FRAMES_RX, .LINK_CHANGED, .LINK_DELAY_PREV, .LINK_FAIL_CAUSE, .LINK_STATE, .PAUSES_SENT,
    .RL_CAUSE, .TRANSIT_DROPS, .TRANSIT_HIGH] [.engine, .ringTime] t) ∧
  (∀ (p : Fin 2) (f : Frame) (s : State), f.cls = 3 → f.op = 4 → f.link = true → s.takesFrame p f = true → ∃ t, exec
    (.pauseRx p f) s = .next t ∧ t.get .PAUSED p = b2i (leNat (slice f.payload 4 2) != 0) ∧ t.get .PAUSES_RECEIVED p
    = countNext 4294967295 (s.get .PAUSES_RECEIVED p) ∧ (t.link p).pauseEnd = blockOf s.time.cycle + limitBlocks
    (usCycles (leNat (slice f.payload 4 2))) ∧ s.Within [(.FRAMES_RX, p.val), (.PAUSES_RECEIVED, p.val), (.PAUSED,
    p.val)] [] t) ∧
  (∀ (p : Fin 2) (f : Frame) (q seq d : Nat) (s : State), f.cls = 3 → f.op = 5 → (s.receive p f).1 = true → q = leNat
    (slice (f.payload.drop 4) 0 1) → seq = leNat (slice (f.payload.drop 4) 4 4) → q < 16 → d = (seq + 4294967296 -
    (s.get .ACKED_SEQ q).toNat) % 4294967296 → 0 < d → d ≤ (Sparse.get (fun _ => 4294967295) s.cave.lastSeq q +
    4294967296 - (s.get .ACKED_SEQ q).toNat) % 4294967296 → (Sparse.get (fun _ => 4294967295) s.cave.lastSeq q +
    4294967296 - (s.get .ACKED_SEQ q).toNat) % 4294967296 < 2147483648 → ∃ t, exec (.ackRx p f) s = .next t ∧ t.get
    .ACKED_SEQ q = (seq : Int) ∧ s.WithinKinds [.ACKED_SEQ, .FENCE_SUPPRESSED, .FRAMES_RX, .PAUSES_SENT, .QC_CAUSE,
    .RL_CAUSE, .TRANSIT_DROPS, .TRANSIT_HIGH] [.cave] t) ∧
  (∀ (p : Fin 2) (f : Frame) (q seq d : Nat) (s : State), f.cls = 3 → f.op = 5 → f.link = true → s.takesFrame p f =
    true → q = leNat (slice (f.payload.drop 4) 0 1) → seq = leNat (slice (f.payload.drop 4) 4 4) → q < 16 → d = (seq
    + 4294967296 - (s.get .ACKED_SEQ q).toNat) % 4294967296 → d = 0 ∨ 2147483648 ≤ d → ∃ t, exec (.ackRx p f) s =
    .next t ∧ t.get .ACKED_SEQ q = s.get .ACKED_SEQ q ∧ s.Within [(.FRAMES_RX, p.val)] [] t) ∧
  (∀ (p : Fin 2) (f : Frame) (b : List Byte) (s : State), f.cls = 3 → f.op = 6 → (s.receive p f).1 = true → b =
    f.payload.drop 4 → 0 < leNat (slice b 2 2) → leNat (slice b 2 2) ≤ 1024 → s.ring.resends.length < 16 → ∃ t, exec
    (.resendRx p f) s = .next t ∧ t.ring.resends = s.ring.resends ++
    [{ queue := leNat (slice b 0 1), first := leNat (slice b 4 4), count := leNat (slice b 2 2), tag := leNat (slice f.payload 1 1) }]
    ∧ t.get .RESEND_PENDING 0 = (s.ring.resends.length + 1 : Nat) ∧ t.get .RESEND_REQUESTS 0 = countNext 4294967295
    (s.get .RESEND_REQUESTS 0) ∧ s.WithinKinds [.FENCE_SUPPRESSED, .FRAMES_RX, .PAUSES_SENT, .RESEND_PENDING,
    .RESEND_REQUESTS, .RL_CAUSE, .TRANSIT_DROPS, .TRANSIT_HIGH] [] t) ∧
  (∀ (p : Fin 2) (f : Frame) (b : List Byte) (s : State), f.cls = 3 → f.op = 6 → (s.receive p f).1 = true → b =
    f.payload.drop 4 → leNat (slice b 2 2) = 0 ∨ 1024 < leNat (slice b 2 2) ∨ 16 ≤ s.ring.resends.length → ∃ t, exec
    (.resendRx p f) s = .next t ∧ t.ring.resends = s.ring.resends ∧ t.get .RESEND_REQUESTS 0 = countNext 4294967295
    (s.get .RESEND_REQUESTS 0) ∧ s.WithinKinds [.FENCE_SUPPRESSED, .FRAMES_RX, .PAUSES_SENT, .RESEND_PENDING,
    .RESEND_REQUESTS, .RL_CAUSE, .TRANSIT_DROPS, .TRANSIT_HIGH] [] t) ∧
  (∀ (p : Fin 2) (f : Frame) (m : Msg) (s : State), f.cls = 3 → f.op = 8 → (s.receive p f).1 = true → msgOf
    ((f.payload.drop 4).take (leNat (slice (f.payload.drop 4) 6 2) + 32)) = some m → s.served = true → bit (s.get
    .ACCESS_PATHS 0) 2 = true → m.flags % 2 = 0 → m.op < 3 → 0 < m.op → m.version = 1 → s.engine.ringIn.length < 4 →
    ∃ t, exec (.dictReqRx p f) s = .next t ∧ t.engine.ringIn.map (fun x => (x.2.1, x.2.2)) = s.engine.ringIn.map (fun
    x => (x.2.1, x.2.2)) ++ [(leNat (slice f.payload 1 1), m)] ∧ s.WithinKinds [.FENCE_SUPPRESSED, .FRAMES_RX,
    .PATH_DROPS, .PAUSES_SENT, .RL_CAUSE, .SEQ_REJECTS, .SPI_ERRORS, .TRANSIT_DROPS, .TRANSIT_HIGH] [.engine, .out]
    t) ∧
  (∀ (p : Fin 2) (f : Frame) (s : State), f.cls = 3 → f.op = 8 → f.link = true → s.takesFrame p f = true → msgOf
    ((f.payload.drop 4).take (leNat (slice (f.payload.drop 4) 6 2) + 32)) = none → ∃ t, exec (.dictReqRx p f) s =
    .next t ∧ t.engine = s.engine ∧ s.Within [(.FRAMES_RX, p.val)] [] t) ∧
  (∀ (p : Fin 2) (f : Frame) (s : State), f.cls = 4 → f.kind = 2 → (s.receive p f).1 = true → s.running = true → ∃ t,
    exec (.vatTriggerRx p f) s = .next t ∧ t.bcasts = s.bcasts ++
    [⟨leNat (slice f.payload 1 1) % 16, leNat (slice f.payload 4 2), leNat (slice f.payload 2 1), leNat (slice f.payload 8 8), s.tickKey⟩]
    ∧ s.WithinKinds [.FENCE_SUPPRESSED, .FRAMES_RX, .PAUSES_SENT, .RL_CAUSE, .TRANSIT_DROPS, .TRANSIT_HIGH] [.bcasts]
    t) ∧
  (∀ (p : Fin 2) (f : Frame) (s : State), f.cls = 4 → f.kind = 2 → (s.receive p f).1 = true → s.running = false → ∃
    t, exec (.vatTriggerRx p f) s = .next t ∧ t.bcasts = s.bcasts ∧ s.WithinKinds [.FENCE_SUPPRESSED, .FRAMES_RX,
    .PAUSES_SENT, .RL_CAUSE, .TRANSIT_DROPS, .TRANSIT_HIGH] [.bcasts] t)

/-- R388 to R390: the requests, responses and time-outs of the link delay exchange. -/
def Obligations.LinkDelays : Prop :=
  (∀ (p : Fin 3) (s : State), s.canSend p = true → s.elapsed (s.timePort p).dreqAt cycles125 = true → p.val < 2 ∨
    s.get .TWIN_ENABLE 0 = 1 → s.dreqMissed (s.timePort p) = false → ∃ t, exec (.dreqSend p) s = .next t ∧ t.timePort
    p =
    { s.timePort p with dseq := ((s.timePort p).dseq + 1) % 65536, dreqAt := some s.time.cycle, open_ := some ((s.timePort p).dseq, none) }
    ∧ s.Within [] [.ringTime] t) ∧
  (∀ (p : Fin 3) (s : State), s.canSend p = true → s.elapsed (s.timePort p).dreqAt cycles125 = true → p.val < 2 ∨
    s.get .TWIN_ENABLE 0 = 1 → s.dreqMissed (s.timePort p) = true → ∃ t, exec (.dreqSend p) s = .next t ∧ (t.timePort
    p).dseq = ((s.timePort p).dseq + 1) % 65536 ∧ (t.timePort p).open_ = some ((s.timePort p).dseq, none) ∧ t.get
    .DRESP_MISSED p = countNext 4294967295 (s.get .DRESP_MISSED p) ∧ s.Within [(.DRESP_MISSED, p.val)] [.ringTime] t) ∧
  (∀ (p : Fin 3) (f : Frame) (r : Int) (s : State), f.cls = 1 → f.kind = 2 → f.link = true → s.takesFrame p f = true
    → ∃ t, exec (.dreqRx p f r) s = .next t ∧ (t.link p).tx.length = (s.link p).tx.length + 1 ∧ ((∃ g : Frame, g.cls
    = 1 ∧ g.link = true ∧ g.payload = [3, 0] ++ slice f.payload 2 2 ++ vt80Bytes r ++ vt80Bytes 0 ∧ (t.link p).tx =
    txInsert 0 g (s.link p).tx)) ∧ s.Within [(.FRAMES_RX, p.val)] [] t) ∧
  (∀ (p : Fin 3) (f : Frame) (t4 t1 : Int) (d c : Nat) (m : Int) (s : State), f.cls = 1 → f.kind = 3 → f.link = true
    → s.takesFrame p f = true → (s.timePort p).open_ = some (d, some (t1, c)) → leNat (slice f.payload 2 2) = d → m =
    roundAt .mean ((t4 - t1) - (vt80Of (slice f.payload 16 12) - vt80Of (slice f.payload 4 12))) 2 → vt80Of (slice
    f.payload 16 12) - vt80Of (slice f.payload 4 12) ≤ 10000 * 65536 → 0 ≤ m → m ≤ 100000 * 65536 → blocksOut
    (usCycles 100) c s.time.cycle = false → ∃ t, exec (.drespRx p f t4) s = .next t ∧ t.get .DELAY_RAW p = m ∧
    (t.timePort p).open_ = none ∧ t.get .DRESP_MISSED p = s.get .DRESP_MISSED p ∧ s.WithinKinds [.DELAY_RAW,
    .DELAY_STATE, .DELAY_STEPS, .DRESP_MISSED, .FENCE_SUPPRESSED, .FRAMES_RX, .LINK_DELAY, .LINK_DELAY_PREV,
    .PAUSES_SENT, .RL_CAUSE, .TRANSIT_DROPS, .TRANSIT_HIGH] [.ringTime] t) ∧
  (∀ (p : Fin 3) (f : Frame) (t4 t1 : Int) (d c : Nat) (s : State), f.cls = 1 → f.kind = 3 → f.link = true →
    s.takesFrame p f = true → (s.timePort p).open_ = some (d, some (t1, c)) → leNat (slice f.payload 2 2) = d →
    roundAt .mean ((t4 - t1) - (vt80Of (slice f.payload 16 12) - vt80Of (slice f.payload 4 12))) 2 < 0 ∨ blocksOut
    (usCycles 100) c s.time.cycle = true → ∃ t, exec (.drespRx p f t4) s = .next t ∧ (t.timePort p).open_ = none ∧
    t.get .DRESP_MISSED p = countNext 4294967295 (s.get .DRESP_MISSED p) ∧ s.Within [(.FRAMES_RX, p.val),
    (.DRESP_MISSED, p.val)] [.ringTime] t) ∧
  (∀ (p : Fin 3) (f : Frame) (t4 t1 : Int) (d c : Nat) (m : Int) (s : State), f.cls = 1 → f.kind = 3 → f.link = true
    → s.takesFrame p f = true → (s.timePort p).open_ = some (d, some (t1, c)) → leNat (slice f.payload 2 2) = d → m =
    roundAt .mean ((t4 - t1) - (vt80Of (slice f.payload 16 12) - vt80Of (slice f.payload 4 12))) 2 → vt80Of (slice
    f.payload 16 12) - vt80Of (slice f.payload 4 12) ≤ 10000 * 65536 → 0 ≤ m → m ≤ 100000 * 65536 → blocksOut
    (usCycles 100) c s.time.cycle = false → s.get .DELAY_STATE p = 1 → (s.timePort p).raws.length = 15 → ∃ t, exec
    (.drespRx p f t4) s = .next t ∧ t.get .DELAY_STATE p = 2 ∧ t.get .LINK_DELAY p = meanOf (m :: (s.timePort
    p).raws) ∧ t.get .EV_COUNT 0x19 = min (s.get .EV_COUNT 0x19 + 1) 4294967295) ∧
  (∀ (p : Fin 3) (d c : Nat) (t1 : Int) (s : State), (s.timePort p).open_ = some (d, some (t1, c)) → blocksOut
    (usCycles 100) c s.time.cycle = true → ∃ t, exec (.drespTimeout p) s = .next t ∧ (t.timePort p) =
    { s.timePort p with open_ := none } ∧ t.get .DRESP_MISSED p = countNext 4294967295 (s.get .DRESP_MISSED p) ∧
    s.Within [(.DRESP_MISSED, p.val)] [.ringTime] t)

/-- R391 to R406: SYNC frames, the vote for the grandmaster, the check of a twin, and the corrections. -/
def Obligations.RingTimeHappenings : Prop :=
  (∀ (s : State), s.ringTime.sending = true → s.ringTime.syncFor ≠ s.syncSlot → ∃ t, exec (.syncSend) s = .next t ∧
    t.ringTime = { s.ringTime with syncFor := s.syncSlot, syncSeq := (s.ringTime.syncSeq + 1) % 65536 } ∧ s.Within []
    [.ringTime] t) ∧
  (∀ (p : Fin 2) (f : Frame) (r : Int) (s : State), f.cls = 1 → f.kind = 1 → f.link = true → s.takesFrame p f = true
    → s.ringTime.sending = false → (syncOf f.payload).suspect = true → ∃ t, exec (.syncRx p f r) s = .next t ∧
    (((syncOf f.payload).gm ≠ Config.hubAddress → (syncOf f.payload).hops + 1 < 40 → s.canSend (1 - p.val) = true →
    s.get .LINK_STATE (1 - p.val) = 1 → ∃ g : Frame, g.cls = 1 ∧ g.link = true ∧ (t.link (1 - p.val)).tx = txInsert 0
    g (s.link (1 - p.val)).tx)) ∧ t.get .SYNC_UNUSABLE p = countNext 4294967295 (s.get .SYNC_UNUSABLE p) ∧ s.Within
    [(.FRAMES_RX, p.val), (.SYNC_UNUSABLE, p.val)] [.ringTime] t) ∧
  (∀ (p : Fin 2) (f : Frame) (r : Int) (s : State), f.cls = 1 → f.kind = 1 → f.link = true → s.takesFrame p f = true
    → s.ringTime.sending = false → (syncOf f.payload).suspect = false → s.get .RT_GM 0 = (syncOf f.payload).gm →
    s.get .DELAY_STATE p = 2 → s.linkGood p = true → s.get .RT_FAULT 0 = 0 → ∃ t, exec (.syncRx p f r) s = .next t ∧
    t.get .SYNC_USED p = countNext 4294967295 (s.get .SYNC_USED p) ∧ t.get .RT_SYNC_SEQ 0 = (syncOf f.payload).seq ∧
    t.get .RT_GM_HOLD 0 = b2i (syncOf f.payload).hold ∧ (t.timePort p).syncs.head? = some
    { seq := (syncOf f.payload).seq, off := r - ((syncOf f.payload).origin + ((syncOf f.payload).dsum + s.get .LINK_DELAY p) + (syncOf f.payload).acorr + (syncOf f.payload).resid + s.asymCorr p), dsum := (syncOf f.payload).dsum + s.get .LINK_DELAY p, loop := (if (syncOf f.payload).loopOk then some ((syncOf f.payload).loopE, (syncOf f.payload).loopW) else none), used := true }
    ∧ s.Within [(.FRAMES_RX, p.val), (.SYNC_USED, p.val), (.RT_SYNC_SEQ, 0), (.RT_GM_HOLD, 0)] [.ringTime] t) ∧
  (∀ (s : State), s.elapsed s.ringTime.announceAt (msCycles 16) = true → ∃ t, exec (.announceSend) s = .next t ∧
    ((s.isEligible = true → t.ringTime.aseq = (s.ringTime.aseq + 1) % 65536 ∧ t.ringTime.announceAt = some
    s.time.cycle ∧ t.get .RT_CANDIDATES 0 = (t.gmEligible.length : Int))) ∧ ((s.isEligible = true → ∀ p < 2, s.get
    .LINK_STATE p = 1 → s.portFenced p = false → ∃ g : Frame, g.cls = 1 ∧ g.link = true ∧ slice g.payload 0 4 = [4,
    if s.ringTime.sending then 3 else 1] ++ leBytes 2 ((s.ringTime.aseq + 1) % 65536) ∧ (t.link p).tx = txInsert 0 g
    (s.link p).tx)) ∧ ((s.isEligible = false → t.ringTime = s.ringTime)) ∧ s.WithinKinds [.RT_CANDIDATES, .RT_GM,
    .RT_ROLE] [.ringTime] t) ∧
  (∀ (a : Nat) (s : State), s.ringTime.announceAt = some a → s.time.cycle < a + msCycles 16 → ∃ t, exec
    (.announceSend) s = .next t ∧ s.Within [] [] t) ∧
  (∀ (p : Fin 2) (f : Frame) (addr : Nat) (s : State), f.cls = 1 → f.kind = 4 → f.link = true → s.takesFrame p f =
    true → addr = leNat (slice f.payload 4 2) → s.ringTime.cands.find? (fun c => c.addr == addr) = none → ∃ t, exec
    (.announceRx p f) s = .next t ∧ ((addr ≠ Config.hubAddress → t.ringTime.cands =
    { addr, aseq := leNat (slice f.payload 2 2), prio := leNat (slice f.payload 6 1), eligible := (leNat (slice f.payload 1 1)).testBit 0, at_ := s.time.cycle }
    :: s.ringTime.cands.filter (fun c => c.addr != addr))) ∧ ((addr ≠ Config.hubAddress → t.get .RT_CANDIDATES 0 =
    (t.gmEligible.length : Int))) ∧ ((addr = Config.hubAddress → t.ringTime = s.ringTime)) ∧ s.WithinKinds
    [.FENCE_SUPPRESSED, .FRAMES_RX, .PAUSES_SENT, .RL_CAUSE, .RT_CANDIDATES, .RT_GM, .RT_ROLE, .TRANSIT_DROPS,
    .TRANSIT_HIGH] [.ringTime, .vat] t) ∧
  (∀ (p : Fin 2) (f : Frame) (addr : Nat) (c : Candidate) (s : State), f.cls = 1 → f.kind = 4 → f.link = true →
    s.takesFrame p f = true → addr = leNat (slice f.payload 4 2) → s.ringTime.cands.find? (fun c => c.addr == addr) =
    some c → precedes 16 c.aseq (leNat (slice f.payload 2 2)) = false → ∃ t, exec (.announceRx p f) s = .next t ∧
    t.ringTime = s.ringTime ∧ s.Within [(.FRAMES_RX, p.val)] [] t) ∧
  (∀ (s : State), s.ringTime.cands.all (fun c => decide (s.time.servoAt ≤ c.at_ + msCycles (s.get .GM_TIMEOUT
    0).toNat)) = false → ∃ t, exec (.gmEntryExpiry) s = .next t ∧ t.ringTime.cands = s.ringTime.cands.filter (fun c
    => decide (s.time.servoAt ≤ c.at_ + msCycles (s.get .GM_TIMEOUT 0).toNat)) ∧ t.get .RT_CANDIDATES 0 =
    (t.gmEligible.length : Int) ∧ s.WithinKinds [.RT_CANDIDATES, .RT_GM, .RT_ROLE] [.ringTime] t) ∧
  (∀ (s : State), s.ringTime.cands.all (fun c => decide (s.time.servoAt ≤ c.at_ + msCycles (s.get .GM_TIMEOUT
    0).toNat)) = true → ∃ t, exec (.gmEntryExpiry) s = .next t ∧ s.Within [] [] t) ∧
  (∀ (s : State), s.get .RT_ROLE 0 = 3 → s.ringTime.sending = false → s.ringTime.bestAt + msCycles 1 ≤ s.time.cycle →
    ∃ t, exec (.becomeGrandmaster) s = .next t ∧ t.ringTime.sending = true ∧ t.ringTime.syncFor = s.syncSlot ∧ t.get
    .EV_COUNT 0x13 = min (s.get .EV_COUNT 0x13 + 1) 4294967295 ∧ s.Within [] [.ringTime] t) ∧
  (∀ (s : State), s.get .TWIN_ENABLE 0 = 1 → s.canSend 2 = true → s.elapsed (s.timePort 2).checkAt cycles125 = true →
    ∃ t, exec (.checkSend) s = .next t ∧ t.timePort 2 =
    { s.timePort 2 with cseq := ((s.timePort 2).cseq + 1) % 65536, checkAt := some s.time.cycle } ∧ s.Within []
    [.ringTime] t) ∧
  (∀ (f : Frame) (r : Int) (s : State), f.cls = 1 → f.kind = 5 → f.link = true → s.takesFrame 2 f = true → ∃ t, exec
    (.checkRx f r) s = .next t ∧ t.timePort 2 =
    { s.timePort 2 with checks := (r - (vt80Of (slice f.payload 4 12) + s.get .LINK_DELAY 2)) :: (s.timePort 2).checks }
    ∧ s.Within [(.FRAMES_RX, 2)] [.ringTime] t) ∧
  (∀ (w : Who) (p : Fin 3) (v : Int) (s : State), s.Open w .engineer .ASYM_CORR → -655360000 ≤ v → v ≤ 655360000 → ∃
    t, exec (.asymCorrWrite w p v) s = .next t ∧ t.get .ASYM_CORR p = v ∧ t.ringTime.corrected =
    (s.ringTime.corrected || decide (p.val < 2)) ∧ (t.timePort p).corrIn = some (blockOf s.time.cycle, s.asymCorr p)
    ∧ t.answer = ⟨.ok, .unit⟩ ∧ s.Within [(.ASYM_CORR, p.val)] [.ringTime] t) ∧
  (∀ (w : Who) (p : Fin 3) (v : Int) (s : State), s.Open w .engineer .ASYM_CORR → 655360000 < v → ∃ t, exec
    (.asymCorrWrite w p v) s = .next t ∧ t.answer = ⟨.outOfRange, .unit⟩ ∧ s.Within [] [] t) ∧
  (∀ (w : Who) (v : Nat) (s : State), s.Open w .engineer .RT_FAULT_CLEAR → ∃ t, exec (.rtFaultClear w v) s = .next t
    ∧ t.get .RT_FAULT 0 = 0 ∧ t.ringTime = s.ringTime ∧ t.answer = ⟨.ok, .unit⟩ ∧ s.Within [(.RT_FAULT, 0)] [] t)

/-- R421 to R426: what a unit sends, misses, claims and gives up, and the requests that a unit judges as a witness.
-/
def Obligations.TwinLeases : Prop :=
  (∀ (s : State), s.get .TWIN_STATE 0 ≠ 0 → s.twin.sentAt = none → s.fenced 8 0 = false → s.twin.aligning = false → ∃
    t, exec (.heartbeatSend) s = .next t ∧ t.twin =
    { s.twin with sentAt := some s.time.kt, granted := s.twin.granted || (s.get .TWIN_STATE 0 == 5 && s.hbGrant) } ∧
    s.Within [] [] t) ∧
  (∀ (n : Nat) (s : State), s.get .TWIN_STATE 0 = 5 → s.twin.sentAt = none → s.fenced 8 0 = false → s.twin.aligning =
    true → s.twin.firstSeq = some n → s.twin.copied = false → ∃ t, exec (.heartbeatSend) s = .next t ∧ t.twin.copied
    = true ∧ t.twin.firstSeq = some n ∧ t.twin.sentAt = some s.time.kt ∧ s.Within [] [.twin] t) ∧
  (∀ (s : State), s.get .TWIN_STATE 0 = 0 → ∃ t, exec (.heartbeatSend) s = .next t ∧ s.Within [] [] t) ∧
  (∀ (k : Nat) (s : State), s.get .TWIN_STATE 0 = 1 → s.twin.hbAt = some k → s.twin.lost = false → k + (s.get
    .HB_TIMEOUT 0).toNat < s.time.kt → ∃ t, exec (.heartbeatTimeout) s = .next t ∧ t.get .TWIN_STATE 0 = 4 ∧ t.get
    .CLAIM_AT 0 = (k + (s.get .HB_TIMEOUT 0).toNat : Nat) ∧ t.get .HB_LOSSES 0 = countNext 4294967295 (s.get
    .HB_LOSSES 0) ∧ t.twin.lost = true) ∧
  (∀ (k : Nat) (s : State), s.get .TWIN_STATE 0 = 5 → s.twin.hbAt = some k → s.twin.lost = false → k + (s.get
    .HB_TIMEOUT 0).toNat < s.time.kt → ∃ t, exec (.heartbeatTimeout) s = .next t ∧ t.get .TWIN_STATE 0 = 5 ∧
    t.twin.renews = true ∧ t.twin.wreqAt = some s.time.kt ∧ t.get .HB_LOSSES 0 = countNext 4294967295 (s.get
    .HB_LOSSES 0)) ∧
  (∀ (s : State), s.get .TWIN_STATE 0 = 5 → 0 ≤ s.get .LEASE_EXPIRY 0 → s.get .LEASE_EXPIRY 0 < s.time.kt → ∃ t, exec
    (.leaseExpiry) s = .next t ∧ t.get .TWIN_STATE 0 = 4 ∧ t.get .CLAIM_AT 0 = s.get .LEASE_EXPIRY 0 ∧ t.get
    .STANDDOWN_COUNT 0 = countNext 4294967295 (s.get .STANDDOWN_COUNT 0) ∧ bit (t.get .TWIN_CAUSE 0) 7 = true ∧
    t.twin.actLog.head? = some (s.nextInstant, false) ∧ s.WithinKinds [.CLAIM_AT, .DEBUG_EFFECTIVE, .DEBUG_HALTED,
    .HISTORY_GAP, .LOCK_n, .SEC_CAUSE, .STANDDOWN_COUNT, .SWITCH_COUNT, .SWITCH_INDEX, .TWIN_CAUSE, .TWIN_STATE]
    [.chans, .banks, .cave, .sec] t) ∧
  (∀ (s : State), (s.get .TWIN_STATE 0 ≠ 5 ∨ (s.time.kt : Int) ≤ s.get .LEASE_EXPIRY 0) → ∃ t, exec (.leaseExpiry) s
    = .next t ∧ t.twin = s.twin ∧ s.Within [] [] t) ∧
  (∀ (s : State), s.get .TWIN_STATE 0 = 4 → s.get .CLAIM_AT 0 ≤ s.time.kt → s.twin.wreqAt = none → ∃ t, exec
    (.claimAtReached) s = .next t ∧ t.twin = { s.twin with wreqAt := some s.time.kt } ∧ s.Within [] [] t) ∧
  (∀ (k : Nat) (s : State), s.twin.wreqAt = some k → (s.get .WITNESS_RENEW 0 ≤ (s.time.kt : Int) - k) → s.get
    .TWIN_STATE 0 = 5 → s.twin.renews = true → ∃ t, exec (.witnessRenewTimer) s = .next t ∧ t.twin =
    { s.twin with wreqAt := some s.time.kt } ∧ s.Within [] [] t) ∧
  (∀ (p : Fin 2) (f : Frame) (w : Nat) (s : State), f.link = true → s.takesFrame p f = true → s.get .WITNESS_ENABLE 0
    = 1 → f.cls = 5 → leNat (slice f.payload 0 1) = 5 → (wreqOf f).op = 1 ∨ (wreqOf f).op = 2 → s.witSlotFor (wreqOf
    f).addr = some w → s.get .WIT_TWIN w = 0x1FF ∨ s.witOpen w (wreqOf f).side = true → ∃ t, exec (.wreqRx p f none)
    s = .next t ∧ t.get .WIT_TWIN w = ((wreqOf f).addr : Int) ∧ t.get .WIT_HOLDER w = ((wreqOf f).side : Int) ∧ t.get
    .WIT_GRANT_END w = (s.time.kt + (wreqOf f).term : Nat) ∧ t.get .WIT_GRANTS w = countNext 4294967295 (s.get
    .WIT_GRANTS w) ∧ t.wit w = { at_ := s.time.kt, term := (wreqOf f).term, last := (wreqOf f).side } ∧ s.WithinKinds
    [.FENCE_SUPPRESSED, .FRAMES_RX, .PAUSES_SENT, .RL_CAUSE, .TRANSIT_DROPS, .TRANSIT_HIGH, .TWIN_CAUSE, .WIT_GRANTS,
    .WIT_GRANT_END, .WIT_HOLDER, .WIT_NO_SLOT, .WIT_REFUSALS, .WIT_TWIN] [.wits] t) ∧
  (∀ (p : Fin 2) (f : Frame) (w : Nat) (s : State), f.link = true → s.takesFrame p f = true → s.get .WITNESS_ENABLE 0
    = 1 → f.cls = 5 → leNat (slice f.payload 0 1) = 5 → (wreqOf f).op = 1 ∨ (wreqOf f).op = 2 → s.witSlotFor (wreqOf
    f).addr = some w → (s.get .WIT_TWIN w = ((wreqOf f).addr : Int)) → s.get .WIT_TWIN w ≠ 0x1FF → s.witOpen w
    (wreqOf f).side = false → ∃ t, exec (.wreqRx p f none) s = .next t ∧ t.get .WIT_HOLDER w = s.get .WIT_HOLDER w ∧
    t.get .WIT_GRANT_END w = s.get .WIT_GRANT_END w ∧ t.wit w =
    { s.wit w with at_ := s.time.kt, term := (wreqOf f).term } ∧ s.WithinKinds [.FENCE_SUPPRESSED, .FRAMES_RX,
    .PAUSES_SENT, .RL_CAUSE, .TRANSIT_DROPS, .TRANSIT_HIGH, .TWIN_CAUSE, .WIT_GRANTS, .WIT_GRANT_END, .WIT_HOLDER,
    .WIT_NO_SLOT, .WIT_REFUSALS, .WIT_TWIN] [.wits] t) ∧
  (∀ (p : Fin 2) (f : Frame) (w : Nat) (s : State), f.link = true → s.takesFrame p f = true → s.get .WITNESS_ENABLE 0
    = 1 → f.cls = 5 → leNat (slice f.payload 0 1) = 5 → (wreqOf f).op = 4 → s.witSlotFor (wreqOf f).addr = some w →
    (s.get .WIT_TWIN w = ((wreqOf f).addr : Int)) → s.get .WIT_TWIN w ≠ 0x1FF → (s.get .WIT_HOLDER w = ((wreqOf
    f).side : Int)) → ∃ t, exec (.wreqRx p f none) s = .next t ∧ t.get .WIT_HOLDER w = 0xFF ∧ t.get .WIT_GRANT_END w
    = s.get .WIT_GRANT_END w ∧ s.WithinKinds [.FENCE_SUPPRESSED, .FRAMES_RX, .PAUSES_SENT, .RL_CAUSE, .TRANSIT_DROPS,
    .TRANSIT_HIGH, .TWIN_CAUSE, .WIT_GRANTS, .WIT_GRANT_END, .WIT_HOLDER, .WIT_NO_SLOT, .WIT_REFUSALS, .WIT_TWIN]
    [.wits] t) ∧
  (∀ (p : Fin 2) (f : Frame) (s : State), f.link = true → s.takesFrame p f = true → s.get .WITNESS_ENABLE 0 = 1 →
    f.cls = 5 → leNat (slice f.payload 0 1) = 5 → s.witSlotFor (wreqOf f).addr = none → ∃ t, exec (.wreqRx p f none)
    s = .next t ∧ t.get .WIT_NO_SLOT 0 = countNext 4294967295 (s.get .WIT_NO_SLOT 0) ∧ t.wits = s.wits ∧
    s.WithinKinds [.FENCE_SUPPRESSED, .FRAMES_RX, .PAUSES_SENT, .RL_CAUSE, .TRANSIT_DROPS, .TRANSIT_HIGH,
    .TWIN_CAUSE, .WIT_GRANTS, .WIT_GRANT_END, .WIT_HOLDER, .WIT_NO_SLOT, .WIT_REFUSALS, .WIT_TWIN] [.wits] t) ∧
  (∀ (w : Fin 8) (s : State), s.get .WIT_TWIN w ≠ 0x1FF → (s.wit w).at_ + 4 * (s.wit w).term < s.time.kt → ∃ t, exec
    (.witnessSlotExpiry w) s = .next t ∧ t.get .WIT_TWIN w = 0x1FF ∧ t.get .WIT_HOLDER w = 0xFF ∧ t.get
    .WIT_GRANT_END w = 0 ∧ s.Within [(.WIT_TWIN, w.val), (.WIT_HOLDER, w.val), (.WIT_GRANT_END, w.val)] [.wits] t)

/-- R422 to R432: grants, heartbeats, mirrored writes and copies as a unit takes them. -/
def Obligations.TwinFrames : Prop :=
  (∀ (p : Fin 2) (f : Frame) (r : Nat) (s : State), f.link = true → s.takesFrame p f = true → f.cls = 5 → leNat
    (slice f.payload 0 1) = 6 → ((leNat (slice f.payload 1 1) : Int) = s.get .TWIN_SIDE 0) → leNat (slice f.payload 2
    1) = 0 → r = leNat (slice f.payload 4 8) → s.get .TWIN_STATE 0 = 5 → ∃ t, exec (.wgrantRx p f) s = .next t ∧
    ((leNat (slice f.payload 12 2) = Config.hubAddress → t.twin =
    { s.twin with byWitness := max s.twin.byWitness (r + s.holdTerm) } ∧ t.get .LEASE_EXPIRY 0 = max (s.get
    .LEASE_EXPIRY 0) (r + s.holdTerm : Nat))) ∧ ((leNat (slice f.payload 12 2) ≠ Config.hubAddress → t.twin = s.twin
    ∧ t.get .LEASE_EXPIRY 0 = s.get .LEASE_EXPIRY 0)) ∧ t.get .TWIN_STATE 0 = 5 ∧ s.Within [(.FRAMES_RX, p.val),
    (.LEASE_EXPIRY, 0), (.LEASE_SOURCE, 0)] [] t) ∧
  (∀ (p : Fin 2) (f : Frame) (r : Nat) (s : State), f.link = true → s.takesFrame p f = true → f.cls = 5 → leNat
    (slice f.payload 0 1) = 6 → ((leNat (slice f.payload 1 1) : Int) = s.get .TWIN_SIDE 0) → leNat (slice f.payload 2
    1) = 0 → r = leNat (slice f.payload 4 8) → s.get .TWIN_STATE 0 = 4 → ((s.time.kt : Int) < (r + s.holdTerm : Nat))
    → s.get .CLAIM_AT 0 ≤ s.time.kt → ∃ t, exec (.wgrantRx p f) s = .next t ∧ ((leNat (slice f.payload 12 2) =
    Config.hubAddress → t.get .TWIN_STATE 0 = 5 ∧ t.get .SWITCH_INDEX 0 = s.nextInstant + 2 ∧ t.get .SWITCH_COUNT 0 =
    countNext 4294967295 (s.get .SWITCH_COUNT 0) ∧ bit (t.get .TWIN_CAUSE 0) 4 = true ∧ t.twin.renews = s.twin.lost ∧
    t.twin.act = true)) ∧ ((leNat (slice f.payload 12 2) ≠ Config.hubAddress → t.get .TWIN_STATE 0 = 4)) ∧
    s.WithinKinds [.DEBUG_EFFECTIVE, .DEBUG_HALTED, .FENCE_SUPPRESSED, .FRAMES_RX, .HISTORY_GAP, .LEASE_EXPIRY,
    .LEASE_SOURCE, .LOCK_n, .PAUSES_SENT, .RL_CAUSE, .SEC_CAUSE, .SWITCH_COUNT, .SWITCH_INDEX, .TRANSIT_DROPS,
    .TRANSIT_HIGH, .TWIN_CAUSE, .TWIN_STATE] [.chans, .banks, .cave, .sec] t) ∧
  (∀ (p : Fin 2) (f : Frame) (r : Nat) (s : State), f.link = true → s.takesFrame p f = true → f.cls = 5 → leNat
    (slice f.payload 0 1) = 6 → leNat (slice f.payload 2 1) = 0 → r = leNat (slice f.payload 4 8) → s.get .TWIN_STATE
    0 = 4 → s.time.kt < s.get .CLAIM_AT 0 → ∃ t, exec (.wgrantRx p f) s = .next t ∧ t.get .TWIN_STATE 0 = 4 ∧
    t.twin.act = s.twin.act ∧ s.Within [(.FRAMES_RX, p.val), (.LEASE_EXPIRY, 0), (.LEASE_SOURCE, 0), (.TWIN_CAUSE,
    0)] [] t) ∧
  (∀ (p : Fin 2) (f : Frame) (s : State), f.link = true → s.takesFrame p f = true → f.cls = 5 → leNat (slice
    f.payload 0 1) = 6 → ((leNat (slice f.payload 1 1) : Int) = s.get .TWIN_SIDE 0) → leNat (slice f.payload 2 1) = 1
    ∨ leNat (slice f.payload 2 1) = 2 → ∃ t, exec (.wgrantRx p f) s = .next t ∧ ((leNat (slice f.payload 12 2) =
    Config.hubAddress → bit (t.get .TWIN_CAUSE 0) 5 = true)) ∧ s.Within [(.FRAMES_RX, p.val), (.TWIN_CAUSE, 0)] [] t) ∧
  (∀ (f : Frame) (s : State), f.cls = 5 → f.kind = 1 → f.link = true → s.takesFrame 2 f = true → s.get .TWIN_STATE 0
    = 0 → s.twin.adopting = false → ∃ t, exec (.heartbeatRx f) s = .next t ∧ t.twin = s.twin ∧ s.Within [(.FRAMES_RX,
    2)] [] t) ∧
  (∀ (f : Frame) (s : State), f.cls = 5 → f.kind = 1 → f.link = true → s.takesFrame 2 f = true → s.get .TWIN_STATE 0
    = 5 → leNat (slice f.payload 2 1) = 5 → s.twin.adopting = false → ∃ t, exec (.heartbeatRx f) s = .next t ∧ t.get
    .TWIN_STATE 0 = 4 ∧ t.get .CLAIM_AT 0 = s.time.kt ∧ t.get .PARTNER_STATE 0 = 5 ∧ t.twin.hbAt = some s.time.kt ∧
    t.twin.lost = false ∧ t.twin.wreqAt = none ∧ bit (t.get .TWIN_CAUSE 0) 10 = true ∧ s.WithinKinds [.CLAIM_AT,
    .DEBUG_EFFECTIVE, .DEBUG_HALTED, .FRAMES_RX, .HISTORY_GAP, .LOCK_n, .PARTNER_STATE, .SEC_CAUSE, .SWITCH_COUNT,
    .SWITCH_INDEX, .TWIN_CAUSE, .TWIN_STATE] [.chans, .banks, .cave, .sec] t) ∧
  (∀ (f : Frame) (s : State), f.cls = 5 → f.kind = 1 → f.link = true → s.takesFrame 2 f = true → s.get .TWIN_STATE 0
    ≠ 0 → ((s.add64 .FRAMES_RX 2 1).onHeartbeat f).2 = false → s.twin.adopting = false → ∃ t, exec (.heartbeatRx f) s
    = .next t ∧ t.twin.hbAt = some s.time.kt ∧ t.twin.lost = false ∧ t.get .PARTNER_STATE 0 = leNat (slice f.payload
    2 1) ∧ t.twin.digest = leNat (slice f.payload 28 4) ∧ t.twin.theirSeq = leNat (slice f.payload 44 4) ∧
    ((s.twin.lost = true → bit (t.get .TWIN_CAUSE 0) 3 = true))) ∧
  (∀ (f : Frame) (s : State), f.link = true → s.takesFrame 2 f = true → f.cls = 5 → leNat (slice f.payload 0 1) = 2 →
    s.acting = false → s.running = false → ∃ t, exec (.mirrorRx f) s = .next t ∧ t.twin =
    { s.twin with mirrors := ((leNat (slice f.payload 8 8) : Int), slice f.payload 16 64) :: s.twin.mirrors.take 4095 }
    ∧ s.Within [(.FRAMES_RX, 2)] [] t) ∧
  (∀ (f : Frame) (exc : List (Nat × Int × Int × Int)) (s : State), f.cls = 5 → f.kind = 3 → f.link = true →
    s.takesFrame 2 f = true → s.get .TWIN_ENABLE 0 = 1 → s.served = true → s.acting = false → ∃ t, exec
    (.dictMirrorRx f exc) s = .next t ∧ ((leNat (slice f.payload 8 2) * 256 + leNat (slice f.payload 10 1) =
    Config.excMirrorPlace → t.excCal.applied = exc ++ s.excCal.applied.filter (fun x => exc.all (fun y => y.1 !=
    x.1)))) ∧ ((∀ (c : Fin 512) (v : Byte), leNat (slice f.payload 8 2) * 256 + leNat (slice f.payload 10 1) ≠
    Config.excMirrorPlace → leNat (slice f.payload 8 2) = 0x3000 + c.val → leNat (slice f.payload 10 1) = 0x0C →
    slice f.payload 12 (leNat (slice f.payload 2 2)) = [v] → t.get .CH_WIRE_FAULT c = (v.toNat : Int)))) ∧
  (∀ (f : Frame) (exc : List (Nat × Int × Int × Int)) (s : State), f.cls = 5 → f.kind = 3 → f.link = true →
    s.takesFrame 2 f = true → s.get .TWIN_ENABLE 0 ≠ 1 ∨ s.served = false → ∃ t, exec (.dictMirrorRx f exc) s = .next
    t ∧ s.Within [(.FRAMES_RX, 2)] [] t) ∧
  (∀ (f : Frame) (s : State), f.link = true → s.takesFrame 2 f = true → f.cls = 5 → leNat (slice f.payload 0 1) = 4 →
    s.get .TWIN_STATE 0 = 2 → leNat (slice f.payload 8 2) = 0 → s.twin.copy = none → 1 < leNat (slice f.payload 10 2)
    → ∃ t, exec (.caveCopyRx f) s = .next t ∧ t.twin.copy = some (leNat (slice f.payload 4 4), 1, slice f.payload 16
    (leNat (slice f.payload 2 2))) ∧ s.Within [(.FRAMES_RX, 2), (.LOCK_n, 0), (.SYNC_REMAINING, 0)] [] t) ∧
  (∀ (s : State), s.get .TWIN_STATE 0 = 2 → s.twin.adopting = false → ∃ t, exec (.syncCopyComplete) s = .next t ∧
    t.get .TWIN_STATE 0 = 3 ∧ t.get .SYNC_REMAINING 0 = 0 ∧ t.twin.synced = true ∧ t.twin.copy = none ∧ t.twin.asks =
    false ∧ t.twin.taking = none ∧ t.twin.holds = false ∧ ((s.twin.firstSeq = none → (s.get .STREAM_QUEUE 0).toNat <
    16 → t.get .QUEUE_SEQ (s.get .STREAM_QUEUE 0).toNat = s.twin.theirSeq)))

/-- R428 to R431: TWIN_SWITCH, the tick of the handover, and the check of what a partner was seen to send. -/
def Obligations.TwinHandover : Prop :=
  (∀ (w : Who) (v : Nat) (s : State), s.Open w .operator .TWIN_SWITCH → s.mayHandOver = true → s.twin.giving = none →
    ∃ t, exec (.twinSwitch w v) s = .next t ∧ t.twin.giving = some (s.nextInstant + 256) ∧ t.twin.acked = false ∧
    t.twin.granted = false ∧ t.answer = ⟨.ok, .unit⟩ ∧ s.Within [] [] t) ∧
  (∀ (w : Who) (v : Nat) (s : State), s.Open w .operator .TWIN_SWITCH → s.mayHandOver = false → ∃ t, exec
    (.twinSwitch w v) s = .next t ∧ t.answer = ⟨.refused, .unit⟩ ∧ s.Within [(.TWIN_CAUSE, 0)] [] t) ∧
  (∀ (h g : Int) (s : State), s.twin.giving = some h → s.gridIndex = some g → h - 64 ≤ g → s.twin.granted = false →
    s.get .TWIN_STATE 0 = 5 → ∃ t, exec (.handoverCancel) s = .next t ∧ t.twin.giving = none ∧ t.twin.acked = false ∧
    s.Within [(.TWIN_CAUSE, 0)] [] t) ∧
  (∀ (h : Int) (s : State), s.twin.giving = some h → s.get .TWIN_STATE 0 = 5 → s.twin.granted = true → s.instant h ≤
    s.time.vt → ∃ t, exec (.handoverAtH) s = .next t ∧ t.get .TWIN_STATE 0 = 3 ∧ t.get .SWITCH_INDEX 0 = h ∧
    t.twin.synced = true ∧ t.twin.asks = false ∧ t.twin.taking = none ∧ t.twin.holds = false ∧ t.twin.actLog.head? =
    some (h, false) ∧ bit (t.get .TWIN_CAUSE 0) 1 = true ∧ s.WithinKinds [.CLAIM_AT, .DEBUG_EFFECTIVE, .DEBUG_HALTED,
    .HISTORY_GAP, .LOCK_n, .SEC_CAUSE, .SWITCH_COUNT, .SWITCH_INDEX, .TWIN_CAUSE, .TWIN_STATE] [.chans, .banks,
    .cave, .sec] t) ∧
  (∀ (h : Int) (s : State), s.twin.giving = none → s.twin.taking = some h → s.get .TWIN_STATE 0 = 3 → s.twin.holds =
    true → s.instant h + 4000 * 16777216 ≤ s.time.vt → ∃ t, exec (.handoverAtH) s = .next t ∧ t.get .TWIN_STATE 0 = 5
    ∧ t.get .SWITCH_INDEX 0 = h ∧ t.get .SWITCH_COUNT 0 = countNext 4294967295 (s.get .SWITCH_COUNT 0) ∧ bit (t.get
    .TWIN_CAUSE 0) 0 = true ∧ t.twin.act = true ∧ t.twin.seenFrom = some s.tickKey ∧ t.twin.gap = false ∧
    s.WithinKinds [.DEBUG_EFFECTIVE, .DEBUG_HALTED, .HISTORY_GAP, .LOCK_n, .SEC_CAUSE, .SWITCH_COUNT, .SWITCH_INDEX,
    .TWIN_CAUSE, .TWIN_STATE] [.chans, .banks, .cave, .sec] t) ∧
  (∀ (s : State), s.twin.giving = none → s.twin.taking = none → ∃ t, exec (.handoverAtH) s = .next t ∧ t.twin =
    s.twin ∧ s.Within [] [] t) ∧
  (∀ (k : Int) (n : Nat) (s : State), s.twin.seenFrom = some k → s.get .TWIN_STATE 0 = 5 → k + 4 ≤ s.tickKey → n =
    (List.range 32).countP (fun b => s.get .BANK_ENABLE b == 1 && !bit (s.get .COMP_STATUS b) 5) → 0 < n → ∃ t, exec
    (.twinSeenCheck) s = .next t ∧ t.get .COMP_UNCONFIRMED 0 = min (s.get .COMP_UNCONFIRMED 0 + n) 4294967295 ∧
    t.twin.seenFrom = none ∧ s.Within [(.COMP_UNCONFIRMED, 0), (.TWIN_CAUSE, 0)] [] t)

/-- R473 to R482: the commands of a mailbox, its services, and its time-outs. -/
def Obligations.MailboxCommands : Prop :=
  (∀ (w : Who) (k : Fin 8) (v : Nat) (s : State), s.Open w .operator .MBX_OPEN → w.session ≠ 0 → s.get .MBX_STATE k =
    0 → ∃ t, exec (.mbxOpen w k v) s = .next t ∧ ((Config.mailService v ≠ none → t.get .MBX_STATE k = 1 ∧ t.get
    .MBX_OWNER k = w.owner ∧ t.get .MBX_SERVICE k = v ∧ (t.box k).session = w.session ∧ (t.box k).inbox = [] ∧ (t.box
    k).outbox = [] ∧ t.answer = ⟨.ok, .unit⟩)) ∧ ((Config.mailService v = none → t.get .MBX_STATE k = 0 ∧ t.answer =
    ⟨.refused, .unit⟩)) ∧ s.Within [(.MBX_STATE, k.val), (.MBX_OWNER, k.val), (.MBX_SERVICE, k.val)] [.test] t) ∧
  (∀ (w : Who) (k : Fin 8) (v : Nat) (s : State), s.Open w .operator .MBX_OPEN → w.session ≠ 0 → s.get .MBX_STATE k ≠
    0 → ∃ t, exec (.mbxOpen w k v) s = .next t ∧ t.answer = ⟨.refused, .unit⟩ ∧ t.box k = s.box k ∧ s.Within [] [] t) ∧
  (∀ (w : Who) (k : Fin 8) (s : State), s.Open w .operator .MBX_CLOSE → s.boundTo w k = true → ∃ t, exec (.mbxClose w
    k) s = .next t ∧ t.get .MBX_STATE k = 0 ∧ t.get .MBX_OWNER k = 0 ∧ t.get .MBX_SERVICE k = 0 ∧ t.get .MBX_ACK_TX k
    = 0 ∧ t.answer = ⟨.ok, .unit⟩ ∧ s.Within [(.MBX_STATE, k.val), (.MBX_OWNER, k.val), (.MBX_SERVICE, k.val),
    (.MBX_ACK_TX, k.val)] [.test] t) ∧
  (∀ (w : Who) (k : Fin 8) (n : Notice) (s : State), s.Open w .operator .MBX_POST → s.boundTo w k = true → n.formed =
    true → (s.box k).inbox.length < 4 → n.nseq = ((s.box k).inSeq + 1) % 65536 → ∃ t, exec (.mbxPost w k n) s = .next
    t ∧ t.answer = ⟨.ok, .unit⟩ ∧ s.Within [(.MBX_STATE, k.val), (.MBX_CROSSINGS, k.val)] [.test] t) ∧
  (∀ (w : Who) (k : Fin 8) (n : Notice) (s : State), s.Open w .operator .MBX_POST → s.boundTo w k = true → n.formed =
    true → 4 ≤ (s.box k).inbox.length → ∃ t, exec (.mbxPost w k n) s = .next t ∧ t.get .MBX_POST_FULL k = countNext
    4294967295 (s.get .MBX_POST_FULL k) ∧ t.answer = ⟨.refused, .unit⟩ ∧ s.Within [(.MBX_POST_FULL, k.val)] [] t) ∧
  (∀ (w : Who) (k : Fin 8) (x : Notice) (l : List Notice) (s : State), s.served = true → Obj.MBX_TAKE.info.role.rank
    ≤ w.role.rank → s.barred w .MBX_TAKE false = none → s.boundTo w k = true → (s.box k).outbox = x :: l → (s.box
    k).held = [] → ∃ t, exec (.mbxTake w k) s = .next t ∧ t.answer = ⟨.ok, .bytes x.bytes⟩ ∧ (t.box k).outbox = l ∧
    (t.box k).taken = x.nseq ∧ ((x.nflags % 2 = 1 → (t.box k).unacked = (s.box k).unacked ++ [(x.nseq, s.time.kt,
    false)])) ∧ s.Within [(.MBX_STATE, k.val), (.MBX_CROSSINGS, k.val)] [.test] t) ∧
  (∀ (w : Who) (k : Fin 8) (s : State), s.served = true → Obj.MBX_TAKE.info.role.rank ≤ w.role.rank → s.barred w
    .MBX_TAKE false = none → s.boundTo w k = true → (s.box k).outbox = [] → ∃ t, exec (.mbxTake w k) s = .next t ∧
    t.answer = ⟨.ok, .bytes []⟩ ∧ t.box k = s.box k ∧ s.Within [] [.test] t) ∧
  (∀ (w : Who) (k : Fin 8) (s : State), s.served = true → Obj.MBX_TAKE.info.role.rank ≤ w.role.rank → s.barred w
    .MBX_TAKE false = none → s.boundTo w k = false → ∃ t, exec (.mbxTake w k) s = .next t ∧ t.answer =
    ⟨.session, .unit⟩ ∧ t.box k = s.box k ∧ s.Within [] [] t) ∧
  (∀ (w : Who) (k : Fin 8) (n : Nat) (s : State), s.Open w .operator .MBX_ACK_RX → s.boundTo w k = true → precedes 16
    (s.box k).ackRx n = true → precedes 16 (s.box k).taken n = false → ∃ t, exec (.mbxAckRx w k n) s = .next t ∧
    t.answer = ⟨.ok, .unit⟩ ∧ s.Within [(.MBX_STATE, k.val), (.MBX_CROSSINGS, k.val)] [.test] t) ∧
  (∀ (w : Who) (k : Fin 8) (n : Nat) (s : State), s.Open w .operator .MBX_ACK_RX → s.boundTo w k = true → precedes 16
    (s.box k).ackRx n = true → precedes 16 (s.box k).taken n = true → ∃ t, exec (.mbxAckRx w k n) s = .next t ∧
    t.answer = ⟨.refused, .unit⟩ ∧ t.box k = s.box k ∧ s.Within [] [] t) ∧
  (∀ (w : Who) (k : Fin 8) (offset : Nat) (d : List Byte) (s : State), s.Open w .operator .MBX_TX_DATA → s.boundTo w
    k = true → offset % 4 = 0 → offset + d.length ≤ 32768 → ∃ t, exec (.mbxTxData w k offset d) s = .next t ∧
    t.answer = ⟨.ok, .unit⟩ ∧ s.Within [] [.test] t) ∧
  (∀ (k : Fin 8) (n : Notice) (d : List Byte) (s : State), s.get .MBX_STATE k ≠ 0 → n.formed = true → d.length =
    n.length → (s.box k).held = [] → (s.box k).outbox.length < 4 → ∃ t, exec (.mbxServicePost k n d) s = .next t ∧
    (t.box k).outbox = (s.box k).outbox ++ [{ n with nseq := ((s.box k).outSeq + 1) % 65536 }] ∧ (t.box k).outSeq =
    ((s.box k).outSeq + 1) % 65536 ∧ (t.box k).held = [] ∧ (t.box k).outWin = storeWindow n.offset d (s.box k).outWin
    ∧ bit (t.get .MJ_CAUSE 0) 0 = true ∧ s.Within [(.MBX_STATE, k.val), (.MBX_CROSSINGS, k.val)] [] t) ∧
  (∀ (k : Fin 8) (n : Notice) (d : List Byte) (s : State), s.get .MBX_STATE k ≠ 0 → n.formed = true → d.length =
    n.length → 4 ≤ (s.box k).outbox.length → ∃ t, exec (.mbxServicePost k n d) s = .next t ∧ (t.box k).outbox =
    (s.box k).outbox ∧ (t.box k).held = (s.box k).held ++ [n] ∧ s.Within [(.MBX_STATE, k.val), (.MBX_CROSSINGS,
    k.val)] [] t) ∧
  (∀ (k : Fin 8) (n : Notice) (d : List Byte) (s : State), s.get .MBX_STATE k = 0 ∨ n.formed = false ∨ d.length ≠
    n.length → ∃ t, exec (.mbxServicePost k n d) s = .next t ∧ t.box k = s.box k ∧ s.Within [] [] t) ∧
  (∀ (k : Fin 8) (s : State), s.get .MBX_STATE k ≠ 0 → (s.box k).held = [] → ∃ t, exec (.mbxServiceTake k) s = .next
    t ∧ (t.box k).inbox = (s.box k).inbox.drop 1 ∧ s.Within [(.MBX_STATE, k.val), (.MBX_CROSSINGS, k.val)] [] t) ∧
  (∀ (k : Fin 8) (n : Nat) (s : State), s.get .MBX_STATE k ≠ 0 → (s.box k).inWanted.contains n = true → (s.box
    k).inbox.any (fun x => x.nseq == n) = false → ∃ t, exec (.mbxServiceAck k n) s = .next t ∧ t.get .MBX_ACK_TX k =
    n ∧ (t.box k).inWanted = (s.box k).inWanted.filter (fun x => precedes 16 n x) ∧ s.Within [(.MBX_STATE, k.val),
    (.MBX_CROSSINGS, k.val), (.MBX_ACK_TX, k.val)] [] t) ∧
  (∀ (k : Fin 8) (n : Nat) (s : State), (n = (s.box k).unacked.countP (fun x => !x.2.2 && decide ((x.2.1 : Int) +
    s.get .MBX_ACK_TIMEOUT 0 < s.time.kt))) → 0 < n → ∃ t, exec (.mbxAckTimeout k) s = .next t ∧ t.get .MBX_ACK_LATE
    k = min (s.get .MBX_ACK_LATE k + n) 4294967295 ∧ s.Within [(.MBX_ACK_LATE, k.val)] [] t) ∧
  (∀ (k : Fin 8) (s : State), s.get .MBX_STATE k = 2 → (s.box k).crossed = true → (((s.box k).crossedAt : Int) +
    s.get .MBX_CROSS_TIMEOUT 0 < s.time.kt) → ∃ t, exec (.mbxCrossTimeout k) s = .next t ∧ t.get .MBX_STATE k = 0 ∧
    t.get .MBX_OWNER k = 0 ∧ t.get .MBX_SERVICE k = 0 ∧ s.Within [(.MBX_STATE, k.val), (.MBX_OWNER, k.val),
    (.MBX_SERVICE, k.val), (.MBX_ACK_TX, k.val)] [] t)

/-- R464, R485 to R487, R496 to R499: the locks, the end of idle sessions, and the pages, the mirror and the mark of
the journal. -/
def Obligations.LocksAndJournal : Prop :=
  (∀ (w : Who) (n : Fin 32) (s : State), s.served = true → Obj.LOCK_n.info.role.rank ≤ w.role.rank → s.barred w
    .LOCK_n false = none → w.owner ≠ 0 → s.get .LOCK_n n = 0 → ∃ t, exec (.lockRead w n) s = .next t ∧ t.get .LOCK_n
    n = w.owner ∧ t.answer = ⟨.ok, .num w.owner⟩ ∧ s.Within [(.LOCK_n, n.val)] [.locks] t) ∧
  (∀ (w : Who) (n : Fin 32) (s : State), s.served = true → Obj.LOCK_n.info.role.rank ≤ w.role.rank → s.barred w
    .LOCK_n false = none → w.owner ≠ 0 → s.get .LOCK_n n ≠ 0 → s.get .LOCK_n n ≠ w.owner → ∃ t, exec (.lockRead w n)
    s = .next t ∧ t.get .LOCK_n n = s.get .LOCK_n n ∧ t.get .LOCK_CONTESTED 0 = countNext 4294967295 (s.get
    .LOCK_CONTESTED 0) ∧ t.answer = ⟨.ok, .num (s.get .LOCK_n n)⟩ ∧ s.Within [(.LOCK_CONTESTED, 0)] [] t) ∧
  (∀ (w : Who) (n : Fin 32) (s : State), s.Open w .operator .LOCK_RELEASE → s.get .LOCK_n n = w.owner → w.owner ≠ 0 →
    ∃ t, exec (.lockRelease w n) s = .next t ∧ t.get .LOCK_n n = 0 ∧ t.answer = ⟨.ok, .unit⟩ ∧ s.Within [(.LOCK_n,
    n.val)] [] t) ∧
  (∀ (w : Who) (n : Fin 32) (s : State), s.Open w .operator .LOCK_RELEASE → s.get .LOCK_n n ≠ w.owner → ∃ t, exec
    (.lockRelease w n) s = .next t ∧ t.answer = ⟨.refused, .unit⟩ ∧ s.Within [] [] t) ∧
  (∀ (w : Who) (n : Fin 32) (s : State), s.Open w .service .LOCK_FORCE → ∃ t, exec (.lockForce w n) s = .next t ∧
    t.get .LOCK_n n = 0 ∧ t.answer = ⟨.ok, .unit⟩ ∧ s.Within [(.LOCK_n, n.val)] [] t) ∧
  (∀ (n : Fin 32) (s : State), s.get .LOCK_n n ≠ 0 → ((s.lockTime n : Int) + s.get .LOCK_TIMEOUT 0 < s.time.kt) → ∃
    t, exec (.lockTimeoutExpiry n) s = .next t ∧ t.get .LOCK_n n = 0 ∧ t.get .LOCK_EXPIRED 0 = countNext 4294967295
    (s.get .LOCK_EXPIRED 0) ∧ s.Within [(.LOCK_n, n.val), (.LOCK_EXPIRED, 0)] [] t) ∧
  (∀ (s : State), ∃ t, exec (.sessionIdleExpiry) s = .next t ∧ ((∀ n < 16, (s.session n).open_ = true → runOut
    (msCycles 1000 * (s.get .SESSION_IDLE 0).toNat) (s.session n).lastAt s.time.cycle = true → (t.session n).open_ =
    false ∧ (∀ k < 8, s.get .MBX_STATE k ≠ 0 → (s.box k).session = n → t.get .MBX_STATE k = 0) ∧ (∀ l < 32, t.get
    .LOCK_n l ∉ ownerIds n))) ∧ ((∀ n < 16, runOut (msCycles 1000 * (s.get .SESSION_IDLE 0).toNat) (s.session
    n).lastAt s.time.cycle = false → t.session n = s.session n)) ∧ s.WithinKinds [.LOCK_n, .MBX_ACK_TX, .MBX_OWNER,
    .MBX_SERVICE, .MBX_STATE, .SESSIONS_OPEN] [.engine] t) ∧
  (∀ (w : Who) (p : Fin 1024) (bad : List Nat) (s : State), s.served = true → Obj.JRN_PAGE_p.info.role.rank ≤
    w.role.rank → s.barred w .JRN_PAGE_p false = none → bad = [] → ((∀ i < 64, s.journal.badSlots.contains (64 *
    p.val + i) = false ∧ entryOk (Sparse.get (fun _ => List.replicate 32 (0 : Byte)) s.journal.slots (64 * p.val +
    i)) = true)) → ∃ t, exec (.jrnPageRead w p bad) s = .next t ∧ t.answer =
    ⟨.ok, .bytes ((List.range 64).flatMap (fun i => Sparse.get (fun _ => List.replicate 32 (0 : Byte)) s.journal.slots (64 * p.val + i)))⟩
    ∧ t.journal = s.journal ∧ s.Within [] [] t) ∧
  (∀ (w : Who) (p : Fin 1024) (bad : List Nat) (s : State), s.served = true → Obj.JRN_PAGE_p.info.role.rank ≤
    w.role.rank → s.barred w .JRN_PAGE_p false = none → bad = List.range 64 → s.get .JRN_MIRROR_STATE 0 ≠ 2 → ∃ t,
    exec (.jrnPageRead w p bad) s = .next t ∧ t.answer = ⟨.ok, .bytes ((List.replicate 64 holeEntry).flatten)⟩ ∧
    t.journal.slots = s.journal.slots ∧ bit (t.get .FI_CAUSE 0) 6 = true ∧ s.Within [(.MRAM_ECC_UNCORRECTABLE, 0),
    (.FI_CAUSE, 0)] [] t) ∧
  (∀ (slot : Nat) (e : List Byte) (m : List (Nat × List Byte)) (s : State), s.journal.mirrorDue = (slot, e) :: m →
    s.get .JRN_MIRROR 0 = 1 → s.get .CAVE_STATE 0 = 2 → ∃ t, exec (.jrnMirrorWrite false) s = .next t ∧ t.journal =
    { s.journal with mirrorDue := m, mirror := Sparse.insert (fun k => k) slot e s.journal.mirror } ∧ s.Within [] []
    t) ∧
  (∀ (slot : Nat) (e : List Byte) (m : List (Nat × List Byte)) (s : State), s.journal.mirrorDue = (slot, e) :: m →
    s.get .JRN_MIRROR 0 = 1 → s.get .CAVE_STATE 0 = 2 → ∃ t, exec (.jrnMirrorWrite true) s = .next t ∧ t.get
    .JRN_MIRROR_STATE 0 = 3 ∧ s.Within [(.JRN_MIRROR_STATE, 0)] [] t) ∧
  (∀ (s : State), s.get .JRN_MIRROR_STATE 0 = 1 → s.get .CAVE_STATE 0 = 2 → ∃ t, exec (.jrnMirrorCopyDone) s = .next
    t ∧ t.get .JRN_MIRROR_STATE 0 = 2 ∧ t.journal.mirrorDue = [] ∧ s.Within [(.JRN_MIRROR_STATE, 0)] [] t) ∧
  (∀ (w : Who) (q : Nat) (s : State), s.Open w .operator .JRN_HOST_MARK → s.notActingFor w = false → ∃ t, exec
    (.jrnHostMarkWrite w q) s = .next t ∧ t.get .JRN_HOST_MARK 0 = q ∧ t.answer = ⟨.ok, .unit⟩ ∧ s.Within
    [(.JRN_HOST_MARK, 0)] [] t)

/-- R513 to R524: FENCE_SET, FENCE_LIFT, the excitation supply, the watchdog of a core and the scrub of the curd
store. -/
def Obligations.FenceCommands : Prop :=
  (∀ (w : Who) (cls : Fin 10) (n : Nat) (s : State), s.Open w .service .FENCE_SET → n < fenceInstances cls → s.fenced
    cls n = false → (s.fenceTick cls n).lifted = false → cls.val ≠ 9 ∨ s.otherCore n = true → ∃ t, exec (.fenceSet w
    cls n) s = .next t ∧ t.fenced cls n = true ∧ t.get .FENCE_ENTRIES cls = countNext 4294967295 (s.get
    .FENCE_ENTRIES cls) ∧ t.get .FENCE_LAST cls = (n * 16777216 + 65536 : Nat) ∧ bit (t.get .FI_CAUSE 0) 0 = true ∧
    t.answer = ⟨.ok, .unit⟩ ∧ s.WithinKinds [.BANK_CAUSE, .CAP_HEADER, .CAP_HELD, .DATA_DIR, .DELAY_STATE,
    .FAILED_LINKS, .FAILURES, .FENCED, .FENCE_ENTRIES, .FENCE_LAST, .FENCE_SUPPRESSED, .FI_CAUSE, .HIST_BINS,
    .HIST_CLOSES, .HIST_EXCLUDED, .HIST_FROM, .HIST_OVER, .HIST_STATE, .HIST_TO, .HIST_UNDER, .LINK_CHANGED,
    .LINK_DELAY_PREV, .LINK_FAIL_CAUSE, .LINK_STATE, .LOCK_n, .MBX_ACK_TX, .MBX_OWNER, .MBX_SERVICE, .MBX_STATE,
    .PAUSES_SENT, .PMAP_CAPTURES, .PMAP_MAX, .PMAP_PENDING, .PMAP_STATE, .PRESS_CAUSE, .REPLAY_STATE,
    .RIPEN_ABANDONED, .RIPEN_BEHIND, .RIPEN_PENDING, .RIPEN_SEGMENT, .RIPEN_STATE, .RL_CAUSE, .SHADOW_LAST,
    .SHADOW_SKIPS, .SHADOW_UNRESOLVED, .SPARE_CHANNEL, .SPARE_STATE, .START_DONE_INDEX, .START_QUALIFIED,
    .TRANSIT_DROPS, .TRIER_CAUSE, .UNIT_CAUSE, .UNIT_STATE] [.blob, .chans, .banks, .fences, .engine, .ringTime,
    .cave, .units, .regions, .press, .draws, .out] t) ∧
  (∀ (w : Who) (cls : Fin 10) (n : Nat) (s : State), s.Open w .service .FENCE_SET → n < fenceInstances cls → s.fenced
    cls n = false → (s.fenceTick cls n).lifted = false → cls.val = 9 → s.otherCore n = false → ∃ t, exec (.fenceSet w
    cls n) s = .next t ∧ t.answer = ⟨.refused, .unit⟩ ∧ t.fenced cls n = false ∧ bit (t.get .FI_CAUSE 0) 2 = true ∧
    s.Within [(.FI_CAUSE, 0)] [] t) ∧
  (∀ (w : Who) (cls : Fin 10) (n : Nat) (s : State), s.Open w .service .FENCE_SET → n < fenceInstances cls → s.fenced
    cls n = true → ∃ t, exec (.fenceSet w cls n) s = .next t ∧ t.fenced cls n = true ∧ t.answer = ⟨.ok, .unit⟩ ∧
    s.Within [] [] t) ∧
  (∀ (w : Who) (cls : Fin 10) (n : Nat) (s : State), s.Open w .service .FENCE_SET → fenceInstances cls ≤ n → ∃ t,
    exec (.fenceSet w cls n) s = .next t ∧ t.answer = ⟨.outOfRange, .unit⟩ ∧ s.Within [] [] t) ∧
  (∀ (w : Who) (cls : Fin 10) (n : Nat) (s : State), s.Open w .service .FENCE_LIFT → n < fenceInstances cls →
    s.fenced cls n = true → (s.fenceTick cls n).auto = false → ∃ t, exec (.fenceLift w cls n) s = .next t ∧ t.fenced
    cls n = false ∧ t.answer = ⟨.ok, .unit⟩) ∧
  (∀ (w : Who) (cls : Fin 10) (n : Nat) (s : State), s.Open w .service .FENCE_LIFT → n < fenceInstances cls →
    s.fenced cls n = true → (s.fenceTick cls n).auto = true → ∃ t, exec (.fenceLift w cls n) s = .next t ∧ t.answer =
    ⟨.refused, .unit⟩ ∧ t.fenced cls n = true ∧ s.Within [(.FI_CAUSE, 0)] [] t) ∧
  (∀ (b : Fin 32) (s : State), s.mayFence 0 = true → s.fenced 0 b = false → ∃ t, exec (.excSupplyOvercurrent b) s =
    .next t ∧ t.fenced 0 b = true ∧ t.get .FENCE_LAST 0 = (b.val * 16777216 + 8 * 65536 : Nat) ∧ t.get .FENCE_ENTRIES
    0 = countNext 4294967295 (s.get .FENCE_ENTRIES 0) ∧ bit (t.get .FI_CAUSE 0) 0 = true ∧ (t.fenceTick 0 b).auto =
    true ∧ s.WithinKinds [.BANK_CAUSE, .FENCED, .FENCE_ENTRIES, .FENCE_LAST, .FI_CAUSE, .SHADOW_LAST, .SHADOW_SKIPS,
    .SHADOW_UNRESOLVED, .SPARE_CHANNEL, .SPARE_STATE] [.chans, .banks, .fences] t) ∧
  (∀ (b : Fin 32) (s : State), s.mayFence 0 = false → ∃ t, exec (.excSupplyOvercurrent b) s = .next t ∧ s.Within []
    [] t) ∧
  (∀ (core : Fin 2) (s : State), s.served = true → s.fenced 9 core = false → bit (s.get .DEBUG_HALTED 0) core = false
    → s.otherCore core = true → s.mayFence 9 = true → ∃ t, exec (.coreWatchdogExpiry core) s = .next t ∧ t.fenced 9
    core = true ∧ t.get .FENCE_LAST 9 = (core.val * 16777216 + 9 * 65536 : Nat) ∧ bit (t.get .FI_CAUSE 0) 0 = true ∧
    (t.fenceTick 9 core).auto = true ∧ ((∀ k < 8, s.get .MBX_STATE k ≠ 0 → Config.mailService (s.get .MBX_SERVICE
    k).toNat = some core.val → t.get .MBX_STATE k = 0)) ∧ s.WithinKinds [.FENCED, .FENCE_ENTRIES, .FENCE_LAST,
    .FI_CAUSE, .LOCK_n, .MBX_ACK_TX, .MBX_OWNER, .MBX_SERVICE, .MBX_STATE] [.fences] t) ∧
  (∀ (core : Fin 2) (s : State), s.served = true → s.fenced 9 core = false → bit (s.get .DEBUG_HALTED 0) core = false
    → s.otherCore core = false → s.boot.rstLow = false → ∃ t, exec (.coreWatchdogExpiry core) s = .next t ∧ t.get
    .START_STATE 0 = 1 ∧ t.get .RESET_CAUSE 0 = 5 ∧ t.boot.cause = 5 ∧ t.boot.at_ = s.time.cycle ∧ t.get .FRAME_STATE
    0 = 0 ∧ t.frame = {} ∧ t.engine = { saved := s.engine.saved } ∧ t.sec.password = s.sec.password ∧ t.queues = [] ∧
    t.time.cycle = s.time.cycle ∧ t.time.kt = s.time.kt ∧ t.journal.slots = s.journal.slots) ∧
  (∀ (core : Fin 2) (s : State), s.fenced 9 core = true ∨ bit (s.get .DEBUG_HALTED 0) core = true ∨ s.served = false
    → ∃ t, exec (.coreWatchdogExpiry core) s = .next t ∧ s.Within [] [] t) ∧
  (∀ (c : Nat) (bad : List CurdFault) (s : State), 0 < c → bad = [] → ∃ t, exec (.curdScrubPass c bad) s = .next t ∧
    t.get .CURD_ECC_CORRECTED 0 = (s.get .CURD_ECC_CORRECTED 0 + c) % 18446744073709551616 ∧ bit (t.get .FI_CAUSE 0)
    4 = true ∧ s.Within [(.CURD_ECC_CORRECTED, 0), (.FI_CAUSE, 0)] [] t) ∧
  (∀ (c : Nat) (bad : List CurdFault) (s : State), c = 0 → bad = [.other] → ∃ t, exec (.curdScrubPass c bad) s =
    .next t ∧ t.get .CURD_ECC_UNCORRECTABLE 0 = countNext 4294967295 (s.get .CURD_ECC_UNCORRECTABLE 0) ∧ bit (t.get
    .FI_CAUSE 0) 5 = true ∧ s.Within [(.CURD_ECC_UNCORRECTABLE, 0), (.FI_CAUSE, 0)] [] t) ∧
  (∀ (c : Nat) (bad : List CurdFault) (q : Fin 16) (k : Nat) (x : Slot) (s : State), c = 0 → bad = [.queueSlot q k] →
    (s.queue q).slots[k]? = some x → ∃ t, exec (.curdScrubPass c bad) s = .next t ∧ ((∃ y, (t.queue q).slots[k]? =
    some y ∧ y.bad = true ∧ y.word = x.word)) ∧ t.get .CURD_ECC_UNCORRECTABLE 0 = countNext 4294967295 (s.get
    .CURD_ECC_UNCORRECTABLE 0) ∧ bit (t.get .FI_CAUSE 0) 5 = true) ∧
  (∀ (c : Nat) (bad : List CurdFault) (s : State), c = 0 → bad = [] → ∃ t, exec (.curdScrubPass c bad) s = .next t ∧
    s.Within [] [] t)

/-- R533, R534, R536, R540, R556: the security state, the keys and the password. -/
def Obligations.SecurityCommands : Prop :=
  (∀ (w : Who) (s : State), s.Open w .service .SEC_CLOSE → s.get .SEC_STATE 0 = 0 → noKey (s.getBytes .ROLE_KEY_r 2)
    = false → ∃ t, exec (.secClose w) s = .next t ∧ t.get .SEC_STATE 0 = 1 ∧ ((∀ n < 16, (t.session n).open_ =
    false)) ∧ bit (t.get .SEC_CAUSE 0) 0 = true ∧ t.get .DEBUG_EFFECTIVE 0 = (t.debugLevel : Int) ∧ t.answer =
    ⟨.ok, .unit⟩ ∧ s.WithinKinds [.DEBUG_EFFECTIVE, .DEBUG_HALTED, .LOCK_n, .MBX_ACK_TX, .MBX_OWNER, .MBX_SERVICE,
    .MBX_STATE, .SEC_CAUSE, .SEC_STATE, .SESSIONS_OPEN] [.engine, .sec] t) ∧
  (∀ (w : Who) (s : State), s.Open w .service .SEC_CLOSE → s.get .SEC_STATE 0 = 0 → noKey (s.getBytes .ROLE_KEY_r 2)
    = true → ∃ t, exec (.secClose w) s = .next t ∧ t.get .SEC_STATE 0 = 0 ∧ bit (t.get .SEC_CAUSE 0) 4 = true ∧
    t.answer = ⟨.refused, .unit⟩ ∧ s.Within [(.SEC_CAUSE, 0)] [] t) ∧
  (∀ (w : Who) (s : State), s.Open w .service .SEC_CLOSE → s.get .SEC_STATE 0 ≠ 0 → ∃ t, exec (.secClose w) s = .next
    t ∧ t.answer = ⟨.refused, .unit⟩ ∧ s.Within [] [] t) ∧
  (∀ (w : Who) (s : State), s.Open w .engineer .SEC_RECLOSE → s.reopened = true → ∃ t, exec (.secReclose w) s = .next
    t ∧ t.get .SEC_STATE 0 = 1 ∧ t.sec.granted = 0 ∧ t.sec.reopenEnd = 0 ∧ ((∀ n < 16, (t.session n).open_ = false))
    ∧ bit (t.get .SEC_CAUSE 0) 0 = true ∧ t.get .DEBUG_EFFECTIVE 0 = (t.debugLevel : Int) ∧ t.answer = ⟨.ok, .unit⟩ ∧
    s.WithinKinds [.DEBUG_EFFECTIVE, .DEBUG_HALTED, .LOCK_n, .MBX_ACK_TX, .MBX_OWNER, .MBX_SERVICE, .MBX_STATE,
    .SEC_CAUSE, .SEC_STATE, .SESSIONS_OPEN] [.engine, .sec] t) ∧
  (∀ (w : Who) (s : State), s.Open w .engineer .SEC_RECLOSE → s.reopened = false → ∃ t, exec (.secReclose w) s =
    .next t ∧ t.answer = ⟨.refused, .unit⟩ ∧ s.Within [] [] t) ∧
  (∀ (w : Who) (v : Nat) (s : State), s.Open w .service .SEC_REVOKE → v = 0xA5A50F0F → ∃ t, exec (.secRevoke w v) s =
    .next t ∧ t.get .SEC_STATE 0 = 4 ∧ t.sec.password = [] ∧ t.getBytes .ROLE_KEY_r 2 = List.replicate 64 0 ∧
    t.answer = ⟨.ok, .unit⟩) ∧
  (∀ (w : Who) (v : Nat) (s : State), s.Open w .service .SEC_REVOKE → v ≠ 0xA5A50F0F → ∃ t, exec (.secRevoke w v) s =
    .next t ∧ t.answer = ⟨.refused, .unit⟩ ∧ t.get .SEC_STATE 0 = s.get .SEC_STATE 0 ∧ s.Within [] [] t) ∧
  (∀ (w : Who) (k : Nat) (s : State), s.Open w .service .FW_KEY_REVOKE → k < 4 → imageKeySlot (s.image (s.get
    .FW_RUNNING 0).toNat) ≠ k → (List.range 4).filter (fun j => !bit (s.get .FW_KEY_REVOKED 0) j) ≠ [k] → ∃ t, exec
    (.fwKeyRevoke w k) s = .next t ∧ t.get .FW_KEY_REVOKED 0 = withBit (s.get .FW_KEY_REVOKED 0) k ∧ t.answer =
    ⟨.ok, .unit⟩ ∧ s.Within [(.FW_KEY_REVOKED, 0)] [] t) ∧
  (∀ (w : Who) (pw : List Byte) (s : State), s.Open w .engineer .REOPEN_PASSWORD → s.reopenable = true → 8 ≤
    pw.length → pw.length ≤ 32 → s.get .PASSWORD_LOCKED_UNTIL 0 ≤ s.time.kt → s.get .PASSWORD_FAILS 0 < 4 → ∃ t, exec
    (.reopenPassword w pw) s = .next t ∧ ((s.passwordMatches pw = true → t.get .SEC_STATE 0 = 2 ∧ t.get
    .PASSWORD_FAILS 0 = 0 ∧ t.sec.granted = 0 ∧ t.sec.reopenEnd = s.time.kt + (s.get .REOPEN_TERM 0).toNat ∧ t.answer
    = ⟨.ok, .unit⟩)) ∧ ((s.passwordMatches pw = false → t.get .SEC_STATE 0 = s.get .SEC_STATE 0 ∧ t.get
    .PASSWORD_FAILS 0 = s.get .PASSWORD_FAILS 0 + 1 ∧ t.get .PASSWORD_LOCKED_UNTIL 0 = s.get .PASSWORD_LOCKED_UNTIL 0
    ∧ bit (t.get .SEC_CAUSE 0) 2 = true ∧ t.answer = ⟨.refused, .unit⟩)) ∧ s.WithinKinds [.DEBUG_EFFECTIVE,
    .DEBUG_HALTED, .LOCK_n, .MBX_ACK_TX, .MBX_OWNER, .MBX_SERVICE, .MBX_STATE, .PASSWORD_FAILS,
    .PASSWORD_LOCKED_UNTIL, .SEC_CAUSE, .SEC_STATE, .SESSIONS_OPEN] [.engine, .sec] t) ∧
  (∀ (w : Who) (pw : List Byte) (s : State), s.Open w .engineer .REOPEN_PASSWORD → s.reopenable = true → 8 ≤
    pw.length → pw.length ≤ 32 → s.get .PASSWORD_LOCKED_UNTIL 0 ≤ s.time.kt → 4 ≤ s.get .PASSWORD_FAILS 0 → s.get
    .PASSWORD_FAILS 0 < 4294967295 → s.passwordMatches pw = false → ∃ t, exec (.reopenPassword w pw) s = .next t ∧
    t.get .PASSWORD_FAILS 0 = s.get .PASSWORD_FAILS 0 + 1 ∧ t.get .PASSWORD_LOCKED_UNTIL 0 = (s.time.kt + min (2 ^
    (s.get .PASSWORD_FAILS 0 + 1 - 5).toNat) 1024 * 1966080 : Nat) ∧ bit (t.get .SEC_CAUSE 0) 2 = true ∧ bit (t.get
    .SEC_CAUSE 0) 3 = true ∧ t.answer = ⟨.refused, .unit⟩ ∧ s.Within [(.PASSWORD_FAILS, 0), (.PASSWORD_LOCKED_UNTIL,
    0), (.SEC_CAUSE, 0)] [] t) ∧
  (∀ (w : Who) (pw : List Byte) (s : State), s.Open w .engineer .REOPEN_PASSWORD → s.reopenable = true → 8 ≤
    pw.length → pw.length ≤ 32 → s.time.kt < s.get .PASSWORD_LOCKED_UNTIL 0 → ∃ t, exec (.reopenPassword w pw) s =
    .next t ∧ t.answer = ⟨.refused, .unit⟩ ∧ s.Within [] [] t) ∧
  (∀ (w : Who) (pw : List Byte) (s : State), s.Open w .engineer .REOPEN_PASSWORD → s.reopenable = true → pw.length <
    8 ∨ 32 < pw.length → ∃ t, exec (.reopenPassword w pw) s = .next t ∧ t.answer = ⟨.badLength, .unit⟩ ∧ s.Within []
    [] t) ∧
  (∀ (w : Who) (c : List Byte) (s : State), s.served = true → Obj.REOPEN_CHALLENGE.info.role.rank ≤ w.role.rank →
    s.barred w .REOPEN_CHALLENGE false = none → s.reopenable = true → c = (Config.freeBytes s.draws 32 ++
    List.replicate 32 0).take 32 ++ (Config.sha256 (s.getBytes .DEVICE_PUB 0)).take 16 → ∃ t, exec (.reopenChallenge
    w) s = .next t ∧ t.answer = ⟨.ok, .bytes c⟩ ∧ t.sec = { s.sec with challenge := some (c, s.time.kt) } ∧ t.draws =
    s.draws + 1 ∧ s.Within [] [.sec, .draws] t) ∧
  (∀ (w : Who) (r : List Byte) (s : State), s.Open w .observer .REOPEN_RESPONSE → s.reopenable = true → r.length = 65
    → ∃ t, exec (.reopenResponse w r) s = .next t ∧ ((s.responseValid r = true → t.get .SEC_STATE 0 = 3 ∧
    t.sec.granted = leNat (r.take 1) ∧ t.sec.reopenEnd = s.time.kt + (s.get .REOPEN_TERM 0).toNat ∧ t.sec.challenge =
    none ∧ t.answer = ⟨.ok, .unit⟩)) ∧ ((s.responseValid r = false → t.get .SEC_STATE 0 = s.get .SEC_STATE 0 ∧ t.sec
    = s.sec ∧ bit (t.get .SEC_CAUSE 0) 4 = true ∧ t.answer = ⟨.refused, .unit⟩)) ∧ s.WithinKinds [.DEBUG_EFFECTIVE,
    .DEBUG_HALTED, .LOCK_n, .MBX_ACK_TX, .MBX_OWNER, .MBX_SERVICE, .MBX_STATE, .SEC_CAUSE, .SEC_STATE,
    .SESSIONS_OPEN] [.engine, .sec] t) ∧
  (∀ (w : Who) (r : List Byte) (s : State), s.Open w .observer .REOPEN_RESPONSE → s.reopenable = true → r.length ≠ 65
    → ∃ t, exec (.reopenResponse w r) s = .next t ∧ t.answer = ⟨.badLength, .unit⟩ ∧ s.Within [] [] t) ∧
  (∀ (s : State), s.reopened = true → s.sec.reopenEnd < s.time.kt → ∃ t, exec (.reopenExpired) s = .next t ∧ t.get
    .SEC_STATE 0 = 1 ∧ t.sec.granted = 0 ∧ t.sec.reopenEnd = 0 ∧ ((∀ n < 16, (t.session n).open_ = false)) ∧ bit
    (t.get .SEC_CAUSE 0) 5 = true ∧ bit (t.get .SEC_CAUSE 0) 0 = true ∧ s.WithinKinds [.DEBUG_EFFECTIVE,
    .DEBUG_HALTED, .LOCK_n, .MBX_ACK_TX, .MBX_OWNER, .MBX_SERVICE, .MBX_STATE, .SEC_CAUSE, .SEC_STATE,
    .SESSIONS_OPEN] [.engine, .sec] t) ∧
  (∀ (s : State), s.reopened = false ∨ s.time.kt ≤ s.sec.reopenEnd → ∃ t, exec (.reopenExpired) s = .next t ∧
    s.Within [] [] t) ∧
  (∀ (w : Who) (pw : List Byte) (s : State), s.Open w .service .PASSWORD_SET → s.get .SEC_STATE 0 = 0 → 8 ≤ pw.length
    → pw.length ≤ 32 → ∃ t, exec (.passwordSet w pw) s = .next t ∧ t.sec =
    { s.sec with password := (Config.freeBytes s.draws 16 ++ List.replicate 16 0).take 16 ++ Config.sha256 ((Config.freeBytes s.draws 16 ++ List.replicate 16 0).take 16 ++ pw) }
    ∧ t.draws = s.draws + 1 ∧ t.answer = ⟨.ok, .unit⟩ ∧ s.Within [] [.sec, .draws] t)

/-- R543, R545, R546, R548, R550: the firmware update, the trial of an image, and the debug port. -/
def Obligations.FirmwareAndDebug : Prop :=
  (∀ (w : Who) (d : List Byte) (s : State), s.Open w .engineer .FW_STAGE → 4 ≤ d.length → (d.drop 4).length ≤ 61440 →
    leNat (d.take 4) + (d.drop 4).length ≤ 2097152 → s.updateRefused = false → ∃ t, exec (.fwStage w d) s = .next t ∧
    t.sec.trial ≠ some (s.get .FW_STAGE_SLOT 0).toNat ∧ t.get .BOOT_NEXT 0 = (if s.sec.trial = some (s.get
    .FW_STAGE_SLOT 0).toNat then s.get .FW_RUNNING 0 else s.get .BOOT_NEXT 0) ∧ t.image (s.get .FW_STAGE_SLOT
    0).toNat = overwrite (s.image (s.get .FW_STAGE_SLOT 0).toNat) (leNat (d.take 4)) (d.drop 4) ∧ t.get .FW_STATE 0 =
    1 ∧ t.answer = ⟨.ok, .unit⟩ ∧ s.Within [(.FW_STATE, 0), (.BOOT_NEXT, 0), (.FW_VERSION_A, 0), (.FW_VERSION_B, 0)]
    [.sec] t) ∧
  (∀ (w : Who) (s : State), s.Open w .engineer .FW_VERIFY → s.updateRefused = false → ∃ t, exec (.fwVerify w) s =
    .next t ∧ t.get .FW_STATE 0 = (if s.imageValid (s.get .FW_STAGE_SLOT 0).toNat then 2 else 3) ∧ t.answer =
    ⟨.ok, .unit⟩ ∧ s.Within [(.FW_STATE, 0), (.FW_VERSION_A, 0), (.FW_VERSION_B, 0), (.SEC_CAUSE, 0)] [] t) ∧
  (∀ (w : Who) (s : State), s.Open w .engineer .FW_ACTIVATE → s.updateRefused = false → s.get .FW_STATE 0 = 2 → ∃ t,
    exec (.fwActivateNextStart w) s = .next t ∧ t.get .BOOT_NEXT 0 = (s.get .FW_STAGE_SLOT 0).toNat ∧ t.sec =
    { s.sec with trial := some (s.get .FW_STAGE_SLOT 0).toNat } ∧ t.answer = ⟨.ok, .unit⟩ ∧ s.Within [(.BOOT_NEXT,
    0)] [.sec] t) ∧
  (∀ (w : Who) (s : State), s.Open w .engineer .FW_ACTIVATE → s.updateRefused = false → s.get .FW_STATE 0 = 2 →
    s.running = false → s.get .TWIN_STATE 0 ≠ 5 → s.boot.rstLow = false → ∃ t, exec (.fwActivateNow w) s = .next t ∧
    t.get .BOOT_NEXT 0 = (s.get .FW_STAGE_SLOT 0).toNat ∧ t.sec.trial = some (s.get .FW_STAGE_SLOT 0).toNat ∧
    t.sec.images = s.sec.images ∧ t.answer = ⟨.ok, .unit⟩ ∧ t.get .START_STATE 0 = 1 ∧ t.get .RESET_CAUSE 0 = 4 ∧
    t.boot.cause = 4 ∧ t.boot.at_ = s.time.cycle ∧ t.get .FRAME_STATE 0 = 0 ∧ t.frame = {} ∧ t.engine =
    { saved := s.engine.saved } ∧ t.sec.password = s.sec.password ∧ t.queues = [] ∧ t.time.cycle = s.time.cycle ∧
    t.time.kt = s.time.kt) ∧
  (∀ (w : Who) (s : State), s.Open w .engineer .FW_ACTIVATE → s.running = true ∨ s.get .TWIN_STATE 0 = 5 ∨ s.get
    .FW_STATE 0 ≠ 2 → ∃ t, exec (.fwActivateNow w) s = .next t ∧ t.answer = ⟨.refused, .unit⟩ ∧ s.Within [] [] t) ∧
  (∀ (w : Who) (s : State), s.Open w .engineer .FW_CONFIRM → s.get .FW_STATE 0 = 4 → ∃ t, exec (.fwConfirm w) s =
    .next t ∧ t.get .FW_STATE 0 = 5 ∧ t.get .BOOT_NEXT 0 = (s.get .FW_RUNNING 0).toNat ∧ t.answer = ⟨.ok, .unit⟩ ∧
    s.Within [(.FW_STATE, 0), (.BOOT_NEXT, 0), (.ROLLBACK_MIN, 0), (.FW_VERSION_A, 0), (.FW_VERSION_B, 0)] [] t) ∧
  (∀ (s : State), s.get .FW_STATE 0 = 4 → ((s.sec.trialAt : Int) + s.get .FW_TRIAL_TIME 0 < s.time.kt) →
    s.boot.rstLow = false → ∃ t, exec (.fwTrialExpiry) s = .next t ∧ bit t.boot.sec 8 = true ∧ t.get .BOOT_NEXT 0 =
    s.get .BOOT_NEXT 0 ∧ t.get .START_STATE 0 = 1 ∧ t.get .RESET_CAUSE 0 = 4 ∧ t.boot.cause = 4 ∧ t.boot.at_ =
    s.time.cycle ∧ t.get .FRAME_STATE 0 = 0 ∧ t.frame = {} ∧ t.engine = { saved := s.engine.saved } ∧ t.sec.password
    = s.sec.password ∧ t.queues = [] ∧ t.time.cycle = s.time.cycle ∧ t.time.kt = s.time.kt ∧ t.journal.slots =
    s.journal.slots) ∧
  (∀ (s : State), (s.get .FW_STATE 0 ≠ 4 ∨ (s.time.kt : Int) ≤ (s.sec.trialAt : Int) + s.get .FW_TRIAL_TIME 0) → ∃ t,
    exec (.fwTrialExpiry) s = .next t ∧ s.Within [] [] t) ∧
  (∀ (w : Who) (v : Nat) (s : State), s.Open w .service .DEBUG_SET → v ≤ 2 → ∃ t, exec (.debugSet w v) s = .next t ∧
    t.sec.asked = v ∧ t.get .DEBUG_EFFECTIVE 0 = (min v t.debugAllowed : Nat) ∧ ((min v t.debugAllowed < 2 → t.get
    .DEBUG_HALTED 0 = 0)) ∧ t.answer = ⟨.ok, .unit⟩ ∧ s.WithinKinds [.DEBUG_EFFECTIVE, .DEBUG_HALTED, .SEC_CAUSE]
    [.sec] t) ∧
  (∀ (w : Who) (v : Nat) (s : State), s.Open w .service .DEBUG_SET → 2 < v → ∃ t, exec (.debugSet w v) s = .next t ∧
    t.answer = ⟨.outOfRange, .unit⟩ ∧ t.sec = s.sec ∧ s.Within [] [] t) ∧
  (∀ (i : Tap) (s : State), s.power.off = false → i ≠ .reset → s.tapAllows i = true → ∃ t, exec (.tapInstruction i) s
    = .next t ∧ t.sec = { s.sec with tap := i } ∧ s.Within [] [.sec] t) ∧
  (∀ (i : Tap) (s : State), s.power.off = false → i ≠ .reset → s.tapAllows i = false → s.sec.tapRefused = false → ∃
    t, exec (.tapInstruction i) s = .next t ∧ t.sec = { s.sec with tap := .bypass, tapRefused := true } ∧ s.Within
    [(.SEC_CAUSE, 0)] [.sec] t) ∧
  (∀ (core : Fin 2) (s : State), s.debugHas = true → s.get .DEBUG_HALTED 0 = 0 → s.get .PWR_STATE 0 ≠ 1 → ∃ t, exec
    (.debugHalt core) s = .next t ∧ t.get .DEBUG_HALTED 0 = withBit 0 core ∧ ((∀ k < 8, s.get .MBX_STATE k ≠ 0 →
    Config.mailService (s.get .MBX_SERVICE k).toNat = some core.val → t.get .MBX_STATE k = 0)) ∧ ((∀ n < 32, t.get
    .LOCK_n n ≠ (if core.val = 0 then 0x10 else 0x20))) ∧ s.WithinKinds [.DEBUG_HALTED, .LOCK_n, .MBX_ACK_TX,
    .MBX_OWNER, .MBX_SERVICE, .MBX_STATE] [] t) ∧
  (∀ (core : Fin 2) (s : State), s.debugHas = false ∨ bit (s.get .DEBUG_HALTED 0) core = true → ∃ t, exec (.debugHalt
    core) s = .next t ∧ s.Within [] [] t) ∧
  (∀ (core : Fin 2) (s : State), s.debugHas = true → ∃ t, exec (.debugResume core) s = .next t ∧ t.get .DEBUG_HALTED
    0 = withoutBits (s.get .DEBUG_HALTED 0) (2 ^ core.val : Nat) ∧ s.Within [(.DEBUG_HALTED, 0)] [] t)

/-- R550, R551: the requests of PWR_REQUEST. -/
def Obligations.PowerRequests : Prop :=
  (∀ (w : Who) (s : State), s.Open w .engineer .PWR_REQUEST → s.get .PWR_STATE 0 = 1 ∨ s.get .PWR_STATE 0 = 2 → ∃ t,
    exec (.pwrRequestRun w) s = .next t ∧ t.get .PWR_STATE 0 = 0 ∧ t.get .PWR_CHANGED 0 = s.vtNow ∧ t.get .CAVE_STATE
    0 = (if s.get .CAVE_STATE 0 = 3 then 2 else s.get .CAVE_STATE 0) ∧ t.power.caveIdleAt = none ∧ t.power.stoppedAt
    = s.time.cycle ∧ bit (t.get .PW_CAUSE 0) 0 = true ∧ t.answer = ⟨.ok, .unit⟩ ∧ s.WithinKinds [.AUTH_FAILS,
    .CAVE_STATE, .DATA_DIR, .DEBUG_EFFECTIVE, .DEBUG_HALTED, .DELAY_STATE, .FAILED_LINKS, .FAILURES,
    .FENCE_SUPPRESSED, .HOLDOVER_TIME, .JRN_MIRROR_STATE, .LANE_STATE, .LINK_CHANGED, .LINK_DELAY_PREV,
    .LINK_FAIL_CAUSE, .LINK_STATE, .LN_CAUSE, .MESSAGES, .PAUSES_SENT, .PORT_CHANGED, .PORT_LANES, .PORT_STATE,
    .PT_STATE, .PWR_CHANGED, .PWR_STATE, .PW_CAUSE, .RL_CAUSE, .RX_ADAPT_STATE, .SEC_CAUSE, .SEQ_REJECTS,
    .SESSIONS_OPEN, .TIMING_LANE, .TRANSIT_DROPS, .TRANSIT_HIGH, .VT_STATE] [.time, .engine, .serLanes, .ringTime,
    .sec, .power, .out] t) ∧
  (∀ (w : Who) (s : State), s.Open w .engineer .PWR_REQUEST → s.get .PWR_STATE 0 = 0 ∨ s.get .PWR_STATE 0 = 3 → ∃ t,
    exec (.pwrRequestRun w) s = .next t ∧ t.power = s.power ∧ t.answer = ⟨.ok, .unit⟩ ∧ s.Within [] [] t) ∧
  (∀ (w : Who) (s : State), s.Open w .engineer .PWR_REQUEST → s.get .PWR_STATE 0 = 0 → s.get .PWR_DIM_ENABLE 0 = 1 →
    s.running = true → s.get .DEBUG_HALTED 0 = 0 → ∃ t, exec (.pwrRequestDim w) s = .next t ∧ t.get .PWR_STATE 0 = 1
    ∧ t.get .CAVE_STATE 0 = (if s.get .CAVE_STATE 0 = 2 then 3 else s.get .CAVE_STATE 0) ∧ t.answer = ⟨.ok, .unit⟩) ∧
  (∀ (w : Who) (s : State), s.Open w .engineer .PWR_REQUEST → s.get .PWR_STATE 0 ≠ 1 → s.running = false → ∃ t, exec
    (.pwrRequestDim w) s = .next t ∧ t.answer = ⟨.refused, .unit⟩ ∧ s.Within [(.PW_CAUSE, 0)] [] t) ∧
  (∀ (w : Who) (s : State), s.Open w .engineer .PWR_REQUEST → s.get .PWR_STATE 0 = 0 → s.get .FRAME_STATE 0 = 0 →
    s.wokeNow = false → ∃ t, exec (.pwrRequestVigil w) s = .next t ∧ t.get .PWR_STATE 0 = 2 ∧ t.get .PWR_CHANGED 0 =
    s.vtNow ∧ t.get .CAVE_STATE 0 = (if s.get .CAVE_STATE 0 = 2 then 3 else s.get .CAVE_STATE 0) ∧ bit (t.get
    .PW_CAUSE 0) 0 = true ∧ ((s.portUp 0 = true → s.get .PWR_VIGIL_PORTS 0 ≠ 0 → (t.link 0).request = (s.get
    .PWR_VIGIL_PORTS 0).toNat)) ∧ t.answer = ⟨.ok, .unit⟩ ∧ s.WithinKinds [.AUTH_FAILS, .CAVE_STATE,
    .DEBUG_EFFECTIVE, .DEBUG_HALTED, .JRN_MIRROR_STATE, .MESSAGES, .PWR_CHANGED, .PWR_STATE, .PW_CAUSE, .SEC_CAUSE,
    .SEQ_REJECTS, .SESSIONS_OPEN] [.engine, .cave, .regions, .sec, .out] t) ∧
  (∀ (w : Who) (s : State), s.Open w .engineer .PWR_REQUEST → s.get .PWR_STATE 0 ≠ 2 → s.get .PWR_STATE 0 ≠ 0 ∨ s.get
    .FRAME_STATE 0 ≠ 0 ∨ s.wokeNow = true → ∃ t, exec (.pwrRequestVigil w) s = .next t ∧ t.get .PWR_STATE 0 = s.get
    .PWR_STATE 0 ∧ bit (t.get .PW_CAUSE 0) 1 = true ∧ t.answer = ⟨.refused, .unit⟩ ∧ s.Within [(.PW_CAUSE, 0)] [] t) ∧
  (∀ (w : Who) (s : State), s.Open w .engineer .PWR_REQUEST → s.unackedBytes = 0 → s.wokeNow = false → s.get
    .TWIN_ENABLE 0 = 0 → ∃ t, exec (.pwrRequestOff w) s = .next t ∧ t.get .PWR_STATE 0 = 3 ∧ t.running = false ∧
    t.power.leaving = false ∧ ((t.get .ST_SEAL_PROFILE 0 ≠ 0 → t.get .ST_STATE 0 = 1 ∧ t.get .ST_ORIGIN 0 = 1)) ∧
    t.answer = ⟨.ok, .unit⟩ ∧ s.WithinKinds [.ABORT_LIMIT, .ALIGN, .ARMED_DIGEST, .ARMED_INDEX, .AUTH_FAILS,
    .AVG_MIN_USED, .AVG_N, .AVG_SHORT, .BANK_CAUSE, .BANK_ENABLE, .BCAST_IN, .BCAST_OUT, .BITS_IN, .BITS_OUT,
    .BLOCKS, .BLOCKS_VERBATIM, .BUFFER_HIGH, .CAL_STATE, .CAP_COUNT, .CAP_FIRST, .CAP_HEADER, .CAP_HELD, .CAP_HIST,
    .CAP_KEEP, .CAP_MODE, .CAP_PMAP, .CAP_POST, .CAP_PRE, .CAP_QUEUE, .CAP_REGION, .CAP_STAT_INPUT, .CAVE_STATE,
    .CH_EXC, .CH_MODE, .CH_PRESENCE, .CH_RANGE, .CH_WIRE_FAULT, .CJC_ENTRY, .CLAIM_AT, .CLK_REF_ACTIVE, .COEF_ACTIVE,
    .COEF_FADE, .COEF_IN_USE, .COEF_LABEL, .COEF_PENDING, .COEF_STATE, .COEF_p, .COMMIT_COUNT, .COMMIT_PARTS_REFUSED,
    .COMP_LINK_STATE, .DATA_DIR, .DCB_AUTO_FREEZE, .DCB_ENABLE, .DCB_ESTIMATE_i, .DCB_SHIFT_i, .DEBUG_EFFECTIVE,
    .DEBUG_HALTED, .DELAY_STATE, .DRAINS_ABANDONED, .DROPS, .EXC_SETTLE, .FAILED_LINKS, .FAILURES, .FENCED,
    .FENCED_DROPS, .FENCE_ENTRIES, .FENCE_LAST, .FENCE_SUPPRESSED, .FI_CAUSE, .FRAME_BAD_STEP, .FRAME_END_STEP,
    .FRAME_STATE, .FRAME_STEP_n, .GROUP_DELAY, .HB_PERIOD, .HB_TIMEOUT, .HISTORY_GAP, .HIST_BASE, .HIST_BINS,
    .HIST_CLOSES, .HIST_EMIT, .HIST_ENABLE, .HIST_EXCLUDED, .HIST_FROM, .HIST_OVER, .HIST_SHIFT, .HIST_SOURCE,
    .HIST_STATE, .HIST_TO, .HIST_UNDER, .HIST_WINDOW, .HOLDOVER_TIME, .HYST, .INJECTED, .INJ_REFUSED,
    .JRN_MIRROR_STATE, .LANE_CAUSE, .LANE_STATE, .LANE_TRIM, .LAST_COMMIT_INDEX, .LAYOUT_BAD, .LEASE_TERM, .LEVEL_A,
    .LEVEL_B, .LINK_CHANGED, .LINK_DELAY_PREV, .LINK_FAIL_CAUSE, .LINK_STATE, .LIN_GAIN, .LIN_OFFSET, .LN_CAUSE,
    .LOCK_n, .LOOP_SETTLE, .LOSS_SEQ, .LOST_DISCARD, .LOST_FENCE, .LOST_PRESS, .LOST_RECLAIMED, .LOST_UNREADABLE,
    .LOST_WITHDRAWN, .LOST_i, .MARK_INDEX, .MARK_OVERTAKEN, .MARK_STATE, .MAX_FILL, .MESSAGES, .MODCLK_STATE,
    .NOTCH_MODE, .OLDEST_INDEX, .OUT_SEL_i, .PASS_COUNT, .PASS_GRID, .PAUSES_SENT, .PMAP_CAPTURES, .PMAP_MAX,
    .PMAP_PENDING, .PMAP_STATE, .PORT_CHANGED, .PORT_LANES, .PORT_STATE, .PRESET_i, .PRESS_BAD_FIELD, .PRESS_CAUSE,
    .PRIME_END, .PT_STATE, .PWR_CHANGED, .PWR_STATE, .PW_CAUSE, .PW_QUAL, .QC_CAUSE, .QUEUE_SEQ, .REARM_SAMPLES,
    .REDUCED_DROPPED, .REDUCED_QUEUE, .REPAIR_ENTRY_n, .REPLAY_SKIPPED_TICKS, .REPLAY_STATE, .RIPEN_FLOOR_i,
    .RL_CAUSE, .RX_ADAPT_STATE, .SCAN_BAD_ENTRY, .SCAN_ENTRY, .SCAN_ENTRY_n, .SCAN_EXECUTION, .SCAN_LENGTH,
    .SCAN_PASS, .SCAN_PASS_TICKS, .SCAN_START, .SCAN_STATE, .SEC_CAUSE, .SEQ_BAD_ENTRY, .SEQ_ENTRY_n, .SEQ_LENGTH,
    .SEQ_REJECTS, .SESSIONS_OPEN, .SHADOW_LAST, .SHADOW_SKIPS, .SIMUL_MASK, .SLEW_LIMIT, .SPARE_CHANNEL,
    .SPARE_DELAY, .SPARE_MIB, .SPARE_STATE, .STAGED_DEFAULTS, .STALE_TICKS, .START_DONE_INDEX, .START_QUALIFIED,
    .START_REFUSAL, .START_STATE, .STAT_N, .STAT_QUEUE, .STREAM_DROPPED, .STREAM_QUEUE, .ST_CAUSE, .ST_ITEM,
    .ST_LAST_KT, .ST_ORIGIN, .ST_RESULT_i, .ST_SAVE_PENDING, .ST_SEALED, .ST_SEAL_KT, .ST_STATE, .SWAP_COUNT,
    .SWITCH_COUNT, .SWITCH_INDEX, .TIME_A, .TIME_B, .TIMING_LANE, .TRANSIT_DROPS, .TRANSIT_HIGH, .TRIER_CAD,
    .TRIER_CAUSE, .TRIER_MODE, .TRIER_QUEUE, .TRIER_STATE, .TRIG_COND, .TRIG_DELAY, .TRIG_EDGE, .TRIG_SOURCE,
    .TWIN_CAUSE, .TWIN_STATE, .UNIT_BAD_FIELD, .UNIT_CAUSE, .UNIT_STATE, .VERIFY_FAILS, .VERIFY_LIMIT, .VT_STATE,
    .WINDOW_n, .WITNESS_ADDR, .WITNESS_RENEW, .WRITE_BYTES] [.blob, .time, .frame, .chans, .banks, .scans, .triers,
    .lanes, .fences, .engine, .serLanes, .ringTime, .excCal, .queues, .cave, .units, .regions, .bcasts, .press,
    .trierOut, .sec, .power, .test, .vat, .draws, .out] t) ∧
  (∀ (w : Who) (s : State), s.Open w .engineer .PWR_REQUEST → s.unackedBytes = 0 → s.wokeNow = false → s.get
    .TWIN_ENABLE 0 = 1 → s.get .TWIN_STATE 0 = 5 → s.mayHandOver = true → ∃ t, exec (.pwrRequestOff w) s = .next t ∧
    t.power.leaving = true ∧ t.twin.giving = some (s.nextInstant + 256) ∧ t.get .PWR_STATE 0 = s.get .PWR_STATE 0 ∧
    t.answer = ⟨.ok, .unit⟩ ∧ s.Within [] [.power] t) ∧
  (∀ (w : Who) (s : State), s.Open w .engineer .PWR_REQUEST → s.unackedBytes ≠ 0 → ∃ t, exec (.pwrRequestOff w) s =
    .next t ∧ bit (t.get .PW_CAUSE 0) 1 = true ∧ t.answer = ⟨.refused, .unit⟩ ∧ s.Within [(.PW_CAUSE, 0)] [] t) ∧
  (∀ (w : Who) (s : State), s.Open w .engineer .PWR_REQUEST → w.role = .service → s.wokeNow = false → s.get
    .TWIN_ENABLE 0 = 0 → ∃ t, exec (.pwrRequestOffDataLoss w) s = .next t ∧ t.get .PWR_STATE 0 = 3 ∧ t.running =
    false ∧ t.power.leaving = false ∧ ((t.get .ST_SEAL_PROFILE 0 ≠ 0 → t.get .ST_STATE 0 = 1 ∧ t.get .ST_ORIGIN 0 =
    1)) ∧ t.answer = ⟨.ok, .unit⟩ ∧ s.WithinKinds [.ABORT_LIMIT, .ALIGN, .ARMED_DIGEST, .ARMED_INDEX, .AUTH_FAILS,
    .AVG_MIN_USED, .AVG_N, .AVG_SHORT, .BANK_CAUSE, .BANK_ENABLE, .BCAST_IN, .BCAST_OUT, .BITS_IN, .BITS_OUT,
    .BLOCKS, .BLOCKS_VERBATIM, .BUFFER_HIGH, .CAL_STATE, .CAP_COUNT, .CAP_FIRST, .CAP_HEADER, .CAP_HELD, .CAP_HIST,
    .CAP_KEEP, .CAP_MODE, .CAP_PMAP, .CAP_POST, .CAP_PRE, .CAP_QUEUE, .CAP_REGION, .CAP_STAT_INPUT, .CAVE_STATE,
    .CH_EXC, .CH_MODE, .CH_PRESENCE, .CH_RANGE, .CH_WIRE_FAULT, .CJC_ENTRY, .CLAIM_AT, .CLK_REF_ACTIVE, .COEF_ACTIVE,
    .COEF_FADE, .COEF_IN_USE, .COEF_LABEL, .COEF_PENDING, .COEF_STATE, .COEF_p, .COMMIT_COUNT, .COMMIT_PARTS_REFUSED,
    .COMP_LINK_STATE, .DATA_DIR, .DCB_AUTO_FREEZE, .DCB_ENABLE, .DCB_ESTIMATE_i, .DCB_SHIFT_i, .DEBUG_EFFECTIVE,
    .DEBUG_HALTED, .DELAY_STATE, .DRAINS_ABANDONED, .DROPS, .EXC_SETTLE, .FAILED_LINKS, .FAILURES, .FENCED,
    .FENCED_DROPS, .FENCE_ENTRIES, .FENCE_LAST, .FENCE_SUPPRESSED, .FI_CAUSE, .FRAME_BAD_STEP, .FRAME_END_STEP,
    .FRAME_STATE, .FRAME_STEP_n, .GROUP_DELAY, .HB_PERIOD, .HB_TIMEOUT, .HISTORY_GAP, .HIST_BASE, .HIST_BINS,
    .HIST_CLOSES, .HIST_EMIT, .HIST_ENABLE, .HIST_EXCLUDED, .HIST_FROM, .HIST_OVER, .HIST_SHIFT, .HIST_SOURCE,
    .HIST_STATE, .HIST_TO, .HIST_UNDER, .HIST_WINDOW, .HOLDOVER_TIME, .HYST, .INJECTED, .INJ_REFUSED,
    .JRN_MIRROR_STATE, .LANE_CAUSE, .LANE_STATE, .LANE_TRIM, .LAST_COMMIT_INDEX, .LAYOUT_BAD, .LEASE_TERM, .LEVEL_A,
    .LEVEL_B, .LINK_CHANGED, .LINK_DELAY_PREV, .LINK_FAIL_CAUSE, .LINK_STATE, .LIN_GAIN, .LIN_OFFSET, .LN_CAUSE,
    .LOCK_n, .LOOP_SETTLE, .LOSS_SEQ, .LOST_DISCARD, .LOST_FENCE, .LOST_PRESS, .LOST_RECLAIMED, .LOST_UNREADABLE,
    .LOST_WITHDRAWN, .LOST_i, .MARK_INDEX, .MARK_OVERTAKEN, .MARK_STATE, .MAX_FILL, .MESSAGES, .MODCLK_STATE,
    .NOTCH_MODE, .OLDEST_INDEX, .OUT_SEL_i, .PASS_COUNT, .PASS_GRID, .PAUSES_SENT, .PMAP_CAPTURES, .PMAP_MAX,
    .PMAP_PENDING, .PMAP_STATE, .PORT_CHANGED, .PORT_LANES, .PORT_STATE, .PRESET_i, .PRESS_BAD_FIELD, .PRESS_CAUSE,
    .PRIME_END, .PT_STATE, .PWR_CHANGED, .PWR_STATE, .PW_CAUSE, .PW_QUAL, .QC_CAUSE, .QUEUE_SEQ, .REARM_SAMPLES,
    .REDUCED_DROPPED, .REDUCED_QUEUE, .REPAIR_ENTRY_n, .REPLAY_SKIPPED_TICKS, .REPLAY_STATE, .RIPEN_FLOOR_i,
    .RL_CAUSE, .RX_ADAPT_STATE, .SCAN_BAD_ENTRY, .SCAN_ENTRY, .SCAN_ENTRY_n, .SCAN_EXECUTION, .SCAN_LENGTH,
    .SCAN_PASS, .SCAN_PASS_TICKS, .SCAN_START, .SCAN_STATE, .SEC_CAUSE, .SEQ_BAD_ENTRY, .SEQ_ENTRY_n, .SEQ_LENGTH,
    .SEQ_REJECTS, .SESSIONS_OPEN, .SHADOW_LAST, .SHADOW_SKIPS, .SIMUL_MASK, .SLEW_LIMIT, .SPARE_CHANNEL,
    .SPARE_DELAY, .SPARE_MIB, .SPARE_STATE, .STAGED_DEFAULTS, .STALE_TICKS, .START_DONE_INDEX, .START_QUALIFIED,
    .START_REFUSAL, .START_STATE, .STAT_N, .STAT_QUEUE, .STREAM_DROPPED, .STREAM_QUEUE, .ST_CAUSE, .ST_ITEM,
    .ST_LAST_KT, .ST_ORIGIN, .ST_RESULT_i, .ST_SAVE_PENDING, .ST_SEALED, .ST_SEAL_KT, .ST_STATE, .SWAP_COUNT,
    .SWITCH_COUNT, .SWITCH_INDEX, .TIME_A, .TIME_B, .TIMING_LANE, .TRANSIT_DROPS, .TRANSIT_HIGH, .TRIER_CAD,
    .TRIER_CAUSE, .TRIER_MODE, .TRIER_QUEUE, .TRIER_STATE, .TRIG_COND, .TRIG_DELAY, .TRIG_EDGE, .TRIG_SOURCE,
    .TWIN_CAUSE, .TWIN_STATE, .UNIT_BAD_FIELD, .UNIT_CAUSE, .UNIT_STATE, .VERIFY_FAILS, .VERIFY_LIMIT, .VT_STATE,
    .WINDOW_n, .WITNESS_ADDR, .WITNESS_RENEW, .WRITE_BYTES] [.blob, .time, .frame, .chans, .banks, .scans, .triers,
    .lanes, .fences, .engine, .serLanes, .ringTime, .excCal, .queues, .cave, .units, .regions, .bcasts, .press,
    .trierOut, .sec, .power, .test, .vat, .draws, .out] t) ∧
  (∀ (w : Who) (s : State), s.Open w .engineer .PWR_REQUEST → w.role = .engineer → ∃ t, exec (.pwrRequestOffDataLoss
    w) s = .next t ∧ t.answer = ⟨.role, .unit⟩ ∧ t.power = s.power ∧ s.Within [] [] t)

/-- R548, R550 to R553: what moves the hub between RUN, DIM, VIGIL, SEALING and OFF. -/
def Obligations.PowerHappenings : Prop :=
  (∀ (s : State), s.get .PWR_AUTO_VIGIL 0 = 1 → s.get .PWR_STATE 0 = 0 → s.get .FRAME_STATE 0 = 0 → s.get
    .START_STATE 0 = 6 → s.power.stoppedAt + msCycles (1000 * (s.get .PWR_AUTO_DELAY 0).toNat) < s.keeperSince → ∃ t,
    exec (.pwrAutoDelayExpiry) s = .next t ∧ t.get .PWR_STATE 0 = 2 ∧ t.get .PWR_CHANGED 0 = s.vtNow ∧ bit (t.get
    .PW_CAUSE 0) 0 = true ∧ s.WithinKinds [.AUTH_FAILS, .CAVE_STATE, .DEBUG_EFFECTIVE, .DEBUG_HALTED,
    .JRN_MIRROR_STATE, .MESSAGES, .PWR_CHANGED, .PWR_STATE, .PW_CAUSE, .SEC_CAUSE, .SEQ_REJECTS, .SESSIONS_OPEN]
    [.engine, .cave, .regions, .sec, .out] t) ∧
  (∀ (s : State), s.get .PWR_AUTO_VIGIL 0 = 0 ∨ s.get .FRAME_STATE 0 ≠ 0 → ∃ t, exec (.pwrAutoDelayExpiry) s = .next
    t ∧ s.Within [] [] t) ∧
  (∀ (s : State), s.get .PWR_STATE 0 = 3 → s.get .ST_STATE 0 = 0 → s.power.wake = none → ∃ t, exec (.sealingComplete)
    s = .next t ∧ t.power = { off := true } ∧ t.get .OFF_CAUSE 0 = 1 ∧ t.get .ST_SAVE_PENDING 0 = 65535 ∧ t.cave = {}
    ∧ t.engine = { saved := s.engine.saved } ∧ t.frame = {} ∧ t.get .FRAME_STATE 0 = 0 ∧ t.get .START_STATE 0 = 0 ∧
    t.sec.password = s.sec.password ∧ t.sec.images = s.sec.images ∧ t.queues = [] ∧ t.time.cycle = s.time.cycle ∧
    t.time.kt = s.time.kt ∧ t.journal =
    { slots := s.journal.slots, badSlots := s.journal.badSlots, next := s.journal.next, boot := s.journal.boot }) ∧
  (∀ (c : Nat) (s : State), s.get .PWR_STATE 0 = 3 → s.get .ST_STATE 0 = 0 → s.power.wake = some c → ∃ t, exec
    (.sealingComplete) s = .next t ∧ t.power = { settling := true } ∧ t.boot.cause = c ∧ t.get .OFF_CAUSE 0 = 1 ∧
    t.cave = {} ∧ t.engine = { saved := s.engine.saved } ∧ t.frame = {} ∧ t.get .FRAME_STATE 0 = 0 ∧ t.get
    .START_STATE 0 = 0 ∧ t.sec.password = s.sec.password ∧ t.sec.images = s.sec.images ∧ t.queues = [] ∧ t.time.cycle
    = s.time.cycle ∧ t.time.kt = s.time.kt ∧ t.journal =
    { slots := s.journal.slots, badSlots := s.journal.badSlots, next := s.journal.next, boot := s.journal.boot }) ∧
  (∀ (s : State), s.get .PWR_STATE 0 ≠ 3 ∨ s.get .ST_STATE 0 ≠ 0 → ∃ t, exec (.sealingComplete) s = .next t ∧
    s.Within [] [] t) ∧
  (∀ (s : State), s.power.off = true → bit (s.get .PWR_WAKE_MASK 0) 0 = true → ∃ t, exec (.wakeNWake) s = .next t ∧
    t.power = { settling := true } ∧ t.boot = { s.boot with cause := 2 } ∧ t.test =
    { s.test with lifeAt := s.time.kt - s.test.lifeAt } ∧ s.Within [] [.power, .test] t) ∧
  (∀ (s : State), s.power.off = false → s.get .PWR_STATE 0 = 2 → ∃ t, exec (.wakeNWake) s = .next t ∧ t.get
    .PWR_STATE 0 = 0 ∧ bit (t.get .PW_CAUSE 0) 0 = true ∧ s.WithinKinds [.AUTH_FAILS, .CAVE_STATE, .DATA_DIR,
    .DEBUG_EFFECTIVE, .DEBUG_HALTED, .DELAY_STATE, .FAILED_LINKS, .FAILURES, .FENCE_SUPPRESSED, .HOLDOVER_TIME,
    .JRN_MIRROR_STATE, .LANE_STATE, .LINK_CHANGED, .LINK_DELAY_PREV, .LINK_FAIL_CAUSE, .LINK_STATE, .LN_CAUSE,
    .MESSAGES, .PAUSES_SENT, .PORT_CHANGED, .PORT_LANES, .PORT_STATE, .PT_STATE, .PWR_CHANGED, .PWR_STATE, .PW_CAUSE,
    .RL_CAUSE, .RX_ADAPT_STATE, .SEC_CAUSE, .SEQ_REJECTS, .SESSIONS_OPEN, .TIMING_LANE, .TRANSIT_DROPS,
    .TRANSIT_HIGH, .VT_STATE] [.time, .engine, .serLanes, .ringTime, .sec, .power, .test, .out] t) ∧
  (∀ (s : State), s.get .PWR_WAKE_AT 0 ≠ 0 → ((s.time.kt : Int) = s.get .PWR_WAKE_AT 0) → bit (s.get .PWR_WAKE_MASK
    0) 1 = true → s.power.off = true → ∃ t, exec (.pwrWakeAtAlarm) s = .next t ∧ t.power = { settling := true } ∧
    t.boot = { s.boot with cause := 3 } ∧ t.test = { s.test with lifeAt := s.time.kt - s.test.lifeAt } ∧ s.Within []
    [.power, .test] t) ∧
  (∀ (s : State), s.power.off = false → s.power.settling = false → ∃ t, exec (.supplyTrip) s = .next t ∧ t.power =
    { off := true } ∧ t.get .OFF_CAUSE 0 = 2 ∧ t.get .ST_SAVE_PENDING 0 = 65535 ∧ t.cave = {} ∧ t.engine =
    { saved := s.engine.saved } ∧ t.frame = {} ∧ t.get .FRAME_STATE 0 = 0 ∧ t.get .START_STATE 0 = 0 ∧ t.sec.password
    = s.sec.password ∧ t.sec.images = s.sec.images ∧ t.queues = [] ∧ t.time.cycle = s.time.cycle ∧ t.time.kt =
    s.time.kt ∧ t.journal =
    { slots := s.journal.slots, badSlots := s.journal.badSlots, next := s.journal.next, boot := s.journal.boot }) ∧
  (∀ (s : State), s.power.off = true ∨ s.power.settling = true → ∃ t, exec (.supplyTrip) s = .next t ∧ s.Within [] []
    t) ∧
  (∀ (s : State), s.power.off = false → s.power.settling = false → ∃ t, exec (.thermalTrip) s = .next t ∧ t.power =
    { off := true } ∧ t.get .OFF_CAUSE 0 = 3 ∧ t.get .ST_SAVE_PENDING 0 = 65535 ∧ t.cave = {} ∧ t.engine =
    { saved := s.engine.saved } ∧ t.frame = {} ∧ t.get .FRAME_STATE 0 = 0 ∧ t.get .START_STATE 0 = 0 ∧ t.sec.password
    = s.sec.password ∧ t.sec.images = s.sec.images ∧ t.queues = [] ∧ t.time.cycle = s.time.cycle ∧ t.time.kt =
    s.time.kt ∧ t.journal =
    { slots := s.journal.slots, badSlots := s.journal.badSlots, next := s.journal.next, boot := s.journal.boot }) ∧
  (∀ (s : State), s.power.off = true ∨ s.power.settling = true → ∃ t, exec (.thermalTrip) s = .next t ∧ s.Within []
    [] t) ∧
  (∀ (x : Int) (s : State), s.served = true → x ≤ s.get .PWR_HOT_LIMIT 0 → ∃ t, exec (.dieTempSample x) s = .next t ∧
    t.get .PWR_DIE_TEMP 0 = x ∧ s.Within [(.PWR_DIE_TEMP, 0)] [] t) ∧
  (∀ (x : Int) (s : State), s.served = true → s.get .PWR_HOT_LIMIT 0 < x → s.get .PWR_HOT_ACTION 0 = 1 → s.get
    .PWR_STATE 0 = 0 → ∃ t, exec (.dieTempSample x) s = .next t ∧ t.get .PWR_DIE_TEMP 0 = x ∧ t.get .PWR_STATE 0 = 2
    ∧ t.running = false ∧ bit (t.get .PW_CAUSE 0) 4 = true) ∧
  (∀ (s : State), s.served = true → ∃ t, exec (.corePllUnlock) s = .next t ∧ bit (t.get .PW_CAUSE 0) 3 = true ∧
    s.Within [(.PW_CAUSE, 0)] [] t) ∧
  (∀ (s : State), s.get .PWR_STATE 0 = 1 → s.get .CAVE_STATE 0 = 3 → s.caveNeeded = true → ∃ t, exec (.caveDimWake) s
    = .next t ∧ t.get .CAVE_STATE 0 = 2 ∧ t.power.caveIdleAt = none) ∧
  (∀ (k : Int) (s : State), s.power.caveIdleAt = some k → s.get .PWR_STATE 0 = 1 → s.get .CAVE_STATE 0 = 2 →
    s.caveBusy = false → k + s.get .PWR_DIM_CAVE_HOLD 0 ≤ s.tickKey → ∃ t, exec (.caveDimHoldExpiry) s = .next t ∧
    t.get .CAVE_STATE 0 = 3 ∧ t.power = { s.power with caveIdleAt := none } ∧ s.Within [(.CAVE_STATE, 0)] [.power] t) ∧
  (∀ (s : State), s.power.settling = true → s.boot.rstLow = false → ∃ t, exec (.vddCoreSettled) s = .next t ∧ t.get
    .START_STATE 0 = 1 ∧ t.get .RESET_CAUSE 0 = s.boot.cause ∧ t.power = { s.power with settling := false } ∧ t.boot
    = { s.boot with at_ := s.time.cycle } ∧ s.Within [(.START_STATE, 0), (.RESET_CAUSE, 0)] [.power] t)

/-- R563 to R572: the requests of a run, the end of a step, and the restore of a region. -/
def Obligations.SelfTestRuns : Prop :=
  (∀ (w : Who) (s : State), s.Open w .engineer .ST_RUN → s.get .FRAME_STATE 0 = 0 → s.get .PWR_STATE 0 = 0 ∨ s.get
    .PWR_STATE 0 = 2 → s.get .ST_STATE 0 = 0 → ∃ t, exec (.stRunQuick w) s = .next t ∧ t.test.last = 6 ∧ t.test.stop
    = false ∧ t.get .ST_SEALED 0 = 0 ∧ t.get .ST_ORIGIN 0 = 2 ∧ t.get .ST_STATE 0 = 1 ∧ t.get .ST_ITEM 0 = 0 ∧
    t.test.step = 0 ∧ t.answer = ⟨.ok, .unit⟩ ∧ s.WithinKinds [.ABORT_LIMIT, .ALIGN, .ARMED_DIGEST, .ARMED_INDEX,
    .AUTH_FAILS, .AVG_MIN_USED, .AVG_N, .BANK_CAUSE, .BANK_ENABLE, .BCAST_IN, .BCAST_OUT, .CAL_STATE, .CAP_COUNT,
    .CAP_FIRST, .CAP_HEADER, .CAP_HELD, .CAP_HIST, .CAP_KEEP, .CAP_MODE, .CAP_PMAP, .CAP_POST, .CAP_PRE, .CAP_QUEUE,
    .CAP_REGION, .CAP_STAT_INPUT, .CAVE_STATE, .CH_EXC, .CH_MODE, .CH_PRESENCE, .CH_RANGE, .CH_WIRE_FAULT,
    .CJC_ENTRY, .CLK_REF_ACTIVE, .COEF_ACTIVE, .COEF_FADE, .COEF_IN_USE, .COEF_LABEL, .COEF_PENDING, .COEF_STATE,
    .COEF_p, .COMMIT_COUNT, .COMMIT_PARTS_REFUSED, .COMP_LINK_STATE, .DATA_DIR, .DCB_AUTO_FREEZE, .DCB_ENABLE,
    .DCB_ESTIMATE_i, .DCB_SHIFT_i, .DEBUG_EFFECTIVE, .DEBUG_HALTED, .DELAY_STATE, .DRAINS_ABANDONED, .DROPS,
    .EXC_SETTLE, .FAILED_LINKS, .FAILURES, .FENCE_SUPPRESSED, .FRAME_BAD_STEP, .FRAME_END_STEP, .FRAME_STATE,
    .FRAME_STEP_n, .GROUP_DELAY, .HB_PERIOD, .HB_TIMEOUT, .HISTORY_GAP, .HIST_BASE, .HIST_BINS, .HIST_CLOSES,
    .HIST_EMIT, .HIST_ENABLE, .HIST_EXCLUDED, .HIST_FROM, .HIST_OVER, .HIST_SHIFT, .HIST_SOURCE, .HIST_STATE,
    .HIST_TO, .HIST_UNDER, .HIST_WINDOW, .HOLDOVER_TIME, .HYST, .INJECTED, .INJ_REFUSED, .JRN_MIRROR_STATE,
    .LANE_CAUSE, .LANE_STATE, .LANE_TRIM, .LAST_COMMIT_INDEX, .LAYOUT_BAD, .LEASE_TERM, .LEVEL_A, .LEVEL_B,
    .LINK_CHANGED, .LINK_DELAY_PREV, .LINK_FAIL_CAUSE, .LINK_STATE, .LIN_GAIN, .LIN_OFFSET, .LN_CAUSE, .LOCK_n,
    .LOOP_SETTLE, .MARK_STATE, .MESSAGES, .MODCLK_STATE, .NOTCH_MODE, .OUT_SEL_i, .PASS_COUNT, .PASS_GRID,
    .PAUSES_SENT, .PMAP_CAPTURES, .PMAP_MAX, .PMAP_PENDING, .PMAP_STATE, .PORT_CHANGED, .PORT_LANES, .PORT_STATE,
    .PRESET_i, .PRESS_BAD_FIELD, .PRESS_CAUSE, .PRIME_END, .PT_STATE, .PWR_CHANGED, .PWR_STATE, .PW_CAUSE, .PW_QUAL,
    .QC_CAUSE, .REARM_SAMPLES, .REDUCED_QUEUE, .REPAIR_ENTRY_n, .REPLAY_STATE, .RIPEN_FLOOR_i, .RL_CAUSE,
    .RX_ADAPT_STATE, .SCAN_BAD_ENTRY, .SCAN_ENTRY, .SCAN_ENTRY_n, .SCAN_EXECUTION, .SCAN_LENGTH, .SCAN_PASS,
    .SCAN_PASS_TICKS, .SCAN_START, .SCAN_STATE, .SEC_CAUSE, .SEQ_BAD_ENTRY, .SEQ_ENTRY_n, .SEQ_LENGTH, .SEQ_REJECTS,
    .SESSIONS_OPEN, .SHADOW_LAST, .SHADOW_SKIPS, .SIMUL_MASK, .SLEW_LIMIT, .SPARE_CHANNEL, .SPARE_DELAY, .SPARE_MIB,
    .SPARE_STATE, .STAGED_DEFAULTS, .STALE_TICKS, .START_DONE_INDEX, .START_QUALIFIED, .START_REFUSAL, .START_STATE,
    .STAT_N, .STAT_QUEUE, .STREAM_QUEUE, .ST_CAUSE, .ST_ITEM, .ST_LAST_KT, .ST_ORIGIN, .ST_RESULT_i, .ST_SEALED,
    .ST_SEAL_KT, .ST_STATE, .SWAP_COUNT, .SWITCH_COUNT, .SWITCH_INDEX, .TIME_A, .TIME_B, .TIMING_LANE,
    .TRANSIT_DROPS, .TRANSIT_HIGH, .TRIER_CAD, .TRIER_CAUSE, .TRIER_MODE, .TRIER_QUEUE, .TRIER_STATE, .TRIG_COND,
    .TRIG_DELAY, .TRIG_EDGE, .TRIG_SOURCE, .TWIN_CAUSE, .TWIN_STATE, .UNIT_BAD_FIELD, .UNIT_CAUSE, .UNIT_STATE,
    .VERIFY_LIMIT, .VT_STATE, .WINDOW_n, .WITNESS_ADDR, .WITNESS_RENEW, .WRITE_BYTES] [.blob, .time, .frame, .chans,
    .banks, .scans, .triers, .lanes, .engine, .serLanes, .ringTime, .excCal, .queues, .cave, .units, .regions,
    .bcasts, .press, .sec, .power, .test, .vat, .draws, .out] t) ∧
  (∀ (w : Who) (s : State), s.Open w .engineer .ST_RUN → s.get .FRAME_STATE 0 = 0 → s.get .PWR_STATE 0 = 0 ∨ s.get
    .PWR_STATE 0 = 2 → s.get .ST_STATE 0 = 0 → ∃ t, exec (.stRunFull w) s = .next t ∧ t.test.last = 7 ∧ t.test.stop =
    false ∧ t.get .ST_SEALED 0 = 0 ∧ t.get .ST_ORIGIN 0 = 2 ∧ t.get .ST_STATE 0 = 1 ∧ t.get .ST_ITEM 0 = 0 ∧
    t.test.step = 0 ∧ t.answer = ⟨.ok, .unit⟩ ∧ s.WithinKinds [.ABORT_LIMIT, .ALIGN, .ARMED_DIGEST, .ARMED_INDEX,
    .AUTH_FAILS, .AVG_MIN_USED, .AVG_N, .BANK_CAUSE, .BANK_ENABLE, .BCAST_IN, .BCAST_OUT, .CAL_STATE, .CAP_COUNT,
    .CAP_FIRST, .CAP_HEADER, .CAP_HELD, .CAP_HIST, .CAP_KEEP, .CAP_MODE, .CAP_PMAP, .CAP_POST, .CAP_PRE, .CAP_QUEUE,
    .CAP_REGION, .CAP_STAT_INPUT, .CAVE_STATE, .CH_EXC, .CH_MODE, .CH_PRESENCE, .CH_RANGE, .CH_WIRE_FAULT,
    .CJC_ENTRY, .CLK_REF_ACTIVE, .COEF_ACTIVE, .COEF_FADE, .COEF_IN_USE, .COEF_LABEL, .COEF_PENDING, .COEF_STATE,
    .COEF_p, .COMMIT_COUNT, .COMMIT_PARTS_REFUSED, .COMP_LINK_STATE, .DATA_DIR, .DCB_AUTO_FREEZE, .DCB_ENABLE,
    .DCB_ESTIMATE_i, .DCB_SHIFT_i, .DEBUG_EFFECTIVE, .DEBUG_HALTED, .DELAY_STATE, .DRAINS_ABANDONED, .DROPS,
    .EXC_SETTLE, .FAILED_LINKS, .FAILURES, .FENCE_SUPPRESSED, .FRAME_BAD_STEP, .FRAME_END_STEP, .FRAME_STATE,
    .FRAME_STEP_n, .GROUP_DELAY, .HB_PERIOD, .HB_TIMEOUT, .HISTORY_GAP, .HIST_BASE, .HIST_BINS, .HIST_CLOSES,
    .HIST_EMIT, .HIST_ENABLE, .HIST_EXCLUDED, .HIST_FROM, .HIST_OVER, .HIST_SHIFT, .HIST_SOURCE, .HIST_STATE,
    .HIST_TO, .HIST_UNDER, .HIST_WINDOW, .HOLDOVER_TIME, .HYST, .INJECTED, .INJ_REFUSED, .JRN_MIRROR_STATE,
    .LANE_CAUSE, .LANE_STATE, .LANE_TRIM, .LAST_COMMIT_INDEX, .LAYOUT_BAD, .LEASE_TERM, .LEVEL_A, .LEVEL_B,
    .LINK_CHANGED, .LINK_DELAY_PREV, .LINK_FAIL_CAUSE, .LINK_STATE, .LIN_GAIN, .LIN_OFFSET, .LN_CAUSE, .LOCK_n,
    .LOOP_SETTLE, .MARK_STATE, .MESSAGES, .MODCLK_STATE, .NOTCH_MODE, .OUT_SEL_i, .PASS_COUNT, .PASS_GRID,
    .PAUSES_SENT, .PMAP_CAPTURES, .PMAP_MAX, .PMAP_PENDING, .PMAP_STATE, .PORT_CHANGED, .PORT_LANES, .PORT_STATE,
    .PRESET_i, .PRESS_BAD_FIELD, .PRESS_CAUSE, .PRIME_END, .PT_STATE, .PWR_CHANGED, .PWR_STATE, .PW_CAUSE, .PW_QUAL,
    .QC_CAUSE, .REARM_SAMPLES, .REDUCED_QUEUE, .REPAIR_ENTRY_n, .REPLAY_STATE, .RIPEN_FLOOR_i, .RL_CAUSE,
    .RX_ADAPT_STATE, .SCAN_BAD_ENTRY, .SCAN_ENTRY, .SCAN_ENTRY_n, .SCAN_EXECUTION, .SCAN_LENGTH, .SCAN_PASS,
    .SCAN_PASS_TICKS, .SCAN_START, .SCAN_STATE, .SEC_CAUSE, .SEQ_BAD_ENTRY, .SEQ_ENTRY_n, .SEQ_LENGTH, .SEQ_REJECTS,
    .SESSIONS_OPEN, .SHADOW_LAST, .SHADOW_SKIPS, .SIMUL_MASK, .SLEW_LIMIT, .SPARE_CHANNEL, .SPARE_DELAY, .SPARE_MIB,
    .SPARE_STATE, .STAGED_DEFAULTS, .STALE_TICKS, .START_DONE_INDEX, .START_QUALIFIED, .START_REFUSAL, .START_STATE,
    .STAT_N, .STAT_QUEUE, .STREAM_QUEUE, .ST_CAUSE, .ST_ITEM, .ST_LAST_KT, .ST_ORIGIN, .ST_RESULT_i, .ST_SEALED,
    .ST_SEAL_KT, .ST_STATE, .SWAP_COUNT, .SWITCH_COUNT, .SWITCH_INDEX, .TIME_A, .TIME_B, .TIMING_LANE,
    .TRANSIT_DROPS, .TRANSIT_HIGH, .TRIER_CAD, .TRIER_CAUSE, .TRIER_MODE, .TRIER_QUEUE, .TRIER_STATE, .TRIG_COND,
    .TRIG_DELAY, .TRIG_EDGE, .TRIG_SOURCE, .TWIN_CAUSE, .TWIN_STATE, .UNIT_BAD_FIELD, .UNIT_CAUSE, .UNIT_STATE,
    .VERIFY_LIMIT, .VT_STATE, .WINDOW_n, .WITNESS_ADDR, .WITNESS_RENEW, .WRITE_BYTES] [.blob, .time, .frame, .chans,
    .banks, .scans, .triers, .lanes, .engine, .serLanes, .ringTime, .excCal, .queues, .cave, .units, .regions,
    .bcasts, .press, .sec, .power, .test, .vat, .draws, .out] t) ∧
  (∀ (w : Who) (s : State), s.Open w .engineer .ST_RUN → s.get .FRAME_STATE 0 ≠ 0 ∨ s.get .ST_STATE 0 ≠ 0 → ∃ t, exec
    (.stRunFull w) s = .next t ∧ t.answer = ⟨.refused, .unit⟩ ∧ t.test = s.test ∧ s.Within [] [] t) ∧
  (∀ (w : Who) (s : State), s.Open w .engineer .ST_STOP → s.get .ST_STATE 0 ≠ 0 → ∃ t, exec (.stStop w) s = .next t ∧
    t.test = { s.test with stop := true } ∧ t.answer = ⟨.ok, .unit⟩ ∧ s.Within [] [.test] t) ∧
  (∀ (c : Nat) (failed : List TestFail) (i : Nat) (s : State), s.get .ST_STATE 0 ≠ 0 → s.get .ST_ITEM 0 = i → i < 7 →
    s.test.cut = false → failed = [] → s.test.step + 1 ≠ s.terminal i → s.test.stop = false → s.test.abort = false →
    ∃ t, exec (.testStepEnd c failed) s = .next t ∧ t.test =
    { s.test with misr := misrStep s.test.misr c, step := s.test.step + 1 } ∧ s.Within [] [.test] t) ∧
  (∀ (c : Nat) (failed : List TestFail) (i : Nat) (s : State), s.get .ST_STATE 0 ≠ 0 → s.get .ST_ITEM 0 = i → i < 5 →
    s.test.cut = false → failed = [] → s.test.step + 1 = s.terminal i → s.test.stop = false → ∃ t, exec (.testStepEnd
    c failed) s = .next t ∧ t.get .ST_ITEM 0 = (i + 1 : Nat) ∧ t.get .ST_LAST_KT i = s.time.kt ∧ t.get .ST_RESULT_i i
    / 2 ^ 32 = (misrStep s.test.misr c : Nat) ∧ t.test.step = 0 ∧ s.WithinKinds [.ABORT_LIMIT, .ALIGN, .ARMED_DIGEST,
    .ARMED_INDEX, .AUTH_FAILS, .AVG_MIN_USED, .AVG_N, .BANK_CAUSE, .BANK_ENABLE, .BCAST_IN, .BCAST_OUT, .CAL_STATE,
    .CAP_COUNT, .CAP_FIRST, .CAP_HEADER, .CAP_HELD, .CAP_HIST, .CAP_KEEP, .CAP_MODE, .CAP_PMAP, .CAP_POST, .CAP_PRE,
    .CAP_QUEUE, .CAP_REGION, .CAP_STAT_INPUT, .CAVE_STATE, .CH_EXC, .CH_MODE, .CH_PRESENCE, .CH_RANGE,
    .CH_WIRE_FAULT, .CJC_ENTRY, .CLK_REF_ACTIVE, .COEF_ACTIVE, .COEF_FADE, .COEF_IN_USE, .COEF_LABEL, .COEF_PENDING,
    .COEF_STATE, .COEF_p, .COMMIT_COUNT, .COMMIT_PARTS_REFUSED, .COMP_LINK_STATE, .DATA_DIR, .DCB_AUTO_FREEZE,
    .DCB_ENABLE, .DCB_ESTIMATE_i, .DCB_SHIFT_i, .DEBUG_EFFECTIVE, .DEBUG_HALTED, .DELAY_STATE, .DRAINS_ABANDONED,
    .DROPS, .EXC_SETTLE, .FAILED_LINKS, .FAILURES, .FENCED, .FENCE_ENTRIES, .FENCE_LAST, .FENCE_SUPPRESSED,
    .FI_CAUSE, .FRAME_BAD_STEP, .FRAME_END_STEP, .FRAME_STATE, .FRAME_STEP_n, .GROUP_DELAY, .HB_PERIOD, .HB_TIMEOUT,
    .HISTORY_GAP, .HIST_BASE, .HIST_BINS, .HIST_CLOSES, .HIST_EMIT, .HIST_ENABLE, .HIST_EXCLUDED, .HIST_FROM,
    .HIST_OVER, .HIST_SHIFT, .HIST_SOURCE, .HIST_STATE, .HIST_TO, .HIST_UNDER, .HIST_WINDOW, .HOLDOVER_TIME, .HYST,
    .INJECTED, .INJ_REFUSED, .JRN_MIRROR_STATE, .LANE_CAUSE, .LANE_STATE, .LANE_TRIM, .LAST_COMMIT_INDEX,
    .LAYOUT_BAD, .LEASE_TERM, .LEVEL_A, .LEVEL_B, .LINK_CHANGED, .LINK_DELAY_PREV, .LINK_FAIL_CAUSE, .LINK_STATE,
    .LIN_GAIN, .LIN_OFFSET, .LN_CAUSE, .LOCK_n, .LOOP_SETTLE, .LOSS_SEQ, .LOST_DISCARD, .LOST_FENCE, .LOST_PRESS,
    .LOST_RECLAIMED, .LOST_UNREADABLE, .LOST_WITHDRAWN, .LOST_i, .MARK_INDEX, .MARK_OVERTAKEN, .MARK_STATE,
    .MBX_ACK_TX, .MBX_OWNER, .MBX_SERVICE, .MBX_STATE, .MESSAGES, .MODCLK_STATE, .NOTCH_MODE, .OLDEST_INDEX,
    .OUT_SEL_i, .PASS_COUNT, .PASS_GRID, .PAUSES_SENT, .PMAP_CAPTURES, .PMAP_MAX, .PMAP_PENDING, .PMAP_STATE,
    .PORT_CHANGED, .PORT_LANES, .PORT_STATE, .PRESET_i, .PRESS_BAD_FIELD, .PRESS_CAUSE, .PRIME_END, .PT_STATE,
    .PWR_CHANGED, .PWR_STATE, .PW_CAUSE, .PW_QUAL, .QC_CAUSE, .REARM_SAMPLES, .REDUCED_QUEUE, .REPAIR_ENTRY_n,
    .REPAIR_PROPOSED, .REPLAY_SKIPPED_TICKS, .REPLAY_STATE, .RIPEN_ABANDONED, .RIPEN_BEHIND, .RIPEN_FLOOR_i,
    .RIPEN_PENDING, .RIPEN_SEGMENT, .RIPEN_STATE, .RL_CAUSE, .RX_ADAPT_STATE, .SCAN_BAD_ENTRY, .SCAN_ENTRY,
    .SCAN_ENTRY_n, .SCAN_EXECUTION, .SCAN_LENGTH, .SCAN_PASS, .SCAN_PASS_TICKS, .SCAN_START, .SCAN_STATE, .SEC_CAUSE,
    .SEQ_BAD_ENTRY, .SEQ_ENTRY_n, .SEQ_LENGTH, .SEQ_REJECTS, .SESSIONS_OPEN, .SHADOW_LAST, .SHADOW_SKIPS,
    .SHADOW_UNRESOLVED, .SIMUL_MASK, .SLEW_LIMIT, .SPARE_CHANNEL, .SPARE_DELAY, .SPARE_MIB, .SPARE_STATE,
    .STAGED_DEFAULTS, .STALE_TICKS, .START_DONE_INDEX, .START_QUALIFIED, .START_REFUSAL, .START_STATE, .STAT_N,
    .STAT_QUEUE, .STREAM_QUEUE, .ST_CAUSE, .ST_EXC_FAILED, .ST_FAILS_i, .ST_ITEM, .ST_LAST_KT, .ST_RESULT_i,
    .ST_SAVE_PENDING, .ST_SEALED, .ST_SEAL_KT, .ST_STATE, .SWAP_COUNT, .SWITCH_COUNT, .SWITCH_INDEX, .TIME_A,
    .TIME_B, .TIMING_LANE, .TRANSIT_DROPS, .TRANSIT_HIGH, .TRIER_CAD, .TRIER_CAUSE, .TRIER_MODE, .TRIER_QUEUE,
    .TRIER_STATE, .TRIG_COND, .TRIG_DELAY, .TRIG_EDGE, .TRIG_SOURCE, .TWIN_CAUSE, .TWIN_STATE, .UNIT_BAD_FIELD,
    .UNIT_CAUSE, .UNIT_STATE, .VERIFY_LIMIT, .VT_STATE, .WINDOW_n, .WITNESS_ADDR, .WITNESS_RENEW, .WRITE_BYTES]
    [.blob, .time, .frame, .chans, .banks, .scans, .triers, .lanes, .fences, .engine, .serLanes, .ringTime, .excCal,
    .queues, .cave, .units, .regions, .bcasts, .press, .sec, .power, .test, .vat, .draws, .out] t) ∧
  (∀ (c : Nat) (failed : List TestFail) (i : Nat) (s : State), s.get .ST_STATE 0 ≠ 0 → s.get .ST_ITEM 0 = i → i < 7 →
    s.test.cut = false → failed = [] → s.test.step + 1 ≠ s.terminal i → s.test.stop = true → s.get .ST_SAVE_PENDING 0
    = 65535 → ∃ t, exec (.testStepEnd c failed) s = .next t ∧ t.get .ST_RESULT_i i % 2 ^ 8 = 4 ∧ t.get .ST_STATE 0 =
    0 ∧ bit (t.get .ST_CAUSE 0) 2 = true ∧ t.get .ST_LAST_KT i = s.time.kt) ∧
  (∀ (c : Nat) (failed : List TestFail) (s : State), s.get .ST_STATE 0 = 0 ∨ s.get .ST_ITEM 0 = 255 ∨ s.test.cut =
    true → ∃ t, exec (.testStepEnd c failed) s = .next t ∧ t.test = s.test ∧ s.Within [] [] t) ∧
  (∀ (s : State), s.get .ST_STATE 0 = 2 → s.test.cut = true → s.test.stop = true → ∃ t, exec (.regionRestoreDone) s =
    .next t ∧ t.test.cut = false ∧ t.get .ST_SAVE_PENDING 0 = 65535 ∧ t.get .ST_STATE 0 = 0 ∧ t.get .ST_ITEM 0 = 255
    ∧ s.WithinKinds [.ABORT_LIMIT, .ALIGN, .ARMED_DIGEST, .ARMED_INDEX, .AUTH_FAILS, .AVG_MIN_USED, .AVG_N,
    .BANK_CAUSE, .BANK_ENABLE, .BCAST_IN, .BCAST_OUT, .BOOT_TIME, .CAL_STATE, .CAP_COUNT, .CAP_FIRST, .CAP_HEADER,
    .CAP_HELD, .CAP_HIST, .CAP_KEEP, .CAP_MODE, .CAP_PMAP, .CAP_POST, .CAP_PRE, .CAP_QUEUE, .CAP_REGION,
    .CAP_STAT_INPUT, .CAVE_STATE, .CH_EXC, .CH_MODE, .CH_PRESENCE, .CH_RANGE, .CH_WIRE_FAULT, .CJC_ENTRY,
    .CLK_REF_ACTIVE, .COEF_ACTIVE, .COEF_FADE, .COEF_IN_USE, .COEF_LABEL, .COEF_PENDING, .COEF_STATE, .COEF_p,
    .COMMIT_COUNT, .COMMIT_PARTS_REFUSED, .COMP_LINK_STATE, .DATA_DIR, .DCB_AUTO_FREEZE, .DCB_ENABLE,
    .DCB_ESTIMATE_i, .DCB_SHIFT_i, .DEBUG_EFFECTIVE, .DEBUG_HALTED, .DELAY_STATE, .DRAINS_ABANDONED, .DROPS,
    .EXC_SETTLE, .FAILED_LINKS, .FAILURES, .FENCE_SUPPRESSED, .FRAME_BAD_STEP, .FRAME_END_STEP, .FRAME_STATE,
    .FRAME_STEP_n, .GROUP_DELAY, .HB_PERIOD, .HB_TIMEOUT, .HISTORY_GAP, .HIST_BASE, .HIST_BINS, .HIST_CLOSES,
    .HIST_EMIT, .HIST_ENABLE, .HIST_EXCLUDED, .HIST_FROM, .HIST_OVER, .HIST_SHIFT, .HIST_SOURCE, .HIST_STATE,
    .HIST_TO, .HIST_UNDER, .HIST_WINDOW, .HOLDOVER_TIME, .HYST, .INJECTED, .INJ_REFUSED, .JRN_MIRROR_STATE,
    .LANE_CAUSE, .LANE_STATE, .LANE_TRIM, .LAST_COMMIT_INDEX, .LAYOUT_BAD, .LEASE_TERM, .LEVEL_A, .LEVEL_B,
    .LINK_CHANGED, .LINK_DELAY_PREV, .LINK_FAIL_CAUSE, .LINK_STATE, .LIN_GAIN, .LIN_OFFSET, .LN_CAUSE, .LOCK_n,
    .LOOP_SETTLE, .LOSS_SEQ, .LOST_DISCARD, .LOST_FENCE, .LOST_PRESS, .LOST_RECLAIMED, .LOST_UNREADABLE,
    .LOST_WITHDRAWN, .LOST_i, .MARK_INDEX, .MARK_OVERTAKEN, .MARK_STATE, .MESSAGES, .MODCLK_STATE, .NOTCH_MODE,
    .OLDEST_INDEX, .OUT_SEL_i, .PASS_COUNT, .PASS_GRID, .PAUSES_SENT, .PMAP_CAPTURES, .PMAP_MAX, .PMAP_PENDING,
    .PMAP_STATE, .PORT_CHANGED, .PORT_LANES, .PORT_STATE, .PRESET_i, .PRESS_BAD_FIELD, .PRESS_CAUSE, .PRIME_END,
    .PT_STATE, .PWR_CHANGED, .PWR_STATE, .PW_CAUSE, .PW_QUAL, .QC_CAUSE, .REARM_SAMPLES, .REDUCED_QUEUE,
    .REPAIR_ENTRY_n, .REPLAY_SKIPPED_TICKS, .REPLAY_STATE, .RIPEN_FLOOR_i, .RL_CAUSE, .RX_ADAPT_STATE,
    .SCAN_BAD_ENTRY, .SCAN_ENTRY, .SCAN_ENTRY_n, .SCAN_EXECUTION, .SCAN_LENGTH, .SCAN_PASS, .SCAN_PASS_TICKS,
    .SCAN_START, .SCAN_STATE, .SEC_CAUSE, .SEQ_BAD_ENTRY, .SEQ_ENTRY_n, .SEQ_LENGTH, .SEQ_REJECTS, .SESSIONS_OPEN,
    .SHADOW_LAST, .SHADOW_SKIPS, .SIMUL_MASK, .SLEW_LIMIT, .SPARE_CHANNEL, .SPARE_DELAY, .SPARE_MIB, .SPARE_STATE,
    .STAGED_DEFAULTS, .STALE_TICKS, .START_DONE_INDEX, .START_QUALIFIED, .START_REFUSAL, .START_STATE, .STAT_N,
    .STAT_QUEUE, .STREAM_QUEUE, .ST_CAUSE, .ST_ITEM, .ST_LAST_KT, .ST_RESULT_i, .ST_SAVE_PENDING, .ST_SEALED,
    .ST_SEAL_KT, .ST_STATE, .SWAP_COUNT, .SWITCH_COUNT, .SWITCH_INDEX, .TIME_A, .TIME_B, .TIMING_LANE,
    .TRANSIT_DROPS, .TRANSIT_HIGH, .TRIER_CAD, .TRIER_CAUSE, .TRIER_MODE, .TRIER_QUEUE, .TRIER_STATE, .TRIG_COND,
    .TRIG_DELAY, .TRIG_EDGE, .TRIG_SOURCE, .TWIN_CAUSE, .TWIN_STATE, .UNIT_BAD_FIELD, .UNIT_CAUSE, .UNIT_STATE,
    .VERIFY_LIMIT, .VT_STATE, .WINDOW_n, .WITNESS_ADDR, .WITNESS_RENEW, .WRITE_BYTES] [.blob, .time, .frame, .chans,
    .banks, .scans, .triers, .lanes, .engine, .serLanes, .ringTime, .excCal, .queues, .cave, .units, .regions,
    .bcasts, .press, .sec, .power, .test, .vat, .draws, .out] t) ∧
  (∀ (s : State), s.get .ST_STATE 0 = 2 → s.test.cut = false → s.boot.trained = true → s.get .PWR_WAKE_STATE 0 ≠ 2 →
    ∃ t, exec (.regionRestoreDone) s = .next t ∧ t.get .ST_SAVE_PENDING 0 = 65535 ∧ t.get .ST_STATE 0 = 0 ∧ t.get
    .START_STATE 0 = 6 ∧ t.boot.trained = false ∧ s.WithinKinds [.ABORT_LIMIT, .ALIGN, .ARMED_DIGEST, .ARMED_INDEX,
    .AUTH_FAILS, .AVG_MIN_USED, .AVG_N, .BANK_CAUSE, .BANK_ENABLE, .BCAST_IN, .BCAST_OUT, .BOOT_TIME, .CAL_STATE,
    .CAP_COUNT, .CAP_FIRST, .CAP_HEADER, .CAP_HELD, .CAP_HIST, .CAP_KEEP, .CAP_MODE, .CAP_PMAP, .CAP_POST, .CAP_PRE,
    .CAP_QUEUE, .CAP_REGION, .CAP_STAT_INPUT, .CAVE_STATE, .CH_EXC, .CH_MODE, .CH_PRESENCE, .CH_RANGE,
    .CH_WIRE_FAULT, .CJC_ENTRY, .CLK_REF_ACTIVE, .COEF_ACTIVE, .COEF_FADE, .COEF_IN_USE, .COEF_LABEL, .COEF_PENDING,
    .COEF_STATE, .COEF_p, .COMMIT_COUNT, .COMMIT_PARTS_REFUSED, .COMP_LINK_STATE, .DATA_DIR, .DCB_AUTO_FREEZE,
    .DCB_ENABLE, .DCB_ESTIMATE_i, .DCB_SHIFT_i, .DEBUG_EFFECTIVE, .DEBUG_HALTED, .DELAY_STATE, .DRAINS_ABANDONED,
    .DROPS, .EXC_SETTLE, .FAILED_LINKS, .FAILURES, .FENCE_SUPPRESSED, .FRAME_BAD_STEP, .FRAME_END_STEP, .FRAME_STATE,
    .FRAME_STEP_n, .GROUP_DELAY, .HB_PERIOD, .HB_TIMEOUT, .HISTORY_GAP, .HIST_BASE, .HIST_BINS, .HIST_CLOSES,
    .HIST_EMIT, .HIST_ENABLE, .HIST_EXCLUDED, .HIST_FROM, .HIST_OVER, .HIST_SHIFT, .HIST_SOURCE, .HIST_STATE,
    .HIST_TO, .HIST_UNDER, .HIST_WINDOW, .HOLDOVER_TIME, .HYST, .INJECTED, .INJ_REFUSED, .JRN_MIRROR_STATE,
    .LANE_CAUSE, .LANE_STATE, .LANE_TRIM, .LAST_COMMIT_INDEX, .LAYOUT_BAD, .LEASE_TERM, .LEVEL_A, .LEVEL_B,
    .LINK_CHANGED, .LINK_DELAY_PREV, .LINK_FAIL_CAUSE, .LINK_STATE, .LIN_GAIN, .LIN_OFFSET, .LN_CAUSE, .LOCK_n,
    .LOOP_SETTLE, .LOSS_SEQ, .LOST_DISCARD, .LOST_FENCE, .LOST_PRESS, .LOST_RECLAIMED, .LOST_UNREADABLE,
    .LOST_WITHDRAWN, .LOST_i, .MARK_INDEX, .MARK_OVERTAKEN, .MARK_STATE, .MESSAGES, .MODCLK_STATE, .NOTCH_MODE,
    .OLDEST_INDEX, .OUT_SEL_i, .PASS_COUNT, .PASS_GRID, .PAUSES_SENT, .PMAP_CAPTURES, .PMAP_MAX, .PMAP_PENDING,
    .PMAP_STATE, .PORT_CHANGED, .PORT_LANES, .PORT_STATE, .PRESET_i, .PRESS_BAD_FIELD, .PRESS_CAUSE, .PRIME_END,
    .PT_STATE, .PWR_CHANGED, .PWR_STATE, .PW_CAUSE, .PW_QUAL, .QC_CAUSE, .REARM_SAMPLES, .REDUCED_QUEUE,
    .REPAIR_ENTRY_n, .REPLAY_SKIPPED_TICKS, .REPLAY_STATE, .RIPEN_FLOOR_i, .RL_CAUSE, .RX_ADAPT_STATE,
    .SCAN_BAD_ENTRY, .SCAN_ENTRY, .SCAN_ENTRY_n, .SCAN_EXECUTION, .SCAN_LENGTH, .SCAN_PASS, .SCAN_PASS_TICKS,
    .SCAN_START, .SCAN_STATE, .SEC_CAUSE, .SEQ_BAD_ENTRY, .SEQ_ENTRY_n, .SEQ_LENGTH, .SEQ_REJECTS, .SESSIONS_OPEN,
    .SHADOW_LAST, .SHADOW_SKIPS, .SIMUL_MASK, .SLEW_LIMIT, .SPARE_CHANNEL, .SPARE_DELAY, .SPARE_MIB, .SPARE_STATE,
    .STAGED_DEFAULTS, .STALE_TICKS, .START_DONE_INDEX, .START_QUALIFIED, .START_REFUSAL, .START_STATE, .STAT_N,
    .STAT_QUEUE, .STREAM_QUEUE, .ST_CAUSE, .ST_ITEM, .ST_LAST_KT, .ST_RESULT_i, .ST_SAVE_PENDING, .ST_SEALED,
    .ST_SEAL_KT, .ST_STATE, .SWAP_COUNT, .SWITCH_COUNT, .SWITCH_INDEX, .TIME_A, .TIME_B, .TIMING_LANE,
    .TRANSIT_DROPS, .TRANSIT_HIGH, .TRIER_CAD, .TRIER_CAUSE, .TRIER_MODE, .TRIER_QUEUE, .TRIER_STATE, .TRIG_COND,
    .TRIG_DELAY, .TRIG_EDGE, .TRIG_SOURCE, .TWIN_CAUSE, .TWIN_STATE, .UNIT_BAD_FIELD, .UNIT_CAUSE, .UNIT_STATE,
    .VERIFY_LIMIT, .VT_STATE, .WINDOW_n, .WITNESS_ADDR, .WITNESS_RENEW, .WRITE_BYTES] [.blob, .time, .frame, .chans,
    .banks, .scans, .triers, .lanes, .engine, .serLanes, .ringTime, .excCal, .queues, .cave, .units, .regions,
    .bcasts, .press, .sec, .power, .test, .vat, .draws, .out] t) ∧
  (∀ (s : State), s.get .ST_STATE 0 ≠ 2 → ∃ t, exec (.regionRestoreDone) s = .next t ∧ s.Within [] [] t)

/-- R525, R576 to R585: the repair map, the fuses, the patrol of MRAM and the life record. -/
def Obligations.RepairsAndLife : Prop :=
  (∀ (w : Who) (n : Nat) (s : State), s.Open w .service .REPAIR_ACCEPT → s.get .REPAIR_PROPOSED 0 > 0 → s.mapFree =
    some n → ∃ t, exec (.repairAccept w) s = .next t ∧ t.get .REPAIR_PROPOSED 0 = 0 ∧ t.get .REPAIR_ENTRY_n n =
    (s.get .REPAIR_PROPOSED 0).toNat ∧ bit (t.get .ST_CAUSE 0) 3 = true ∧ t.answer = ⟨.ok, .unit⟩ ∧ s.WithinKinds
    [.REPAIR_ENTRY_n, .REPAIR_PROPOSED, .ST_CAUSE] [.cave, .test, .out] t) ∧
  (∀ (w : Who) (s : State), s.Open w .service .REPAIR_ACCEPT → s.get .REPAIR_PROPOSED 0 > 0 → s.mapFree = none → ∃ t,
    exec (.repairAccept w) s = .next t ∧ t.answer = ⟨.refused, .unit⟩ ∧ bit (t.get .ST_CAUSE 0) 4 = true ∧ t.get
    .REPAIR_PROPOSED 0 = s.get .REPAIR_PROPOSED 0 ∧ s.Within [(.ST_CAUSE, 0)] [] t) ∧
  (∀ (w : Who) (s : State), s.Open w .service .REPAIR_ACCEPT → s.get .REPAIR_PROPOSED 0 = 0 → ∃ t, exec
    (.repairAccept w) s = .next t ∧ t.answer = ⟨.refused, .unit⟩ ∧ s.Within [] [] t) ∧
  (∀ (w : Who) (n : Nat) (s : State), s.Open w .service .REPAIR_CLEAR → n < 64 → s.mapEntry n ≠ 0 → repairFused
    (s.mapEntry n) = false → ∃ t, exec (.repairClear w n) s = .next t ∧ t.test =
    { s.test with clears := n :: s.test.clears.filter (fun k => k != n) } ∧ t.answer = ⟨.ok, .unit⟩ ∧ s.Within []
    [.test] t) ∧
  (∀ (w : Who) (n : Nat) (s : State), s.Open w .service .REPAIR_CLEAR → 64 ≤ n → ∃ t, exec (.repairClear w n) s =
    .next t ∧ t.answer = ⟨.outOfRange, .unit⟩ ∧ t.test = s.test ∧ s.Within [] [] t) ∧
  (∀ (w : Who) (n k : Nat) (s : State), s.Open w .service .REPAIR_FUSE → n < 64 → (List.range 48).find? s.fuseFree =
    some k → s.get .FRAME_STATE 0 = 0 → s.get .PWR_STATE 0 = 2 → s.mapEntry n ≠ 0 → repairFused (s.mapEntry n) =
    false → s.test.fuse = none → ∃ t, exec (.repairFuse w n) s = .next t ∧ t.test =
    { s.test with fuse := some (n, k, s.time.cycle + msCycles 2) } ∧ t.answer = ⟨.ok, .unit⟩ ∧ s.Within [] [.test] t) ∧
  (∀ (n k a : Nat) (s : State), s.test.fuse = some (n, k, a) → a ≤ s.time.cycle → ∃ t, exec (.fuseBlowDone true) s =
    .next t ∧ t.get .FUSE_ENTRY_n k = s.mapEntry n ∧ t.get .REPAIR_ENTRY_n n = (if repairFused (s.mapEntry n) then
    s.mapEntry n else s.mapEntry n + 2 ^ 27 : Nat) ∧ t.test.fuse = none ∧ s.Within [(.FUSE_ENTRY_n, k),
    (.REPAIR_ENTRY_n, n)] [.test] t) ∧
  (∀ (n k a : Nat) (s : State), s.test.fuse = some (n, k, a) → a ≤ s.time.cycle → ∃ t, exec (.fuseBlowDone false) s =
    .next t ∧ t.get .FUSE_MARGIN_FAILS 0 = countNext 4294967295 (s.get .FUSE_MARGIN_FAILS 0) ∧ t.test.badFuses = k ::
    s.test.badFuses ∧ t.test.fuse = none ∧ s.Within [(.FUSE_ENTRY_n, k), (.FUSE_MARGIN_FAILS, 0), (.ST_CAUSE, 0)]
    [.test, .draws] t) ∧
  (∀ (c b : Nat) (s : State), s.served = true → s.get .PWR_STATE 0 ≠ 3 → 0 < c → 0 < b → ∃ t, exec (.mramPatrol c b)
    s = .next t ∧ t.get .MRAM_ECC_CORRECTED 0 = min (s.get .MRAM_ECC_CORRECTED 0 + c) 4294967295 ∧ t.get
    .MRAM_ECC_UNCORRECTABLE 0 = min (s.get .MRAM_ECC_UNCORRECTABLE 0 + b) 4294967295 ∧ s.Within
    [(.MRAM_ECC_CORRECTED, 0), (.MRAM_ECC_UNCORRECTABLE, 0), (.FI_CAUSE, 0)] [] t) ∧
  (∀ (s : State), s.served = true → s.test.lifeAt + hourKt ≤ s.time.kt → ∃ t, exec (.lifeRecordUpdate) s = .next t ∧
    t.get .LIFE_HOURS 0 = countNext 4294967295 (s.get .LIFE_HOURS 0) ∧ t.test.lifeAt = s.time.kt ∧ s.Within
    [(.LIFE_HOURS, 0), (.LIFE_CONSUMED, 0)] [.blob, .test] t)

/-- R542, R588 to R592, R597, R598, R623, R624: the resets, the boot, and the happenings of startup. -/
def Obligations.StartupHappenings : Prop :=
  (∀ (s : State), ∃ t, exec (.keeperPor) s = .next t ∧ t.time.kt = 0 ∧ t.time.ktPhase = 0 ∧ t.power =
    { off := false } ∧ t.boot.rstLow = true ∧ t.boot.cause = 0 ∧ t.get .ST_SEALED 0 = 0 ∧ t.get .PWR_WAKE_AT 0 = 0) ∧
  (∀ (held : Nat) (s : State), held < 1000 → ∃ t, exec (.rstNAssert held) s = .next t ∧ s.Within [] [] t) ∧
  (∀ (held : Nat) (s : State), 1000 ≤ held → held < 10000 → s.power.off = true → ∃ t, exec (.rstNAssert held) s =
    .next t ∧ t.boot.rstLow = (if Config.freeValue s.draws % 2 = 0 then s.boot.rstLow else true) ∧ t.boot.cause =
    s.boot.cause ∧ t.draws = s.draws + 1 ∧ s.Within [] [.draws] t) ∧
  (∀ (s : State), s.boot.rstLow = true → s.power.off = false → s.power.settling = false → ∃ t, exec (.rstNRelease) s
    = .next t ∧ t.get .START_STATE 0 = 1 ∧ t.get .RESET_CAUSE 0 = s.boot.cause ∧ t.boot =
    { s.boot with rstLow := false, at_ := s.time.cycle } ∧ s.Within [(.START_STATE, 0), (.RESET_CAUSE, 0)] [] t) ∧
  (∀ (bad : List (Fin 2)) (k : Nat) (s : State), s.get .START_STATE 0 = 1 → k = (s.get .BOOT_NEXT 0).toNat % 2 →
    bad.any (fun x => x.val == k) = false → ∃ t, exec (.bootComplete bad) s = .next t ∧ ((s.imageValid k = true →
    t.get .START_STATE 0 = 3 ∧ t.get .FW_RUNNING 0 = k ∧ t.get .FW_STAGE_SLOT 0 = (1 - k : Nat) ∧ t.sec.trial = none
    ∧ (s.sec.trial = some k → t.get .FW_STATE 0 = 4 ∧ t.get .BOOT_NEXT 0 = (1 - k : Nat) ∧ t.sec.trialAt = s.time.kt)
    ∧ (s.sec.trial ≠ some k → t.get .FW_STATE 0 = 0 ∧ t.get .BOOT_NEXT 0 = s.get .BOOT_NEXT 0) ∧ t.boot = s.boot)) ∧
    ((s.imageValid k = false → bad.any (fun x => x.val == 1 - k) = false → s.imageValid (1 - k) = true → t.get
    .START_STATE 0 = 3 ∧ t.get .FW_RUNNING 0 = (1 - k : Nat) ∧ t.get .BOOT_NEXT 0 = (1 - k : Nat) ∧ t.get .FW_STATE 0
    = 0 ∧ t.sec.trial = none ∧ t.boot = { s.boot with sec := s.boot.sec ||| 64 ||| 128 })) ∧ ((s.imageValid k = false
    → bad.any (fun x => x.val == 1 - k) = true ∨ s.imageValid (1 - k) = false → t.get .START_STATE 0 = 2 ∧ t.boot =
    { s.boot with sec := s.boot.sec ||| 64 })) ∧ s.WithinKinds [.BOOT_NEXT, .FW_RUNNING, .FW_STAGE_SLOT, .FW_STATE,
    .FW_VERSION_A, .FW_VERSION_B, .START_STATE] [.sec] t) ∧
  (∀ (bad : List (Fin 2)) (s : State), s.get .START_STATE 0 = 1 → 0 ∈ bad → 1 ∈ bad → ∃ t, exec (.bootComplete bad) s
    = .next t ∧ t.get .START_STATE 0 = 2 ∧ t.boot = { s.boot with sec := s.boot.sec ||| 64 } ∧ s.Within
    [(.START_STATE, 0)] [] t) ∧
  (∀ (x : BootFound) (u : State) (s : State), s.get .START_STATE 0 = 3 → u = (s.loadConfig x.cfgBad).loadRepairs x →
    u.get .ST_SEALED 0 = 0 → ∃ t, exec (.initComplete x) s = .next t ∧ t.get .START_STATE 0 = 4 ∧ t.get .ST_STATE 0 =
    1 ∧ t.get .ST_ORIGIN 0 = 3 ∧ t.get .ST_ITEM 0 = 0 ∧ t.test.last = 6 ∧ bit (t.get .ST_CAUSE 0) 7 = true ∧ (t.get
    .KT_CLOCK 0 = (if u.get .KT_CLOCK_SEL 0 = 1 ∨ u.time.rcFallback = true then 1 else 0)) ∧ t.get .JRN_BOOTS 0 =
    countNext 4294967295 (u.get .JRN_BOOTS 0) ∧ t.boot.sec = 0 ∧ t.boot.pw = 0 ∧ t.time.ppsSince = s.time.cycle ∧
    s.WithinKinds [.ABORT_LIMIT, .ALIGN, .ARMED_DIGEST, .ARMED_INDEX, .AUTH_FAILS, .AVG_MIN_USED, .AVG_N,
    .BANK_CAUSE, .BANK_ENABLE, .BCAST_IN, .BCAST_OUT, .CAL_GAIN, .CAL_OFFSET, .CAL_STATE, .CAP_COUNT, .CAP_FIRST,
    .CAP_HEADER, .CAP_HELD, .CAP_HIST, .CAP_KEEP, .CAP_MODE, .CAP_PMAP, .CAP_POST, .CAP_PRE, .CAP_QUEUE, .CAP_REGION,
    .CAP_STAT_INPUT, .CAVE_STATE, .CFG_SAVED_DIGEST, .CH_EXC, .CH_MODE, .CH_PRESENCE, .CH_RANGE, .CH_WIRE_FAULT,
    .CJC_ENTRY, .CLK_REF_ACTIVE, .COEF_ACTIVE, .COEF_FADE, .COEF_IN_USE, .COEF_LABEL, .COEF_PENDING, .COEF_STATE,
    .COEF_p, .COMMIT_COUNT, .COMMIT_PARTS_REFUSED, .COMP_LINK_STATE, .DATA_DIR, .DCB_AUTO_FREEZE, .DCB_ENABLE,
    .DCB_ESTIMATE_i, .DCB_SHIFT_i, .DEBUG_EFFECTIVE, .DEBUG_HALTED, .DELAY_STATE, .DRAINS_ABANDONED, .DROPS,
    .EXC_SETTLE, .FAILED_LINKS, .FAILURES, .FENCE_SUPPRESSED, .FRAME_BAD_STEP, .FRAME_END_STEP, .FRAME_STATE,
    .FRAME_STEP_n, .FUSE_MARGIN_FAILS, .GROUP_DELAY, .HB_PERIOD, .HB_TIMEOUT, .HISTORY_GAP, .HIST_BASE, .HIST_BINS,
    .HIST_CLOSES, .HIST_EMIT, .HIST_ENABLE, .HIST_EXCLUDED, .HIST_FROM, .HIST_OVER, .HIST_SHIFT, .HIST_SOURCE,
    .HIST_STATE, .HIST_TO, .HIST_UNDER, .HIST_WINDOW, .HOLDOVER_TIME, .HYST, .INJECTED, .INJ_REFUSED, .JRN_BOOTS,
    .JRN_MIRROR_STATE, .KT_CLOCK, .LANE_CAUSE, .LANE_STATE, .LANE_TRIM, .LAST_COMMIT_INDEX, .LAYOUT_BAD, .LEASE_TERM,
    .LEVEL_A, .LEVEL_B, .LINK_CHANGED, .LINK_DELAY_PREV, .LINK_FAIL_CAUSE, .LINK_STATE, .LIN_GAIN, .LIN_OFFSET,
    .LN_CAUSE, .LOCK_n, .LOOP_SETTLE, .MARK_STATE, .MESSAGES, .MODCLK_STATE, .NOTCH_MODE, .OUT_SEL_i, .PASS_COUNT,
    .PASS_GRID, .PAUSES_SENT, .PMAP_CAPTURES, .PMAP_MAX, .PMAP_PENDING, .PMAP_STATE, .PORT_CHANGED, .PORT_LANES,
    .PORT_STATE, .PRESET_i, .PRESS_BAD_FIELD, .PRESS_CAUSE, .PRIME_END, .PTP_GM_IDENTITY, .PTP_PORT_STATE, .PT_STATE,
    .PWR_CHANGED, .PWR_STATE, .PW_CAUSE, .PW_QUAL, .QC_CAUSE, .REARM_SAMPLES, .REDUCED_QUEUE, .REPAIR_ENTRY_n,
    .REPLAY_STATE, .RIPEN_FLOOR_i, .RL_CAUSE, .RX_ADAPT_STATE, .SCAN_BAD_ENTRY, .SCAN_ENTRY, .SCAN_ENTRY_n,
    .SCAN_EXECUTION, .SCAN_LENGTH, .SCAN_PASS, .SCAN_PASS_TICKS, .SCAN_START, .SCAN_STATE, .SEC_CAUSE,
    .SEQ_BAD_ENTRY, .SEQ_ENTRY_n, .SEQ_LENGTH, .SEQ_REJECTS, .SESSIONS_OPEN, .SHADOW_LAST, .SHADOW_SKIPS,
    .SIMUL_MASK, .SLEW_LIMIT, .SPARE_CHANNEL, .SPARE_DELAY, .SPARE_MIB, .SPARE_STATE, .STAGED_DEFAULTS, .STALE_TICKS,
    .START_DONE_INDEX, .START_QUALIFIED, .START_REFUSAL, .START_STATE, .STAT_N, .STAT_QUEUE, .STREAM_QUEUE,
    .ST_CAL_LOST, .ST_CAUSE, .ST_ITEM, .ST_LAST_KT, .ST_ORIGIN, .ST_RESULT_i, .ST_SEALED, .ST_SEAL_KT, .ST_STATE,
    .SWAP_COUNT, .SWITCH_COUNT, .SWITCH_INDEX, .TIME_A, .TIME_B, .TIMING_LANE, .TRANSIT_DROPS, .TRANSIT_HIGH,
    .TRIER_CAD, .TRIER_CAUSE, .TRIER_MODE, .TRIER_QUEUE, .TRIER_STATE, .TRIG_COND, .TRIG_DELAY, .TRIG_EDGE,
    .TRIG_SOURCE, .TWIN_CAUSE, .TWIN_STATE, .UNIT_BAD_FIELD, .UNIT_CAUSE, .UNIT_STATE, .VERIFY_LIMIT, .VT_STATE,
    .WINDOW_n, .WITNESS_ADDR, .WITNESS_RENEW, .WRITE_BYTES] [.blob, .time, .ptp, .frame, .chans, .banks, .scans,
    .triers, .lanes, .engine, .serLanes, .ringTime, .excCal, .queues, .cave, .units, .regions, .bcasts, .press, .sec,
    .power, .test, .vat, .draws, .out] t) ∧
  (∀ (x : BootFound) (k : Key) (v : Int) (s : State), s.get .START_STATE 0 = 3 → x = ⟨false, 0, [], [], []⟩ →
    s.engine.saved = some [(⟨.LOOP_SETTLE, 2⟩, .num v)] → ∃ t, exec (.initComplete x) s = .next t ∧ t.get
    .LOOP_SETTLE 2 = v) ∧
  (∀ (x : BootFound) (s : State), s.get .START_STATE 0 ≠ 3 → ∃ t, exec (.initComplete x) s = .next t ∧ s.Within [] []
    t) ∧
  (∀ (x : CaveFound) (s : State), s.get .START_STATE 0 = 5 → s.get .CAVE_STATE 0 = 1 → x.fitted = 0 → s.get
    .PWR_WAKE_STATE 0 ≠ 2 → ∃ t, exec (.caveTrainingDone x) s = .next t ∧ t.get .START_STATE 0 = 6 ∧ t.get
    .CAVE_FITTED 0 = 0 ∧ t.get .CAVE_STATE 0 = 0 ∧ t.get .BOOT_TIME 0 = ((s.time.cycle - s.boot.at_) / 500 : Nat) ∧
    s.WithinKinds [.AUTH_FAILS, .BOOT_TIME, .CAVE_FITTED, .CAVE_STATE, .DEBUG_EFFECTIVE, .DEBUG_HALTED,
    .JRN_MIRROR_STATE, .LOSS_SEQ, .LOST_DISCARD, .LOST_FENCE, .LOST_PRESS, .LOST_RECLAIMED, .LOST_UNREADABLE,
    .LOST_WITHDRAWN, .LOST_i, .MARK_INDEX, .MARK_OVERTAKEN, .MARK_STATE, .MESSAGES, .OLDEST_INDEX, .PWR_CHANGED,
    .PWR_STATE, .PW_CAUSE, .QC_CAUSE, .QUEUE_SEQ, .REGION_MIB, .REPLAY_SKIPPED_TICKS, .SEC_CAUSE, .SEQ_REJECTS,
    .SESSIONS_OPEN, .START_DONE_INDEX, .START_QUALIFIED, .START_STATE, .STREAM_SEGMENTS, .ST_STATE, .WRITE_BYTES]
    [.engine, .cave, .regions, .sec, .power, .out] t) ∧
  (∀ (x : CaveFound) (s : State), s.get .START_STATE 0 = 5 → s.get .CAVE_STATE 0 = 1 → x.fitted ≠ 0 → x.trained =
    false → s.get .PWR_WAKE_STATE 0 ≠ 2 → ∃ t, exec (.caveTrainingDone x) s = .next t ∧ t.get .START_STATE 0 = 6 ∧
    t.get .CAVE_FITTED 0 = x.fitted ∧ t.get .CAVE_STATE 0 = 4 ∧ s.WithinKinds [.AUTH_FAILS, .BOOT_TIME, .CAVE_FITTED,
    .CAVE_STATE, .DEBUG_EFFECTIVE, .DEBUG_HALTED, .JRN_MIRROR_STATE, .LOSS_SEQ, .LOST_DISCARD, .LOST_FENCE,
    .LOST_PRESS, .LOST_RECLAIMED, .LOST_UNREADABLE, .LOST_WITHDRAWN, .LOST_i, .MARK_INDEX, .MARK_OVERTAKEN,
    .MARK_STATE, .MESSAGES, .OLDEST_INDEX, .PWR_CHANGED, .PWR_STATE, .PW_CAUSE, .QC_CAUSE, .QUEUE_SEQ, .REGION_MIB,
    .REPLAY_SKIPPED_TICKS, .SEC_CAUSE, .SEQ_REJECTS, .SESSIONS_OPEN, .START_DONE_INDEX, .START_QUALIFIED,
    .START_STATE, .STREAM_SEGMENTS, .ST_STATE, .WRITE_BYTES] [.engine, .cave, .regions, .sec, .power, .out] t) ∧
  (∀ (x : CaveFound) (s : State), s.get .START_STATE 0 = 5 → s.get .CAVE_STATE 0 = 1 → x.fitted ≠ 0 → x.trained =
    true → s.get .ST_SAVE_PENDING 0 = 65535 → s.get .PWR_WAKE_STATE 0 ≠ 2 → ∃ t, exec (.caveTrainingDone x) s = .next
    t ∧ t.get .START_STATE 0 = 6 ∧ t.get .CAVE_FITTED 0 = x.fitted ∧ t.get .CAVE_STATE 0 = 2 ∧ ((s.boot.caveKept =
    false → t.cave.ring = [] ∧ t.regions = [])) ∧ ((s.engine.saved = none → s.get .STREAM_SEGMENTS 0 = 0 → t.get
    .STREAM_SEGMENTS 0 = (x.fitted * 3 / 64 : Nat))) ∧ s.WithinKinds [.AUTH_FAILS, .BOOT_TIME, .CAVE_FITTED,
    .CAVE_STATE, .DEBUG_EFFECTIVE, .DEBUG_HALTED, .JRN_MIRROR_STATE, .LOSS_SEQ, .LOST_DISCARD, .LOST_FENCE,
    .LOST_PRESS, .LOST_RECLAIMED, .LOST_UNREADABLE, .LOST_WITHDRAWN, .LOST_i, .MARK_INDEX, .MARK_OVERTAKEN,
    .MARK_STATE, .MESSAGES, .OLDEST_INDEX, .PWR_CHANGED, .PWR_STATE, .PW_CAUSE, .QC_CAUSE, .QUEUE_SEQ, .REGION_MIB,
    .REPLAY_SKIPPED_TICKS, .SEC_CAUSE, .SEQ_REJECTS, .SESSIONS_OPEN, .START_DONE_INDEX, .START_QUALIFIED,
    .START_STATE, .STREAM_SEGMENTS, .ST_STATE, .WRITE_BYTES] [.engine, .cave, .regions, .sec, .power, .out] t) ∧
  (∀ (x : CaveFound) (s : State), s.get .START_STATE 0 = 5 → s.get .CAVE_STATE 0 = 1 → x.fitted ≠ 0 → x.trained =
    true → s.get .ST_SAVE_PENDING 0 ≠ 65535 → s.boot.caveKept = false → ∃ t, exec (.caveTrainingDone x) s = .next t ∧
    t.get .START_STATE 0 = 5 ∧ t.get .CAVE_STATE 0 = 2 ∧ t.get .ST_STATE 0 = 2 ∧ t.boot.trained = true ∧
    s.WithinKinds [.AUTH_FAILS, .BOOT_TIME, .CAVE_FITTED, .CAVE_STATE, .DEBUG_EFFECTIVE, .DEBUG_HALTED,
    .JRN_MIRROR_STATE, .LOSS_SEQ, .LOST_DISCARD, .LOST_FENCE, .LOST_PRESS, .LOST_RECLAIMED, .LOST_UNREADABLE,
    .LOST_WITHDRAWN, .LOST_i, .MARK_INDEX, .MARK_OVERTAKEN, .MARK_STATE, .MESSAGES, .OLDEST_INDEX, .PWR_CHANGED,
    .PWR_STATE, .PW_CAUSE, .QC_CAUSE, .QUEUE_SEQ, .REGION_MIB, .REPLAY_SKIPPED_TICKS, .SEC_CAUSE, .SEQ_REJECTS,
    .SESSIONS_OPEN, .START_DONE_INDEX, .START_QUALIFIED, .START_STATE, .STREAM_SEGMENTS, .ST_STATE, .WRITE_BYTES]
    [.engine, .cave, .regions, .sec, .power, .out] t)

/-- R598, R601, R610, R611: the service phase, the member records, and leaving and rejoining the vat. -/
def Obligations.ServicePhaseAndVat : Prop :=
  (∀ (s : State), s.get .SERVICE_PHASE 0 = 0 → s.running = true → s.boot.startedAt + msCycles (s.get .START_LIMIT
    0).toNat ≤ s.time.cycle → ∃ t, exec (.startLimitExpiry) s = .next t ∧ t.get .SERVICE_PHASE 0 = 1 ∧ t.get
    .START_DONE_INDEX 0 = s.tickKey ∧ s.Within [(.START_DONE_INDEX, 0)] [] t) ∧
  (∀ (s : State), s.get .SERVICE_PHASE 0 = 3 → s.boot.recoveryAt + s.get .RECOVERY_TICKS 0 ≤ s.tickKey → ∃ t, exec
    (.recoveryTicksExpiry) s = .next t ∧ t.get .SERVICE_PHASE 0 = 1 ∧ s.Within [] [] t) ∧
  (∀ (w : Who) (s : State), s.Open w .operator .SERVICE_PHASE_SET → s.get .SERVICE_PHASE 0 ≠ 0 → ∃ t, exec
    (.servicePhaseNormal w) s = .next t ∧ t.answer = ⟨.ok, .unit⟩ ∧ t.get .SERVICE_PHASE 0 = 1 ∧ s.Within [] [] t) ∧
  (∀ (w : Who) (s : State), s.Open w .operator .SERVICE_PHASE_SET → s.get .SERVICE_PHASE 0 = 0 → ∃ t, exec
    (.servicePhaseNormal w) s = .next t ∧ t.answer = ⟨.ok, .unit⟩ ∧ t.get .SERVICE_PHASE 0 = 1 ∧ t.get
    .START_DONE_INDEX 0 = s.tickKey ∧ s.Within [(.START_DONE_INDEX, 0)] [] t) ∧
  (∀ (w : Who) (s : State), s.Open w .operator .SERVICE_PHASE_SET → ∃ t, exec (.servicePhaseTest w) s = .next t ∧
    t.answer = ⟨.ok, .unit⟩ ∧ t.get .SERVICE_PHASE 0 = 2 ∧ s.Within [] [] t) ∧
  (∀ (s : State), s.placed = true → s.vat.sentAt = none → ∃ t, exec (.memberRecordSend) s = .next t ∧ t.vat =
    { s.vat with sent := s.memberRecord, sentAt := some s.time.cycle } ∧ s.Within [] [.vat] t) ∧
  (∀ (p : Fin 2) (f : Frame) (s : State), f.cls = 4 → f.kind = 3 → (s.receive p f).1 = true → s.get .RT_ROLE 0 ≠ 3 →
    ∃ t, exec (.memberRecordRx p f) s = .next t ∧ t.vat =
    { s.vat with recs := (f.srcPos, f.payload.take 16, s.time.cycle) :: s.vat.recs.filter (fun x => x.1 != f.srcPos) }
    ∧ s.WithinKinds [.FENCE_SUPPRESSED, .FRAMES_RX, .PAUSES_SENT, .RL_CAUSE, .TRANSIT_DROPS, .TRANSIT_HIGH] [.vat] t) ∧
  (∀ (p : Fin 2) (f : Frame) (s : State), f.cls = 4 → f.kind = 3 → (s.receive p f).1 = true → s.get .RT_ROLE 0 = 3 →
    leNat (slice f.payload 1 1) = 1 → ∃ t, exec (.memberRecordRx p f) s = .next t ∧ t.vat.recs = (f.srcPos,
    f.payload.take 16, s.time.cycle) :: s.vat.recs.filter (fun x => x.1 != f.srcPos) ∧ t.vat.sentAt = some
    s.time.cycle ∧ t.vat.sent = t.memberRecord ∧ s.WithinKinds [.FENCE_SUPPRESSED, .FRAMES_RX, .PAUSES_SENT,
    .RL_CAUSE, .TRANSIT_DROPS, .TRANSIT_HIGH] [.vat] t) ∧
  (∀ (s : State), ∃ t, exec (.memberRecordExpiry) s = .next t ∧ t.vat =
    { s.vat with recs := s.vat.recs.filter (fun x => decide (s.time.servoAt ≤ x.2.2 + 4 * msCycles (s.get .MEMBER_PERIOD 0).toNat)) }
    ∧ s.Within [] [.vat] t) ∧
  (∀ (w : Who) (s : State), s.Open w .engineer .VAT_LEAVE → s.get .FRAME_STATE 0 = 0 → ∃ t, exec (.vatLeave w) s =
    .next t ∧ t.get .VAT_STATE 0 = 6 ∧ t.vat = { s.vat with left := true } ∧ t.answer = ⟨.ok, .unit⟩ ∧ s.Within
    [(.VAT_STATE, 0), (.VAT_STATE_CHANGED, 0)] [.vat, .ringTime] t) ∧
  (∀ (w : Who) (s : State), s.Open w .engineer .VAT_LEAVE → s.get .FRAME_STATE 0 ≠ 0 → ∃ t, exec (.vatLeave w) s =
    .next t ∧ t.answer = ⟨.refused, .unit⟩ ∧ t.vat = s.vat ∧ s.Within [] [] t) ∧
  (∀ (w : Who) (s : State), s.Open w .engineer .VAT_REJOIN → s.vat.left = true → ∃ t, exec (.vatRejoin w) s = .next t
    ∧ t.get .VAT_STATE 0 = 1 ∧ t.vat = { s.vat with left := false } ∧ t.answer = ⟨.ok, .unit⟩ ∧ s.Within
    [(.VAT_STATE, 0), (.VAT_STATE_CHANGED, 0)] [.vat] t) ∧
  (∀ (w : Who) (s : State), s.Open w .engineer .VAT_REJOIN → s.vat.left = false → ∃ t, exec (.vatRejoin w) s = .next
    t ∧ t.vat = s.vat ∧ t.answer = ⟨.ok, .unit⟩ ∧ s.Within [] [] t)

/-- R453 to R470: the operations of a session as the engine takes the next message of a path, the writes of masters,
and the transports. -/
def Obligations.DictionaryMessages : Prop :=
  (∀ (m : Msg) (l : List Msg) (n : Nat) (s : State), s.served = true → s.engine.late = none → s.engine.spiIn = m :: l
    → m.op = 1 → (s.session m.session).parked = none → m.body.length = 84 → s.admits (leNat (slice m.body 0 1)) =
    true → (List.range 16).countP (fun n => (s.session n).open_) < 8 → (List.range 16).find? (fun n => 1 ≤ n &&
    !(s.session n).open_) = some n → ∃ t, exec (.open) s = .next t ∧ (t.session n).open_ = true ∧ (t.session
    n).admitted = false ∧ (t.session n).role = roleOf (leNat (slice m.body 0 1)) ∧ (t.session n).binding =
    { path := .spi } ∧ (t.session n).lastAt = s.time.cycle ∧ ((∀ k < 16, k ≠ n → t.session k = s.session k)) ∧ ((∃
    rsp : List Byte, rsp.length = 148 ∧ leNat (slice rsp 0 4) = n ∧ t.engine.spiOut = s.engine.spiOut ++
    [({ op := 1, mseq := m.mseq } : Held).message 0 0 rsp])) ∧ t.draws = s.draws + 2 ∧ t.get .MESSAGES 0 = (s.get
    .MESSAGES 0 + 1) % 18446744073709551616 ∧ s.Within [(.MESSAGES, 0), (.SESSIONS_OPEN, 0)] [.engine, .draws] t) ∧
  (∀ (m : Msg) (l : List Msg) (s : State), s.served = true → s.engine.late = none → s.engine.spiIn = m :: l → m.op =
    1 → (s.session m.session).parked = none → m.body.length ≠ 84 → ∃ t, exec (.open) s = .next t ∧ t.engine =
    { s.engine with spiIn := l, spiOut := s.engine.spiOut ++ [({ op := 1, mseq := m.mseq } : Held).message 0 Err.badLength.code []] }
    ∧ s.Within [(.MESSAGES, 0)] [.engine] t) ∧
  (∀ (m : Msg) (l : List Msg) (s : State), s.served = true → s.engine.late = none → s.engine.spiIn = m :: l → m.op ≠
    1 → (s.session m.session).parked = none → ∃ t, exec (.open) s = .next t ∧ s.Within [] [] t) ∧
  (∀ (m : Msg) (l : List Msg) (x : Session) (s : State), s.served = true → s.engine.late = none → s.engine.spiIn = m
    :: l → m.op = 2 → x = s.session m.session → x.parked = none → x.open_ = true → x.binding = { path := .spi } →
    x.kept.find? (fun k => k.1 == m.mseq && k.2.op == 2) = none → x.admitted = false → m.body.length = 64 → ∃ t, exec
    (.prove) s = .next t ∧ ((s.proves x m.body = true → (t.session m.session).admitted = true ∧ (t.session
    m.session).lastAt = s.time.cycle ∧ t.engine.spiOut = s.engine.spiOut ++
    [({ op := 2, session := m.session, mseq := m.mseq } : Held).message 0 0 []] ∧ t.get .PROVE_FAILS 0 = s.get
    .PROVE_FAILS 0)) ∧ ((s.proves x m.body = false → (t.session m.session).open_ = false ∧ t.get .PROVE_FAILS 0 =
    countNext 4294967295 (s.get .PROVE_FAILS 0) ∧ bit (t.get .SEC_CAUSE 0) 1 = true ∧ t.engine.spiOut =
    s.engine.spiOut ++ [({ op := 2, session := m.session, mseq := m.mseq } : Held).message 0 Err.role.code []])) ∧
    t.get .MESSAGES 0 = (s.get .MESSAGES 0 + 1) % 18446744073709551616 ∧ s.WithinKinds [.LOCK_n, .MBX_ACK_TX,
    .MBX_OWNER, .MBX_SERVICE, .MBX_STATE, .MESSAGES, .PROVE_FAILS, .SEC_CAUSE, .SESSIONS_OPEN] [.engine, .out] t) ∧
  (∀ (m : Msg) (l : List Msg) (s : State), s.served = true → s.engine.late = none → s.engine.spiIn = m :: l → m.op =
    2 → (s.session m.session).parked = none → (s.session m.session).open_ = false → ∃ t, exec (.prove) s = .next t ∧
    t.engine =
    { s.engine with spiIn := l, spiOut := s.engine.spiOut ++ [({ op := 2, session := m.session, mseq := m.mseq } : Held).message 0 Err.session.code []] }
    ∧ s.Within [(.MESSAGES, 0)] [.engine] t) ∧
  (∀ (m : Msg) (l : List Msg) (x : Session) (b : List Byte) (s : State), s.served = true → s.engine.late = none →
    s.engine.spiIn = m :: l → m.op = 3 → x = s.session m.session → x.open_ = true → x.binding = { path := .spi } →
    x.admitted = true → x.parked = none → m.body.length ≤ 2016 → x.kept.find? (fun k => k.1 == m.mseq && k.2.op != 2)
    = none → x.stale m.mseq = false → b = m.crypt x.keyIn 0 → ∃ t, exec (.close) s = .next t ∧ t.engine.spiIn = l ∧
    ((m.authentic x.keyIn = false → t.get .AUTH_FAILS 0 = countNext 4294967295 (s.get .AUTH_FAILS 0) ∧ t.engine =
    { s.engine with spiIn := l })) ∧ ((m.authentic x.keyIn = true → t.get .MESSAGES 0 = (s.get .MESSAGES 0 + 1) %
    18446744073709551616 ∧ t.get .AUTH_FAILS 0 = s.get .AUTH_FAILS 0)) ∧ ((m.authentic x.keyIn = true → (b = [] →
    (t.session m.session).open_ = false ∧ t.engine.spiOut = s.engine.spiOut ++
    [({ op := 3, session := m.session, mseq := m.mseq, keyOut := x.keyOut } : Held).message 0 0 []]))) ∧
    ((m.authentic x.keyIn = true → (b ≠ [] → (t.session m.session).open_ = true ∧ t.engine.spiOut = s.engine.spiOut
    ++ [({ op := 3, session := m.session, mseq := m.mseq, keyOut := x.keyOut } : Held).message 0 Err.badLength.code
    []]))) ∧ s.WithinKinds [.AUTH_FAILS, .LOCK_n, .MBX_ACK_TX, .MBX_OWNER, .MBX_SERVICE, .MBX_STATE, .MESSAGES,
    .SEQ_REJECTS, .SESSIONS_OPEN] [.engine, .out] t) ∧
  (∀ (m : Msg) (l : List Msg) (s : State), s.served = true → s.engine.late = none → s.engine.spiIn = m :: l → m.op =
    3 → (s.session m.session).open_ = false → (s.session m.session).parked = none → ∃ t, exec (.close) s = .next t ∧
    t.engine =
    { s.engine with spiIn := l, spiOut := s.engine.spiOut ++ [({ op := 3, session := m.session, mseq := m.mseq } : Held).message 0 Err.session.code []] }
    ∧ s.Within [] [.engine] t) ∧
  (∀ (m : Msg) (l : List Msg) (x : Session) (b : List Byte) (bad : List Nat) (hurt : Bool) (s : State), s.served =
    true → s.engine.late = none → s.engine.spiIn = m :: l → m.op = 4 → x = s.session m.session → x.open_ = true →
    x.binding = { path := .spi } → x.admitted = true → x.parked = none → m.body.length ≤ 2016 → x.kept.find? (fun k
    => k.1 == m.mseq && k.2.op != 2) = none → x.stale m.mseq = false → b = m.crypt x.keyIn 0 → ∃ t, exec (.read bad
    hurt) s = .next t ∧ t.engine.spiIn = l ∧ ((m.authentic x.keyIn = false → t.get .AUTH_FAILS 0 = countNext
    4294967295 (s.get .AUTH_FAILS 0) ∧ t.engine = { s.engine with spiIn := l })) ∧ ((m.authentic x.keyIn = true →
    t.get .MESSAGES 0 = (s.get .MESSAGES 0 + 1) % 18446744073709551616 ∧ t.get .AUTH_FAILS 0 = s.get .AUTH_FAILS 0))
    ∧ ((m.authentic x.keyIn = true → (t.session m.session).lastAt = s.time.cycle)) ∧ ((m.authentic x.keyIn = true →
    (readItemsOf b = none → t.engine.spiOut = s.engine.spiOut ++
    [({ op := 4, session := m.session, mseq := m.mseq, keyOut := x.keyOut } : Held).message 0 Err.badLength.code
    []]))) ∧ ((m.authentic x.keyIn = true → (readItemsOf b = some [{ index := 0x7800, sub := 5 }] → 2 ≤ x.role.rank →
    s.barred ⟨.spi, x.role, m.session⟩ .AUTO_START false = none → t.engine.spiOut = s.engine.spiOut ++
    [({ op := 4, session := m.session, mseq := m.mseq, keyOut := x.keyOut } : Held).message 0 0 (leBytes 2 1 ++ [0,
    0] ++ readItem { index := 0x7800, sub := 5 } .ok ObjType.u8.code 1 (valBytes .u8 (.num (s.get .AUTO_START
    0))))]))) ∧ ((m.authentic x.keyIn = true → ∀ (it : Item) (e : Err), readItemsOf b = some [it] → entryAt it.index
    it.sub = .error e → t.engine.spiOut = s.engine.spiOut ++
    [({ op := 4, session := m.session, mseq := m.mseq, keyOut := x.keyOut } : Held).message 0 e.code (leBytes 2 1 ++
    [0, 0] ++ readItem it e 0 0 [])]))) ∧
  (∀ (m : Msg) (l : List Msg) (bad : List Nat) (hurt : Bool) (s : State), s.served = true → s.engine.late = none →
    s.engine.spiIn = m :: l → m.op = 4 → (s.session m.session).open_ = false → (s.session m.session).parked = none →
    ∃ t, exec (.read bad hurt) s = .next t ∧ t.engine =
    { s.engine with spiIn := l, spiOut := s.engine.spiOut ++ [({ op := 4, session := m.session, mseq := m.mseq } : Held).message 0 Err.session.code []] }
    ∧ s.Within [] [.engine] t) ∧
  (∀ (m : Msg) (l : List Msg) (x : Session) (b : List Byte) (s : State), s.served = true → s.engine.late = none →
    s.engine.spiIn = m :: l → m.op = 5 → x = s.session m.session → x.open_ = true → x.binding = { path := .spi } →
    x.admitted = true → x.parked = none → m.body.length ≤ 2016 → x.kept.find? (fun k => k.1 == m.mseq && k.2.op != 2)
    = none → x.stale m.mseq = false → b = m.crypt x.keyIn 0 → ∃ t, exec (.write) s = .next t ∧ t.engine.spiIn = l ∧
    ((m.authentic x.keyIn = false → t.get .AUTH_FAILS 0 = countNext 4294967295 (s.get .AUTH_FAILS 0) ∧ t.engine =
    { s.engine with spiIn := l })) ∧ ((m.authentic x.keyIn = true → t.get .MESSAGES 0 = (s.get .MESSAGES 0 + 1) %
    18446744073709551616 ∧ t.get .AUTH_FAILS 0 = s.get .AUTH_FAILS 0)) ∧ ((m.authentic x.keyIn = true → (t.session
    m.session).lastAt = s.time.cycle)) ∧ ((m.authentic x.keyIn = true → ((if leNat (slice b 0 2) = 0 ∨ 255 < leNat
    (slice b 0 2) ∨ b.length < 4 then none else writeItemsOf (leNat (slice b 0 2)) (b.drop 4)) = none →
    t.engine.spiOut = s.engine.spiOut ++ [({ op := 5, session := m.session, mseq := m.mseq, keyOut := x.keyOut } :
    Held).message 0 Err.badLength.code []]))) ∧ ((m.authentic x.keyIn = true → ∀ v : Byte, (if leNat (slice b 0 2) =
    0 ∨ 255 < leNat (slice b 0 2) ∨ b.length < 4 then none else writeItemsOf (leNat (slice b 0 2)) (b.drop 4)) = some
    [{ index := 0x7800, sub := 5, type := ObjType.u8.code, value := [v] }] → v.toNat ≤ 1 → 2 ≤ x.role.rank →
    s.notActingFor ⟨.spi, x.role, m.session⟩ = false → s.barred ⟨.spi, x.role, m.session⟩ .AUTO_START true = none →
    t.get .AUTO_START 0 = v.toNat ∧ t.engine.spiOut = s.engine.spiOut ++
    [({ op := 5, session := m.session, mseq := m.mseq, keyOut := x.keyOut } : Held).message 0 0 (leBytes 2 1 ++ [0,
    0] ++ writeItem { index := 0x7800, sub := 5 } .ok)])) ∧ ((m.authentic x.keyIn = true → ∀ (it : Item) (e : Err),
    (if leNat (slice b 0 2) = 0 ∨ 255 < leNat (slice b 0 2) ∨ b.length < 4 then none else writeItemsOf (leNat (slice
    b 0 2)) (b.drop 4)) = some [it] → entryAt it.index it.sub = .error e → t.engine.spiOut = s.engine.spiOut ++
    [({ op := 5, session := m.session, mseq := m.mseq, keyOut := x.keyOut } : Held).message 0 e.code (leBytes 2 1 ++
    [0, 0] ++ writeItem it e)]))) ∧
  (∀ (m : Msg) (l : List Msg) (s : State), s.served = true → s.engine.late = none → s.engine.spiIn = m :: l → m.op =
    5 → (s.session m.session).open_ = false → (s.session m.session).parked = none → ∃ t, exec (.write) s = .next t ∧
    t.engine =
    { s.engine with spiIn := l, spiOut := s.engine.spiOut ++ [({ op := 5, session := m.session, mseq := m.mseq } : Held).message 0 Err.session.code []] }
    ∧ s.Within [] [.engine] t) ∧
  (∀ (m : Msg) (l : List Msg) (x : Session) (b : List Byte) (bad : List Nat) (hurt : Bool) (s : State), s.served =
    true → s.engine.late = none → s.engine.spiIn = m :: l → m.op = 6 → x = s.session m.session → x.open_ = true →
    x.binding = { path := .spi } → x.admitted = true → x.parked = none → m.body.length ≤ 2016 → x.kept.find? (fun k
    => k.1 == m.mseq && k.2.op != 2) = none → x.stale m.mseq = false → b = m.crypt x.keyIn 0 → ∃ t, exec (.segRead
    bad hurt) s = .next t ∧ t.engine.spiIn = l ∧ ((m.authentic x.keyIn = false → t.get .AUTH_FAILS 0 = countNext
    4294967295 (s.get .AUTH_FAILS 0) ∧ t.engine = { s.engine with spiIn := l })) ∧ ((m.authentic x.keyIn = true →
    t.get .MESSAGES 0 = (s.get .MESSAGES 0 + 1) % 18446744073709551616 ∧ t.get .AUTH_FAILS 0 = s.get .AUTH_FAILS 0))
    ∧ ((m.authentic x.keyIn = true → (t.session m.session).lastAt = s.time.cycle)) ∧ ((m.authentic x.keyIn = true →
    (b.length ≠ 12 → t.engine.spiOut = s.engine.spiOut ++
    [({ op := 6, session := m.session, mseq := m.mseq, keyOut := x.keyOut } : Held).message 0 Err.badLength.code
    []]))) ∧ ((m.authentic x.keyIn = true → ∀ e : Err, b.length = 12 → entryAt (leNat (slice b 0 2)) (leNat (slice b
    2 1)) = .error e → t.engine.spiOut = s.engine.spiOut ++
    [({ op := 6, session := m.session, mseq := m.mseq, keyOut := x.keyOut } : Held).message 0 e.code []])) ∧
    ((m.authentic x.keyIn = true → (b.length = 12 → leNat (slice b 0 2) = 0x1502 → leNat (slice b 2 1) = 7 → leNat
    (slice b 4 4) = 0 → (s.getBytes .DEVICE_PUB 0).length ≤ 2004 → s.barred ⟨.spi, x.role, m.session⟩ .DEVICE_PUB
    false = none → t.engine.spiOut = s.engine.spiOut ++
    [({ op := 6, session := m.session, mseq := m.mseq, keyOut := x.keyOut } : Held).message 8 0 (segHead
    { index := 0x1502, sub := 7 } 0 (s.getBytes .DEVICE_PUB 0).length ++ s.getBytes .DEVICE_PUB 0)])))) ∧
  (∀ (m : Msg) (l : List Msg) (bad : List Nat) (hurt : Bool) (s : State), s.served = true → s.engine.late = none →
    s.engine.spiIn = m :: l → m.op = 6 → (s.session m.session).open_ = false → (s.session m.session).parked = none →
    ∃ t, exec (.segRead bad hurt) s = .next t ∧ t.engine =
    { s.engine with spiIn := l, spiOut := s.engine.spiOut ++ [({ op := 6, session := m.session, mseq := m.mseq } : Held).message 0 Err.session.code []] }
    ∧ s.Within [] [.engine] t) ∧
  (∀ (m : Msg) (l : List Msg) (x : Session) (b : List Byte) (s : State), s.served = true → s.engine.late = none →
    s.engine.spiIn = m :: l → m.op = 7 → x = s.session m.session → x.open_ = true → x.binding = { path := .spi } →
    x.admitted = true → x.parked = none → m.body.length ≤ 2016 → x.kept.find? (fun k => k.1 == m.mseq && k.2.op != 2)
    = none → x.stale m.mseq = false → b = m.crypt x.keyIn 0 → ∃ t, exec (.segWrite) s = .next t ∧ t.engine.spiIn = l
    ∧ ((m.authentic x.keyIn = false → t.get .AUTH_FAILS 0 = countNext 4294967295 (s.get .AUTH_FAILS 0) ∧ t.engine =
    { s.engine with spiIn := l })) ∧ ((m.authentic x.keyIn = true → t.get .MESSAGES 0 = (s.get .MESSAGES 0 + 1) %
    18446744073709551616 ∧ t.get .AUTH_FAILS 0 = s.get .AUTH_FAILS 0)) ∧ ((m.authentic x.keyIn = true → (t.session
    m.session).lastAt = s.time.cycle)) ∧ ((m.authentic x.keyIn = true → (b.length < 12 → t.engine.spiOut =
    s.engine.spiOut ++ [({ op := 7, session := m.session, mseq := m.mseq, keyOut := x.keyOut } : Held).message 0
    Err.badLength.code []]))) ∧ ((m.authentic x.keyIn = true → ∀ e : Err, 12 ≤ b.length → entryAt (leNat (slice b 0
    2)) (leNat (slice b 2 1)) = .error e → t.engine.spiOut = s.engine.spiOut ++
    [({ op := 7, session := m.session, mseq := m.mseq, keyOut := x.keyOut } : Held).message 0 e.code (segHead
    { index := leNat (slice b 0 2), sub := leNat (slice b 2 1) } (leNat (slice b 4 4)) (leNat (slice b 8 4)))])) ∧
    ((m.authentic x.keyIn = true → ∀ (r : ObjInfo) (i : Nat), 12 ≤ b.length → entryAt (leNat (slice b 0 2)) (leNat
    (slice b 2 1)) = .ok (r, i) → r.isBytes = true → x.segKey = none → x.segQueue = none → leNat (slice b 4 4) = 0 →
    m.flags.testBit 3 = false → (t.session m.session).segKey = some ⟨r.obj, i⟩ ∧ (t.session m.session).segBuf =
    b.drop 12 ∧ t.engine.spiOut = s.engine.spiOut ++
    [({ op := 7, session := m.session, mseq := m.mseq, keyOut := x.keyOut } : Held).message 0 0 (segHead
    { index := leNat (slice b 0 2), sub := leNat (slice b 2 1) } 0 (leNat (slice b 8 4)))]))) ∧
  (∀ (m : Msg) (l : List Msg) (s : State), s.served = true → s.engine.late = none → s.engine.spiIn = m :: l → m.op =
    7 → (s.session m.session).open_ = false → (s.session m.session).parked = none → ∃ t, exec (.segWrite) s = .next t
    ∧ t.engine =
    { s.engine with spiIn := l, spiOut := s.engine.spiOut ++ [({ op := 7, session := m.session, mseq := m.mseq } : Held).message 0 Err.session.code []] }
    ∧ s.Within [] [.engine] t) ∧
  (∀ (m : Msg) (l : List Msg) (x : Session) (b : List Byte) (s : State), s.served = true → s.engine.late = none →
    s.engine.spiIn = m :: l → m.op = 8 → x = s.session m.session → x.open_ = true → x.binding = { path := .spi } →
    x.admitted = true → x.parked = none → m.body.length ≤ 2016 → x.kept.find? (fun k => k.1 == m.mseq && k.2.op != 2)
    = none → x.stale m.mseq = false → b = m.crypt x.keyIn 0 → ∃ t, exec (.describe) s = .next t ∧ t.engine.spiIn = l
    ∧ ((m.authentic x.keyIn = false → t.get .AUTH_FAILS 0 = countNext 4294967295 (s.get .AUTH_FAILS 0) ∧ t.engine =
    { s.engine with spiIn := l })) ∧ ((m.authentic x.keyIn = true → t.get .MESSAGES 0 = (s.get .MESSAGES 0 + 1) %
    18446744073709551616 ∧ t.get .AUTH_FAILS 0 = s.get .AUTH_FAILS 0)) ∧ ((m.authentic x.keyIn = true → (t.session
    m.session).lastAt = s.time.cycle)) ∧ ((m.authentic x.keyIn = true → (b.length ≠ 4 → t.engine.spiOut =
    s.engine.spiOut ++ [({ op := 8, session := m.session, mseq := m.mseq, keyOut := x.keyOut } : Held).message 0
    Err.badLength.code []]))) ∧ ((m.authentic x.keyIn = true → ∀ (r : ObjInfo) (i : Nat), b.length = 4 → entryAt
    (leNat (slice b 0 2)) (leNat (slice b 2 1)) = .ok (r, i) → t.engine.spiOut = s.engine.spiOut ++
    [({ op := 8, session := m.session, mseq := m.mseq, keyOut := x.keyOut } : Held).message 0 0 (describeBytes r
    i)])) ∧ ((m.authentic x.keyIn = true → ∀ e : Err, b.length = 4 → entryAt (leNat (slice b 0 2)) (leNat (slice b 2
    1)) = .error e → t.engine.spiOut = s.engine.spiOut ++
    [({ op := 8, session := m.session, mseq := m.mseq, keyOut := x.keyOut } : Held).message 0 e.code []])) ∧ s.Within
    [(.MESSAGES, 0), (.AUTH_FAILS, 0)] [.engine] t) ∧
  (∀ (m : Msg) (l : List Msg) (s : State), s.served = true → s.engine.late = none → s.engine.spiIn = m :: l → m.op =
    8 → (s.session m.session).open_ = false → (s.session m.session).parked = none → ∃ t, exec (.describe) s = .next t
    ∧ t.engine =
    { s.engine with spiIn := l, spiOut := s.engine.spiOut ++ [({ op := 8, session := m.session, mseq := m.mseq } : Held).message 0 Err.session.code []] }
    ∧ s.Within [] [.engine] t) ∧
  (∀ (m : Msg) (l : List Msg) (x : Session) (b : List Byte) (s : State), s.served = true → s.engine.late = none →
    s.engine.spiIn = m :: l → m.op = 9 → x = s.session m.session → x.open_ = true → x.binding = { path := .spi } →
    x.admitted = true → x.parked = none → m.body.length ≤ 2016 → x.kept.find? (fun k => k.1 == m.mseq && k.2.op != 2)
    = none → x.stale m.mseq = false → b = m.crypt x.keyIn 0 → ∃ t, exec (.keep) s = .next t ∧ t.engine.spiIn = l ∧
    ((m.authentic x.keyIn = false → t.get .AUTH_FAILS 0 = countNext 4294967295 (s.get .AUTH_FAILS 0) ∧ t.engine =
    { s.engine with spiIn := l })) ∧ ((m.authentic x.keyIn = true → t.get .MESSAGES 0 = (s.get .MESSAGES 0 + 1) %
    18446744073709551616 ∧ t.get .AUTH_FAILS 0 = s.get .AUTH_FAILS 0)) ∧ ((m.authentic x.keyIn = true → (t.session
    m.session).lastAt = s.time.cycle)) ∧ ((m.authentic x.keyIn = true → (b = [] → t.engine.spiOut = s.engine.spiOut
    ++ [({ op := 9, session := m.session, mseq := m.mseq, keyOut := x.keyOut } : Held).message 0 0 []]))) ∧
    ((m.authentic x.keyIn = true → (b ≠ [] → t.engine.spiOut = s.engine.spiOut ++
    [({ op := 9, session := m.session, mseq := m.mseq, keyOut := x.keyOut } : Held).message 0 Err.badLength.code
    []]))) ∧ s.Within [(.MESSAGES, 0), (.AUTH_FAILS, 0)] [.engine] t) ∧
  (∀ (m : Msg) (l : List Msg) (s : State), s.served = true → s.engine.late = none → s.engine.spiIn = m :: l → m.op =
    9 → (s.session m.session).open_ = false → (s.session m.session).parked = none → ∃ t, exec (.keep) s = .next t ∧
    t.engine =
    { s.engine with spiIn := l, spiOut := s.engine.spiOut ++ [({ op := 9, session := m.session, mseq := m.mseq } : Held).message 0 Err.session.code []] }
    ∧ s.Within [] [.engine] t) ∧
  (∀ (w : Who) (index sub type : Nat) (value : List Byte) (v : Byte) (s : State), s.served = true → 2 ≤ w.role.rank →
    s.barred w .AUTO_START true = none → s.notActingFor w = false → index = 0x7800 → sub = 5 → type = ObjType.u8.code
    → value = [v] → v.toNat ≤ 1 → ∃ t, exec (.dictWrite w index sub type value) s = .next t ∧ t.get .AUTO_START 0 =
    v.toNat ∧ t.answer = ⟨.ok, .unit⟩ ∧ s.Within [(.AUTO_START, 0)] [] t) ∧
  (∀ (w : Who) (index sub type : Nat) (value : List Byte) (b : Fin 32) (s : State), s.served = true → 2 ≤ w.role.rank
    → s.barred w .LOOP_SETTLE true = none → s.notActingFor w = false → s.engine.armed = none → s.engine.staged = [] →
    index = 0x2100 + b.val → sub = 9 → type = ObjType.u16.code → value = leBytes 2 70 → ∃ t, exec (.dictWrite w index
    sub type value) s = .next t ∧ t.engine.staged = [(⟨.LOOP_SETTLE, b.val⟩, .num 70)] ∧ t.get .LOOP_SETTLE b = s.get
    .LOOP_SETTLE b ∧ t.answer = ⟨.ok, .unit⟩ ∧ s.Within [] [.engine] t) ∧
  (∀ (w : Who) (index sub type : Nat) (value : List Byte) (e : Err) (s : State), s.served = true → s.checkWrite w
    ⟨index, sub, type, value⟩ = .error e → ∃ t, exec (.dictWrite w index sub type value) s = .next t ∧ t.answer =
    ⟨e, .unit⟩ ∧ s.Within [] [] t)

/-- R278, R279, R467 to R469: datagrams, ARP and ICMP requests, and the commands of the SPI host port. -/
def Obligations.Transports : Prop :=
  (∀ (sip sport dip dport : Nat) (fr : Bool) (data : List Byte) (m : Msg) (s : State), s.ethOn = true → fr = false →
    ((dip : Int) = s.get .IP_ADDRESS 0) → ((dport : Int) = s.get .ACCESS_PORT 0) → msgOf data = some m → s.served =
    true → bit (s.get .ACCESS_PATHS 0) 1 = true → m.flags % 2 = 0 → m.op < 3 → 0 < m.op → m.version = 1 →
    s.engine.udpIn.length < 4 → ∃ t, exec (.udpDatagramRx sip sport dip dport fr data) s = .next t ∧ t.engine.udpIn =
    s.engine.udpIn ++ [({ path := .udp, addr := sip, port := sport }, m)] ∧ s.Within [(.ETH_LINK, 0)] [.engine] t) ∧
  (∀ (sip sport dip dport : Nat) (fr : Bool) (data : List Byte) (s : State), s.ethOn = true → (fr = true ∨ (dip :
    Int) ≠ s.get .IP_ADDRESS 0 ∨ (dport : Int) ≠ s.get .ACCESS_PORT 0 ∨ msgOf data = none) → ∃ t, exec
    (.udpDatagramRx sip sport dip dport fr data) s = .next t ∧ t.get .ETH_RX_DROPPED 0 = countNext 4294967295 (s.get
    .ETH_RX_DROPPED 0) ∧ t.engine = s.engine ∧ s.Within [(.ETH_LINK, 0), (.ETH_RX_DROPPED, 0)] [] t) ∧
  (∀ (sip tip : Nat) (s : State), s.ethOn = true → ((tip : Int) = s.get .IP_ADDRESS 0) → ∃ t, exec (.arpRequest sip
    tip) s = .next t ∧ t.out = s.out ++ [.ethReply 0 sip (leBytes 6 (s.get .MAC_ADDRESS 0).toNat)] ∧ s.Within
    [(.ETH_LINK, 0)] [.out] t) ∧
  (∀ (sip dip : Nat) (data : List Byte) (s : State), s.ethOn = true → ((dip : Int) = s.get .IP_ADDRESS 0) → ∃ t, exec
    (.icmpEcho sip dip data) s = .next t ∧ t.out = s.out ++ [.ethReply 1 sip data] ∧ s.Within [(.ETH_LINK, 0)] [.out]
    t) ∧
  (∀ (c : Byte) (s : State), s.spiOn = true → c = 1 → s.engine.spiOut = [] → ∃ t, exec (.spiStatus c) s = .next t ∧
    t.out = s.out ++ [.spi (leBytes 1 ((if 4 ≤ s.engine.spiIn.length then 2 else 0) + (if s.spiSession then 4 else
    0)) ++ [0, 0, 0])] ∧ t.engine = { s.engine with spiRead := none } ∧ s.Within [] [.engine, .out] t) ∧
  (∀ (c : Byte) (s : State), s.spiOn = true → c ≠ 1 → c ≠ 2 → c ≠ 3 → c ≠ 0x0B → ∃ t, exec (.spiStatus c) s = .next t
    ∧ t.get .SPI_ERRORS 0 = countNext 4294967295 (s.get .SPI_ERRORS 0) ∧ t.engine = { s.engine with spiRead := none }
    ∧ s.Within [(.SPI_ERRORS, 0)] [.engine] t) ∧
  (∀ (data : List Byte) (m : Msg) (s : State), s.spiOn = true → s.engine.spiIn.length < 4 → msgOf data = some m →
    s.served = true → bit (s.get .ACCESS_PATHS 0) 0 = true → m.flags % 2 = 0 → m.op < 3 → 0 < m.op → m.version = 1 →
    ∃ t, exec (.spiMsgWrite data) s = .next t ∧ t.engine =
    { s.engine with spiIn := s.engine.spiIn ++ [m], spiRead := none } ∧ s.Within [] [.engine] t) ∧
  (∀ (data : List Byte) (s : State), s.spiOn = true → s.engine.spiIn.length < 4 → msgOf data = none → ∃ t, exec
    (.spiMsgWrite data) s = .next t ∧ t.engine = { s.engine with spiRead := none } ∧ s.Within [] [.engine] t) ∧
  (∀ (data : List Byte) (s : State), s.spiOn = true → 4 ≤ s.engine.spiIn.length → ∃ t, exec (.spiMsgWrite data) s =
    .next t ∧ t.get .SPI_ERRORS 0 = countNext 4294967295 (s.get .SPI_ERRORS 0) ∧ t.engine.spiIn = s.engine.spiIn ∧
    s.Within [(.SPI_ERRORS, 0)] [.engine] t) ∧
  (∀ (n : Nat) (m : Msg) (l : List Msg) (s : State), s.spiOn = true → s.engine.spiOut = m :: l → m.bytes.length ≤ n →
    ∃ t, exec (.spiMsgRead n) s = .next t ∧ t.engine = { s.engine with spiOut := l, spiRead := some .response } ∧
    t.out = s.out ++ [.spi (m.bytes ++ List.replicate (n - m.bytes.length) 0xFF)] ∧ s.Within [] [.engine, .out] t) ∧
  (∀ (n : Nat) (m : Msg) (l : List Msg) (s : State), s.spiOn = true → s.engine.spiOut = m :: l → n < m.bytes.length →
    ∃ t, exec (.spiMsgRead n) s = .next t ∧ t.engine = { s.engine with spiRead := some .response } ∧ t.out = s.out ++
    [.spi (m.bytes.take n)] ∧ s.Within [] [.engine, .out] t) ∧
  (∀ (q words : Nat) (x y : Slot) (v w : Word) (l : List Slot) (s : State), s.spiOn = true → q < 16 → (s.queue
    q).drain = 1 → s.get .ST_STATE 0 ≠ 1 → s.fenced 5 q = false → (s.queue q).framing = 0 → (s.queue q).incoming =
    none → (s.queue q).slots = x :: y :: l → x.word = some v → y.word = some w → x.bad = false → y.bad = false →
    words = 2 → ∃ t, exec (.spiQueueRead q words) s = .next t ∧ t.out = s.out ++ [.spi ((leBytes 4 v.toNat).reverse
    ++ [0] ++ (leBytes 4 w.toNat).reverse ++ [0])] ∧ (t.queue q).slots = l ∧ t.engine.spiRead = some (.queue q) ∧
    s.WithinKinds [.FENCE_SUPPRESSED, .MAX_FILL, .QC_CAUSE] [.engine, .queues, .test, .draws, .out] t) ∧
  (∀ (q words : Nat) (s : State), s.spiOn = true → q < 16 → (s.queue q).drain = 1 → s.get .ST_STATE 0 ≠ 1 → s.fenced
    5 q = true → ∃ t, exec (.spiQueueRead q words) s = .next t ∧ t.out = s.out ++ [.spi (List.replicate (5 * words)
    0)] ∧ t.queues = s.queues ∧ s.Within [] [.engine, .out] t) ∧
  (∀ (q words : Nat) (s : State), s.spiOn = true → 16 ≤ q ∨ (s.queue q).drain ≠ 1 → s.get .ST_STATE 0 ≠ 1 → ∃ t, exec
    (.spiQueueRead q words) s = .next t ∧ t.out = s.out ++ [.spi (List.replicate (5 * words) 0xFF)] ∧ t.queues =
    s.queues ∧ t.engine = { s.engine with spiRead := none } ∧ s.Within [] [.engine, .out] t)

/-- R39, R41, R43: what the writes that move VT accept and what they refuse. VT and SLEW_REMAINING are held in units
of 2^-24 ns, so that VT_SLEW and VT_LOAD, given in 2^-16 ns, count 256 each; VT_INCREMENT is in units of 2^-24 ns,
nominally 2 ns. -/
def Obligations.TimeWritesJudged : Prop :=
  (∀ (w : Who) (v : Int) (s : State), s.Open w .engineer .VT_INCREMENT → s.notActingFor w = false → s.ownsServo w =
    true → s.vtHeld = false → 0x01FFBE77 ≤ v → v ≤ 0x02004189 → ∃ t, exec (.vtIncrementWrite w v) s = .next t ∧ t.get
    .VT_INCREMENT 0 = v ∧ State.reset.get .VT_INCREMENT 0 = 2 * 2 ^ 24 ∧ t.time =
    { s.time with incWrite := some (s.time.cycle, s.get .VT_INCREMENT 0) } ∧ t.answer = ⟨.ok, .unit⟩ ∧ s.Within
    [(.VT_INCREMENT, 0)] [.time] t) ∧
  (∀ (w : Who) (v : Int) (s : State), s.Open w .engineer .VT_INCREMENT → s.notActingFor w = false → s.ownsServo w =
    true → s.vtHeld = false → v < 0x01FFBE77 ∨ 0x02004189 < v → ∃ t, exec (.vtIncrementWrite w v) s = .next t ∧
    t.answer = ⟨.refused, .unit⟩ ∧ t.get .EV_COUNT 0x05 = min (s.get .EV_COUNT 0x05 + 1) 4294967295 ∧ t.get
    .VT_INCREMENT 0 = s.get .VT_INCREMENT 0 ∧ s.Within [] [] t) ∧
  (∀ (w : Who) (v : Int) (s : State), s.Open w .engineer .VT_SLEW → s.ownsServo w = true → s.vtHeld = false →
    (((s.time.vtSlew + v * 256).natAbs : Int) ≤ s.get .STEP_THRESHOLD 0 * 2 ^ 24) → ∃ t, exec (.vtSlew w v) s = .next
    t ∧ t.time =
    { s.time with vtSlew := s.time.vtSlew + v * 256, vtSlewing := s.time.vtSlewing || v * 256 != 0, slewWrite := some (s.time.cycle, s.time.vtSlew, s.time.vtSlewing) }
    ∧ t.answer = ⟨.ok, .unit⟩ ∧ s.Within [] [.time] t) ∧
  (∀ (w : Who) (v : Int) (s : State), s.Open w .engineer .VT_SLEW → s.ownsServo w = true → s.vtHeld = false → (s.get
    .STEP_THRESHOLD 0 * 2 ^ 24 < ((s.time.vtSlew + v * 256).natAbs : Int)) → ∃ t, exec (.vtSlew w v) s = .next t ∧
    t.answer = ⟨.refused, .unit⟩ ∧ t.get .EV_COUNT 0x05 = min (s.get .EV_COUNT 0x05 + 1) 4294967295 ∧ t.time = s.time
    ∧ s.Within [] [] t) ∧
  (∀ (w : Who) (v : Int) (s : State), s.Open w .engineer .VT_LOAD → 0 ≤ v → s.get .FRAME_STATE 0 = 0 → ∃ t, exec
    (.vtLoad w v) s = .next t ∧ t.time.vt = v * 256 ∧ t.time.vtSlew = 0 ∧ (s.get .VT_SOURCE 0 = 3 → t.get .VT_STATE 0
    = 5) ∧ (s.get .VT_SOURCE 0 ≠ 3 → t.get .VT_STATE 0 = s.get .VT_STATE 0) ∧ t.answer = ⟨.ok, .unit⟩ ∧ s.Within
    [(.VT_STATE, 0), (.HOLDOVER_TIME, 0)] [.time] t) ∧
  (∀ (w : Who) (v : Int) (s : State), s.Open w .engineer .VT_LOAD → 0 ≤ v → s.get .FRAME_STATE 0 ≠ 0 → ∃ t, exec
    (.vtLoad w v) s = .next t ∧ t.answer = ⟨.refused, .unit⟩ ∧ t.get .EV_COUNT 0x05 = min (s.get .EV_COUNT 0x05 + 1)
    4294967295 ∧ t.time = s.time ∧ s.Within [] [] t)

/-- R635, R32 to R34: the cases of an arming command in their order. A refusal leaves the staged configuration and
the armed commit as they are, counts once in COMMIT_REFUSALS, and only the cases of R32 and R33 raise their event,
by bits 6 and 7 of MJ_CAUSE. -/
def Obligations.ArmingOrder : Prop :=
  (∀ (w : Who) (g d : Nat) (s : State), s.Open w .engineer .COMMIT_ARM → ∃ t, exec (.commitArm w g d) s = .next t ∧
    (if s.engine.armed = some (g, d) then t.answer = ⟨.ok, .unit⟩ ∧ t.engine = s.engine ∧ t.get .COMMIT_REFUSALS 0 =
    s.get .COMMIT_REFUSALS 0 ∧ s.Within [] [] t else if 3 ≤ s.get .VAT_STATE 0 then t.answer = ⟨.discordant, .unit⟩ ∧
    t.engine = s.engine ∧ t.get .COMMIT_REFUSALS 0 = countNext 4294967295 (s.get .COMMIT_REFUSALS 0) ∧ s.Within
    [(.COMMIT_REFUSALS, 0)] [] t else if s.engine.armed ≠ none then t.answer = ⟨.commitArmed, .unit⟩ ∧ t.engine =
    s.engine ∧ t.get .COMMIT_REFUSALS 0 = countNext 4294967295 (s.get .COMMIT_REFUSALS 0) ∧ s.Within
    [(.COMMIT_REFUSALS, 0)] [] t else if s.instant g - s.time.vt < 64 * tick24 ∨ 67108864 * tick24 < s.instant g -
    s.time.vt then t.answer = ⟨.commitLate, .unit⟩ ∧ t.engine = s.engine ∧ t.get .COMMIT_REFUSALS 0 = countNext
    4294967295 (s.get .COMMIT_REFUSALS 0) ∧ bit (t.get .MJ_CAUSE 0) 6 = true ∧ (bit (s.get .MJ_CAUSE 0) 6 = false →
    t.get .EV_COUNT 0xC6 = min (s.get .EV_COUNT 0xC6 + 1) 4294967295) ∧ s.Within [(.COMMIT_REFUSALS, 0)] [] t else if
    d ≠ s.stagedDigest then t.answer = ⟨.commitDigest, .unit⟩ ∧ t.engine = s.engine ∧ t.get .COMMIT_REFUSALS 0 =
    countNext 4294967295 (s.get .COMMIT_REFUSALS 0) ∧ bit (t.get .MJ_CAUSE 0) 7 = true ∧ (bit (s.get .MJ_CAUSE 0) 7 =
    false → t.get .EV_COUNT 0xC7 = min (s.get .EV_COUNT 0xC7 + 1) 4294967295) ∧ s.Within [(.COMMIT_REFUSALS, 0)] [] t
    else t.answer = ⟨.ok, .unit⟩ ∧ t.engine = { s.engine with armed := some (g, d) } ∧ t.get .ARMED_INDEX 0 = g ∧
    t.get .ARMED_DIGEST 0 = d ∧ s.Within [(.ARMED_INDEX, 0), (.ARMED_DIGEST, 0)] [.engine] t))

/-- R479: the write arms the interrupt of the channel of the session; with all inbound slots empty, at the write or
once the service takes the last notice, cause bit 1 of the group raises EV 0xC1 and the interrupt is disarmed. -/
def Obligations.EmptyInterrupt : Prop :=
  (∀ (w : Who) (k : Fin 8) (s : State), s.Open w .operator .MBX_EMPTY_ARM → s.boundTo w k = true → (s.box k).inbox ≠
    [] → ∃ t, exec (.mbxEmptyArm w k) s = .next t ∧ (t.box k).emptyArmed = true ∧ t.answer = ⟨.ok, .unit⟩ ∧ s.Within
    [(.MBX_STATE, k.val), (.MBX_CROSSINGS, k.val)] [.test] t) ∧
  (∀ (w : Who) (k : Fin 8) (s : State), s.Open w .operator .MBX_EMPTY_ARM → s.boundTo w k = true → (s.box k).inbox =
    [] → ∃ t, exec (.mbxEmptyArm w k) s = .next t ∧ (t.box k).emptyArmed = false ∧ bit (t.get .MJ_CAUSE 0) 1 = true ∧
    (bit (s.get .MJ_CAUSE 0) 1 = false → t.get .EV_COUNT 0xC1 = min (s.get .EV_COUNT 0xC1 + 1) 4294967295) ∧ t.answer
    = ⟨.ok, .unit⟩ ∧ s.Within [(.MBX_STATE, k.val), (.MBX_CROSSINGS, k.val)] [.test] t) ∧
  (∀ (k : Fin 8) (x : Notice) (s : State), s.get .MBX_STATE k ≠ 0 → (s.box k).held = [] → (s.box k).inbox = [x] →
    (s.box k).emptyArmed = true → ∃ t, exec (.mbxServiceTake k) s = .next t ∧ (t.box k).inbox = [] ∧ (t.box
    k).emptyArmed = false ∧ bit (t.get .MJ_CAUSE 0) 1 = true ∧ (bit (s.get .MJ_CAUSE 0) 1 = false → t.get .EV_COUNT
    0xC1 = min (s.get .EV_COUNT 0xC1 + 1) 4294967295) ∧ s.Within [(.MBX_STATE, k.val), (.MBX_CROSSINGS, k.val)] [] t)

/-- R518: the last management core not fenced stays unfenced, with bit 2 of FI_CAUSE and EV 0xFA; FENCE_SET of a
fenced instance and FENCE_LIFT of an instance not fenced are answered OK and change nothing. -/
def Obligations.FencesWithoutEffect : Prop :=
  (∀ (w : Who) (cls : Fin 10) (n : Nat) (s : State), s.Open w .service .FENCE_SET → cls.val = 9 → n < 2 → s.fenced 9
    n = false → (s.fenceTick 9 n).lifted = false → s.fenced 9 (1 - n) = true → ∃ t, exec (.fenceSet w cls n) s =
    .next t ∧ t.answer = ⟨.refused, .unit⟩ ∧ t.fenced 9 n = false ∧ bit (t.get .FI_CAUSE 0) 2 = true ∧ (bit (s.get
    .FI_CAUSE 0) 2 = false → t.get .EV_COUNT 0xFA = min (s.get .EV_COUNT 0xFA + 1) 4294967295) ∧ s.Within
    [(.FI_CAUSE, 0)] [] t) ∧
  (∀ (w : Who) (cls : Fin 10) (n : Nat) (s : State), s.Open w .service .FENCE_SET → n < fenceInstances cls → s.fenced
    cls n = true → ∃ t, exec (.fenceSet w cls n) s = .next t ∧ t.answer = ⟨.ok, .unit⟩ ∧ s.Within [] [] t) ∧
  (∀ (w : Who) (cls : Fin 10) (n : Nat) (s : State), s.Open w .service .FENCE_LIFT → n < fenceInstances cls →
    s.fenced cls n = false → ∃ t, exec (.fenceLift w cls n) s = .next t ∧ t.answer = ⟨.ok, .unit⟩ ∧ s.Within [] [] t)

/-- R148: a request that finds the converter off or the slot occupied, or whose word is reserved, is refused, counted
and reported; a completed injected conversion raises EV 0x48 + t. A fenced converter raises no event (R519). -/
def Obligations.InjectedRequests : Prop :=
  (∀ (w : Who) (t0 : Fin 4) (word : Nat) (s : State), s.Open w .engineer .INJ_REQUEST → s.get .TRIER_STATE t0 = 0 ∨
    (s.trier t0).slot ≠ none ∨ entryGood word = false → ∃ t, exec (.injRequest w t0 word) s = .next t ∧ t.answer =
    ⟨.refused, .unit⟩ ∧ t.get .INJ_REFUSED t0 = countNext 4294967295 (s.get .INJ_REFUSED t0) ∧ bit (t.get
    .TRIER_CAUSE t0) 2 = true ∧ (s.fenced 4 t0 = false → t.get .EV_COUNT 0x4D = min (s.get .EV_COUNT 0x4D + 1)
    4294967295) ∧ t.triers = s.triers ∧ s.Within [(.INJ_REFUSED, t0.val), (.TRIER_CAUSE, t0.val), (.FENCE_SUPPRESSED,
    4)] [] t) ∧
  (∀ (t0 : Fin 4) (raw : Int) (k : Nat) (s : State), s.workOver (s.trier t0) = true → (s.trier t0).work = .injected k
    → s.fenced 4 t0 = false → ∃ t, exec (.trierConversionDone t0 raw) s = .next t ∧ t.get .INJ_RESULT t0 =
    ((s.resultWord t0 (s.trier t0) raw 0 true).toNat : Int) ∧ t.get .EV_COUNT (0x48 + t0.val) = min (s.get .EV_COUNT
    (0x48 + t0.val) + 1) 4294967295)

/-- R151: the last step of a calibration whose offset exceeds 64 LSB, in units of 2^-8 LSB, or whose gain, in units
of 2^-30, is off by more than one part in a hundred. A fenced converter raises no event (R519). -/
def Obligations.CalibrationFault : Prop :=
  (∀ (t0 : Fin 4) (offset : Int) (gain : Nat) (s : State), (s.trier t0).work = .calibrate 63 → s.workOver (s.trier
    t0) = true → (64 * 256 < offset.natAbs ∨ 2 ^ 30 < ((gain : Int) - 2 ^ 30).natAbs * 100) → ∃ t, exec
    (.trierCalStepDone t0 offset gain) s = .next t ∧ t.get .TRIER_CAL_OFFSET t0 = s.get .TRIER_CAL_OFFSET t0 ∧ t.get
    .TRIER_CAL_GAIN t0 = s.get .TRIER_CAL_GAIN t0 ∧ t.get .CAL_STATE t0 = 4 ∧ bit (t.get .TRIER_CAUSE t0) 5 = true ∧
    (s.fenced 4 t0 = false → t.get .EV_COUNT 0x4F = min (s.get .EV_COUNT 0x4F + 1) 4294967295))

/-- Blocks of 1 to 64 records with values of 24 bits and flag bytes: whichever order, Rice parameter and form the
press chooses, or verbatim when it is told to, reading the words back gives every value and flag byte, and leaves
the words after the block. -/
def Obligations.PressBlocksRoundTrip : Prop :=
  ∀ (verbatim : Bool) (rs : List Rec) (rest : List Word), 0 < rs.length → rs.length ≤ 64 →
    (∀ r ∈ rs, -8388608 ≤ r.value ∧ r.value ≤ 8388607 ∧ r.flags < 256) →
    decodeBlock ((encodeBlock verbatim rs).1 ++ rest) = (rs.map (fun r => (r.value, r.flags)), rest)

/-- Every field of a frame at every value its header admits, with a payload whose length its class admits: the frame
read from the bytes is the frame that was sent, but for its stomp, and that stands in FCRC. -/
def Obligations.FramesRoundTrip : Prop :=
  ∀ f : Frame, f.cls < 16 → f.srcKind < 4 → f.srcPos < 32 → f.srcAddr < 512 → f.dstKind < 4 → f.dstPos < 32 →
    f.dstAddr < 512 → f.hops < 128 → f.fseq < 65536 → f.flen % 4 = 0 → f.flen ≤ largestFlen f.cls →
    frameOf f.bytes = { f with stomped := false } ∧
    checkFrame f.bytes = (if f.stomped then .stomped else .good)

/-- The layouts of an access message, of a packet with or without its end-to-end check, and of a VT80 value: reading
the bytes gives back every field at every value that its width admits. -/
def Obligations.MessagesAndPacketsRoundTrip : Prop :=
  (∀ m : Msg, m.magic = 0x5951 → m.version < 256 → m.op < 256 → m.flags < 256 → m.status < 256 →
    m.session < 4294967296 → m.mseq < 4294967296 → m.body.length ≤ 2016 → m.tag.length = 16 → msgOf m.bytes = some m) ∧
  (∀ p : Packet, p.queue < 256 → p.pflags < 256 → (p.pflags % 2 = 1 ↔ p.e2e.isSome = true) → p.seq < 4294967296 →
    p.grid < 18446744073709551616 → p.hub < 65536 → p.ptype < 256 → p.pcrc < 4294967296 →
    (∀ e, p.e2e = some e → e < 4294967296) → p.length < 65536 → packetOf p.bytes = p) ∧
  (∀ v : Int, 0 ≤ v → v < 2 ^ 48 * 1000000000 * 65536 → vt80Of (vt80Bytes v) = v)
end

