-- ==== Sys2Proof/Laws/Sparse.lean ====
section
/-! SUPPORT. Sparse tables: what a read gives after a write, and that a write keeps the canonical form. -/

namespace Sys2Proof

variable {κ α : Type} [DecidableEq κ]

theorem Sparse.get_erase (d : κ → α) (k j : κ) (l : List (κ × α)) :
    Sparse.get d (Sparse.erase k l) j = if k = j then d j else Sparse.get d l j := by
  induction l with
  | nil => simp [Sparse.erase, Sparse.get]
  | cons a t ih => grind [Sparse.erase, Sparse.get]

theorem Sparse.get_insert (d : κ → α) (ord : κ → Nat) (k j : κ) (v : α) (l : List (κ × α)) :
    Sparse.get d (Sparse.insert ord k v l) j = if k = j then v else Sparse.get d l j := by
  induction l with
  | nil => simp [Sparse.insert, Sparse.get]
  | cons a t ih => grind [Sparse.insert, Sparse.get]

theorem Sparse.mem_erase {a : κ × α} {k : κ} {l : List (κ × α)} (h : a ∈ Sparse.erase k l) : a ∈ l := by
  induction l with
  | nil => simp [Sparse.erase] at h
  | cons b t ih => grind [Sparse.erase]

theorem Sparse.mem_insert {a : κ × α} {ord : κ → Nat} {k : κ} {v : α} {l : List (κ × α)}
    (h : a ∈ Sparse.insert ord k v l) : a = (k, v) ∨ a ∈ l := by
  induction l with
  | nil => simpa [Sparse.insert] using h
  | cons b t ih => grind [Sparse.insert]

theorem Sparse.rising_erase {ord : κ → Nat} (k : κ) {l : List (κ × α)} (h : l.Pairwise (fun a b => ord a.1 < ord b.1)) :
    (Sparse.erase k l).Pairwise (fun a b => ord a.1 < ord b.1) := by
  induction l with
  | nil => simp [Sparse.erase]
  | cons b t ih =>
    rw [List.pairwise_cons] at h
    simp only [Sparse.erase]
    split
    · exact ih h.2
    · exact List.pairwise_cons.2 ⟨fun a ha => h.1 a (Sparse.mem_erase ha), ih h.2⟩

theorem Sparse.rising_insert {ord : κ → Nat} (inj : ∀ a b, ord a = ord b → a = b) (k : κ) (v : α) {l : List (κ × α)}
    (h : l.Pairwise (fun a b => ord a.1 < ord b.1)) :
    (Sparse.insert ord k v l).Pairwise (fun a b => ord a.1 < ord b.1) := by
  induction l with
  | nil => simp [Sparse.insert]
  | cons b t ih =>
    obtain ⟨kb, vb⟩ := b
    rw [List.pairwise_cons] at h
    simp only [Sparse.insert]
    split
    · rename_i e
      subst e
      exact List.pairwise_cons.2 ⟨h.1, h.2⟩
    · rename_i e
      split
      · rename_i lt
        refine List.pairwise_cons.2 ⟨fun a ha => ?_, List.pairwise_cons.2 h⟩
        rcases List.mem_cons.1 ha with rfl | ha
        · exact lt
        · exact Nat.lt_trans lt (h.1 a ha)
      · rename_i ge
        refine List.pairwise_cons.2 ⟨fun a ha => ?_, ih h.2⟩
        rcases Sparse.mem_insert ha with rfl | ha
        · have e' : ord kb ≠ ord k := fun q => e (inj kb k q)
          show ord kb < ord k
          omega
        · exact h.1 a ha

variable [DecidableEq α]

omit [DecidableEq κ] in
/-- The canonical form, without recursion: rising keys, and no entry of what an unlisted key reads as. -/
theorem Sparse.wf_iff (d : κ → α) (ord : κ → Nat) (l : List (κ × α)) :
    Sparse.wf d ord l = true ↔ l.Pairwise (fun a b => ord a.1 < ord b.1) ∧ ∀ a ∈ l, a.2 ≠ d a.1 := by
  induction l with
  | nil => simp [Sparse.wf]
  | cons a t ih =>
    cases t with
    | nil => simp [Sparse.wf]
    | cons b t =>
      simp only [Sparse.wf, Bool.and_eq_true, decide_eq_true_eq, ih, List.pairwise_cons, List.mem_cons]
      grind

/-- A read after a write gives the value written at its key, and what it gave before at every other. -/
theorem Sparse.get_put (d : κ → α) (ord : κ → Nat) (l : List (κ × α)) (k j : κ) (v : α) :
    Sparse.get d (Sparse.put d ord l k v) j = if k = j then v else Sparse.get d l j := by
  unfold Sparse.put
  split <;> simp only [Sparse.get_erase, Sparse.get_insert] <;> split <;> simp_all

/-- A write keeps the canonical form, where the order tells keys apart. -/
theorem Sparse.wf_put {d : κ → α} {ord : κ → Nat} (inj : ∀ a b, ord a = ord b → a = b) {l : List (κ × α)} (k : κ) (v : α)
    (h : Sparse.wf d ord l = true) : Sparse.wf d ord (Sparse.put d ord l k v) = true := by
  unfold Sparse.put
  split
  · rw [Sparse.wf_iff] at *
    exact ⟨Sparse.rising_erase k h.1, fun a ha => h.2 a (Sparse.mem_erase ha)⟩
  · rename_i hv
    rw [Sparse.wf_iff] at *
    refine ⟨Sparse.rising_insert inj k v h.1, fun a ha => ?_⟩
    rcases Sparse.mem_insert ha with rfl | ha
    · exact hv
    · exact h.2 a ha

omit [DecidableEq κ] in
/-- A part of a canonical table is canonical. -/
theorem Sparse.wf_filter {d : κ → α} {ord : κ → Nat} (p : κ × α → Bool) {l : List (κ × α)} (h : Sparse.wf d ord l = true) :
    Sparse.wf d ord (l.filter p) = true := by
  rw [Sparse.wf_iff] at *
  exact ⟨h.1.filter p, fun a ha => h.2 a (List.mem_filter.1 ha).1⟩

namespace Machine

theorem Obj.ctorIdx_lt (o : Obj) : o.ctorIdx < 1024 := by cases o <;> decide

theorem Obj.ctorIdx_inj (a b : Obj) (h : a.ctorIdx = b.ctorIdx) : a = b := by
  rw [← Obj.ofNat_ctorIdx a, h, Obj.ofNat_ctorIdx]

theorem Key.code_inj (a b : Key) (h : a.code = b.code) : a = b := by
  obtain ⟨oa, ia⟩ := a
  obtain ⟨ob, ib⟩ := b
  have ha := Obj.ctorIdx_lt oa
  have hb := Obj.ctorIdx_lt ob
  simp only [Key.code] at h
  have e : oa.ctorIdx = ob.ctorIdx := by omega
  rw [Obj.ctorIdx_inj oa ob e, show ia = ib by omega]

end Machine
end Sys2Proof
end

