-- ==== Sys2Proof/Laws/KeptBase.lean ====
section
/-! SUPPORT. What every operation keeps of the state it starts from: the queue of commands as it is, and a sound state sound. -/

namespace Sys2Proof.Machine

open Sys2Proof

/-- From `s` to `t` the queue of commands is left alone and soundness is kept. -/
structure Kept (s t : State) : Prop where
  queue : t.pending = s.pending
  sound : s.Sound → t.Sound

theorem Kept.refl (s : State) : Kept s s := ⟨rfl, id⟩

theorem Kept.trans {s t u : State} (h : Kept s t) (k : Kept t u) : Kept s u :=
  ⟨k.queue.trans h.queue, fun c => k.sound (h.sound c)⟩

/-- The same of an outcome: a fault and a refusal leave no state. -/
def KeptO (s : State) (x : Host.Outcome State Fault Refusal) : Prop :=
  match x with
  | .next t => Kept s t
  | _ => True

/-- A read of an object after a write of one. -/
theorem State.get_put (s : State) (o p : Obj) (i j : Nat) (v : Int) :
    (s.put o i v).get p j = if o = p ∧ i = j then v else s.get p j := by
  simp only [State.get, State.put, Sparse.get_put, Key.mk.injEq]

theorem Obj.legal_of_free (o : Obj) (v : Int) (h : o.greatestCode.isNone = true) : o.legal v = true := by
  unfold Obj.legal
  split <;> simp_all

theorem Obj.legal_ite (o : Obj) {c : Prop} {_ : Decidable c} (v w : Int) (hv : o.legal v = true) (hw : o.legal w = true) :
    o.legal (if c then v else w) = true := by
  split <;> assumption

set_option maxRecDepth 100000 in
/-- No object that a command may write or stage is a mode register. -/
theorem rows_free :
    objTable.all (fun r => (r.access == .ro && !r.staged) || r.obj.greatestCode.isNone) = true := by decide

theorem row_free {r : ObjInfo} (h : r ∈ objTable) (w : (r.access == .ro) = false ∨ r.staged = true) :
    r.obj.greatestCode.isNone = true := by
  have a := List.all_eq_true.1 rows_free r h
  rcases w with w | w <;> simpa [w] using a

theorem info_free (o : Obj) (w : (o.info.access == .ro) = false ∨ o.info.staged = true) :
    o.info.obj.greatestCode.isNone = true := by
  unfold Obj.info at *
  cases h : objTable.find? (fun r => r.obj == o) with
  | some r =>
    rw [h] at w
    exact row_free (List.mem_of_find?_eq_some h) w
  | none => rfl

variable {r0 s : State}

theorem kept_put_of (h : Kept r0 s) (o : Obj) (i : Nat) (v : Int) (hl : r0.Sound → o.legal v = true) :
    Kept r0 (s.put o i v) := by
  refine ⟨h.queue, fun c0 => ?_⟩
  have c := h.sound c0
  refine ⟨?_, fun p j => ?_⟩
  · have hc := c.canonical
    simp only [State.canonical, Bool.and_eq_true] at *
    exact ⟨Sparse.wf_put Key.code_inj _ _ hc.1, hc.2⟩
  · rw [State.get_put]
    split
    · rename_i e
      rw [← e.1]
      exact hl c0
    · exact c.modes p j

theorem kept_put (h : Kept r0 s) (o : Obj) (i : Nat) (v : Int) (hl : o.legal v = true) : Kept r0 (s.put o i v) :=
  kept_put_of h o i v (fun _ => hl)

theorem kept_putBytes (h : Kept r0 s) (o : Obj) (i : Nat) (v : List Byte) : Kept r0 (s.putBytes o i v) := by
  refine h.trans ⟨rfl, fun c => ⟨?_, c.modes⟩⟩
  have hc := c.canonical
  simp only [State.canonical, Bool.and_eq_true] at *
  exact ⟨hc.1, Sparse.wf_put Key.code_inj _ _ hc.2⟩

theorem kept_mk (h : Kept r0 s) {time ptp frame chans banks scans triers lanes events fences causes engine mail locks
    journal serLanes links ringTime twin wits ring excCal curdBad queues cave units regions bcasts press trierOut sec power
    test boot vat draws out answer} :
    Kept r0 (State.mk s.obj s.blob time ptp frame chans banks scans triers lanes events fences causes engine mail locks
      journal serLanes links ringTime twin wits ring excCal curdBad queues cave units regions bcasts press trierOut sec power
      test boot vat draws out answer s.pending) :=
  h.trans ⟨rfl, fun c => ⟨c.canonical, c.modes⟩⟩

theorem kept_foldl {α : Type} {g : State → α → State} (hg : ∀ s x, Kept r0 s → Kept r0 (g s x)) (l : List α)
    (h : Kept r0 s) : Kept r0 (l.foldl g s) := by
  induction l generalizing s with
  | nil => exact h
  | cons a t ih => exact ih (hg _ _ h)

theorem kept_foldl_snd {α β : Type} {g : β × State → α → β × State} (hg : ∀ a x, Kept r0 a.2 → Kept r0 (g a x).2) (l : List α)
    {a : β × State} (h : Kept r0 a.2) : Kept r0 (l.foldl g a).2 := by
  induction l generalizing a with
  | nil => exact h
  | cons x t ih => exact ih (hg _ _ h)

theorem kept_foldl_fst {α β : Type} {g : State × β → α → State × β} (hg : ∀ a x, Kept r0 a.1 → Kept r0 (g a x).1) (l : List α)
    {a : State × β} (h : Kept r0 a.1) : Kept r0 (l.foldl g a).1 := by
  induction l generalizing a with
  | nil => exact h
  | cons x t ih => exact ih (hg _ _ h)

theorem kept_ite {c : Prop} {_ : Decidable c} {a b : State} (ha : Kept r0 a) (hb : Kept r0 b) :
    Kept r0 (if c then a else b) := by
  split <;> assumption

theorem kept_ite_fst {β : Type} {c : Prop} {_ : Decidable c} {a b : State × β} (ha : Kept r0 a.1) (hb : Kept r0 b.1) :
    Kept r0 (if c then a else b).1 := by
  split <;> assumption

theorem kept_ite_snd {β : Type} {c : Prop} {_ : Decidable c} {a b : β × State} (ha : Kept r0 a.2) (hb : Kept r0 b.2) :
    Kept r0 (if c then a else b).2 := by
  split <;> assumption

theorem kept_ite_snd2 {β γ : Type} {c : Prop} {_ : Decidable c} {a b : β × γ × State} (ha : Kept r0 a.2.2)
    (hb : Kept r0 b.2.2) : Kept r0 (if c then a else b).2.2 := by
  split <;> assumption

theorem keptO_next {t : State} (h : Kept r0 t) : KeptO r0 (.next t) := h

theorem keptO_ite {c : Prop} {_ : Decidable c} {a b : Host.Outcome State Fault Refusal} (ha : KeptO r0 a)
    (hb : KeptO r0 b) : KeptO r0 (if c then a else b) := by
  split <;> assumption

/-- The same of a state that may be absent. -/
def KeptM (s : State) (x : Option State) : Prop := ∀ t, x = some t → Kept s t

theorem keptM_none : KeptM r0 none := fun _ e => nomatch e

theorem keptM_some {t : State} (h : Kept r0 t) : KeptM r0 (some t) := fun _ e => by cases e; exact h

theorem keptM_ite {c : Prop} {_ : Decidable c} {a b : Option State} (ha : KeptM r0 a) (hb : KeptM r0 b) :
    KeptM r0 (if c then a else b) := by
  split <;> assumption

end Sys2Proof.Machine
end

