-- ==== Sys2Proof/Laws/Within.lean ====
section
/-! SUPPORT. Frames: what reporting, journalling and answering leave as they are, and how a frame is carried through the
operations that a meaning is made of. -/

namespace Sys2Proof.Machine

open Sys2Proof

variable {os : List (Obj × Nat)} {ps : List Part} {r0 s : State}

theorem Part.same_refl (p : Part) (s : State) : p.same s s := by cases p <;> rfl

theorem State.Within.refl (s : State) : s.Within os ps s := ⟨fun _ _ _ _ => rfl, fun p _ _ => p.same_refl s⟩

/-- A read of an object outside a frame. -/
theorem State.Within.get {t : State} (h : s.Within os ps t) {o : Obj} {i : Nat} (ho : (o, i) ∉ os) (hr : o.reporting = false) :
    t.get o i = s.get o i :=
  h.objects o i ho hr

/-- A write of an object inside the frame. -/
theorem within_put (h : r0.Within os ps s) {o : Obj} {i : Nat} {v : Int} (ho : (o, i) ∈ os ∨ o.reporting = true) :
    r0.Within os ps (s.put o i v) := by
  refine ⟨fun p j hp hr => ?_, fun p hp hr => ?_⟩
  · rw [State.get_put]
    split
    · rename_i e
      obtain ⟨rfl, rfl⟩ := e
      rcases ho with ho | ho
      · exact absurd ho hp
      · rw [hr] at ho
        contradiction
    · exact h.objects p j hp hr
  · have k := h.parts p hp hr
    cases p <;> exact k

/-- A change of parts inside the frame; those of reporting and the answer may change in any case. -/
theorem within_mk (h : r0.Within os ps s) {blob time ptp frame chans banks scans triers lanes events fences causes engine mail locks journal serLanes links
    ringTime twin wits ring excCal curdBad queues cave units regions bcasts press trierOut sec power test boot vat draws
    out answer pending}
    (h_blob : Part.blob ∈ ps ∨ blob = s.blob)
    (h_time : Part.time ∈ ps ∨ time = s.time)
    (h_ptp : Part.ptp ∈ ps ∨ ptp = s.ptp)
    (h_frame : Part.frame ∈ ps ∨ frame = s.frame)
    (h_chans : Part.chans ∈ ps ∨ chans = s.chans)
    (h_banks : Part.banks ∈ ps ∨ banks = s.banks)
    (h_scans : Part.scans ∈ ps ∨ scans = s.scans)
    (h_triers : Part.triers ∈ ps ∨ triers = s.triers)
    (h_lanes : Part.lanes ∈ ps ∨ lanes = s.lanes)
    (h_fences : Part.fences ∈ ps ∨ fences = s.fences)
    (h_engine : Part.engine ∈ ps ∨ engine = s.engine)
    (h_locks : Part.locks ∈ ps ∨ locks = s.locks)
    (h_serLanes : Part.serLanes ∈ ps ∨ serLanes = s.serLanes)
    (h_ringTime : Part.ringTime ∈ ps ∨ ringTime = s.ringTime)
    (h_wits : Part.wits ∈ ps ∨ wits = s.wits)
    (h_excCal : Part.excCal ∈ ps ∨ excCal = s.excCal)
    (h_curdBad : Part.curdBad ∈ ps ∨ curdBad = s.curdBad)
    (h_queues : Part.queues ∈ ps ∨ queues = s.queues)
    (h_cave : Part.cave ∈ ps ∨ cave = s.cave)
    (h_units : Part.units ∈ ps ∨ units = s.units)
    (h_regions : Part.regions ∈ ps ∨ regions = s.regions)
    (h_bcasts : Part.bcasts ∈ ps ∨ bcasts = s.bcasts)
    (h_press : Part.press ∈ ps ∨ press = s.press)
    (h_trierOut : Part.trierOut ∈ ps ∨ trierOut = s.trierOut)
    (h_sec : Part.sec ∈ ps ∨ sec = s.sec)
    (h_power : Part.power ∈ ps ∨ power = s.power)
    (h_test : Part.test ∈ ps ∨ test = s.test)
    (h_vat : Part.vat ∈ ps ∨ vat = s.vat)
    (h_draws : Part.draws ∈ ps ∨ draws = s.draws)
    (h_out : Part.out ∈ ps ∨ out = s.out)
    (h_pending : Part.pending ∈ ps ∨ pending = s.pending)
    : r0.Within os ps (State.mk s.obj blob time ptp frame chans banks scans triers lanes events fences causes engine mail locks journal serLanes links
      ringTime twin wits ring excCal curdBad queues cave units regions bcasts press trierOut sec power test boot vat draws
      out answer pending) := by
  refine ⟨h.objects, fun p hp hr => ?_⟩
  have k := h.parts p hp hr
  cases p
  case blob => exact h_blob.elim (fun q => absurd q hp) (fun q => q.trans k)
  case time => exact h_time.elim (fun q => absurd q hp) (fun q => q.trans k)
  case ptp => exact h_ptp.elim (fun q => absurd q hp) (fun q => q.trans k)
  case frame => exact h_frame.elim (fun q => absurd q hp) (fun q => q.trans k)
  case chans => exact h_chans.elim (fun q => absurd q hp) (fun q => q.trans k)
  case banks => exact h_banks.elim (fun q => absurd q hp) (fun q => q.trans k)
  case scans => exact h_scans.elim (fun q => absurd q hp) (fun q => q.trans k)
  case triers => exact h_triers.elim (fun q => absurd q hp) (fun q => q.trans k)
  case lanes => exact h_lanes.elim (fun q => absurd q hp) (fun q => q.trans k)
  case events => contradiction
  case fences => exact h_fences.elim (fun q => absurd q hp) (fun q => q.trans k)
  case causes => contradiction
  case engine => exact h_engine.elim (fun q => absurd q hp) (fun q => q.trans k)
  case mail => contradiction
  case locks => exact h_locks.elim (fun q => absurd q hp) (fun q => q.trans k)
  case journal => contradiction
  case serLanes => exact h_serLanes.elim (fun q => absurd q hp) (fun q => q.trans k)
  case links => contradiction
  case ringTime => exact h_ringTime.elim (fun q => absurd q hp) (fun q => q.trans k)
  case twin => contradiction
  case wits => exact h_wits.elim (fun q => absurd q hp) (fun q => q.trans k)
  case ring => contradiction
  case excCal => exact h_excCal.elim (fun q => absurd q hp) (fun q => q.trans k)
  case curdBad => exact h_curdBad.elim (fun q => absurd q hp) (fun q => q.trans k)
  case queues => exact h_queues.elim (fun q => absurd q hp) (fun q => q.trans k)
  case cave => exact h_cave.elim (fun q => absurd q hp) (fun q => q.trans k)
  case units => exact h_units.elim (fun q => absurd q hp) (fun q => q.trans k)
  case regions => exact h_regions.elim (fun q => absurd q hp) (fun q => q.trans k)
  case bcasts => exact h_bcasts.elim (fun q => absurd q hp) (fun q => q.trans k)
  case press => exact h_press.elim (fun q => absurd q hp) (fun q => q.trans k)
  case trierOut => exact h_trierOut.elim (fun q => absurd q hp) (fun q => q.trans k)
  case sec => exact h_sec.elim (fun q => absurd q hp) (fun q => q.trans k)
  case power => exact h_power.elim (fun q => absurd q hp) (fun q => q.trans k)
  case test => exact h_test.elim (fun q => absurd q hp) (fun q => q.trans k)
  case boot => contradiction
  case vat => exact h_vat.elim (fun q => absurd q hp) (fun q => q.trans k)
  case draws => exact h_draws.elim (fun q => absurd q hp) (fun q => q.trans k)
  case out => exact h_out.elim (fun q => absurd q hp) (fun q => q.trans k)
  case answer => contradiction
  case pending => exact h_pending.elim (fun q => absurd q hp) (fun q => q.trans k)

/-- The same where only parts of reporting and the answer change. -/
theorem within_report (h : r0.Within os ps s) {events causes mail journal links twin ring boot answer} :
    r0.Within os ps (State.mk s.obj s.blob s.time s.ptp s.frame s.chans s.banks s.scans s.triers s.lanes events s.fences causes s.engine mail s.locks
      journal s.serLanes links s.ringTime twin s.wits ring s.excCal s.curdBad s.queues s.cave s.units s.regions s.bcasts
      s.press s.trierOut s.sec s.power s.test boot s.vat s.draws s.out answer s.pending) :=
  within_mk h (.inr rfl) (.inr rfl) (.inr rfl) (.inr rfl) (.inr rfl) (.inr rfl) (.inr rfl) (.inr rfl) (.inr rfl) (.inr rfl) (.inr rfl) (.inr rfl) (.inr rfl) (.inr rfl) (.inr rfl) (.inr rfl) (.inr rfl) (.inr rfl) (.inr rfl) (.inr rfl) (.inr rfl) (.inr rfl) (.inr rfl) (.inr rfl) (.inr rfl) (.inr rfl) (.inr rfl) (.inr rfl) (.inr rfl) (.inr rfl) (.inr rfl)

theorem within_foldl {α : Type} {g : State → α → State} (hg : ∀ s x, r0.Within os ps s → r0.Within os ps (g s x)) (l : List α)
    (h : r0.Within os ps s) : r0.Within os ps (l.foldl g s) := by
  induction l generalizing s with
  | nil => exact h
  | cons a t ih => exact ih (hg _ _ h)

theorem within_ite {c : Prop} {_ : Decidable c} {a b : State} (ha : r0.Within os ps a) (hb : r0.Within os ps b) :
    r0.Within os ps (if c then a else b) := by
  split <;> assumption

theorem State.bump_within (s : State) (o : Obj) (i : Nat) (ho : (o, i) ∈ os ∨ o.reporting = true) (hk : r0.Within os ps s) :
    r0.Within os ps (State.bump s o i) := by
  unfold State.bump
  repeat' first
    | (simp (maxDischargeDepth := 200) +contextual +decide only [ho, hk, within_put, within_report, within_ite, within_foldl, or_true, implies_true]; done)
    | dsimp only
    | split

theorem State.add64_within (s : State) (o : Obj) (i : Nat) (n : Int) (ho : (o, i) ∈ os ∨ o.reporting = true) (hk : r0.Within os ps s) :
    r0.Within os ps (State.add64 s o i n) := by
  unfold State.add64
  repeat' first
    | (simp (maxDischargeDepth := 200) +contextual +decide only [ho, hk, within_put, within_report, within_ite, within_foldl, or_true, implies_true]; done)
    | dsimp only
    | split

theorem State.add32_within (s : State) (o : Obj) (i : Nat) (n : Nat) (ho : (o, i) ∈ os ∨ o.reporting = true) (hk : r0.Within os ps s) :
    r0.Within os ps (State.add32 s o i n) := by
  unfold State.add32
  repeat' first
    | (simp (maxDischargeDepth := 200) +contextual +decide only [ho, hk, within_put, within_report, within_ite, within_foldl, or_true, implies_true]; done)
    | dsimp only
    | split

theorem State.raiseTo_within (s : State) (o : Obj) (i : Nat) (v : Int) (ho : (o, i) ∈ os ∨ o.reporting = true) (hk : r0.Within os ps s) :
    r0.Within os ps (State.raiseTo s o i v) := by
  unfold State.raiseTo
  repeat' first
    | (simp (maxDischargeDepth := 200) +contextual +decide only [ho, hk, within_put, within_report, within_ite, within_foldl, or_true, implies_true]; done)
    | dsimp only
    | split

theorem State.setEvDelivery_within (s : State) (n : Nat) (v : EvDelivery) (hk : r0.Within os ps s) :
    r0.Within os ps (State.setEvDelivery s n v) := by
  unfold State.setEvDelivery
  repeat' first
    | (simp (maxDischargeDepth := 200) +contextual +decide only [hk, within_put, within_report, within_ite, within_foldl, or_true, implies_true]; done)
    | dsimp only
    | split

theorem State.setBox_within (s : State) (k : Nat) (v : Mailbox) (hk : r0.Within os ps s) :
    r0.Within os ps (State.setBox s k v) := by
  unfold State.setBox
  repeat' first
    | (simp (maxDischargeDepth := 200) +contextual +decide only [hk, within_put, within_report, within_ite, within_foldl, or_true, implies_true]; done)
    | dsimp only
    | split

theorem State.setLink_within (s : State) (p : Nat) (v : Link) (hk : r0.Within os ps s) :
    r0.Within os ps (State.setLink s p v) := by
  unfold State.setLink
  repeat' first
    | (simp (maxDischargeDepth := 200) +contextual +decide only [hk, within_put, within_report, within_ite, within_foldl, or_true, implies_true]; done)
    | dsimp only
    | split

theorem State.queueFrame_within (s : State) (p : Nat) (rank : Nat) (f : Frame) (hk : r0.Within os ps s) :
    r0.Within os ps (State.queueFrame s p rank f) := by
  unfold State.queueFrame
  repeat' first
    | (simp (maxDischargeDepth := 200) +contextual +decide only [hk, within_put, within_report, within_ite, within_foldl, or_true, implies_true, State.setLink_within]; done)
    | dsimp only
    | split

theorem State.sendFrame_within (s : State) (p : Nat) (rank : Nat) (f : Frame) (hk : r0.Within os ps s) :
    r0.Within os ps (State.sendFrame s p rank f) := by
  unfold State.sendFrame
  repeat' first
    | (simp (maxDischargeDepth := 200) +contextual +decide only [hk, within_put, within_report, within_ite, within_foldl, or_true, implies_true, State.bump_within, State.add64_within, State.queueFrame_within]; done)
    | dsimp only
    | split

theorem State.newFrame_within (s : State) (cls : Nat) (bothways : Bool) (link : Bool) (dstKind : Nat) (dstPos : Nat) (dstAddr : Nat) (payload : List Byte) (hk : r0.Within os ps s) :
    r0.Within os ps (State.newFrame s cls bothways link dstKind dstPos dstAddr payload).2 := by
  unfold State.newFrame
  repeat' first
    | (simp (maxDischargeDepth := 200) +contextual +decide only [hk, within_put, within_report, within_ite, within_foldl, or_true, implies_true]; done)
    | dsimp only
    | split

theorem State.sendReport_within (s : State) (n : Nat) (hk : r0.Within os ps s) :
    r0.Within os ps (State.sendReport s n) := by
  unfold State.sendReport
  repeat' first
    | (simp (maxDischargeDepth := 200) +contextual +decide only [hk, within_put, within_report, within_ite, within_foldl, or_true, implies_true, State.setEvDelivery_within, State.sendFrame_within, State.newFrame_within]; done)
    | dsimp only
    | split

theorem State.deliverRing_within (s : State) (n : Nat) (hk : r0.Within os ps s) :
    r0.Within os ps (State.deliverRing s n) := by
  unfold State.deliverRing
  repeat' first
    | (simp (maxDischargeDepth := 200) +contextual +decide only [hk, within_put, within_report, within_ite, within_foldl, or_true, implies_true, State.bump_within, State.setEvDelivery_within, State.sendReport_within]; done)
    | dsimp only
    | split

theorem State.orCause_within (s : State) (o : Obj) (i : Nat) (b : Nat) (ho : (o, i) ∈ os ∨ o.reporting = true) (hk : r0.Within os ps s) :
    r0.Within os ps (State.orCause s o i b) := by
  unfold State.orCause
  repeat' first
    | (simp (maxDischargeDepth := 200) +contextual +decide only [ho, hk, within_put, within_report, within_ite, within_foldl, or_true, implies_true]; done)
    | dsimp only
    | split

theorem State.countRaise_within (s : State) (n : Nat) (hk : r0.Within os ps s) :
    r0.Within os ps (State.countRaise s n) := by
  unfold State.countRaise
  repeat' first
    | (simp (maxDischargeDepth := 200) +contextual +decide only [hk, within_put, within_report, within_ite, within_foldl, or_true, implies_true, State.setEvDelivery_within]; done)
    | dsimp only
    | split

theorem State.noticePlaced_within (s : State) (hk : r0.Within os ps s) :
    r0.Within os ps (State.noticePlaced s) := by
  unfold State.noticePlaced
  repeat' first
    | (simp (maxDischargeDepth := 200) +contextual +decide only [hk, within_put, within_report, within_ite, within_foldl, or_true, implies_true, State.deliverRing_within, State.orCause_within, State.countRaise_within]; done)
    | dsimp only
    | split

theorem State.placeNotice_within (s : State) (k : Nat) (mk : Nat → Notice) (hk : r0.Within os ps s) :
    r0.Within os ps (State.placeNotice s k mk) := by
  unfold State.placeNotice
  repeat' first
    | (simp (maxDischargeDepth := 200) +contextual +decide only [hk, within_put, within_report, within_ite, within_foldl, or_true, implies_true, State.setBox_within, State.noticePlaced_within]; done)
    | dsimp only
    | split

theorem State.postEvent_within (s : State) (n : Nat) (hk : r0.Within os ps s) :
    r0.Within os ps (State.postEvent s n) := by
  unfold State.postEvent
  repeat' first
    | (simp (maxDischargeDepth := 200) +contextual +decide only [hk, within_put, within_report, within_ite, within_foldl, or_true, implies_true, State.setEvDelivery_within, State.placeNotice_within]; done)
    | dsimp only
    | split

theorem State.countNotice_within (s : State) (n : Nat) (hk : r0.Within os ps s) :
    r0.Within os ps (State.countNotice s n) := by
  unfold State.countNotice
  repeat' first
    | (simp (maxDischargeDepth := 200) +contextual +decide only [hk, within_put, within_report, within_ite, within_foldl, or_true, implies_true, State.setBox_within]; done)
    | dsimp only
    | split

theorem State.deliverMbx_within (s : State) (n : Nat) (hk : r0.Within os ps s) :
    r0.Within os ps (State.deliverMbx s n) := by
  unfold State.deliverMbx
  repeat' first
    | (simp (maxDischargeDepth := 200) +contextual +decide only [hk, within_put, within_report, within_ite, within_foldl, or_true, implies_true, State.bump_within, State.setEvDelivery_within, State.postEvent_within, State.countNotice_within]; done)
    | dsimp only
    | split

theorem State.recover_within (s : State) (hk : r0.Within os ps s) :
    r0.Within os ps (State.recover s) := by
  unfold State.recover
  repeat' first
    | (simp (maxDischargeDepth := 200) +contextual +decide only [hk, within_put, within_report, within_ite, within_foldl, or_true, implies_true]; done)
    | dsimp only
    | split

theorem State.raise_within (s : State) (n : Nat) (hk : r0.Within os ps s) :
    r0.Within os ps (State.raise s n) := by
  unfold State.raise
  repeat' first
    | (simp (maxDischargeDepth := 200) +contextual +decide only [hk, within_put, within_report, within_ite, within_foldl, or_true, implies_true, State.deliverRing_within, State.countRaise_within, State.deliverMbx_within, State.recover_within]; done)
    | dsimp only
    | split

theorem State.noteCause_within (s : State) (o : Obj) (i : Nat) (b : Nat) (raised : Bool) (hk : r0.Within os ps s) :
    r0.Within os ps (State.noteCause s o i b raised) := by
  unfold State.noteCause
  repeat' first
    | (simp (maxDischargeDepth := 200) +contextual +decide only [hk, within_put, within_report, within_ite, within_foldl, or_true, implies_true]; done)
    | dsimp only
    | split

theorem State.raiseOf_within (s : State) (o : Obj) (i : Nat) (b : Nat) (hk : r0.Within os ps s) :
    r0.Within os ps (State.raiseOf s o i b) := by
  unfold State.raiseOf
  repeat' first
    | (simp (maxDischargeDepth := 200) +contextual +decide only [hk, within_put, within_report, within_ite, within_foldl, or_true, implies_true, State.raise_within]; done)
    | dsimp only
    | split

theorem State.cause_within (s : State) (o : Obj) (i : Nat) (b : Nat) (ho : (o, i) ∈ os ∨ o.reporting = true) (hk : r0.Within os ps s) :
    r0.Within os ps (State.cause s o i b) := by
  unfold State.cause
  repeat' first
    | (simp (maxDischargeDepth := 200) +contextual +decide only [ho, hk, within_put, within_report, within_ite, within_foldl, or_true, implies_true, State.orCause_within, State.noteCause_within, State.raiseOf_within]; done)
    | dsimp only
    | split

theorem State.clearCause_within (s : State) (o : Obj) (i : Nat) (mask : Int) (ho : (o, i) ∈ os ∨ o.reporting = true) (hk : r0.Within os ps s) :
    r0.Within os ps (State.clearCause s o i mask) := by
  unfold State.clearCause
  repeat' first
    | (simp (maxDischargeDepth := 200) +contextual +decide only [ho, hk, within_put, within_report, within_ite, within_foldl, or_true, implies_true, State.raiseOf_within]; done)
    | dsimp only
    | split

theorem State.jrnStore_within (s : State) (entry : List Byte) (hk : r0.Within os ps s) :
    r0.Within os ps (State.jrnStore s entry) := by
  unfold State.jrnStore
  repeat' first
    | (simp (maxDischargeDepth := 200) +contextual +decide only [hk, within_put, within_report, within_ite, within_foldl, or_true, implies_true, State.bump_within, State.cause_within]; done)
    | dsimp only
    | split

theorem State.jrnAnchor_within (s : State) (hk : r0.Within os ps s) :
    r0.Within os ps (State.jrnAnchor s) := by
  unfold State.jrnAnchor
  repeat' first
    | (simp (maxDischargeDepth := 200) +contextual +decide only [hk, within_put, within_report, within_ite, within_foldl, or_true, implies_true, State.jrnStore_within]; done)
    | dsimp only
    | split

theorem State.jrnWrite_within (s : State) (kind : Nat) (source : Nat) (index : Nat) (sub : Nat) (staged : Bool) (part : Bool) (old : List Byte) (new : List Byte) (hk : r0.Within os ps s) :
    r0.Within os ps (State.jrnWrite s kind source index sub staged part old new) := by
  unfold State.jrnWrite
  repeat' first
    | (simp (maxDischargeDepth := 200) +contextual +decide only [hk, within_put, within_report, within_ite, within_foldl, or_true, implies_true, State.jrnStore_within, State.jrnAnchor_within]; done)
    | dsimp only
    | split

theorem State.jrnCommand_within (s : State) (w : Who) (o : Obj) (i : Nat) (new : Val) (hk : r0.Within os ps s) :
    r0.Within os ps (State.jrnCommand s w o i new) := by
  unfold State.jrnCommand
  repeat' first
    | (simp (maxDischargeDepth := 200) +contextual +decide only [hk, within_put, within_report, within_ite, within_foldl, or_true, implies_true, State.jrnWrite_within]; done)
    | dsimp only
    | split

theorem State.jrnWriteObj_within (s : State) (w : Who) (o : Obj) (i : Nat) (staged : Bool) (old : Val) (new : Val) (hk : r0.Within os ps s) :
    r0.Within os ps (State.jrnWriteObj s w o i staged old new) := by
  unfold State.jrnWriteObj
  repeat' first
    | (simp (maxDischargeDepth := 200) +contextual +decide only [hk, within_put, within_report, within_ite, within_foldl, or_true, implies_true, State.jrnWrite_within]; done)
    | dsimp only
    | split

theorem State.reply_within (s : State) (e : Err) (v : Val) (hk : r0.Within os ps s) :
    r0.Within os ps (State.reply s e v) := by
  unfold State.reply
  repeat' first
    | (simp (maxDischargeDepth := 200) +contextual +decide only [hk, within_put, within_report, within_ite, within_foldl, or_true, implies_true]; done)
    | dsimp only
    | split

theorem State.mirrorEntry_within (s : State) (index : Nat) (sub : Nat) (value : List Byte) (hk : r0.Within os ps s) :
    r0.Within os ps (State.mirrorEntry s index sub value) := by
  unfold State.mirrorEntry
  repeat' first
    | (simp (maxDischargeDepth := 200) +contextual +decide only [hk, within_put, within_report, within_ite, within_foldl, or_true, implies_true, State.sendFrame_within, State.newFrame_within]; done)
    | dsimp only
    | split

theorem State.mirrorWrite_within (s : State) (o : Obj) (i : Nat) (v : Val) (hk : r0.Within os ps s) :
    r0.Within os ps (State.mirrorWrite s o i v) := by
  unfold State.mirrorWrite
  repeat' first
    | (simp (maxDischargeDepth := 200) +contextual +decide only [hk, within_put, within_report, within_ite, within_foldl, or_true, implies_true, State.mirrorEntry_within]; done)
    | dsimp only
    | split

end Sys2Proof.Machine
end

