-- ==== Sys2Proof/Laws/State.lean ====
section
/-! SUPPORT. What a write of an object, an answer and the operations that report leave of each field of the state. -/

namespace Sys2Proof.Machine

open Sys2Proof

variable {s : State} {w : Who} {o : Obj} {i n : Nat} {v : Val} {x : Int} {e : Err} {b : Bool} {old : Val}

@[simp] theorem put_blob : (s.put o i x).blob = s.blob := rfl
@[simp] theorem put_time : (s.put o i x).time = s.time := rfl
@[simp] theorem put_ptp : (s.put o i x).ptp = s.ptp := rfl
@[simp] theorem put_frame : (s.put o i x).frame = s.frame := rfl
@[simp] theorem put_chans : (s.put o i x).chans = s.chans := rfl
@[simp] theorem put_banks : (s.put o i x).banks = s.banks := rfl
@[simp] theorem put_scans : (s.put o i x).scans = s.scans := rfl
@[simp] theorem put_triers : (s.put o i x).triers = s.triers := rfl
@[simp] theorem put_lanes : (s.put o i x).lanes = s.lanes := rfl
@[simp] theorem put_events : (s.put o i x).events = s.events := rfl
@[simp] theorem put_fences : (s.put o i x).fences = s.fences := rfl
@[simp] theorem put_causes : (s.put o i x).causes = s.causes := rfl
@[simp] theorem put_engine : (s.put o i x).engine = s.engine := rfl
@[simp] theorem put_mail : (s.put o i x).mail = s.mail := rfl
@[simp] theorem put_locks : (s.put o i x).locks = s.locks := rfl
@[simp] theorem put_journal : (s.put o i x).journal = s.journal := rfl
@[simp] theorem put_serLanes : (s.put o i x).serLanes = s.serLanes := rfl
@[simp] theorem put_links : (s.put o i x).links = s.links := rfl
@[simp] theorem put_ringTime : (s.put o i x).ringTime = s.ringTime := rfl
@[simp] theorem put_twin : (s.put o i x).twin = s.twin := rfl
@[simp] theorem put_wits : (s.put o i x).wits = s.wits := rfl
@[simp] theorem put_ring : (s.put o i x).ring = s.ring := rfl
@[simp] theorem put_excCal : (s.put o i x).excCal = s.excCal := rfl
@[simp] theorem put_curdBad : (s.put o i x).curdBad = s.curdBad := rfl
@[simp] theorem put_queues : (s.put o i x).queues = s.queues := rfl
@[simp] theorem put_cave : (s.put o i x).cave = s.cave := rfl
@[simp] theorem put_units : (s.put o i x).units = s.units := rfl
@[simp] theorem put_regions : (s.put o i x).regions = s.regions := rfl
@[simp] theorem put_bcasts : (s.put o i x).bcasts = s.bcasts := rfl
@[simp] theorem put_press : (s.put o i x).press = s.press := rfl
@[simp] theorem put_trierOut : (s.put o i x).trierOut = s.trierOut := rfl
@[simp] theorem put_sec : (s.put o i x).sec = s.sec := rfl
@[simp] theorem put_power : (s.put o i x).power = s.power := rfl
@[simp] theorem put_test : (s.put o i x).test = s.test := rfl
@[simp] theorem put_boot : (s.put o i x).boot = s.boot := rfl
@[simp] theorem put_vat : (s.put o i x).vat = s.vat := rfl
@[simp] theorem put_draws : (s.put o i x).draws = s.draws := rfl
@[simp] theorem put_out : (s.put o i x).out = s.out := rfl
@[simp] theorem put_answer : (s.put o i x).answer = s.answer := rfl
@[simp] theorem put_pending : (s.put o i x).pending = s.pending := rfl

@[simp] theorem putBytes_obj {y : List Byte} : (s.putBytes o i y).obj = s.obj := rfl
@[simp] theorem putBytes_time {y : List Byte} : (s.putBytes o i y).time = s.time := rfl
@[simp] theorem putBytes_ptp {y : List Byte} : (s.putBytes o i y).ptp = s.ptp := rfl
@[simp] theorem putBytes_frame {y : List Byte} : (s.putBytes o i y).frame = s.frame := rfl
@[simp] theorem putBytes_chans {y : List Byte} : (s.putBytes o i y).chans = s.chans := rfl
@[simp] theorem putBytes_banks {y : List Byte} : (s.putBytes o i y).banks = s.banks := rfl
@[simp] theorem putBytes_scans {y : List Byte} : (s.putBytes o i y).scans = s.scans := rfl
@[simp] theorem putBytes_triers {y : List Byte} : (s.putBytes o i y).triers = s.triers := rfl
@[simp] theorem putBytes_lanes {y : List Byte} : (s.putBytes o i y).lanes = s.lanes := rfl
@[simp] theorem putBytes_events {y : List Byte} : (s.putBytes o i y).events = s.events := rfl
@[simp] theorem putBytes_fences {y : List Byte} : (s.putBytes o i y).fences = s.fences := rfl
@[simp] theorem putBytes_causes {y : List Byte} : (s.putBytes o i y).causes = s.causes := rfl
@[simp] theorem putBytes_engine {y : List Byte} : (s.putBytes o i y).engine = s.engine := rfl
@[simp] theorem putBytes_mail {y : List Byte} : (s.putBytes o i y).mail = s.mail := rfl
@[simp] theorem putBytes_locks {y : List Byte} : (s.putBytes o i y).locks = s.locks := rfl
@[simp] theorem putBytes_journal {y : List Byte} : (s.putBytes o i y).journal = s.journal := rfl
@[simp] theorem putBytes_serLanes {y : List Byte} : (s.putBytes o i y).serLanes = s.serLanes := rfl
@[simp] theorem putBytes_links {y : List Byte} : (s.putBytes o i y).links = s.links := rfl
@[simp] theorem putBytes_ringTime {y : List Byte} : (s.putBytes o i y).ringTime = s.ringTime := rfl
@[simp] theorem putBytes_twin {y : List Byte} : (s.putBytes o i y).twin = s.twin := rfl
@[simp] theorem putBytes_wits {y : List Byte} : (s.putBytes o i y).wits = s.wits := rfl
@[simp] theorem putBytes_ring {y : List Byte} : (s.putBytes o i y).ring = s.ring := rfl
@[simp] theorem putBytes_excCal {y : List Byte} : (s.putBytes o i y).excCal = s.excCal := rfl
@[simp] theorem putBytes_curdBad {y : List Byte} : (s.putBytes o i y).curdBad = s.curdBad := rfl
@[simp] theorem putBytes_queues {y : List Byte} : (s.putBytes o i y).queues = s.queues := rfl
@[simp] theorem putBytes_cave {y : List Byte} : (s.putBytes o i y).cave = s.cave := rfl
@[simp] theorem putBytes_units {y : List Byte} : (s.putBytes o i y).units = s.units := rfl
@[simp] theorem putBytes_regions {y : List Byte} : (s.putBytes o i y).regions = s.regions := rfl
@[simp] theorem putBytes_bcasts {y : List Byte} : (s.putBytes o i y).bcasts = s.bcasts := rfl
@[simp] theorem putBytes_press {y : List Byte} : (s.putBytes o i y).press = s.press := rfl
@[simp] theorem putBytes_trierOut {y : List Byte} : (s.putBytes o i y).trierOut = s.trierOut := rfl
@[simp] theorem putBytes_sec {y : List Byte} : (s.putBytes o i y).sec = s.sec := rfl
@[simp] theorem putBytes_power {y : List Byte} : (s.putBytes o i y).power = s.power := rfl
@[simp] theorem putBytes_test {y : List Byte} : (s.putBytes o i y).test = s.test := rfl
@[simp] theorem putBytes_boot {y : List Byte} : (s.putBytes o i y).boot = s.boot := rfl
@[simp] theorem putBytes_vat {y : List Byte} : (s.putBytes o i y).vat = s.vat := rfl
@[simp] theorem putBytes_draws {y : List Byte} : (s.putBytes o i y).draws = s.draws := rfl
@[simp] theorem putBytes_out {y : List Byte} : (s.putBytes o i y).out = s.out := rfl
@[simp] theorem putBytes_answer {y : List Byte} : (s.putBytes o i y).answer = s.answer := rfl
@[simp] theorem putBytes_pending {y : List Byte} : (s.putBytes o i y).pending = s.pending := rfl

@[simp] theorem reply_obj : (s.reply e v).obj = s.obj := rfl
@[simp] theorem reply_blob : (s.reply e v).blob = s.blob := rfl
@[simp] theorem reply_time : (s.reply e v).time = s.time := rfl
@[simp] theorem reply_ptp : (s.reply e v).ptp = s.ptp := rfl
@[simp] theorem reply_frame : (s.reply e v).frame = s.frame := rfl
@[simp] theorem reply_chans : (s.reply e v).chans = s.chans := rfl
@[simp] theorem reply_banks : (s.reply e v).banks = s.banks := rfl
@[simp] theorem reply_scans : (s.reply e v).scans = s.scans := rfl
@[simp] theorem reply_triers : (s.reply e v).triers = s.triers := rfl
@[simp] theorem reply_lanes : (s.reply e v).lanes = s.lanes := rfl
@[simp] theorem reply_events : (s.reply e v).events = s.events := rfl
@[simp] theorem reply_fences : (s.reply e v).fences = s.fences := rfl
@[simp] theorem reply_causes : (s.reply e v).causes = s.causes := rfl
@[simp] theorem reply_engine : (s.reply e v).engine = s.engine := rfl
@[simp] theorem reply_mail : (s.reply e v).mail = s.mail := rfl
@[simp] theorem reply_locks : (s.reply e v).locks = s.locks := rfl
@[simp] theorem reply_journal : (s.reply e v).journal = s.journal := rfl
@[simp] theorem reply_serLanes : (s.reply e v).serLanes = s.serLanes := rfl
@[simp] theorem reply_links : (s.reply e v).links = s.links := rfl
@[simp] theorem reply_ringTime : (s.reply e v).ringTime = s.ringTime := rfl
@[simp] theorem reply_twin : (s.reply e v).twin = s.twin := rfl
@[simp] theorem reply_wits : (s.reply e v).wits = s.wits := rfl
@[simp] theorem reply_ring : (s.reply e v).ring = s.ring := rfl
@[simp] theorem reply_excCal : (s.reply e v).excCal = s.excCal := rfl
@[simp] theorem reply_curdBad : (s.reply e v).curdBad = s.curdBad := rfl
@[simp] theorem reply_queues : (s.reply e v).queues = s.queues := rfl
@[simp] theorem reply_cave : (s.reply e v).cave = s.cave := rfl
@[simp] theorem reply_units : (s.reply e v).units = s.units := rfl
@[simp] theorem reply_regions : (s.reply e v).regions = s.regions := rfl
@[simp] theorem reply_bcasts : (s.reply e v).bcasts = s.bcasts := rfl
@[simp] theorem reply_press : (s.reply e v).press = s.press := rfl
@[simp] theorem reply_trierOut : (s.reply e v).trierOut = s.trierOut := rfl
@[simp] theorem reply_sec : (s.reply e v).sec = s.sec := rfl
@[simp] theorem reply_power : (s.reply e v).power = s.power := rfl
@[simp] theorem reply_test : (s.reply e v).test = s.test := rfl
@[simp] theorem reply_boot : (s.reply e v).boot = s.boot := rfl
@[simp] theorem reply_vat : (s.reply e v).vat = s.vat := rfl
@[simp] theorem reply_draws : (s.reply e v).draws = s.draws := rfl
@[simp] theorem reply_out : (s.reply e v).out = s.out := rfl
@[simp] theorem reply_pending : (s.reply e v).pending = s.pending := rfl

/-- The parts that State.jrnCommand leaves as they are. -/
theorem jrnCommand_part (p : Part) (h : p.reporting = false) : p.same s (s.jrnCommand w o i v) :=
  (State.jrnCommand_within (os := []) (ps := []) s w o i v (.refl s)).parts p List.not_mem_nil h

@[simp] theorem jrnCommand_blob : (s.jrnCommand w o i v).blob = s.blob := jrnCommand_part .blob rfl
@[simp] theorem jrnCommand_time : (s.jrnCommand w o i v).time = s.time := jrnCommand_part .time rfl
@[simp] theorem jrnCommand_ptp : (s.jrnCommand w o i v).ptp = s.ptp := jrnCommand_part .ptp rfl
@[simp] theorem jrnCommand_frame : (s.jrnCommand w o i v).frame = s.frame := jrnCommand_part .frame rfl
@[simp] theorem jrnCommand_chans : (s.jrnCommand w o i v).chans = s.chans := jrnCommand_part .chans rfl
@[simp] theorem jrnCommand_banks : (s.jrnCommand w o i v).banks = s.banks := jrnCommand_part .banks rfl
@[simp] theorem jrnCommand_scans : (s.jrnCommand w o i v).scans = s.scans := jrnCommand_part .scans rfl
@[simp] theorem jrnCommand_triers : (s.jrnCommand w o i v).triers = s.triers := jrnCommand_part .triers rfl
@[simp] theorem jrnCommand_lanes : (s.jrnCommand w o i v).lanes = s.lanes := jrnCommand_part .lanes rfl
@[simp] theorem jrnCommand_fences : (s.jrnCommand w o i v).fences = s.fences := jrnCommand_part .fences rfl
@[simp] theorem jrnCommand_engine : (s.jrnCommand w o i v).engine = s.engine := jrnCommand_part .engine rfl
@[simp] theorem jrnCommand_locks : (s.jrnCommand w o i v).locks = s.locks := jrnCommand_part .locks rfl
@[simp] theorem jrnCommand_serLanes : (s.jrnCommand w o i v).serLanes = s.serLanes := jrnCommand_part .serLanes rfl
@[simp] theorem jrnCommand_ringTime : (s.jrnCommand w o i v).ringTime = s.ringTime := jrnCommand_part .ringTime rfl
@[simp] theorem jrnCommand_wits : (s.jrnCommand w o i v).wits = s.wits := jrnCommand_part .wits rfl
@[simp] theorem jrnCommand_excCal : (s.jrnCommand w o i v).excCal = s.excCal := jrnCommand_part .excCal rfl
@[simp] theorem jrnCommand_curdBad : (s.jrnCommand w o i v).curdBad = s.curdBad := jrnCommand_part .curdBad rfl
@[simp] theorem jrnCommand_queues : (s.jrnCommand w o i v).queues = s.queues := jrnCommand_part .queues rfl
@[simp] theorem jrnCommand_cave : (s.jrnCommand w o i v).cave = s.cave := jrnCommand_part .cave rfl
@[simp] theorem jrnCommand_units : (s.jrnCommand w o i v).units = s.units := jrnCommand_part .units rfl
@[simp] theorem jrnCommand_regions : (s.jrnCommand w o i v).regions = s.regions := jrnCommand_part .regions rfl
@[simp] theorem jrnCommand_bcasts : (s.jrnCommand w o i v).bcasts = s.bcasts := jrnCommand_part .bcasts rfl
@[simp] theorem jrnCommand_press : (s.jrnCommand w o i v).press = s.press := jrnCommand_part .press rfl
@[simp] theorem jrnCommand_trierOut : (s.jrnCommand w o i v).trierOut = s.trierOut := jrnCommand_part .trierOut rfl
@[simp] theorem jrnCommand_sec : (s.jrnCommand w o i v).sec = s.sec := jrnCommand_part .sec rfl
@[simp] theorem jrnCommand_power : (s.jrnCommand w o i v).power = s.power := jrnCommand_part .power rfl
@[simp] theorem jrnCommand_test : (s.jrnCommand w o i v).test = s.test := jrnCommand_part .test rfl
@[simp] theorem jrnCommand_vat : (s.jrnCommand w o i v).vat = s.vat := jrnCommand_part .vat rfl
@[simp] theorem jrnCommand_draws : (s.jrnCommand w o i v).draws = s.draws := jrnCommand_part .draws rfl
@[simp] theorem jrnCommand_out : (s.jrnCommand w o i v).out = s.out := jrnCommand_part .out rfl
@[simp] theorem jrnCommand_pending : (s.jrnCommand w o i v).pending = s.pending := jrnCommand_part .pending rfl

/-- The parts that State.jrnWriteObj leaves as they are. -/
theorem jrnWriteObj_part (p : Part) (h : p.reporting = false) : p.same s (s.jrnWriteObj w o i b old v) :=
  (State.jrnWriteObj_within (os := []) (ps := []) s w o i b old v (.refl s)).parts p List.not_mem_nil h

@[simp] theorem jrnWriteObj_blob : (s.jrnWriteObj w o i b old v).blob = s.blob := jrnWriteObj_part .blob rfl
@[simp] theorem jrnWriteObj_time : (s.jrnWriteObj w o i b old v).time = s.time := jrnWriteObj_part .time rfl
@[simp] theorem jrnWriteObj_ptp : (s.jrnWriteObj w o i b old v).ptp = s.ptp := jrnWriteObj_part .ptp rfl
@[simp] theorem jrnWriteObj_frame : (s.jrnWriteObj w o i b old v).frame = s.frame := jrnWriteObj_part .frame rfl
@[simp] theorem jrnWriteObj_chans : (s.jrnWriteObj w o i b old v).chans = s.chans := jrnWriteObj_part .chans rfl
@[simp] theorem jrnWriteObj_banks : (s.jrnWriteObj w o i b old v).banks = s.banks := jrnWriteObj_part .banks rfl
@[simp] theorem jrnWriteObj_scans : (s.jrnWriteObj w o i b old v).scans = s.scans := jrnWriteObj_part .scans rfl
@[simp] theorem jrnWriteObj_triers : (s.jrnWriteObj w o i b old v).triers = s.triers := jrnWriteObj_part .triers rfl
@[simp] theorem jrnWriteObj_lanes : (s.jrnWriteObj w o i b old v).lanes = s.lanes := jrnWriteObj_part .lanes rfl
@[simp] theorem jrnWriteObj_fences : (s.jrnWriteObj w o i b old v).fences = s.fences := jrnWriteObj_part .fences rfl
@[simp] theorem jrnWriteObj_engine : (s.jrnWriteObj w o i b old v).engine = s.engine := jrnWriteObj_part .engine rfl
@[simp] theorem jrnWriteObj_locks : (s.jrnWriteObj w o i b old v).locks = s.locks := jrnWriteObj_part .locks rfl
@[simp] theorem jrnWriteObj_serLanes : (s.jrnWriteObj w o i b old v).serLanes = s.serLanes := jrnWriteObj_part .serLanes rfl
@[simp] theorem jrnWriteObj_ringTime : (s.jrnWriteObj w o i b old v).ringTime = s.ringTime := jrnWriteObj_part .ringTime rfl
@[simp] theorem jrnWriteObj_wits : (s.jrnWriteObj w o i b old v).wits = s.wits := jrnWriteObj_part .wits rfl
@[simp] theorem jrnWriteObj_excCal : (s.jrnWriteObj w o i b old v).excCal = s.excCal := jrnWriteObj_part .excCal rfl
@[simp] theorem jrnWriteObj_curdBad : (s.jrnWriteObj w o i b old v).curdBad = s.curdBad := jrnWriteObj_part .curdBad rfl
@[simp] theorem jrnWriteObj_queues : (s.jrnWriteObj w o i b old v).queues = s.queues := jrnWriteObj_part .queues rfl
@[simp] theorem jrnWriteObj_cave : (s.jrnWriteObj w o i b old v).cave = s.cave := jrnWriteObj_part .cave rfl
@[simp] theorem jrnWriteObj_units : (s.jrnWriteObj w o i b old v).units = s.units := jrnWriteObj_part .units rfl
@[simp] theorem jrnWriteObj_regions : (s.jrnWriteObj w o i b old v).regions = s.regions := jrnWriteObj_part .regions rfl
@[simp] theorem jrnWriteObj_bcasts : (s.jrnWriteObj w o i b old v).bcasts = s.bcasts := jrnWriteObj_part .bcasts rfl
@[simp] theorem jrnWriteObj_press : (s.jrnWriteObj w o i b old v).press = s.press := jrnWriteObj_part .press rfl
@[simp] theorem jrnWriteObj_trierOut : (s.jrnWriteObj w o i b old v).trierOut = s.trierOut := jrnWriteObj_part .trierOut rfl
@[simp] theorem jrnWriteObj_sec : (s.jrnWriteObj w o i b old v).sec = s.sec := jrnWriteObj_part .sec rfl
@[simp] theorem jrnWriteObj_power : (s.jrnWriteObj w o i b old v).power = s.power := jrnWriteObj_part .power rfl
@[simp] theorem jrnWriteObj_test : (s.jrnWriteObj w o i b old v).test = s.test := jrnWriteObj_part .test rfl
@[simp] theorem jrnWriteObj_vat : (s.jrnWriteObj w o i b old v).vat = s.vat := jrnWriteObj_part .vat rfl
@[simp] theorem jrnWriteObj_draws : (s.jrnWriteObj w o i b old v).draws = s.draws := jrnWriteObj_part .draws rfl
@[simp] theorem jrnWriteObj_out : (s.jrnWriteObj w o i b old v).out = s.out := jrnWriteObj_part .out rfl
@[simp] theorem jrnWriteObj_pending : (s.jrnWriteObj w o i b old v).pending = s.pending := jrnWriteObj_part .pending rfl

/-- The parts that State.mirrorWrite leaves as they are. -/
theorem mirrorWrite_part (p : Part) (h : p.reporting = false) : p.same s (s.mirrorWrite o i v) :=
  (State.mirrorWrite_within (os := []) (ps := []) s o i v (.refl s)).parts p List.not_mem_nil h

@[simp] theorem mirrorWrite_blob : (s.mirrorWrite o i v).blob = s.blob := mirrorWrite_part .blob rfl
@[simp] theorem mirrorWrite_time : (s.mirrorWrite o i v).time = s.time := mirrorWrite_part .time rfl
@[simp] theorem mirrorWrite_ptp : (s.mirrorWrite o i v).ptp = s.ptp := mirrorWrite_part .ptp rfl
@[simp] theorem mirrorWrite_frame : (s.mirrorWrite o i v).frame = s.frame := mirrorWrite_part .frame rfl
@[simp] theorem mirrorWrite_chans : (s.mirrorWrite o i v).chans = s.chans := mirrorWrite_part .chans rfl
@[simp] theorem mirrorWrite_banks : (s.mirrorWrite o i v).banks = s.banks := mirrorWrite_part .banks rfl
@[simp] theorem mirrorWrite_scans : (s.mirrorWrite o i v).scans = s.scans := mirrorWrite_part .scans rfl
@[simp] theorem mirrorWrite_triers : (s.mirrorWrite o i v).triers = s.triers := mirrorWrite_part .triers rfl
@[simp] theorem mirrorWrite_lanes : (s.mirrorWrite o i v).lanes = s.lanes := mirrorWrite_part .lanes rfl
@[simp] theorem mirrorWrite_fences : (s.mirrorWrite o i v).fences = s.fences := mirrorWrite_part .fences rfl
@[simp] theorem mirrorWrite_engine : (s.mirrorWrite o i v).engine = s.engine := mirrorWrite_part .engine rfl
@[simp] theorem mirrorWrite_locks : (s.mirrorWrite o i v).locks = s.locks := mirrorWrite_part .locks rfl
@[simp] theorem mirrorWrite_serLanes : (s.mirrorWrite o i v).serLanes = s.serLanes := mirrorWrite_part .serLanes rfl
@[simp] theorem mirrorWrite_ringTime : (s.mirrorWrite o i v).ringTime = s.ringTime := mirrorWrite_part .ringTime rfl
@[simp] theorem mirrorWrite_wits : (s.mirrorWrite o i v).wits = s.wits := mirrorWrite_part .wits rfl
@[simp] theorem mirrorWrite_excCal : (s.mirrorWrite o i v).excCal = s.excCal := mirrorWrite_part .excCal rfl
@[simp] theorem mirrorWrite_curdBad : (s.mirrorWrite o i v).curdBad = s.curdBad := mirrorWrite_part .curdBad rfl
@[simp] theorem mirrorWrite_queues : (s.mirrorWrite o i v).queues = s.queues := mirrorWrite_part .queues rfl
@[simp] theorem mirrorWrite_cave : (s.mirrorWrite o i v).cave = s.cave := mirrorWrite_part .cave rfl
@[simp] theorem mirrorWrite_units : (s.mirrorWrite o i v).units = s.units := mirrorWrite_part .units rfl
@[simp] theorem mirrorWrite_regions : (s.mirrorWrite o i v).regions = s.regions := mirrorWrite_part .regions rfl
@[simp] theorem mirrorWrite_bcasts : (s.mirrorWrite o i v).bcasts = s.bcasts := mirrorWrite_part .bcasts rfl
@[simp] theorem mirrorWrite_press : (s.mirrorWrite o i v).press = s.press := mirrorWrite_part .press rfl
@[simp] theorem mirrorWrite_trierOut : (s.mirrorWrite o i v).trierOut = s.trierOut := mirrorWrite_part .trierOut rfl
@[simp] theorem mirrorWrite_sec : (s.mirrorWrite o i v).sec = s.sec := mirrorWrite_part .sec rfl
@[simp] theorem mirrorWrite_power : (s.mirrorWrite o i v).power = s.power := mirrorWrite_part .power rfl
@[simp] theorem mirrorWrite_test : (s.mirrorWrite o i v).test = s.test := mirrorWrite_part .test rfl
@[simp] theorem mirrorWrite_vat : (s.mirrorWrite o i v).vat = s.vat := mirrorWrite_part .vat rfl
@[simp] theorem mirrorWrite_draws : (s.mirrorWrite o i v).draws = s.draws := mirrorWrite_part .draws rfl
@[simp] theorem mirrorWrite_out : (s.mirrorWrite o i v).out = s.out := mirrorWrite_part .out rfl
@[simp] theorem mirrorWrite_pending : (s.mirrorWrite o i v).pending = s.pending := mirrorWrite_part .pending rfl

/-- The parts that State.raise leaves as they are. -/
theorem raise_part (p : Part) (h : p.reporting = false) : p.same s (s.raise n) :=
  (State.raise_within (os := []) (ps := []) s n (.refl s)).parts p List.not_mem_nil h

@[simp] theorem raise_blob : (s.raise n).blob = s.blob := raise_part .blob rfl
@[simp] theorem raise_time : (s.raise n).time = s.time := raise_part .time rfl
@[simp] theorem raise_ptp : (s.raise n).ptp = s.ptp := raise_part .ptp rfl
@[simp] theorem raise_frame : (s.raise n).frame = s.frame := raise_part .frame rfl
@[simp] theorem raise_chans : (s.raise n).chans = s.chans := raise_part .chans rfl
@[simp] theorem raise_banks : (s.raise n).banks = s.banks := raise_part .banks rfl
@[simp] theorem raise_scans : (s.raise n).scans = s.scans := raise_part .scans rfl
@[simp] theorem raise_triers : (s.raise n).triers = s.triers := raise_part .triers rfl
@[simp] theorem raise_lanes : (s.raise n).lanes = s.lanes := raise_part .lanes rfl
@[simp] theorem raise_fences : (s.raise n).fences = s.fences := raise_part .fences rfl
@[simp] theorem raise_engine : (s.raise n).engine = s.engine := raise_part .engine rfl
@[simp] theorem raise_locks : (s.raise n).locks = s.locks := raise_part .locks rfl
@[simp] theorem raise_serLanes : (s.raise n).serLanes = s.serLanes := raise_part .serLanes rfl
@[simp] theorem raise_ringTime : (s.raise n).ringTime = s.ringTime := raise_part .ringTime rfl
@[simp] theorem raise_wits : (s.raise n).wits = s.wits := raise_part .wits rfl
@[simp] theorem raise_excCal : (s.raise n).excCal = s.excCal := raise_part .excCal rfl
@[simp] theorem raise_curdBad : (s.raise n).curdBad = s.curdBad := raise_part .curdBad rfl
@[simp] theorem raise_queues : (s.raise n).queues = s.queues := raise_part .queues rfl
@[simp] theorem raise_cave : (s.raise n).cave = s.cave := raise_part .cave rfl
@[simp] theorem raise_units : (s.raise n).units = s.units := raise_part .units rfl
@[simp] theorem raise_regions : (s.raise n).regions = s.regions := raise_part .regions rfl
@[simp] theorem raise_bcasts : (s.raise n).bcasts = s.bcasts := raise_part .bcasts rfl
@[simp] theorem raise_press : (s.raise n).press = s.press := raise_part .press rfl
@[simp] theorem raise_trierOut : (s.raise n).trierOut = s.trierOut := raise_part .trierOut rfl
@[simp] theorem raise_sec : (s.raise n).sec = s.sec := raise_part .sec rfl
@[simp] theorem raise_power : (s.raise n).power = s.power := raise_part .power rfl
@[simp] theorem raise_test : (s.raise n).test = s.test := raise_part .test rfl
@[simp] theorem raise_vat : (s.raise n).vat = s.vat := raise_part .vat rfl
@[simp] theorem raise_draws : (s.raise n).draws = s.draws := raise_part .draws rfl
@[simp] theorem raise_out : (s.raise n).out = s.out := raise_part .out rfl
@[simp] theorem raise_pending : (s.raise n).pending = s.pending := raise_part .pending rfl

/-- The parts that State.cause leaves as they are. -/
theorem cause_part (p : Part) (h : p.reporting = false) : p.same s (s.cause o i n) :=
  (State.cause_within (os := [(o, i)]) (ps := []) s o i n (.inl (List.mem_singleton.2 rfl)) (.refl s)).parts p List.not_mem_nil h

@[simp] theorem cause_blob : (s.cause o i n).blob = s.blob := cause_part .blob rfl
@[simp] theorem cause_time : (s.cause o i n).time = s.time := cause_part .time rfl
@[simp] theorem cause_ptp : (s.cause o i n).ptp = s.ptp := cause_part .ptp rfl
@[simp] theorem cause_frame : (s.cause o i n).frame = s.frame := cause_part .frame rfl
@[simp] theorem cause_chans : (s.cause o i n).chans = s.chans := cause_part .chans rfl
@[simp] theorem cause_banks : (s.cause o i n).banks = s.banks := cause_part .banks rfl
@[simp] theorem cause_scans : (s.cause o i n).scans = s.scans := cause_part .scans rfl
@[simp] theorem cause_triers : (s.cause o i n).triers = s.triers := cause_part .triers rfl
@[simp] theorem cause_lanes : (s.cause o i n).lanes = s.lanes := cause_part .lanes rfl
@[simp] theorem cause_fences : (s.cause o i n).fences = s.fences := cause_part .fences rfl
@[simp] theorem cause_engine : (s.cause o i n).engine = s.engine := cause_part .engine rfl
@[simp] theorem cause_locks : (s.cause o i n).locks = s.locks := cause_part .locks rfl
@[simp] theorem cause_serLanes : (s.cause o i n).serLanes = s.serLanes := cause_part .serLanes rfl
@[simp] theorem cause_ringTime : (s.cause o i n).ringTime = s.ringTime := cause_part .ringTime rfl
@[simp] theorem cause_wits : (s.cause o i n).wits = s.wits := cause_part .wits rfl
@[simp] theorem cause_excCal : (s.cause o i n).excCal = s.excCal := cause_part .excCal rfl
@[simp] theorem cause_curdBad : (s.cause o i n).curdBad = s.curdBad := cause_part .curdBad rfl
@[simp] theorem cause_queues : (s.cause o i n).queues = s.queues := cause_part .queues rfl
@[simp] theorem cause_cave : (s.cause o i n).cave = s.cave := cause_part .cave rfl
@[simp] theorem cause_units : (s.cause o i n).units = s.units := cause_part .units rfl
@[simp] theorem cause_regions : (s.cause o i n).regions = s.regions := cause_part .regions rfl
@[simp] theorem cause_bcasts : (s.cause o i n).bcasts = s.bcasts := cause_part .bcasts rfl
@[simp] theorem cause_press : (s.cause o i n).press = s.press := cause_part .press rfl
@[simp] theorem cause_trierOut : (s.cause o i n).trierOut = s.trierOut := cause_part .trierOut rfl
@[simp] theorem cause_sec : (s.cause o i n).sec = s.sec := cause_part .sec rfl
@[simp] theorem cause_power : (s.cause o i n).power = s.power := cause_part .power rfl
@[simp] theorem cause_test : (s.cause o i n).test = s.test := cause_part .test rfl
@[simp] theorem cause_vat : (s.cause o i n).vat = s.vat := cause_part .vat rfl
@[simp] theorem cause_draws : (s.cause o i n).draws = s.draws := cause_part .draws rfl
@[simp] theorem cause_out : (s.cause o i n).out = s.out := cause_part .out rfl
@[simp] theorem cause_pending : (s.cause o i n).pending = s.pending := cause_part .pending rfl

/-- A read of an object looks at the objects alone. -/
@[simp] theorem get_mk {blob time ptp frame chans banks scans triers lanes events fences causes engine mail locks journal serLanes links ringTime twin wits ring excCal curdBad queues cave units regions bcasts press trierOut sec power test boot vat draws out answer pending} {p : Obj} {j : Nat} :
    (State.mk s.obj blob time ptp frame chans banks scans triers lanes events fences causes engine mail locks journal serLanes links ringTime twin wits ring excCal curdBad queues cave units regions bcasts press trierOut sec power test boot vat draws out answer pending).get p j = s.get p j := rfl

end Sys2Proof.Machine
end

