-- ==== Sys2Proof/Laws/Commands.lean ====
section
/-! SUPPORT. What the shared forms of a command come to where nothing bars it, and what journalling, reporting and answering
leave as it is. -/

namespace Sys2Proof.Machine

open Sys2Proof

variable {s : State} {w : Who} {role : Role} {o p : Obj} {i j n : Nat} {v : Val}

/-! ### Reads through the operations that report -/

@[simp] theorem get_jrnCommand (h : p.reporting = false) : (s.jrnCommand w o i v).get p j = s.get p j :=
  (State.jrnCommand_within s w o i v (.refl s)).get (os := []) (ps := []) List.not_mem_nil h

@[simp] theorem get_jrnWriteObj {b : Bool} {old : Val} (h : p.reporting = false) :
    (s.jrnWriteObj w o i b old v).get p j = s.get p j :=
  (State.jrnWriteObj_within s w o i b old v (.refl s)).get (os := []) (ps := []) List.not_mem_nil h

@[simp] theorem get_mirrorWrite (h : p.reporting = false) : (s.mirrorWrite o i v).get p j = s.get p j :=
  (State.mirrorWrite_within s o i v (.refl s)).get (os := []) (ps := []) List.not_mem_nil h

@[simp] theorem get_raise (h : p.reporting = false) : (s.raise n).get p j = s.get p j :=
  (State.raise_within s n (.refl s)).get (os := []) (ps := []) List.not_mem_nil h

@[simp] theorem get_reply {e : Err} : (s.reply e v).get p j = s.get p j := rfl

@[simp] theorem get_put {x : Int} : (s.put o i x).get p j = if o = p ∧ i = j then x else s.get p j :=
  State.get_put s o p i j x

@[simp] theorem answer_reply {e : Err} : (s.reply e v).answer = ⟨e, v⟩ := rfl

/-! ### What is judged before a command is judged the same once it is journalled -/

variable {w0 : Who}

@[simp] theorem running_jrnCommand : (s.jrnCommand w o i v).running = s.running := by
  simp +decide [State.running]

@[simp] theorem running_jrnWriteObj {b : Bool} {old : Val} : (s.jrnWriteObj w o i b old v).running = s.running := by
  simp +decide [State.running]

@[simp] theorem ownsServo_jrnCommand : (s.jrnCommand w o i v).ownsServo w0 = s.ownsServo w0 := by
  simp +decide [State.ownsServo]

@[simp] theorem ownsServo_jrnWriteObj {b : Bool} {old : Val} : (s.jrnWriteObj w o i b old v).ownsServo w0 = s.ownsServo w0 := by
  simp +decide [State.ownsServo]

@[simp] theorem vtHeld_jrnCommand : (s.jrnCommand w o i v).vtHeld = s.vtHeld := by
  simp +decide [State.vtHeld]

@[simp] theorem vtHeld_jrnWriteObj {b : Bool} {old : Val} : (s.jrnWriteObj w o i b old v).vtHeld = s.vtHeld := by
  simp +decide [State.vtHeld]

@[simp] theorem acting_jrnCommand : (s.jrnCommand w o i v).acting = s.acting := by
  simp +decide [State.acting]

@[simp] theorem acting_jrnWriteObj {b : Bool} {old : Val} : (s.jrnWriteObj w o i b old v).acting = s.acting := by
  simp +decide [State.acting]

/-! ### Commands and writes that nothing bars -/

/-- A command that nothing bars and that its body accepts: it is journalled, carried out and answered OK. -/
theorem asCommand_of_open {new : Val} {body : State → Err × State} (h : s.Open w role o) (hb : (body s).1 = .ok) :
    asCommand w role o i new body s = ((body (s.jrnCommand w o i new)).2).reply .ok := by
  unfold asCommand
  rw [if_neg (by simp [h.served]), if_neg (Nat.not_lt.2 h.role), h.free]
  dsimp only
  split
  · rfl
  · rename_i e
    rw [e] at hb
    subst hb
    contradiction

/-- A command that nothing bars and that its body refuses: it is answered with the body's error, and not journalled. -/
theorem asCommand_of_refused {new : Val} {body : State → Err × State} (h : s.Open w role o) (hb : (body s).1 ≠ .ok) :
    asCommand w role o i new body s = ((body s).2).reply (body s).1 := by
  unfold asCommand
  rw [if_neg (by simp [h.served]), if_neg (Nat.not_lt.2 h.role), h.free]
  dsimp only
  split
  · rename_i e
    rw [e] at hb
    exact absurd rfl hb
  · rename_i e
    rw [e]

/-- A write that acts at once, that nothing bars and that its body accepts. -/
theorem asWrite_of_open {shared rws range : Bool} {old new : Val} {body : State → Err × State} (h : s.Open w role o)
    (ha : (shared && s.notActingFor w) = false) (hr : (rws && s.running) = false) (hv : range = true)
    (hb : (body s).1 = .ok) :
    asWrite w role o i shared rws range old new body s =
      (if shared && w.origin != .twin then ((body (s.jrnWriteObj w o i false old new)).2).mirrorWrite o i new
       else (body (s.jrnWriteObj w o i false old new)).2).reply .ok := by
  unfold asWrite
  rw [if_neg (by simp [h.served]), if_neg (Nat.not_lt.2 h.role), h.free, if_neg (by simp), if_neg (by simp [ha]),
    if_neg (by simp [hr]), if_neg (by simp [hv])]
  dsimp only
  split
  · rfl
  · rename_i e
    rw [e] at hb
    subst hb
    contradiction

/-- A read with an effect that nothing bars. -/
theorem asRead_of_open {body : State → Err × Val × State} (hs : s.served = true) (hr : o.info.role.rank ≤ w.role.rank)
    (hf : s.barred w o false = none) : asRead w o body s = ((body s).2.2).reply (body s).1 (body s).2.1 := by
  unfold asRead
  rw [if_neg (by simp [hs]), if_neg (Nat.not_lt.2 hr), hf]

end Sys2Proof.Machine
end

