-- ==== Sys2Proof/Laws/KeptServices.lean ====
section
/-! SUPPORT. Each operation of the journal, fences, queues, repairs and events leaves the queue of commands
as it is and a sound state sound (Kept). -/

namespace Sys2Proof.Machine

open Sys2Proof

/-! ### Machine/Ops -/

theorem State.put_kept {r0 : State} (s : State) (o : Obj) (i : Nat) (v : Int) (hl : o.legal v = true)
    (h : Kept r0 s) : Kept r0 (State.put s o i v) :=
  kept_put h o i v hl

theorem State.putBytes_kept {r0 : State} (s : State) (o : Obj) (i : Nat) (v : List Byte) (h : Kept r0 s) :
    Kept r0 (State.putBytes s o i v) :=
  kept_putBytes h o i v

theorem State.bump_kept {r0 : State} (s : State) (o : Obj) (i : Nat) (ho : o.greatestCode.isNone = true) (hk : Kept r0 s) : Kept r0 (State.bump s o i) := by
  unfold State.bump
  simp only [ho, hk, kept_put, Obj.legal_of_free]

theorem State.add64_kept {r0 : State} (s : State) (o : Obj) (i : Nat) (n : Int) (ho : o.greatestCode.isNone = true) (hk : Kept r0 s) : Kept r0 (State.add64 s o i n) := by
  unfold State.add64
  simp only [ho, hk, kept_put, Obj.legal_of_free]

theorem State.add32_kept {r0 : State} (s : State) (o : Obj) (i : Nat) (n : Nat) (ho : o.greatestCode.isNone = true) (hk : Kept r0 s) : Kept r0 (State.add32 s o i n) := by
  unfold State.add32
  simp only [ho, hk, kept_put, Obj.legal_of_free]

theorem State.raiseTo_kept {r0 : State} (s : State) (o : Obj) (i : Nat) (v : Int) (ho : o.greatestCode.isNone = true) (hk : Kept r0 s) : Kept r0 (State.raiseTo s o i v) := by
  unfold State.raiseTo
  simp (maxDischargeDepth := 200) only [ho, hk, kept_put, kept_ite, Obj.legal_of_free]

theorem State.setChan_kept {r0 : State} (s : State) (c : Nat) (v : Chan) (hk : Kept r0 s) : Kept r0 (State.setChan s c v) := by
  unfold State.setChan
  simp only [hk, kept_mk]

theorem State.setBank_kept {r0 : State} (s : State) (b : Nat) (v : Bank) (hk : Kept r0 s) : Kept r0 (State.setBank s b v) := by
  unfold State.setBank
  simp only [hk, kept_mk]

theorem State.setScan_kept {r0 : State} (s : State) (b : Nat) (v : Scan) (hk : Kept r0 s) : Kept r0 (State.setScan s b v) := by
  unfold State.setScan
  simp only [hk, kept_mk]

theorem State.setTrier_kept {r0 : State} (s : State) (t : Nat) (v : Trier) (hk : Kept r0 s) : Kept r0 (State.setTrier s t v) := by
  unfold State.setTrier
  simp only [hk, kept_mk]

theorem State.setLane_kept {r0 : State} (s : State) (b : Nat) (v : Lane) (hk : Kept r0 s) : Kept r0 (State.setLane s b v) := by
  unfold State.setLane
  simp only [hk, kept_mk]

theorem State.setBox_kept {r0 : State} (s : State) (k : Nat) (v : Mailbox) (hk : Kept r0 s) : Kept r0 (State.setBox s k v) := by
  unfold State.setBox
  simp only [hk, kept_mk]

theorem State.setLink_kept {r0 : State} (s : State) (p : Nat) (v : Link) (hk : Kept r0 s) : Kept r0 (State.setLink s p v) := by
  unfold State.setLink
  simp only [hk, kept_mk]

theorem State.setSerLane_kept {r0 : State} (s : State) (l : Nat) (v : SerLane) (hk : Kept r0 s) : Kept r0 (State.setSerLane s l v) := by
  unfold State.setSerLane
  simp only [hk, kept_mk]

theorem State.setTimePort_kept {r0 : State} (s : State) (p : Nat) (v : TimePort) (hk : Kept r0 s) : Kept r0 (State.setTimePort s p v) := by
  unfold State.setTimePort
  simp only [hk, kept_mk]

theorem State.setEvDelivery_kept {r0 : State} (s : State) (n : Nat) (v : EvDelivery) (hk : Kept r0 s) : Kept r0 (State.setEvDelivery s n v) := by
  unfold State.setEvDelivery
  simp only [hk, kept_mk]

theorem State.emit_kept {r0 : State} (s : State) (x : Out) (hk : Kept r0 s) : Kept r0 (State.emit s x) := by
  unfold State.emit
  simp only [hk, kept_mk]

theorem State.draw_kept {r0 : State} (s : State) (hk : Kept r0 s) : Kept r0 (State.draw s).2 := by
  unfold State.draw
  simp only [hk, kept_mk]

theorem State.queueFrame_kept {r0 : State} (s : State) (p : Nat) (rank : Nat) (f : Frame) (hk : Kept r0 s) : Kept r0 (State.queueFrame s p rank f) := by
  unfold State.queueFrame
  simp only [hk, kept_ite, State.setLink_kept]

theorem State.sendFrame_kept {r0 : State} (s : State) (p : Nat) (rank : Nat) (f : Frame) (hk : Kept r0 s) : Kept r0 (State.sendFrame s p rank f) := by
  unfold State.sendFrame
  simp (maxDischargeDepth := 200) +decide only [hk, kept_ite, State.add64_kept, State.bump_kept, State.queueFrame_kept]

theorem State.newFrame_kept {r0 : State} (s : State) (cls : Nat) (bothways : Bool) (link : Bool) (dstKind : Nat) (dstPos : Nat) (dstAddr : Nat) (payload : List Byte) (hk : Kept r0 s) : Kept r0 (State.newFrame s cls bothways link dstKind dstPos dstAddr payload).2 := by
  unfold State.newFrame
  simp only [hk, kept_mk]

theorem State.sendReport_kept {r0 : State} (s : State) (n : Nat) (hk : Kept r0 s) : Kept r0 (State.sendReport s n) := by
  unfold State.sendReport
  simp (maxDischargeDepth := 200) only [hk, kept_ite, State.newFrame_kept, State.sendFrame_kept, State.setEvDelivery_kept]

theorem State.deliverRing_kept {r0 : State} (s : State) (n : Nat) (hk : Kept r0 s) : Kept r0 (State.deliverRing s n) := by
  unfold State.deliverRing
  repeat' first
    | (simp +decide only [hk, State.bump_kept, State.sendReport_kept, State.setEvDelivery_kept]; done)
    | dsimp only
    | split

theorem State.orCause_kept {r0 : State} (s : State) (o : Obj) (i : Nat) (b : Nat) (ho : o.greatestCode.isNone = true) (hk : Kept r0 s) : Kept r0 (State.orCause s o i b) := by
  unfold State.orCause
  simp only [ho, hk, kept_put, Obj.legal_of_free]

theorem State.countRaise_kept {r0 : State} (s : State) (n : Nat) (hk : Kept r0 s) : Kept r0 (State.countRaise s n) := by
  unfold State.countRaise
  simp (maxDischargeDepth := 200) +decide only [hk, kept_put, kept_ite, Obj.legal_of_free, State.setEvDelivery_kept]

theorem State.noticePlaced_kept {r0 : State} (s : State) (hk : Kept r0 s) : Kept r0 (State.noticePlaced s) := by
  unfold State.noticePlaced
  simp (maxDischargeDepth := 200) +decide only [hk, kept_ite, State.countRaise_kept, State.deliverRing_kept, State.orCause_kept]

theorem State.placeNotice_kept {r0 : State} (s : State) (k : Nat) (mk : Nat → Notice) (hk : Kept r0 s) : Kept r0 (State.placeNotice s k mk) := by
  unfold State.placeNotice
  simp (maxDischargeDepth := 200) only [hk, kept_ite, State.noticePlaced_kept, State.setBox_kept]

theorem State.postEvent_kept {r0 : State} (s : State) (n : Nat) (hk : Kept r0 s) : Kept r0 (State.postEvent s n) := by
  unfold State.postEvent
  simp only [hk, State.placeNotice_kept, State.setEvDelivery_kept]

theorem State.countNotice_kept {r0 : State} (s : State) (n : Nat) (hk : Kept r0 s) : Kept r0 (State.countNotice s n) := by
  unfold State.countNotice
  simp +contextual only [hk, kept_foldl, implies_true, State.setBox_kept]

theorem State.deliverMbx_kept {r0 : State} (s : State) (n : Nat) (hk : Kept r0 s) : Kept r0 (State.deliverMbx s n) := by
  unfold State.deliverMbx
  repeat' first
    | (simp +decide only [hk, State.bump_kept, State.countNotice_kept, State.postEvent_kept, State.setEvDelivery_kept]; done)
    | dsimp only
    | split

theorem State.recover_kept {r0 : State} (s : State) (hk : Kept r0 s) : Kept r0 (State.recover s) := by
  unfold State.recover
  simp (maxDischargeDepth := 200) +decide only [hk, kept_put, kept_mk, kept_ite]

theorem State.abortItems_kept {r0 : State} (s : State) (items : List Int) (hk : Kept r0 s) : Kept r0 (State.abortItems s items) := by
  unfold State.abortItems
  simp only [hk, kept_mk, kept_ite]

theorem State.abortRegion_kept {r0 : State} (s : State) (capture : Bool) (i : Nat) (hk : Kept r0 s) : Kept r0 (State.abortRegion s capture i) := by
  unfold State.abortRegion
  simp only [hk, kept_ite, State.abortItems_kept]

theorem State.raise_kept {r0 : State} (s : State) (n : Nat) (hk : Kept r0 s) : Kept r0 (State.raise s n) := by
  unfold State.raise
  simp (maxDischargeDepth := 200) only [hk, kept_ite, State.countRaise_kept, State.deliverMbx_kept, State.deliverRing_kept, State.recover_kept]

theorem State.noteCause_kept {r0 : State} (s : State) (o : Obj) (i : Nat) (b : Nat) (raised : Bool) (hk : Kept r0 s) : Kept r0 (State.noteCause s o i b raised) := by
  unfold State.noteCause
  repeat' first
    | (simp only [hk, kept_mk]; done)
    | split

theorem State.raiseOf_kept {r0 : State} (s : State) (o : Obj) (i : Nat) (b : Nat) (hk : Kept r0 s) : Kept r0 (State.raiseOf s o i b) := by
  unfold State.raiseOf
  repeat' first
    | (simp only [hk, State.raise_kept]; done)
    | split

theorem State.cause_kept {r0 : State} (s : State) (o : Obj) (i : Nat) (b : Nat) (ho : o.greatestCode.isNone = true) (hk : Kept r0 s) : Kept r0 (State.cause s o i b) := by
  unfold State.cause
  simp (maxDischargeDepth := 200) only [ho, hk, kept_ite, State.noteCause_kept, State.orCause_kept, State.raiseOf_kept]

theorem State.causeIn_kept {r0 : State} (s : State) (cls : Nat) (inst : Nat) (o : Obj) (i : Nat) (b : Nat) (ho : o.greatestCode.isNone = true) (hk : Kept r0 s) : Kept r0 (State.causeIn s cls inst o i b) := by
  unfold State.causeIn
  simp (maxDischargeDepth := 200) +decide only [ho, hk, kept_ite, State.bump_kept, State.cause_kept, State.noteCause_kept, State.orCause_kept]

theorem State.crossTest_kept {r0 : State} (s : State) (k : Nat) (hk : Kept r0 s) : Kept r0 (State.crossTest s k) := by
  unfold State.crossTest
  simp (maxDischargeDepth := 200) +decide only [hk, kept_put, kept_ite, State.bump_kept, State.cause_kept, State.setBox_kept]

theorem State.clearCause_kept {r0 : State} (s : State) (o : Obj) (i : Nat) (mask : Int) (ho : o.greatestCode.isNone = true) (hk : Kept r0 s) : Kept r0 (State.clearCause s o i mask) := by
  unfold State.clearCause
  simp (maxDischargeDepth := 200) +contextual only [ho, hk, kept_put, kept_ite, kept_foldl, Obj.legal_of_free, implies_true, State.raiseOf_kept]

theorem State.addMark_kept {r0 : State} (s : State) (c : Nat) (m : Mark) (hk : Kept r0 s) : Kept r0 (State.addMark s c m) := by
  unfold State.addMark
  simp only [hk, State.setChan_kept]

theorem State.wheySpan_kept {r0 : State} (s : State) (c : Nat) (lo : Int) (hi : Int) (hk : Kept r0 s) : Kept r0 (State.wheySpan s c lo hi) := by
  unfold State.wheySpan
  simp only [hk, State.addMark_kept]

theorem State.endMarks_kept {r0 : State} (s : State) (c : Nat) (tag : MarkTag) (hi : Int) (hk : Kept r0 s) : Kept r0 (State.endMarks s c tag hi) := by
  unfold State.endMarks
  simp only [hk, State.setChan_kept]

/-! ### Machine/Journal -/

theorem State.jrnStore_kept {r0 : State} (s : State) (entry : List Byte) (hk : Kept r0 s) : Kept r0 (State.jrnStore s entry) := by
  unfold State.jrnStore
  simp (maxDischargeDepth := 200) +decide only [hk, kept_mk, kept_ite, State.bump_kept, State.cause_kept]

theorem State.jrnAnchor_kept {r0 : State} (s : State) (hk : Kept r0 s) : Kept r0 (State.jrnAnchor s) := by
  unfold State.jrnAnchor
  simp only [hk, kept_mk, State.jrnStore_kept]

theorem State.jrnWrite_kept {r0 : State} (s : State) (kind : Nat) (source : Nat) (index : Nat) (sub : Nat) (staged : Bool) (part : Bool) (old : List Byte) (new : List Byte) (hk : Kept r0 s) : Kept r0 (State.jrnWrite s kind source index sub staged part old new) := by
  unfold State.jrnWrite
  simp (maxDischargeDepth := 200) only [hk, kept_ite, State.jrnAnchor_kept, State.jrnStore_kept]

theorem State.jrnCommand_kept {r0 : State} (s : State) (w : Who) (o : Obj) (i : Nat) (new : Val) (hk : Kept r0 s) : Kept r0 (State.jrnCommand s w o i new) := by
  unfold State.jrnCommand
  simp only [hk, State.jrnWrite_kept]

theorem State.jrnWriteObj_kept {r0 : State} (s : State) (w : Who) (o : Obj) (i : Nat) (staged : Bool) (old : Val) (new : Val) (hk : Kept r0 s) : Kept r0 (State.jrnWriteObj s w o i staged old new) := by
  unfold State.jrnWriteObj
  simp only [hk, State.jrnWrite_kept]

theorem State.startMirror_kept {r0 : State} (s : State) (hk : Kept r0 s) : Kept r0 (State.startMirror s) := by
  unfold State.startMirror
  simp (maxDischargeDepth := 200) +decide only [hk, kept_put, kept_mk, kept_ite]

theorem State.caveReady_kept {r0 : State} (s : State) (hk : Kept r0 s) : Kept r0 (State.caveReady s) := by
  unfold State.caveReady
  simp (maxDischargeDepth := 200) +decide only [hk, kept_put, kept_ite, State.startMirror_kept]

theorem State.reply_kept {r0 : State} (s : State) (e : Err) (v : Val) (hk : Kept r0 s) : Kept r0 (State.reply s e v) := by
  unfold State.reply
  simp only [hk, kept_mk]

theorem asCommand_kept {r0 : State} (w : Who) (role : Role) (o : Obj) (i : Nat) (new : Val) (body : State → Err × State)
    (s : State) (hb : ∀ s, Kept r0 s → Kept r0 (body s).2) (h : Kept r0 s) : Kept r0 (asCommand w role o i new body s) := by
  have hs := hb s h
  have hj := hb _ (State.jrnCommand_kept s w o i new h)
  unfold asCommand
  repeat' first
    | (simp only [h, State.reply_kept]; done)
    | split
  · exact State.reply_kept _ _ _ hj
  · rename_i heq
    rw [heq] at hs
    exact State.reply_kept _ _ _ hs

theorem asRead_kept {r0 : State} (w : Who) (o : Obj) (body : State → Err × Val × State)
    (s : State) (hb : ∀ s, Kept r0 s → Kept r0 (body s).2.2) (h : Kept r0 s) : Kept r0 (asRead w o body s) := by
  have hs := hb s h
  unfold asRead
  repeat' first
    | (simp only [h, hs, State.reply_kept]; done)
    | split

theorem State.mirrorEntry_kept {r0 : State} (s : State) (index : Nat) (sub : Nat) (value : List Byte) (hk : Kept r0 s) : Kept r0 (State.mirrorEntry s index sub value) := by
  unfold State.mirrorEntry
  simp (maxDischargeDepth := 200) only [hk, kept_mk, kept_ite, State.newFrame_kept, State.sendFrame_kept]

theorem State.mirrorWrite_kept {r0 : State} (s : State) (o : Obj) (i : Nat) (v : Val) (hk : Kept r0 s) : Kept r0 (State.mirrorWrite s o i v) := by
  unfold State.mirrorWrite
  simp only [hk, State.mirrorEntry_kept]

theorem State.mirrorChange_kept {r0 : State} (s : State) (before : State) (o : Obj) (i : Nat) (hk : Kept r0 s) : Kept r0 (State.mirrorChange s before o i) := by
  unfold State.mirrorChange
  simp only [hk, kept_ite, State.mirrorWrite_kept]

theorem asWrite_kept {r0 : State} (w : Who) (role : Role) (o : Obj) (i : Nat) (shared rws range : Bool) (old new : Val)
    (body : State → Err × State) (s : State) (hb : ∀ s, Kept r0 s → Kept r0 (body s).2) (h : Kept r0 s) :
    Kept r0 (asWrite w role o i shared rws range old new body s) := by
  have hs := hb s h
  have hj := hb _ (State.jrnWriteObj_kept s w o i false old new h)
  unfold asWrite
  repeat' first
    | (simp only [h, hj, State.reply_kept, State.mirrorWrite_kept]; done)
    | dsimp only
    | split
  · rename_i heq
    rw [heq] at hs
    exact State.reply_kept _ _ _ hs

theorem clearCommand_kept {r0 : State} (w : Who) (clear : Obj) (cause : Obj) (i : Nat) (mask : Nat) (s : State) (ho : cause.greatestCode.isNone = true) (hk : Kept r0 s) : Kept r0 (clearCommand w clear cause i mask s) := by
  unfold clearCommand
  simp +contextual only [ho, hk, implies_true, State.clearCause_kept, asCommand_kept]

/-! ### Machine/Fence -/

theorem State.setFenceTick_kept {r0 : State} (s : State) (cls : Nat) (i : Nat) (f : FenceTick) (hk : Kept r0 s) : Kept r0 (State.setFenceTick s cls i f) := by
  unfold State.setFenceTick
  simp only [hk, kept_mk]

theorem State.enterFence_kept {r0 : State} (s : State) (cls : Nat) (i : Nat) (code : Nat) (hk : Kept r0 s) : Kept r0 (State.enterFence s cls i code) := by
  unfold State.enterFence
  simp (maxDischargeDepth := 200) +decide only [hk, kept_put, kept_ite, Obj.legal_of_free, State.bump_kept, State.cause_kept]

theorem State.autoFence_kept {r0 : State} (s : State) (cls : Nat) (i : Nat) (code : Nat) (hk : Kept r0 s) : Kept r0 (State.autoFence s cls i code) := by
  unfold State.autoFence
  simp (maxDischargeDepth := 200) +decide only [hk, kept_ite, State.cause_kept, State.enterFence_kept, State.setFenceTick_kept]

theorem State.leaveFence_kept {r0 : State} (s : State) (cls : Nat) (i : Nat) (hk : Kept r0 s) : Kept r0 (State.leaveFence s cls i) := by
  unfold State.leaveFence
  simp (maxDischargeDepth := 200) +decide only [hk, kept_put, Obj.legal_of_free, State.cause_kept]

/-! ### Machine/Queue -/

theorem State.setQueue_kept {r0 : State} (s : State) (q : Nat) (v : Queue) (hk : Kept r0 s) : Kept r0 (State.setQueue s q v) := by
  unfold State.setQueue
  simp only [hk, kept_mk]

theorem State.queueCause_kept {r0 : State} (s : State) (q : Nat) (b : Nat) (hk : Kept r0 s) : Kept r0 (State.queueCause s q b) := by
  unfold State.queueCause
  simp +decide only [hk, State.causeIn_kept]

theorem State.pushSlots_kept {r0 : State} (s : State) (q : Nat) (freed : Nat) (xs : List Slot) (hk : Kept r0 s) : Kept r0 (State.pushSlots s q freed xs) := by
  unfold State.pushSlots
  simp (maxDischargeDepth := 200) +decide only [hk, kept_ite, State.queueCause_kept, State.raiseTo_kept, State.setQueue_kept]

theorem State.pump_kept {r0 : State} (s : State) (q : Nat) (freed : Nat) (hk : Kept r0 s) : Kept r0 (State.pump s q freed) := by
  unfold State.pump
  repeat' first
    | (simp only [hk, State.pushSlots_kept, State.setQueue_kept]; done)
    | dsimp only
    | split

theorem State.enter_kept {r0 : State} (s : State) (q : Nat) (p : Packet) (hk : Kept r0 s) : Kept r0 (State.enter s q p) := by
  unfold State.enter
  simp (maxDischargeDepth := 200) only [hk, kept_ite, State.pump_kept, State.pushSlots_kept, State.setQueue_kept]

theorem lossCounter_free (c : Nat) : (lossCounter c).greatestCode.isNone = true := by
  unfold lossCounter
  split <;> rfl

theorem State.lose_kept {r0 : State} (s : State) (x : Loss) (hk : Kept r0 s) : Kept r0 (State.lose s x) := by
  unfold State.lose
  simp (maxDischargeDepth := 200) +contextual +decide only [lossCounter_free, hk, kept_mk, kept_foldl, implies_true, State.add64_kept]

theorem State.losePacket_kept {r0 : State} (s : State) (cause : Nat) (p : Packet) (hk : Kept r0 s) : Kept r0 (State.losePacket s cause p) := by
  unfold State.losePacket
  simp only [hk, kept_ite, State.lose_kept]

theorem State.noteLowSpace_kept {r0 : State} (s : State) (before : Int) (hk : Kept r0 s) : Kept r0 (State.noteLowSpace s before) := by
  unfold State.noteLowSpace
  simp +decide only [hk, kept_ite, State.cause_kept]

theorem State.overtake_kept {r0 : State} (s : State) (last : Int) (hk : Kept r0 s) : Kept r0 (State.overtake s last) := by
  unfold State.overtake
  simp (maxDischargeDepth := 200) +contextual +decide only [hk, kept_put, kept_mk, kept_ite, kept_foldl, Obj.legal_of_free, implies_true, State.add64_kept, State.cause_kept]

theorem State.loseSegment_kept {r0 : State} (s : State) (cause : Nat) (g : Segment) (hk : Kept r0 s) : Kept r0 (State.loseSegment s cause g) := by
  unfold State.loseSegment
  simp (maxDischargeDepth := 200) +contextual only [hk, kept_ite, kept_foldl, implies_true, State.losePacket_kept]

theorem State.reclaim_kept {r0 : State} (s : State) (g : Segment) (hk : Kept r0 s) : Kept r0 (State.reclaim s g) := by
  unfold State.reclaim
  simp (maxDischargeDepth := 200) +contextual +decide only [hk, kept_mk]

theorem State.accountFor_kept {r0 : State} (s : State) (g : Segment) (hk : Kept r0 s) : Kept r0 (State.accountFor s g) := by
  unfold State.accountFor
  simp (maxDischargeDepth := 200) +decide only [hk, kept_ite, State.cause_kept, State.loseSegment_kept, State.overtake_kept]

theorem State.settleReclaims_kept {r0 : State} (s : State) (hk : Kept r0 s) : Kept r0 (State.settleReclaims s) := by
  unfold State.settleReclaims
  simp +contextual only [hk, kept_mk, kept_foldl, implies_true, State.accountFor_kept]

theorem State.writerSegment_kept {r0 : State} (s : State) (hk : Kept r0 s) : Kept r0 (State.writerSegment s).2 := by
  unfold State.writerSegment
  repeat' first
    | (simp +decide only [hk, kept_ite_snd, State.cause_kept, State.reclaim_kept]; done)
    | dsimp only
    | split

theorem State.writeRing_kept {r0 : State} (s : State) (tick : Int) (p : Packet) (hk : Kept r0 s) : Kept r0 (State.writeRing s tick p).2 := by
  unfold State.writeRing
  repeat' first
    | (simp (maxDischargeDepth := 200) +decide only [hk, kept_mk, State.add64_kept, State.noteLowSpace_kept, State.writerSegment_kept]; done)
    | dsimp only
    | (split <;> rename_i heq <;> replace heq := congrArg Prod.snd heq <;> dsimp only at heq <;> subst heq)
    | split

theorem State.reportLosses_kept {r0 : State} (n : Nat) (s : State) (hk : Kept r0 s) : Kept r0 (State.reportLosses n s) := by
  induction n generalizing s with
  | zero => exact hk
  | succ n ih =>
    unfold State.reportLosses
    repeat' first
      | (simp (maxDischargeDepth := 200) +decide only [hk, ih, State.writeRing_kept, kept_put, kept_mk, Obj.legal_of_free]; done)
      | dsimp only
      | (split <;> rename_i heq <;> replace heq := congrArg Prod.snd heq <;> dsimp only at heq <;> subst heq)
      | split

theorem State.closeAccounts_kept {r0 : State} (s : State) (hk : Kept r0 s) : Kept r0 (State.closeAccounts s) := by
  unfold State.closeAccounts
  simp (maxDischargeDepth := 200) only [hk, State.reportLosses_kept, State.settleReclaims_kept]

theorem State.settleLosses_kept {r0 : State} (s : State) (hk : Kept r0 s) : Kept r0 (State.settleLosses s) := by
  unfold State.settleLosses
  simp only [hk, kept_ite, State.closeAccounts_kept]

theorem State.ackSegments_kept {r0 : State} (s : State) (hk : Kept r0 s) : Kept r0 (State.ackSegments s) := by
  unfold State.ackSegments
  simp only [hk, kept_mk]

theorem State.applyAck_kept {r0 : State} (s : State) (q : Nat) (seq : Nat) (hk : Kept r0 s) : Kept r0 (State.applyAck s q seq).2 := by
  unfold State.applyAck
  simp (maxDischargeDepth := 200) +decide only [hk, kept_put, kept_ite_snd, Obj.legal_of_free, State.ackSegments_kept, State.queueCause_kept]

theorem State.noteSeq_kept {r0 : State} (s : State) (q : Nat) (grid : Int) (seq : Int) (hk : Kept r0 s) : Kept r0 (State.noteSeq s q grid seq) := by
  unfold State.noteSeq
  simp only [hk, kept_mk, kept_ite]

theorem State.offer_kept {r0 : State} (s : State) (q : Nat) (ptype : Nat) (pflags : Nat) (grid : Int) (payload : List Byte) (hk : Kept r0 s) : Kept r0 (State.offer s q ptype pflags grid payload).2 := by
  unfold State.offer
  simp (maxDischargeDepth := 200) +decide only [hk, kept_put, kept_ite_snd, Obj.legal_of_free, State.bump_kept, State.enter_kept, State.losePacket_kept, State.noteSeq_kept]

theorem State.takePacket_kept {r0 : State} (s : State) (q : Nat) (hk : Kept r0 s) : Kept r0 (State.takePacket s q).2 := by
  unfold State.takePacket
  repeat' first
    | (simp only [hk, State.pump_kept, State.setQueue_kept]; done)
    | dsimp only
    | split

theorem State.popWord_kept {r0 : State} (s : State) (q : Nat) (hk : Kept r0 s) : Kept r0 (State.popWord s q).2 := by
  unfold State.popWord
  repeat' first
    | (simp only [hk, State.pump_kept, State.setQueue_kept]; done)
    | dsimp only
    | split

theorem State.flushQueue_kept {r0 : State} (s : State) (q : Nat) (hk : Kept r0 s) : Kept r0 (State.flushQueue s q) := by
  unfold State.flushQueue
  simp (maxDischargeDepth := 200) +decide only [hk, State.add32_kept, State.queueCause_kept, State.setQueue_kept]

theorem State.dropRest_kept {r0 : State} (s : State) (q : Nat) (hk : Kept r0 s) : Kept r0 (State.dropRest s q) := by
  unfold State.dropRest
  repeat' first
    | (simp (maxDischargeDepth := 200) +decide only [hk, State.add32_kept, State.pump_kept, State.queueCause_kept, State.setQueue_kept]; done)
    | dsimp only
    | split

theorem execQueueFlush_kept {r0 : State} (w : Who) (q : Fin 16) (s : State) (hk : Kept r0 s) : KeptO r0 (execQueueFlush w q s) := by
  unfold execQueueFlush
  simp (maxDischargeDepth := 200) +contextual only [hk, keptO_next, implies_true, State.flushQueue_kept, asCommand_kept]

theorem execQueueDropRest_kept {r0 : State} (w : Who) (q : Fin 16) (s : State) (hk : Kept r0 s) : KeptO r0 (execQueueDropRest w q s) := by
  unfold execQueueDropRest
  simp (maxDischargeDepth := 200) +contextual only [hk, kept_ite_snd, keptO_next, implies_true, State.dropRest_kept, asCommand_kept]

/-- The same, of an outcome of the body that is not unfolded. -/
theorem asCommand_kept_of_eq {r0 : State} (w : Who) (role : Role) (o : Obj) (i : Nat) (new : Val) (body : State → Err × State)
    (s : State) (hb : ∀ s p, Kept r0 s → body s = p → Kept r0 p.2) (h : Kept r0 s) :
    Kept r0 (asCommand w role o i new body s) :=
  asCommand_kept w role o i new body s (fun t ht => hb t _ ht rfl) h

theorem execStreamAck_kept {r0 : State} (w : Who) (q : Fin 16) (seq : Nat) (s : State) (hk : Kept r0 s) :
    KeptO r0 (execStreamAck w q seq s) := by
  unfold execStreamAck
  exact keptO_next (asCommand_kept_of_eq _ _ _ _ _ _ _
    (fun t p h e => by rw [← e]; exact State.applyAck_kept t _ _ h) hk)

theorem execQcCauseClear_kept {r0 : State} (w : Who) (mask : Nat) (s : State) (hk : Kept r0 s) : KeptO r0 (execQcCauseClear w mask s) := by
  unfold execQcCauseClear
  simp +decide only [hk, keptO_next, clearCommand_kept]

theorem State.loseUnreadable_kept {r0 : State} (s : State) (g : Segment) (k : Nat) (x : Stored) (hk : Kept r0 s) : Kept r0 (State.loseUnreadable s g k x) := by
  unfold State.loseUnreadable
  simp (maxDischargeDepth := 200) only [hk, kept_mk, kept_ite, State.lose_kept, State.losePacket_kept]

theorem State.loseSlots_kept {r0 : State} (s : State) (q : Nat) (xs : List Slot) (p : Packet) (hk : Kept r0 s) : Kept r0 (State.loseSlots s q xs p) := by
  unfold State.loseSlots
  simp only [hk, kept_ite, State.lose_kept, State.losePacket_kept]

theorem execCaveWritePacket_kept {r0 : State} (q : Fin 16) (s : State) (hk : Kept r0 s) : KeptO r0 (execCaveWritePacket q s) := by
  unfold execCaveWritePacket
  repeat' first
    | (simp (maxDischargeDepth := 200) only [hk, kept_mk, keptO_next, State.loseSlots_kept, State.settleLosses_kept, State.takePacket_kept, State.writeRing_kept]; done)
    | dsimp only
    | (split <;> rename_i heq <;> replace heq := congrArg Prod.snd heq <;> dsimp only at heq <;> subst heq)
    | split

theorem execCaveDiscard_kept {r0 : State} (w : Who) (s : State) (hk : Kept r0 s) : KeptO r0 (execCaveDiscard w s) := by
  unfold execCaveDiscard
  simp (maxDischargeDepth := 200) +contextual only [hk, kept_mk, keptO_next, kept_foldl, implies_true, State.ackSegments_kept, State.loseSegment_kept, State.settleLosses_kept, asCommand_kept]

theorem State.scrubbed_kept {r0 : State} (s : State) (corrected : Nat) (bad : Nat) (hurt : List (Nat × Nat × Damage)) (hk : Kept r0 s) : Kept r0 (State.scrubbed s corrected bad hurt) := by
  unfold State.scrubbed
  simp (maxDischargeDepth := 200) +decide only [hk, kept_mk, kept_ite, State.add32_kept, State.add64_kept, State.cause_kept]

theorem execCaveScrubPass_kept {r0 : State} (corrected : Nat) (bad : Nat) (hurt : List (Nat × Nat × Damage)) (s : State) (hk : Kept r0 s) : KeptO r0 (execCaveScrubPass corrected bad hurt s) := by
  unfold execCaveScrubPass
  simp (maxDischargeDepth := 200) only [hk, kept_ite, keptO_next, State.scrubbed_kept]

theorem execMarkSet_kept {r0 : State} (w : Who) (n : Fin 16) (m : Nat) (s : State) (hk : Kept r0 s) : KeptO r0 (execMarkSet w n m s) := by
  unfold execMarkSet
  repeat' first
    | (simp (maxDischargeDepth := 200) +decide only [hk, kept_put, kept_ite_snd, Obj.legal_of_free, State.cause_kept, State.overtake_kept]; done)
    | refine keptO_next (asCommand_kept _ _ _ _ _ _ _ (fun s hk => ?_) hk)
    | split

theorem execMarkClear_kept {r0 : State} (w : Who) (n : Fin 16) (s : State) (hk : Kept r0 s) : KeptO r0 (execMarkClear w n s) := by
  unfold execMarkClear
  simp (maxDischargeDepth := 200) +contextual +decide only [hk, kept_put, keptO_next, Obj.legal_of_free, implies_true, asCommand_kept]

theorem execReplayStart_kept {r0 : State} (w : Who) (s : State) (hk : Kept r0 s) : KeptO r0 (execReplayStart w s) := by
  unfold execReplayStart
  repeat' first
    | (simp (maxDischargeDepth := 200) +decide only [hk, kept_put, kept_mk, kept_ite_snd, Obj.legal_of_free, State.cause_kept, State.overtake_kept]; done)
    | dsimp only
    | refine keptO_next (asCommand_kept _ _ _ _ _ _ _ (fun s hk => ?_) hk)
    | split

theorem State.cutReplay_kept {r0 : State} (s : State) (hk : Kept r0 s) : Kept r0 (State.cutReplay s) := by
  unfold State.cutReplay
  simp +decide only [hk, kept_put, kept_ite]

theorem execReplayStop_kept {r0 : State} (w : Who) (s : State) (hk : Kept r0 s) : KeptO r0 (execReplayStop w s) := by
  unfold execReplayStop
  simp (maxDischargeDepth := 200) +contextual only [hk, keptO_next, implies_true, State.cutReplay_kept, asCommand_kept]

theorem State.replayPast_kept {r0 : State} (s : State) (x : Stored) (hk : Kept r0 s) : Kept r0 (State.replayPast s x) := by
  unfold State.replayPast
  simp only [hk, kept_mk, kept_ite]

theorem State.readPacket_kept {r0 : State} (s : State) (g : Segment) (k : Nat) (x : Stored) (hk : Kept r0 s) : Kept r0 (State.readPacket s g k x).2 := by
  unfold State.readPacket
  simp (maxDischargeDepth := 200) +decide only [hk, kept_ite_snd, State.abortRegion_kept, State.bump_kept, State.cause_kept, State.loseUnreadable_kept]

theorem State.replayToQueue_kept {r0 : State} (s : State) (hk : Kept r0 s) : Kept r0 (State.replayToQueue s) := by
  unfold State.replayToQueue
  repeat' first
    | (simp (maxDischargeDepth := 200) +decide only [hk, State.add64_kept, State.enter_kept, State.readPacket_kept, State.replayPast_kept]; done)
    | dsimp only
    | refine kept_foldl_snd (fun a x hk => ?_) _ ?_
    | (split <;> rename_i heq <;> replace heq := congrArg Prod.snd heq <;> dsimp only at heq <;> subst heq)
    | split

theorem execReplayDone_kept {r0 : State} (s : State) (hk : Kept r0 s) : KeptO r0 (execReplayDone s) := by
  unfold execReplayDone
  simp (maxDischargeDepth := 200) +decide only [hk, kept_put, keptO_next, keptO_ite, Obj.legal_of_free, State.cause_kept]

/-! ### Machine/Snapshot -/

theorem State.takeSnap_kept {r0 : State} (s : State) (hk : Kept r0 s) : Kept r0 (State.takeSnap s) := by
  unfold State.takeSnap
  simp only [hk, kept_mk]

theorem State.startDone_kept {r0 : State} (s : State) (hk : Kept r0 s) : Kept r0 (State.startDone s) := by
  unfold State.startDone
  simp +decide only [hk, kept_put, Obj.legal_of_free]

theorem State.noteQualified_kept {r0 : State} (s : State) (hk : Kept r0 s) : Kept r0 (State.noteQualified s) := by
  unfold State.noteQualified
  simp only [hk, kept_mk]

theorem State.judgeStartUp_kept {r0 : State} (s : State) (hk : Kept r0 s) : Kept r0 (State.judgeStartUp s) := by
  unfold State.judgeStartUp
  simp (maxDischargeDepth := 200) +decide only [hk, kept_put, kept_ite, Obj.legal_of_free, State.noteQualified_kept, State.startDone_kept]

theorem State.settle_kept {r0 : State} (s : State) (hk : Kept r0 s) : Kept r0 (State.settle s) := by
  unfold State.settle
  simp (maxDischargeDepth := 200) only [hk, kept_ite, State.judgeStartUp_kept, State.takeSnap_kept]

theorem settled_kept {r0 : State} (s : State) (hk : Kept r0 s) : KeptO r0 (settled s) := by
  unfold settled
  simp only [hk, keptO_next, State.settle_kept]

/-! ### Machine/Repair -/

theorem State.repairActs_kept {r0 : State} (s : State) (e : Nat) (hk : Kept r0 s) : Kept r0 (State.repairActs s e) := by
  unfold State.repairActs
  simp (maxDischargeDepth := 200) only [hk, kept_mk, kept_ite]

theorem State.writeRepair_kept {r0 : State} (s : State) (n : Nat) (e : Nat) (hk : Kept r0 s) : Kept r0 (State.writeRepair s n e) := by
  unfold State.writeRepair
  simp (maxDischargeDepth := 200) +decide only [hk, kept_put, Obj.legal_of_free, State.cause_kept, State.repairActs_kept]

theorem State.exhausted_kept {r0 : State} (s : State) (hk : Kept r0 s) : Kept r0 (State.exhausted s) := by
  unfold State.exhausted
  simp +decide only [hk, State.cause_kept]

theorem State.proposeRepair_kept {r0 : State} (s : State) (e : Nat) (hk : Kept r0 s) : Kept r0 (State.proposeRepair s e).2 := by
  unfold State.proposeRepair
  repeat' first
    | (simp +decide only [hk, kept_put, Obj.legal_of_free, State.exhausted_kept, State.jrnWrite_kept, State.writeRepair_kept]; done)
    | split

theorem State.proposeTaken_kept {r0 : State} (s : State) (b : Nat) (i : Nat) (hk : Kept r0 s) : Kept r0 (State.proposeTaken s b i) := by
  unfold State.proposeTaken
  simp only [hk, kept_ite, State.proposeRepair_kept]

/-! ### Machine/Events -/

theorem State.endRingHoldoff_kept {r0 : State} (s : State) (n : Nat) (hk : Kept r0 s) : Kept r0 (State.endRingHoldoff s n) := by
  unfold State.endRingHoldoff
  repeat' first
    | (simp only [hk, State.sendReport_kept, State.setEvDelivery_kept]; done)
    | dsimp only
    | split

theorem State.endMbxHoldoff_kept {r0 : State} (s : State) (n : Nat) (hk : Kept r0 s) : Kept r0 (State.endMbxHoldoff s n) := by
  unfold State.endMbxHoldoff
  repeat' first
    | (simp only [hk, State.postEvent_kept, State.setEvDelivery_kept]; done)
    | dsimp only
    | split

theorem execEventHoldoffEnd_kept {r0 : State} (n : Fin 256) (s : State) (hk : Kept r0 s) : KeptO r0 (execEventHoldoffEnd n s) := by
  unfold execEventHoldoffEnd
  simp (maxDischargeDepth := 200) only [hk, keptO_next, State.endMbxHoldoff_kept, State.endRingHoldoff_kept]

theorem State.ackEvent_kept {r0 : State} (s : State) (n : Nat) (hk : Kept r0 s) : Kept r0 (State.ackEvent s n) := by
  unfold State.ackEvent
  simp +decide only [hk, kept_put, kept_ite]

theorem execEvAck_kept {r0 : State} (w : Who) (n : Fin 256) (s : State) (hk : Kept r0 s) : KeptO r0 (execEvAck w n s) := by
  unfold execEvAck
  simp (maxDischargeDepth := 200) +contextual only [hk, keptO_next, implies_true, State.ackEvent_kept, asCommand_kept]

theorem execEvAckMap_kept {r0 : State} (w : Who) (map : List Byte) (s : State) (hk : Kept r0 s) : KeptO r0 (execEvAckMap w map s) := by
  unfold execEvAckMap
  simp (maxDischargeDepth := 200) +contextual only [hk, kept_ite, kept_ite_snd, keptO_next, kept_foldl, implies_true, State.ackEvent_kept, asCommand_kept]

theorem execFiCauseClear_kept {r0 : State} (w : Who) (mask : Nat) (s : State) (hk : Kept r0 s) : KeptO r0 (execFiCauseClear w mask s) := by
  unfold execFiCauseClear
  simp +decide only [hk, keptO_next, clearCommand_kept]

end Sys2Proof.Machine
end

