-- ==== Sys2Proof/Laws/KeptSampling.lean ====
section
/-! SUPPORT. Each operation of the time unit, the channels, their scan tables and the harp leaves the queue of commands
as it is and a sound state sound (Kept). -/

namespace Sys2Proof.Machine

open Sys2Proof

/-! ### Machine/Time -/

theorem State.clockTime_kept {r0 : State} (s : State) (hk : Kept r0 s) : Kept r0 (State.clockTime s) := by
  unfold State.clockTime
  simp (maxDischargeDepth := 200) +contextual only [hk, kept_mk, kept_foldl, implies_true, State.crossTest_kept]

theorem State.logHold_kept {r0 : State} (s : State) (old : Int) (v : Int) (hk : Kept r0 s) : Kept r0 (State.logHold s old v) := by
  unfold State.logHold
  simp only [hk, kept_mk, kept_ite]

theorem State.noteHeldPps_kept {r0 : State} (s : State) (old : Int) (v : Int) (hk : Kept r0 s) : Kept r0 (State.noteHeldPps s old v) := by
  unfold State.noteHeldPps
  simp only [hk, kept_mk, kept_ite]

theorem State.setVtState_kept {r0 : State} (s : State) (v : Int) (ho : Obj.legal .VT_STATE v = true) (hk : Kept r0 s) : Kept r0 (State.setVtState s v) := by
  unfold State.setVtState
  simp (maxDischargeDepth := 200) +decide only [ho, hk, kept_put, kept_ite, Obj.legal_of_free, State.logHold_kept, State.noteHeldPps_kept, State.raise_kept, State.recover_kept]

theorem State.undoWrites_kept {r0 : State} (s : State) (hk : Kept r0 s) : Kept r0 (State.undoWrites s) := by
  unfold State.undoWrites
  repeat' first
    | (simp (maxDischargeDepth := 200) +decide only [hk, kept_put, kept_mk, kept_ite, Obj.legal_of_free, State.raise_kept]; done)
    | dsimp only
    | split

theorem State.holdOn_kept {r0 : State} (s : State) (sum : Int) (count : Nat) (hk : Kept r0 s) : Kept r0 (State.holdOn s sum count) := by
  unfold State.holdOn
  simp (maxDischargeDepth := 200) +decide only [hk, kept_put, kept_mk, Obj.legal_of_free, State.setVtState_kept, State.undoWrites_kept]

theorem State.enterHoldover_kept {r0 : State} (s : State) (hk : Kept r0 s) : Kept r0 (State.enterHoldover s) := by
  unfold State.enterHoldover
  simp (maxDischargeDepth := 200) only [hk, kept_ite, State.holdOn_kept]

theorem State.orderHoldover_kept {r0 : State} (s : State) (hk : Kept r0 s) : Kept r0 (State.orderHoldover s) := by
  unfold State.orderHoldover
  simp only [hk, kept_ite, State.enterHoldover_kept]

theorem State.enterAcquiring_kept {r0 : State} (s : State) (hk : Kept r0 s) : Kept r0 (State.enterAcquiring s) := by
  unfold State.enterAcquiring
  simp (maxDischargeDepth := 200) +decide only [hk, kept_put, kept_mk, kept_ite, Obj.legal_of_free, State.setVtState_kept]

theorem State.addVtSlew_kept {r0 : State} (s : State) (d : Int) (hk : Kept r0 s) (t : State)
    (e : State.addVtSlew s d = some t) : Kept r0 t := by
  unfold State.addVtSlew at e
  dsimp only at e
  split at e
  · contradiction
  · cases e
    exact kept_mk hk

theorem State.servoSlew_kept {r0 : State} (s : State) (off : Int) (hk : Kept r0 s) : Kept r0 (State.servoSlew s off) := by
  unfold State.servoSlew
  split
  · cases e : s.addVtSlew (0 - off * 256) with
    | none => exact State.raise_kept _ _ hk
    | some t => exact State.addVtSlew_kept _ _ hk t e
  · exact hk

theorem State.moveLogs_kept {r0 : State} (s : State) (old : State) (hk : Kept r0 s) : Kept r0 (State.moveLogs s old) := by
  unfold State.moveLogs
  simp only [hk, kept_mk]

theorem State.alignPps_kept {r0 : State} (s : State) (hk : Kept r0 s) : Kept r0 (State.alignPps s) := by
  unfold State.alignPps
  simp only [hk, kept_mk]

theorem State.loadVt_kept {r0 : State} (s : State) (vt : Int) (hk : Kept r0 s) : Kept r0 (State.loadVt s vt) := by
  unfold State.loadVt
  simp (maxDischargeDepth := 200) only [hk, kept_mk, State.alignPps_kept, State.moveLogs_kept]

theorem State.vtJump_kept {r0 : State} (s : State) (off : Int) (hk : Kept r0 s) : Kept r0 (State.vtJump s off) := by
  unfold State.vtJump
  simp (maxDischargeDepth := 200) only [hk, kept_mk, kept_ite, State.enterAcquiring_kept, State.enterHoldover_kept, State.loadVt_kept, State.raise_kept]

theorem State.vtOffset_kept {r0 : State} (s : State) (off : Int) (hk : Kept r0 s) : Kept r0 (State.vtOffset s off) := by
  unfold State.vtOffset
  simp (maxDischargeDepth := 200) +decide only [hk, kept_put, kept_mk, kept_ite, Obj.legal_of_free, State.enterAcquiring_kept, State.servoSlew_kept, State.setVtState_kept, State.vtJump_kept]

theorem State.restartSource_kept {r0 : State} (s : State) (hk : Kept r0 s) : Kept r0 (State.restartSource s) := by
  unfold State.restartSource
  simp +decide only [hk, kept_mk, State.setVtState_kept]

theorem State.servoVt_kept {r0 : State} (s : State) (offset : Option Int) (hk : Kept r0 s) : Kept r0 (State.servoVt s offset) := by
  unfold State.servoVt
  repeat' first
    | (simp (maxDischargeDepth := 200) +decide only [hk, kept_put, kept_mk, kept_ite, Obj.legal_of_free, State.raise_kept, State.vtOffset_kept]; done)
    | dsimp only
    | split

theorem execTimeSourceLost_kept {r0 : State} (s : State) (hk : Kept r0 s) : KeptO r0 (execTimeSourceLost s) := by
  unfold execTimeSourceLost
  repeat' first
    | (simp (maxDischargeDepth := 200) only [hk, kept_mk, keptO_next, keptO_ite, State.enterHoldover_kept, State.raise_kept]; done)
    | split

theorem execHoldoverLimitReached_kept {r0 : State} (s : State) (hk : Kept r0 s) : KeptO r0 (execHoldoverLimitReached s) := by
  unfold execHoldoverLimitReached
  simp (maxDischargeDepth := 200) +decide only [hk, keptO_next, keptO_ite, State.setVtState_kept]

theorem execVtIncrementWrite_kept {r0 : State} (w : Who) (v : Int) (s : State) (hk : Kept r0 s) : KeptO r0 (execVtIncrementWrite w v s) := by
  unfold execVtIncrementWrite
  simp (maxDischargeDepth := 200) +contextual +decide only [hk, kept_put, kept_mk, kept_ite_snd, keptO_next, Obj.legal_of_free, implies_true, State.raise_kept, asWrite_kept]

theorem execVtSlew_kept {r0 : State} (w : Who) (v : Int) (s : State) (hk : Kept r0 s) : KeptO r0 (execVtSlew w v s) := by
  unfold execVtSlew
  refine keptO_next (asCommand_kept _ _ _ _ _ _ _ (fun t h => ?_) hk)
  repeat' first
    | exact State.raise_kept _ _ h
    | exact kept_mk (State.addVtSlew_kept _ _ h _ ‹_›)
    | dsimp only
    | split

theorem kept_getD {r0 : State} {x : Option State} {d : State} (hx : ∀ t, x = some t → Kept r0 t) (hd : Kept r0 d) :
    Kept r0 (x.getD d) := by
  cases x with
  | none => exact hd
  | some t => exact hx t rfl

theorem State.addPtSlew_kept {r0 : State} (s : State) (d : Int) (hk : Kept r0 s) (t : State)
    (e : State.addPtSlew s d = some t) : Kept r0 t := by
  unfold State.addPtSlew at e
  dsimp only at e
  split at e
  · contradiction
  · cases e
    exact kept_mk hk

theorem execPtSlew_kept {r0 : State} (w : Who) (v : Int) (s : State) (hk : Kept r0 s) : KeptO r0 (execPtSlew w v s) := by
  unfold execPtSlew
  refine keptO_next (asCommand_kept _ _ _ _ _ _ _ (fun t h => ?_) hk)
  repeat' first
    | exact State.raise_kept _ _ h
    | exact State.addPtSlew_kept _ _ h _ ‹_›
    | dsimp only
    | split

theorem execTimeSlewDone_kept {r0 : State} (pt : Bool) (s : State) (hk : Kept r0 s) : KeptO r0 (execTimeSlewDone pt s) := by
  unfold execTimeSlewDone
  simp (maxDischargeDepth := 200) only [hk, kept_mk, keptO_next, keptO_ite, State.raise_kept]

theorem execVtLoad_kept {r0 : State} (w : Who) (v : Int) (s : State) (hk : Kept r0 s) : KeptO r0 (execVtLoad w v s) := by
  unfold execVtLoad
  simp (maxDischargeDepth := 200) +contextual +decide only [hk, kept_ite, kept_ite_snd, keptO_next, implies_true, State.loadVt_kept, State.raise_kept, State.setVtState_kept, asCommand_kept]

theorem execServoOwnerWrite_kept {r0 : State} (w : Who) (v : Int) (s : State) (hk : Kept r0 s) : KeptO r0 (execServoOwnerWrite w v s) := by
  unfold execServoOwnerWrite
  simp (maxDischargeDepth := 200) +contextual only [hk, kept_mk, keptO_next, implies_true, asWrite_kept]

theorem execVatEpochWrite_kept {r0 : State} (w : Who) (v : Int) (s : State) (hk : Kept r0 s) : KeptO r0 (execVatEpochWrite w v s) := by
  unfold execVatEpochWrite
  simp (maxDischargeDepth := 200) +contextual +decide only [hk, kept_put, kept_ite_snd, keptO_next, Obj.legal_of_free, implies_true, State.moveLogs_kept, State.raise_kept, asWrite_kept]

theorem execClkRefSelWrite_kept {r0 : State} (w : Who) (v : Int) (s : State) (hk : Kept r0 s) : KeptO r0 (execClkRefSelWrite w v s) := by
  unfold execClkRefSelWrite
  simp (maxDischargeDepth := 200) +contextual +decide only [hk, kept_put, kept_mk, kept_ite_snd, keptO_next, Obj.legal_of_free, implies_true, State.raise_kept, asWrite_kept]

theorem execClk10Lost_kept {r0 : State} (ratio : Nat) (s : State) (hk : Kept r0 s) : KeptO r0 (execClk10Lost ratio s) := by
  unfold execClk10Lost
  simp (maxDischargeDepth := 200) +decide only [hk, kept_put, kept_mk, keptO_next, keptO_ite, Obj.legal_of_free, State.enterHoldover_kept, State.raise_kept]

theorem State.takeRef_kept {r0 : State} (s : State) (hk : Kept r0 s) : Kept r0 (State.takeRef s) := by
  unfold State.takeRef
  simp +decide only [hk, kept_put, kept_ite]

theorem execClk10Present_kept {r0 : State} (s : State) (hk : Kept r0 s) : KeptO r0 (execClk10Present s) := by
  unfold execClk10Present
  simp (maxDischargeDepth := 200) +decide only [hk, kept_put, keptO_next, Obj.legal_of_free, State.takeRef_kept]

theorem State.setModclk_kept {r0 : State} (s : State) (v : Int) (ho : Obj.legal .MODCLK_STATE v = true) (hk : Kept r0 s) : Kept r0 (State.setModclk s v) := by
  unfold State.setModclk
  simp only [ho, hk, kept_put, kept_mk]

theorem State.notePhase_kept {r0 : State} (s : State) (p : Int) (hk : Kept r0 s) : Kept r0 (State.notePhase s p) := by
  unfold State.notePhase
  simp (maxDischargeDepth := 200) +decide only [hk, kept_put, kept_mk, Obj.legal_of_free]

theorem execModclkLocked_kept {r0 : State} (s : State) (hk : Kept r0 s) : KeptO r0 (execModclkLocked s) := by
  unfold execModclkLocked
  simp (maxDischargeDepth := 200) +decide only [hk, keptO_next, keptO_ite, State.raise_kept, State.setModclk_kept, settled_kept]

theorem execModclkUnlock_kept {r0 : State} (s : State) (hk : Kept r0 s) : KeptO r0 (execModclkUnlock s) := by
  unfold execModclkUnlock
  simp (maxDischargeDepth := 200) +decide only [hk, keptO_next, keptO_ite, State.bump_kept, State.raise_kept, State.setModclk_kept, settled_kept]

theorem execPpsInEdge_kept {r0 : State} (rising : Bool) (s : State) (hk : Kept r0 s) : KeptO r0 (execPpsInEdge rising s) := by
  unfold execPpsInEdge
  simp (maxDischargeDepth := 200) +decide only [hk, kept_put, kept_mk, keptO_next, keptO_ite, Obj.legal_of_free, State.raise_kept, State.vtJump_kept]

theorem execPpsInMissing_kept {r0 : State} (s : State) (hk : Kept r0 s) : KeptO r0 (execPpsInMissing s) := by
  unfold execPpsInMissing
  simp (maxDischargeDepth := 200) only [hk, kept_mk, keptO_next, keptO_ite, State.raise_kept]

theorem execPpsOutPulse_kept {r0 : State} (s : State) (hk : Kept r0 s) : KeptO r0 (execPpsOutPulse s) := by
  unfold execPpsOutPulse
  simp (maxDischargeDepth := 200) only [hk, kept_mk, keptO_next, keptO_ite]

theorem execKeeperClockFail_kept {r0 : State} (s : State) (hk : Kept r0 s) : KeptO r0 (execKeeperClockFail s) := by
  unfold execKeeperClockFail
  simp (maxDischargeDepth := 200) +decide only [hk, kept_put, kept_mk, keptO_next, keptO_ite, Obj.legal_of_free, State.raise_kept]

theorem State.keeperClock_kept {r0 : State} (s : State) (hk : Kept r0 s) : Kept r0 (State.keeperClock s) := by
  unfold State.keeperClock
  simp +decide only [hk, kept_put, Obj.legal_of_free]

theorem State.setPortState_kept {r0 : State} (s : State) (v : Int) (hk : Kept r0 s) : Kept r0 (State.setPortState s v) := by
  unfold State.setPortState
  simp (maxDischargeDepth := 200) +decide only [hk, kept_put, kept_ite, Obj.legal_of_free, State.raise_kept]

theorem State.setGm_kept {r0 : State} (s : State) (v : Int) (hk : Kept r0 s) : Kept r0 (State.setGm s v) := by
  unfold State.setGm
  simp (maxDischargeDepth := 200) +decide only [hk, kept_put, kept_ite, Obj.legal_of_free, State.raise_kept]

theorem State.formPtpOffset_kept {r0 : State} (s : State) (tx : Int) (rx : Int) (hk : Kept r0 s) : Kept r0 (State.formPtpOffset s tx rx) := by
  unfold State.formPtpOffset
  simp (maxDischargeDepth := 200) +decide only [hk, kept_put, kept_mk, kept_ite, Obj.legal_of_free, State.setPortState_kept]

theorem State.ptpBegin_kept {r0 : State} (s : State) (hk : Kept r0 s) : Kept r0 (State.ptpBegin s) := by
  unfold State.ptpBegin
  simp (maxDischargeDepth := 200) only [hk, kept_mk, kept_ite, State.setGm_kept, State.setPortState_kept]

theorem State.choosePtp_kept {r0 : State} (s : State) (hk : Kept r0 s) : Kept r0 (State.choosePtp s) := by
  unfold State.choosePtp
  repeat' first
    | (simp (maxDischargeDepth := 200) only [hk, kept_ite, State.setGm_kept, State.setPortState_kept]; done)
    | split

theorem State.sendPtp_kept {r0 : State} (s : State) (kind : Nat) (seq : Nat) (stamp : Int) (hk : Kept r0 s) : Kept r0 (State.sendPtp s kind seq stamp) := by
  unfold State.sendPtp
  simp only [hk, State.emit_kept]

theorem State.meanPeer_kept {r0 : State} (s : State) (t2 : Int) (t3 : Int) (rx : Int) (hk : Kept r0 s) : Kept r0 (State.meanPeer s t2 t3 rx) := by
  unfold State.meanPeer
  simp +decide only [hk, kept_put, Obj.legal_of_free]

theorem execPtpMessageRx_kept {r0 : State} (domain : Nat) (m : PtpMsg) (s : State) (hk : Kept r0 s) : KeptO r0 (execPtpMessageRx domain m s) := by
  unfold execPtpMessageRx
  repeat' first
    | (simp (maxDischargeDepth := 200) +decide only [hk, kept_put, kept_mk, kept_ite, keptO_next, keptO_ite, Obj.legal_of_free, State.choosePtp_kept, State.formPtpOffset_kept, State.meanPeer_kept, State.sendPtp_kept]; done)
    | split

theorem execPtpAnnounceTimeout_kept {r0 : State} (s : State) (hk : Kept r0 s) : KeptO r0 (execPtpAnnounceTimeout s) := by
  unfold execPtpAnnounceTimeout
  simp (maxDischargeDepth := 200) only [hk, kept_mk, keptO_next, keptO_ite, State.choosePtp_kept, State.setGm_kept, State.setPortState_kept]

theorem execPtpMessageTx_kept {r0 : State} (s : State) (hk : Kept r0 s) : KeptO r0 (execPtpMessageTx s) := by
  unfold execPtpMessageTx
  simp (maxDischargeDepth := 200) only [hk, kept_mk, kept_ite, keptO_next, keptO_ite, State.sendPtp_kept]

theorem State.ptHoldover_kept {r0 : State} (s : State) (hk : Kept r0 s) : Kept r0 (State.ptHoldover s) := by
  unfold State.ptHoldover
  simp (maxDischargeDepth := 200) +decide only [hk, kept_put, kept_mk, kept_ite]

theorem State.ptAcquire_kept {r0 : State} (s : State) (hk : Kept r0 s) : Kept r0 (State.ptAcquire s) := by
  unfold State.ptAcquire
  simp (maxDischargeDepth := 200) +decide only [hk, kept_put, kept_mk, kept_ite, Obj.legal_of_free]

theorem State.loadPt_kept {r0 : State} (s : State) (pt : Int) (hk : Kept r0 s) : Kept r0 (State.loadPt s pt) := by
  unfold State.loadPt
  simp only [hk, kept_mk, State.alignPps_kept]

theorem State.ptJudge_kept {r0 : State} (s : State) (off : Int) (hk : Kept r0 s) : Kept r0 (State.ptJudge s off) := by
  have ha := State.ptAcquire_kept s hk
  have hg : Kept r0 ((s.ptAcquire.addPtSlew (0 - off * 256)).getD (s.ptAcquire.raise 0x05)) :=
    kept_getD (fun t e => State.addPtSlew_kept _ _ ha t e) (State.raise_kept _ _ ha)
  unfold State.ptJudge
  simp (maxDischargeDepth := 200) +decide only [hk, hg, kept_put, kept_mk, kept_ite, State.ptAcquire_kept, State.ptHoldover_kept, State.raise_kept, State.loadPt_kept]

theorem State.ptFollow_kept {r0 : State} (s : State) (hk : Kept r0 s) : Kept r0 (State.ptFollow s) := by
  unfold State.ptFollow
  extract_lets s1 inc s2 s3 u1 s4 u2 s5 u3 s6 u4 s7
  have k_s1 : Kept r0 s1 := by
    dsimp only [s1]
    simp +decide only [hk, kept_put, kept_ite]
  have k_s3 : Kept r0 s3 := by
    dsimp only [s3]
    simp +decide only [kept_mk, k_s1]
  have k_s4 : Kept r0 s4 := by
    dsimp only [s4]
    simp +decide only [kept_mk, kept_ite, k_s3]
  have k_s5 : Kept r0 s5 := by
    dsimp only [s5]
    simp +decide only [kept_mk, kept_ite, k_s4]
  have k_s6 : Kept r0 s6 := by
    dsimp only [s6]
    simp +decide only [kept_mk, k_s5]
  have k_s7 : Kept r0 s7 := by
    dsimp only [s7]
    repeat' first
      | (simp +decide only [kept_mk, State.ptHoldover_kept, State.ptJudge_kept, k_s5, k_s6]; done)
      | split
  simp +decide only [kept_put, kept_ite, k_s7]

theorem State.ptSteer_kept {r0 : State} (s : State) (hk : Kept r0 s) : Kept r0 (State.ptSteer s) := by
  unfold State.ptSteer
  simp (maxDischargeDepth := 200) +decide only [hk, kept_put, kept_mk, kept_ite, State.loadPt_kept]

theorem execPtServoCycle_kept {r0 : State} (s : State) (hk : Kept r0 s) : KeptO r0 (execPtServoCycle s) := by
  unfold execPtServoCycle
  simp (maxDischargeDepth := 200) only [hk, kept_mk, kept_ite, keptO_next, keptO_ite, State.ptFollow_kept, State.ptSteer_kept]

/-! ### Machine/Channel -/

theorem State.logCfg_kept {r0 : State} (s : State) (c : Nat) (g : Int) (hk : Kept r0 s) : Kept r0 (State.logCfg s c g) := by
  unfold State.logCfg
  simp only [hk, State.setChan_kept]

theorem State.requalify_kept {r0 : State} (s : State) (c : Nat) (f : Int) (d : Int) (hk : Kept r0 s) : Kept r0 (State.requalify s c f d) := by
  unfold State.requalify
  simp (maxDischargeDepth := 200) +decide only [hk, kept_put, kept_ite, Obj.legal_of_free, State.addMark_kept, State.setChan_kept]

theorem State.enterAbsent_kept {r0 : State} (s : State) (c : Nat) (from_ : Int) (hk : Kept r0 s) : Kept r0 (State.enterAbsent s c from_) := by
  unfold State.enterAbsent
  simp +decide only [hk, kept_put, State.addMark_kept]

theorem State.enterLost_kept {r0 : State} (s : State) (c : Nat) (hk : Kept r0 s) : Kept r0 (State.enterLost s c) := by
  unfold State.enterLost
  simp (maxDischargeDepth := 200) +decide only [hk, kept_put, Obj.legal_of_free, State.endMarks_kept]

theorem State.leaveLost_kept {r0 : State} (s : State) (c : Nat) (hk : Kept r0 s) : Kept r0 (State.leaveLost s c) := by
  unfold State.leaveLost
  simp only [hk, kept_ite, State.requalify_kept]

theorem State.wireFault_kept {r0 : State} (s : State) (c : Nat) (kind : Nat) (code : Int) (hk : Kept r0 s) : Kept r0 (State.wireFault s c kind code) := by
  unfold State.wireFault
  simp (maxDischargeDepth := 200) +decide only [hk, kept_put, kept_ite, Obj.legal_of_free, State.addMark_kept, State.bump_kept, State.causeIn_kept, State.endMarks_kept, State.setChan_kept]

theorem State.wirePass_kept {r0 : State} (s : State) (c : Nat) (kind : Nat) (hk : Kept r0 s) : Kept r0 (State.wirePass s c kind) := by
  unfold State.wirePass
  simp (maxDischargeDepth := 200) only [hk, kept_ite, State.endMarks_kept, State.requalify_kept]

theorem State.countPresence_kept {r0 : State} (s : State) (n : Int) (c : Nat) (fails : Bool) (hk : Kept r0 s) : Kept r0 (State.countPresence s n c fails) := by
  unfold State.countPresence
  simp (maxDischargeDepth := 200) only [hk, kept_ite, State.enterAbsent_kept, State.setChan_kept]

theorem State.settlePresence_kept {r0 : State} (s : State) (c : Nat) (hk : Kept r0 s) : Kept r0 (State.settlePresence s c) := by
  unfold State.settlePresence
  repeat' first
    | (simp only [hk, State.countPresence_kept, State.setChan_kept]; done)
    | dsimp only
    | split

theorem State.judgePresence_kept {r0 : State} (s : State) (tin : TickIn) (n : Int) (c : Nat) (hk : Kept r0 s) : Kept r0 (State.judgePresence s tin n c) := by
  unfold State.judgePresence
  simp only [hk, kept_ite, State.setChan_kept]

theorem State.judgeAllPresence_kept {r0 : State} (s : State) (tin : TickIn) (n : Int) (hk : Kept r0 s) : Kept r0 (State.judgeAllPresence s tin n) := by
  unfold State.judgeAllPresence
  simp (maxDischargeDepth := 200) +contextual only [hk, kept_ite, kept_foldl, implies_true, State.judgePresence_kept, State.settlePresence_kept]

theorem execChannelAbsent_kept {r0 : State} (c : Fin 512) (s : State) (hk : Kept r0 s) : KeptO r0 (execChannelAbsent c s) := by
  unfold execChannelAbsent
  simp (maxDischargeDepth := 200) +decide only [hk, keptO_next, keptO_ite, State.bump_kept, State.causeIn_kept, State.enterAbsent_kept, State.settlePresence_kept, settled_kept]

theorem execChannelRequalify_kept {r0 : State} (c : Fin 512) (s : State) (hk : Kept r0 s) : KeptO r0 (execChannelRequalify c s) := by
  unfold execChannelRequalify
  simp (maxDischargeDepth := 200) only [hk, keptO_next, keptO_ite, State.endMarks_kept, State.requalify_kept, State.settlePresence_kept, settled_kept]

theorem State.setServe_kept {r0 : State} (s : State) (c : Nat) (g : Int) (v : Serve) (hk : Kept r0 s) : Kept r0 (State.setServe s c g v) := by
  unfold State.setServe
  simp only [hk, State.setChan_kept]

theorem State.serveNow_kept {r0 : State} (s : State) (c : Nat) (v : Serve) (hk : Kept r0 s) : Kept r0 (State.serveNow s c v) := by
  unfold State.serveNow
  simp only [hk, State.setServe_kept]

theorem State.serveFade_kept {r0 : State} (s : State) (c : Nat) (g : Int) (toSpare : Bool) (hk : Kept r0 s) : Kept r0 (State.serveFade s c g toSpare).2 := by
  unfold State.serveFade
  simp only [hk, State.setServe_kept]

/-! ### Machine/Companion -/

theorem State.bankCause_kept {r0 : State} (s : State) (b : Nat) (bit : Nat) (hk : Kept r0 s) : Kept r0 (State.bankCause s b bit) := by
  unfold State.bankCause
  simp +decide only [hk, State.causeIn_kept]

theorem State.planReg_kept {r0 : State} (s : State) (b : Nat) (reg : Nat) (val : Nat) (hk : Kept r0 s) : Kept r0 (State.planReg s b reg val) := by
  unfold State.planReg
  simp only [hk, kept_ite, State.setBank_kept]

theorem State.planCommit_kept {r0 : State} (s : State) (settings : State) (b : Nat) (hk : Kept r0 s) : Kept r0 (State.planCommit s settings b) := by
  unfold State.planCommit
  simp only [hk, State.planReg_kept]

theorem State.rewriteRegs_kept {r0 : State} (s : State) (b : Nat) (hk : Kept r0 s) : Kept r0 (State.rewriteRegs s b) := by
  unfold State.rewriteRegs
  simp only [hk, State.setBank_kept]

theorem State.dividerDone_kept {r0 : State} (s : State) (b : Nat) (t : Int) (hk : Kept r0 s) : Kept r0 (State.dividerDone s b t) := by
  unfold State.dividerDone
  simp +contextual only [hk, kept_foldl, implies_true, State.endMarks_kept, State.setBank_kept]

theorem State.dividerSwitch_kept {r0 : State} (s : State) (c : Nat) (g : Int) (hk : Kept r0 s) : Kept r0 (State.dividerSwitch s c g) := by
  unfold State.dividerSwitch
  repeat' first
    | (simp only [hk, State.addMark_kept, State.setBank_kept, State.wheySpan_kept]; done)
    | dsimp only
    | split

theorem State.badExchange_kept {r0 : State} (s : State) (b : Nat) (hk : Kept r0 s) : Kept r0 (State.badExchange s b) := by
  unfold State.badExchange
  simp (maxDischargeDepth := 200) +decide only [hk, kept_put, kept_ite, State.bankCause_kept, State.bump_kept, State.setBank_kept]

theorem State.companionTx_kept {r0 : State} (s : State) (n : Int) (b : Nat) (hk : Kept r0 s) : Kept r0 (State.companionTx s n b) := by
  unfold State.companionTx
  simp (maxDischargeDepth := 200) only [hk, kept_ite, State.badExchange_kept, State.emit_kept, State.setBank_kept]

theorem State.scanPoll_kept {r0 : State} (s : State) (b : Nat) (poll : Bool) (r : CompResp) (live : Bool) (hk : Kept r0 s) : Kept r0 (State.scanPoll s b poll r live) := by
  unfold State.scanPoll
  repeat' first
    | (simp only [hk, State.setScan_kept]; done)
    | dsimp only
    | split

theorem State.goodExchange_kept {r0 : State} (s : State) (b : Nat) (c : CompCmd) (r : CompResp) (hk : Kept r0 s) : Kept r0 (State.goodExchange s b c r) := by
  unfold State.goodExchange
  simp (maxDischargeDepth := 200) +decide only [hk, kept_put, kept_ite, Obj.legal_of_free, State.bankCause_kept, State.dividerDone_kept, State.scanPoll_kept, State.setBank_kept]

theorem State.linkAdvance_kept {r0 : State} (s : State) (b : Nat) (hk : Kept r0 s) : Kept r0 (State.linkAdvance s b) := by
  unfold State.linkAdvance
  simp (maxDischargeDepth := 200) +decide only [hk, kept_put, kept_ite, State.bankCause_kept, State.rewriteRegs_kept]

theorem execCompResponseRx_kept {r0 : State} (b : Fin 32) (resp : BitVec 48) (s : State) (hk : Kept r0 s) : KeptO r0 (execCompResponseRx b resp s) := by
  unfold execCompResponseRx
  repeat' first
    | (simp (maxDischargeDepth := 200) only [hk, keptO_next, keptO_ite, State.badExchange_kept, State.goodExchange_kept, State.linkAdvance_kept, settled_kept]; done)
    | split

theorem execCompSyncTimeout_kept {r0 : State} (b : Fin 32) (s : State) (hk : Kept r0 s) : KeptO r0 (execCompSyncTimeout b s) := by
  unfold execCompSyncTimeout
  simp (maxDischargeDepth := 200) +decide only [hk, kept_put, keptO_next, keptO_ite, State.bankCause_kept, settled_kept]

theorem State.linkStart_kept {r0 : State} (s : State) (b : Nat) (hk : Kept r0 s) : Kept r0 (State.linkStart s b) := by
  unfold State.linkStart
  simp (maxDischargeDepth := 200) +decide only [hk, kept_put, State.planCommit_kept, State.setBank_kept]

theorem State.linkStop_kept {r0 : State} (s : State) (b : Nat) (hk : Kept r0 s) : Kept r0 (State.linkStop s b) := by
  unfold State.linkStop
  simp +decide only [hk, kept_put, State.setBank_kept]

/-! ### Machine/SpareModulator -/

theorem State.noteMonitors_kept {r0 : State} (s : State) (tin : TickIn) (b : Nat) (hk : Kept r0 s) : Kept r0 (State.noteMonitors s tin b) := by
  unfold State.noteMonitors
  simp (maxDischargeDepth := 200) +contextual only [hk, kept_ite, kept_foldl, implies_true, State.setBank_kept]

theorem State.setSpare_kept {r0 : State} (s : State) (b : Nat) (f : Spare → Spare) (hk : Kept r0 s) : Kept r0 (State.setSpare s b f) := by
  unfold State.setSpare
  simp only [hk, State.setBank_kept]

theorem State.spareTo_kept {r0 : State} (s : State) (b : Nat) (st : Int) (k : Option Nat) (ho : Obj.legal .SPARE_STATE st = true) (hk : Kept r0 s) : Kept r0 (State.spareTo s b st k) := by
  unfold State.spareTo
  simp +decide only [ho, hk, kept_put, Obj.legal_of_free]

theorem State.skipDwell_kept {r0 : State} (s : State) (b : Nat) (hk : Kept r0 s) : Kept r0 (State.skipDwell s b) := by
  unfold State.skipDwell
  simp +decide only [hk, kept_put, Obj.legal_of_free, State.bump_kept]

theorem State.beginVisit_kept {r0 : State} (s : State) (b : Nat) (i : Nat) (v : Visit) (n : Int) (hk : Kept r0 s) : Kept r0 (State.beginVisit s b i v n) := by
  unfold State.beginVisit
  simp +decide only [hk, State.setSpare_kept, State.spareTo_kept]

theorem State.nextVisit_kept {r0 : State} (s : State) (b : Nat) (n : Int) (hk : Kept r0 s) : Kept r0 (State.nextVisit s b n) := by
  unfold State.nextVisit
  repeat' first
    | (simp +decide only [hk, State.beginVisit_kept, State.setBank_kept, State.spareTo_kept]; done)
    | dsimp only
    | split

theorem State.comparePair_kept {r0 : State} (s : State) (b : Nat) (i : Nat) (g : Int) (live : Int) (spare : Int) (flags : Nat) (blend : Bool) (hk : Kept r0 s) : Kept r0 (State.comparePair s b i g live spare flags blend) := by
  unfold State.comparePair
  simp only [hk, kept_ite, State.setSpare_kept]

theorem State.beginFadeIn_kept {r0 : State} (s : State) (b : Nat) (v : Visit) (g : Int) (hk : Kept r0 s) : Kept r0 (State.beginFadeIn s b v g) := by
  unfold State.beginFadeIn
  simp (maxDischargeDepth := 200) +decide only [hk, State.serveFade_kept, State.setSpare_kept, State.spareTo_kept]

theorem State.beginFadeOut_kept {r0 : State} (s : State) (b : Nat) (back : Int) (n : Int) (hk : Kept r0 s) : Kept r0 (State.beginFadeOut s b back n) := by
  unfold State.beginFadeOut
  simp (maxDischargeDepth := 200) +decide only [hk, State.serveFade_kept, State.setSpare_kept, State.spareTo_kept]

theorem State.coverDone_kept {r0 : State} (s : State) (b : Nat) (n : Int) (hk : Kept r0 s) : Kept r0 (State.coverDone s b n) := by
  unfold State.coverDone
  simp (maxDischargeDepth := 200) only [hk, kept_ite, State.bankCause_kept, State.beginFadeOut_kept]

theorem State.spareTick_kept {r0 : State} (s : State) (n : Int) (b : Nat) (hk : Kept r0 s) : Kept r0 (State.spareTick s n b) := by
  unfold State.spareTick
  simp (maxDischargeDepth := 200) +decide only [hk, kept_ite, State.coverDone_kept, State.nextVisit_kept, State.skipDwell_kept, State.spareTo_kept]

theorem execChannelReleased_kept {r0 : State} (c : Fin 512) (s : State) (hk : Kept r0 s) : KeptO r0 (execChannelReleased c s) := by
  unfold execChannelReleased
  simp (maxDischargeDepth := 200) +decide only [hk, kept_put, keptO_next, keptO_ite, State.causeIn_kept, State.settlePresence_kept, State.spareTick_kept, settled_kept]

theorem execSpareSettled_kept {r0 : State} (b : Fin 32) (s : State) (hk : Kept r0 s) : KeptO r0 (execSpareSettled b s) := by
  unfold execSpareSettled
  simp (maxDischargeDepth := 200) +decide only [hk, kept_put, keptO_next, keptO_ite, Obj.legal_of_free, State.beginFadeIn_kept, State.draw_kept, State.setSpare_kept, State.spareTo_kept, settled_kept]

theorem State.liveBack_kept {r0 : State} (s : State) (b : Nat) (i : Nat) (n : Int) (hk : Kept r0 s) : Kept r0 (State.liveBack s b i n) := by
  unfold State.liveBack
  repeat' first
    | (simp (maxDischargeDepth := 200) only [hk, State.serveNow_kept, State.setSpare_kept, State.wheySpan_kept]; done)
    | dsimp only
    | split

theorem State.dropQueue_kept {r0 : State} (s : State) (b : Nat) (hk : Kept r0 s) : Kept r0 (State.dropQueue s b) := by
  unfold State.dropQueue
  simp (maxDischargeDepth := 200) only [hk, kept_ite, State.bankCause_kept, State.setBank_kept]

theorem State.takeOver_kept {r0 : State} (s : State) (b : Nat) (j : Nat) (n : Int) (hk : Kept r0 s) : Kept r0 (State.takeOver s b j n) := by
  unfold State.takeOver
  simp (maxDischargeDepth := 200) +decide only [hk, kept_ite, State.bankCause_kept, State.bump_kept, State.dropQueue_kept, State.liveBack_kept, State.proposeTaken_kept, State.serveNow_kept, State.setSpare_kept, State.skipDwell_kept, State.spareTo_kept, State.wheySpan_kept]

theorem State.loseChannel_kept {r0 : State} (s : State) (b : Nat) (i : Nat) (hk : Kept r0 s) : Kept r0 (State.loseChannel s b i) := by
  unfold State.loseChannel
  simp only [hk, State.bankCause_kept, State.enterLost_kept]

theorem State.liveFailed_kept {r0 : State} (s : State) (b : Nat) (i : Nat) (n : Int) (hk : Kept r0 s) : Kept r0 (State.liveFailed s b i n) := by
  unfold State.liveFailed
  simp (maxDischargeDepth := 200) only [hk, kept_ite, State.bankCause_kept, State.loseChannel_kept, State.setBank_kept, State.setSpare_kept, State.takeOver_kept]

theorem State.endHold_kept {r0 : State} (s : State) (c : Nat) (n : Int) (hk : Kept r0 s) : Kept r0 (State.endHold s c n) := by
  unfold State.endHold
  simp only [hk, State.setChan_kept]

theorem State.spareFailed_kept {r0 : State} (s : State) (b : Nat) (n : Int) (hk : Kept r0 s) : Kept r0 (State.spareFailed s b n) := by
  unfold State.spareFailed
  simp (maxDischargeDepth := 200) +decide only [hk, kept_ite, State.bankCause_kept, State.dropQueue_kept, State.endHold_kept, State.liveBack_kept, State.loseChannel_kept, State.setBank_kept, State.setSpare_kept, State.skipDwell_kept, State.spareTo_kept]

theorem State.declareFailed_kept {r0 : State} (s : State) (b : Nat) (m : Nat) (hk : Kept r0 s) : Kept r0 (State.declareFailed s b m) := by
  unfold State.declareFailed
  simp (maxDischargeDepth := 200) only [hk, kept_ite, State.liveFailed_kept, State.spareFailed_kept]

theorem execModulatorFailed_kept {r0 : State} (b : Fin 32) (m : Fin 17) (s : State) (hk : Kept r0 s) : KeptO r0 (execModulatorFailed b m s) := by
  unfold execModulatorFailed
  simp only [hk, State.declareFailed_kept, settled_kept]

theorem State.takeFailures_kept {r0 : State} (s : State) (b : Nat) (hk : Kept r0 s) : Kept r0 (State.takeFailures s b) := by
  unfold State.takeFailures
  simp +contextual only [hk, kept_foldl, implies_true, State.declareFailed_kept]

theorem execShadowVerdict_kept {r0 : State} (b : Fin 32) (s : State) (hk : Kept r0 s) : KeptO r0 (execShadowVerdict b s) := by
  unfold execShadowVerdict
  simp (maxDischargeDepth := 200) +decide only [hk, kept_put, keptO_ite, Obj.legal_of_free, State.bankCause_kept, State.beginFadeIn_kept, State.bump_kept, State.nextVisit_kept, State.skipDwell_kept, State.takeFailures_kept, settled_kept]

theorem execSpareFadeDone_kept {r0 : State} (b : Fin 32) (s : State) (hk : Kept r0 s) : KeptO r0 (execSpareFadeDone b s) := by
  unfold execSpareFadeDone
  simp (maxDischargeDepth := 200) +decide only [hk, keptO_next, keptO_ite, State.bankCause_kept, State.dropQueue_kept, State.nextVisit_kept, State.setBank_kept, State.setChan_kept, State.setSpare_kept, State.spareTo_kept, State.takeFailures_kept, State.wheySpan_kept, settled_kept]

theorem State.noteFailed_kept {r0 : State} (s : State) (b : Nat) (m : Nat) (hk : Kept r0 s) : Kept r0 (State.noteFailed s b m) := by
  unfold State.noteFailed
  simp only [hk, kept_ite, State.setBank_kept]

theorem State.arbClear_kept {r0 : State} (s : State) (b : Nat) (hk : Kept r0 s) : Kept r0 (State.arbClear s b) := by
  unfold State.arbClear
  simp only [hk, State.setSpare_kept]

theorem State.arbTaken_kept {r0 : State} (s : State) (b : Nat) (i : Nat) (hk : Kept r0 s) : Kept r0 (State.arbTaken s b i) := by
  unfold State.arbTaken
  simp (maxDischargeDepth := 200) +decide only [hk, State.arbClear_kept, State.bankCause_kept, State.dropQueue_kept, State.noteFailed_kept, State.proposeTaken_kept, State.spareTo_kept]

theorem State.arbLost_kept {r0 : State} (s : State) (b : Nat) (i : Nat) (hk : Kept r0 s) : Kept r0 (State.arbLost s b i) := by
  unfold State.arbLost
  simp (maxDischargeDepth := 200) +decide only [hk, State.arbClear_kept, State.bankCause_kept, State.dropQueue_kept, State.enterLost_kept, State.noteFailed_kept, State.spareTo_kept]

theorem State.arbSpareBad_kept {r0 : State} (s : State) (b : Nat) (at_ : Int) (n : Int) (hk : Kept r0 s) : Kept r0 (State.arbSpareBad s b at_ n) := by
  unfold State.arbSpareBad
  simp (maxDischargeDepth := 200) only [hk, State.bankCause_kept, State.beginFadeOut_kept, State.setSpare_kept]

theorem State.arbUnresolved_kept {r0 : State} (s : State) (b : Nat) (i : Nat) (at_ : Int) (n : Int) (hk : Kept r0 s) : Kept r0 (State.arbUnresolved s b i at_ n) := by
  unfold State.arbUnresolved
  repeat' first
    | (simp (maxDischargeDepth := 200) +decide only [hk, State.arbClear_kept, State.bankCause_kept, State.beginFadeOut_kept, State.bump_kept, State.leaveLost_kept, State.liveBack_kept, State.spareTo_kept, State.takeOver_kept]; done)
    | dsimp only
    | split

theorem execArbitrateVerdict_kept {r0 : State} (b : Fin 32) (live : List Int) (spare : List Int) (s : State) (hk : Kept r0 s) : KeptO r0 (execArbitrateVerdict b live spare s) := by
  unfold execArbitrateVerdict
  simp (maxDischargeDepth := 200) only [hk, keptO_next, keptO_ite, State.arbLost_kept, State.arbSpareBad_kept, State.arbTaken_kept, State.arbUnresolved_kept, State.takeFailures_kept, settled_kept]

theorem execChCalibrate_kept {r0 : State} (w : Who) (c : Fin 512) (s : State) (hk : Kept r0 s) : KeptO r0 (execChCalibrate w c s) := by
  unfold execChCalibrate
  repeat' first
    | (simp (maxDischargeDepth := 200) only [hk, kept_ite, kept_ite_snd, State.bankCause_kept, State.nextVisit_kept, State.setBank_kept, State.skipDwell_kept, State.spareTick_kept]; done)
    | dsimp only
    | refine keptO_next (asCommand_kept _ _ _ _ _ _ _ (fun s hk => ?_) hk)
    | split

theorem State.writeCal_kept {r0 : State} (s : State) (c : Nat) (offset : Int) (gain : Nat) (hk : Kept r0 s) : Kept r0 (State.writeCal s c offset gain) := by
  unfold State.writeCal
  simp (maxDischargeDepth := 200) +decide only [hk, kept_put, kept_ite, Obj.legal_of_free, State.logCfg_kept]

theorem State.calCovered_kept {r0 : State} (s : State) (b : Nat) (offset : Int) (gain : Nat) (hk : Kept r0 s) : Kept r0 (State.calCovered s b offset gain) := by
  unfold State.calCovered
  simp (maxDischargeDepth := 200) only [hk, kept_ite, State.coverDone_kept, State.setSpare_kept, State.writeCal_kept]

theorem State.calStopped_kept {r0 : State} (s : State) (b : Nat) (offset : Int) (gain : Nat) (hk : Kept r0 s) : Kept r0 (State.calStopped s b offset gain) := by
  unfold State.calStopped
  repeat' first
    | (simp (maxDischargeDepth := 200) only [hk, kept_ite, State.bankCause_kept, State.setBank_kept, State.writeCal_kept]; done)
    | split

theorem execCalibrationDone_kept {r0 : State} (b : Fin 32) (offset : Int) (gain : Nat) (s : State) (hk : Kept r0 s) : KeptO r0 (execCalibrationDone b offset gain s) := by
  unfold execCalibrationDone
  simp (maxDischargeDepth := 200) only [hk, kept_ite, State.calCovered_kept, State.calStopped_kept, State.takeFailures_kept, settled_kept]

theorem execBankDelayCal_kept {r0 : State} (w : Who) (b : Fin 32) (s : State) (hk : Kept r0 s) : KeptO r0 (execBankDelayCal w b s) := by
  unfold execBankDelayCal
  simp (maxDischargeDepth := 200) +contextual only [hk, kept_ite_snd, keptO_next, implies_true, State.bankCause_kept, State.setBank_kept, asCommand_kept]

theorem execBankDelayCalDone_kept {r0 : State} (b : Fin 32) (live : List Int) (spare : List Int) (s : State) (hk : Kept r0 s) : KeptO r0 (execBankDelayCalDone b live spare s) := by
  unfold execBankDelayCalDone
  repeat' first
    | (simp (maxDischargeDepth := 200) +contextual +decide only [hk, kept_put, kept_ite, keptO_next, keptO_ite, kept_foldl, Obj.legal_of_free, implies_true, State.bankCause_kept, State.setBank_kept]; done)
    | dsimp only
    | split

theorem execBankCauseClear_kept {r0 : State} (w : Who) (b : Fin 32) (mask : Nat) (s : State) (hk : Kept r0 s) : KeptO r0 (execBankCauseClear w b mask s) := by
  unfold execBankCauseClear
  simp +decide only [hk, keptO_next, clearCommand_kept]

theorem State.spareStart_kept {r0 : State} (s : State) (b : Nat) (hk : Kept r0 s) : Kept r0 (State.spareStart s b) := by
  unfold State.spareStart
  simp (maxDischargeDepth := 200) +decide only [hk, kept_ite, State.setBank_kept, State.spareTo_kept]

theorem State.spareStop_kept {r0 : State} (s : State) (b : Nat) (hk : Kept r0 s) : Kept r0 (State.spareStop s b) := by
  unfold State.spareStop
  simp (maxDischargeDepth := 200) +decide only [hk, kept_ite, State.setBank_kept, State.skipDwell_kept, State.spareTo_kept]

theorem State.spareFence_kept {r0 : State} (s : State) (b : Nat) (hk : Kept r0 s) : Kept r0 (State.spareFence s b) := by
  unfold State.spareFence
  simp (maxDischargeDepth := 200) +decide only [hk, kept_ite, State.bump_kept, State.endHold_kept, State.orCause_kept, State.serveNow_kept, State.setSpare_kept, State.skipDwell_kept, State.spareTo_kept]

/-! ### Machine/ScanTable -/

theorem State.logExc_kept {r0 : State} (s : State) (c : Nat) (g : Int) (sign : Int) (hk : Kept r0 s) : Kept r0 (State.logExc s c g sign) := by
  unfold State.logExc
  simp only [hk, State.setChan_kept]

theorem State.makeSwitch_kept {r0 : State} (s : State) (c : Nat) (g : Int) (old : InputSetting) (new : InputSetting) (least : Nat) (hk : Kept r0 s) : Kept r0 (State.makeSwitch s c g old new least).2 := by
  unfold State.makeSwitch
  repeat' first
    | (simp only [hk, kept_ite, State.logExc_kept, State.wheySpan_kept]; done)
    | dsimp only
    | split

theorem State.beginExec_kept {r0 : State} (s : State) (b : Nat) (e : Exec) (olds : List InputSetting) (hk : Kept r0 s) : Kept r0 (State.beginExec s b e olds) := by
  unfold State.beginExec
  simp (maxDischargeDepth := 200) +contextual +decide only [hk, kept_put, kept_ite, kept_ite_snd, kept_foldl_snd, Obj.legal_of_free, implies_true, State.addMark_kept, State.makeSwitch_kept, State.planReg_kept, State.setScan_kept]

theorem State.returnInputs_kept {r0 : State} (s : State) (b : Nat) (g : Int) (hk : Kept r0 s) : Kept r0 (State.returnInputs s b g) := by
  unfold State.returnInputs
  simp (maxDischargeDepth := 200) +contextual only [hk, kept_ite, kept_foldl, implies_true, State.makeSwitch_kept, State.planReg_kept]

theorem State.endBlinds_kept {r0 : State} (s : State) (b : Nat) (g : Int) (hk : Kept r0 s) : Kept r0 (State.endBlinds s b g) := by
  unfold State.endBlinds
  simp +contextual only [hk, kept_foldl, implies_true, State.endMarks_kept]

theorem State.finishExec_kept {r0 : State} (s : State) (b : Nat) (hk : Kept r0 s) : Kept r0 (State.finishExec s b) := by
  unfold State.finishExec
  repeat' first
    | (simp only [hk, State.endBlinds_kept, State.setScan_kept]; done)
    | dsimp only
    | split

theorem State.planProbe_kept {r0 : State} (s : State) (n : Int) (b : Nat) (hk : Kept r0 s) : Kept r0 (State.planProbe s n b) := by
  unfold State.planProbe
  repeat' first
    | (simp only [hk, kept_ite, State.planReg_kept]; done)
    | split

theorem State.planTable_kept {r0 : State} (s : State) (next : State) (n : Int) (b : Nat) (hk : Kept r0 s) : Kept r0 (State.planTable s next n b) := by
  unfold State.planTable
  simp only [hk, kept_ite, State.planReg_kept]

theorem execScanExecutionBoundary_kept {r0 : State} (b : Fin 32) (s : State) (hk : Kept r0 s) : KeptO r0 (execScanExecutionBoundary b s) := by
  unfold execScanExecutionBoundary
  repeat' first
    | (simp (maxDischargeDepth := 200) +decide only [hk, kept_put, keptO_next, State.beginExec_kept, State.finishExec_kept, State.returnInputs_kept, State.setScan_kept, settled_kept]; done)
    | dsimp only
    | split

theorem State.scanTick_kept {r0 : State} (s : State) (tin : TickIn) (n : Int) (b : Nat) (hk : Kept r0 s) : Kept r0 (State.scanTick s tin n b) := by
  unfold State.scanTick
  repeat' first
    | (simp (maxDischargeDepth := 200) +contextual only [hk, kept_ite, kept_foldl, implies_true, State.setScan_kept, State.wheySpan_kept]; done)
    | dsimp only
    | split

theorem State.scanRecord_kept {r0 : State} (s : State) (c : Nat) (g : Int) (v : Int) (hk : Kept r0 s) : Kept r0 (State.scanRecord s c g v) := by
  unfold State.scanRecord
  simp only [hk, kept_ite, State.setScan_kept]

theorem State.mergeSpan_kept {r0 : State} (s : State) (c : Nat) (g : Int) (h : Int) (hk : Kept r0 s) : Kept r0 (State.mergeSpan s c g h) := by
  unfold State.mergeSpan
  repeat' first
    | (simp only [hk, kept_ite, State.setScan_kept]; done)
    | dsimp only
    | split

theorem State.handVerdict_kept {r0 : State} (s : State) (b : Nat) (r : TestRun) (i : Nat) (hk : Kept r0 s) : Kept r0 (State.handVerdict s b r i) := by
  unfold State.handVerdict
  repeat' first
    | (simp (maxDischargeDepth := 200) +decide only [hk, kept_ite, State.bump_kept, State.mirrorChange_kept, State.wireFault_kept, State.wirePass_kept]; done)
    | split

theorem State.takeReady_kept {r0 : State} (s : State) (b : Nat) (n : Int) (kind : Nat → Bool) (f : State → TestRun → Nat → State) (ho : ∀ (s : State) (r : TestRun) (i : Nat), Kept r0 s → Kept r0 (f s r i)) (hk : Kept r0 s) : Kept r0 (State.takeReady s b n kind f) := by
  unfold State.takeReady
  simp (maxDischargeDepth := 200) +contextual only [ho, hk, kept_foldl, implies_true, State.setScan_kept]

theorem execScanTestVerdict_kept {r0 : State} (b : Fin 32) (s : State) (hk : Kept r0 s) : KeptO r0 (execScanTestVerdict b s) := by
  unfold execScanTestVerdict
  simp (maxDischargeDepth := 200) +contextual only [hk, implies_true, State.handVerdict_kept, State.takeReady_kept, settled_kept]

theorem State.leadResult_kept {r0 : State} (s : State) (b : Nat) (r : TestRun) (i : Nat) (hk : Kept r0 s) : Kept r0 (State.leadResult s b r i) := by
  unfold State.leadResult
  repeat' first
    | (simp (maxDischargeDepth := 200) +decide only [hk, kept_put, kept_ite, Obj.legal_of_free, State.mirrorChange_kept, State.setChan_kept]; done)
    | split

theorem execLeadExecutionDone_kept {r0 : State} (b : Fin 32) (s : State) (hk : Kept r0 s) : KeptO r0 (execLeadExecutionDone b s) := by
  unfold execLeadExecutionDone
  simp (maxDischargeDepth := 200) +contextual only [hk, implies_true, State.leadResult_kept, State.takeReady_kept, settled_kept]

theorem execScanHold_kept {r0 : State} (w : Who) (b : Fin 32) (s : State) (hk : Kept r0 s) : KeptO r0 (execScanHold w b s) := by
  unfold execScanHold
  repeat' first
    | (simp +decide only [hk, kept_put, State.setScan_kept]; done)
    | dsimp only
    | refine keptO_next (asCommand_kept _ _ _ _ _ _ _ (fun s hk => ?_) hk)
    | split

theorem execScanRelease_kept {r0 : State} (w : Who) (b : Fin 32) (s : State) (hk : Kept r0 s) : KeptO r0 (execScanRelease w b s) := by
  unfold execScanRelease
  simp (maxDischargeDepth := 200) +contextual +decide only [hk, kept_put, kept_ite_snd, keptO_next, implies_true, State.setScan_kept, asCommand_kept]

theorem State.scanBegin_kept {r0 : State} (s : State) (b : Nat) (g : Int) (hk : Kept r0 s) : Kept r0 (State.scanBegin s b g) := by
  unfold State.scanBegin
  simp (maxDischargeDepth := 200) +decide only [hk, kept_put, kept_ite, Obj.legal_of_free, State.beginExec_kept, State.endBlinds_kept, State.returnInputs_kept, State.setScan_kept]

theorem State.scanStop_kept {r0 : State} (s : State) (b : Nat) (hk : Kept r0 s) : Kept r0 (State.scanStop s b) := by
  unfold State.scanStop
  simp (maxDischargeDepth := 200) +decide only [hk, kept_put, State.endBlinds_kept, State.setScan_kept]

/-! ### Machine/Harp -/

theorem State.laneCause_kept {r0 : State} (s : State) (b : Nat) (bit : Nat) (hk : Kept r0 s) : Kept r0 (State.laneCause s b bit) := by
  unfold State.laneCause
  simp +decide only [hk, State.causeIn_kept]

theorem State.startFade_kept {r0 : State} (s : State) (b : Nat) (target : Nat) (at_ : Int) (hk : Kept r0 s) : Kept r0 (State.startFade s b target at_) := by
  unfold State.startFade
  simp +decide only [hk, kept_put, State.setLane_kept]

theorem State.judgeSwap_kept {r0 : State} (s : State) (b : Nat) (target : Nat) (at_ : Int) (hk : Kept r0 s) : Kept r0 (State.judgeSwap s b target at_) := by
  unfold State.judgeSwap
  simp (maxDischargeDepth := 200) +decide only [hk, kept_put, kept_ite, Obj.legal_of_free, State.bump_kept, State.laneCause_kept, State.startFade_kept]

theorem State.takePending_kept {r0 : State} (s : State) (b : Nat) (at_ : Int) (hk : Kept r0 s) : Kept r0 (State.takePending s b at_) := by
  unfold State.takePending
  simp (maxDischargeDepth := 200) +decide only [hk, kept_put, kept_ite, Obj.legal_of_free, State.startFade_kept]

theorem State.requestSwap_kept {r0 : State} (s : State) (b : Nat) (k : Nat) (at_ : Int) (commit : Bool) (hk : Kept r0 s) : Kept r0 (State.requestSwap s b k at_ commit) := by
  unfold State.requestSwap
  simp only [hk, State.setLane_kept]

theorem execCoefSwap_kept {r0 : State} (w : Who) (b : Fin 32) (k : Nat) (s : State) (hk : Kept r0 s) : KeptO r0 (execCoefSwap w b k s) := by
  unfold execCoefSwap
  repeat' first
    | (simp only [hk, State.requestSwap_kept]; done)
    | refine keptO_next (asCommand_kept _ _ _ _ _ _ _ (fun s hk => ?_) hk)
    | split

theorem State.judgeSwaps_kept {r0 : State} (s : State) (b : Nat) (hk : Kept r0 s) : Kept r0 (State.judgeSwaps s b) := by
  unfold State.judgeSwaps
  simp +contextual only [hk, kept_foldl, implies_true, State.judgeSwap_kept, State.setLane_kept]

theorem State.startPriming_kept {r0 : State} (s : State) (b : Nat) (g : Int) (hk : Kept r0 s) : Kept r0 (State.startPriming s b g) := by
  unfold State.startPriming
  simp +decide only [hk, kept_put, Obj.legal_of_free]

theorem State.filterSwitch_kept {r0 : State} (s : State) (b : Nat) (preset : Nat) (g : Int) (hk : Kept r0 s) : Kept r0 (State.filterSwitch s b preset g) := by
  unfold State.filterSwitch
  simp (maxDischargeDepth := 200) +contextual only [hk, kept_ite, kept_foldl, implies_true, State.wheySpan_kept]

theorem State.changeCoef_kept {r0 : State} (s : State) (b : Nat) (k : Nat) (p : Nat) (bytes : List Byte) (g : Int) (hk : Kept r0 s) : Kept r0 (State.changeCoef s b k p bytes g) := by
  unfold State.changeCoef
  simp (maxDischargeDepth := 200) only [hk, kept_ite, State.filterSwitch_kept, State.setLane_kept, State.startPriming_kept]

theorem State.endPriming_kept {r0 : State} (s : State) (b : Nat) (hk : Kept r0 s) : Kept r0 (State.endPriming s b) := by
  unfold State.endPriming
  simp (maxDischargeDepth := 200) +decide only [hk, kept_put, kept_ite, State.laneCause_kept, State.takePending_kept]

theorem State.endFade_kept {r0 : State} (s : State) (b : Nat) (hk : Kept r0 s) : Kept r0 (State.endFade s b) := by
  unfold State.endFade
  simp (maxDischargeDepth := 200) +contextual +decide only [hk, kept_put, kept_ite, kept_foldl, Obj.legal_of_free, implies_true, State.bump_kept, State.filterSwitch_kept, State.laneCause_kept, State.startPriming_kept, State.takePending_kept]

theorem State.restartPath_kept {r0 : State} (s : State) (b : Nat) (path : Nat) (n : Int) (hk : Kept r0 s) : Kept r0 (State.restartPath s b path n) := by
  unfold State.restartPath
  simp only [hk, kept_ite, State.setChan_kept, State.setSpare_kept]

theorem State.residueFault_kept {r0 : State} (s : State) (b : Nat) (path : Nat) (n : Int) (hk : Kept r0 s) : Kept r0 (State.residueFault s b path n) := by
  unfold State.residueFault
  repeat' first
    | (simp (maxDischargeDepth := 200) +decide only [hk, kept_ite, State.autoFence_kept, State.bump_kept, State.laneCause_kept, State.restartPath_kept, State.setLane_kept, State.setSpare_kept, State.wheySpan_kept]; done)
    | split

theorem execResidueMismatch_kept {r0 : State} (b : Fin 32) (path : Fin 17) (s : State) (hk : Kept r0 s) : KeptO r0 (execResidueMismatch b path s) := by
  unfold execResidueMismatch
  simp only [hk, keptO_next, State.residueFault_kept]

theorem execCoefParityFail_kept {r0 : State} (b : Fin 32) (k : Fin 2) (paths : List Nat) (s : State) (hk : Kept r0 s) : KeptO r0 (execCoefParityFail b k paths s) := by
  unfold execCoefParityFail
  repeat' first
    | (simp +decide only [hk, kept_ite, State.wheySpan_kept]; done)
    | refine kept_foldl (fun s x hk => ?_) _ ?_
    | with_reducible apply State.bump_kept
    | with_reducible apply State.laneCause_kept
    | with_reducible apply State.setLane_kept
    | with_reducible apply State.setSpare_kept
    | with_reducible apply settled_kept
    | split

theorem execDcbFreezeWrite_kept {r0 : State} (w : Who) (b : Fin 32) (v : Nat) (s : State) (hk : Kept r0 s) : KeptO r0 (execDcbFreezeWrite w b v s) := by
  unfold execDcbFreezeWrite
  simp (maxDischargeDepth := 200) +contextual +decide only [hk, kept_put, keptO_next, Obj.legal_of_free, implies_true, asWrite_kept]

theorem execLaneCauseClear_kept {r0 : State} (w : Who) (b : Fin 32) (mask : Nat) (s : State) (hk : Kept r0 s) : KeptO r0 (execLaneCauseClear w b mask s) := by
  unfold execLaneCauseClear
  simp +decide only [hk, keptO_next, clearCommand_kept]

theorem State.formRecord_kept {r0 : State} (s : State) (n : Int) (c : Nat) (chn : Chain) (drain : Bool) (flush : Bool) (g : Int) (hk : Kept r0 s) : Kept r0 (State.formRecord s n c chn drain flush g).2 := by
  unfold State.formRecord
  simp (maxDischargeDepth := 200) +decide only [hk, kept_put, kept_ite, Obj.legal_of_free, State.add64_kept, State.bump_kept, State.comparePair_kept, State.laneCause_kept, State.scanRecord_kept, State.setChan_kept]

theorem State.toBus_kept {r0 : State} (s : State) (r : Rec) (hk : Kept r0 s) : Kept r0 (State.toBus s r) := by
  unfold State.toBus
  simp only [hk, kept_mk]

theorem State.emitChannel_kept {r0 : State} (s : State) (n : Int) (c : Nat) (hk : Kept r0 s) : Kept r0 (State.emitChannel s n c) := by
  unfold State.emitChannel
  repeat' first
    | (simp (maxDischargeDepth := 200) +contextual only [hk, kept_ite, kept_foldl, implies_true, State.formRecord_kept, State.setChan_kept, State.toBus_kept]; done)
    | dsimp only
    | split

theorem State.mapPaths_kept {r0 : State} (s : State) (b : Nat) (n : Int) (f : Nat → Nat → Chain → Chain) (hk : Kept r0 s) : Kept r0 (State.mapPaths s b n f) := by
  unfold State.mapPaths
  simp (maxDischargeDepth := 200) +contextual only [hk, kept_ite, kept_foldl, implies_true, State.setChan_kept, State.setSpare_kept]

theorem State.spareDrained_kept {r0 : State} (s : State) (b : Nat) (n : Int) (hk : Kept r0 s) : Kept r0 (State.spareDrained s b n) := by
  unfold State.spareDrained
  repeat' first
    | (simp only [hk, State.setSpare_kept]; done)
    | dsimp only
    | split

theorem State.advanceLane_kept {r0 : State} (s : State) (n : Int) (b : Nat) (hk : Kept r0 s) : Kept r0 (State.advanceLane s n b) := by
  unfold State.advanceLane
  simp (maxDischargeDepth := 200) +contextual only [hk, kept_ite, kept_foldl, implies_true, State.emitChannel_kept, State.mapPaths_kept, State.spareDrained_kept]

theorem State.latchLane_kept {r0 : State} (s : State) (tin : TickIn) (n : Int) (b : Nat) (hk : Kept r0 s) : Kept r0 (State.latchLane s tin n b) := by
  unfold State.latchLane
  simp (maxDischargeDepth := 200) +contextual only [hk, kept_ite, kept_foldl, implies_true, State.mapPaths_kept, State.residueFault_kept, State.setChan_kept]

theorem State.changePreset_kept {r0 : State} (s : State) (c : Nat) (old : Nat) (g : Int) (hk : Kept r0 s) : Kept r0 (State.changePreset s c old g) := by
  unfold State.changePreset
  repeat' first
    | (simp (maxDischargeDepth := 200) +decide only [hk, State.bump_kept, State.laneCause_kept, State.setChan_kept, State.setSpare_kept]; done)
    | dsimp only
    | split

theorem State.chanStart_kept {r0 : State} (s : State) (b : Nat) (s0 : Int) (i : Nat) (hk : Kept r0 s) : Kept r0 (State.chanStart s b s0 i) := by
  unfold State.chanStart
  simp (maxDischargeDepth := 200) only [hk, kept_ite, State.logCfg_kept, State.setChan_kept, State.wheySpan_kept]

theorem State.spareChainStart_kept {r0 : State} (s : State) (b : Nat) (s0 : Int) (hk : Kept r0 s) : Kept r0 (State.spareChainStart s b s0) := by
  unfold State.spareChainStart
  simp only [hk, kept_ite, State.setSpare_kept]

theorem State.dropFade_kept {r0 : State} (s : State) (b : Nat) (hk : Kept r0 s) : Kept r0 (State.dropFade s b) := by
  unfold State.dropFade
  simp (maxDischargeDepth := 200) +decide only [hk, kept_put, kept_ite, Obj.legal_of_free, State.setLane_kept]

theorem State.swapAtStart_kept {r0 : State} (s : State) (b : Nat) (k : Nat) (hk : Kept r0 s) : Kept r0 (State.swapAtStart s b k) := by
  unfold State.swapAtStart
  simp (maxDischargeDepth := 200) +decide only [hk, kept_put, kept_ite, Obj.legal_of_free, State.bump_kept, State.dropFade_kept, State.setLane_kept]

theorem State.laneStart_kept {r0 : State} (s : State) (b : Nat) (s0 : Int) (hk : Kept r0 s) : Kept r0 (State.laneStart s b s0) := by
  unfold State.laneStart
  extract_lets s1 l stale s2
  have k : Kept r0 s2 := by
    dsimp only [s2, s1]
    exact State.setLane_kept _ _ _ (State.spareChainStart_kept _ _ _ (kept_foldl (fun s i h => State.chanStart_kept s b s0 i h) _ hk))
  split
  · exact State.swapAtStart_kept _ _ _ k
  · exact k

theorem State.laneFirstTick_kept {r0 : State} (s : State) (b : Nat) (hk : Kept r0 s) : Kept r0 (State.laneFirstTick s b) := by
  unfold State.laneFirstTick
  simp (maxDischargeDepth := 200) only [hk, kept_ite, State.laneCause_kept, State.setLane_kept]

theorem State.laneLift_kept {r0 : State} (s : State) (b : Nat) (n : Int) (hk : Kept r0 s) : Kept r0 (State.laneLift s b n) := by
  unfold State.laneLift
  simp (maxDischargeDepth := 200) +contextual only [hk, kept_ite, kept_foldl, implies_true, State.restartPath_kept, State.wheySpan_kept]

end Sys2Proof.Machine
end

