-- ==== Sys2Proof/Laws/KeptData.lean ====
section
/-! SUPPORT. Each operation of the press, the rennet and the triers leaves the queue of commands
as it is and a sound state sound (Kept). -/

namespace Sys2Proof.Machine

open Sys2Proof

/-! ### Machine/Press -/

theorem State.setStrm_kept {r0 : State} (s : State) (b : Nat) (v : StreamUnit) (hk : Kept r0 s) : Kept r0 (State.setStrm s b v) := by
  unfold State.setStrm
  simp only [hk, kept_mk]

theorem State.setHist_kept {r0 : State} (s : State) (h : Nat) (v : Hist) (hk : Kept r0 s) : Kept r0 (State.setHist s h v) := by
  unfold State.setHist
  simp only [hk, kept_mk]

theorem State.setPmap_kept {r0 : State} (s : State) (m : Nat) (v : PMap) (hk : Kept r0 s) : Kept r0 (State.setPmap s m v) := by
  unfold State.setPmap
  simp only [hk, kept_mk]

theorem State.setRegion_kept {r0 : State} (s : State) (r : Nat) (v : Region) (hk : Kept r0 s) : Kept r0 (State.setRegion s r v) := by
  unfold State.setRegion
  simp only [hk, kept_mk]

theorem State.pressCause_kept {r0 : State} (s : State) (unit : Nat) (b : Nat) (hk : Kept r0 s) : Kept r0 (State.pressCause s unit b) := by
  unfold State.pressCause
  simp +decide only [hk, State.causeIn_kept]

theorem State.formed_kept {r0 : State} (s : State) (p : PressPacket) (hk : Kept r0 s) : Kept r0 (State.formed s p) := by
  unfold State.formed
  simp only [hk, kept_mk]

theorem State.dropReduced_kept {r0 : State} (s : State) (p : PressPacket) (hk : Kept r0 s) : Kept r0 (State.dropReduced s p) := by
  unfold State.dropReduced
  simp +decide only [hk, State.bump_kept, State.pressCause_kept]

theorem State.dropStream_kept {r0 : State} (s : State) (p : PressPacket) (hk : Kept r0 s) : Kept r0 (State.dropStream s p) := by
  unfold State.dropStream
  simp (maxDischargeDepth := 200) +contextual +decide only [hk, kept_foldl, implies_true, State.bump_kept, State.losePacket_kept, State.pressCause_kept]

theorem State.hold_kept {r0 : State} (n : Nat) (p : PressPacket) (s : State) (hk : Kept r0 s) : Kept r0 (State.hold n p s) := by
  induction n generalizing s with
  | zero => exact State.dropStream_kept _ _ hk
  | succ n ih =>
    unfold State.hold
    repeat' first
      | (simp (maxDischargeDepth := 200) +decide only [hk, ih, kept_mk, State.raiseTo_kept, State.dropReduced_kept, State.dropStream_kept]; done)
      | dsimp only
      | split

theorem State.offerPress_kept {r0 : State} (s : State) (held : List PressPacket) (p : PressPacket) (hk : Kept r0 s) : Kept r0 (State.offerPress s held p).2 := by
  unfold State.offerPress
  simp only [hk, kept_ite_snd, State.offer_kept]

theorem State.emitFresh_kept {r0 : State} (s : State) (over_ : Bool) (hk : Kept r0 s) : Kept r0 (State.emitFresh s over_) := by
  unfold State.emitFresh
  dsimp only
  refine State.settleLosses_kept _ (kept_foldl (fun s p hk => ?_) _ (kept_mk (kept_foldl_fst (fun a p hk => ?_) _ hk)))
  · have h := State.offerPress_kept s s.press.buffer p hk
    split <;> rename_i e <;> rw [e] at h
    · exact h
    · exact State.hold_kept _ _ _ h
  · have h := State.offerPress_kept a.1 a.2 p hk
    split <;> rename_i e <;> rw [e] at h <;> exact h

theorem State.pressEmit_kept {r0 : State} (s : State) (hk : Kept r0 s) : Kept r0 (State.pressEmit s) :=
  State.emitFresh_kept _ _ hk

theorem State.pressFlush_kept {r0 : State} (s : State) (hk : Kept r0 s) : Kept r0 (State.pressFlush s) := by
  unfold State.pressFlush
  simp only [hk, State.emitFresh_kept]

theorem State.logPress_kept {r0 : State} (s : State) (b : Nat) (g : Int) (hk : Kept r0 s) : Kept r0 (State.logPress s b g) := by
  unfold State.logPress
  simp only [hk, State.setStrm_kept]

theorem State.pressCut_kept {r0 : State} (s : State) (c : Nat) (g : Int) (hk : Kept r0 s) : Kept r0 (State.pressCut s c g) := by
  unfold State.pressCut
  simp only [hk, State.setStrm_kept]

theorem State.passCut_kept {r0 : State} (s : State) (b : Nat) (g : Int) (hk : Kept r0 s) : Kept r0 (State.passCut s b g) := by
  unfold State.passCut
  simp only [hk, State.setStrm_kept]

theorem State.notePasses_kept {r0 : State} (s : State) (b : Nat) (g : Int) (hk : Kept r0 s) : Kept r0 (State.notePasses s b g) := by
  unfold State.notePasses
  simp (maxDischargeDepth := 200) only [hk, kept_ite, State.logPress_kept, State.passCut_kept]

theorem State.streamTake_kept {r0 : State} (s : State) (r : Rec) (hk : Kept r0 s) : Kept r0 (State.streamTake s r) := by
  unfold State.streamTake
  simp only [hk, State.setStrm_kept]

theorem State.advanceStream_kept {r0 : State} (s : State) (b : Nat) (hk : Kept r0 s) : Kept r0 (State.advanceStream s b) := by
  unfold State.advanceStream
  simp +contextual only [hk, kept_foldl, implies_true, State.streamTake_kept]

theorem State.pressLift_kept {r0 : State} (s : State) (i : Nat) (hk : Kept r0 s) : Kept r0 (State.pressLift s i) := by
  unfold State.pressLift
  simp (maxDischargeDepth := 200) only [hk, kept_ite, State.setHist_kept, State.setStrm_kept]

theorem State.formRaw_kept {r0 : State} (s : State) (us : List Nat) (hk : Kept r0 s) : Kept r0 (State.formRaw s us) := by
  unfold State.formRaw
  simp (maxDischargeDepth := 200) +contextual only [hk, kept_ite, kept_foldl, implies_true, State.formed_kept, State.setStrm_kept]

theorem State.verifyFail_kept {r0 : State} (s : State) (b : Nat) (hk : Kept r0 s) : Kept r0 (State.verifyFail s b) := by
  unfold State.verifyFail
  simp (maxDischargeDepth := 200) +decide only [hk, kept_ite, State.autoFence_kept, State.bump_kept, State.pressCause_kept, State.setStrm_kept]

theorem State.formBlocks_kept {r0 : State} (s : State) (b : Nat) (bad : List Nat) (fenced : Bool) (all : Bool) (k : Nat × Int × Nat) (l : List (Nat × Block)) (hk : Kept r0 s) : Kept r0 (State.formBlocks s b bad fenced all k l) := by
  unfold State.formBlocks
  simp (maxDischargeDepth := 200) +contextual +decide only [hk, kept_ite, kept_foldl_fst, implies_true, State.add64_kept, State.bump_kept, State.formed_kept, State.verifyFail_kept]

theorem State.closeBlocks_kept {r0 : State} (s : State) (b : Nat) (bad : List Nat) (all : Bool) (hk : Kept r0 s) : Kept r0 (State.closeBlocks s b bad all) := by
  unfold State.closeBlocks
  simp +contextual only [hk, kept_foldl, implies_true, State.formBlocks_kept, State.setStrm_kept]

theorem execCompressedBlockClose_kept {r0 : State} (b : Fin 32) (bad : List Nat) (s : State) (hk : Kept r0 s) : KeptO r0 (execCompressedBlockClose b bad s) := by
  unfold execCompressedBlockClose
  simp (maxDischargeDepth := 200) only [hk, keptO_next, keptO_ite, State.closeBlocks_kept, State.pressEmit_kept, settled_kept]

theorem State.avgRecord_kept {r0 : State} (s : State) (b : Nat) (x : Win) (hk : Kept r0 s) : Kept r0 (State.avgRecord s b x).2 := by
  unfold State.avgRecord
  simp (maxDischargeDepth := 200) +decide only [hk, kept_ite, State.bump_kept, State.pressCause_kept]

theorem State.closeWins_kept {r0 : State} (s : State) (b : Nat) (type : Nat) (all : Bool) (hk : Kept r0 s) : Kept r0 (State.closeWins s b type all) := by
  unfold State.closeWins
  simp (maxDischargeDepth := 200) +contextual only [hk, kept_ite_snd, kept_foldl, kept_foldl_snd, implies_true, State.avgRecord_kept, State.formed_kept, State.setStrm_kept]

theorem execAveragingIntervalClose_kept {r0 : State} (b : Fin 32) (s : State) (hk : Kept r0 s) : KeptO r0 (execAveragingIntervalClose b s) := by
  unfold execAveragingIntervalClose
  simp (maxDischargeDepth := 200) only [hk, keptO_next, keptO_ite, State.closeWins_kept, State.pressEmit_kept, settled_kept]

theorem execStatsWindowClose_kept {r0 : State} (b : Fin 32) (s : State) (hk : Kept r0 s) : KeptO r0 (execStatsWindowClose b s) := by
  unfold execStatsWindowClose
  simp (maxDischargeDepth := 200) only [hk, keptO_next, keptO_ite, State.closeWins_kept, State.pressEmit_kept, settled_kept]

theorem State.logHist_kept {r0 : State} (s : State) (h : Nat) (g : Int) (hk : Kept r0 s) : Kept r0 (State.logHist s h g) := by
  unfold State.logHist
  simp only [hk, State.setHist_kept]

theorem State.histNote_kept {r0 : State} (s : State) (h : Nat) (r : Rec) (hk : Kept r0 s) : Kept r0 (State.histNote s h r) := by
  unfold State.histNote
  simp only [hk, State.setHist_kept]

theorem State.histCount_kept {r0 : State} (s : State) (h : Nat) (r : Rec) (keep : Bool) (hk : Kept r0 s) : Kept r0 (State.histCount s h r keep) := by
  unfold State.histCount
  simp (maxDischargeDepth := 200) only [hk, kept_ite, State.histNote_kept, State.pressCause_kept, State.setHist_kept]

theorem State.closeHistWin_kept {r0 : State} (s : State) (h : Nat) (short : Bool) (x : HistWin) (hk : Kept r0 s) : Kept r0 (State.closeHistWin s h short x) := by
  unfold State.closeHistWin
  simp (maxDischargeDepth := 200) +decide only [hk, kept_put, kept_putBytes, kept_ite, Obj.legal_of_free, State.bump_kept, State.formed_kept, State.pressCause_kept]

theorem State.closeDone_kept {r0 : State} (s : State) (h : Nat) (hk : Kept r0 s) : Kept r0 (State.closeDone s h) := by
  unfold State.closeDone
  simp +contextual only [hk, kept_foldl, implies_true, State.closeHistWin_kept, State.setHist_kept]

theorem State.closeHist_kept {r0 : State} (s : State) (h : Nat) (short : Bool) (hk : Kept r0 s) : Kept r0 (State.closeHist s h short) := by
  unfold State.closeHist
  simp (maxDischargeDepth := 200) +decide only [hk, kept_put, kept_ite, Obj.legal_of_free, State.closeDone_kept, State.closeHistWin_kept, State.setHist_kept]

theorem State.histTake_kept {r0 : State} (s : State) (h : Nat) (r : Rec) (hk : Kept r0 s) : Kept r0 (State.histTake s h r) := by
  unfold State.histTake
  repeat' first
    | (simp (maxDischargeDepth := 200) only [hk, kept_ite, State.histCount_kept, State.setHist_kept]; done)
    | dsimp only
    | split

theorem State.advanceHist_kept {r0 : State} (s : State) (h : Nat) (hk : Kept r0 s) : Kept r0 (State.advanceHist s h) := by
  unfold State.advanceHist
  simp +contextual only [hk, kept_foldl, implies_true, State.histTake_kept]

theorem State.histCloses_kept {r0 : State} (s : State) (h : Nat) (hk : Kept r0 s) : Kept r0 (State.histCloses s h) := by
  unfold State.histCloses
  simp (maxDischargeDepth := 200) only [hk, kept_ite, State.closeDone_kept, State.closeHist_kept]

theorem State.closeHists_kept {r0 : State} (s : State) (hk : Kept r0 s) : Kept r0 (State.closeHists s) := by
  unfold State.closeHists
  simp +contextual only [hk, kept_foldl, implies_true, State.histCloses_kept]

theorem execHistWindowClose_kept {r0 : State} (h : Fin 16) (s : State) (hk : Kept r0 s) : KeptO r0 (execHistWindowClose h s) := by
  unfold execHistWindowClose
  simp (maxDischargeDepth := 200) only [hk, keptO_next, keptO_ite, State.histCloses_kept, State.pressEmit_kept, settled_kept]

theorem execHistClose_kept {r0 : State} (w : Who) (h : Fin 16) (s : State) (hk : Kept r0 s) : KeptO r0 (execHistClose w h s) := by
  unfold execHistClose
  simp (maxDischargeDepth := 200) +contextual only [hk, kept_ite_snd, keptO_next, implies_true, State.histCloses_kept, State.pressEmit_kept, State.setHist_kept, asCommand_kept]

theorem State.histBegin_kept {r0 : State} (s : State) (h : Nat) (g : Int) (hk : Kept r0 s) : Kept r0 (State.histBegin s h g) := by
  unfold State.histBegin
  simp +decide only [hk, kept_put, Obj.legal_of_free, State.setHist_kept]

theorem State.histEnd_kept {r0 : State} (s : State) (h : Nat) (g : Int) (hk : Kept r0 s) : Kept r0 (State.histEnd s h g) := by
  unfold State.histEnd
  simp only [hk, kept_ite, State.setHist_kept]

theorem State.histBind_kept {r0 : State} (s : State) (h : Nat) (region : Nat) (hk : Kept r0 s) : Kept r0 (State.histBind s h region) := by
  unfold State.histBind
  simp (maxDischargeDepth := 200) +decide only [hk, kept_put, kept_ite, Obj.legal_of_free, State.closeHist_kept, State.setHist_kept]

theorem State.histUnbind_kept {r0 : State} (s : State) (h : Nat) (g : Int) (hk : Kept r0 s) : Kept r0 (State.histUnbind s h g) := by
  unfold State.histUnbind
  simp +decide only [hk, kept_put, Obj.legal_of_free, State.setHist_kept]

theorem State.clearMap_kept {r0 : State} (s : State) (m : Nat) (hk : Kept r0 s) : Kept r0 (State.clearMap s m) := by
  unfold State.clearMap
  simp (maxDischargeDepth := 200) +contextual +decide only [hk, kept_put, kept_foldl, Obj.legal_of_free, implies_true, State.setPmap_kept]

theorem State.beginReadout_kept {r0 : State} (s : State) (m : Nat) (hk : Kept r0 s) : Kept r0 (State.beginReadout s m) := by
  unfold State.beginReadout
  simp (maxDischargeDepth := 200) +decide only [hk, kept_put, Obj.legal_of_free, State.setPmap_kept]

theorem State.mapResume_kept {r0 : State} (s : State) (m : Nat) (hk : Kept r0 s) : Kept r0 (State.mapResume s m) := by
  unfold State.mapResume
  simp (maxDischargeDepth := 200) only [hk, kept_ite, State.beginReadout_kept, State.clearMap_kept]

theorem execPmapReadout_kept {r0 : State} (w : Who) (m : Fin 4) (s : State) (hk : Kept r0 s) : KeptO r0 (execPmapReadout w m s) := by
  unfold execPmapReadout
  simp (maxDischargeDepth := 200) +contextual +decide only [hk, kept_put, kept_ite_snd, keptO_next, Obj.legal_of_free, implies_true, State.beginReadout_kept, asCommand_kept]

theorem execPmapClear_kept {r0 : State} (w : Who) (m : Fin 4) (s : State) (hk : Kept r0 s) : KeptO r0 (execPmapClear w m s) := by
  unfold execPmapClear
  simp (maxDischargeDepth := 200) +contextual +decide only [hk, kept_put, kept_ite_snd, keptO_next, Obj.legal_of_free, implies_true, State.clearMap_kept, asCommand_kept]

theorem State.readoutStep_kept {r0 : State} (s : State) (m : Nat) (hk : Kept r0 s) : Kept r0 (State.readoutStep s m) := by
  unfold State.readoutStep
  repeat' first
    | (simp only [hk, State.formed_kept, State.setPmap_kept]; done)
    | dsimp only
    | split

theorem execPmapReadoutDone_kept {r0 : State} (m : Fin 4) (s : State) (hk : Kept r0 s) : KeptO r0 (execPmapReadoutDone m s) := by
  unfold execPmapReadoutDone
  simp (maxDischargeDepth := 200) +decide only [hk, kept_put, keptO_next, keptO_ite, Obj.legal_of_free, State.mapResume_kept, State.pressCause_kept, State.setPmap_kept]

theorem State.mapCount_kept {r0 : State} (s : State) (m : Nat) (unit : Nat) (j : Nat) (post : Nat) (r : Rec) (hk : Kept r0 s) : Kept r0 (State.mapCount s m unit j post r) := by
  unfold State.mapCount
  simp (maxDischargeDepth := 200) +decide only [hk, kept_ite, State.causeIn_kept, State.raiseTo_kept, State.setPmap_kept]

theorem State.pressStop_kept {r0 : State} (s : State) (bad : List Nat) (hk : Kept r0 s) : Kept r0 (State.pressStop s bad) := by
  unfold State.pressStop
  simp (maxDischargeDepth := 200) +contextual +decide only [hk, kept_put, kept_ite, kept_foldl, Obj.legal_of_free, implies_true, State.closeBlocks_kept, State.closeHist_kept, State.closeWins_kept, State.formRaw_kept, State.pressFlush_kept]

theorem State.pressStart_kept {r0 : State} (s : State) (s0 : Int) (hk : Kept r0 s) : Kept r0 (State.pressStart s s0) := by
  unfold State.pressStart
  simp (maxDischargeDepth := 200) +contextual +decide only [hk, kept_put, kept_mk, kept_ite, kept_foldl, Obj.legal_of_free, implies_true, State.histBegin_kept, State.setHist_kept, State.setStrm_kept]

theorem execPressCauseClear_kept {r0 : State} (w : Who) (mask : Nat) (s : State) (hk : Kept r0 s) : KeptO r0 (execPressCauseClear w mask s) := by
  unfold execPressCauseClear
  simp +decide only [hk, keptO_next, clearCommand_kept]

/-! ### Machine/Ripen -/

theorem State.setSeg_kept {r0 : State} (s : State) (id : Nat) (f : Segment → Segment) (hk : Kept r0 s) : Kept r0 (State.setSeg s id f) := by
  unfold State.setSeg
  simp only [hk, kept_mk]

theorem State.issueRipen_kept {r0 : State} (s : State) (hk : Kept r0 s) : Kept r0 (State.issueRipen s) := by
  unfold State.issueRipen
  repeat' first
    | (simp (maxDischargeDepth := 200) +decide only [hk, kept_mk, State.bump_kept, State.cause_kept, State.setSeg_kept]; done)
    | split

theorem State.standSeg_kept {r0 : State} (s : State) (id : Nat) (hk : Kept r0 s) : Kept r0 (State.standSeg s id) := by
  unfold State.standSeg
  simp only [hk, State.setSeg_kept]

theorem execRipenRequestRx_kept {r0 : State} (s : State) (hk : Kept r0 s) : KeptO r0 (execRipenRequestRx s) := by
  unfold execRipenRequestRx
  repeat' first
    | (simp (maxDischargeDepth := 200) +decide only [hk, kept_put, kept_mk, keptO_next, keptO_ite, Obj.legal_of_free, State.bump_kept, State.pressCause_kept, State.standSeg_kept]; done)
    | split

theorem State.engineNext_kept {r0 : State} (s : State) (hk : Kept r0 s) : Kept r0 (State.engineNext s) := by
  unfold State.engineNext
  simp (maxDischargeDepth := 200) +decide only [hk, kept_put, kept_ite, Obj.legal_of_free]

theorem State.ripenFence_kept {r0 : State} (s : State) (hk : Kept r0 s) : Kept r0 (State.ripenFence s) := by
  unfold State.ripenFence
  simp (maxDischargeDepth := 200) +decide only [hk, kept_put, kept_ite, Obj.legal_of_free, State.bump_kept, State.standSeg_kept]

theorem State.placeRipe_kept {r0 : State} (s : State) (src : Segment) (pkts : List Stored) (hk : Kept r0 s) :
    KeptM r0 (State.placeRipe s src pkts) := by
  unfold State.placeRipe
  extract_lets n fits add c1 s1 opened
  have h1 : Kept r0 s1 := kept_mk hk
  have ho : ∀ u id, Kept r0 u → Kept r0 (opened u id) := fun u id h => kept_mk h
  clear_value s1 opened
  refine keptM_ite keptM_none (keptM_ite (keptM_some (kept_mk hk)) ?_)
  split
  · exact keptM_ite (keptM_some (ho _ _ h1)) keptM_none
  · split
    · exact keptM_some (ho _ _ (State.reclaim_kept _ _ h1))
    · exact keptM_none

theorem State.countRipe_kept {r0 : State} (s : State) (out : List Ripe) (c : Nat) (hk : Kept r0 s) : Kept r0 (State.countRipe s out c) := by
  unfold State.countRipe
  simp (maxDischargeDepth := 200) +decide only [hk, kept_ite, State.add64_kept, State.pressCause_kept]

theorem State.segmentRipened_kept {r0 : State} (s : State) (g : Segment) (out : List Ripe) (hk : Kept r0 s) : Kept r0 (State.segmentRipened s g out) := by
  unfold State.segmentRipened
  simp (maxDischargeDepth := 200) +contextual +decide only [hk, kept_put, kept_mk, kept_ite, kept_foldl, Obj.legal_of_free, implies_true, State.bump_kept, State.countRipe_kept, State.pressCause_kept]

theorem execRipenSegmentDone_kept {r0 : State} (s : State) (hk : Kept r0 s) : KeptO r0 (execRipenSegmentDone s) := by
  unfold execRipenSegmentDone
  dsimp only
  split
  · exact keptO_ite (keptO_next (State.engineNext_kept _ hk)) (keptO_next hk)
  · refine keptO_ite ?_ (keptO_next hk)
    rename_i g e
    have h := State.placeRipe_kept s g (s.ripenSegment g).1 hk
    split
    · simp (maxDischargeDepth := 200) +decide only [keptO_next, hk, State.engineNext_kept, State.bump_kept, State.standSeg_kept]
    · rename_i t e'
      have ht := h t e'
      simp (maxDischargeDepth := 200) +decide only [keptO_next, ht, State.engineNext_kept, State.noteLowSpace_kept, State.segmentRipened_kept]

/-! ### Machine/Rennet -/

theorem State.setUnit_kept {r0 : State} (s : State) (u : Nat) (v : TrigUnit) (hk : Kept r0 s) : Kept r0 (State.setUnit s u v) := by
  unfold State.setUnit
  simp only [hk, kept_mk]

theorem State.unitCause_kept {r0 : State} (s : State) (u : Nat) (b : Nat) (hk : Kept r0 s) : Kept r0 (State.unitCause s u b) := by
  unfold State.unitCause
  simp +decide only [hk, kept_ite, State.causeIn_kept]

theorem State.groupCause_kept {r0 : State} (s : State) (r : Nat) (b : Nat) (hk : Kept r0 s) : Kept r0 (State.groupCause s r b) := by
  unfold State.groupCause
  simp +contextual only [hk, kept_foldl, implies_true, State.unitCause_kept]

theorem State.showGroup_kept {r0 : State} (s : State) (r : Nat) (hk : Kept r0 s) : Kept r0 (State.showGroup s r) := by
  unfold State.showGroup
  simp (maxDischargeDepth := 200) +contextual +decide only [hk, kept_put, kept_foldl, Obj.legal_of_free, implies_true]

theorem State.withRegion_kept {r0 : State} (s : State) (r : Nat) (g : Region) (hk : Kept r0 s) : Kept r0 (State.withRegion s r g) := by
  unfold State.withRegion
  simp only [hk, State.setRegion_kept, State.showGroup_kept]

theorem State.feedBound_kept {r0 : State} (s : State) (r : Nat) (j : Nat) (row : Int × List Word) (hk : Kept r0 s) : Kept r0 (State.feedBound s r j row) := by
  unfold State.feedBound
  simp (maxDischargeDepth := 200) only [hk, kept_ite, State.histCount_kept, State.mapCount_kept]

theorem State.newRows_kept {r0 : State} (s : State) (g : Region) (fenced : Bool) (hk : Kept r0 s) : Kept r0 (State.newRows s g fenced).2 := by
  unfold State.newRows
  repeat' first
    | (simp only [hk, State.draw_kept]; done)
    | refine kept_foldl_snd (fun a x hk => ?_) _ ?_
    | split

theorem State.takeRow_kept {r0 : State} (s : State) (r : Nat) (row : Int × List Word) (hk : Kept r0 s) : Kept r0 (State.takeRow s r row) := by
  unfold State.takeRow
  simp (maxDischargeDepth := 200) only [hk, kept_ite, State.feedBound_kept, State.setRegion_kept]

theorem State.takeRecords_kept {r0 : State} (s : State) (r : Nat) (hk : Kept r0 s) : Kept r0 (State.takeRecords s r) := by
  unfold State.takeRecords
  simp (maxDischargeDepth := 200) +contextual only [hk, kept_ite, kept_foldl, implies_true, State.newRows_kept, State.showGroup_kept, State.takeRow_kept]

theorem State.armGroup_kept {r0 : State} (s : State) (r : Nat) (from_ : Option Int) (hk : Kept r0 s) : Kept r0 (State.armGroup s r from_) := by
  unfold State.armGroup
  repeat' first
    | (simp (maxDischargeDepth := 200) only [hk, kept_ite, State.groupCause_kept, State.withRegion_kept]; done)
    | split

theorem State.sealCapture_kept {r0 : State} (s : State) (r : Nat) (cut : Bool) (stop : Bool) (hk : Kept r0 s) : Kept r0 (State.sealCapture s r cut stop) := by
  unfold State.sealCapture
  simp (maxDischargeDepth := 200) +contextual only [hk, kept_putBytes, kept_mk, kept_ite, kept_foldl, implies_true, State.setRegion_kept]

theorem State.closeCapture_kept {r0 : State} (s : State) (r : Nat) (cut : Bool) (stop : Bool) (hk : Kept r0 s) : Kept r0 (State.closeCapture s r cut stop) := by
  unfold State.closeCapture
  simp (maxDischargeDepth := 200) +decide only [hk, kept_ite, State.bump_kept, State.closeHist_kept, State.groupCause_kept, State.mapResume_kept, State.sealCapture_kept, State.showGroup_kept]

theorem State.cutGroup_kept {r0 : State} (s : State) (r : Nat) (fenced : Bool) (stop : Bool) (hk : Kept r0 s) : Kept r0 (State.cutGroup s r fenced stop) := by
  unfold State.cutGroup
  simp (maxDischargeDepth := 200) only [hk, kept_ite, State.closeCapture_kept, State.setRegion_kept, State.withRegion_kept]

theorem State.markRecord_kept {r0 : State} (s : State) (r : Rec) (hk : Kept r0 s) : Kept r0 (State.markRecord s r) := by
  unfold State.markRecord
  simp only [hk, kept_mk]

theorem State.sendTrigger_kept {r0 : State} (s : State) (u : Nat) (line : Nat) (t : Int) (hk : Kept r0 s) : Kept r0 (State.sendTrigger s u line t).2 := by
  unfold State.sendTrigger
  simp (maxDischargeDepth := 200) only [hk, kept_mk, kept_ite, kept_ite_snd, State.newFrame_kept, State.sendFrame_kept, State.unitCause_kept]

theorem State.acceptShot_kept {r0 : State} (s : State) (x : Shot) (hk : Kept r0 s) : Kept r0 (State.acceptShot s x).2 := by
  unfold State.acceptShot
  repeat' first
    | (simp (maxDischargeDepth := 200) +decide only [hk, kept_put, kept_ite, kept_ite_snd, Obj.legal_of_free, State.bump_kept, State.markRecord_kept, State.sendTrigger_kept, State.unitCause_kept]; done)
    | dsimp only
    | split

theorem State.noteShot_kept {r0 : State} (s : State) (x : Shot) (hk : Kept r0 s) : Kept r0 (State.noteShot s x) := by
  unfold State.noteShot
  simp only [hk, State.setUnit_kept]

theorem State.joinShot_kept {r0 : State} (s : State) (x : Shot) (r : Nat) (hk : Kept r0 s) : Kept r0 (State.joinShot s x r) := by
  unfold State.joinShot
  repeat' first
    | (simp (maxDischargeDepth := 200) +decide only [hk, kept_put, kept_ite_snd, Obj.legal_of_free, State.bump_kept, State.markRecord_kept, State.noteShot_kept, State.sendTrigger_kept, State.setRegion_kept, State.unitCause_kept]; done)
    | split

theorem State.acceptGroup_kept {r0 : State} (s : State) (x : Shot) (r : Nat) (tPrime : Int) (k : Nat) (b : Nat) (circ : Bool) (hk : Kept r0 s) : Kept r0 (State.acceptGroup s x r tPrime k b circ) := by
  unfold State.acceptGroup
  simp (maxDischargeDepth := 200) +contextual +decide only [hk, kept_ite, kept_foldl_snd, implies_true, State.acceptShot_kept, State.bump_kept, State.feedBound_kept, State.noteShot_kept, State.unitCause_kept, State.withRegion_kept]

theorem State.ignoreShot_kept {r0 : State} (s : State) (u : Nat) (count : Obj) (b : Nat) (ho : count.greatestCode.isNone = true) (hk : Kept r0 s) : Kept r0 (State.ignoreShot s u count b) := by
  unfold State.ignoreShot
  simp only [ho, hk, State.bump_kept, State.unitCause_kept]

theorem State.judgeGroup_kept {r0 : State} (s : State) (x : Shot) (r : Nat) (hk : Kept r0 s) : Kept r0 (State.judgeGroup s x r) := by
  unfold State.judgeGroup
  simp (maxDischargeDepth := 200) +decide only [hk, kept_put, kept_ite, Obj.legal_of_free, State.acceptGroup_kept, State.ignoreShot_kept, State.joinShot_kept]

theorem State.judgeAlone_kept {r0 : State} (s : State) (x : Shot) (hk : Kept r0 s) : Kept r0 (State.judgeAlone s x) := by
  unfold State.judgeAlone
  simp (maxDischargeDepth := 200) +decide only [hk, kept_put, kept_ite, Obj.legal_of_free, State.acceptShot_kept, State.ignoreShot_kept, State.setUnit_kept]

theorem State.judge_kept {r0 : State} (s : State) (x : Shot) (hk : Kept r0 s) : Kept r0 (State.judge s x) := by
  unfold State.judge
  simp (maxDischargeDepth := 200) only [hk, kept_ite, State.judgeAlone_kept, State.judgeGroup_kept]

theorem State.judgeTimeout_kept {r0 : State} (s : State) (u : Nat) (hk : Kept r0 s) : Kept r0 (State.judgeTimeout s u) := by
  unfold State.judgeTimeout
  repeat' first
    | (simp (maxDischargeDepth := 200) +decide only [hk, State.bump_kept, State.judge_kept, State.setUnit_kept]; done)
    | dsimp only
    | split

theorem State.judgeMatured_kept {r0 : State} (s : State) (hk : Kept r0 s) : Kept r0 (State.judgeMatured s) := by
  unfold State.judgeMatured
  simp +contextual only [hk, kept_foldl, implies_true, State.judgeTimeout_kept]

theorem State.testOne_kept {r0 : State} (s : State) (u : Nat) (r : Rec) (hk : Kept r0 s) : Kept r0 (State.testOne s u r) := by
  unfold State.testOne
  simp (maxDischargeDepth := 200) +decide only [hk, kept_ite, State.bump_kept, State.judge_kept, State.judgeMatured_kept, State.markRecord_kept, State.setUnit_kept, State.unitCause_kept]

theorem State.testRecord_kept {r0 : State} (s : State) (u : Nat) (r : Rec) (hk : Kept r0 s) : Kept r0 (State.testRecord s u r) := by
  unfold State.testRecord
  simp (maxDischargeDepth := 200) +decide only [hk, kept_put, kept_ite, Obj.legal_of_free, State.setUnit_kept, State.testOne_kept]

theorem State.advanceRennet_kept {r0 : State} (s : State) (us : List Nat) (hk : Kept r0 s) : Kept r0 (State.advanceRennet s us) := by
  unfold State.advanceRennet
  simp (maxDischargeDepth := 200) +contextual only [hk, kept_foldl, implies_true, State.takeRecords_kept, State.testRecord_kept]

theorem execTrigTimeoutMatures_kept {r0 : State} (u : Fin 16) (s : State) (hk : Kept r0 s) : KeptO r0 (execTrigTimeoutMatures u s) := by
  unfold execTrigTimeoutMatures
  simp only [hk, State.judgeTimeout_kept, settled_kept]

theorem execTrigForce_kept {r0 : State} (w : Who) (u : Fin 16) (s : State) (hk : Kept r0 s) : KeptO r0 (execTrigForce w u s) := by
  unfold execTrigForce
  simp (maxDischargeDepth := 200) +contextual only [hk, keptO_next, implies_true, State.setUnit_kept, asCommand_kept]

theorem State.onVatTrigger_kept {r0 : State} (s : State) (f : Frame) (hk : Kept r0 s) : Kept r0 (State.onVatTrigger s f) := by
  unfold State.onVatTrigger
  simp only [hk, kept_mk]

theorem State.deliverBcast_kept {r0 : State} (s : State) (x : Bcast) (hk : Kept r0 s) : Kept r0 (State.deliverBcast s x) := by
  unfold State.deliverBcast
  simp (maxDischargeDepth := 200) +contextual only [hk, kept_ite, kept_foldl, implies_true, State.judge_kept]

theorem State.deliverDue_kept {r0 : State} (s : State) (hk : Kept r0 s) : Kept r0 (State.deliverDue s) := by
  unfold State.deliverDue
  simp +contextual only [hk, kept_mk, kept_foldl, implies_true, State.deliverBcast_kept]

theorem execBroadcastDelivery_kept {r0 : State} (s : State) (hk : Kept r0 s) : KeptO r0 (execBroadcastDelivery s) := by
  unfold execBroadcastDelivery
  simp (maxDischargeDepth := 200) only [hk, keptO_next, keptO_ite, State.deliverDue_kept, State.judgeMatured_kept, settled_kept]

theorem State.judgeWaiting_kept {r0 : State} (s : State) (hk : Kept r0 s) : Kept r0 (State.judgeWaiting s) := by
  unfold State.judgeWaiting
  simp (maxDischargeDepth := 200) +contextual only [hk, kept_ite, kept_foldl, implies_true, State.closeCapture_kept, State.deliverDue_kept, State.judgeMatured_kept]

theorem execCaptureClose_kept {r0 : State} (r : Fin 16) (s : State) (hk : Kept r0 s) : KeptO r0 (execCaptureClose r s) := by
  unfold execCaptureClose
  simp (maxDischargeDepth := 200) only [hk, kept_ite, keptO_next, keptO_ite, State.closeCapture_kept, State.deliverDue_kept, State.judgeMatured_kept, State.pressEmit_kept, settled_kept]

theorem State.pushCaptures_kept {r0 : State} (s : State) (hk : Kept r0 s) : Kept r0 (State.pushCaptures s) := by
  unfold State.pushCaptures
  refine kept_foldl (fun s r hk => ?_) _ hk
  dsimp only
  refine kept_ite (State.setRegion_kept _ _ _ (kept_foldl_snd (fun a x hk => ?_) _ hk)) hk
  have h := State.offer_kept a.2 (s.region r).queue 7 0 x.1 x.2 hk
  split
  · exact hk
  · split <;> rename_i e <;> rw [e] at h <;> exact h

theorem State.releaseGroup_kept {r0 : State} (s : State) (r : Nat) (hk : Kept r0 s) : Kept r0 (State.releaseGroup s r) := by
  unfold State.releaseGroup
  simp only [hk, kept_ite, State.armGroup_kept, State.setRegion_kept]

theorem State.takeReleases_kept {r0 : State} (s : State) (hk : Kept r0 s) : Kept r0 (State.takeReleases s) := by
  unfold State.takeReleases
  simp (maxDischargeDepth := 200) +contextual only [hk, kept_ite, kept_foldl, implies_true, State.armGroup_kept]

theorem execCapturePushDone_kept {r0 : State} (r : Fin 16) (s : State) (hk : Kept r0 s) : KeptO r0 (execCapturePushDone r s) := by
  unfold execCapturePushDone
  simp (maxDischargeDepth := 200) only [hk, keptO_next, keptO_ite, State.releaseGroup_kept]

theorem execCapRelease_kept {r0 : State} (w : Who) (u : Fin 16) (s : State) (hk : Kept r0 s) : KeptO r0 (execCapRelease w u s) := by
  unfold execCapRelease
  simp (maxDischargeDepth := 200) +contextual only [hk, kept_ite_snd, keptO_next, implies_true, State.releaseGroup_kept, asCommand_kept]

theorem execUnitCauseClear_kept {r0 : State} (w : Who) (u : Fin 16) (mask : Nat) (s : State) (hk : Kept r0 s) : KeptO r0 (execUnitCauseClear w u mask s) := by
  unfold execUnitCauseClear
  simp +decide only [hk, keptO_next, clearCommand_kept]

theorem State.rennetStart_kept {r0 : State} (s : State) (hk : Kept r0 s) : Kept r0 (State.rennetStart s) := by
  unfold State.rennetStart
  simp (maxDischargeDepth := 200) +contextual +decide only [hk, kept_put, kept_mk, kept_ite, kept_foldl, Obj.legal_of_free, implies_true, State.armGroup_kept, State.setUnit_kept]

theorem State.rennetStop_kept {r0 : State} (s : State) (hk : Kept r0 s) : Kept r0 (State.rennetStop s) := by
  unfold State.rennetStop
  simp (maxDischargeDepth := 200) +contextual +decide only [hk, kept_put, kept_ite, kept_foldl, Obj.legal_of_free, implies_true, State.cutGroup_kept, State.withRegion_kept]

theorem State.unitFence_kept {r0 : State} (s : State) (u : Nat) (hk : Kept r0 s) : Kept r0 (State.unitFence s u) := by
  unfold State.unitFence
  simp only [hk, kept_ite, State.cutGroup_kept]

theorem State.regionFence_kept {r0 : State} (s : State) (r : Nat) (hk : Kept r0 s) : Kept r0 (State.regionFence s r) := by
  unfold State.regionFence
  simp only [hk, State.cutGroup_kept]

theorem State.regionWord_kept {r0 : State} (s : State) (r : Nat) (w : Nat) (hk : Kept r0 s) : Kept r0 (State.regionWord s r w).2 := by
  unfold State.regionWord
  repeat' first
    | (simp only [hk, State.draw_kept]; done)
    | dsimp only
    | split

theorem State.readRegion_kept {r0 : State} (s : State) (r : Nat) (bad : Bool) (hk : Kept r0 s) : Kept r0 (State.readRegion s r bad).2 := by
  unfold State.readRegion
  simp (maxDischargeDepth := 200) +contextual +decide only [hk, kept_put, kept_ite, kept_ite_snd, kept_foldl_snd, Obj.legal_of_free, implies_true, State.abortRegion_kept, State.add32_kept, State.autoFence_kept, State.cause_kept, State.caveReady_kept, State.regionFence_kept, State.regionWord_kept, State.setRegion_kept]

theorem execRegionDataRead_kept {r0 : State} (w : Who) (r : Fin 16) (bad : Bool) (s : State) (hk : Kept r0 s) : KeptO r0 (execRegionDataRead w r bad s) := by
  unfold execRegionDataRead
  simp (maxDischargeDepth := 200) +contextual only [hk, keptO_next, implies_true, State.readRegion_kept, asRead_kept]

/-! ### Machine/Trier -/

theorem State.trierEvent_kept {r0 : State} (s : State) (t : Nat) (n : Nat) (hk : Kept r0 s) : Kept r0 (State.trierEvent s t n) := by
  unfold State.trierEvent
  simp +decide only [hk, kept_ite, State.bump_kept, State.raise_kept]

theorem State.trierCause_kept {r0 : State} (s : State) (t : Nat) (b : Nat) (event : Option Nat) (hk : Kept r0 s) : Kept r0 (State.trierCause s t b event) := by
  unfold State.trierCause
  repeat' first
    | (simp (maxDischargeDepth := 200) +decide only [hk, State.noteCause_kept, State.orCause_kept, State.trierEvent_kept]; done)
    | split

theorem State.noteCjc_kept {r0 : State} (s : State) (b : Nat) (n : Int) (hk : Kept r0 s) : Kept r0 (State.noteCjc s b n) := by
  unfold State.noteCjc
  repeat' first
    | (simp only [hk, kept_ite, State.setBank_kept]; done)
    | dsimp only
    | split

theorem State.noteTrierCjc_kept {r0 : State} (s : State) (t : Nat) (n : Int) (hk : Kept r0 s) : Kept r0 (State.noteTrierCjc s t n) := by
  unfold State.noteTrierCjc
  simp (maxDischargeDepth := 200) +contextual only [hk, kept_ite, kept_foldl, implies_true, State.noteCjc_kept]

theorem execCjcStale_kept {r0 : State} (b : Fin 32) (s : State) (hk : Kept r0 s) : KeptO r0 (execCjcStale b s) := by
  unfold execCjcStale
  simp only [hk, State.noteCjc_kept, settled_kept]

theorem State.updTrier_kept {r0 : State} (s : State) (t : Nat) (f : Trier → Trier) (hk : Kept r0 s) : Kept r0 (State.updTrier s t f) := by
  unfold State.updTrier
  simp only [hk, State.setTrier_kept]

theorem State.beginWork_kept {r0 : State} (s : State) (t : Nat) (w : TrierWork) (clock : Int) (word : Nat) (smp : Nat) (restarted : Bool) (hk : Kept r0 s) : Kept r0 (State.beginWork s t w clock word smp restarted) := by
  unfold State.beginWork
  simp only [hk, State.updTrier_kept]

theorem State.passEnd_kept {r0 : State} (s : State) (t : Nat) (hk : Kept r0 s) : Kept r0 (State.passEnd s t) := by
  unfold State.passEnd
  simp (maxDischargeDepth := 200) +decide only [hk, kept_put, Obj.legal_of_free, State.bump_kept, State.trierEvent_kept, State.updTrier_kept]

theorem State.beginEntry_kept {r0 : State} (s : State) (g : List Nat) (e : Nat) (clock : Int) (hk : Kept r0 s) : Kept r0 (State.beginEntry s g e clock) := by
  unfold State.beginEntry
  repeat' first
    | (simp (maxDischargeDepth := 200) +contextual +decide only [hk, kept_put, kept_ite, kept_foldl, implies_true, State.beginWork_kept, State.passEnd_kept, State.updTrier_kept]; done)
    | dsimp only
    | split

theorem State.beginPass_kept {r0 : State} (s : State) (g : List Nat) (clock : Int) (hk : Kept r0 s) : Kept r0 (State.beginPass s g clock) := by
  unfold State.beginPass
  simp (maxDischargeDepth := 200) +contextual only [hk, kept_foldl, implies_true, State.beginEntry_kept, State.updTrier_kept]

theorem State.refuseInjected_kept {r0 : State} (s : State) (t : Nat) (hk : Kept r0 s) : Kept r0 (State.refuseInjected s t) := by
  unfold State.refuseInjected
  simp +decide only [hk, State.bump_kept, State.trierCause_kept]

theorem State.trierOff_kept {r0 : State} (s : State) (t : Nat) (hk : Kept r0 s) : Kept r0 (State.trierOff s t) := by
  unfold State.trierOff
  simp (maxDischargeDepth := 200) +decide only [hk, kept_put, kept_ite, Obj.legal_of_free, State.noteTrierCjc_kept, State.refuseInjected_kept, State.setTrier_kept]

theorem State.takeCut_kept {r0 : State} (s : State) (t : Nat) (hk : Kept r0 s) : Kept r0 (State.takeCut s t) := by
  unfold State.takeCut
  simp only [hk, kept_ite, State.updTrier_kept]

theorem State.dropSkipped_kept {r0 : State} (s : State) (t : Nat) (hk : Kept r0 s) : Kept r0 (State.dropSkipped s t) := by
  unfold State.dropSkipped
  repeat' first
    | (simp only [hk, kept_ite, State.updTrier_kept]; done)
    | split

theorem State.beginInjected_kept {r0 : State} (s : State) (t : Nat) (w : Nat) (clock : Int) (hk : Kept r0 s) : Kept r0 (State.beginInjected s t w clock) := by
  unfold State.beginInjected
  simp (maxDischargeDepth := 200) +decide only [hk, kept_put, State.beginWork_kept, State.updTrier_kept]

theorem State.beginCal_kept {r0 : State} (s : State) (t : Nat) (k : Nat) (clock : Int) (hk : Kept r0 s) : Kept r0 (State.beginCal s t k clock) := by
  unfold State.beginCal
  simp (maxDischargeDepth := 200) +decide only [hk, kept_put, Obj.legal_of_free, State.updTrier_kept]

theorem State.goOn_kept {r0 : State} (s : State) (t : Nat) (e : Nat) (clock : Int) (hk : Kept r0 s) : Kept r0 (State.goOn s t e clock) := by
  unfold State.goOn
  simp +decide only [hk, kept_put, kept_ite, State.beginEntry_kept]

theorem State.idleWork_kept {r0 : State} (s : State) (t : Nat) (clock : Int) (hk : Kept r0 s) : Kept r0 (State.idleWork s t clock) := by
  unfold State.idleWork
  simp +decide only [hk, kept_put, kept_ite, State.beginPass_kept]

theorem State.nextWork_kept {r0 : State} (s : State) (t : Nat) (clock : Int) (hk : Kept r0 s) : Kept r0 (State.nextWork s t clock) := by
  unfold State.nextWork
  repeat' first
    | (simp (maxDischargeDepth := 200) only [hk, State.beginCal_kept, State.beginInjected_kept, State.dropSkipped_kept, State.goOn_kept, State.idleWork_kept, State.takeCut_kept, State.trierOff_kept]; done)
    | dsimp only
    | split

theorem State.nextOfGroup_kept {r0 : State} (s : State) (t : Nat) (clock : Int) (hk : Kept r0 s) : Kept r0 (State.nextOfGroup s t clock) := by
  unfold State.nextOfGroup
  simp +contextual only [hk, kept_foldl, implies_true, State.nextWork_kept]

theorem State.pushWord_kept {r0 : State} (s : State) (t : Nat) (x : Trier) (w : BitVec 64) (hk : Kept r0 s) : Kept r0 (State.pushWord s t x w) := by
  unfold State.pushWord
  simp only [hk, kept_mk, kept_ite]

theorem State.excSample_kept {r0 : State} (s : State) (t : Nat) (v : Int) (hk : Kept r0 s) : Kept r0 (State.excSample s t v) := by
  unfold State.excSample
  simp (maxDischargeDepth := 200) only [hk, kept_mk, kept_ite]

theorem execTrierConversionDone_kept {r0 : State} (t : Fin 4) (raw : Int) (s : State) (hk : Kept r0 s) : KeptO r0 (execTrierConversionDone t raw s) := by
  unfold execTrierConversionDone
  repeat' first
    | (simp (maxDischargeDepth := 200) +decide only [hk, kept_put, kept_ite, keptO_next, Obj.legal_of_free, State.excSample_kept, State.nextOfGroup_kept, State.noteTrierCjc_kept, State.passEnd_kept, State.pushWord_kept, State.trierCause_kept, State.trierEvent_kept, State.updTrier_kept]; done)
    | dsimp only
    | split

theorem State.unstart_kept {r0 : State} (s : State) (t : Nat) (hk : Kept r0 s) : Kept r0 (State.unstart s t) := by
  unfold State.unstart
  simp (maxDischargeDepth := 200) +contextual +decide only [hk, kept_put, kept_ite, kept_foldl, implies_true, State.bump_kept, State.setTrier_kept, State.trierCause_kept]

theorem execTrierStart_kept {r0 : State} (w : Who) (t : Fin 4) (s : State) (hk : Kept r0 s) : KeptO r0 (execTrierStart w t s) := by
  unfold execTrierStart
  simp (maxDischargeDepth := 200) +contextual +decide only [hk, kept_ite_snd, keptO_next, implies_true, State.bump_kept, State.nextWork_kept, State.updTrier_kept, asCommand_kept]

theorem State.armTrier_kept {r0 : State} (s : State) (t : Nat) (m : Int) (hk : Kept r0 s) : Kept r0 (State.armTrier s t m) := by
  unfold State.armTrier
  simp only [hk, kept_ite, State.updTrier_kept]

theorem execTrierPassArmedStart_kept {r0 : State} (t : Fin 4) (s : State) (hk : Kept r0 s) : KeptO r0 (execTrierPassArmedStart t s) := by
  unfold execTrierPassArmedStart
  repeat' first
    | (simp (maxDischargeDepth := 200) +contextual +decide only [hk, keptO_next, keptO_ite, kept_foldl, implies_true, State.beginPass_kept, State.bump_kept, State.trierCause_kept, State.updTrier_kept]; done)
    | split

theorem State.abortEntry_kept {r0 : State} (s : State) (t : Nat) (hk : Kept r0 s) : Kept r0 (State.abortEntry s t) := by
  unfold State.abortEntry
  repeat' first
    | (simp +decide only [hk, State.bump_kept, State.updTrier_kept]; done)
    | refine kept_foldl (fun s x hk => ?_) _ ?_
    | split

theorem State.uncalibrate_kept {r0 : State} (s : State) (t : Nat) (hk : Kept r0 s) : Kept r0 (State.uncalibrate s t) := by
  unfold State.uncalibrate
  simp (maxDischargeDepth := 200) +decide only [hk, kept_put, kept_ite, Obj.legal_of_free, State.setTrier_kept]

theorem State.acceptInjected_kept {r0 : State} (s : State) (t : Nat) (word : Nat) (hk : Kept r0 s) : Kept r0 (State.acceptInjected s t word) := by
  unfold State.acceptInjected
  repeat' first
    | (simp (maxDischargeDepth := 200) only [hk, kept_ite, State.abortEntry_kept, State.abortItems_kept, State.nextWork_kept, State.trierCause_kept, State.uncalibrate_kept, State.unstart_kept, State.updTrier_kept]; done)
    | dsimp only
    | split

theorem execInjRequest_kept {r0 : State} (w : Who) (t : Fin 4) (word : Nat) (s : State) (hk : Kept r0 s) : KeptO r0 (execInjRequest w t word s) := by
  unfold execInjRequest
  simp (maxDischargeDepth := 200) +contextual only [hk, kept_ite_snd, keptO_next, implies_true, State.acceptInjected_kept, State.refuseInjected_kept, asCommand_kept]

theorem execTrierCalStart_kept {r0 : State} (w : Who) (t : Fin 4) (s : State) (hk : Kept r0 s) : KeptO r0 (execTrierCalStart w t s) := by
  unfold execTrierCalStart
  simp (maxDischargeDepth := 200) +contextual +decide only [hk, kept_put, kept_ite_snd, keptO_next, Obj.legal_of_free, implies_true, State.abortItems_kept, State.nextWork_kept, State.trierCause_kept, State.unstart_kept, State.updTrier_kept, asCommand_kept]

theorem execTrierCalStepDone_kept {r0 : State} (t : Fin 4) (offset : Int) (gain : Nat) (s : State) (hk : Kept r0 s) : KeptO r0 (execTrierCalStepDone t offset gain s) := by
  unfold execTrierCalStepDone
  repeat' first
    | (simp (maxDischargeDepth := 200) +decide only [hk, kept_put, kept_ite, keptO_next, keptO_ite, Obj.legal_of_free, State.nextOfGroup_kept, State.trierCause_kept, State.updTrier_kept]; done)
    | dsimp only
    | split

theorem execTrierPowered_kept {r0 : State} (t : Fin 4) (s : State) (hk : Kept r0 s) : KeptO r0 (execTrierPowered t s) := by
  unfold execTrierPowered
  repeat' first
    | (simp (maxDischargeDepth := 200) only [hk, keptO_next, keptO_ite, State.nextOfGroup_kept, State.updTrier_kept]; done)
    | split

theorem execTrierCauseClear_kept {r0 : State} (w : Who) (t : Fin 4) (mask : Nat) (s : State) (hk : Kept r0 s) : KeptO r0 (execTrierCauseClear w t mask s) := by
  unfold execTrierCauseClear
  simp +decide only [hk, keptO_next, clearCommand_kept]

theorem State.pushTrierPacket_kept {r0 : State} (s : State) (x : TrierWord) (hk : Kept r0 s) : Kept r0 (State.pushTrierPacket s x) := by
  unfold State.pushTrierPacket
  repeat' first
    | (simp only [hk, kept_mk, State.offer_kept]; done)
    | dsimp only
    | (split <;> rename_i heq <;> replace heq := congrArg Prod.snd heq <;> dsimp only at heq <;> subst heq)

theorem State.pushTriers_kept {r0 : State} (s : State) (hk : Kept r0 s) : Kept r0 (State.pushTriers s) := by
  unfold State.pushTriers
  repeat' first
    | (simp only [hk, kept_ite, State.pushTrierPacket_kept]; done)
    | refine kept_foldl (fun s x hk => ?_) _ ?_
    | split

theorem State.trierCommitted_kept {r0 : State} (s : State) (t : Nat) (hk : Kept r0 s) : Kept r0 (State.trierCommitted s t) := by
  unfold State.trierCommitted
  simp (maxDischargeDepth := 200) +decide only [hk, kept_put, kept_ite, State.nextWork_kept, State.noteTrierCjc_kept, State.updTrier_kept]

theorem execExcCal_kept {r0 : State} (w : Who) (b : Nat) (s : State) (hk : Kept r0 s) : KeptO r0 (execExcCal w b s) := by
  unfold execExcCal
  simp (maxDischargeDepth := 200) +contextual +decide only [hk, kept_put, kept_mk, kept_ite, kept_ite_snd, keptO_next, Obj.legal_of_free, implies_true, State.abortItems_kept, asCommand_kept]

theorem State.excCalCycle_kept {r0 : State} (s : State) (hk : Kept r0 s) : Kept r0 (State.excCalCycle s) := by
  unfold State.excCalCycle
  repeat' first
    | (simp only [hk, kept_mk, State.acceptInjected_kept]; done)
    | dsimp only
    | split

theorem State.clockCycle_kept {r0 : State} (s : State) (hk : Kept r0 s) : Kept r0 (State.clockCycle s) := by
  unfold State.clockCycle
  simp only [hk, State.clockTime_kept, State.excCalCycle_kept]

theorem State.excCalEnd_kept {r0 : State} (s : State) (b : Nat) (got : List (Nat × Int × Int × Int)) (lost : Bool) (hk : Kept r0 s) :
    Kept r0 (State.excCalEnd s b got lost) := by
  unfold State.excCalEnd
  repeat' first
    | (simp (maxDischargeDepth := 200) +decide only [hk, kept_put, kept_mk, Obj.legal_of_free, State.trierEvent_kept]; done)
    | split

theorem execExcCalDone_kept {r0 : State} (b : Fin 32) (cut : Bool) (s : State) (hk : Kept r0 s) : KeptO r0 (execExcCalDone b cut s) := by
  unfold execExcCalDone
  repeat' first
    | (simp +decide only [hk, keptO_next, State.excCalEnd_kept]; done)
    | split

end Sys2Proof.Machine
end

