-- ==== Sys2Proof/Laws/KeptRing.lean ====
section
/-! SUPPORT. Each operation of the ring ports, links and ring time leaves the queue of commands
as it is and a sound state sound (Kept). -/

namespace Sys2Proof.Machine

open Sys2Proof

/-! ### Machine/Link -/

theorem State.portCause_kept {r0 : State} (s : State) (p : Nat) (o : Obj) (b : Nat) (ho : o.greatestCode.isNone = true) (hk : Kept r0 s) : Kept r0 (State.portCause s p o b) := by
  unfold State.portCause
  simp only [ho, hk, kept_ite, State.causeIn_kept]

theorem State.rlCause_kept {r0 : State} (s : State) (p : Nat) (b : Nat) (hk : Kept r0 s) : Kept r0 (State.rlCause s p b) := by
  unfold State.rlCause
  simp +decide only [hk, State.portCause_kept]

theorem State.sendNeighbour_kept {r0 : State} (s : State) (p : Nat) (op : Nat) (body : List Byte) (hk : Kept r0 s) : Kept r0 (State.sendNeighbour s p op body) := by
  unfold State.sendNeighbour
  simp only [hk, State.newFrame_kept, State.sendFrame_kept]

theorem State.sendResponse_kept {r0 : State} (s : State) (payload : List Byte) (hk : Kept r0 s) : Kept r0 (State.sendResponse s payload) := by
  unfold State.sendResponse
  simp (maxDischargeDepth := 200) only [hk, kept_ite, State.newFrame_kept, State.sendFrame_kept]

theorem State.sendPause_kept {r0 : State} (s : State) (p : Nat) (quanta : Nat) (hk : Kept r0 s) : Kept r0 (State.sendPause s p quanta) := by
  unfold State.sendPause
  simp (maxDischargeDepth := 200) +decide only [hk, State.bump_kept, State.rlCause_kept, State.sendNeighbour_kept]

theorem State.pauseWhenHigh_kept {r0 : State} (s : State) (p : Nat) (hk : Kept r0 s) : Kept r0 (State.pauseWhenHigh s p) := by
  unfold State.pauseWhenHigh
  simp (maxDischargeDepth := 200) only [hk, kept_ite, State.sendPause_kept, State.setLink_kept]

theorem State.resumeWhenLow_kept {r0 : State} (s : State) (p : Nat) (hk : Kept r0 s) : Kept r0 (State.resumeWhenLow s p) := by
  unfold State.resumeWhenLow
  simp (maxDischargeDepth := 200) only [hk, kept_ite, State.sendPause_kept, State.setLink_kept]

theorem State.enterTransit_kept {r0 : State} (s : State) (p : Nat) (f : Frame) (hk : Kept r0 s) : Kept r0 (State.enterTransit s p f) := by
  unfold State.enterTransit
  simp (maxDischargeDepth := 200) +decide only [hk, kept_ite, State.bump_kept, State.pauseWhenHigh_kept, State.queueFrame_kept, State.raiseTo_kept, State.rlCause_kept]

theorem State.forward_kept {r0 : State} (s : State) (p : Nat) (f : Frame) (hk : Kept r0 s) : Kept r0 (State.forward s p f) := by
  unfold State.forward
  simp (maxDischargeDepth := 200) +decide only [hk, kept_ite, State.add64_kept, State.bump_kept, State.enterTransit_kept]

theorem State.firstCopy_kept {r0 : State} (s : State) (f : Frame) (hk : Kept r0 s) : Kept r0 (State.firstCopy s f).2 := by
  unfold State.firstCopy
  simp only [hk, kept_mk, kept_ite_snd]

theorem State.route_kept {r0 : State} (s : State) (p : Nat) (f : Frame) (hk : Kept r0 s) : Kept r0 (State.route s p f).2 := by
  unfold State.route
  simp (maxDischargeDepth := 200) only [hk, kept_ite_snd, State.firstCopy_kept, State.forward_kept]

theorem State.receive_kept {r0 : State} (s : State) (p : Nat) (f : Frame) (hk : Kept r0 s) : Kept r0 (State.receive s p f).2 := by
  unfold State.receive
  simp (maxDischargeDepth := 200) +decide only [hk, kept_ite_snd, State.add64_kept, State.route_kept]

theorem State.forwardStomped_kept {r0 : State} (s : State) (p : Nat) (f : Frame) (hk : Kept r0 s) : Kept r0 (State.forwardStomped s p f) := by
  unfold State.forwardStomped
  simp only [hk, kept_ite, State.forward_kept]

theorem State.moveOwn_kept {r0 : State} (s : State) (from_ : Nat) (to_ : Nat) (hk : Kept r0 s) : Kept r0 (State.moveOwn s from_ to_) := by
  unfold State.moveOwn
  simp +contextual only [hk, kept_foldl, implies_true, State.sendFrame_kept, State.setLink_kept]

theorem State.releaseHeld_kept {r0 : State} (s : State) (hk : Kept r0 s) : Kept r0 (State.releaseHeld s) := by
  unfold State.releaseHeld
  simp (maxDischargeDepth := 200) +contextual only [hk, kept_mk, kept_ite, kept_foldl, implies_true, State.sendReport_kept, State.sendResponse_kept]

theorem State.chooseDir_kept {r0 : State} (s : State) (hk : Kept r0 s) : Kept r0 (State.chooseDir s) := by
  unfold State.chooseDir
  simp (maxDischargeDepth := 200) +decide only [hk, kept_put, kept_ite, Obj.legal_of_free, State.cause_kept, State.moveOwn_kept, State.releaseHeld_kept]

theorem State.setLinkState_kept {r0 : State} (s : State) (p : Nat) (st : Int) (ho : Obj.legal .LINK_STATE st = true) (hk : Kept r0 s) : Kept r0 (State.setLinkState s p st) := by
  unfold State.setLinkState
  simp (maxDischargeDepth := 200) +decide only [ho, hk, kept_put, kept_ite, Obj.legal_of_free]

theorem State.sendNotice_kept {r0 : State} (s : State) (ports : List Nat) (p : Nat) (code : Nat) (cause : Nat) (hk : Kept r0 s) : Kept r0 (State.sendNotice s ports p code cause) := by
  unfold State.sendNotice
  simp +contextual only [hk, kept_foldl, implies_true, State.newFrame_kept, State.sendFrame_kept]

theorem State.markFailed_kept {r0 : State} (s : State) (a : Nat) (failed : Bool) (hk : Kept r0 s) : Kept r0 (State.markFailed s a failed) := by
  unfold State.markFailed
  simp +decide only [hk, kept_put, Obj.legal_of_free]

theorem State.wrapFrame_kept {r0 : State} (s : State) (p : Nat) (rank : Nat) (f : Frame) (hk : Kept r0 s) : Kept r0 (State.wrapFrame s p rank f) := by
  unfold State.wrapFrame
  simp (maxDischargeDepth := 200) +decide only [hk, kept_ite, State.bump_kept, State.pauseWhenHigh_kept, State.rlCause_kept, State.sendFrame_kept]

theorem State.wrapQueue_kept {r0 : State} (s : State) (p : Nat) (hk : Kept r0 s) : Kept r0 (State.wrapQueue s p) := by
  unfold State.wrapQueue
  simp (maxDischargeDepth := 200) +contextual only [hk, kept_foldl, implies_true, State.resumeWhenLow_kept, State.setLink_kept, State.wrapFrame_kept]

theorem State.disqualify_kept {r0 : State} (s : State) (p : Nat) (hk : Kept r0 s) : Kept r0 (State.disqualify s p) := by
  unfold State.disqualify
  simp (maxDischargeDepth := 200) +decide only [hk, kept_put, kept_ite, Obj.legal_of_free, State.raise_kept, State.setTimePort_kept]

theorem State.linkFail_kept {r0 : State} (s : State) (p : Nat) (code : Nat) (hk : Kept r0 s) : Kept r0 (State.linkFail s p code) := by
  unfold State.linkFail
  simp (maxDischargeDepth := 200) +decide only [hk, kept_put, kept_ite, Obj.legal_of_free, State.bump_kept, State.chooseDir_kept, State.disqualify_kept, State.markFailed_kept, State.rlCause_kept, State.sendNeighbour_kept, State.sendNotice_kept, State.setLinkState_kept, State.wrapQueue_kept]

theorem State.linkHold_kept {r0 : State} (s : State) (p : Nat) (hk : Kept r0 s) : Kept r0 (State.linkHold s p) := by
  unfold State.linkHold
  simp +decide only [hk, State.setLink_kept, State.setLinkState_kept]

theorem State.linkMisfit_kept {r0 : State} (s : State) (p : Nat) (hk : Kept r0 s) : Kept r0 (State.linkMisfit s p) := by
  unfold State.linkMisfit
  simp (maxDischargeDepth := 200) +decide only [hk, kept_ite, State.linkFail_kept, State.rlCause_kept, State.setLink_kept, State.setLinkState_kept]

theorem State.linkFollows_kept {r0 : State} (s : State) (p : Nat) (old : Int) (new : Int) (hk : Kept r0 s) : Kept r0 (State.linkFollows s p old new) := by
  unfold State.linkFollows
  simp (maxDischargeDepth := 200) +decide only [hk, kept_ite, State.linkFail_kept, State.linkHold_kept, State.rlCause_kept, State.sendNotice_kept, State.setLink_kept, State.setLinkState_kept]

theorem State.linkRecovers_kept {r0 : State} (s : State) (p : Nat) (hk : Kept r0 s) : Kept r0 (State.linkRecovers s p) := by
  unfold State.linkRecovers
  simp only [hk, kept_ite, State.linkHold_kept]

theorem execRejoinHoldExpiry_kept {r0 : State} (p : Fin 2) (s : State) (hk : Kept r0 s) : KeptO r0 (execRejoinHoldExpiry p s) := by
  unfold execRejoinHoldExpiry
  simp (maxDischargeDepth := 200) +decide only [hk, kept_ite, keptO_next, keptO_ite, State.chooseDir_kept, State.markFailed_kept, State.rlCause_kept, State.sendNotice_kept, State.setLinkState_kept]

theorem State.clearSide_kept {r0 : State} (s : State) (p : Nat) (hk : Kept r0 s) : Kept r0 (State.clearSide s p) := by
  unfold State.clearSide
  simp (maxDischargeDepth := 200) +contextual only [hk, kept_ite, kept_foldl, implies_true, State.markFailed_kept]

theorem State.markOwn_kept {r0 : State} (s : State) (hk : Kept r0 s) : Kept r0 (State.markOwn s) := by
  unfold State.markOwn
  simp (maxDischargeDepth := 200) +contextual only [hk, kept_ite, kept_foldl, implies_true, State.markFailed_kept]

theorem State.onBeacon_kept {r0 : State} (s : State) (p : Nat) (f : Frame) (hk : Kept r0 s) : Kept r0 (State.onBeacon s p f) := by
  unfold State.onBeacon
  extract_lets b id followed dir n s1 s2 s3 s4 r5 s5 s6 s7 l8 s8 east west pos s9
  have k_s1 : Kept r0 s1 := by
    dsimp only [s1]
    simp (maxDischargeDepth := 200) +decide only [hk, kept_put, Obj.legal_of_free]
  have k_s2 : Kept r0 s2 := by
    dsimp only [s2]
    simp (maxDischargeDepth := 200) +decide only [kept_put, Obj.legal_of_free, k_s1]
  have k_s3 : Kept r0 s3 := by
    dsimp only [s3]
    simp (maxDischargeDepth := 200) +decide only [kept_put, Obj.legal_of_free, k_s2]
  have k_s4 : Kept r0 s4 := by
    dsimp only [s4]
    simp (maxDischargeDepth := 200) +decide only [kept_put, Obj.legal_of_free, k_s3]
  have k_s5 : Kept r0 s5 := by
    dsimp only [s5]
    simp (maxDischargeDepth := 200) +decide only [kept_mk, k_s4]
  have k_s6 : Kept r0 s6 := by
    dsimp only [s6]
    simp (maxDischargeDepth := 200) +decide only [kept_put, kept_ite, Obj.legal_of_free, k_s5]
  have k_s7 : Kept r0 s7 := by
    dsimp only [s7]
    simp (maxDischargeDepth := 200) +decide only [kept_put, kept_ite, Obj.legal_of_free, k_s6]
  have k_s8 : Kept r0 s8 := by
    dsimp only [s8]
    simp (maxDischargeDepth := 200) +decide only [State.setLink_kept, k_s7]
  have k_s9 : Kept r0 s9 := by
    dsimp only [s9]
    simp (maxDischargeDepth := 200) +decide only [kept_put, kept_ite, Obj.legal_of_free, State.cause_kept, State.markOwn_kept, k_s8]
  simp (maxDischargeDepth := 200) +decide only [hk, kept_ite, State.cause_kept, State.chooseDir_kept, State.clearSide_kept, k_s9]

theorem execBeaconTimeout_kept {r0 : State} (p : Fin 2) (s : State) (hk : Kept r0 s) : KeptO r0 (execBeaconTimeout p s) := by
  unfold execBeaconTimeout
  simp (maxDischargeDepth := 200) only [hk, keptO_next, keptO_ite, State.chooseDir_kept, State.rlCause_kept, State.setLink_kept]

theorem State.onNotice_kept {r0 : State} (s : State) (f : Frame) (hk : Kept r0 s) : Kept r0 (State.onNotice s f) := by
  unfold State.onNotice
  simp (maxDischargeDepth := 200) only [hk, kept_ite, State.chooseDir_kept, State.markFailed_kept]

theorem State.onPause_kept {r0 : State} (s : State) (p : Nat) (f : Frame) (hk : Kept r0 s) : Kept r0 (State.onPause s p f) := by
  unfold State.onPause
  simp (maxDischargeDepth := 200) +decide only [hk, kept_put, Obj.legal_of_free, State.bump_kept, State.setLink_kept]

theorem execPauseQuantaExpiry_kept {r0 : State} (p : Fin 2) (s : State) (hk : Kept r0 s) : KeptO r0 (execPauseQuantaExpiry p s) := by
  unfold execPauseQuantaExpiry
  simp (maxDischargeDepth := 200) +decide only [hk, kept_put, keptO_next, keptO_ite, Obj.legal_of_free]

theorem execPauseRepeat_kept {r0 : State} (p : Fin 2) (s : State) (hk : Kept r0 s) : KeptO r0 (execPauseRepeat p s) := by
  unfold execPauseRepeat
  simp (maxDischargeDepth := 200) only [hk, keptO_next, keptO_ite, State.sendPause_kept, State.setLink_kept]

theorem State.onAck_kept {r0 : State} (s : State) (f : Frame) (hk : Kept r0 s) : Kept r0 (State.onAck s f) := by
  unfold State.onAck
  simp only [hk, kept_ite, State.applyAck_kept]

theorem State.onResend_kept {r0 : State} (s : State) (f : Frame) (hk : Kept r0 s) : Kept r0 (State.onResend s f) := by
  unfold State.onResend
  simp (maxDischargeDepth := 200) +decide only [hk, kept_put, kept_mk, kept_ite, Obj.legal_of_free, State.bump_kept, State.sendResponse_kept]

theorem State.markSent_kept {r0 : State} (s : State) (seg : Nat) (place : Nat) (hk : Kept r0 s) : Kept r0 (State.markSent s seg place) := by
  unfold State.markSent
  simp only [hk, kept_mk]

theorem State.sendData_kept {r0 : State} (s : State) (rank : Nat) (resent : Bool) (p : Packet) (hk : Kept r0 s) : Kept r0 (State.sendData s rank resent p) := by
  unfold State.sendData
  simp only [hk, State.newFrame_kept, State.sendFrame_kept]

theorem State.setHeadResend_kept {r0 : State} (s : State) (r : Option Resend) (hk : Kept r0 s) : Kept r0 (State.setHeadResend s r) := by
  unfold State.setHeadResend
  simp +decide only [hk, kept_put, kept_mk, Obj.legal_of_free]

theorem State.serveResend_kept {r0 : State} (s : State) (r : Resend) (hk : Kept r0 s) : Kept r0 (State.serveResend s r) := by
  unfold State.serveResend
  repeat' first
    | (simp (maxDischargeDepth := 200) +decide only [hk, State.add64_kept, State.bump_kept, State.cause_kept, State.readPacket_kept, State.sendData_kept, State.sendResponse_kept, State.setHeadResend_kept]; done)
    | dsimp only
    | (split <;> rename_i heq <;> replace heq := congrArg Prod.snd heq <;> dsimp only at heq <;> subst heq)
    | split

theorem State.sendReplay_kept {r0 : State} (s : State) (hk : Kept r0 s) : Kept r0 (State.sendReplay s) := by
  unfold State.sendReplay
  repeat' first
    | (simp (maxDischargeDepth := 200) +decide only [hk, State.add64_kept, State.readPacket_kept, State.replayPast_kept, State.sendData_kept]; done)
    | dsimp only
    | (split <;> rename_i heq <;> replace heq := congrArg Prod.snd heq <;> dsimp only at heq <;> subst heq)
    | split

theorem execRingSendPacket_kept {r0 : State} (s : State) (hk : Kept r0 s) : KeptO r0 (execRingSendPacket s) := by
  unfold execRingSendPacket
  repeat' first
    | (simp (maxDischargeDepth := 200) only [hk, keptO_next, State.markSent_kept, State.readPacket_kept, State.sendData_kept, State.sendReplay_kept, State.serveResend_kept, State.settleLosses_kept]; done)
    | dsimp only
    | (split <;> rename_i heq <;> replace heq := congrArg Prod.snd heq <;> dsimp only at heq <;> subst heq)
    | split

theorem State.stampFrame_kept {r0 : State} (s : State) (p : Nat) (f : Frame) (hk : Kept r0 s) : Kept r0 (State.stampFrame s p f).2 := by
  unfold State.stampFrame
  repeat' first
    | (simp only [hk, kept_ite, kept_ite_snd, State.setTimePort_kept]; done)
    | dsimp only
    | split

theorem execBeaconRx_kept {r0 : State} (p : Fin 2) (f : Frame) (s : State) (hk : Kept r0 s) : KeptO r0 (execBeaconRx p f s) := by
  unfold execBeaconRx
  repeat' first
    | (simp (maxDischargeDepth := 200) only [hk, keptO_next, State.onBeacon_kept, State.receive_kept]; done)
    | (split <;> rename_i heq <;> replace heq := congrArg Prod.snd heq <;> dsimp only at heq <;> subst heq)
    | split

theorem execLinkNoticeRx_kept {r0 : State} (p : Fin 2) (f : Frame) (s : State) (hk : Kept r0 s) : KeptO r0 (execLinkNoticeRx p f s) := by
  unfold execLinkNoticeRx
  repeat' first
    | (simp (maxDischargeDepth := 200) only [hk, keptO_next, State.onNotice_kept, State.receive_kept]; done)
    | (split <;> rename_i heq <;> replace heq := congrArg Prod.snd heq <;> dsimp only at heq <;> subst heq)
    | split

theorem execLinkKillRx_kept {r0 : State} (p : Fin 2) (f : Frame) (s : State) (hk : Kept r0 s) : KeptO r0 (execLinkKillRx p f s) := by
  unfold execLinkKillRx
  repeat' first
    | (simp (maxDischargeDepth := 200) only [hk, keptO_next, State.linkFail_kept, State.receive_kept]; done)
    | (split <;> rename_i heq <;> replace heq := congrArg Prod.snd heq <;> dsimp only at heq <;> subst heq)
    | split

theorem execPauseRx_kept {r0 : State} (p : Fin 2) (f : Frame) (s : State) (hk : Kept r0 s) : KeptO r0 (execPauseRx p f s) := by
  unfold execPauseRx
  repeat' first
    | (simp (maxDischargeDepth := 200) only [hk, keptO_next, State.onPause_kept, State.receive_kept]; done)
    | (split <;> rename_i heq <;> replace heq := congrArg Prod.snd heq <;> dsimp only at heq <;> subst heq)
    | split

theorem execAckRx_kept {r0 : State} (p : Fin 2) (f : Frame) (s : State) (hk : Kept r0 s) : KeptO r0 (execAckRx p f s) := by
  unfold execAckRx
  repeat' first
    | (simp (maxDischargeDepth := 200) only [hk, keptO_next, State.onAck_kept, State.receive_kept]; done)
    | (split <;> rename_i heq <;> replace heq := congrArg Prod.snd heq <;> dsimp only at heq <;> subst heq)
    | split

theorem execResendRx_kept {r0 : State} (p : Fin 2) (f : Frame) (s : State) (hk : Kept r0 s) : KeptO r0 (execResendRx p f s) := by
  unfold execResendRx
  repeat' first
    | (simp (maxDischargeDepth := 200) only [hk, keptO_next, State.onResend_kept, State.receive_kept]; done)
    | (split <;> rename_i heq <;> replace heq := congrArg Prod.snd heq <;> dsimp only at heq <;> subst heq)
    | split

theorem execRlCauseClear_kept {r0 : State} (w : Who) (mask : Nat) (s : State) (hk : Kept r0 s) : KeptO r0 (execRlCauseClear w mask s) := by
  unfold execRlCauseClear
  simp +decide only [hk, keptO_next, clearCommand_kept]

/-! ### Machine/Lanes -/

theorem State.lnCause_kept {r0 : State} (s : State) (p : Nat) (b : Nat) (hk : Kept r0 s) : Kept r0 (State.lnCause s p b) := by
  unfold State.lnCause
  simp +decide only [hk, State.portCause_kept]

theorem State.setTraffic_kept {r0 : State} (s : State) (p : Nat) (mask : Nat) (hk : Kept r0 s) : Kept r0 (State.setTraffic s p mask) := by
  unfold State.setTraffic
  simp (maxDischargeDepth := 200) +decide only [hk, kept_put, kept_ite, Obj.legal_of_free, State.disqualify_kept, State.setLink_kept]

theorem State.setPort_kept {r0 : State} (s : State) (p : Nat) (st : Int) (ho : Obj.legal .PORT_STATE st = true) (hk : Kept r0 s) : Kept r0 (State.setPort s p st) := by
  unfold State.setPort
  simp (maxDischargeDepth := 200) +decide only [ho, hk, kept_put, kept_ite, Obj.legal_of_free, State.disqualify_kept, State.linkFollows_kept]

theorem State.setLane'_kept {r0 : State} (s : State) (l : Nat) (st : Int) (ho : Obj.legal .LANE_STATE st = true) (hk : Kept r0 s) : Kept r0 (State.setLane' s l st) := by
  unfold State.setLane'
  simp (maxDischargeDepth := 200) +decide only [ho, hk, kept_put, Obj.legal_of_free, State.setSerLane_kept]

theorem State.abandon_kept {r0 : State} (s : State) (p : Nat) (hk : Kept r0 s) : Kept r0 (State.abandon s p) := by
  unfold State.abandon
  simp (maxDischargeDepth := 200) +contextual only [hk, kept_ite, kept_foldl, implies_true, State.forwardStomped_kept, State.setLink_kept]

theorem State.enterDetect_kept {r0 : State} (s : State) (l : Nat) (hk : Kept r0 s) : Kept r0 (State.enterDetect s l) := by
  unfold State.enterDetect
  simp (maxDischargeDepth := 200) +decide only [hk, State.abandon_kept, State.setLane'_kept, State.setSerLane_kept]

theorem State.portFault_kept {r0 : State} (s : State) (p : Nat) (code : Int) (hk : Kept r0 s) : Kept r0 (State.portFault s p code) := by
  unfold State.portFault
  simp (maxDischargeDepth := 200) +decide only [hk, kept_put, Obj.legal_of_free, State.lnCause_kept, State.setLink_kept, State.setPort_kept, State.setTraffic_kept]

theorem State.laneOff_kept {r0 : State} (s : State) (l : Nat) (hk : Kept r0 s) : Kept r0 (State.laneOff s l) := by
  unfold State.laneOff
  simp (maxDischargeDepth := 200) +decide only [hk, State.enterDetect_kept, State.setLane'_kept, State.setSerLane_kept]

theorem State.startTraining_kept {r0 : State} (s : State) (p : Nat) (hk : Kept r0 s) : Kept r0 (State.startTraining s p) := by
  unfold State.startTraining
  simp +decide only [hk, State.setLink_kept, State.setPort_kept]

theorem State.testOver_kept {r0 : State} (s : State) (p : Nat) (hk : Kept r0 s) : Kept r0 (State.testOver s p) := by
  unfold State.testOver
  simp only [hk, kept_ite, State.startTraining_kept]

theorem State.laneOn_kept {r0 : State} (s : State) (l : Nat) (hk : Kept r0 s) : Kept r0 (State.laneOn s l) := by
  unfold State.laneOn
  simp (maxDischargeDepth := 200) +decide only [hk, kept_ite, State.enterDetect_kept, State.setPort_kept]

theorem State.portAllOff_kept {r0 : State} (s : State) (p : Nat) (hk : Kept r0 s) : Kept r0 (State.portAllOff s p) := by
  unfold State.portAllOff
  simp (maxDischargeDepth := 200) +decide only [hk, kept_ite, State.lnCause_kept, State.setLink_kept, State.setPort_kept, State.setTraffic_kept]

theorem execRingclkLost_kept {r0 : State} (s : State) (hk : Kept r0 s) : KeptO r0 (execRingclkLost s) := by
  unfold execRingclkLost
  simp (maxDischargeDepth := 200) +contextual +decide only [hk, kept_put, keptO_next, keptO_ite, kept_foldl, Obj.legal_of_free, implies_true, State.cause_kept, State.laneOff_kept, State.portAllOff_kept]

theorem execRingclkRestored_kept {r0 : State} (ppm : Int) (s : State) (hk : Kept r0 s) : KeptO r0 (execRingclkRestored ppm s) := by
  unfold execRingclkRestored
  simp (maxDischargeDepth := 200) +contextual +decide only [hk, kept_put, keptO_next, keptO_ite, kept_foldl, Obj.legal_of_free, implies_true, State.laneOn_kept]

theorem State.degrade_kept {r0 : State} (s : State) (l : Nat) (hk : Kept r0 s) : Kept r0 (State.degrade s l) := by
  unfold State.degrade
  simp (maxDischargeDepth := 200) +decide only [hk, State.bump_kept, State.lnCause_kept, State.setPort_kept, State.setSerLane_kept, State.setTraffic_kept]

theorem State.portLosesLane_kept {r0 : State} (s : State) (l : Nat) (hk : Kept r0 s) : Kept r0 (State.portLosesLane s l) := by
  unfold State.portLosesLane
  simp (maxDischargeDepth := 200) +decide only [hk, kept_ite, State.degrade_kept, State.lnCause_kept, State.setLink_kept, State.setPort_kept, State.setTraffic_kept]

theorem State.applyLaneEnable_kept {r0 : State} (s : State) (hk : Kept r0 s) : Kept r0 (State.applyLaneEnable s) := by
  unfold State.applyLaneEnable
  simp (maxDischargeDepth := 200) +contextual only [hk, kept_ite, kept_foldl, implies_true, State.laneOff_kept, State.laneOn_kept, State.portAllOff_kept, State.portLosesLane_kept, State.setSerLane_kept, State.testOver_kept]

theorem execTxPllLocked_kept {r0 : State} (l : Fin 5) (s : State) (hk : Kept r0 s) : KeptO r0 (execTxPllLocked l s) := by
  unfold execTxPllLocked
  simp (maxDischargeDepth := 200) only [hk, keptO_next, keptO_ite, State.setSerLane_kept]

theorem State.portTrains_kept {r0 : State} (s : State) (p : Nat) (hk : Kept r0 s) : Kept r0 (State.portTrains s p) := by
  unfold State.portTrains
  simp +decide only [hk, kept_ite, State.setPort_kept]

theorem State.signalSeen_kept {r0 : State} (s : State) (l : Nat) (hk : Kept r0 s) : Kept r0 (State.signalSeen s l) := by
  unfold State.signalSeen
  simp (maxDischargeDepth := 200) +decide only [hk, State.portTrains_kept, State.setLane'_kept, State.setSerLane_kept]

theorem State.wakePort_kept {r0 : State} (s : State) (p : Nat) (hk : Kept r0 s) : Kept r0 (State.wakePort s p) := by
  unfold State.wakePort
  simp (maxDischargeDepth := 200) +contextual +decide only [hk, kept_ite, kept_foldl, Obj.legal_ite, implies_true, State.enterDetect_kept, State.lnCause_kept, State.setLane'_kept, State.setLink_kept, State.setPort_kept, State.setSerLane_kept, State.setTraffic_kept]

theorem execSignalDetected_kept {r0 : State} (l : Fin 5) (s : State) (hk : Kept r0 s) : KeptO r0 (execSignalDetected l s) := by
  unfold execSignalDetected
  simp (maxDischargeDepth := 200) only [hk, keptO_next, keptO_ite, State.signalSeen_kept, State.wakePort_kept]

theorem execCdrLocked_kept {r0 : State} (l : Fin 5) (s : State) (hk : Kept r0 s) : KeptO r0 (execCdrLocked l s) := by
  unfold execCdrLocked
  simp (maxDischargeDepth := 200) +decide only [hk, keptO_next, keptO_ite, State.setLane'_kept]

theorem execCdrLockTimeout_kept {r0 : State} (l : Fin 5) (s : State) (hk : Kept r0 s) : KeptO r0 (execCdrLockTimeout l s) := by
  unfold execCdrLockTimeout
  simp (maxDischargeDepth := 200) +decide only [hk, keptO_next, keptO_ite, State.bump_kept, State.enterDetect_kept]

theorem State.noteTrain_kept {r0 : State} (s : State) (l : Nat) (w0 : Nat) (w1 : Nat) (w2 : Nat) (hk : Kept r0 s) : Kept r0 (State.noteTrain s l w0 w1 w2) := by
  unfold State.noteTrain
  simp (maxDischargeDepth := 200) +decide only [hk, kept_put, kept_ite, Obj.legal_of_free, State.linkMisfit_kept, State.setLink_kept, State.setSerLane_kept]

theorem State.judgeLanes_kept {r0 : State} (s : State) (p : Nat) (hk : Kept r0 s) : Kept r0 (State.judgeLanes s p) := by
  unfold State.judgeLanes
  repeat' first
    | (simp (maxDischargeDepth := 200) +decide only [hk, kept_put, kept_ite, Obj.legal_of_free, State.lnCause_kept, State.portFault_kept]; done)
    | split

theorem execAlignmentFound_kept {r0 : State} (l : Fin 5) (inverted : Bool) (bsn : Nat) (w0 : Nat) (w1 : Nat) (w2 : Nat) (s : State) (hk : Kept r0 s) : KeptO r0 (execAlignmentFound l inverted bsn w0 w1 w2 s) := by
  unfold execAlignmentFound
  simp (maxDischargeDepth := 200) +decide only [hk, kept_put, kept_ite, keptO_next, keptO_ite, Obj.legal_of_free, State.judgeLanes_kept, State.lnCause_kept, State.noteTrain_kept, State.portFault_kept, State.setLane'_kept, State.setSerLane_kept]

theorem execAdaptationDone_kept {r0 : State} (l : Fin 5) (ctle : Nat) (dfe : List Byte) (s : State) (hk : Kept r0 s) : KeptO r0 (execAdaptationDone l ctle dfe s) := by
  unfold execAdaptationDone
  simp (maxDischargeDepth := 200) +decide only [hk, kept_put, kept_putBytes, keptO_next, keptO_ite, Obj.legal_of_free, State.setSerLane_kept]

theorem State.portGains_kept {r0 : State} (s : State) (p : Nat) (l : Nat) (skew : Nat) (hk : Kept r0 s) : Kept r0 (State.portGains s p l skew) := by
  unfold State.portGains
  simp (maxDischargeDepth := 200) +decide only [hk, kept_put, kept_ite, Obj.legal_of_free, State.lnCause_kept, State.portFault_kept, State.setLink_kept, State.setPort_kept, State.setTraffic_kept]

theorem execLaneActive_kept {r0 : State} (l : Fin 5) (skew : Nat) (s : State) (hk : Kept r0 s) : KeptO r0 (execLaneActive l skew s) := by
  unfold execLaneActive
  simp (maxDischargeDepth := 200) +decide only [hk, kept_put, keptO_next, keptO_ite, Obj.legal_of_free, State.lnCause_kept, State.portGains_kept, State.setLane'_kept, State.setSerLane_kept]

theorem execBringupLimitExpiry_kept {r0 : State} (l : Fin 5) (s : State) (hk : Kept r0 s) : KeptO r0 (execBringupLimitExpiry l s) := by
  unfold execBringupLimitExpiry
  simp (maxDischargeDepth := 200) +decide only [hk, keptO_next, keptO_ite, State.bump_kept, State.enterDetect_kept, State.lnCause_kept]

theorem execPortWaitExpiry_kept {r0 : State} (p : Fin 2) (s : State) (hk : Kept r0 s) : KeptO r0 (execPortWaitExpiry p s) := by
  unfold execPortWaitExpiry
  repeat' first
    | (simp (maxDischargeDepth := 200) +decide only [hk, keptO_next, State.lnCause_kept, State.setLink_kept, State.setPort_kept, State.setTraffic_kept]; done)
    | split

theorem execPortFaultRetry_kept {r0 : State} (p : Fin 3) (s : State) (hk : Kept r0 s) : KeptO r0 (execPortFaultRetry p s) := by
  unfold execPortFaultRetry
  simp (maxDischargeDepth := 200) +contextual +decide only [hk, kept_put, kept_ite, keptO_next, keptO_ite, kept_foldl, Obj.legal_of_free, implies_true, State.enterDetect_kept, State.setPort_kept]

theorem execLaneLost_kept {r0 : State} (l : Fin 5) (analogue : Bool) (s : State) (hk : Kept r0 s) : KeptO r0 (execLaneLost l analogue s) := by
  unfold execLaneLost
  simp (maxDischargeDepth := 200) +decide only [hk, keptO_next, keptO_ite, State.bump_kept, State.enterDetect_kept, State.lnCause_kept, State.portLosesLane_kept]

theorem execLaneDropRx_kept {r0 : State} (p : Fin 2) (lane : Fin 2) (s : State) (hk : Kept r0 s) : KeptO r0 (execLaneDropRx p lane s) := by
  unfold execLaneDropRx
  simp (maxDischargeDepth := 200) only [hk, keptO_next, keptO_ite, State.degrade_kept, State.enterDetect_kept]

theorem State.restore_kept {r0 : State} (s : State) (p : Nat) (lane : Nat) (at_ : Nat) (hk : Kept r0 s) : Kept r0 (State.restore s p lane at_) := by
  unfold State.restore
  simp (maxDischargeDepth := 200) +decide only [hk, State.lnCause_kept, State.setLink_kept, State.setPort_kept, State.setSerLane_kept, State.setTraffic_kept]

theorem State.sendControl_kept {r0 : State} (s : State) (p : Nat) (word : Nat) (hk : Kept r0 s) : Kept r0 (State.sendControl s p word) := by
  unfold State.sendControl
  simp (maxDischargeDepth := 200) +contextual only [hk, kept_ite, kept_foldl, implies_true, State.setSerLane_kept]

theorem execLaneAddSend_kept {r0 : State} (p : Fin 2) (s : State) (hk : Kept r0 s) : KeptO r0 (execLaneAddSend p s) := by
  unfold execLaneAddSend
  repeat' first
    | (simp (maxDischargeDepth := 200) only [hk, keptO_next, State.sendControl_kept, State.setLink_kept]; done)
    | split

theorem execLaneAddRx_kept {r0 : State} (p : Fin 2) (lane : Fin 2) (bsnAt : Nat) (s : State) (hk : Kept r0 s) : KeptO r0 (execLaneAddRx p lane bsnAt s) := by
  unfold execLaneAddRx
  repeat' first
    | (simp (maxDischargeDepth := 200) only [hk, keptO_next, keptO_ite, State.restore_kept, State.sendControl_kept]; done)
    | split

theorem execLaneAddAckRx_kept {r0 : State} (p : Fin 2) (lane : Fin 2) (bsnAt : Nat) (s : State) (hk : Kept r0 s) : KeptO r0 (execLaneAddAckRx p lane bsnAt s) := by
  unfold execLaneAddAckRx
  repeat' first
    | (simp only [hk, keptO_next, State.restore_kept]; done)
    | split

theorem legal_quiet_lane (kind : Nat) (h : kind ≤ 2) : Obj.legal .LANE_STATE (5 + (kind : Int)) = true := by
  simp only [Obj.legal, Obj.greatestCode, Bool.and_eq_true, decide_eq_true_eq]
  omega

theorem legal_quiet_port (kind : Nat) (h : kind ≤ 2) : Obj.legal .PORT_STATE (3 + (kind : Int)) = true := by
  simp only [Obj.legal, Obj.greatestCode, Bool.and_eq_true, decide_eq_true_eq]
  omega

theorem State.goQuiet_kept {r0 : State} (s : State) (p : Nat) (kind : Nat) (word : Nat) (ho : kind ≤ 2) (hk : Kept r0 s) : Kept r0 (State.goQuiet s p kind word) := by
  unfold State.goQuiet
  simp (maxDischargeDepth := 200) +contextual only [ho, legal_quiet_lane, legal_quiet_port, hk, kept_ite, kept_foldl, implies_true, State.lnCause_kept, State.setLane'_kept, State.setLink_kept, State.setPort_kept]

theorem State.requestQuiet_kept {r0 : State} (s : State) (p : Nat) (kind : Nat) (hk : Kept r0 s) : Kept r0 (State.requestQuiet s p kind) := by
  unfold State.requestQuiet
  simp only [hk, kept_ite, State.setLink_kept]

theorem State.askQuiet_kept {r0 : State} (s : State) (p : Nat) (kind : Nat) (hk : Kept r0 s) : Kept r0 (State.askQuiet s p kind) := by
  unfold State.askQuiet
  simp (maxDischargeDepth := 200) +decide only [hk, kept_put, Obj.legal_of_free, State.requestQuiet_kept]

theorem execPortHushRequest_kept {r0 : State} (w : Who) (p : Fin 3) (s : State) (hk : Kept r0 s) : KeptO r0 (execPortHushRequest w p s) := by
  unfold execPortHushRequest
  simp (maxDischargeDepth := 200) +contextual only [hk, keptO_next, implies_true, State.abortItems_kept, State.askQuiet_kept, asWrite_kept]

theorem execPortRestRequest_kept {r0 : State} (w : Who) (p : Fin 3) (s : State) (hk : Kept r0 s) : KeptO r0 (execPortRestRequest w p s) := by
  unfold execPortRestRequest
  simp (maxDischargeDepth := 200) +contextual only [hk, keptO_next, implies_true, State.abortItems_kept, State.askQuiet_kept, asWrite_kept]

theorem execPortActiveRequest_kept {r0 : State} (w : Who) (p : Fin 3) (s : State) (hk : Kept r0 s) : KeptO r0 (execPortActiveRequest w p s) := by
  unfold execPortActiveRequest
  simp (maxDischargeDepth := 200) +contextual +decide only [hk, kept_put, keptO_next, Obj.legal_of_free, implies_true, State.abortItems_kept, State.setLink_kept, State.wakePort_kept, asWrite_kept]

theorem execHushAckTimeout_kept {r0 : State} (p : Fin 3) (s : State) (hk : Kept r0 s) : KeptO r0 (execHushAckTimeout p s) := by
  unfold execHushAckTimeout
  simp (maxDischargeDepth := 200) only [hk, keptO_next, keptO_ite, State.lnCause_kept, State.setLink_kept]

theorem State.onQuietReq_kept {r0 : State} (s : State) (p : Nat) (kind : Nat) (ho : kind ≤ 2) (hk : Kept r0 s) : Kept r0 (State.onQuietReq s p kind) := by
  unfold State.onQuietReq
  simp (maxDischargeDepth := 200) only [ho, hk, kept_ite, State.goQuiet_kept]

theorem execHushReqRx_kept {r0 : State} (p : Fin 3) (s : State) (hk : Kept r0 s) : KeptO r0 (execHushReqRx p s) := by
  unfold execHushReqRx
  simp +decide only [hk, keptO_next, State.onQuietReq_kept]

theorem execRestReqRx_kept {r0 : State} (p : Fin 3) (s : State) (hk : Kept r0 s) : KeptO r0 (execRestReqRx p s) := by
  unfold execRestReqRx
  simp +decide only [hk, keptO_next, State.onQuietReq_kept]

theorem State.onQuietAck_kept {r0 : State} (s : State) (p : Nat) (kind : Nat) (ho : kind ≤ 2) (hk : Kept r0 s) : Kept r0 (State.onQuietAck s p kind) := by
  unfold State.onQuietAck
  simp only [ho, hk, kept_ite, State.goQuiet_kept]

theorem execHushAckRx_kept {r0 : State} (p : Fin 3) (s : State) (hk : Kept r0 s) : KeptO r0 (execHushAckRx p s) := by
  unfold execHushAckRx
  simp +decide only [hk, keptO_next, State.onQuietAck_kept]

theorem execRestAckRx_kept {r0 : State} (p : Fin 3) (s : State) (hk : Kept r0 s) : KeptO r0 (execRestAckRx p s) := by
  unfold execRestAckRx
  simp +decide only [hk, keptO_next, State.onQuietAck_kept]

theorem execLaneTestEnter_kept {r0 : State} (w : Who) (l : Fin 5) (s : State) (hk : Kept r0 s) : KeptO r0 (execLaneTestEnter w l s) := by
  unfold execLaneTestEnter
  simp (maxDischargeDepth := 200) +contextual +decide only [hk, kept_put, kept_ite_snd, keptO_next, Obj.legal_of_free, implies_true, State.enterDetect_kept, State.setLane'_kept, State.setLink_kept, State.setPort_kept, State.setSerLane_kept, State.setTraffic_kept, asCommand_kept]

theorem execLaneTestLeave_kept {r0 : State} (w : Who) (l : Fin 5) (s : State) (hk : Kept r0 s) : KeptO r0 (execLaneTestLeave w l s) := by
  unfold execLaneTestLeave
  simp (maxDischargeDepth := 200) +contextual only [hk, kept_ite_snd, keptO_next, implies_true, State.enterDetect_kept, State.testOver_kept, asCommand_kept]

theorem State.inject_kept {r0 : State} (s : State) (l : Nat) (kind : Nat) (n : Nat) (hk : Kept r0 s) : Kept r0 (State.inject s l kind n).2 := by
  unfold State.inject
  simp (maxDischargeDepth := 200) only [hk, kept_ite_snd, State.setSerLane_kept]

theorem execInjectLineBit_kept {r0 : State} (w : Who) (l : Fin 5) (n : Nat) (s : State) (hk : Kept r0 s) : KeptO r0 (execInjectLineBit w l n s) := by
  unfold execInjectLineBit
  simp (maxDischargeDepth := 200) +contextual only [hk, keptO_next, implies_true, State.inject_kept, asCommand_kept]

theorem execInjectHeaderBit_kept {r0 : State} (w : Who) (l : Fin 5) (n : Nat) (s : State) (hk : Kept r0 s) : KeptO r0 (execInjectHeaderBit w l n s) := by
  unfold execInjectHeaderBit
  simp (maxDischargeDepth := 200) +contextual only [hk, keptO_next, implies_true, State.inject_kept, asCommand_kept]

theorem execInjectStuff_kept {r0 : State} (w : Who) (l : Fin 5) (n : Nat) (s : State) (hk : Kept r0 s) : KeptO r0 (execInjectStuff w l n s) := by
  unfold execInjectStuff
  simp (maxDischargeDepth := 200) +contextual only [hk, keptO_next, implies_true, State.inject_kept, asCommand_kept]

theorem execInjectPayloadBit_kept {r0 : State} (w : Who) (l : Fin 5) (n : Nat) (s : State) (hk : Kept r0 s) : KeptO r0 (execInjectPayloadBit w l n s) := by
  unfold execInjectPayloadBit
  simp (maxDischargeDepth := 200) +contextual only [hk, keptO_next, implies_true, State.inject_kept, asCommand_kept]

theorem execLnCauseClear_kept {r0 : State} (w : Who) (mask : Nat) (s : State) (hk : Kept r0 s) : KeptO r0 (execLnCauseClear w mask s) := by
  unfold execLnCauseClear
  simp +decide only [hk, keptO_next, clearCommand_kept]

theorem State.fillBlock_kept {r0 : State} (p stream : Nat) (held : Bool) (n fs : Nat) (ws : List Nat) (tx : List (Nat × Frame))
    (s : State) (hk : Kept r0 s) : Kept r0 (State.fillBlock p stream held n fs ws tx s).2.2.2 := by
  induction n generalizing fs ws tx s with
  | zero => exact hk
  | succ n ih =>
    unfold State.fillBlock
    split
    · exact hk
    · split
      · exact hk
      · rename_i f rest e
        have h := State.stampFrame_kept s p f hk
        generalize s.stampFrame p f = q at h ⊢
        obtain ⟨g, t⟩ := q
        have h2 := add64_kept _ .FRAMES_TX p 1 rfl (emit_kept _ (.frame p g) h)
        exact ih _ _ _ _ (kept_ite (add64_kept _ .FRAMES_FORWARDED p 1 rfl h2) h2)

theorem State.nextData_kept {r0 : State} (s : State) (p lane : Nat) (hk : Kept r0 s) :
    Kept r0 (State.nextData s p lane).2 := by
  unfold State.nextData
  dsimp only
  split
  · exact hk
  · refine kept_ite (State.resumeWhenLow_kept _ _ (State.setLink_kept _ _ _ ?_)) (State.setLink_kept _ _ _ ?_) <;>
      exact State.fillBlock_kept _ _ _ _ _ _ _ _ hk

theorem State.injected_kept {r0 : State} (s : State) (l : Nat) (hk : Kept r0 s) : Kept r0 (State.injected s l) := by
  unfold State.injected
  simp +decide only [hk, State.bump_kept, State.setSerLane_kept]

theorem State.lineBits_kept {r0 : State} (s : State) (l : Nat) (r : Nat) (bits : List Bool) (used : Bool) (hk : Kept r0 s) : Kept r0 (State.lineBits s l r bits used).2 := by
  unfold State.lineBits
  simp (maxDischargeDepth := 200) only [hk, kept_ite, State.injected_kept, State.setSerLane_kept]

theorem State.emitLine_kept {r0 : State} (s : State) (l : Nat) (out : List Bool) (hk : Kept r0 s) : Kept r0 (State.emitLine s l out) := by
  unfold State.emitLine
  simp only [hk, State.emit_kept]

theorem State.sendBlock_kept {r0 : State} (s : State) (l : Nat) (header : Nat) (payload : Nat) (isData : Bool) (hk : Kept r0 s) : Kept r0 (State.sendBlock s l header payload isData) := by
  unfold State.sendBlock
  simp (maxDischargeDepth := 200) only [hk, State.draw_kept, State.emitLine_kept, State.lineBits_kept]

theorem State.patternBit_kept {r0 : State} (s : State) (l : Nat) (bad : Bool) (hk : Kept r0 s) : Kept r0 (State.patternBit s l bad) := by
  unfold State.patternBit
  simp (maxDischargeDepth := 200) +decide only [hk, kept_put, kept_ite, Obj.legal_of_free, State.add64_kept, State.lnCause_kept, State.setSerLane_kept]

theorem State.patternIn_kept {r0 : State} (s : State) (l : Nat) (b : Bool) (hk : Kept r0 s) : Kept r0 (State.patternIn s l b) := by
  unfold State.patternIn
  simp only [hk, State.patternBit_kept, State.setSerLane_kept]

theorem State.sendPattern_kept {r0 : State} (s : State) (l : Nat) (mode : Int) (hk : Kept r0 s) : Kept r0 (State.sendPattern s l mode) := by
  unfold State.sendPattern
  simp (maxDischargeDepth := 200) +contextual +decide only [hk, kept_ite, kept_foldl, implies_true, State.add32_kept, State.add64_kept, State.draw_kept, State.emitLine_kept, State.lineBits_kept, State.patternIn_kept, State.setSerLane_kept]

theorem State.sendScrambled_kept {r0 : State} (s : State) (l : Nat) (btype : Nat) (bsn : Nat) (payload : Nat) (hk : Kept r0 s) : Kept r0 (State.sendScrambled s l btype bsn payload) := by
  unfold State.sendScrambled
  simp only [hk, State.sendBlock_kept]

theorem State.sendCommand_kept {r0 : State} (s : State) (l : Nat) (bsn : Nat) (word : Nat) (hk : Kept r0 s) : Kept r0 (State.sendCommand s l bsn word) := by
  unfold State.sendCommand
  simp only [hk, State.sendScrambled_kept, State.setSerLane_kept]

theorem State.sendIdle_kept {r0 : State} (s : State) (l : Nat) (bsn : Nat) (hk : Kept r0 s) : Kept r0 (State.sendIdle s l bsn) := by
  unfold State.sendIdle
  simp only [hk, State.sendScrambled_kept, State.setSerLane_kept]

theorem State.sendLive_kept {r0 : State} (s : State) (p : Nat) (l : Nat) (bsn : Nat) (hk : Kept r0 s) : Kept r0 (State.sendLive s p l bsn) := by
  unfold State.sendLive
  repeat' first
    | (simp (maxDischargeDepth := 200) only [hk, State.nextData_kept, State.sendCommand_kept, State.sendIdle_kept, State.sendScrambled_kept, State.setSerLane_kept]; done)
    | dsimp only
    | (split <;> rename_i heq <;> replace heq := congrArg Prod.snd heq <;> dsimp only at heq <;> subst heq)
    | split

theorem State.sendTrain_kept {r0 : State} (s : State) (l : Nat) (bsn : Nat) (hk : Kept r0 s) : Kept r0 (State.sendTrain s l bsn) := by
  unfold State.sendTrain
  simp only [hk, State.sendBlock_kept]

theorem State.sendLane_kept {r0 : State} (s : State) (p : Nat) (l : Nat) (bsn : Nat) (hk : Kept r0 s) : Kept r0 (State.sendLane s p l bsn) := by
  unfold State.sendLane
  repeat' first
    | (simp only [hk, kept_ite, State.sendCommand_kept, State.sendLive_kept, State.sendPattern_kept, State.sendTrain_kept, State.setSerLane_kept]; done)
    | dsimp only
    | split

theorem State.keepKill_kept {r0 : State} (s : State) (p : Nat) (hk : Kept r0 s) : Kept r0 (State.keepKill s p) := by
  unfold State.keepKill
  simp only [hk, State.setLink_kept]

theorem State.sealOff_kept {r0 : State} (s : State) (p : Nat) (hk : Kept r0 s) : Kept r0 (State.sealOff s p) := by
  unfold State.sealOff
  simp (maxDischargeDepth := 200) +contextual only [hk, kept_ite, kept_foldl, implies_true, State.laneOff_kept, State.portAllOff_kept]

theorem execTransmitBlock_kept {r0 : State} (p : Fin 3) (s : State) (hk : Kept r0 s) : KeptO r0 (execTransmitBlock p s) := by
  unfold execTransmitBlock
  simp (maxDischargeDepth := 200) +contextual only [hk, keptO_next, kept_foldl, implies_true, State.sealOff_kept, State.sendLane_kept, State.setLink_kept]

theorem State.noteBad_kept {r0 : State} (s : State) (p : Nat) (n : Nat) (hk : Kept r0 s) : Kept r0 (State.noteBad s p n) := by
  unfold State.noteBad
  simp only [hk, State.setLink_kept]

theorem State.judgeErrors_kept {r0 : State} (s : State) (p : Nat) (hk : Kept r0 s) : Kept r0 (State.judgeErrors s p) := by
  unfold State.judgeErrors
  simp only [hk, kept_ite, State.linkFail_kept]

theorem State.takeWords_kept {r0 : State} (s : State) (p : Nat) (stream : Nat) (fstart : Nat) (ws : List Nat) (hk : Kept r0 s) : Kept r0 (State.takeWords s p stream fstart ws) := by
  unfold State.takeWords
  simp (maxDischargeDepth := 200) +decide only [hk, kept_ite, State.bump_kept, State.rlCause_kept, State.setLink_kept]

theorem State.takeData_kept {r0 : State} (s : State) (p : Nat) (header : Nat) (payload : Nat) (hk : Kept r0 s) : Kept r0 (State.takeData s p header payload) := by
  unfold State.takeData
  simp (maxDischargeDepth := 200) +decide only [hk, kept_ite, State.abandon_kept, State.add64_kept, State.judgeErrors_kept, State.noteBad_kept, State.takeWords_kept]

theorem State.takeBlock_kept {r0 : State} (s : State) (l : Nat) (header : Nat) (payload : Nat) (hk : Kept r0 s) : Kept r0 (State.takeBlock s l header payload) := by
  unfold State.takeBlock
  repeat' first
    | (simp (maxDischargeDepth := 200) +decide only [hk, kept_put, kept_ite, Obj.legal_of_free, State.abortItems_kept, State.noteTrain_kept, State.setSerLane_kept, State.takeData_kept, State.wakePort_kept]; done)
    | split

theorem State.countPeriod_kept {r0 : State} (s : State) (p : Nat) (l : Nat) (hk : Kept r0 s) : Kept r0 (State.countPeriod s p l) := by
  unfold State.countPeriod
  simp only [hk, kept_ite, State.setLink_kept]

theorem State.checkBlock_kept {r0 : State} (s : State) (l : Nat) (header : Nat) (payload : Nat) (hk : Kept r0 s) : Kept r0 (State.checkBlock s l header payload) := by
  unfold State.checkBlock
  simp (maxDischargeDepth := 200) +decide only [hk, kept_ite, State.abandon_kept, State.bump_kept, State.countPeriod_kept, State.judgeErrors_kept, State.linkRecovers_kept, State.noteBad_kept, State.setSerLane_kept, State.takeBlock_kept]

theorem execBlockReceived_kept {r0 : State} (l : Fin 5) (header : Nat) (payload : Nat) (stuffs : Nat) (viols : Nat) (errs : Nat) (s : State) (hk : Kept r0 s) : KeptO r0 (execBlockReceived l header payload stuffs viols errs s) := by
  unfold execBlockReceived
  simp (maxDischargeDepth := 200) +contextual +decide only [hk, keptO_next, keptO_ite, kept_foldl, implies_true, State.add32_kept, State.add64_kept, State.checkBlock_kept, State.draw_kept, State.emitLine_kept, State.lineBits_kept, State.patternIn_kept]

/-! ### Machine/RingTime -/

theorem State.sendTime_kept {r0 : State} (s : State) (p : Nat) (payload : List Byte) (hk : Kept r0 s) : Kept r0 (State.sendTime s p payload) := by
  unfold State.sendTime
  simp only [hk, State.newFrame_kept, State.sendFrame_kept]

theorem execDreqSend_kept {r0 : State} (p : Fin 3) (s : State) (hk : Kept r0 s) : KeptO r0 (execDreqSend p s) := by
  unfold execDreqSend
  simp (maxDischargeDepth := 200) +decide only [hk, kept_ite, keptO_next, keptO_ite, State.bump_kept, State.sendTime_kept, State.setTimePort_kept]

theorem execDreqRx_kept {r0 : State} (p : Fin 3) (f : Frame) (t : Int) (s : State) (hk : Kept r0 s) : KeptO r0 (execDreqRx p f t s) := by
  unfold execDreqRx
  repeat' first
    | (simp (maxDischargeDepth := 200) only [hk, keptO_next, State.receive_kept, State.sendTime_kept]; done)
    | (split <;> rename_i heq <;> replace heq := congrArg Prod.snd heq <;> dsimp only at heq <;> subst heq)
    | split

theorem State.takeDelay_kept {r0 : State} (s : State) (p : Nat) (m : Int) (hk : Kept r0 s) : Kept r0 (State.takeDelay s p m) := by
  unfold State.takeDelay
  simp (maxDischargeDepth := 200) +decide only [hk, kept_put, kept_ite, Obj.legal_of_free, State.bump_kept, State.raise_kept, State.setTimePort_kept]

theorem execDrespRx_kept {r0 : State} (p : Fin 3) (f : Frame) (t4 : Int) (s : State) (hk : Kept r0 s) : KeptO r0 (execDrespRx p f t4 s) := by
  unfold execDrespRx
  repeat' first
    | (simp (maxDischargeDepth := 200) +decide only [hk, keptO_next, keptO_ite, State.bump_kept, State.receive_kept, State.setTimePort_kept, State.takeDelay_kept]; done)
    | dsimp only
    | (split <;> rename_i heq <;> replace heq := congrArg Prod.snd heq <;> dsimp only at heq <;> subst heq)
    | split

theorem execDrespTimeout_kept {r0 : State} (p : Fin 3) (s : State) (hk : Kept r0 s) : KeptO r0 (execDrespTimeout p s) := by
  unfold execDrespTimeout
  repeat' first
    | (simp (maxDischargeDepth := 200) +decide only [hk, keptO_next, keptO_ite, State.bump_kept, State.setTimePort_kept]; done)
    | dsimp only
    | split

theorem execSyncSend_kept {r0 : State} (s : State) (hk : Kept r0 s) : KeptO r0 (execSyncSend s) := by
  unfold execSyncSend
  simp (maxDischargeDepth := 200) only [hk, kept_mk, keptO_next, keptO_ite, State.sendTime_kept]

theorem State.relaySync_kept {r0 : State} (s : State) (p : Nat) (b : List Byte) (y : Sync) (t : Int) (hk : Kept r0 s) : Kept r0 (State.relaySync s p b y t) := by
  unfold State.relaySync
  simp only [hk, kept_ite, State.sendTime_kept]

theorem execSyncRx_kept {r0 : State} (p : Fin 2) (f : Frame) (t : Int) (s : State) (hk : Kept r0 s) : KeptO r0 (execSyncRx p f t s) := by
  unfold execSyncRx
  repeat' first
    | (simp (maxDischargeDepth := 200) +contextual +decide only [hk, kept_put, kept_ite, keptO_next, keptO_ite, Obj.legal_of_free, State.bump_kept, State.receive_kept, State.relaySync_kept, State.setTimePort_kept]; done)
    | (split <;> rename_i heq <;> replace heq := congrArg Prod.snd heq <;> dsimp only at heq <;> subst heq)
    | split

theorem State.setPaths_kept {r0 : State} (s : State) (n : Int) (hk : Kept r0 s) : Kept r0 (State.setPaths s n) := by
  unfold State.setPaths
  simp (maxDischargeDepth := 200) +decide only [hk, kept_put, kept_ite, Obj.legal_of_free, State.raise_kept]

theorem State.closeTest_kept {r0 : State} (s : State) (b : Nat) (event : Nat) (bad : Bool) (runBad : Nat) (runGood : Nat) (hk : Kept r0 s) : Kept r0 (State.closeTest s b event bad runBad runGood).2.2 := by
  unfold State.closeTest
  simp (maxDischargeDepth := 200) +decide only [hk, kept_put, kept_ite_snd2, Obj.legal_of_free, State.orderHoldover_kept, State.raise_kept]

theorem State.closureCheck_kept {r0 : State} (s : State) (pairs : List (SyncNote × SyncNote)) (hk : Kept r0 s) : Kept r0 (State.closureCheck s pairs).2 := by
  unfold State.closureCheck
  simp (maxDischargeDepth := 200) +decide only [hk, kept_put, kept_mk, kept_ite, kept_ite_snd2, Obj.legal_of_free, State.closeTest_kept]

theorem State.closeLoops_kept {r0 : State} (s : State) (hk : Kept r0 s) : Kept r0 (State.closeLoops s) := by
  unfold State.closeLoops
  simp (maxDischargeDepth := 200) +decide only [hk, kept_put, kept_mk, kept_ite, Obj.legal_of_free, State.raise_kept, State.setTimePort_kept]

theorem State.ringOffset_kept {r0 : State} (s : State) (hk : Kept r0 s) : Kept r0 (State.ringOffset s).2 := by
  unfold State.ringOffset
  simp (maxDischargeDepth := 200) +decide only [hk, kept_put, kept_mk, kept_ite, kept_ite_snd, Obj.legal_of_free, State.closureCheck_kept, State.setPaths_kept, State.setTimePort_kept]

theorem State.closeChecks_kept {r0 : State} (s : State) (hk : Kept r0 s) : Kept r0 (State.closeChecks s) := by
  unfold State.closeChecks
  simp (maxDischargeDepth := 200) +decide only [hk, kept_put, kept_ite, Obj.legal_of_free, State.setTimePort_kept]

theorem State.takeRole_kept {r0 : State} (s : State) (gm : Int) (hk : Kept r0 s) : Kept r0 (State.takeRole s gm) := by
  unfold State.takeRole
  simp (maxDischargeDepth := 200) +decide only [hk, kept_put, kept_mk, kept_ite, Obj.legal_of_free, Obj.legal_ite, State.raise_kept]

theorem State.noteGm_kept {r0 : State} (s : State) (n : Bool) (hk : Kept r0 s) : Kept r0 (State.noteGm s n) := by
  unfold State.noteGm
  repeat' first
    | (simp only [hk, kept_mk, State.raise_kept]; done)
    | split
    | dsimp only

theorem State.changeGm_kept {r0 : State} (s : State) (gm : Int) (hk : Kept r0 s) : Kept r0 (State.changeGm s gm) := by
  unfold State.changeGm
  split
  · exact hk
  · exact State.raise_kept _ _ (State.setTimePort_kept _ _ _ (State.setTimePort_kept _ _ _ hk))

theorem State.chooseGm_kept {r0 : State} (s : State) (lost : Bool) (hk : Kept r0 s) : Kept r0 (State.chooseGm s lost) := by
  unfold State.chooseGm
  extract_lets gm u
  have hu : Kept r0 u := State.changeGm_kept _ _ (State.noteGm_kept _ _ (kept_put hk _ _ _ rfl))
  refine State.takeRole_kept _ _ ?_
  split
  · exact State.raise_kept _ _ hu
  · exact hu

theorem execAnnounceSend_kept {r0 : State} (s : State) (hk : Kept r0 s) : KeptO r0 (execAnnounceSend s) := by
  unfold execAnnounceSend
  simp (maxDischargeDepth := 200) +decide only [hk, kept_mk, keptO_next, keptO_ite, State.chooseGm_kept, State.sendTime_kept]

theorem State.onAnnounce_kept {r0 : State} (s : State) (p : Nat) (f : Frame) (hk : Kept r0 s) : Kept r0 (State.onAnnounce s p f) := by
  unfold State.onAnnounce
  simp (maxDischargeDepth := 200) +decide only [hk, kept_mk, kept_ite, State.chooseGm_kept, State.sendTime_kept]

theorem execAnnounceRx_kept {r0 : State} (p : Fin 2) (f : Frame) (s : State) (hk : Kept r0 s) : KeptO r0 (execAnnounceRx p f s) := by
  unfold execAnnounceRx
  repeat' first
    | (simp (maxDischargeDepth := 200) only [hk, keptO_next, State.onAnnounce_kept, State.receive_kept]; done)
    | (split <;> rename_i heq <;> replace heq := congrArg Prod.snd heq <;> dsimp only at heq <;> subst heq)
    | split

theorem execGmEntryExpiry_kept {r0 : State} (s : State) (hk : Kept r0 s) : KeptO r0 (execGmEntryExpiry s) := by
  unfold execGmEntryExpiry
  simp (maxDischargeDepth := 200) +decide only [hk, kept_mk, keptO_next, keptO_ite, State.chooseGm_kept]

theorem execBecomeGrandmaster_kept {r0 : State} (s : State) (hk : Kept r0 s) : KeptO r0 (execBecomeGrandmaster s) := by
  unfold execBecomeGrandmaster
  simp (maxDischargeDepth := 200) only [hk, kept_mk, keptO_next, keptO_ite, State.raise_kept]

theorem State.servoOffset_kept {r0 : State} (s : State) (hk : Kept r0 s) : Kept r0 (State.servoOffset s).2 := by
  unfold State.servoOffset
  extract_lets s1
  have h1 : Kept r0 s1 := State.chooseGm_kept _ _ (State.closeChecks_kept _ (State.closeLoops_kept _ hk))
  clear_value s1
  have h2 := State.ringOffset_kept s1 h1
  generalize s1.ringOffset = q at h2 ⊢
  obtain ⟨ring, t⟩ := q
  dsimp only at h2 ⊢
  repeat' first
    | (simp +decide only [h2, kept_put, Obj.legal_of_free]; done)
    | split

theorem execCheckSend_kept {r0 : State} (s : State) (hk : Kept r0 s) : KeptO r0 (execCheckSend s) := by
  unfold execCheckSend
  simp (maxDischargeDepth := 200) only [hk, keptO_next, keptO_ite, State.sendTime_kept, State.setTimePort_kept]

theorem execCheckRx_kept {r0 : State} (f : Frame) (t : Int) (s : State) (hk : Kept r0 s) : KeptO r0 (execCheckRx f t s) := by
  unfold execCheckRx
  repeat' first
    | (simp (maxDischargeDepth := 200) only [hk, keptO_next, State.receive_kept, State.setTimePort_kept]; done)
    | (split <;> rename_i heq <;> replace heq := congrArg Prod.snd heq <;> dsimp only at heq <;> subst heq)
    | split

theorem execAsymCorrWrite_kept {r0 : State} (w : Who) (p : Fin 3) (v : Int) (s : State) (hk : Kept r0 s) : KeptO r0 (execAsymCorrWrite w p v s) := by
  unfold execAsymCorrWrite
  simp (maxDischargeDepth := 200) +contextual +decide only [hk, kept_put, kept_mk, keptO_next, Obj.legal_of_free, implies_true, State.raise_kept, State.setTimePort_kept, asWrite_kept]

theorem execRtFaultClear_kept {r0 : State} (w : Who) (v : Nat) (s : State) (hk : Kept r0 s) : KeptO r0 (execRtFaultClear w v s) := by
  unfold execRtFaultClear
  simp (maxDischargeDepth := 200) +contextual +decide only [hk, kept_put, keptO_next, Obj.legal_of_free, implies_true, State.raise_kept, asCommand_kept]

end Sys2Proof.Machine
end

