-- ==== Sys2Proof/Laws/KeptManagement.lean ====
section
/-! SUPPORT. Each operation of mailboxes, locks, debug, the twin unit and fences leaves the queue of commands
as it is and a sound state sound (Kept). -/

namespace Sys2Proof.Machine

open Sys2Proof

/-! ### Machine/Mailbox -/

theorem State.useBox_kept {r0 : State} (s : State) (hk : Kept r0 s) : Kept r0 (State.useBox s) := by
  unfold State.useBox
  simp only [hk, State.abortItems_kept]

theorem State.closeBox_kept {r0 : State} (s : State) (k : Nat) (hk : Kept r0 s) : Kept r0 (State.closeBox s k) := by
  unfold State.closeBox
  simp (maxDischargeDepth := 200) +contextual +decide only [hk, kept_put, kept_ite, kept_foldl, Obj.legal_of_free, implies_true, State.setBox_kept, State.setEvDelivery_kept]

theorem execMbxOpen_kept {r0 : State} (w : Who) (k : Fin 8) (service : Nat) (s : State) (hk : Kept r0 s) : KeptO r0 (execMbxOpen w k service s) := by
  unfold execMbxOpen
  simp (maxDischargeDepth := 200) +contextual +decide only [hk, kept_put, kept_ite_snd, keptO_next, Obj.legal_of_free, implies_true, State.setBox_kept, State.useBox_kept, asCommand_kept]

theorem execMbxClose_kept {r0 : State} (w : Who) (k : Fin 8) (s : State) (hk : Kept r0 s) : KeptO r0 (execMbxClose w k s) := by
  unfold execMbxClose
  simp (maxDischargeDepth := 200) +contextual only [hk, kept_ite_snd, keptO_next, implies_true, State.closeBox_kept, State.useBox_kept, asCommand_kept]

theorem State.emptyTest_kept {r0 : State} (s : State) (k : Nat) (hk : Kept r0 s) : Kept r0 (State.emptyTest s k) := by
  unfold State.emptyTest
  simp (maxDischargeDepth := 200) +decide only [hk, kept_ite, State.cause_kept, State.setBox_kept]

theorem execMbxPost_kept {r0 : State} (w : Who) (k : Fin 8) (notice : Notice) (s : State) (hk : Kept r0 s) : KeptO r0 (execMbxPost w k notice s) := by
  unfold execMbxPost
  simp (maxDischargeDepth := 200) +contextual +decide only [hk, kept_ite_snd, keptO_next, implies_true, State.bump_kept, State.cause_kept, State.crossTest_kept, State.setBox_kept, State.useBox_kept, asCommand_kept]

theorem State.placeHeld_kept {r0 : State} (n k : Nat) (s : State) (hk : Kept r0 s) : Kept r0 (State.placeHeld n k s) := by
  induction n generalizing s with
  | zero => exact hk
  | succ n ih =>
    unfold State.placeHeld
    dsimp only
    split
    · exact hk
    · exact kept_ite (ih _ (State.cause_kept _ _ _ _ rfl (State.setBox_kept _ _ _ hk))) hk

theorem State.takeNotice_kept {r0 : State} (s : State) (k : Nat) (hk : Kept r0 s) : Kept r0 (State.takeNotice s k).2 := by
  unfold State.takeNotice
  repeat' first
    | (simp (maxDischargeDepth := 200) only [hk, kept_ite, State.crossTest_kept, State.placeHeld_kept, State.setBox_kept, State.setEvDelivery_kept]; done)
    | dsimp only
    | split

theorem execMbxTake_kept {r0 : State} (w : Who) (k : Fin 8) (s : State) (hk : Kept r0 s) : KeptO r0 (execMbxTake w k s) := by
  unfold execMbxTake
  simp (maxDischargeDepth := 200) +contextual only [hk, kept_ite_snd2, keptO_next, implies_true, State.takeNotice_kept, State.useBox_kept, asRead_kept]

theorem execMbxAckRx_kept {r0 : State} (w : Who) (k : Fin 8) (nseq : Nat) (s : State) (hk : Kept r0 s) : KeptO r0 (execMbxAckRx w k nseq s) := by
  unfold execMbxAckRx
  simp (maxDischargeDepth := 200) +contextual only [hk, kept_ite_snd, keptO_next, implies_true, State.crossTest_kept, State.setBox_kept, State.useBox_kept, asCommand_kept]

theorem execMbxEmptyArm_kept {r0 : State} (w : Who) (k : Fin 8) (s : State) (hk : Kept r0 s) : KeptO r0 (execMbxEmptyArm w k s) := by
  unfold execMbxEmptyArm
  simp (maxDischargeDepth := 200) +contextual only [hk, kept_ite_snd, keptO_next, implies_true, State.crossTest_kept, State.emptyTest_kept, State.setBox_kept, State.useBox_kept, asCommand_kept]

theorem execMbxTxData_kept {r0 : State} (w : Who) (k : Fin 8) (offset : Nat) (data : List Byte) (s : State) (hk : Kept r0 s) : KeptO r0 (execMbxTxData w k offset data s) := by
  unfold execMbxTxData
  simp (maxDischargeDepth := 200) +contextual only [hk, kept_ite_snd, keptO_next, implies_true, State.setBox_kept, State.useBox_kept, asWrite_kept]

theorem execMbxServicePost_kept {r0 : State} (k : Fin 8) (notice : Notice) (data : List Byte) (s : State) (hk : Kept r0 s) : KeptO r0 (execMbxServicePost k notice data s) := by
  unfold execMbxServicePost
  simp (maxDischargeDepth := 200) only [hk, keptO_next, keptO_ite, State.crossTest_kept, State.placeHeld_kept, State.setBox_kept]

theorem execMbxServiceTake_kept {r0 : State} (k : Fin 8) (s : State) (hk : Kept r0 s) : KeptO r0 (execMbxServiceTake k s) := by
  unfold execMbxServiceTake
  simp (maxDischargeDepth := 200) only [hk, keptO_next, keptO_ite, State.crossTest_kept, State.emptyTest_kept, State.setBox_kept]

theorem execMbxServiceAck_kept {r0 : State} (k : Fin 8) (nseq : Nat) (s : State) (hk : Kept r0 s) : KeptO r0 (execMbxServiceAck k nseq s) := by
  unfold execMbxServiceAck
  simp (maxDischargeDepth := 200) +decide only [hk, kept_put, kept_ite, keptO_next, keptO_ite, Obj.legal_of_free, State.cause_kept, State.crossTest_kept, State.setBox_kept]

theorem execMbxAckTimeout_kept {r0 : State} (k : Fin 8) (s : State) (hk : Kept r0 s) : KeptO r0 (execMbxAckTimeout k s) := by
  unfold execMbxAckTimeout
  simp (maxDischargeDepth := 200) +decide only [hk, keptO_next, keptO_ite, State.add32_kept, State.cause_kept, State.setBox_kept]

theorem execMbxCrossTimeout_kept {r0 : State} (k : Fin 8) (s : State) (hk : Kept r0 s) : KeptO r0 (execMbxCrossTimeout k s) := by
  unfold execMbxCrossTimeout
  simp (maxDischargeDepth := 200) +decide only [hk, keptO_next, keptO_ite, State.cause_kept, State.closeBox_kept, State.crossTest_kept]

theorem execMjCauseClear_kept {r0 : State} (w : Who) (mask : Nat) (s : State) (hk : Kept r0 s) : KeptO r0 (execMjCauseClear w mask s) := by
  unfold execMjCauseClear
  simp +decide only [hk, keptO_next, clearCommand_kept]

theorem State.renewLock_kept {r0 : State} (s : State) (n : Nat) (hk : Kept r0 s) : Kept r0 (State.renewLock s n) := by
  unfold State.renewLock
  simp only [hk, kept_mk]

theorem State.readLock_kept {r0 : State} (s : State) (own : Int) (n : Nat) (hk : Kept r0 s) : Kept r0 (State.readLock s own n).2 := by
  unfold State.readLock
  simp (maxDischargeDepth := 200) +decide only [hk, kept_put, kept_ite, kept_ite_snd, Obj.legal_of_free, State.bump_kept, State.renewLock_kept]

theorem execLockRead_kept {r0 : State} (w : Who) (n : Fin 32) (s : State) (hk : Kept r0 s) : KeptO r0 (execLockRead w n s) := by
  unfold execLockRead
  simp (maxDischargeDepth := 200) +contextual only [hk, keptO_next, implies_true, State.readLock_kept, asRead_kept]

theorem execLockRelease_kept {r0 : State} (w : Who) (n : Fin 32) (s : State) (hk : Kept r0 s) : KeptO r0 (execLockRelease w n s) := by
  unfold execLockRelease
  simp (maxDischargeDepth := 200) +contextual +decide only [hk, kept_put, kept_ite_snd, keptO_next, Obj.legal_of_free, implies_true, asCommand_kept]

theorem execLockForce_kept {r0 : State} (w : Who) (n : Fin 32) (s : State) (hk : Kept r0 s) : KeptO r0 (execLockForce w n s) := by
  unfold execLockForce
  simp (maxDischargeDepth := 200) +contextual +decide only [hk, kept_put, keptO_next, Obj.legal_of_free, implies_true, asCommand_kept]

theorem execLockTimeoutExpiry_kept {r0 : State} (n : Fin 32) (s : State) (hk : Kept r0 s) : KeptO r0 (execLockTimeoutExpiry n s) := by
  unfold execLockTimeoutExpiry
  simp (maxDischargeDepth := 200) +decide only [hk, kept_put, keptO_next, keptO_ite, Obj.legal_of_free, State.bump_kept, State.cause_kept]

theorem State.freeLocks_kept {r0 : State} (s : State) (own : Int) (hk : Kept r0 s) : Kept r0 (State.freeLocks s own) := by
  unfold State.freeLocks
  simp (maxDischargeDepth := 200) +contextual +decide only [hk, kept_put, kept_ite, kept_foldl, Obj.legal_of_free, implies_true]

theorem State.setSession_kept {r0 : State} (s : State) (n : Nat) (v : Session) (hk : Kept r0 s) : Kept r0 (State.setSession s n v) := by
  unfold State.setSession
  simp +decide only [hk, kept_put, kept_mk, Obj.legal_of_free]

theorem State.endSession_kept {r0 : State} (s : State) (n : Nat) (hk : Kept r0 s) : Kept r0 (State.endSession s n) := by
  unfold State.endSession
  simp (maxDischargeDepth := 200) +contextual only [hk, kept_mk, kept_ite, kept_foldl, implies_true, State.closeBox_kept, State.freeLocks_kept, State.setSession_kept]

theorem execSessionIdleExpiry_kept {r0 : State} (s : State) (hk : Kept r0 s) : KeptO r0 (execSessionIdleExpiry s) := by
  unfold execSessionIdleExpiry
  simp (maxDischargeDepth := 200) +contextual only [hk, kept_ite, keptO_next, kept_foldl, implies_true, State.endSession_kept]

theorem State.readSlot_kept {r0 : State} (s : State) (slot : Nat) (unreadable : Bool) (hk : Kept r0 s) : Kept r0 (State.readSlot s slot unreadable).2 := by
  unfold State.readSlot
  repeat' first
    | (simp (maxDischargeDepth := 200) +decide only [hk, kept_mk, State.bump_kept, State.cause_kept]; done)
    | dsimp only
    | split

theorem State.readPage_kept {r0 : State} (s : State) (p : Nat) (bad : List Nat) (hk : Kept r0 s) : Kept r0 (State.readPage s p bad).2 := by
  unfold State.readPage
  simp +contextual only [hk, kept_foldl_snd, implies_true, State.readSlot_kept]

theorem execJrnPageRead_kept {r0 : State} (w : Who) (p : Fin 1024) (bad : List Nat) (s : State) (hk : Kept r0 s) : KeptO r0 (execJrnPageRead w p bad s) := by
  unfold execJrnPageRead
  simp (maxDischargeDepth := 200) +contextual only [hk, keptO_next, implies_true, State.readPage_kept, asRead_kept]

theorem execJrnMirrorWrite_kept {r0 : State} (bad : Bool) (s : State) (hk : Kept r0 s) : KeptO r0 (execJrnMirrorWrite bad s) := by
  unfold execJrnMirrorWrite
  repeat' first
    | (simp (maxDischargeDepth := 200) +decide only [hk, kept_put, kept_mk, keptO_next, keptO_ite, State.cause_kept]; done)
    | split

theorem execJrnMirrorCopyDone_kept {r0 : State} (s : State) (hk : Kept r0 s) : KeptO r0 (execJrnMirrorCopyDone s) := by
  unfold execJrnMirrorCopyDone
  simp (maxDischargeDepth := 200) +decide only [hk, kept_put, kept_mk, keptO_next, keptO_ite]

theorem execJrnHostMarkWrite_kept {r0 : State} (w : Who) (seq : Nat) (s : State) (hk : Kept r0 s) : KeptO r0 (execJrnHostMarkWrite w seq s) := by
  unfold execJrnHostMarkWrite
  simp (maxDischargeDepth := 200) +contextual +decide only [hk, kept_put, kept_ite, keptO_next, Obj.legal_of_free, implies_true, State.cause_kept, asWrite_kept]

/-! ### Machine/Digest -/

theorem State.setValue_kept {r0 : State} (s : State) (r : ObjInfo) (i : Nat) (v : Val) (ho : r.obj.greatestCode.isNone = true) (hk : Kept r0 s) : Kept r0 (State.setValue s r i v) := by
  unfold State.setValue
  repeat' first
    | (simp only [ho, hk, kept_put, kept_putBytes, Obj.legal_of_free]; done)
    | split

/-! ### Machine/Debug -/

theorem State.tapReset_kept {r0 : State} (s : State) (hk : Kept r0 s) : Kept r0 (State.tapReset s) := by
  unfold State.tapReset
  simp only [hk, kept_mk]

theorem State.debugCheck_kept {r0 : State} (s : State) (hk : Kept r0 s) : Kept r0 (State.debugCheck s) := by
  unfold State.debugCheck
  simp (maxDischargeDepth := 200) +decide only [hk, kept_put, kept_mk, kept_ite, Obj.legal_of_free, State.cause_kept, State.tapReset_kept]

theorem State.setPower_kept {r0 : State} (s : State) (v : Int) (ho : Obj.legal .PWR_STATE v = true) (hk : Kept r0 s) : Kept r0 (State.setPower s v) := by
  unfold State.setPower
  simp (maxDischargeDepth := 200) +decide only [ho, hk, kept_put, kept_ite, Obj.legal_of_free, State.cause_kept, State.debugCheck_kept]

/-! ### Machine/Twin -/

theorem State.setWit_kept {r0 : State} (s : State) (w : Nat) (v : WitSlot) (hk : Kept r0 s) : Kept r0 (State.setWit s w v) := by
  unfold State.setWit
  simp only [hk, kept_mk]

theorem State.twinCause_kept {r0 : State} (s : State) (b : Nat) (hk : Kept r0 s) : Kept r0 (State.twinCause s b) := by
  unfold State.twinCause
  simp +decide only [hk, State.cause_kept]

theorem State.takeGrant_kept {r0 : State} (s : State) (witness : Bool) (r : Nat) (hk : Kept r0 s) : Kept r0 (State.takeGrant s witness r) := by
  unfold State.takeGrant
  simp (maxDischargeDepth := 200) +decide only [hk, kept_put, kept_mk, Obj.legal_of_free, State.raiseTo_kept]

theorem State.sendTwin_kept {r0 : State} (s : State) (rank : Nat) (payload : List Byte) (hk : Kept r0 s) : Kept r0 (State.sendTwin s rank payload) := by
  unfold State.sendTwin
  simp only [hk, State.newFrame_kept, State.sendFrame_kept]

theorem State.copyPacket_kept {r0 : State} (s : State) (p : Packet) (hk : Kept r0 s) : Kept r0 (State.copyPacket s p) := by
  unfold State.copyPacket
  simp +contextual only [hk, kept_foldl, implies_true, State.sendTwin_kept]

theorem State.copyRetained_kept {r0 : State} (s : State) (hk : Kept r0 s) : Kept r0 (State.copyRetained s) := by
  unfold State.copyRetained
  simp (maxDischargeDepth := 200) +contextual only [hk, kept_mk, kept_ite, kept_foldl, implies_true, State.copyPacket_kept]

theorem execHeartbeatSend_kept {r0 : State} (s : State) (hk : Kept r0 s) : KeptO r0 (execHeartbeatSend s) := by
  unfold execHeartbeatSend
  simp (maxDischargeDepth := 200) only [hk, kept_mk, keptO_next, keptO_ite, State.copyRetained_kept, State.sendTwin_kept]

theorem State.sendWreq_kept {r0 : State} (s : State) (op : Nat) (hk : Kept r0 s) : Kept r0 (State.sendWreq s op) := by
  unfold State.sendWreq
  simp (maxDischargeDepth := 200) only [hk, kept_mk, kept_ite, State.newFrame_kept, State.sendFrame_kept]

theorem State.twinLock_kept {r0 : State} (s : State) (hk : Kept r0 s) : Kept r0 (State.twinLock s) := by
  unfold State.twinLock
  simp only [hk, kept_ite, State.readLock_kept]

theorem State.twinUnlock_kept {r0 : State} (s : State) (hk : Kept r0 s) : Kept r0 (State.twinUnlock s) := by
  unfold State.twinUnlock
  simp +decide only [hk, kept_put, kept_ite]

theorem State.switchMarks_kept {r0 : State} (s : State) (at_ : Int) (hk : Kept r0 s) : Kept r0 (State.switchMarks s at_) := by
  unfold State.switchMarks
  simp (maxDischargeDepth := 200) +contextual +decide only [hk, kept_put, kept_ite, kept_foldl, Obj.legal_of_free, implies_true, State.wheySpan_kept]

theorem State.logActing_kept {r0 : State} (s : State) (at_ : Int) (on : Bool) (hk : Kept r0 s) : Kept r0 (State.logActing s at_ on) := by
  unfold State.logActing
  simp only [hk, kept_mk]

theorem State.endAlign_kept {r0 : State} (s : State) (hk : Kept r0 s) : Kept r0 (State.endAlign s) := by
  unfold State.endAlign
  simp only [hk, kept_mk]

theorem State.setTwinState_kept {r0 : State} (s : State) (v : Int) (ho : Obj.legal .TWIN_STATE v = true) (hk : Kept r0 s) : Kept r0 (State.setTwinState s v) := by
  unfold State.setTwinState
  simp (maxDischargeDepth := 200) only [ho, hk, kept_put, kept_mk, kept_ite, State.debugCheck_kept, State.endAlign_kept, State.twinUnlock_kept]

theorem State.requestSide_kept {r0 : State} (s : State) (hk : Kept r0 s) : Kept r0 (State.requestSide s) := by
  unfold State.requestSide
  simp (maxDischargeDepth := 200) +contextual only [hk, kept_ite, kept_foldl, implies_true, State.setBank_kept]

theorem State.resendUnacked_kept {r0 : State} (s : State) (hk : Kept r0 s) : Kept r0 (State.resendUnacked s) := by
  unfold State.resendUnacked
  simp only [hk, kept_mk]

theorem State.act_kept {r0 : State} (s : State) (at_ : Int) (hk : Kept r0 s) : Kept r0 (State.act s at_) := by
  unfold State.act
  simp (maxDischargeDepth := 200) +decide only [hk, kept_put, kept_mk, kept_ite, Obj.legal_of_free, State.logActing_kept, State.requestSide_kept, State.resendUnacked_kept, State.setTwinState_kept, State.switchMarks_kept, State.twinCause_kept]

theorem State.claim_kept {r0 : State} (s : State) (at_ : Nat) (hk : Kept r0 s) : Kept r0 (State.claim s at_) := by
  unfold State.claim
  simp (maxDischargeDepth := 200) +decide only [hk, kept_put, kept_mk, Obj.legal_of_free, State.setTwinState_kept]

theorem State.standDown_kept {r0 : State} (s : State) (k : Nat) (hk : Kept r0 s) : Kept r0 (State.standDown s k) := by
  unfold State.standDown
  simp only [hk, State.claim_kept, State.logActing_kept]

theorem State.standBy_kept {r0 : State} (s : State) (asks : Bool) (hk : Kept r0 s) : Kept r0 (State.standBy s asks) := by
  unfold State.standBy
  simp (maxDischargeDepth := 200) +decide only [hk, kept_put, kept_mk, kept_ite, Obj.legal_of_free, State.setTwinState_kept]

theorem State.beginAlign_kept {r0 : State} (s : State) (hk : Kept r0 s) : Kept r0 (State.beginAlign s) := by
  unfold State.beginAlign
  simp only [hk, kept_mk]

theorem State.beginSync_kept {r0 : State} (s : State) (adopt : Bool) (hk : Kept r0 s) : Kept r0 (State.beginSync s adopt) := by
  unfold State.beginSync
  simp (maxDischargeDepth := 200) +decide only [hk, kept_put, kept_mk, Obj.legal_of_free, State.beginAlign_kept, State.draw_kept, State.setTwinState_kept, State.twinLock_kept]

theorem State.twinStart_kept {r0 : State} (s : State) (hk : Kept r0 s) : Kept r0 (State.twinStart s) := by
  unfold State.twinStart
  simp (maxDischargeDepth := 200) +decide only [hk, kept_mk, kept_ite, State.setTwinState_kept]

theorem State.twinTable_kept {r0 : State} (s : State) (hk : Kept r0 s) : Kept r0 (State.twinTable s).1 := by
  unfold State.twinTable
  simp (maxDischargeDepth := 200) +decide only [hk, kept_mk, kept_ite_fst, State.beginSync_kept, State.setTwinState_kept, State.standBy_kept, State.twinCause_kept]

theorem State.mirrorObject_kept {r0 : State} (s : State) (r : ObjInfo) (i : Nat) (hk : Kept r0 s) : Kept r0 (State.mirrorObject s r i) := by
  unfold State.mirrorObject
  simp only [hk, State.mirrorEntry_kept]

theorem State.serveSync_kept {r0 : State} (s : State) (hk : Kept r0 s) : Kept r0 (State.serveSync s) := by
  unfold State.serveSync
  simp (maxDischargeDepth := 200) +contextual only [hk, kept_ite, kept_foldl, implies_true, State.beginAlign_kept, State.mirrorEntry_kept, State.mirrorObject_kept, State.mirrorWrite_kept]

theorem State.onHeartbeat_kept {r0 : State} (s : State) (f : Frame) (hk : Kept r0 s) : Kept r0 (State.onHeartbeat s f).1 := by
  unfold State.onHeartbeat
  extract_lets b pst flags st before t back a1 a2 a3 r a4 u4 a5 u5 a6 a7 hh u8 a8 q a9 u9 a10 a11 u11 a12 a13
  have k_a1 : Kept r0 a1 := by
    dsimp only [a1]
    simp (maxDischargeDepth := 200) +decide only [hk, kept_mk]
  have k_a2 : Kept r0 a2 := by
    dsimp only [a2]
    simp (maxDischargeDepth := 200) +decide only [kept_put, Obj.legal_of_free, k_a1]
  have k_a3 : Kept r0 a3 := by
    dsimp only [a3]
    simp (maxDischargeDepth := 200) +decide only [kept_ite, State.twinCause_kept, k_a2]
  have k_a4 : Kept r0 a4 := by
    dsimp only [a4]
    simp (maxDischargeDepth := 200) +decide only [State.takeGrant_kept, k_a3]
  have k_a5 : Kept r0 a5 := by
    dsimp only [a5]
    simp (maxDischargeDepth := 200) +decide only [kept_mk, kept_ite, State.act_kept, State.takeGrant_kept, k_a3, k_a4]
  have k_a6 : Kept r0 a6 := by
    dsimp only [a6]
    simp (maxDischargeDepth := 200) +decide only [kept_mk, k_a5]
  have k_a7 : Kept r0 a7 := by
    dsimp only [a7]
    simp (maxDischargeDepth := 200) +decide only [kept_put, kept_ite, Obj.legal_of_free, k_a5, k_a6]
  have k_a8 : Kept r0 a8 := by
    dsimp only [a8]
    simp (maxDischargeDepth := 200) +decide only [kept_mk, kept_ite, k_a7]
  have k_a9 : Kept r0 a9 := by
    dsimp only [a9]
    refine kept_ite ?_ k_a8
    have h := State.applyAck_kept a8 q (leNat (slice b 40 4)) k_a8
    split
    · rename_i e
      rw [e] at h
      exact h
    · exact k_a8
  have k_a10 : Kept r0 a10 := by
    dsimp only [a10]
    simp (maxDischargeDepth := 200) +decide only [kept_mk, kept_ite, k_a9]
  have k_a11 : Kept r0 a11 := by
    dsimp only [a11]
    simp (maxDischargeDepth := 200) +decide only [State.sendWreq_kept, k_a10]
  have k_a12 : Kept r0 a12 := by
    dsimp only [a12]
    simp (maxDischargeDepth := 200) +decide only [kept_mk, kept_ite, k_a10, k_a11]
  have k_a13 : Kept r0 a13 := by
    dsimp only [a13]
    simp (maxDischargeDepth := 200) +decide only [kept_ite, State.endAlign_kept, State.serveSync_kept, k_a12]
  simp (maxDischargeDepth := 200) +decide only [hk, kept_ite_fst, State.standDown_kept, State.twinCause_kept, State.twinTable_kept, k_a3, k_a13]

theorem execHeartbeatTimeout_kept {r0 : State} (s : State) (hk : Kept r0 s) : KeptO r0 (execHeartbeatTimeout s) := by
  unfold execHeartbeatTimeout
  simp (maxDischargeDepth := 200) +decide only [hk, kept_mk, keptO_next, keptO_ite, State.bump_kept, State.claim_kept, State.sendWreq_kept, State.twinCause_kept]

theorem execLeaseExpiry_kept {r0 : State} (s : State) (hk : Kept r0 s) : KeptO r0 (execLeaseExpiry s) := by
  unfold execLeaseExpiry
  simp (maxDischargeDepth := 200) +decide only [hk, keptO_next, keptO_ite, State.bump_kept, State.standDown_kept, State.twinCause_kept]

theorem execClaimAtReached_kept {r0 : State} (s : State) (hk : Kept r0 s) : KeptO r0 (execClaimAtReached s) := by
  unfold execClaimAtReached
  simp (maxDischargeDepth := 200) only [hk, keptO_next, keptO_ite, State.sendWreq_kept]

theorem execWitnessRenewTimer_kept {r0 : State} (s : State) (hk : Kept r0 s) : KeptO r0 (execWitnessRenewTimer s) := by
  unfold execWitnessRenewTimer
  repeat' first
    | (simp only [hk, keptO_next, State.sendWreq_kept]; done)
    | split

theorem State.sendWgrant_kept {r0 : State} (s : State) (port : Nat) (q : Wreq) (result : Nat) (holder : Int) (hk : Kept r0 s) : Kept r0 (State.sendWgrant s port q result holder) := by
  unfold State.sendWgrant
  simp only [hk, State.newFrame_kept, State.sendFrame_kept]

theorem State.freeWit_kept {r0 : State} (s : State) (w : Nat) (hk : Kept r0 s) : Kept r0 (State.freeWit s w) := by
  unfold State.freeWit
  simp (maxDischargeDepth := 200) +decide only [hk, kept_put, Obj.legal_of_free, State.setWit_kept]

theorem State.noteWit_kept {r0 : State} (s : State) (w : Nat) (q : Wreq) (hk : Kept r0 s) : Kept r0 (State.noteWit s w q) := by
  unfold State.noteWit
  simp (maxDischargeDepth := 200) +decide only [hk, kept_put, kept_ite, Obj.legal_of_free, State.setWit_kept]

theorem State.witGrant_kept {r0 : State} (s : State) (port : Nat) (w : Nat) (q : Wreq) (hk : Kept r0 s) : Kept r0 (State.witGrant s port w q) := by
  unfold State.witGrant
  simp (maxDischargeDepth := 200) +decide only [hk, kept_put, kept_ite, Obj.legal_of_free, State.bump_kept, State.sendWgrant_kept, State.setWit_kept, State.twinCause_kept]

theorem State.witRefuse_kept {r0 : State} (s : State) (port : Nat) (w : Nat) (q : Wreq) (result : Nat) (hk : Kept r0 s) : Kept r0 (State.witRefuse s port w q result) := by
  unfold State.witRefuse
  simp +decide only [hk, State.bump_kept, State.sendWgrant_kept]

theorem State.witOne_kept {r0 : State} (s : State) (port : Nat) (w : Nat) (q : Wreq) (hk : Kept r0 s) : Kept r0 (State.witOne s port w q) := by
  unfold State.witOne
  simp (maxDischargeDepth := 200) +decide only [hk, kept_put, kept_ite, Obj.legal_of_free, State.sendWgrant_kept, State.witGrant_kept, State.witRefuse_kept]

theorem State.witBoth_kept {r0 : State} (s : State) (port : Nat) (w : Nat) (a : Wreq) (b : Wreq) (hk : Kept r0 s) : Kept r0 (State.witBoth s port w a b) := by
  unfold State.witBoth
  simp (maxDischargeDepth := 200) only [hk, kept_ite, State.witGrant_kept, State.witRefuse_kept]

theorem State.witAdmit_kept {r0 : State} (s : State) (port : Nat) (q : Wreq) (hk : Kept r0 s) : Kept r0 (State.witAdmit s port q).2 := by
  unfold State.witAdmit
  repeat' first
    | (simp +decide only [hk, State.bump_kept, State.noteWit_kept, State.sendWgrant_kept]; done)
    | split

theorem execWreqRx_kept {r0 : State} (p : Fin 2) (f : Frame) (also : Option Frame) (s : State) (hk : Kept r0 s) : KeptO r0 (execWreqRx p f also s) := by
  unfold execWreqRx
  repeat' first
    | (simp (maxDischargeDepth := 200) only [hk, keptO_next, keptO_ite, State.receive_kept, State.witAdmit_kept, State.witBoth_kept, State.witOne_kept]; done)
    | dsimp only
    | split

theorem execWitnessSlotExpiry_kept {r0 : State} (w : Fin 8) (s : State) (hk : Kept r0 s) : KeptO r0 (execWitnessSlotExpiry w s) := by
  unfold execWitnessSlotExpiry
  simp (maxDischargeDepth := 200) only [hk, keptO_next, keptO_ite, State.freeWit_kept]

theorem execWgrantRx_kept {r0 : State} (p : Fin 2) (f : Frame) (s : State) (hk : Kept r0 s) : KeptO r0 (execWgrantRx p f s) := by
  unfold execWgrantRx
  simp (maxDischargeDepth := 200) only [hk, kept_mk, keptO_next, keptO_ite, State.act_kept, State.receive_kept, State.recover_kept, State.sendWreq_kept, State.takeGrant_kept, State.twinCause_kept]

theorem State.sendMirror_kept {r0 : State} (s : State) (tin : TickIn) (n : Int) (hk : Kept r0 s) : Kept r0 (State.sendMirror s tin n) := by
  unfold State.sendMirror
  simp only [hk, kept_ite, State.sendTwin_kept]

theorem execMirrorRx_kept {r0 : State} (f : Frame) (s : State) (hk : Kept r0 s) : KeptO r0 (execMirrorRx f s) := by
  unfold execMirrorRx
  simp (maxDischargeDepth := 200) +contextual only [hk, kept_mk, kept_ite, keptO_next, keptO_ite, kept_foldl, implies_true, State.countPresence_kept, State.receive_kept]

theorem State.writeCopied_kept {r0 : State} (s : State) (tick : Int) (p : Packet) (hk : Kept r0 s) : Kept r0 (State.writeCopied s tick p) := by
  unfold State.writeCopied
  repeat' first
    | (simp only [hk, kept_mk]; done)
    | dsimp only
    | split

theorem execCaveCopyRx_kept {r0 : State} (f : Frame) (s : State) (hk : Kept r0 s) : KeptO r0 (execCaveCopyRx f s) := by
  unfold execCaveCopyRx
  simp (maxDischargeDepth := 200) +decide only [hk, kept_put, kept_mk, kept_ite, keptO_next, keptO_ite, Obj.legal_of_free, State.receive_kept, State.twinUnlock_kept, State.writeCopied_kept]

theorem State.alignSeq_kept {r0 : State} (s : State) (q : Nat) (hk : Kept r0 s) : Kept r0 (State.alignSeq s q) := by
  unfold State.alignSeq
  repeat' first
    | (simp +decide only [hk, kept_put, kept_mk, Obj.legal_of_free]; done)
    | split

theorem execSyncCopyComplete_kept {r0 : State} (s : State) (hk : Kept r0 s) : KeptO r0 (execSyncCopyComplete s) := by
  unfold execSyncCopyComplete
  simp (maxDischargeDepth := 200) +decide only [hk, kept_put, kept_mk, kept_ite, keptO_next, keptO_ite, Obj.legal_of_free, State.alignSeq_kept, State.standBy_kept, State.twinCause_kept]

theorem State.startHandover_kept {r0 : State} (s : State) (hk : Kept r0 s) : Kept r0 (State.startHandover s) := by
  unfold State.startHandover
  simp only [hk, kept_mk, kept_ite]

theorem execTwinSwitch_kept {r0 : State} (w : Who) (v : Nat) (s : State) (hk : Kept r0 s) : KeptO r0 (execTwinSwitch w v s) := by
  unfold execTwinSwitch
  simp (maxDischargeDepth := 200) +contextual only [hk, kept_ite_snd, keptO_next, implies_true, State.startHandover_kept, State.twinCause_kept, asCommand_kept]

theorem execHandoverCancel_kept {r0 : State} (s : State) (hk : Kept r0 s) : KeptO r0 (execHandoverCancel s) := by
  unfold execHandoverCancel
  repeat' first
    | (simp (maxDischargeDepth := 200) only [hk, kept_mk, keptO_next, keptO_ite, State.twinCause_kept]; done)
    | split

theorem execHandoverAtH_kept {r0 : State} (s : State) (hk : Kept r0 s) : KeptO r0 (execHandoverAtH s) := by
  unfold execHandoverAtH
  repeat' first
    | (simp (maxDischargeDepth := 200) only [hk, kept_mk, keptO_next, keptO_ite, State.act_kept, State.logActing_kept, State.standBy_kept, State.switchMarks_kept, State.twinCause_kept]; done)
    | split

theorem execTwinSeenCheck_kept {r0 : State} (s : State) (hk : Kept r0 s) : KeptO r0 (execTwinSeenCheck s) := by
  unfold execTwinSeenCheck
  repeat' first
    | (simp (maxDischargeDepth := 200) +decide only [hk, kept_mk, kept_ite, keptO_next, keptO_ite, State.add32_kept, State.twinCause_kept]; done)
    | split

theorem execTwinCauseClear_kept {r0 : State} (w : Who) (mask : Nat) (s : State) (hk : Kept r0 s) : KeptO r0 (execTwinCauseClear w mask s) := by
  unfold execTwinCauseClear
  simp +decide only [hk, keptO_next, clearCommand_kept]

theorem State.twinTimeCheck_kept {r0 : State} (s : State) (hk : Kept r0 s) : Kept r0 (State.twinTimeCheck s) := by
  unfold State.twinTimeCheck
  simp (maxDischargeDepth := 200) only [hk, kept_mk, kept_ite, State.twinCause_kept]

/-! ### Machine/FenceEffects -/

theorem State.coreFence_kept {r0 : State} (s : State) (core : Nat) (hk : Kept r0 s) : Kept r0 (State.coreFence s core) := by
  unfold State.coreFence
  simp (maxDischargeDepth := 200) +contextual only [hk, kept_ite, kept_foldl, implies_true, State.closeBox_kept, State.freeLocks_kept]

theorem State.fenceEffect_kept {r0 : State} (s : State) (cls : Nat) (i : Nat) (hk : Kept r0 s) : Kept r0 (State.fenceEffect s cls i) := by
  unfold State.fenceEffect
  repeat' first
    | (simp (maxDischargeDepth := 200) +decide only [hk, kept_ite, State.coreFence_kept, State.cutReplay_kept, State.keepKill_kept, State.linkFail_kept, State.noteTrierCjc_kept, State.regionFence_kept, State.ripenFence_kept, State.setLinkState_kept, State.spareFence_kept, State.trierCause_kept, State.unitFence_kept]; done)
    | split

theorem State.fenceBy_kept {r0 : State} (s : State) (cls : Nat) (i : Nat) (code : Nat) (hk : Kept r0 s) : Kept r0 (State.fenceBy s cls i code) := by
  unfold State.fenceBy
  simp (maxDischargeDepth := 200) only [hk, kept_ite, State.autoFence_kept, State.enterFence_kept, State.fenceEffect_kept, State.sendNeighbour_kept]

theorem execFenceSet_kept {r0 : State} (w : Who) (cls : Fin 10) (i : Nat) (s : State) (hk : Kept r0 s) : KeptO r0 (execFenceSet w cls i s) := by
  unfold execFenceSet
  simp (maxDischargeDepth := 200) +contextual +decide only [hk, kept_ite_snd, keptO_next, implies_true, State.cause_kept, State.fenceBy_kept, asCommand_kept]

theorem State.bankLift_kept {r0 : State} (s : State) (b : Nat) (n : Int) (hk : Kept r0 s) : Kept r0 (State.bankLift s b n) := by
  unfold State.bankLift
  simp (maxDischargeDepth := 200) +contextual only [hk, kept_ite, kept_foldl, implies_true, State.endMarks_kept, State.requalify_kept, State.wheySpan_kept]

theorem State.liftEffect_kept {r0 : State} (s : State) (cls : Nat) (i : Nat) (hk : Kept r0 s) : Kept r0 (State.liftEffect s cls i) := by
  unfold State.liftEffect
  repeat' first
    | (simp +decide only [hk, kept_ite, State.bankLift_kept, State.laneLift_kept, State.linkRecovers_kept, State.noteTrierCjc_kept, State.pressLift_kept, State.setLinkState_kept]; done)
    | split

theorem execFenceLift_kept {r0 : State} (w : Who) (cls : Fin 10) (i : Nat) (s : State) (hk : Kept r0 s) : KeptO r0 (execFenceLift w cls i s) := by
  unfold execFenceLift
  simp (maxDischargeDepth := 200) +contextual +decide only [hk, kept_ite_snd, keptO_next, implies_true, State.cause_kept, State.leaveFence_kept, State.liftEffect_kept, State.recover_kept, State.setFenceTick_kept, asCommand_kept]

theorem execExcSupplyOvercurrent_kept {r0 : State} (b : Fin 32) (s : State) (hk : Kept r0 s) : KeptO r0 (execExcSupplyOvercurrent b s) := by
  unfold execExcSupplyOvercurrent
  simp only [hk, keptO_next, State.fenceBy_kept]

theorem State.curdLimit_kept {r0 : State} (s : State) (cls : Nat) (i : Nat) (hk : Kept r0 s) : Kept r0 (State.curdLimit s cls i) := by
  unfold State.curdLimit
  simp (maxDischargeDepth := 200) only [hk, kept_mk, kept_ite, State.fenceBy_kept]

theorem State.ripenAbandon_kept {r0 : State} (s : State) (hk : Kept r0 s) : Kept r0 (State.ripenAbandon s) := by
  unfold State.ripenAbandon
  simp (maxDischargeDepth := 200) +decide only [hk, kept_ite, State.bump_kept, State.engineNext_kept, State.standSeg_kept]

theorem State.dropBuffered_kept {r0 : State} (s : State) (k : Nat) (hk : Kept r0 s) : Kept r0 (State.dropBuffered s k) := by
  unfold State.dropBuffered
  repeat' first
    | (simp (maxDischargeDepth := 200) only [hk, kept_mk, kept_ite, State.curdLimit_kept, State.dropReduced_kept, State.dropStream_kept]; done)
    | split

theorem State.curdFault_kept {r0 : State} (s : State) (x : CurdFault) (hk : Kept r0 s) : Kept r0 (State.curdFault s x) := by
  unfold State.curdFault
  repeat' first
    | (simp (maxDischargeDepth := 200) +decide only [hk, kept_ite, State.bump_kept, State.cause_kept, State.curdLimit_kept, State.dropBuffered_kept, State.ripenAbandon_kept, State.setQueue_kept, State.setRegion_kept]; done)
    | split

theorem execCurdScrubPass_kept {r0 : State} (corrected : Nat) (bad : List CurdFault) (s : State) (hk : Kept r0 s) : KeptO r0 (execCurdScrubPass corrected bad s) := by
  unfold execCurdScrubPass
  simp (maxDischargeDepth := 200) +contextual +decide only [hk, kept_ite, keptO_next, kept_foldl, implies_true, State.add64_kept, State.cause_kept, State.curdFault_kept]

end Sys2Proof.Machine
end

