-- ==== Sys2Proof/Laws/KeptStates.lean ====
section
/-! SUPPORT. Each operation of commits, acquisition, self tests, starts and power states leaves the queue of commands
as it is and a sound state sound (Kept). -/

namespace Sys2Proof.Machine

open Sys2Proof

/-! ### Machine/Commit -/

theorem State.keepOld_kept {r0 : State} (s old : State) (l : List (Obj × Nat)) (ho : Kept r0 old) (hk : Kept r0 s) :
    Kept r0 (State.keepOld s old l) := by
  unfold State.keepOld
  refine kept_foldl (fun s x hk => ?_) _ hk
  unfold State.valueOf State.setValue
  split
  · rename_i e
    split at e
    · contradiction
    · cases e
      exact kept_put_of hk _ _ _ (fun c => (ho.sound c).modes _ _)
  · exact kept_putBytes hk _ _ _
  · exact hk

theorem State.withStaged_kept {r0 : State} (s : State) (hk : Kept r0 s) : Kept r0 (State.withStaged s) := by
  unfold State.withStaged
  dsimp only
  refine kept_foldl (fun s x hk => ?_) _ ?_
  · split
    · rename_i h
      exact State.setValue_kept _ _ _ _ (info_free _ (.inr h)) hk
    · exact hk
  · refine kept_ite ?_ hk
    suffices h : ∀ l : List ObjInfo, (∀ r ∈ l, r.obj.greatestCode.isNone = true) → ∀ t, Kept r0 t →
        Kept r0 (l.foldl (fun t r => (List.range (r.count * r.subs)).foldl (fun t i => t.setValue r i (r.default i)) t) t) by
      refine h _ (fun r hr => ?_) _ hk
      rw [List.mem_filter] at hr
      have hm := hr.2
      simp only [ObjInfo.marked, Bool.and_eq_true] at hm
      exact row_free hr.1 (.inr hm.1)
    intro l
    induction l with
    | nil => exact fun _ t h => h
    | cons r l ih =>
      intro hl t h
      exact ih (fun x hx => hl x (List.mem_cons_of_mem _ hx)) _
        (kept_foldl (fun u i hu => State.setValue_kept _ _ _ _ (hl r List.mem_cons_self) hu) _ h)

theorem State.clearStaging_kept {r0 : State} (s : State) (hk : Kept r0 s) : Kept r0 (State.clearStaging s) := by
  unfold State.clearStaging
  simp +decide only [hk, kept_put, kept_mk, Obj.legal_of_free]

theorem State.bankRefused_kept {r0 : State} (s : State) (b : Nat) (hk : Kept r0 s) : Kept r0 (State.bankRefused s b) := by
  unfold State.bankRefused
  simp only [hk, State.bankCause_kept]

theorem State.judgeChannel_kept {r0 : State} (s : State) (old : State) (c : Nat) (ho : Kept r0 old) (hk : Kept r0 s) : Kept r0 (State.judgeChannel s old c).2 := by
  unfold State.judgeChannel
  simp (maxDischargeDepth := 200) +decide only [ho, hk, kept_put, kept_ite_snd, Obj.legal_of_free, State.bankRefused_kept, State.keepOld_kept]

theorem State.judgeScan_kept {r0 : State} (s : State) (old : State) (b : Nat) (ho : Kept r0 old) (hk : Kept r0 s) : Kept r0 (State.judgeScan s old b).2 := by
  unfold State.judgeScan
  simp (maxDischargeDepth := 200) +decide only [ho, hk, kept_put, kept_ite_snd, Obj.legal_of_free, State.bankRefused_kept, State.keepOld_kept]

theorem State.freshTrier_kept {r0 : State} (s : State) (old : State) (t : Nat) (hk : Kept r0 s) : Kept r0 (State.freshTrier s old t) := by
  unfold State.freshTrier
  simp +decide only [hk, kept_put, kept_ite]

theorem State.judgeTrier_kept {r0 : State} (s : State) (old : State) (t : Nat) (ho : Kept r0 old) (hk : Kept r0 s) : Kept r0 (State.judgeTrier s old t).2 := by
  unfold State.judgeTrier
  simp (maxDischargeDepth := 200) +decide only [ho, hk, kept_put, kept_ite_snd, Obj.legal_of_free, State.keepOld_kept, State.trierCause_kept]

theorem State.judgeCjc_kept {r0 : State} (s : State) (old : State) (b : Nat) (ho : Kept r0 old) (hk : Kept r0 s) : Kept r0 (State.judgeCjc s old b).2 := by
  unfold State.judgeCjc
  simp (maxDischargeDepth := 200) only [ho, hk, kept_ite_snd, State.bankRefused_kept, State.keepOld_kept]

theorem State.judgeHarp_kept {r0 : State} (s : State) (old : State) (b : Nat) (ho : Kept r0 old) (hk : Kept r0 s) : Kept r0 (State.judgeHarp s old b).2 := by
  unfold State.judgeHarp
  simp (maxDischargeDepth := 200) only [ho, hk, kept_ite_snd, State.bankRefused_kept, State.keepOld_kept, State.laneCause_kept]

theorem State.judgeUnit_kept {r0 : State} (s : State) (old : State) (u : Nat) (ho : Kept r0 old) (hk : Kept r0 s) : Kept r0 (State.judgeUnit s old u).2 := by
  unfold State.judgeUnit
  repeat' first
    | (simp (maxDischargeDepth := 200) +decide only [ho, hk, kept_put, kept_ite_snd, Obj.legal_of_free, State.keepOld_kept, State.unitCause_kept]; done)
    | split

theorem State.pressRefused_kept {r0 : State} (s : State) (old : State) (unit : Nat) (keys : List (Obj × Nat)) (bad : Obj × Nat) (ho : Kept r0 old) (hk : Kept r0 s) : Kept r0 (State.pressRefused s old unit keys bad).2 := by
  unfold State.pressRefused
  simp (maxDischargeDepth := 200) +decide only [ho, hk, kept_put, Obj.legal_of_free, State.keepOld_kept, State.pressCause_kept]

theorem State.judgePress_kept {r0 : State} (s : State) (old : State) (unit : Nat) (keys : List (Obj × Nat)) (bad : List ((Obj × Nat) × Bool)) (ho : Kept r0 old) (hk : Kept r0 s) : Kept r0 (State.judgePress s old unit keys bad).2 := by
  unfold State.judgePress
  repeat' first
    | (simp only [ho, hk, State.pressRefused_kept]; done)
    | split

theorem State.judgeStream_kept {r0 : State} (s : State) (old : State) (b : Nat) (ho : Kept r0 old) (hk : Kept r0 s) : Kept r0 (State.judgeStream s old b).2 := by
  unfold State.judgeStream
  simp only [ho, hk, State.judgePress_kept]

theorem State.judgeHist_kept {r0 : State} (s : State) (old : State) (h : Nat) (ho : Kept r0 old) (hk : Kept r0 s) : Kept r0 (State.judgeHist s old h).2 := by
  unfold State.judgeHist
  simp only [ho, hk, State.judgePress_kept]

theorem State.judgeQueues_kept {r0 : State} (s : State) (old : State) (ho : Kept r0 old) (hk : Kept r0 s) : Kept r0 (State.judgeQueues s old).2 := by
  unfold State.judgeQueues
  repeat' first
    | (simp (maxDischargeDepth := 200) +decide only [ho, hk, kept_put, Obj.legal_of_free, State.cause_kept, State.keepOld_kept]; done)
    | dsimp only
    | split

theorem State.judgeTwin_kept {r0 : State} (s : State) (old : State) (ho : Kept r0 old) (hk : Kept r0 s) : Kept r0 (State.judgeTwin s old).2 := by
  unfold State.judgeTwin
  simp (maxDischargeDepth := 200) only [ho, hk, kept_ite_snd, State.keepOld_kept]

theorem judgeAll_kept {r0 : State} (n : Nat) (f : State → Nat → Bool × State) (x : Bool × State)
    (ho : ∀ (s : State) (i : Nat), Kept r0 s → Kept r0 (f s i).2) (hk : Kept r0 x.2) : Kept r0 (judgeAll n f x).2 := by
  unfold judgeAll
  refine kept_foldl_snd (fun a i h => ?_) _ hk
  have k := ho a.2 i h
  generalize f a.2 i = q at k ⊢
  exact k

theorem State.judgeCommit_kept {r0 : State} (old : State) (hk : Kept r0 old) : Kept r0 (State.judgeCommit old).2 := by
  unfold State.judgeCommit
  simp (maxDischargeDepth := 200) +contextual only [hk, implies_true, State.freshTrier_kept, State.judgeChannel_kept, State.judgeCjc_kept, State.judgeHarp_kept, State.judgeHist_kept, State.judgeQueues_kept, State.judgeScan_kept, State.judgeStream_kept, State.judgeTrier_kept, State.judgeTwin_kept, State.judgeUnit_kept, State.withStaged_kept, judgeAll_kept]

theorem State.commitChain_kept {r0 : State} (s : State) (old : State) (c : Nat) (g : Int) (hk : Kept r0 s) : Kept r0 (State.commitChain s old c g) := by
  unfold State.commitChain
  simp (maxDischargeDepth := 200) only [hk, kept_ite, State.changePreset_kept, State.logCfg_kept, State.logExc_kept, State.pressCut_kept, State.setChan_kept]

theorem State.commitSpan_kept {r0 : State} (s : State) (old : State) (c : Nat) (g : Int) (hk : Kept r0 s) : Kept r0 (State.commitSpan s old c g) := by
  unfold State.commitSpan
  repeat' first
    | (simp (maxDischargeDepth := 200) only [hk, kept_ite, State.dividerSwitch_kept, State.mergeSpan_kept, State.wheySpan_kept]; done)
    | split

theorem State.commitPresence_kept {r0 : State} (s : State) (old : State) (c : Nat) (g : Int) (hk : Kept r0 s) : Kept r0 (State.commitPresence s old c g) := by
  unfold State.commitPresence
  simp (maxDischargeDepth := 200) +decide only [hk, kept_put, kept_ite, Obj.legal_of_free, State.endMarks_kept, State.enterLost_kept, State.requalify_kept, State.setChan_kept]

theorem State.commitChannel_kept {r0 : State} (s old : State) (c : Nat) (g : Int) (hk : Kept r0 s) :
    Kept r0 (State.commitChannel s old c g) :=
  State.commitPresence_kept _ _ _ _ (State.commitSpan_kept _ _ _ _ (State.commitChain_kept _ _ _ _ hk))

theorem State.commitBank_kept {r0 : State} (s : State) (old : State) (b : Nat) (g : Int) (hk : Kept r0 s) : Kept r0 (State.commitBank s old b g) := by
  unfold State.commitBank
  simp (maxDischargeDepth := 200) +contextual +decide only [hk, kept_put, kept_ite, kept_foldl, implies_true, State.linkStart_kept, State.linkStop_kept, State.planCommit_kept, State.requalify_kept, State.scanBegin_kept, State.scanStop_kept, State.spareStart_kept, State.spareStop_kept, State.wheySpan_kept]

theorem State.commitLane_kept {r0 : State} (s : State) (old : State) (b : Nat) (g : Int) (hk : Kept r0 s) : Kept r0 (State.commitLane s old b g) := by
  unfold State.commitLane
  simp (maxDischargeDepth := 200) +contextual +decide only [hk, kept_put, kept_ite, kept_foldl, Obj.legal_of_free, implies_true, State.changeCoef_kept, State.requestSwap_kept]

theorem State.commitPress_kept {r0 : State} (s : State) (old : State) (g : Int) (hk : Kept r0 s) : Kept r0 (State.commitPress s old g) := by
  unfold State.commitPress
  simp (maxDischargeDepth := 200) +contextual only [hk, kept_mk, kept_ite, kept_foldl, implies_true, State.histBegin_kept, State.histEnd_kept, State.logHist_kept, State.notePasses_kept, State.pressCut_kept]

theorem State.commitGroup_kept {r0 : State} (s : State) (old : State) (r : Nat) (g : Int) (hk : Kept r0 s) : Kept r0 (State.commitGroup s old r g) := by
  unfold State.commitGroup
  simp (maxDischargeDepth := 200) only [hk, kept_ite, State.armGroup_kept, State.cutGroup_kept, State.groupCause_kept, State.showGroup_kept, State.withRegion_kept]

theorem State.commitRennet_kept {r0 : State} (s : State) (old : State) (g : Int) (hk : Kept r0 s) : Kept r0 (State.commitRennet s old g) := by
  unfold State.commitRennet
  extract_lets s1 s2 owner s3
  have k_s1 : Kept r0 s1 := by
    dsimp only [s1]
    simp (maxDischargeDepth := 200) +contextual +decide only [hk, kept_put, kept_ite, kept_foldl, Obj.legal_of_free, implies_true, State.setUnit_kept]
  have k_s2 : Kept r0 s2 := by
    dsimp only [s2]
    simp (maxDischargeDepth := 200) +contextual +decide only [kept_foldl, implies_true, State.commitGroup_kept, k_s1]
  have k_s3 : Kept r0 s3 := by
    dsimp only [s3]
    refine kept_foldl (fun s h hk => ?_) _ k_s2
    split
    · exact kept_ite hk (State.histBind_kept _ _ _ hk)
    · exact kept_ite (State.histUnbind_kept _ _ _ hk) hk
  simp (maxDischargeDepth := 200) +contextual +decide only [kept_put, kept_ite, kept_foldl, Obj.legal_of_free, implies_true, State.setPmap_kept, k_s3]

theorem State.commitTriers_kept {r0 : State} (s : State) (old : State) (g : Int) (hk : Kept r0 s) : Kept r0 (State.commitTriers s old g) := by
  unfold State.commitTriers
  simp (maxDischargeDepth := 200) +contextual only [hk, kept_ite, kept_foldl, implies_true, State.abortItems_kept, State.noteCjc_kept, State.trierCommitted_kept]

theorem State.takeCommit_kept {r0 : State} (s : State) (old : State) (g : Int) (hk : Kept r0 s) : Kept r0 (State.takeCommit s old g) := by
  unfold State.takeCommit
  simp (maxDischargeDepth := 200) +contextual only [hk, kept_ite, kept_foldl, implies_true, State.commitBank_kept, State.commitChannel_kept, State.commitLane_kept, State.commitPress_kept, State.commitRennet_kept, State.commitTriers_kept]

theorem State.applyOwed_kept {r0 : State} (s : State) (named : Key → Bool) (g : Int) (hk : Kept r0 s) : Kept r0 (State.applyOwed s named g) := by
  unfold State.applyOwed
  simp (maxDischargeDepth := 200) +decide only [hk, kept_put, kept_mk, kept_ite, Obj.legal_of_free, State.bump_kept, State.judgeCommit_kept, State.takeCommit_kept]

theorem State.commitAt_kept {r0 : State} (s : State) (g : Int) (hk : Kept r0 s) : Kept r0 (State.commitAt s g) := by
  unfold State.commitAt
  simp (maxDischargeDepth := 200) +decide only [hk, kept_put, kept_mk, kept_ite, Obj.legal_of_free, State.bump_kept, State.clearStaging_kept, State.jrnWrite_kept, State.judgeCommit_kept, State.takeCommit_kept]

theorem State.coming_kept {r0 : State} (s : State) (comes : Bool) (hk : Kept r0 s) : Kept r0 (State.coming s comes) := by
  unfold State.coming
  simp (maxDischargeDepth := 200) only [hk, kept_mk, kept_ite, State.judgeCommit_kept]

theorem State.disarm_kept {r0 : State} (s : State) (hk : Kept r0 s) : Kept r0 (State.disarm s) := by
  unfold State.disarm
  simp (maxDischargeDepth := 200) +decide only [hk, kept_put, kept_mk, Obj.legal_of_free]

theorem State.refuseCommit_kept {r0 : State} (s : State) (e : Err) (hk : Kept r0 s) : Kept r0 (State.refuseCommit s e).2 := by
  unfold State.refuseCommit
  simp +decide only [hk, State.bump_kept]

theorem execCommitArm_kept {r0 : State} (w : Who) (g : Nat) (digest : Nat) (s : State) (hk : Kept r0 s) : KeptO r0 (execCommitArm w g digest s) := by
  unfold execCommitArm
  simp (maxDischargeDepth := 200) +contextual +decide only [hk, kept_put, kept_mk, kept_ite, kept_ite_snd, keptO_next, Obj.legal_of_free, implies_true, State.cause_kept, State.mirrorWrite_kept, State.refuseCommit_kept, asCommand_kept]

theorem execCommitCancel_kept {r0 : State} (w : Who) (g : Nat) (s : State) (hk : Kept r0 s) : KeptO r0 (execCommitCancel w g s) := by
  unfold execCommitCancel
  repeat' first
    | (simp only [hk, State.disarm_kept, State.mirrorWrite_kept]; done)
    | refine keptO_next (asCommand_kept _ _ _ _ _ _ _ (fun s hk => ?_) hk)
    | split

theorem execCommitNow_kept {r0 : State} (w : Who) (digest : Nat) (s : State) (hk : Kept r0 s) : KeptO r0 (execCommitNow w digest s) := by
  unfold execCommitNow
  simp (maxDischargeDepth := 200) +contextual only [hk, kept_mk, kept_ite_snd, keptO_next, implies_true, State.commitAt_kept, State.refuseCommit_kept, asCommand_kept]

theorem State.dueCommit_kept {r0 : State} (s : State) (hk : Kept r0 s) : Kept r0 (State.dueCommit s) := by
  unfold State.dueCommit
  repeat' first
    | (simp only [hk, State.commitAt_kept, State.disarm_kept]; done)
    | split

theorem State.commitFirst_kept {r0 : State} (s : State) (hk : Kept r0 s) : Kept r0 (State.commitFirst s) := by
  unfold State.commitFirst
  simp (maxDischargeDepth := 200) only [hk, kept_ite, State.dueCommit_kept, State.judgeWaiting_kept, State.pressEmit_kept]

theorem execScheduledCommitDue_kept {r0 : State} (s : State) (hk : Kept r0 s) : KeptO r0 (execScheduledCommitDue s) := by
  unfold execScheduledCommitDue
  simp only [hk, State.commitFirst_kept, settled_kept]

theorem execStageDiscard_kept {r0 : State} (w : Who) (s : State) (hk : Kept r0 s) : KeptO r0 (execStageDiscard w s) := by
  unfold execStageDiscard
  simp (maxDischargeDepth := 200) +contextual only [hk, kept_ite_snd, keptO_next, implies_true, State.clearStaging_kept, asCommand_kept]

theorem execRestoreDefaults_kept {r0 : State} (w : Who) (s : State) (hk : Kept r0 s) : KeptO r0 (execRestoreDefaults w s) := by
  unfold execRestoreDefaults
  simp (maxDischargeDepth := 200) +contextual +decide only [hk, kept_put, kept_mk, kept_ite_snd, keptO_next, Obj.legal_of_free, implies_true, asCommand_kept]

theorem execCfgSave_kept {r0 : State} (w : Who) (s : State) (hk : Kept r0 s) : KeptO r0 (execCfgSave w s) := by
  unfold execCfgSave
  simp (maxDischargeDepth := 200) +contextual +decide only [hk, kept_put, kept_mk, keptO_next, Obj.legal_of_free, implies_true, asCommand_kept]

/-! ### Machine/LaneEnds -/

theorem execPrimingEnd_kept {r0 : State} (b : Fin 32) (s : State) (hk : Kept r0 s) : KeptO r0 (execPrimingEnd b s) := by
  unfold execPrimingEnd
  simp (maxDischargeDepth := 200) only [hk, State.commitFirst_kept, State.endPriming_kept, settled_kept]

theorem execCoefFadeEnd_kept {r0 : State} (b : Fin 32) (s : State) (hk : Kept r0 s) : KeptO r0 (execCoefFadeEnd b s) := by
  unfold execCoefFadeEnd
  simp (maxDischargeDepth := 200) only [hk, State.commitFirst_kept, State.endFade_kept, settled_kept]

theorem execSwapRequestJudged_kept {r0 : State} (b : Fin 32) (s : State) (hk : Kept r0 s) : KeptO r0 (execSwapRequestJudged b s) := by
  unfold execSwapRequestJudged
  simp (maxDischargeDepth := 200) only [hk, keptO_next, keptO_ite, State.commitFirst_kept, State.endFade_kept, State.endPriming_kept, State.judgeSwaps_kept, settled_kept]

/-! ### Machine/PowerStates -/

theorem State.caveLost_kept {r0 : State} (s : State) (hk : Kept r0 s) : Kept r0 (State.caveLost s) := by
  unfold State.caveLost
  simp +contextual only [hk, kept_mk, kept_foldl, implies_true, State.setRegion_kept]

theorem State.toVigil_kept {r0 : State} (s : State) (hk : Kept r0 s) : Kept r0 (State.toVigil s) := by
  unfold State.toVigil
  simp (maxDischargeDepth := 200) +decide only [hk, kept_put, kept_ite, State.caveLost_kept, State.requestQuiet_kept, State.setPower_kept]

theorem State.portBack_kept {r0 : State} (s : State) (p : Nat) (hk : Kept r0 s) : Kept r0 (State.portBack s p) := by
  unfold State.portBack
  simp (maxDischargeDepth := 200) only [hk, kept_ite, State.setLink_kept, State.wakePort_kept]

theorem State.timeRestarts_kept {r0 : State} (s : State) (hk : Kept r0 s) : Kept r0 (State.timeRestarts s) := by
  unfold State.timeRestarts
  simp (maxDischargeDepth := 200) +decide only [hk, kept_put, kept_mk, State.restartSource_kept]

theorem State.toRun_kept {r0 : State} (s : State) (hk : Kept r0 s) : Kept r0 (State.toRun s) := by
  unfold State.toRun
  simp (maxDischargeDepth := 200) +decide only [hk, kept_mk, kept_ite, State.caveReady_kept, State.portBack_kept, State.setPower_kept, State.timeRestarts_kept]

theorem State.bringUp_kept {r0 : State} (s : State) (hk : Kept r0 s) : Kept r0 (State.bringUp s) := by
  unfold State.bringUp
  simp (maxDischargeDepth := 200) +decide only [hk, kept_put, State.applyLaneEnable_kept]

/-! ### Machine/Acquire -/

theorem State.writeTable_kept {r0 : State} (s : State) (l : List Nat) (hk : Kept r0 s) : Kept r0 (State.writeTable s l) := by
  unfold State.writeTable
  simp (maxDischargeDepth := 200) +contextual +decide only [hk, kept_put, kept_foldl, Obj.legal_of_free, implies_true]

theorem State.tableWritten_kept {r0 : State} (s : State) (hk : Kept r0 s) : Kept r0 (State.tableWritten s) := by
  unfold State.tableWritten
  simp (maxDischargeDepth := 200) +decide only [hk, kept_put, kept_mk, kept_ite, Obj.legal_of_free]

theorem execFrameTableWrite_kept {r0 : State} (w : Who) (n : Option (Fin 256)) (v : Nat) (s : State) (hk : Kept r0 s) : KeptO r0 (execFrameTableWrite w n v s) := by
  unfold execFrameTableWrite
  repeat' first
    | (simp (maxDischargeDepth := 200) +contextual +decide only [hk, kept_put, keptO_next, Obj.legal_of_free, implies_true, State.tableWritten_kept, asWrite_kept]; done)
    | split

theorem State.judgeStart_kept {r0 : State} (s : State) (hk : Kept r0 s) : Kept r0 (State.judgeStart s).2 := by
  unfold State.judgeStart
  repeat' first
    | (simp (maxDischargeDepth := 200) +decide only [hk, kept_put, kept_ite_snd, Obj.legal_of_free, State.cause_kept, State.debugCheck_kept]; done)
    | dsimp only
    | split

theorem State.applyLayout_kept {r0 : State} (s : State) (hk : Kept r0 s) : Kept r0 (State.applyLayout s) := by
  unfold State.applyLayout
  simp (maxDischargeDepth := 200) +contextual +decide only [hk, kept_put, kept_mk, kept_ite, kept_foldl, Obj.legal_of_free, implies_true, State.cutReplay_kept, State.setRegion_kept, State.showGroup_kept]

theorem State.applyQueues_kept {r0 : State} (s : State) (hk : Kept r0 s) : Kept r0 (State.applyQueues s) := by
  unfold State.applyQueues
  simp (maxDischargeDepth := 200) +contextual only [hk, kept_ite, kept_foldl, implies_true, State.setQueue_kept]

theorem State.applyClears_kept {r0 : State} (s : State) (hk : Kept r0 s) : Kept r0 (State.applyClears s) := by
  unfold State.applyClears
  simp (maxDischargeDepth := 200) +contextual +decide only [hk, kept_put, kept_mk, kept_ite, kept_foldl, Obj.legal_of_free, implies_true, State.setBank_kept, State.spareTo_kept]

theorem State.applyModulators_kept {r0 : State} (s : State) (hk : Kept r0 s) : Kept r0 (State.applyModulators s) := by
  unfold State.applyModulators
  simp (maxDischargeDepth := 200) +contextual +decide only [hk, kept_ite, kept_foldl, implies_true, State.setBank_kept, State.spareTo_kept]

theorem State.startCommit_kept {r0 : State} (s : State) (s0 : Int) (hk : Kept r0 s) : Kept r0 (State.startCommit s s0) := by
  unfold State.startCommit
  repeat' first
    | (simp only [hk, State.commitAt_kept, State.disarm_kept]; done)
    | split

theorem State.startBank_kept {r0 : State} (s : State) (b : Nat) (s0 : Int) (hk : Kept r0 s) : Kept r0 (State.startBank s b s0) := by
  unfold State.startBank
  simp (maxDischargeDepth := 200) +contextual +decide only [hk, kept_put, kept_ite, kept_foldl, implies_true, State.enterLost_kept, State.laneStart_kept, State.linkStart_kept, State.requalify_kept, State.scanBegin_kept, State.spareStart_kept]

theorem State.startAcq_kept {r0 : State} (s : State) (hk : Kept r0 s) : Kept r0 (State.startAcq s) := by
  unfold State.startAcq
  simp (maxDischargeDepth := 200) +contextual +decide only [hk, kept_put, kept_mk, kept_ite, kept_foldl, Obj.legal_of_free, implies_true, State.applyClears_kept, State.applyLaneEnable_kept, State.applyLayout_kept, State.applyModulators_kept, State.applyOwed_kept, State.applyQueues_kept, State.debugCheck_kept, State.pressStart_kept, State.rennetStart_kept, State.setModclk_kept, State.startBank_kept, State.startCommit_kept, State.takeRef_kept, State.toRun_kept, State.twinStart_kept, State.writeTable_kept]

theorem State.tryStart_kept {r0 : State} (s : State) (w : Who) (hk : Kept r0 s) : Kept r0 (State.tryStart s w).2 := by
  unfold State.tryStart
  repeat' first
    | (simp (maxDischargeDepth := 200) +decide only [hk, kept_put, kept_mk, kept_ite_snd, Obj.legal_of_free, State.judgeStart_kept, State.startAcq_kept]; done)
    | (split <;> rename_i heq <;> replace heq := congrArg Prod.snd heq <;> dsimp only at heq <;> subst heq)

theorem execAcqStart_kept {r0 : State} (w : Who) (s : State) (hk : Kept r0 s) : KeptO r0 (execAcqStart w s) := by
  unfold execAcqStart
  simp (maxDischargeDepth := 200) +contextual only [hk, keptO_next, implies_true, State.tryStart_kept, asCommand_kept]

theorem execAutoStart_kept {r0 : State} (s : State) (hk : Kept r0 s) : KeptO r0 (execAutoStart s) := by
  unfold execAutoStart
  simp (maxDischargeDepth := 200) only [hk, kept_mk, keptO_next, keptO_ite, State.jrnCommand_kept, State.tryStart_kept]

theorem State.stopUnits_kept {r0 : State} (s : State) (hk : Kept r0 s) : Kept r0 (State.stopUnits s) := by
  unfold State.stopUnits
  simp (maxDischargeDepth := 200) +contextual only [hk, kept_mk, kept_foldl, implies_true, State.linkStop_kept, State.pressStop_kept, State.pushCaptures_kept, State.pushTriers_kept, State.rennetStop_kept, State.scanStop_kept, State.spareStop_kept, State.updTrier_kept]

theorem State.stopFrames_kept {r0 : State} (s : State) (hk : Kept r0 s) : Kept r0 (State.stopFrames s) := by
  unfold State.stopFrames
  simp (maxDischargeDepth := 200) +decide only [hk, kept_put, kept_mk, kept_ite, State.setModclk_kept, State.toRun_kept]

theorem State.stopCommits_kept {r0 : State} (s : State) (due late : Bool) (g : Int) (hk : Kept r0 s) :
    Kept r0 (State.stopCommits s due late g) := by
  unfold State.stopCommits
  extract_lets s1
  have k : Kept r0 s1 := by
    dsimp only [s1]
    split
    · split
      · exact State.commitAt_kept _ _ (State.disarm_kept _ hk)
      · exact hk
    · exact hk
  split
  · exact State.commitAt_kept _ _ k
  · exact k

theorem State.stopAcq_kept {r0 : State} (s : State) (hk : Kept r0 s) : Kept r0 (State.stopAcq s) := by
  unfold State.stopAcq
  simp (maxDischargeDepth := 200) only [hk, kept_ite, State.debugCheck_kept, State.settleLosses_kept, State.stopCommits_kept, State.stopFrames_kept, State.stopUnits_kept]

theorem execAcqStop_kept {r0 : State} (w : Who) (s : State) (hk : Kept r0 s) : KeptO r0 (execAcqStop w s) := by
  unfold execAcqStop
  simp (maxDischargeDepth := 200) +contextual only [hk, keptO_next, implies_true, State.stopAcq_kept, asCommand_kept]

/-! ### Machine/SelfTest -/

theorem State.tryRepair_kept {r0 : State} (s : State) (kind : Nat) (unit : Nat) (element : Nat) (hk : Kept r0 s) : Kept r0 (State.tryRepair s kind unit element).2 := by
  unfold State.tryRepair
  repeat' first
    | (simp only [hk, State.exhausted_kept, State.proposeRepair_kept]; done)
    | split

theorem State.withdrawRegion_kept {r0 : State} (s : State) (t : Nat) (hk : Kept r0 s) : Kept r0 (State.withdrawRegion s t) := by
  unfold State.withdrawRegion
  simp (maxDischargeDepth := 200) +contextual +decide only [hk, kept_put, kept_mk, kept_ite, kept_foldl, Obj.legal_of_free, implies_true, State.fenceBy_kept, State.loseSegment_kept, State.settleLosses_kept]

theorem State.coreFails_kept {r0 : State} (s : State) (core : Nat) (hk : Kept r0 s) : Kept r0 (State.coreFails s core) := by
  unfold State.coreFails
  simp only [hk, kept_ite, State.fenceBy_kept]

theorem State.actOn_kept {r0 : State} (s : State) (x : TestFail) (hk : Kept r0 s) : Kept r0 (State.actOn s x).2 := by
  unfold State.actOn
  repeat' first
    | (simp (maxDischargeDepth := 200) only [hk, kept_putBytes, kept_mk, kept_ite, kept_ite_snd, State.coreFails_kept, State.enterLost_kept, State.fenceBy_kept, State.setBank_kept, State.spareFailed_kept, State.tryRepair_kept, State.withdrawRegion_kept]; done)
    | split

theorem State.elementFails_kept {r0 : State} (s : State) (x : TestFail) (hk : Kept r0 s) : Kept r0 (State.elementFails s x) := by
  unfold State.elementFails
  simp (maxDischargeDepth := 200) +decide only [hk, kept_mk, State.actOn_kept, State.bump_kept, State.cause_kept]

theorem State.endRun_kept {r0 : State} (s : State) (early : Bool) (hk : Kept r0 s) : Kept r0 (State.endRun s early) := by
  unfold State.endRun
  repeat' first
    | (simp (maxDischargeDepth := 200) +decide only [hk, kept_put, kept_mk, kept_ite, Obj.legal_of_free, State.bringUp_kept, State.cause_kept, State.tryStart_kept]; done)
    | dsimp only
    | split

theorem State.startItem_kept {r0 : State} (s : State) (i : Nat) (hk : Kept r0 s) : Kept r0 (State.startItem s i) := by
  unfold State.startItem
  simp (maxDischargeDepth := 200) +decide only [hk, kept_put, kept_mk, Obj.legal_of_free]

theorem State.passItem_kept {r0 : State} (s : State) (i : Nat) (status : Nat) (hk : Kept r0 s) : Kept r0 (State.passItem s i status) := by
  unfold State.passItem
  simp (maxDischargeDepth := 200) +decide only [hk, kept_put, Obj.legal_of_free]

theorem State.beginCave_kept {r0 : State} (s : State) (hk : Kept r0 s) : Kept r0 (State.beginCave s) := by
  unfold State.beginCave
  simp (maxDischargeDepth := 200) only [hk, kept_ite, State.endRun_kept, State.passItem_kept, State.startItem_kept]

theorem State.beginItem_kept {r0 : State} (s : State) (i : Nat) (hk : Kept r0 s) : Kept r0 (State.beginItem s i) := by
  unfold State.beginItem
  simp (maxDischargeDepth := 200) only [hk, kept_ite, State.beginCave_kept, State.endRun_kept, State.passItem_kept, State.startItem_kept]

theorem State.beginRun_kept {r0 : State} (s : State) (origin : Int) (last : Nat) (hk : Kept r0 s) : Kept r0 (State.beginRun s origin last) := by
  unfold State.beginRun
  simp (maxDischargeDepth := 200) +decide only [hk, kept_put, kept_mk, Obj.legal_of_free, State.beginItem_kept]

theorem State.endItem_kept {r0 : State} (s : State) (i : Nat) (whole : Bool) (hk : Kept r0 s) : Kept r0 (State.endItem s i whole) := by
  unfold State.endItem
  simp (maxDischargeDepth := 200) +decide only [hk, kept_put, Obj.legal_of_free]

theorem State.nextItem_kept {r0 : State} (s : State) (i : Nat) (hk : Kept r0 s) : Kept r0 (State.nextItem s i) := by
  unfold State.nextItem
  simp only [hk, kept_ite, State.beginItem_kept, State.endRun_kept]

theorem State.regionStep_kept {r0 : State} (s : State) (hk : Kept r0 s) : Kept r0 (State.regionStep s) := by
  unfold State.regionStep
  simp (maxDischargeDepth := 200) +decide only [hk, kept_put, kept_ite, Obj.legal_of_free]

theorem State.testStep_kept {r0 : State} (s : State) (compare : Nat) (failed : List TestFail) (hk : Kept r0 s) : Kept r0 (State.testStep s compare failed) := by
  unfold State.testStep
  simp (maxDischargeDepth := 200) +contextual +decide only [hk, kept_put, kept_mk, kept_ite, kept_foldl, implies_true, State.cause_kept, State.elementFails_kept, State.endItem_kept, State.nextItem_kept, State.regionStep_kept]

theorem execTestStepEnd_kept {r0 : State} (compare : Nat) (failed : List TestFail) (s : State) (hk : Kept r0 s) : KeptO r0 (execTestStepEnd compare failed s) := by
  unfold execTestStepEnd
  simp (maxDischargeDepth := 200) only [hk, keptO_next, keptO_ite, State.testStep_kept]

theorem State.runOnDemand_kept {r0 : State} (s : State) (last : Nat) (hk : Kept r0 s) : Kept r0 (State.runOnDemand s last).2 := by
  unfold State.runOnDemand
  simp only [hk, kept_ite_snd, State.beginRun_kept]

theorem execStRunQuick_kept {r0 : State} (w : Who) (s : State) (hk : Kept r0 s) : KeptO r0 (execStRunQuick w s) := by
  unfold execStRunQuick
  simp (maxDischargeDepth := 200) +contextual only [hk, keptO_next, implies_true, State.runOnDemand_kept, asCommand_kept]

theorem execStRunFull_kept {r0 : State} (w : Who) (s : State) (hk : Kept r0 s) : KeptO r0 (execStRunFull w s) := by
  unfold execStRunFull
  simp (maxDischargeDepth := 200) +contextual only [hk, keptO_next, implies_true, State.runOnDemand_kept, asCommand_kept]

theorem execStStop_kept {r0 : State} (w : Who) (s : State) (hk : Kept r0 s) : KeptO r0 (execStStop w s) := by
  unfold execStStop
  simp (maxDischargeDepth := 200) +contextual only [hk, kept_mk, kept_ite, keptO_next, implies_true, asCommand_kept]

theorem execRepairAccept_kept {r0 : State} (w : Who) (s : State) (hk : Kept r0 s) : KeptO r0 (execRepairAccept w s) := by
  unfold execRepairAccept
  repeat' first
    | (simp +decide only [hk, kept_put, Obj.legal_of_free, State.exhausted_kept, State.writeRepair_kept]; done)
    | refine keptO_next (asCommand_kept _ _ _ _ _ _ _ (fun s hk => ?_) hk)
    | split

theorem execRepairClear_kept {r0 : State} (w : Who) (n : Nat) (s : State) (hk : Kept r0 s) : KeptO r0 (execRepairClear w n s) := by
  unfold execRepairClear
  simp (maxDischargeDepth := 200) +contextual only [hk, kept_mk, kept_ite_snd, keptO_next, implies_true, asCommand_kept]

theorem execRepairFuse_kept {r0 : State} (w : Who) (n : Nat) (s : State) (hk : Kept r0 s) : KeptO r0 (execRepairFuse w n s) := by
  unfold execRepairFuse
  repeat' first
    | (simp only [hk, kept_mk, kept_ite_snd]; done)
    | refine keptO_next (asCommand_kept _ _ _ _ _ _ _ (fun s hk => ?_) hk)
    | split

theorem execFuseBlowDone_kept {r0 : State} (good : Bool) (s : State) (hk : Kept r0 s) : KeptO r0 (execFuseBlowDone good s) := by
  unfold execFuseBlowDone
  repeat' first
    | (simp (maxDischargeDepth := 200) +decide only [hk, kept_put, kept_mk, keptO_next, keptO_ite, Obj.legal_of_free, State.bump_kept, State.cause_kept, State.draw_kept]; done)
    | split

theorem execMramPatrol_kept {r0 : State} (corrected : Nat) (bad : Nat) (s : State) (hk : Kept r0 s) : KeptO r0 (execMramPatrol corrected bad s) := by
  unfold execMramPatrol
  simp (maxDischargeDepth := 200) +decide only [hk, kept_ite, keptO_next, keptO_ite, State.add32_kept, State.cause_kept]

theorem execLifeRecordUpdate_kept {r0 : State} (s : State) (hk : Kept r0 s) : KeptO r0 (execLifeRecordUpdate s) := by
  unfold execLifeRecordUpdate
  simp (maxDischargeDepth := 200) +decide only [hk, kept_putBytes, kept_mk, keptO_next, keptO_ite, State.add32_kept, State.bump_kept]

theorem execStCauseClear_kept {r0 : State} (w : Who) (mask : Nat) (s : State) (hk : Kept r0 s) : KeptO r0 (execStCauseClear w mask s) := by
  unfold execStCauseClear
  simp +decide only [hk, keptO_next, clearCommand_kept]

/-! ### Machine/Startup -/

theorem State.showVersions_kept {r0 : State} (s : State) (hk : Kept r0 s) : Kept r0 (State.showVersions s) := by
  unfold State.showVersions
  simp (maxDischargeDepth := 200) +decide only [hk, kept_put, Obj.legal_of_free]

theorem Obj.legal_dflt (o : Obj) (i : Nat) : o.legal (o.dflt i) = true := by
  by_cases h : o.greatestCode.isNone = true
  · exact Obj.legal_of_free o _ h
  · cases o <;> first | (exact absurd rfl h) | rfl

theorem Sparse.get_of_not_mem {κ α : Type} [DecidableEq κ] (d : κ → α) (l : List (κ × α)) (k : κ)
    (h : ∀ a ∈ l, a.1 ≠ k) : Sparse.get d l k = d k := by
  induction l with
  | nil => rfl
  | cons a t ih =>
    have ha := h a List.mem_cons_self
    have ht := ih (fun b hb => h b (List.mem_cons_of_mem _ hb))
    grind [Sparse.get]

/-- A read of a part of a table that depends on the key alone. -/
theorem Sparse.get_filter {κ α : Type} [DecidableEq κ] (d : κ → α) (p : κ → Bool) (l : List (κ × α)) (k : κ) :
    Sparse.get d (l.filter (fun x => p x.1)) k = if p k then Sparse.get d l k else d k := by
  split
  · rename_i hp
    induction l with
    | nil => rfl
    | cons a t ih =>
      rw [List.filter_cons]
      grind [Sparse.get]
  · rename_i hp
    refine Sparse.get_of_not_mem _ _ _ (fun a ha e => hp ?_)
    rw [← e]
    exact (List.mem_filter.1 ha).2

theorem State.resetCore_kept {r0 : State} (s : State) (hk : Kept r0 s) : Kept r0 (State.resetCore s) := by
  refine hk.trans ⟨rfl, fun c => ⟨?_, fun o i => ?_⟩⟩
  · have hc := c.canonical
    simp only [State.canonical, Bool.and_eq_true] at *
    exact ⟨Sparse.wf_filter _ hc.1, Sparse.wf_filter _ hc.2⟩
  · have e : (State.resetCore s).get o i = if o.survives then s.get o i else o.dflt i :=
      Sparse.get_filter objDefault (fun k => k.obj.survives) s.obj ⟨o, i⟩
    rw [e]
    split
    · exact c.modes o i
    · exact Obj.legal_dflt o i

theorem State.endReopen_kept {r0 : State} (s : State) (hk : Kept r0 s) : Kept r0 (State.endReopen s) := by
  unfold State.endReopen
  simp (maxDischargeDepth := 200) +decide only [hk, kept_put, kept_mk, kept_ite]

theorem State.beginBoot_kept {r0 : State} (s : State) (hk : Kept r0 s) : Kept r0 (State.beginBoot s) := by
  unfold State.beginBoot
  simp (maxDischargeDepth := 200) +decide only [hk, kept_put, kept_mk, Obj.legal_of_free]

theorem State.restart_kept {r0 : State} (s : State) (cause : Nat) (hk : Kept r0 s) : Kept r0 (State.restart s cause) := by
  unfold State.restart
  simp (maxDischargeDepth := 200) only [hk, kept_mk, kept_ite, State.beginBoot_kept, State.resetCore_kept]

theorem State.enterOff_kept {r0 : State} (s : State) (cause : Int) (hk : Kept r0 s) : Kept r0 (State.enterOff s cause) := by
  unfold State.enterOff
  simp (maxDischargeDepth := 200) +decide only [hk, kept_put, kept_mk, Obj.legal_of_free, State.endReopen_kept, State.resetCore_kept]

theorem execKeeperPor_kept {r0 : State} (s : State) (hk : Kept r0 s) : KeptO r0 (execKeeperPor s) := by
  unfold execKeeperPor
  simp (maxDischargeDepth := 200) +decide only [hk, kept_put, kept_mk, keptO_next, Obj.legal_of_free, State.enterOff_kept]

theorem execRstNAssert_kept {r0 : State} (held : Nat) (s : State) (hk : Kept r0 s) : KeptO r0 (execRstNAssert held s) := by
  unfold execRstNAssert
  simp (maxDischargeDepth := 200) +decide only [hk, kept_put, kept_mk, kept_ite_snd, keptO_next, keptO_ite, Obj.legal_of_free, State.draw_kept, State.endReopen_kept, State.resetCore_kept]

theorem execRstNRelease_kept {r0 : State} (s : State) (hk : Kept r0 s) : KeptO r0 (execRstNRelease s) := by
  unfold execRstNRelease
  simp (maxDischargeDepth := 200) only [hk, kept_mk, keptO_next, keptO_ite, State.beginBoot_kept]

theorem execVddCoreSettled_kept {r0 : State} (s : State) (hk : Kept r0 s) : KeptO r0 (execVddCoreSettled s) := by
  unfold execVddCoreSettled
  simp (maxDischargeDepth := 200) only [hk, kept_mk, keptO_next, keptO_ite, State.beginBoot_kept]

theorem State.runImage_kept {r0 : State} (s : State) (slot : Nat) (hk : Kept r0 s) : Kept r0 (State.runImage s slot) := by
  unfold State.runImage
  simp (maxDischargeDepth := 200) +decide only [hk, kept_put, kept_mk, kept_ite, Obj.legal_of_free, State.showVersions_kept]

theorem execBootComplete_kept {r0 : State} (bad : List (Fin 2)) (s : State) (hk : Kept r0 s) : KeptO r0 (execBootComplete bad s) := by
  unfold execBootComplete
  simp (maxDischargeDepth := 200) +decide only [hk, kept_put, kept_mk, keptO_next, keptO_ite, Obj.legal_of_free, State.runImage_kept]

theorem State.bootCauses_kept {r0 : State} (s : State) (hk : Kept r0 s) : Kept r0 (State.bootCauses s) := by
  unfold State.bootCauses
  simp (maxDischargeDepth := 200) +contextual +decide only [hk, kept_mk, kept_foldl, implies_true, State.cause_kept]

theorem State.loadConfig_kept {r0 : State} (s : State) (bad : Bool) (hk : Kept r0 s) : Kept r0 (State.loadConfig s bad) := by
  unfold State.loadConfig
  split
  · exact kept_mk (kept_put hk _ _ _ rfl)
  · split
    · refine kept_mk (kept_foldl (fun s x hk => ?_) _ hk)
      split
      · exact hk
      · rename_i h
        simp only [Bool.or_eq_true, not_or, Bool.not_eq_true] at h
        exact State.setValue_kept _ _ _ _ (info_free _ (.inl h.2)) hk
    · exact hk

theorem State.loadRepairs_kept {r0 : State} (s : State) (x : BootFound) (hk : Kept r0 s) : Kept r0 (State.loadRepairs s x) := by
  unfold State.loadRepairs
  simp (maxDischargeDepth := 200) +contextual +decide only [hk, kept_put, kept_putBytes, kept_mk, kept_ite, kept_foldl, Obj.legal_of_free, implies_true, State.add32_kept, State.applyModulators_kept]

theorem State.openJournal_kept {r0 : State} (s : State) (hk : Kept r0 s) : Kept r0 (State.openJournal s) := by
  unfold State.openJournal
  simp (maxDischargeDepth := 200) +decide only [hk, kept_mk, State.bump_kept, State.jrnAnchor_kept, State.jrnWrite_kept]

theorem execInitComplete_kept {r0 : State} (x : BootFound) (s : State) (hk : Kept r0 s) : KeptO r0 (execInitComplete x s) := by
  unfold execInitComplete
  simp (maxDischargeDepth := 200) +decide only [hk, kept_put, kept_mk, kept_ite, keptO_next, keptO_ite, State.alignPps_kept, State.beginRun_kept, State.bootCauses_kept, State.bringUp_kept, State.cause_kept, State.jrnWrite_kept, State.keeperClock_kept, State.loadConfig_kept, State.loadRepairs_kept, State.openJournal_kept, State.ptpBegin_kept, State.takeRef_kept]

theorem State.rebuildRing_kept {r0 : State} (s : State) (hk : Kept r0 s) : Kept r0 (State.rebuildRing s) := by
  unfold State.rebuildRing
  simp (maxDischargeDepth := 200) +contextual +decide only [hk, kept_put, kept_mk, kept_foldl, Obj.legal_of_free, implies_true]

theorem State.writeIndex_kept {r0 : State} (s : State) (v : Key × Int → Int) (hk : Kept r0 s) :
    Kept r0 (State.writeIndex s v) := by
  unfold State.writeIndex
  refine kept_foldl (fun s e hk => ?_) _ hk
  split
  · rename_i h
    refine kept_put hk _ _ _ (Obj.legal_of_free _ _ ?_)
    unfold Obj.inIndex at h
    split at h <;> first | contradiction | (rename_i q; rw [q]; rfl)
  · exact hk

theorem State.takeCave_kept {r0 : State} (s : State) (x : CaveFound) (hk : Kept r0 s) : Kept r0 (State.takeCave s x) := by
  unfold State.takeCave
  simp (maxDischargeDepth := 200) +contextual only [hk, kept_mk, kept_ite, kept_foldl, implies_true, State.loseSegment_kept, State.rebuildRing_kept, State.writeIndex_kept]

theorem State.becomeReady_kept {r0 : State} (s : State) (hk : Kept r0 s) : Kept r0 (State.becomeReady s) := by
  unfold State.becomeReady
  simp (maxDischargeDepth := 200) +decide only [hk, kept_put, kept_mk, kept_ite, Obj.legal_of_free, State.settleLosses_kept, State.startMirror_kept, State.toVigil_kept]

theorem State.defaultLayout_kept {r0 : State} (s : State) (fitted : Nat) (hk : Kept r0 s) : Kept r0 (State.defaultLayout s fitted) := by
  unfold State.defaultLayout
  simp (maxDischargeDepth := 200) +decide only [hk, kept_put, kept_ite, Obj.legal_of_free]

theorem execCaveTrainingDone_kept {r0 : State} (x : CaveFound) (s : State) (hk : Kept r0 s) : KeptO r0 (execCaveTrainingDone x s) := by
  unfold execCaveTrainingDone
  simp (maxDischargeDepth := 200) +decide only [hk, kept_put, kept_mk, keptO_next, keptO_ite, Obj.legal_of_free, State.becomeReady_kept, State.defaultLayout_kept, State.takeCave_kept]

theorem execRegionRestoreDone_kept {r0 : State} (s : State) (hk : Kept r0 s) : KeptO r0 (execRegionRestoreDone s) := by
  unfold execRegionRestoreDone
  simp (maxDischargeDepth := 200) +decide only [hk, kept_put, kept_mk, keptO_next, keptO_ite, Obj.legal_of_free, State.becomeReady_kept, State.nextItem_kept]

theorem execCoreWatchdogExpiry_kept {r0 : State} (core : Fin 2) (s : State) (hk : Kept r0 s) : KeptO r0 (execCoreWatchdogExpiry core s) := by
  unfold execCoreWatchdogExpiry
  simp (maxDischargeDepth := 200) only [hk, keptO_next, keptO_ite, State.fenceBy_kept, State.restart_kept]

/-! ### Machine/Power -/

theorem State.powerRefused_kept {r0 : State} (s : State) (hk : Kept r0 s) : Kept r0 (State.powerRefused s).2 := by
  unfold State.powerRefused
  simp +decide only [hk, State.cause_kept]

theorem State.dropRun_kept {r0 : State} (s : State) (hk : Kept r0 s) : Kept r0 (State.dropRun s) := by
  unfold State.dropRun
  simp (maxDischargeDepth := 200) +decide only [hk, kept_put, kept_ite, Obj.legal_of_free, State.cause_kept, State.endItem_kept]

theorem State.sealPort_kept {r0 : State} (s : State) (p : Nat) (hk : Kept r0 s) : Kept r0 (State.sealPort s p) := by
  unfold State.sealPort
  simp (maxDischargeDepth := 200) only [hk, kept_ite, State.keepKill_kept, State.sealOff_kept, State.sendNeighbour_kept]

theorem State.beginSealing_kept {r0 : State} (s : State) (hk : Kept r0 s) : Kept r0 (State.beginSealing s) := by
  unfold State.beginSealing
  simp (maxDischargeDepth := 200) +decide only [hk, kept_mk, kept_ite, State.beginRun_kept, State.dropRun_kept, State.sealPort_kept, State.setPower_kept, State.stopAcq_kept]

theorem State.shutDown_kept {r0 : State} (s : State) (hk : Kept r0 s) : Kept r0 (State.shutDown s) := by
  unfold State.shutDown
  simp (maxDischargeDepth := 200) only [hk, kept_mk, kept_ite, State.beginSealing_kept, State.standDown_kept, State.startHandover_kept]

theorem State.leaveCheck_kept {r0 : State} (s : State) (hk : Kept r0 s) : Kept r0 (State.leaveCheck s) := by
  unfold State.leaveCheck
  simp (maxDischargeDepth := 200) only [hk, kept_ite, State.beginSealing_kept, State.standDown_kept]

theorem execPwrRequestOff_kept {r0 : State} (w : Who) (s : State) (hk : Kept r0 s) : KeptO r0 (execPwrRequestOff w s) := by
  unfold execPwrRequestOff
  simp (maxDischargeDepth := 200) +contextual only [hk, kept_ite_snd, keptO_next, implies_true, State.powerRefused_kept, State.shutDown_kept, asCommand_kept]

theorem execPwrRequestOffDataLoss_kept {r0 : State} (w : Who) (s : State) (hk : Kept r0 s) : KeptO r0 (execPwrRequestOffDataLoss w s) := by
  unfold execPwrRequestOffDataLoss
  simp (maxDischargeDepth := 200) +contextual only [hk, kept_ite_snd, keptO_next, implies_true, State.powerRefused_kept, State.shutDown_kept, asCommand_kept]

theorem execPwrRequestRun_kept {r0 : State} (w : Who) (s : State) (hk : Kept r0 s) : KeptO r0 (execPwrRequestRun w s) := by
  unfold execPwrRequestRun
  simp (maxDischargeDepth := 200) +contextual only [hk, keptO_next, implies_true, State.toRun_kept, asCommand_kept]

theorem State.toDim_kept {r0 : State} (s : State) (hk : Kept r0 s) : Kept r0 (State.toDim s) := by
  unfold State.toDim
  simp (maxDischargeDepth := 200) +decide only [hk, kept_put, kept_ite, State.setPower_kept]

theorem execPwrRequestDim_kept {r0 : State} (w : Who) (s : State) (hk : Kept r0 s) : KeptO r0 (execPwrRequestDim w s) := by
  unfold execPwrRequestDim
  simp (maxDischargeDepth := 200) +contextual only [hk, kept_ite_snd, keptO_next, implies_true, State.powerRefused_kept, State.toDim_kept, asCommand_kept]

theorem execPwrRequestVigil_kept {r0 : State} (w : Who) (s : State) (hk : Kept r0 s) : KeptO r0 (execPwrRequestVigil w s) := by
  unfold execPwrRequestVigil
  simp (maxDischargeDepth := 200) +contextual only [hk, kept_ite_snd, keptO_next, implies_true, State.powerRefused_kept, State.toVigil_kept, asCommand_kept]

theorem execPwrAutoDelayExpiry_kept {r0 : State} (s : State) (hk : Kept r0 s) : KeptO r0 (execPwrAutoDelayExpiry s) := by
  unfold execPwrAutoDelayExpiry
  simp (maxDischargeDepth := 200) only [hk, keptO_next, keptO_ite, State.toVigil_kept]

theorem State.wakeUp_kept {r0 : State} (s : State) (cause : Nat) (hk : Kept r0 s) : Kept r0 (State.wakeUp s cause) := by
  unfold State.wakeUp
  simp only [hk, kept_mk]

theorem execSealingComplete_kept {r0 : State} (s : State) (hk : Kept r0 s) : KeptO r0 (execSealingComplete s) := by
  unfold execSealingComplete
  repeat' first
    | (simp (maxDischargeDepth := 200) only [hk, keptO_next, State.enterOff_kept, State.wakeUp_kept]; done)
    | split

theorem State.wakeSource_kept {r0 : State} (s : State) (cause : Nat) (hk : Kept r0 s) : Kept r0 (State.wakeSource s cause) := by
  unfold State.wakeSource
  simp (maxDischargeDepth := 200) only [hk, kept_mk, kept_ite, State.wakeUp_kept]

theorem execWakeNWake_kept {r0 : State} (s : State) (hk : Kept r0 s) : KeptO r0 (execWakeNWake s) := by
  unfold execWakeNWake
  simp (maxDischargeDepth := 200) only [hk, kept_mk, keptO_next, keptO_ite, State.toRun_kept, State.wakeSource_kept]

theorem execPwrWakeAtAlarm_kept {r0 : State} (s : State) (hk : Kept r0 s) : KeptO r0 (execPwrWakeAtAlarm s) := by
  unfold execPwrWakeAtAlarm
  simp (maxDischargeDepth := 200) only [hk, keptO_next, keptO_ite, State.wakeSource_kept]

theorem execSupplyTrip_kept {r0 : State} (s : State) (hk : Kept r0 s) : KeptO r0 (execSupplyTrip s) := by
  unfold execSupplyTrip
  simp (maxDischargeDepth := 200) only [hk, keptO_next, keptO_ite, State.enterOff_kept]

theorem execThermalTrip_kept {r0 : State} (s : State) (hk : Kept r0 s) : KeptO r0 (execThermalTrip s) := by
  unfold execThermalTrip
  simp (maxDischargeDepth := 200) only [hk, keptO_next, keptO_ite, State.enterOff_kept]

theorem execDieTempSample_kept {r0 : State} (temp : Int) (s : State) (hk : Kept r0 s) : KeptO r0 (execDieTempSample temp s) := by
  unfold execDieTempSample
  simp (maxDischargeDepth := 200) +decide only [hk, kept_put, kept_ite, keptO_next, keptO_ite, Obj.legal_of_free, State.cause_kept, State.stopAcq_kept, State.toVigil_kept]

theorem execCorePllUnlock_kept {r0 : State} (s : State) (hk : Kept r0 s) : KeptO r0 (execCorePllUnlock s) := by
  unfold execCorePllUnlock
  simp (maxDischargeDepth := 200) +decide only [hk, keptO_next, keptO_ite, State.cause_kept]

theorem execCaveDimWake_kept {r0 : State} (s : State) (hk : Kept r0 s) : KeptO r0 (execCaveDimWake s) := by
  unfold execCaveDimWake
  simp (maxDischargeDepth := 200) only [hk, kept_mk, keptO_next, keptO_ite, State.caveReady_kept]

theorem State.noteCaveIdle_kept {r0 : State} (s : State) (n : Int) (hk : Kept r0 s) : Kept r0 (State.noteCaveIdle s n) := by
  unfold State.noteCaveIdle
  simp (maxDischargeDepth := 200) only [hk, kept_mk, kept_ite]

theorem execCaveDimHoldExpiry_kept {r0 : State} (s : State) (hk : Kept r0 s) : KeptO r0 (execCaveDimHoldExpiry s) := by
  unfold execCaveDimHoldExpiry
  repeat' first
    | (simp (maxDischargeDepth := 200) +decide only [hk, kept_put, kept_mk, keptO_next, keptO_ite]; done)
    | split

theorem execPwCauseClear_kept {r0 : State} (w : Who) (mask : Nat) (s : State) (hk : Kept r0 s) : KeptO r0 (execPwCauseClear w mask s) := by
  unfold execPwCauseClear
  simp +decide only [hk, keptO_next, clearCommand_kept]

end Sys2Proof.Machine
end

