-- ==== Sys2Proof/Laws/KeptAccess.lean ====
section
/-! SUPPORT. Each operation of security, the vat, the dictionary engine and the frame tick leaves the queue of commands
as it is and a sound state sound (Kept). -/

namespace Sys2Proof.Machine

open Sys2Proof

/-! ### Machine/Secure -/

theorem State.setSec_kept {r0 : State} (s : State) (v : Int) (ho : Obj.legal .SEC_STATE v = true) (hk : Kept r0 s) : Kept r0 (State.setSec s v) := by
  unfold State.setSec
  simp (maxDischargeDepth := 200) +contextual +decide only [ho, hk, kept_put, kept_ite, kept_foldl, implies_true, State.cause_kept, State.debugCheck_kept, State.endSession_kept]

theorem State.reclose_kept {r0 : State} (s : State) (hk : Kept r0 s) : Kept r0 (State.reclose s) := by
  unfold State.reclose
  simp +decide only [hk, kept_mk, State.setSec_kept]

theorem execSecClose_kept {r0 : State} (w : Who) (s : State) (hk : Kept r0 s) : KeptO r0 (execSecClose w s) := by
  unfold execSecClose
  simp (maxDischargeDepth := 200) +contextual +decide only [hk, kept_ite_snd, keptO_next, implies_true, State.cause_kept, State.setSec_kept, asCommand_kept]

theorem execSecReclose_kept {r0 : State} (w : Who) (s : State) (hk : Kept r0 s) : KeptO r0 (execSecReclose w s) := by
  unfold execSecReclose
  simp (maxDischargeDepth := 200) +contextual only [hk, kept_ite_snd, keptO_next, implies_true, State.reclose_kept, asCommand_kept]

theorem execSecRevoke_kept {r0 : State} (w : Who) (v : Nat) (s : State) (hk : Kept r0 s) : KeptO r0 (execSecRevoke w v s) := by
  unfold execSecRevoke
  simp (maxDischargeDepth := 200) +contextual +decide only [hk, kept_putBytes, kept_mk, kept_ite_snd, keptO_next, kept_foldl, implies_true, State.setSec_kept, State.stopAcq_kept, asCommand_kept]

theorem execFwKeyRevoke_kept {r0 : State} (w : Who) (k : Nat) (s : State) (hk : Kept r0 s) : KeptO r0 (execFwKeyRevoke w k s) := by
  unfold execFwKeyRevoke
  simp (maxDischargeDepth := 200) +contextual +decide only [hk, kept_put, kept_ite_snd, keptO_next, Obj.legal_of_free, implies_true, State.cause_kept, asCommand_kept]

theorem State.reopen_kept {r0 : State} (s : State) (state : Int) (granted : Nat) (ho : Obj.legal .SEC_STATE state = true) (hk : Kept r0 s) : Kept r0 (State.reopen s state granted) := by
  unfold State.reopen
  simp only [ho, hk, kept_mk, State.setSec_kept]

theorem State.passwordFails_kept {r0 : State} (s : State) (hk : Kept r0 s) : Kept r0 (State.passwordFails s) := by
  unfold State.passwordFails
  simp (maxDischargeDepth := 200) +decide only [hk, kept_put, kept_ite, Obj.legal_of_free, State.cause_kept]

theorem execReopenPassword_kept {r0 : State} (w : Who) (pw : List Byte) (s : State) (hk : Kept r0 s) : KeptO r0 (execReopenPassword w pw s) := by
  unfold execReopenPassword
  simp (maxDischargeDepth := 200) +contextual +decide only [hk, kept_put, kept_ite_snd, keptO_next, Obj.legal_of_free, implies_true, State.passwordFails_kept, State.reopen_kept, asCommand_kept]

theorem execReopenChallenge_kept {r0 : State} (w : Who) (s : State) (hk : Kept r0 s) : KeptO r0 (execReopenChallenge w s) := by
  unfold execReopenChallenge
  simp (maxDischargeDepth := 200) +contextual only [hk, kept_mk, kept_ite_snd2, keptO_next, implies_true, asRead_kept]

theorem execReopenResponse_kept {r0 : State} (w : Who) (r : List Byte) (s : State) (hk : Kept r0 s) : KeptO r0 (execReopenResponse w r s) := by
  unfold execReopenResponse
  simp (maxDischargeDepth := 200) +contextual +decide only [hk, kept_mk, kept_ite_snd, keptO_next, implies_true, State.cause_kept, State.reopen_kept, asCommand_kept]

theorem execReopenExpired_kept {r0 : State} (s : State) (hk : Kept r0 s) : KeptO r0 (execReopenExpired s) := by
  unfold execReopenExpired
  simp (maxDischargeDepth := 200) +decide only [hk, keptO_next, keptO_ite, State.cause_kept, State.jrnWrite_kept, State.reclose_kept]

theorem execPasswordSet_kept {r0 : State} (w : Who) (pw : List Byte) (s : State) (hk : Kept r0 s) : KeptO r0 (execPasswordSet w pw s) := by
  unfold execPasswordSet
  simp (maxDischargeDepth := 200) +contextual only [hk, kept_mk, kept_ite_snd, keptO_next, implies_true, asCommand_kept]

theorem State.dropTrial_kept {r0 : State} (s : State) (k : Nat) (hk : Kept r0 s) : Kept r0 (State.dropTrial s k) := by
  unfold State.dropTrial
  simp (maxDischargeDepth := 200) +decide only [hk, kept_put, kept_mk, kept_ite, Obj.legal_of_free]

theorem execFwStage_kept {r0 : State} (w : Who) (data : List Byte) (s : State) (hk : Kept r0 s) : KeptO r0 (execFwStage w data s) := by
  unfold execFwStage
  simp (maxDischargeDepth := 200) +contextual +decide only [hk, kept_put, kept_mk, kept_ite_snd, keptO_next, implies_true, State.dropTrial_kept, State.showVersions_kept, asWrite_kept]

theorem execFwVerify_kept {r0 : State} (w : Who) (s : State) (hk : Kept r0 s) : KeptO r0 (execFwVerify w s) := by
  unfold execFwVerify
  simp (maxDischargeDepth := 200) +contextual +decide only [hk, kept_put, kept_ite_snd, keptO_next, implies_true, State.cause_kept, State.showVersions_kept, asCommand_kept]

theorem State.makeTrial_kept {r0 : State} (s : State) (hk : Kept r0 s) : Kept r0 (State.makeTrial s) := by
  unfold State.makeTrial
  simp +decide only [hk, kept_put, kept_mk, Obj.legal_of_free]

theorem execFwActivateNextStart_kept {r0 : State} (w : Who) (s : State) (hk : Kept r0 s) : KeptO r0 (execFwActivateNextStart w s) := by
  unfold execFwActivateNextStart
  simp (maxDischargeDepth := 200) +contextual only [hk, kept_ite_snd, keptO_next, implies_true, State.makeTrial_kept, asCommand_kept]

theorem execFwActivateNow_kept {r0 : State} (w : Who) (s : State) (hk : Kept r0 s) : KeptO r0 (execFwActivateNow w s) := by
  unfold execFwActivateNow
  simp (maxDischargeDepth := 200) +contextual only [hk, kept_ite_snd, keptO_next, implies_true, State.makeTrial_kept, State.restart_kept, asCommand_kept]

theorem execFwConfirm_kept {r0 : State} (w : Who) (s : State) (hk : Kept r0 s) : KeptO r0 (execFwConfirm w s) := by
  unfold execFwConfirm
  simp (maxDischargeDepth := 200) +contextual +decide only [hk, kept_put, kept_ite_snd, keptO_next, Obj.legal_of_free, implies_true, State.raiseTo_kept, State.showVersions_kept, asCommand_kept]

theorem execFwTrialExpiry_kept {r0 : State} (s : State) (hk : Kept r0 s) : KeptO r0 (execFwTrialExpiry s) := by
  unfold execFwTrialExpiry
  simp (maxDischargeDepth := 200) only [hk, kept_mk, keptO_next, keptO_ite, State.restart_kept]

theorem execDebugSet_kept {r0 : State} (w : Who) (v : Nat) (s : State) (hk : Kept r0 s) : KeptO r0 (execDebugSet w v s) := by
  unfold execDebugSet
  simp (maxDischargeDepth := 200) +contextual only [hk, kept_mk, kept_ite_snd, keptO_next, implies_true, State.debugCheck_kept, asCommand_kept]

theorem execTapInstruction_kept {r0 : State} (t : Tap) (s : State) (hk : Kept r0 s) : KeptO r0 (execTapInstruction t s) := by
  unfold execTapInstruction
  simp (maxDischargeDepth := 200) +decide only [hk, kept_mk, keptO_next, keptO_ite, State.cause_kept, State.tapReset_kept]

theorem execDebugHalt_kept {r0 : State} (core : Fin 2) (s : State) (hk : Kept r0 s) : KeptO r0 (execDebugHalt core s) := by
  unfold execDebugHalt
  simp (maxDischargeDepth := 200) +decide only [hk, kept_put, kept_ite, keptO_next, keptO_ite, Obj.legal_of_free, State.coreFence_kept, State.toRun_kept]

theorem execDebugResume_kept {r0 : State} (core : Fin 2) (s : State) (hk : Kept r0 s) : KeptO r0 (execDebugResume core s) := by
  unfold execDebugResume
  simp (maxDischargeDepth := 200) +decide only [hk, kept_put, keptO_next, keptO_ite, Obj.legal_of_free]

theorem execSecCauseClear_kept {r0 : State} (w : Who) (mask : Nat) (s : State) (hk : Kept r0 s) : KeptO r0 (execSecCauseClear w mask s) := by
  unfold execSecCauseClear
  simp +decide only [hk, keptO_next, clearCommand_kept]

/-! ### Machine/Vat -/

theorem State.sendMember_kept {r0 : State} (s : State) (hk : Kept r0 s) : Kept r0 (State.sendMember s) := by
  unfold State.sendMember
  simp (maxDischargeDepth := 200) only [hk, kept_mk, State.newFrame_kept, State.sendFrame_kept]

theorem execMemberRecordSend_kept {r0 : State} (s : State) (hk : Kept r0 s) : KeptO r0 (execMemberRecordSend s) := by
  unfold execMemberRecordSend
  simp (maxDischargeDepth := 200) only [hk, keptO_next, keptO_ite, State.sendMember_kept]

theorem State.onMember_kept {r0 : State} (s : State) (f : Frame) (hk : Kept r0 s) : Kept r0 (State.onMember s f) := by
  unfold State.onMember
  simp (maxDischargeDepth := 200) only [hk, kept_mk, kept_ite, State.sendMember_kept]

theorem execMemberRecordRx_kept {r0 : State} (p : Fin 2) (f : Frame) (s : State) (hk : Kept r0 s) : KeptO r0 (execMemberRecordRx p f s) := by
  unfold execMemberRecordRx
  repeat' first
    | (simp (maxDischargeDepth := 200) only [hk, keptO_next, State.onMember_kept, State.receive_kept]; done)
    | (split <;> rename_i heq <;> replace heq := congrArg Prod.snd heq <;> dsimp only at heq <;> subst heq)
    | split

theorem execMemberRecordExpiry_kept {r0 : State} (s : State) (hk : Kept r0 s) : KeptO r0 (execMemberRecordExpiry s) := by
  unfold execMemberRecordExpiry
  simp only [hk, kept_mk, keptO_next]

theorem State.judgeSplit_kept {r0 : State} (s : State) (hk : Kept r0 s) : Kept r0 (State.judgeSplit s).2 := by
  unfold State.judgeSplit
  simp (maxDischargeDepth := 200) only [hk, kept_mk, kept_ite_snd, State.orderHoldover_kept]

theorem State.setVatState_kept {r0 : State} (s : State) (v : Int) (ho : Obj.legal .VAT_STATE v = true) (hk : Kept r0 s) : Kept r0 (State.setVatState s v) := by
  unfold State.setVatState
  simp (maxDischargeDepth := 200) +decide only [ho, hk, kept_put, kept_ite, Obj.legal_of_free, State.cause_kept, State.recover_kept]

theorem State.vatStateNow_legal (s : State) (bits : Nat) : Obj.legal .VAT_STATE (s.vatStateNow bits) = true := by
  unfold State.vatStateNow
  repeat' first
    | rfl
    | split

theorem State.judgeVat_kept {r0 : State} (s : State) (hk : Kept r0 s) : Kept r0 (State.judgeVat s) := by
  unfold State.judgeVat
  simp (maxDischargeDepth := 200) +decide only [State.vatStateNow_legal, hk, kept_put, kept_mk, Obj.legal_of_free, State.judgeSplit_kept, State.setVatState_kept]

theorem State.withdrawCandidate_kept {r0 : State} (s : State) (hk : Kept r0 s) : Kept r0 (State.withdrawCandidate s) := by
  unfold State.withdrawCandidate
  simp (maxDischargeDepth := 200) only [hk, kept_mk, kept_ite, State.sendTime_kept]

theorem execVatLeave_kept {r0 : State} (w : Who) (s : State) (hk : Kept r0 s) : KeptO r0 (execVatLeave w s) := by
  unfold execVatLeave
  simp (maxDischargeDepth := 200) +contextual +decide only [hk, kept_mk, kept_ite_snd, keptO_next, implies_true, State.setVatState_kept, State.withdrawCandidate_kept, asCommand_kept]

theorem execVatRejoin_kept {r0 : State} (w : Who) (s : State) (hk : Kept r0 s) : KeptO r0 (execVatRejoin w s) := by
  unfold execVatRejoin
  simp (maxDischargeDepth := 200) +contextual +decide only [hk, kept_mk, kept_ite_snd, keptO_next, implies_true, State.setVatState_kept, asCommand_kept]

theorem execStartLimitExpiry_kept {r0 : State} (s : State) (hk : Kept r0 s) : KeptO r0 (execStartLimitExpiry s) := by
  unfold execStartLimitExpiry
  simp (maxDischargeDepth := 200) only [hk, keptO_next, keptO_ite, State.startDone_kept]

theorem execRecoveryTicksExpiry_kept {r0 : State} (s : State) (hk : Kept r0 s) : KeptO r0 (execRecoveryTicksExpiry s) := by
  unfold execRecoveryTicksExpiry
  simp (maxDischargeDepth := 200) +decide only [hk, kept_put, keptO_next, keptO_ite]

theorem execServicePhaseNormal_kept {r0 : State} (w : Who) (s : State) (hk : Kept r0 s) : KeptO r0 (execServicePhaseNormal w s) := by
  unfold execServicePhaseNormal
  simp (maxDischargeDepth := 200) +contextual +decide only [hk, kept_put, kept_ite, keptO_next, implies_true, State.startDone_kept, asCommand_kept]

theorem execServicePhaseTest_kept {r0 : State} (w : Who) (s : State) (hk : Kept r0 s) : KeptO r0 (execServicePhaseTest w s) := by
  unfold execServicePhaseTest
  simp (maxDischargeDepth := 200) +contextual +decide only [hk, kept_put, keptO_next, implies_true, asCommand_kept]

/-! ### Machine/Dictionary -/

theorem State.ran_kept {r0 : State} (s : State) (x : Host.Outcome State Fault Refusal) (ho : KeptO r0 x) (hk : Kept r0 s) :
    Kept r0 (State.ran s x).2.2 := by
  unfold State.ran
  split
  · exact ho
  · exact hk

theorem State.readEntry_kept {r0 : State} (s : State) (w : Who) (staged : Bool) (bad : List Nat) (hurt : Bool) (r : ObjInfo) (i : Nat) (hk : Kept r0 s) : Kept r0 (State.readEntry s w staged bad hurt r i).2.2 := by
  unfold State.readEntry
  repeat' first
    | (simp only [hk, State.ran_kept, execJrnPageRead_kept, execLockRead_kept, execMbxTake_kept, execRegionDataRead_kept, execReopenChallenge_kept]; done)
    | split

theorem State.slotWord_kept {r0 : State} (s : State) (x : Slot) (hk : Kept r0 s) : Kept r0 (State.slotWord s x).2 := by
  unfold State.slotWord
  simp only [hk, kept_ite_snd, State.draw_kept]

theorem State.slotWords_kept {r0 : State} (s : State) (xs : List Slot) (hk : Kept r0 s) : Kept r0 (State.slotWords s xs).2 := by
  unfold State.slotWords
  simp +contextual only [hk, kept_foldl_snd, implies_true, State.slotWord_kept]

theorem State.takeBytes_kept {r0 : State} (s : State) (q : Nat) (hk : Kept r0 s) : Kept r0 (State.takeBytes s q).2 := by
  unfold State.takeBytes
  repeat' first
    | (simp only [hk, State.slotWords_kept, State.takePacket_kept]; done)
    | (split <;> rename_i heq <;> replace heq := congrArg Prod.snd heq <;> dsimp only at heq <;> subst heq)

theorem State.queueGive_kept {r0 : State} (s : State) (q : Nat) (room : Nat) (hk : Kept r0 s) : Kept r0 (State.queueGive s q room).2.2 := by
  unfold State.queueGive
  repeat' first
    | (simp only [hk, State.takeBytes_kept]; done)
    | split

theorem execQueueRead_kept {r0 : State} (w : Who) (q : Fin 16) (room : Nat) (s : State) (hk : Kept r0 s) :
    KeptO r0 (execQueueRead w q room s) := by
  unfold execQueueRead
  refine keptO_next (asRead_kept _ _ _ _ (fun s hk => ?_) hk)
  have h := State.abortItems_kept s [3] hk
  dsimp only
  split
  · exact State.setQueue_kept _ _ _ h
  · exact State.queueGive_kept _ _ _ h

theorem State.serveOne_kept {r0 : State} (s : State) (q : Nat) (x : Nat × Nat) (hk : Kept r0 s) : Kept r0 (State.serveOne s q x) := by
  unfold State.serveOne
  simp (maxDischargeDepth := 200) only [hk, kept_ite, State.queueGive_kept, State.reply_kept, State.setQueue_kept]

theorem State.serveWaiting_kept {r0 : State} (s : State) (q : Nat) (hk : Kept r0 s) : Kept r0 (State.serveWaiting s q) := by
  unfold State.serveWaiting
  simp +contextual only [hk, kept_foldl, implies_true, State.serveOne_kept, State.setQueue_kept]

theorem State.actOnWrite_kept {r0 : State} (s : State) (old : State) (o : Obj) (hk : Kept r0 s) : Kept r0 (State.actOnWrite s old o) := by
  unfold State.actOnWrite
  repeat' first
    | (simp +decide only [hk, kept_put, kept_mk, kept_ite, State.alignPps_kept, State.chooseDir_kept, State.keeperClock_kept, State.ptpBegin_kept, State.restartSource_kept, State.startMirror_kept]; done)
    | split

theorem State.stage_kept {r0 : State} (s : State) (k : Key) (v : Val) (hk : Kept r0 s) : Kept r0 (State.stage s k v) := by
  unfold State.stage
  simp only [hk, kept_mk]

theorem State.writePlain_kept {r0 : State} (s : State) (w : Who) (r : ObjInfo) (i : Nat) (v : Val)
    (ho : r.obj.greatestCode.isNone = true) (hk : Kept r0 s) : Kept r0 (State.writePlain s w r i v).2 := by
  unfold State.writePlain
  extract_lets inc kept s1 s2
  have k1 : Kept r0 s1 := State.jrnWriteObj_kept _ _ _ _ _ _ _ hk
  have k2 : Kept r0 s2 := by
    refine kept_ite (State.stage_kept _ _ _ k1) (State.actOnWrite_kept _ _ _ (State.setValue_kept _ _ _ _ ho k1))
  clear_value s1 s2
  split
  · exact State.raise_kept _ _ hk
  · split
    · exact hk
    · exact kept_ite (State.mirrorWrite_kept _ _ _ _ k2) k2

theorem State.queueControl_kept {r0 : State} (s : State) (w : Who) (q : Fin 16) (v : Nat) (hk : Kept r0 s) : Kept r0 (State.queueControl s w q v).2 := by
  unfold State.queueControl
  simp (maxDischargeDepth := 200) +contextual only [hk, kept_ite_snd, implies_true, State.ran_kept, asCommand_kept, execQueueDropRest_kept, execQueueFlush_kept]

theorem execInject_kept {r0 : State} (w : Who) (l : Fin 5) (v : Nat) (s : State) (hk : Kept r0 s) : KeptO r0 (execInject w l v s) := by
  unfold execInject
  repeat' first
    | (simp only [hk, execInjectHeaderBit_kept, execInjectLineBit_kept, execInjectPayloadBit_kept, execInjectStuff_kept]; done)
    | split

theorem some_kept {r0 : State} {y : Host.Outcome State Fault Refusal} (h : KeptO r0 y) :
    ∀ x, some y = some x → KeptO r0 x :=
  fun _ e => by cases e; exact h

set_option maxRecDepth 10000 in
theorem writeMeaning_kept {r0 : State} (w : Who) (o : Obj) (i : Nat) (v : Val) (s : State) (hk : Kept r0 s) :
    ∀ x, writeMeaning w o i v s = some x → KeptO r0 x := by
  unfold writeMeaning
  extract_lets z n b
  clear_value z n b
  split
  · exact some_kept (execVtIncrementWrite_kept _ _ _ hk)
  · exact some_kept (execVtLoad_kept _ _ _ hk)
  · exact some_kept (execVtSlew_kept _ _ _ hk)
  · exact some_kept (execPtSlew_kept _ _ _ hk)
  · exact some_kept (execServoOwnerWrite_kept _ _ _ hk)
  · exact some_kept (execVatEpochWrite_kept _ _ _ hk)
  · exact some_kept (execClkRefSelWrite_kept _ _ _ hk)
  · exact some_kept (execFrameTableWrite_kept _ _ _ _ hk)
  · exact some_kept (execFrameTableWrite_kept _ _ _ _ hk)
  · exact some_kept (execChCalibrate_kept _ _ _ hk)
  · exact some_kept (execBankCauseClear_kept _ _ _ _ hk)
  · exact some_kept (execBankDelayCal_kept _ _ _ hk)
  · exact some_kept (keptO_ite (execScanHold_kept _ _ _ hk) (execScanRelease_kept _ _ _ hk))
  · exact some_kept (execTrierStart_kept _ _ _ hk)
  · exact some_kept (execInjRequest_kept _ _ _ _ hk)
  · exact some_kept (execTrierCalStart_kept _ _ _ hk)
  · exact some_kept (execTrierCauseClear_kept _ _ _ _ hk)
  · exact some_kept (execExcCal_kept _ _ _ hk)
  · exact some_kept (execCoefSwap_kept _ _ _ _ hk)
  · exact some_kept (execLaneCauseClear_kept _ _ _ _ hk)
  · exact some_kept (execDcbFreezeWrite_kept _ _ _ _ hk)
  · exact some_kept (execTrigForce_kept _ _ _ hk)
  · exact some_kept (execCapRelease_kept _ _ _ hk)
  · exact some_kept (execUnitCauseClear_kept _ _ _ _ hk)
  · exact some_kept (execHistClose_kept _ _ _ hk)
  · exact some_kept (execPmapClear_kept _ _ _ hk)
  · exact some_kept (execPmapReadout_kept _ _ _ hk)
  · exact some_kept (execPressCauseClear_kept _ _ _ hk)
  · exact some_kept (execStreamAck_kept _ _ _ _ hk)
  · exact some_kept (execQcCauseClear_kept _ _ _ hk)
  · exact some_kept (execCaveDiscard_kept _ _ hk)
  · exact some_kept (execMarkSet_kept _ _ _ _ hk)
  · exact some_kept (execMarkClear_kept _ _ _ hk)
  · exact some_kept (execReplayStart_kept _ _ hk)
  · exact some_kept (execReplayStop_kept _ _ hk)
  · exact some_kept (keptO_ite (execLaneTestEnter_kept _ _ _ hk) (execLaneTestLeave_kept _ _ _ hk))
  · exact some_kept (execInject_kept _ _ _ _ hk)
  · exact some_kept (execLnCauseClear_kept _ _ _ hk)
  · exact some_kept (keptO_ite (execPortActiveRequest_kept _ _ _ hk) (keptO_ite (execPortHushRequest_kept _ _ _ hk) (execPortRestRequest_kept _ _ _ hk)))
  · exact some_kept (execRlCauseClear_kept _ _ _ hk)
  · exact some_kept (execRtFaultClear_kept _ _ _ hk)
  · exact some_kept (execAsymCorrWrite_kept _ _ _ _ hk)
  · exact some_kept (execTwinSwitch_kept _ _ _ hk)
  · exact some_kept (execTwinCauseClear_kept _ _ _ hk)
  · exact some_kept (execCommitNow_kept _ _ _ hk)
  · exact some_kept (execCommitArm_kept _ _ _ _ hk)
  · exact some_kept (execCommitCancel_kept _ _ _ hk)
  · exact some_kept (execStageDiscard_kept _ _ hk)
  · exact some_kept (execRestoreDefaults_kept _ _ hk)
  · exact some_kept (execCfgSave_kept _ _ hk)
  · exact some_kept (execLockRelease_kept _ _ _ hk)
  · exact some_kept (execLockForce_kept _ _ _ hk)
  · exact some_kept (execMbxOpen_kept _ _ _ _ hk)
  · exact some_kept (execMbxClose_kept _ _ _ hk)
  · exact some_kept (execMbxPost_kept _ _ _ _ hk)
  · exact some_kept (execMbxAckRx_kept _ _ _ _ hk)
  · exact some_kept (execMbxEmptyArm_kept _ _ _ hk)
  · exact some_kept (execMbxTxData_kept _ _ _ _ _ hk)
  · exact some_kept (execMjCauseClear_kept _ _ _ hk)
  · exact some_kept (execJrnHostMarkWrite_kept _ _ _ hk)
  · exact some_kept (execEvAck_kept _ _ _ hk)
  · exact some_kept (execEvAckMap_kept _ _ _ hk)
  · exact some_kept (execFenceSet_kept _ _ _ _ hk)
  · exact some_kept (execFenceLift_kept _ _ _ _ hk)
  · exact some_kept (execFiCauseClear_kept _ _ _ hk)
  · exact some_kept (execSecClose_kept _ _ hk)
  · exact some_kept (execSecReclose_kept _ _ hk)
  · exact some_kept (execSecRevoke_kept _ _ _ hk)
  · exact some_kept (execReopenPassword_kept _ _ _ hk)
  · exact some_kept (execReopenResponse_kept _ _ _ hk)
  · exact some_kept (execPasswordSet_kept _ _ _ hk)
  · exact some_kept (execSecCauseClear_kept _ _ _ hk)
  · exact some_kept (execFwKeyRevoke_kept _ _ _ hk)
  · exact some_kept (execFwStage_kept _ _ _ hk)
  · exact some_kept (execFwVerify_kept _ _ hk)
  · exact some_kept (keptO_ite (execFwActivateNow_kept _ _ hk) (execFwActivateNextStart_kept _ _ hk))
  · exact some_kept (execFwConfirm_kept _ _ hk)
  · exact some_kept (execDebugSet_kept _ _ _ hk)
  · exact some_kept (by split <;> first | exact (execPwrRequestRun_kept _ _ hk) | exact (execPwrRequestDim_kept _ _ hk) | exact (execPwrRequestVigil_kept _ _ hk) | exact (execPwrRequestOff_kept _ _ hk) | exact (execPwrRequestOffDataLoss_kept _ _ hk))
  · exact some_kept (execPwCauseClear_kept _ _ _ hk)
  · exact some_kept (keptO_ite (execStRunQuick_kept _ _ hk) (execStRunFull_kept _ _ hk))
  · exact some_kept (execStStop_kept _ _ hk)
  · exact some_kept (execStCauseClear_kept _ _ _ hk)
  · exact some_kept (execRepairAccept_kept _ _ hk)
  · exact some_kept (execRepairClear_kept _ _ _ hk)
  · exact some_kept (execRepairFuse_kept _ _ _ hk)
  · exact some_kept (execAcqStart_kept _ _ hk)
  · exact some_kept (execAcqStop_kept _ _ hk)
  · exact some_kept (execVatLeave_kept _ _ hk)
  · exact some_kept (execVatRejoin_kept _ _ hk)
  · exact some_kept (keptO_ite (execServicePhaseNormal_kept _ _ hk) (execServicePhaseTest_kept _ _ hk))
  · exact fun _ e => nomatch e

theorem checkWrite_free {s : State} {w : Who} {it : Item} {r : ObjInfo} {i : Nat} {v : Val}
    (e : s.checkWrite w it = .ok (r, i, v)) : r.obj.greatestCode.isNone = true := by
  unfold State.checkWrite entryAt objAt at e
  cases h : objTable.find? (fun r => r.index ≤ it.index && it.index < r.index + r.count && r.sub ≤ it.sub &&
      it.sub < r.sub + r.subs) with
  | none => simp [h] at e
  | some q =>
    rw [h] at e
    dsimp only at e
    repeat' split at e
    all_goals first
      | contradiction
      | (cases e
         exact row_free (List.mem_of_find?_eq_some h) (.inl (by simp_all)))

theorem State.applyWrite_kept {r0 : State} (s : State) (w : Who) (r : ObjInfo) (i : Nat) (v : Val)
    (ho : r.obj.greatestCode.isNone = true) (hk : Kept r0 s) : Kept r0 (State.applyWrite s w r i v).2 := by
  unfold State.applyWrite
  split
  · exact State.queueControl_kept _ _ _ _ hk
  · split
    · rename_i x e
      have h := State.ran_kept s x (writeMeaning_kept _ _ _ _ _ hk x e) hk
      generalize s.ran x = q at h ⊢
      exact h
    · exact State.writePlain_kept _ _ _ _ _ ho hk

theorem execDictWrite_kept {r0 : State} (w : Who) (index sub type : Nat) (value : List Byte) (s : State) (hk : Kept r0 s) :
    KeptO r0 (execDictWrite w index sub type value s) := by
  unfold execDictWrite
  split
  · exact hk
  · split
    · exact State.reply_kept _ _ _ hk
    · rename_i r i v e
      have h := State.applyWrite_kept s w r i v (checkWrite_free e) hk
      generalize s.applyWrite w r i v = q at h ⊢
      exact State.reply_kept _ _ _ h

/-! ### Machine/Access -/

theorem State.transmit_kept {r0 : State} (s : State) (h : Held) (m : Msg) (hk : Kept r0 s) : Kept r0 (State.transmit s h m) := by
  unfold State.transmit
  repeat' first
    | (simp only [hk, kept_mk, kept_ite, State.emit_kept, State.sendResponse_kept]; done)
    | split

theorem State.respond_kept {r0 : State} (s : State) (h : Held) (status : Err) (hk : Kept r0 s) : Kept r0 (State.respond s h status) := by
  unfold State.respond
  simp only [hk, State.transmit_kept]

theorem State.finish_kept {r0 : State} (s : State) (h : Held) (flags : Nat) (status : Nat) (body : List Byte) (hk : Kept r0 s) : Kept r0 (State.finish s h flags status body) := by
  unfold State.finish
  simp (maxDischargeDepth := 200) only [hk, kept_ite, State.setSession_kept, State.transmit_kept]

theorem State.queueMsg_kept {r0 : State} (s : State) (dest : Binding) (tag : Nat) (m : Msg) (hk : Kept r0 s) : Kept r0 (State.queueMsg s dest tag m) := by
  unfold State.queueMsg
  repeat' first
    | (simp only [hk, kept_mk]; done)
    | split

theorem State.arrive_kept {r0 : State} (s : State) (dest : Binding) (tag : Nat) (m : Msg) (hk : Kept r0 s) : Kept r0 (State.arrive s dest tag m) := by
  unfold State.arrive
  simp (maxDischargeDepth := 200) +decide only [hk, kept_ite, State.bump_kept, State.queueMsg_kept, State.respond_kept]

theorem State.nextMsg_kept {r0 : State} (s : State) (hk : Kept r0 s) (b : Binding) (t : Nat) (m : Msg) (s' : State)
    (e : State.nextMsg s = some (b, t, m, s')) : Kept r0 s' := by
  unfold State.nextMsg at e
  dsimp only at e
  repeat' split at e
  all_goals first
    | contradiction
    | (cases e; exact kept_mk hk)

theorem State.engineTakes_kept {r0 : State} (s : State) (op : Nat) (f : Binding → Nat → Msg → State → State)
    (ho : ∀ (b : Binding) (t : Nat) (m : Msg) (s : State), Kept r0 s → Kept r0 (f b t m s)) (hk : Kept r0 s) :
    Kept r0 (State.engineTakes s op f) := by
  unfold State.engineTakes
  split
  · exact hk
  · split
    · rename_i e
      exact kept_ite (ho _ _ _ _ (State.nextMsg_kept s hk _ _ _ _ e)) hk
    · exact hk

theorem State.countMsg_kept {r0 : State} (s : State) (hk : Kept r0 s) : Kept r0 (State.countMsg s) := by
  unfold State.countMsg
  simp +decide only [hk, State.add64_kept]

theorem State.openSession_kept {r0 : State} (dest : Binding) (tag : Nat) (m : Msg) (s : State) (hk : Kept r0 s) : Kept r0 (State.openSession dest tag m s) := by
  unfold State.openSession
  repeat' first
    | (simp (maxDischargeDepth := 200) only [hk, kept_mk, State.countMsg_kept, State.respond_kept, State.setSession_kept, State.transmit_kept]; done)
    | dsimp only
    | split

theorem execOpen_kept {r0 : State} (s : State) (hk : Kept r0 s) : KeptO r0 (execOpen s) := by
  unfold execOpen
  simp (maxDischargeDepth := 200) +contextual only [hk, keptO_next, implies_true, State.engineTakes_kept, State.openSession_kept]

theorem State.proveSession_kept {r0 : State} (dest : Binding) (tag : Nat) (m : Msg) (s : State) (hk : Kept r0 s) : Kept r0 (State.proveSession dest tag m s) := by
  unfold State.proveSession
  repeat' first
    | (simp (maxDischargeDepth := 200) +decide only [hk, kept_ite, State.bump_kept, State.cause_kept, State.countMsg_kept, State.endSession_kept, State.respond_kept, State.setSession_kept, State.transmit_kept]; done)
    | dsimp only
    | split

theorem execProve_kept {r0 : State} (s : State) (hk : Kept r0 s) : KeptO r0 (execProve s) := by
  unfold execProve
  simp (maxDischargeDepth := 200) +contextual only [hk, keptO_next, implies_true, State.engineTakes_kept, State.proveSession_kept]

theorem State.request_kept {r0 : State} (f : Held → Msg → State → State) (dest : Binding) (tag : Nat) (m : Msg) (s : State)
    (ho : ∀ (h : Held) (m : Msg) (s : State), Kept r0 s → Kept r0 (f h m s)) (hk : Kept r0 s) :
    Kept r0 (State.request f dest tag m s) := by
  unfold State.request
  repeat' first
    | (simp (maxDischargeDepth := 200) +decide only [hk, ho, kept_ite, State.bump_kept, State.countMsg_kept, State.respond_kept, State.setSession_kept, State.transmit_kept]; done)
    | dsimp only
    | split

theorem execClose_kept {r0 : State} (s : State) (hk : Kept r0 s) : KeptO r0 (execClose s) := by
  unfold execClose
  simp (maxDischargeDepth := 200) +contextual only [hk, kept_ite, keptO_next, implies_true, State.endSession_kept, State.engineTakes_kept, State.finish_kept, State.request_kept]

theorem execKeep_kept {r0 : State} (s : State) (hk : Kept r0 s) : KeptO r0 (execKeep s) := by
  unfold execKeep
  simp (maxDischargeDepth := 200) +contextual only [hk, keptO_next, implies_true, State.engineTakes_kept, State.finish_kept, State.request_kept]

theorem State.finishRead_kept {r0 : State} (s : State) (h : Held) (more : Bool) (hk : Kept r0 s) : Kept r0 (State.finishRead s h more) := by
  unfold State.finishRead
  simp only [hk, State.finish_kept]

theorem State.serveItem_kept {r0 : State} (s : State) (h : Held) (limit : Nat) (bad : List Nat) (hurt mayWait : Bool) (it : Item)
    (hk : Kept r0 s) (h' : Held) (s' : State) (e : State.serveItem s h limit bad hurt mayWait it = .item h' s') : Kept r0 s' := by
  unfold State.serveItem at e
  extract_lets room plain value at e
  have hp : ∀ (e : Err) (type len : Nat) (u : State), Kept r0 u → plain e type len u = .item h' s' → Kept r0 s' := by
    intro e type len u hu q
    dsimp only [plain] at q
    split at q
    · contradiction
    · cases q
      exact hu
  have hv : ∀ (type : Nat) (b : List Byte) (u : State), Kept r0 u → value type b u = .item h' s' → Kept r0 s' := by
    intro type b u hu q
    dsimp only [value] at q
    split at q
    · exact hp _ _ _ _ hk q
    · split at q
      · contradiction
      · cases q
        exact hu
  clear_value plain value
  split at e
  · exact hp _ _ _ _ hk e
  · split at e
    · exact hp _ _ _ _ hk e
    · split at e
      · exact hp _ _ _ _ hk e
      · split at e
        · have ka := State.abortItems_kept s [3] hk
          dsimp only at e
          split at e
          · exact hp _ _ _ _ ka e
          · contradiction
          · exact hp _ _ _ _ ka e
          · exact hp _ _ _ _ ka e
          · rename_i i _ _ _ _ _
            refine hv _ _ _ (State.takeBytes_kept _ _ ka) e
        · rename_i r i _ _ _ _ _
          have kr := State.readEntry_kept s h.who h.staged bad hurt r i hk
          split at e <;> rename_i q <;> rw [q] at kr
          · exact hv _ _ _ kr e
          · exact hp _ _ _ _ kr e

theorem State.readItems_kept {r0 : State} (limit : Nat) (bad : List Nat) (hurt : Bool) (l : List Item) (mayWait : Bool) (h : Held)
    (s : State) (hk : Kept r0 s) : Kept r0 (State.readItems limit bad hurt l mayWait h s) := by
  induction l generalizing mayWait h s with
  | nil => exact State.finishRead_kept _ _ _ hk
  | cons it t ih =>
    unfold State.readItems
    split
    · rename_i e
      exact ih _ _ _ (State.serveItem_kept s _ _ _ _ _ _ hk _ _ e)
    · exact State.finishRead_kept _ _ _ hk
    · exact State.setSession_kept _ _ _ (State.abortItems_kept _ _ hk)

theorem execRead_kept {r0 : State} (bad : List Nat) (hurt : Bool) (s : State) (hk : Kept r0 s) : KeptO r0 (execRead bad hurt s) := by
  unfold execRead
  refine keptO_next (State.engineTakes_kept _ _ _ (fun b t m s hk => State.request_kept _ _ _ _ _ (fun h m s hk => ?_) hk) hk)
  repeat' first
    | exact State.finish_kept _ _ _ _ _ hk
    | exact State.readItems_kept _ _ _ _ _ _ _ hk
    | split

theorem State.finishWrite_kept {r0 : State} (s : State) (h : Held) (hk : Kept r0 s) : Kept r0 (State.finishWrite s h) := by
  unfold State.finishWrite
  simp only [hk, State.finish_kept]

theorem State.applyItem_kept {r0 : State} (s : State) (w : Who) (it : Item) (hk : Kept r0 s) :
    Kept r0 (State.applyItem s w it).2 := by
  unfold State.applyItem entryAt objAt
  cases h : objTable.find? (fun r => r.index ≤ it.index && it.index < r.index + r.count && r.sub ≤ it.sub &&
      it.sub < r.sub + r.subs) with
  | none => exact hk
  | some q =>
    dsimp only
    split
    · exact hk
    · rename_i ha
      exact State.applyWrite_kept _ _ _ _ _ (row_free (List.mem_of_find?_eq_some h) (.inl (by simpa using ha))) hk

theorem State.applyItems_kept {r0 : State} (l : List Item) (h : Held) (s : State) (hk : Kept r0 s) :
    Kept r0 (State.applyItems l h s) := by
  induction l generalizing h s with
  | nil => exact State.finishWrite_kept _ _ hk
  | cons it t ih =>
    unfold State.applyItems
    have ka := State.applyItem_kept s h.who it hk
    dsimp only
    generalize s.applyItem h.who it = q at ka ⊢
    exact kept_ite (State.finishWrite_kept _ _ ka) (kept_ite (kept_mk ka) (ih _ _ ka))

theorem State.writeItems_kept {r0 : State} (s : State) (h : Held) (l : List Item) (hk : Kept r0 s) :
    Kept r0 (State.writeItems s h l) := by
  unfold State.writeItems
  dsimp only
  split
  · exact State.applyItems_kept _ _ _ hk
  · exact State.finishWrite_kept _ _ hk

theorem execWrite_kept {r0 : State} (s : State) (hk : Kept r0 s) : KeptO r0 (execWrite s) := by
  unfold execWrite
  refine keptO_next (State.engineTakes_kept _ _ _ (fun b t m s hk => State.request_kept _ _ _ _ _ (fun h m s hk => ?_) hk) hk)
  repeat' first
    | exact State.finish_kept _ _ _ _ _ hk
    | exact State.writeItems_kept _ _ _ hk
    | dsimp only
    | split

theorem State.resumeWrite_kept {r0 : State} (s : State) (hk : Kept r0 s) : Kept r0 (State.resumeWrite s) := by
  unfold State.resumeWrite
  split
  · exact kept_ite hk (State.applyItems_kept _ _ _ (kept_mk hk))
  · exact hk

theorem State.giveSegment_kept {r0 : State} (s : State) (h : Held) (it : Item) (whole : List Byte) (hk : Kept r0 s) : Kept r0 (State.giveSegment s h it whole) := by
  unfold State.giveSegment
  simp only [hk, State.finish_kept]

theorem State.dropHeld_kept {r0 : State} (s : State) (n : Nat) (hk : Kept r0 s) : Kept r0 (State.dropHeld s n) := by
  unfold State.dropHeld
  repeat' first
    | (simp +decide only [hk, State.add32_kept, State.setSession_kept]; done)
    | dsimp only
    | split

theorem State.giveHeld_kept {r0 : State} (s : State) (h : Held) (it : Item) (hk : Kept r0 s) : Kept r0 (State.giveHeld s h it) := by
  unfold State.giveHeld
  simp only [hk, State.giveSegment_kept, State.setSession_kept]

theorem State.segPacket_kept {r0 : State} (s : State) (h : Held) (it : Item) (q : Nat) (mayWait : Bool) (hk : Kept r0 s) : Kept r0 (State.segPacket s h it q mayWait) := by
  unfold State.segPacket
  repeat' first
    | (simp (maxDischargeDepth := 200) only [hk, State.abortItems_kept, State.finish_kept, State.giveHeld_kept, State.giveSegment_kept, State.setSession_kept, State.takeBytes_kept]; done)
    | dsimp only
    | split

theorem State.segRead_kept {r0 : State} (bad : List Nat) (hurt : Bool) (h : Held) (it : Item) (s : State) (hk : Kept r0 s) :
    Kept r0 (State.segRead bad hurt h it s) := by
  unfold State.segRead
  split
  · exact State.finish_kept _ _ _ _ _ hk
  · rename_i r i _
    have kr := State.readEntry_kept s h.who h.staged bad hurt r i hk
    split
    · exact State.finish_kept _ _ _ _ _ hk
    · refine kept_ite (State.finish_kept _ _ _ _ _ hk) (kept_ite (State.finish_kept _ _ _ _ _ hk) (kept_ite ?_ ?_))
      · exact kept_ite (State.segPacket_kept _ _ _ _ _ (State.dropHeld_kept _ _ hk))
          (kept_ite (State.giveHeld_kept _ _ _ hk) (State.finish_kept _ _ _ _ _ hk))
      · split <;> rename_i e <;> rw [e] at kr
        · exact State.giveSegment_kept _ _ _ _ kr
        · exact State.finish_kept _ _ _ _ _ kr

theorem execSegRead_kept {r0 : State} (bad : List Nat) (hurt : Bool) (s : State) (hk : Kept r0 s) : KeptO r0 (execSegRead bad hurt s) := by
  unfold execSegRead
  simp (maxDischargeDepth := 200) +contextual only [hk, kept_ite, keptO_next, implies_true, State.engineTakes_kept, State.finish_kept, State.request_kept, State.segRead_kept]

theorem State.setSegBuf_kept {r0 : State} (s : State) (n : Nat) (k : Option Key) (b : List Byte) (hk : Kept r0 s) : Kept r0 (State.setSegBuf s n k b) := by
  unfold State.setSegBuf
  simp only [hk, State.dropHeld_kept, State.setSession_kept]

theorem State.segWrite_kept {r0 : State} (h : Held) (it : Item) (total : Nat) (part : List Byte) (last : Bool) (s : State) (hk : Kept r0 s) : Kept r0 (State.segWrite h it total part last s) := by
  unfold State.segWrite
  repeat' first
    | (simp (maxDischargeDepth := 200) only [hk, State.applyItem_kept, State.finish_kept, State.setSegBuf_kept]; done)
    | dsimp only
    | split

theorem execSegWrite_kept {r0 : State} (s : State) (hk : Kept r0 s) : KeptO r0 (execSegWrite s) := by
  unfold execSegWrite
  simp (maxDischargeDepth := 200) +contextual only [hk, kept_ite, keptO_next, implies_true, State.engineTakes_kept, State.finish_kept, State.request_kept, State.segWrite_kept]

theorem State.resumeParked_kept {r0 : State} (s : State) (q n : Nat) (hk : Kept r0 s) : Kept r0 (State.resumeParked s q n) := by
  unfold State.resumeParked
  dsimp only
  split
  · split
    · refine kept_ite (kept_ite ?_ ?_) hk
      · exact State.segPacket_kept _ _ _ _ _ (State.setSession_kept _ _ _ hk)
      · exact State.readItems_kept _ _ _ _ _ _ _ (State.setSession_kept _ _ _ hk)
    · exact hk
  · exact hk

theorem State.serveReads_kept {r0 : State} (s : State) (q : Nat) (hk : Kept r0 s) : Kept r0 (State.serveReads s q) := by
  unfold State.serveReads
  simp +contextual only [hk, kept_foldl, implies_true, State.resumeParked_kept, State.serveWaiting_kept]

theorem execQueueReadWaitExpiry_kept {r0 : State} (q : Fin 16) (s : State) (hk : Kept r0 s) : KeptO r0 (execQueueReadWaitExpiry q s) := by
  unfold execQueueReadWaitExpiry
  simp only [hk, keptO_next, State.serveReads_kept]

theorem execDescribe_kept {r0 : State} (s : State) (hk : Kept r0 s) : KeptO r0 (execDescribe s) := by
  unfold execDescribe
  refine keptO_next (State.engineTakes_kept _ _ _ (fun b t m s hk => State.request_kept _ _ _ _ _ (fun h m s hk => ?_) hk) hk)
  repeat' first
    | exact State.finish_kept _ _ _ _ _ hk
    | exact State.finish_kept _ _ _ _ _ hk
    | split

theorem State.ethFrame_kept {r0 : State} (s : State) (hk : Kept r0 s) : Kept r0 (State.ethFrame s) := by
  unfold State.ethFrame
  simp +decide only [hk, kept_put, Obj.legal_of_free]

theorem execUdpDatagramRx_kept {r0 : State} (sip : Nat) (sport : Nat) (dip : Nat) (dport : Nat) (fragment : Bool) (data : List Byte) (s : State) (hk : Kept r0 s) : KeptO r0 (execUdpDatagramRx sip sport dip dport fragment data s) := by
  unfold execUdpDatagramRx
  repeat' first
    | (simp (maxDischargeDepth := 200) +decide only [hk, keptO_next, keptO_ite, State.arrive_kept, State.bump_kept, State.ethFrame_kept]; done)
    | split

theorem execArpRequest_kept {r0 : State} (sip : Nat) (tip : Nat) (s : State) (hk : Kept r0 s) : KeptO r0 (execArpRequest sip tip s) := by
  unfold execArpRequest
  simp (maxDischargeDepth := 200) only [hk, kept_ite, keptO_next, keptO_ite, State.emit_kept, State.ethFrame_kept]

theorem execIcmpEcho_kept {r0 : State} (sip : Nat) (dip : Nat) (data : List Byte) (s : State) (hk : Kept r0 s) : KeptO r0 (execIcmpEcho sip dip data s) := by
  unfold execIcmpEcho
  simp (maxDischargeDepth := 200) only [hk, kept_ite, keptO_next, keptO_ite, State.emit_kept, State.ethFrame_kept]

theorem State.spiReads_kept {r0 : State} (s : State) (x : Option SpiRead) (hk : Kept r0 s) : Kept r0 (State.spiReads s x) := by
  unfold State.spiReads
  simp only [hk, kept_mk]

theorem execSpiStatus_kept {r0 : State} (cmd : Byte) (s : State) (hk : Kept r0 s) : KeptO r0 (execSpiStatus cmd s) := by
  unfold execSpiStatus
  simp (maxDischargeDepth := 200) +decide only [hk, keptO_next, keptO_ite, State.bump_kept, State.emit_kept, State.spiReads_kept]

theorem execSpiMsgWrite_kept {r0 : State} (data : List Byte) (s : State) (hk : Kept r0 s) : KeptO r0 (execSpiMsgWrite data s) := by
  unfold execSpiMsgWrite
  repeat' first
    | (simp (maxDischargeDepth := 200) +decide only [hk, keptO_next, keptO_ite, State.arrive_kept, State.bump_kept, State.spiReads_kept]; done)
    | split

theorem execSpiMsgRead_kept {r0 : State} (n : Nat) (s : State) (hk : Kept r0 s) : KeptO r0 (execSpiMsgRead n s) := by
  unfold execSpiMsgRead
  repeat' first
    | (simp (maxDischargeDepth := 200) only [hk, kept_mk, kept_ite, keptO_next, State.emit_kept, State.spiReads_kept]; done)
    | dsimp only
    | split

theorem State.spiWords_kept {r0 : State} (s : State) (q n : Nat) (b : List Byte) (hk : Kept r0 s) :
    Kept r0 (State.spiWords s q n b).2 := by
  induction n generalizing s b with
  | zero => exact hk
  | succ n ih =>
    unfold State.spiWords
    have kx := State.popWord_kept s q hk
    split
    · exact ih _ _ hk
    · split
      · rename_i e
        rw [e] at kx
        exact ih _ _ (State.slotWord_kept _ _ kx)
      · rename_i e
        rw [e] at kx
        exact ih _ _ kx

theorem execSpiQueueRead_kept {r0 : State} (q words : Nat) (s : State) (hk : Kept r0 s) :
    KeptO r0 (execSpiQueueRead q words s) := by
  unfold execSpiQueueRead
  have ka := State.abortItems_kept s [3] hk
  exact keptO_ite (keptO_ite (keptO_next (State.emit_kept _ _ (State.spiReads_kept _ _ ka)))
    (keptO_next (State.emit_kept _ _ (State.spiReads_kept _ _ (State.spiWords_kept _ _ _ _ ka))))) (keptO_next hk)

/-! ### Machine/FrameTick -/

theorem State.latchStep_kept {r0 : State} (s : State) (tin : TickIn) (n : Int) (w : Nat) (hk : Kept r0 s) : Kept r0 (State.latchStep s tin n w) := by
  unfold State.latchStep
  repeat' first
    | (simp +contextual only [hk, kept_mk, kept_foldl, implies_true, State.armTrier_kept, State.latchLane_kept]; done)
    | split

theorem State.laneParity_kept {r0 : State} (s : State) (b : Nat) (n : Int) (count : Nat) (hk : Kept r0 s) : Kept r0 (State.laneParity s b n count) := by
  unfold State.laneParity
  simp (maxDischargeDepth := 200) only [hk, kept_ite, State.fenceBy_kept, State.setLane_kept]

theorem State.busParity_kept {r0 : State} (s : State) (tin : TickIn) (n : Int) (b : Nat) (hk : Kept r0 s) : Kept r0 (State.busParity s tin n b) := by
  unfold State.busParity
  simp (maxDischargeDepth := 200) +decide only [hk, kept_mk, kept_ite, State.add32_kept, State.cause_kept, State.laneParity_kept]

theorem State.advanceStep_kept {r0 : State} (s : State) (tin : TickIn) (n : Int) (w : Nat) (hk : Kept r0 s) : Kept r0 (State.advanceStep s tin n w) := by
  unfold State.advanceStep
  repeat' first
    | (simp (maxDischargeDepth := 200) +contextual only [hk, kept_ite, kept_foldl, implies_true, State.advanceHist_kept, State.advanceLane_kept, State.advanceRennet_kept, State.advanceStream_kept, State.busParity_kept]; done)
    | split

theorem State.closeStep_kept {r0 : State} (s : State) (w : Nat) (hk : Kept r0 s) : Kept r0 (State.closeStep s w) := by
  unfold State.closeStep
  simp only [hk, kept_mk]

theorem State.commitStep_kept {r0 : State} (s : State) (n : Int) (hk : Kept r0 s) : Kept r0 (State.commitStep s n) := by
  unfold State.commitStep
  simp (maxDischargeDepth := 200) only [hk, kept_mk, kept_ite, State.applyOwed_kept, State.commitAt_kept, State.judgeWaiting_kept, State.takeSnap_kept]

theorem State.emitStep_kept {r0 : State} (s : State) (tin : TickIn) (n : Int) (w : Nat) (hk : Kept r0 s) : Kept r0 (State.emitStep s tin n w) := by
  unfold State.emitStep
  repeat' first
    | (simp (maxDischargeDepth := 200) +contextual only [hk, kept_mk, kept_ite, kept_foldl, implies_true, State.formRaw_kept, State.issueRipen_kept, State.pressEmit_kept, State.pushCaptures_kept, State.pushTriers_kept, State.readoutStep_kept, State.replayToQueue_kept, State.sendMirror_kept, State.serveReads_kept]; done)
    | split

theorem State.frameStep_kept {r0 : State} (s : State) (tin : TickIn) (n : Int) (w : Nat) (hk : Kept r0 s) : Kept r0 (State.frameStep s tin n w) := by
  unfold State.frameStep
  repeat' first
    | (simp only [hk, State.advanceStep_kept, State.closeStep_kept, State.commitStep_kept, State.emitStep_kept, State.latchStep_kept]; done)
    | split

theorem State.companionTick_kept {r0 : State} (s : State) (n : Int) (hk : Kept r0 s) : Kept r0 (State.companionTick s n) := by
  unfold State.companionTick
  simp (maxDischargeDepth := 200) +contextual only [hk, kept_foldl, implies_true, State.companionTx_kept, State.planCommit_kept, State.planProbe_kept, State.planTable_kept]

theorem State.controlTick_kept {r0 : State} (s : State) (tin : TickIn) (n : Int) (hk : Kept r0 s) : Kept r0 (State.controlTick s tin n) := by
  unfold State.controlTick
  simp (maxDischargeDepth := 200) +contextual only [hk, kept_foldl, implies_true, State.judgeAllPresence_kept, State.laneFirstTick_kept, State.noteMonitors_kept, State.notePasses_kept, State.notePhase_kept, State.scanTick_kept, State.spareTick_kept]

theorem State.tick_kept {r0 : State} (s : State) (tin : TickIn) (hk : Kept r0 s) : Kept r0 (State.tick s tin) := by
  unfold State.tick
  simp (maxDischargeDepth := 200) +contextual +decide only [hk, kept_put, kept_mk, kept_foldl, Obj.legal_of_free, implies_true, State.closeAccounts_kept, State.closeHists_kept, State.companionTick_kept, State.controlTick_kept, State.curdFault_kept, State.frameStep_kept, State.judgeStartUp_kept, State.judgeWaiting_kept, State.noteCaveIdle_kept, State.pressFlush_kept, State.resumeWrite_kept, State.takeReleases_kept]

theorem execGridTick_kept {r0 : State} (tin : TickIn) (s : State) (hk : Kept r0 s) : KeptO r0 (execGridTick tin s) := by
  unfold execGridTick
  simp (maxDischargeDepth := 200) only [hk, kept_ite, keptO_next, State.tick_kept]

theorem State.servo_kept {r0 : State} (s : State) (hk : Kept r0 s) : Kept r0 (State.servo s) := by
  unfold State.servo
  simp (maxDischargeDepth := 200) only [hk, State.judgeVat_kept, State.leaveCheck_kept, State.resumeWrite_kept, State.servoOffset_kept, State.servoVt_kept, State.twinTimeCheck_kept]

theorem execServoCycle_kept {r0 : State} (s : State) (hk : Kept r0 s) : KeptO r0 (execServoCycle s) := by
  unfold execServoCycle
  simp (maxDischargeDepth := 200) only [hk, kept_mk, kept_ite, keptO_next, State.servo_kept]

/-! ### Machine/Receive -/

theorem execVatTriggerRx_kept {r0 : State} (p : Fin 2) (f : Frame) (s : State) (hk : Kept r0 s) : KeptO r0 (execVatTriggerRx p f s) := by
  unfold execVatTriggerRx
  repeat' first
    | (simp (maxDischargeDepth := 200) only [hk, kept_ite, keptO_next, State.onVatTrigger_kept, State.receive_kept]; done)
    | (split <;> rename_i heq <;> replace heq := congrArg Prod.snd heq <;> dsimp only at heq <;> subst heq)
    | split

theorem State.onDictReq_kept {r0 : State} (s : State) (f : Frame) (hk : Kept r0 s) : Kept r0 (State.onDictReq s f) := by
  unfold State.onDictReq
  repeat' first
    | (simp only [hk, State.arrive_kept]; done)
    | dsimp only
    | split

theorem execDictReqRx_kept {r0 : State} (p : Fin 2) (f : Frame) (s : State) (hk : Kept r0 s) : KeptO r0 (execDictReqRx p f s) := by
  unfold execDictReqRx
  repeat' first
    | (simp (maxDischargeDepth := 200) only [hk, keptO_next, State.onDictReq_kept, State.receive_kept]; done)
    | (split <;> rename_i heq <;> replace heq := congrArg Prod.snd heq <;> dsimp only at heq <;> subst heq)
    | split

theorem State.endAdoption_kept {r0 : State} (s : State) (hk : Kept r0 s) : Kept r0 (State.endAdoption s) := by
  unfold State.endAdoption
  simp (maxDischargeDepth := 200) only [hk, kept_mk, kept_ite, State.jrnCommand_kept, State.tryStart_kept]

theorem execHeartbeatRx_kept {r0 : State} (f : Frame) (s : State) (hk : Kept r0 s) : KeptO r0 (execHeartbeatRx f s) := by
  unfold execHeartbeatRx
  repeat' first
    | (simp (maxDischargeDepth := 200) only [hk, kept_ite, keptO_next, State.endAdoption_kept, State.onHeartbeat_kept, State.receive_kept, State.stopAcq_kept]; done)
    | (split <;> rename_i heq <;> replace heq := congrArg Prod.snd heq <;> dsimp only at heq <;> subst heq)
    | split

set_option maxRecDepth 100000 in
/-- No shared object is a mode register. -/
theorem shared_free : objTable.all (fun r => !r.shared || r.obj.greatestCode.isNone) = true := by decide

theorem entryAt_mem {index sub : Nat} {r : ObjInfo} {i : Nat} (e : entryAt index sub = .ok (r, i)) : r ∈ objTable := by
  unfold entryAt objAt at e
  cases h : objTable.find? (fun r => r.index ≤ index && index < r.index + r.count && r.sub ≤ sub && sub < r.sub + r.subs) with
  | none => simp [h] at e
  | some q =>
    rw [h] at e
    cases e
    exact List.mem_of_find?_eq_some h

theorem State.onMirror_kept {r0 : State} (s : State) (it : Item) (hk : Kept r0 s) : Kept r0 (State.onMirror s it) := by
  unfold State.onMirror
  extract_lets w
  split
  · exact hk
  · rename_i r i e
    extract_lets v it'
    split
    · rename_i h
      refine kept_ite (State.setValue_kept _ _ _ _ ?_ hk) hk
      rcases h with h | h <;> rw [h] <;> rfl
    · split
      · rename_i h
        simp only [Bool.and_eq_true] at h
        have a := List.all_eq_true.1 shared_free r (entryAt_mem e)
        refine State.setValue_kept _ _ _ _ ?_ (State.jrnWriteObj_kept _ _ _ _ _ _ _ hk)
        simpa [h.1.1.2] using a
      · split
        · exact State.applyItem_kept _ _ _ hk
        · exact hk

theorem execDictMirrorRx_kept {r0 : State} (f : Frame) (exc : List (Nat × Int × Int × Int)) (s : State) (hk : Kept r0 s) : KeptO r0 (execDictMirrorRx f exc s) := by
  unfold execDictMirrorRx
  repeat' first
    | (simp (maxDischargeDepth := 200) only [hk, kept_mk, kept_ite, keptO_next, keptO_ite, State.onMirror_kept, State.receive_kept]; done)
    | (split <;> rename_i heq <;> replace heq := congrArg Prod.snd heq <;> dsimp only at heq <;> subst heq)
    | split

theorem State.plainFrame_kept {r0 : State} (s : State) (p : Nat) (f : Frame) (hk : Kept r0 s) : Kept r0 (State.plainFrame s p f) := by
  unfold State.plainFrame
  simp (maxDischargeDepth := 200) only [hk, kept_ite, State.receive_kept, State.sendResponse_kept]

theorem State.ringFrame_kept {r0 : State} (s : State) (p : Fin 2) (f : Frame) (t : Int) (hk : Kept r0 s) : KeptO r0 (State.ringFrame s p f t) := by
  unfold State.ringFrame
  repeat' first
    | (simp only [hk, keptO_next, State.plainFrame_kept, execAckRx_kept, execAnnounceRx_kept, execBeaconRx_kept, execDictReqRx_kept, execDreqRx_kept, execDrespRx_kept, execLinkKillRx_kept, execLinkNoticeRx_kept, execMemberRecordRx_kept, execPauseRx_kept, execResendRx_kept, execSyncRx_kept, execVatTriggerRx_kept, execWgrantRx_kept, execWreqRx_kept]; done)
    | split

theorem State.twinFrame_kept {r0 : State} (s : State) (f : Frame) (t : Int) (hk : Kept r0 s) : KeptO r0 (State.twinFrame s f t) := by
  unfold State.twinFrame
  repeat' first
    | (simp only [hk, keptO_next, State.plainFrame_kept, execCaveCopyRx_kept, execCheckRx_kept, execDictMirrorRx_kept, execDreqRx_kept, execDrespRx_kept, execHeartbeatRx_kept, execMirrorRx_kept]; done)
    | split

theorem State.goodFrame_kept {r0 : State} (s : State) (p : Fin 3) (f : Frame) (t : Int) (hk : Kept r0 s) : KeptO r0 (State.goodFrame s p f t) := by
  unfold State.goodFrame
  repeat' first
    | (simp only [hk, State.ringFrame_kept, State.twinFrame_kept]; done)
    | split

theorem execFrameReceived_kept {r0 : State} (p : Fin 3) (bytes : List Byte) (stamp : Int) (corrected : Nat) (ecc : Bool) (s : State) (hk : Kept r0 s) : KeptO r0 (execFrameReceived p bytes stamp corrected ecc s) := by
  unfold execFrameReceived
  repeat' first
    | (simp (maxDischargeDepth := 200) +decide only [hk, kept_ite, keptO_next, keptO_ite, State.add32_kept, State.bump_kept, State.cause_kept, State.forwardStomped_kept, State.goodFrame_kept, State.rlCause_kept, State.setLink_kept]; done)
    | split

end Sys2Proof.Machine
end

