-- ==== Sys2Proof/Laws/WithinOps.lean ====
section
/-! SUPPORT. Frames of the operations that meanings share: each changes only the objects and the parts named. -/

namespace Sys2Proof.Machine

open Sys2Proof

set_option linter.unusedSimpArgs false

variable {os : List (Obj × Nat)} {ps : List Part} {r0 : State}

theorem State.noteQualified_within (s : State) (hk : r0.Within os ps s) :
    r0.Within os ps (State.noteQualified s) := by
  unfold State.noteQualified
  repeat' first
    | (simp (maxDischargeDepth := 200) +contextual +decide only [hk, within_put, within_mk, within_ite, within_foldl, true_or, or_true, implies_true]; done)
    | dsimp only
    | split

theorem State.startDone_within (s : State) (h0 : (.START_DONE_INDEX, 0) ∈ os) (hk : r0.Within os ps s) :
    r0.Within os ps (State.startDone s) := by
  unfold State.startDone
  repeat' first
    | (simp (maxDischargeDepth := 200) +contextual +decide only [h0, hk, within_put, within_mk, within_ite, within_foldl, true_or, or_true, implies_true]; done)
    | dsimp only
    | split

theorem State.judgeStartUp_within (s : State) (h0 : (.START_QUALIFIED, 0) ∈ os) (h1 : (.START_DONE_INDEX, 0) ∈ os) (hk : r0.Within os ps s) :
    r0.Within os ps (State.judgeStartUp s) := by
  unfold State.judgeStartUp
  repeat' first
    | (simp (maxDischargeDepth := 200) +contextual +decide only [h0, h1, hk, within_put, within_mk, within_ite, within_foldl, true_or, or_true, implies_true, State.noteQualified_within, State.startDone_within]; done)
    | dsimp only
    | split

theorem State.takeSnap_within (s : State) (p0 : Part.engine ∈ ps) (hk : r0.Within os ps s) :
    r0.Within os ps (State.takeSnap s) := by
  unfold State.takeSnap
  repeat' first
    | (simp (maxDischargeDepth := 200) +contextual +decide only [p0, hk, within_put, within_mk, within_ite, within_foldl, true_or, or_true, implies_true]; done)
    | dsimp only
    | split

theorem State.settle_within (s : State) (h0 : (.START_QUALIFIED, 0) ∈ os) (h1 : (.START_DONE_INDEX, 0) ∈ os) (p0 : Part.engine ∈ ps) (hk : r0.Within os ps s) :
    r0.Within os ps (State.settle s) := by
  unfold State.settle
  repeat' first
    | (simp (maxDischargeDepth := 200) +contextual +decide only [h0, h1, p0, hk, within_put, within_mk, within_ite, within_foldl, true_or, or_true, implies_true, State.judgeStartUp_within, State.takeSnap_within]; done)
    | dsimp only
    | split

theorem State.emit_within (s : State) (x : Out) (p0 : Part.out ∈ ps) (hk : r0.Within os ps s) :
    r0.Within os ps (State.emit s x) := by
  unfold State.emit
  repeat' first
    | (simp (maxDischargeDepth := 200) +contextual +decide only [p0, hk, within_put, within_mk, within_ite, within_foldl, true_or, or_true, implies_true]; done)
    | dsimp only
    | split

theorem State.logHold_within (s : State) (old v : Int) (p0 : Part.time ∈ ps) (hk : r0.Within os ps s) :
    r0.Within os ps (State.logHold s old v) := by
  unfold State.logHold
  repeat' first
    | (simp (maxDischargeDepth := 200) +contextual +decide only [p0, hk, within_put, within_mk, within_ite, within_foldl, true_or, or_true, implies_true]; done)
    | dsimp only
    | split

theorem State.noteHeldPps_within (s : State) (old v : Int) (p0 : Part.time ∈ ps) (hk : r0.Within os ps s) :
    r0.Within os ps (State.noteHeldPps s old v) := by
  unfold State.noteHeldPps
  repeat' first
    | (simp (maxDischargeDepth := 200) +contextual +decide only [p0, hk, within_put, within_mk, within_ite, within_foldl, true_or, or_true, implies_true]; done)
    | dsimp only
    | split

theorem State.setVtState_within (s : State) (v : Int) (h0 : (.VT_STATE, 0) ∈ os) (h1 : (.HOLDOVER_TIME, 0) ∈ os) (p0 : Part.time ∈ ps) (hk : r0.Within os ps s) :
    r0.Within os ps (State.setVtState s v) := by
  unfold State.setVtState
  repeat' first
    | (simp (maxDischargeDepth := 200) +contextual +decide only [h0, h1, p0, hk, within_put, within_mk, within_ite, within_foldl, true_or, or_true, implies_true, State.recover_within, State.raise_within, State.logHold_within, State.noteHeldPps_within]; done)
    | dsimp only
    | split

theorem State.alignPps_within (s : State) (p0 : Part.time ∈ ps) (hk : r0.Within os ps s) :
    r0.Within os ps (State.alignPps s) := by
  unfold State.alignPps
  repeat' first
    | (simp (maxDischargeDepth := 200) +contextual +decide only [p0, hk, within_put, within_mk, within_ite, within_foldl, true_or, or_true, implies_true]; done)
    | dsimp only
    | split

theorem State.moveLogs_within (s : State) (old : State) (p0 : Part.time ∈ ps) (hk : r0.Within os ps s) :
    r0.Within os ps (State.moveLogs s old) := by
  unfold State.moveLogs
  repeat' first
    | (simp (maxDischargeDepth := 200) +contextual +decide only [p0, hk, within_put, within_mk, within_ite, within_foldl, true_or, or_true, implies_true]; done)
    | dsimp only
    | split

theorem State.loadPt_within (s : State) (pt : Int) (p0 : Part.time ∈ ps) (hk : r0.Within os ps s) :
    r0.Within os ps (State.loadPt s pt) := by
  unfold State.loadPt
  repeat' first
    | (simp (maxDischargeDepth := 200) +contextual +decide only [p0, hk, within_put, within_mk, within_ite, within_foldl, true_or, or_true, implies_true, State.alignPps_within]; done)
    | dsimp only
    | split

theorem State.loadVt_within (s : State) (vt : Int) (p0 : Part.time ∈ ps) (hk : r0.Within os ps s) :
    r0.Within os ps (State.loadVt s vt) := by
  unfold State.loadVt
  repeat' first
    | (simp (maxDischargeDepth := 200) +contextual +decide only [p0, hk, within_put, within_mk, within_ite, within_foldl, true_or, or_true, implies_true, State.alignPps_within, State.moveLogs_within]; done)
    | dsimp only
    | split

theorem State.setModclk_within (s : State) (v : Int) (h0 : (.MODCLK_STATE, 0) ∈ os) (p0 : Part.time ∈ ps) (hk : r0.Within os ps s) :
    r0.Within os ps (State.setModclk s v) := by
  unfold State.setModclk
  repeat' first
    | (simp (maxDischargeDepth := 200) +contextual +decide only [h0, p0, hk, within_put, within_mk, within_ite, within_foldl, true_or, or_true, implies_true]; done)
    | dsimp only
    | split

theorem State.undoWrites_within (s : State) (h3 : (.VT_INCREMENT, 0) ∈ os) (p0 : Part.time ∈ ps) (hk : r0.Within os ps s) :
    r0.Within os ps (State.undoWrites s) := by
  unfold State.undoWrites
  repeat' first
    | (simp (maxDischargeDepth := 200) +contextual +decide only [h3, p0, hk, within_put, within_mk, within_ite, within_foldl, true_or, or_true, implies_true, State.raise_within]; done)
    | dsimp only
    | split

theorem State.holdOn_within (s : State) (sum : Int) (count : Nat) (h0 : (.VT_STATE, 0) ∈ os) (h1 : (.HOLDOVER_TIME, 0) ∈ os) (h2 : (.HOLD_INCREMENT, 0) ∈ os) (h3 : (.VT_INCREMENT, 0) ∈ os) (p0 : Part.time ∈ ps) (hk : r0.Within os ps s) :
    r0.Within os ps (State.holdOn s sum count) := by
  unfold State.holdOn
  repeat' first
    | (simp (maxDischargeDepth := 200) +contextual +decide only [h0, h1, h2, h3, p0, hk, within_put, within_mk, within_ite, within_foldl, true_or, or_true, implies_true, State.undoWrites_within, State.setVtState_within]; done)
    | dsimp only
    | split

theorem State.enterHoldover_within (s : State) (h0 : (.VT_STATE, 0) ∈ os) (h1 : (.HOLDOVER_TIME, 0) ∈ os) (h2 : (.HOLD_INCREMENT, 0) ∈ os) (h3 : (.VT_INCREMENT, 0) ∈ os) (p0 : Part.time ∈ ps) (hk : r0.Within os ps s) :
    r0.Within os ps (State.enterHoldover s) := by
  unfold State.enterHoldover
  repeat' first
    | (simp (maxDischargeDepth := 200) +contextual +decide only [h0, h1, h2, h3, p0, hk, within_put, within_mk, within_ite, within_foldl, true_or, or_true, implies_true, State.holdOn_within]; done)
    | dsimp only
    | split

theorem State.setPortState_within (s : State) (v : Int) (h0 : (.PTP_PORT_STATE, 0) ∈ os) (hk : r0.Within os ps s) :
    r0.Within os ps (State.setPortState s v) := by
  unfold State.setPortState
  repeat' first
    | (simp (maxDischargeDepth := 200) +contextual +decide only [h0, hk, within_put, within_mk, within_ite, within_foldl, true_or, or_true, implies_true, State.raise_within]; done)
    | dsimp only
    | split

theorem State.setGm_within (s : State) (v : Int) (h0 : (.PTP_GM_IDENTITY, 0) ∈ os) (hk : r0.Within os ps s) :
    r0.Within os ps (State.setGm s v) := by
  unfold State.setGm
  repeat' first
    | (simp (maxDischargeDepth := 200) +contextual +decide only [h0, hk, within_put, within_mk, within_ite, within_foldl, true_or, or_true, implies_true, State.raise_within]; done)
    | dsimp only
    | split

theorem State.sendPtp_within (s : State) (kind seq : Nat) (stamp : Int) (p0 : Part.out ∈ ps) (hk : r0.Within os ps s) :
    r0.Within os ps (State.sendPtp s kind seq stamp) := by
  unfold State.sendPtp
  repeat' first
    | (simp (maxDischargeDepth := 200) +contextual +decide only [p0, hk, within_put, within_mk, within_ite, within_foldl, true_or, or_true, implies_true, State.emit_within]; done)
    | dsimp only
    | split

theorem State.enterAcquiring_within (s : State) (h0 : (.VT_STATE, 0) ∈ os) (h1 : (.HOLDOVER_TIME, 0) ∈ os) (h2 : (.VT_INCREMENT, 0) ∈ os) (p0 : Part.time ∈ ps) (hk : r0.Within os ps s) :
    r0.Within os ps (State.enterAcquiring s) := by
  unfold State.enterAcquiring
  repeat' first
    | (simp (maxDischargeDepth := 200) +contextual +decide only [h0, h1, h2, p0, hk, within_put, within_mk, within_ite, within_foldl, true_or, or_true, implies_true, State.setVtState_within]; done)
    | dsimp only
    | split

theorem State.ptSteer_within (s : State) (h0 : (.PT_STATE, 0) ∈ os) (p0 : Part.time ∈ ps) (hk : r0.Within os ps s) :
    r0.Within os ps (State.ptSteer s) := by
  unfold State.ptSteer
  repeat' first
    | (simp (maxDischargeDepth := 200) +contextual +decide only [h0, p0, hk, within_put, within_mk, within_ite, within_foldl, true_or, or_true, implies_true, State.loadPt_within]; done)
    | dsimp only
    | split

theorem State.setBank_within (s : State) (b : Nat) (v : Bank) (p0 : Part.banks ∈ ps) (hk : r0.Within os ps s) :
    r0.Within os ps (State.setBank s b v) := by
  unfold State.setBank
  repeat' first
    | (simp (maxDischargeDepth := 200) +contextual +decide only [p0, hk, within_put, within_mk, within_ite, within_foldl, true_or, or_true, implies_true]; done)
    | dsimp only
    | split

theorem State.setChan_within (s : State) (c : Nat) (v : Chan) (p0 : Part.chans ∈ ps) (hk : r0.Within os ps s) :
    r0.Within os ps (State.setChan s c v) := by
  unfold State.setChan
  repeat' first
    | (simp (maxDischargeDepth := 200) +contextual +decide only [p0, hk, within_put, within_mk, within_ite, within_foldl, true_or, or_true, implies_true]; done)
    | dsimp only
    | split

theorem State.setScan_within (s : State) (b : Nat) (v : Scan) (p0 : Part.scans ∈ ps) (hk : r0.Within os ps s) :
    r0.Within os ps (State.setScan s b v) := by
  unfold State.setScan
  repeat' first
    | (simp (maxDischargeDepth := 200) +contextual +decide only [p0, hk, within_put, within_mk, within_ite, within_foldl, true_or, or_true, implies_true]; done)
    | dsimp only
    | split

theorem State.setTrier_within (s : State) (t : Nat) (v : Trier) (p0 : Part.triers ∈ ps) (hk : r0.Within os ps s) :
    r0.Within os ps (State.setTrier s t v) := by
  unfold State.setTrier
  repeat' first
    | (simp (maxDischargeDepth := 200) +contextual +decide only [p0, hk, within_put, within_mk, within_ite, within_foldl, true_or, or_true, implies_true]; done)
    | dsimp only
    | split

theorem State.setLane_within (s : State) (b : Nat) (v : Lane) (p0 : Part.lanes ∈ ps) (hk : r0.Within os ps s) :
    r0.Within os ps (State.setLane s b v) := by
  unfold State.setLane
  repeat' first
    | (simp (maxDischargeDepth := 200) +contextual +decide only [p0, hk, within_put, within_mk, within_ite, within_foldl, true_or, or_true, implies_true]; done)
    | dsimp only
    | split

theorem State.setSerLane_within (s : State) (l : Nat) (v : SerLane) (p0 : Part.serLanes ∈ ps) (hk : r0.Within os ps s) :
    r0.Within os ps (State.setSerLane s l v) := by
  unfold State.setSerLane
  repeat' first
    | (simp (maxDischargeDepth := 200) +contextual +decide only [p0, hk, within_put, within_mk, within_ite, within_foldl, true_or, or_true, implies_true]; done)
    | dsimp only
    | split

theorem State.causeIn_within (s : State) (cls : Nat) (inst : Nat) (o : Obj) (i : Nat) (b : Nat) (h0 : (o, i) ∈ os) (h1 : (.FENCE_SUPPRESSED, cls) ∈ os) (hk : r0.Within os ps s) :
    r0.Within os ps (State.causeIn s cls inst o i b) := by
  unfold State.causeIn
  repeat' first
    | (simp (maxDischargeDepth := 200) +contextual +decide only [h0, h1, hk, within_put, within_mk, within_ite, within_foldl, true_or, or_true, implies_true, State.bump_within, State.orCause_within, State.noteCause_within, State.cause_within]; done)
    | dsimp only
    | split

theorem State.bankCause_within (s : State) (b : Nat) (bit : Nat) (h0 : (.BANK_CAUSE, b) ∈ os) (h1 : (.FENCE_SUPPRESSED, 0) ∈ os) (hk : r0.Within os ps s) :
    r0.Within os ps (State.bankCause s b bit) := by
  unfold State.bankCause
  repeat' first
    | (simp (maxDischargeDepth := 200) +contextual +decide only [h0, h1, hk, within_put, within_mk, within_ite, within_foldl, true_or, or_true, implies_true, State.causeIn_within]; done)
    | dsimp only
    | split

theorem State.laneCause_within (s : State) (b : Nat) (bit : Nat) (h0 : (.LANE_CAUSE, b) ∈ os) (h1 : (.FENCE_SUPPRESSED, 1) ∈ os) (hk : r0.Within os ps s) :
    r0.Within os ps (State.laneCause s b bit) := by
  unfold State.laneCause
  repeat' first
    | (simp (maxDischargeDepth := 200) +contextual +decide only [h0, h1, hk, within_put, within_mk, within_ite, within_foldl, true_or, or_true, implies_true, State.causeIn_within]; done)
    | dsimp only
    | split

theorem State.addMark_within (s : State) (c : Nat) (m : Mark) (p0 : Part.chans ∈ ps) (hk : r0.Within os ps s) :
    r0.Within os ps (State.addMark s c m) := by
  unfold State.addMark
  repeat' first
    | (simp (maxDischargeDepth := 200) +contextual +decide only [p0, hk, within_put, within_mk, within_ite, within_foldl, true_or, or_true, implies_true, State.setChan_within]; done)
    | dsimp only
    | split

theorem State.endMarks_within (s : State) (c : Nat) (tag : MarkTag) (hi : Int) (p0 : Part.chans ∈ ps) (hk : r0.Within os ps s) :
    r0.Within os ps (State.endMarks s c tag hi) := by
  unfold State.endMarks
  repeat' first
    | (simp (maxDischargeDepth := 200) +contextual +decide only [p0, hk, within_put, within_mk, within_ite, within_foldl, true_or, or_true, implies_true, State.setChan_within]; done)
    | dsimp only
    | split

theorem State.enterAbsent_within (s : State) (c : Nat) (from_ : Int) (h0 : (.CH_PRESENCE, c) ∈ os) (p0 : Part.chans ∈ ps) (hk : r0.Within os ps s) :
    r0.Within os ps (State.enterAbsent s c from_) := by
  unfold State.enterAbsent
  repeat' first
    | (simp (maxDischargeDepth := 200) +contextual +decide only [h0, p0, hk, within_put, within_mk, within_ite, within_foldl, true_or, or_true, implies_true, State.addMark_within]; done)
    | dsimp only
    | split

theorem State.requalify_within (s : State) (c : Nat) (f : Int) (d : Int) (h0 : (.CH_PRESENCE, c) ∈ os) (h1 : (.CH_WIRE_FAULT, c) ∈ os) (p0 : Part.chans ∈ ps) (hk : r0.Within os ps s) :
    r0.Within os ps (State.requalify s c f d) := by
  unfold State.requalify
  repeat' first
    | (simp (maxDischargeDepth := 200) +contextual +decide only [h0, h1, p0, hk, within_put, within_mk, within_ite, within_foldl, true_or, or_true, implies_true, State.setChan_within, State.addMark_within]; done)
    | dsimp only
    | split

theorem State.badExchange_within (s : State) (b : Nat) (h0 : (.COMP_ERRORS, b) ∈ os) (h1 : (.COMP_LINK_STATE, b) ∈ os) (h2 : (.BANK_CAUSE, b) ∈ os) (h3 : (.FENCE_SUPPRESSED, 0) ∈ os) (p0 : Part.banks ∈ ps) (hk : r0.Within os ps s) :
    r0.Within os ps (State.badExchange s b) := by
  unfold State.badExchange
  repeat' first
    | (simp (maxDischargeDepth := 200) +contextual +decide only [h0, h1, h2, h3, p0, hk, within_put, within_mk, within_ite, within_foldl, true_or, or_true, implies_true, State.bump_within, State.setBank_within, State.bankCause_within]; done)
    | dsimp only
    | split

theorem State.setSpare_within (s : State) (b : Nat) (f : Spare → Spare) (p0 : Part.banks ∈ ps) (hk : r0.Within os ps s) :
    r0.Within os ps (State.setSpare s b f) := by
  unfold State.setSpare
  repeat' first
    | (simp (maxDischargeDepth := 200) +contextual +decide only [p0, hk, within_put, within_mk, within_ite, within_foldl, true_or, or_true, implies_true, State.setBank_within]; done)
    | dsimp only
    | split

theorem State.spareTo_within (s : State) (b : Nat) (st : Int) (k : Option Nat) (h0 : (.SPARE_STATE, b) ∈ os) (h1 : (.SPARE_CHANNEL, b) ∈ os) (hk : r0.Within os ps s) :
    r0.Within os ps (State.spareTo s b st k) := by
  unfold State.spareTo
  repeat' first
    | (simp (maxDischargeDepth := 200) +contextual +decide only [h0, h1, hk, within_put, within_mk, within_ite, within_foldl, true_or, or_true, implies_true]; done)
    | dsimp only
    | split

theorem State.draw_within (s : State) (p0 : Part.draws ∈ ps) (hk : r0.Within os ps s) :
    r0.Within os ps (State.draw s).2 := by
  unfold State.draw
  repeat' first
    | (simp (maxDischargeDepth := 200) +contextual +decide only [p0, hk, within_put, within_mk, within_ite, within_foldl, true_or, or_true, implies_true]; done)
    | dsimp only
    | split

theorem State.abortItems_within (s : State) (items : List Int) (p0 : Part.test ∈ ps) (hk : r0.Within os ps s) :
    r0.Within os ps (State.abortItems s items) := by
  unfold State.abortItems
  repeat' first
    | (simp (maxDischargeDepth := 200) +contextual +decide only [p0, hk, within_put, within_mk, within_ite, within_foldl, true_or, or_true, implies_true]; done)
    | dsimp only
    | split

theorem State.skipDwell_within (s : State) (b : Nat) (h0 : (.SHADOW_SKIPS, b) ∈ os) (h1 : (.SHADOW_LAST, b) ∈ os) (hk : r0.Within os ps s) :
    r0.Within os ps (State.skipDwell s b) := by
  unfold State.skipDwell
  repeat' first
    | (simp (maxDischargeDepth := 200) +contextual +decide only [h0, h1, hk, within_put, within_mk, within_ite, within_foldl, true_or, or_true, implies_true, State.bump_within]; done)
    | dsimp only
    | split

theorem State.logCfg_within (s : State) (c : Nat) (g : Int) (p0 : Part.chans ∈ ps) (hk : r0.Within os ps s) :
    r0.Within os ps (State.logCfg s c g) := by
  unfold State.logCfg
  repeat' first
    | (simp (maxDischargeDepth := 200) +contextual +decide only [p0, hk, within_put, within_mk, within_ite, within_foldl, true_or, or_true, implies_true, State.setChan_within]; done)
    | dsimp only
    | split

theorem State.writeCal_within (s : State) (c : Nat) (offset : Int) (gain : Nat) (h0 : (.CAL_OFFSET, c) ∈ os) (h1 : (.CAL_GAIN, c) ∈ os) (p0 : Part.chans ∈ ps) (hk : r0.Within os ps s) :
    r0.Within os ps (State.writeCal s c offset gain) := by
  unfold State.writeCal
  repeat' first
    | (simp (maxDischargeDepth := 200) +contextual +decide only [h0, h1, p0, hk, within_put, within_mk, within_ite, within_foldl, true_or, or_true, implies_true, State.logCfg_within]; done)
    | dsimp only
    | split

theorem State.updTrier_within (s : State) (t : Nat) (f : Trier → Trier) (p0 : Part.triers ∈ ps) (hk : r0.Within os ps s) :
    r0.Within os ps (State.updTrier s t f) := by
  unfold State.updTrier
  repeat' first
    | (simp (maxDischargeDepth := 200) +contextual +decide only [p0, hk, within_put, within_mk, within_ite, within_foldl, true_or, or_true, implies_true, State.setTrier_within]; done)
    | dsimp only
    | split

theorem State.trierEvent_within (s : State) (t : Nat) (n : Nat) (h0 : (.FENCE_SUPPRESSED, 4) ∈ os) (hk : r0.Within os ps s) :
    r0.Within os ps (State.trierEvent s t n) := by
  unfold State.trierEvent
  repeat' first
    | (simp (maxDischargeDepth := 200) +contextual +decide only [h0, hk, within_put, within_mk, within_ite, within_foldl, true_or, or_true, implies_true, State.bump_within, State.raise_within]; done)
    | dsimp only
    | split

theorem State.trierCause_within (s : State) (t : Nat) (b : Nat) (event : Option Nat) (h0 : (.TRIER_CAUSE, t) ∈ os) (h1 : (.FENCE_SUPPRESSED, 4) ∈ os) (hk : r0.Within os ps s) :
    r0.Within os ps (State.trierCause s t b event) := by
  unfold State.trierCause
  repeat' first
    | (simp (maxDischargeDepth := 200) +contextual +decide only [h0, h1, hk, within_put, within_mk, within_ite, within_foldl, true_or, or_true, implies_true, State.orCause_within, State.noteCause_within, State.trierEvent_within]; done)
    | dsimp only
    | split

theorem State.requestSwap_within (s : State) (b : Nat) (k : Nat) (at_ : Int) (commit : Bool) (p0 : Part.lanes ∈ ps) (hk : r0.Within os ps s) :
    r0.Within os ps (State.requestSwap s b k at_ commit) := by
  unfold State.requestSwap
  repeat' first
    | (simp (maxDischargeDepth := 200) +contextual +decide only [p0, hk, within_put, within_mk, within_ite, within_foldl, true_or, or_true, implies_true, State.setLane_within]; done)
    | dsimp only
    | split

theorem State.noteCjc_within (s : State) (b : Nat) (n : Int) (p0 : Part.banks ∈ ps) (hk : r0.Within os ps s) :
    r0.Within os ps (State.noteCjc s b n) := by
  unfold State.noteCjc
  repeat' first
    | (simp (maxDischargeDepth := 200) +contextual +decide only [p0, hk, within_put, within_mk, within_ite, within_foldl, true_or, or_true, implies_true, State.setBank_within]; done)
    | dsimp only
    | split

theorem State.setUnit_within (s : State) (u : Nat) (v : TrigUnit) (p0 : Part.units ∈ ps) (hk : r0.Within os ps s) :
    r0.Within os ps (State.setUnit s u v) := by
  unfold State.setUnit
  repeat' first
    | (simp (maxDischargeDepth := 200) +contextual +decide only [p0, hk, within_put, within_mk, within_ite, within_foldl, true_or, or_true, implies_true]; done)
    | dsimp only
    | split

theorem State.setPmap_within (s : State) (m : Nat) (v : PMap) (p0 : Part.press ∈ ps) (hk : r0.Within os ps s) :
    r0.Within os ps (State.setPmap s m v) := by
  unfold State.setPmap
  repeat' first
    | (simp (maxDischargeDepth := 200) +contextual +decide only [p0, hk, within_put, within_mk, within_ite, within_foldl, true_or, or_true, implies_true]; done)
    | dsimp only
    | split

theorem State.pressCause_within (s : State) (unit : Nat) (b : Nat) (h0 : (.PRESS_CAUSE, 0) ∈ os) (h1 : (.FENCE_SUPPRESSED, 2) ∈ os) (hk : r0.Within os ps s) :
    r0.Within os ps (State.pressCause s unit b) := by
  unfold State.pressCause
  repeat' first
    | (simp (maxDischargeDepth := 200) +contextual +decide only [h0, h1, hk, within_put, within_mk, within_ite, within_foldl, true_or, or_true, implies_true, State.causeIn_within]; done)
    | dsimp only
    | split

theorem State.setQueue_within (s : State) (q : Nat) (v : Queue) (p0 : Part.queues ∈ ps) (hk : r0.Within os ps s) :
    r0.Within os ps (State.setQueue s q v) := by
  unfold State.setQueue
  repeat' first
    | (simp (maxDischargeDepth := 200) +contextual +decide only [p0, hk, within_put, within_mk, within_ite, within_foldl, true_or, or_true, implies_true]; done)
    | dsimp only
    | split

theorem State.setRegion_within (s : State) (r : Nat) (v : Region) (p0 : Part.regions ∈ ps) (hk : r0.Within os ps s) :
    r0.Within os ps (State.setRegion s r v) := by
  unfold State.setRegion
  repeat' first
    | (simp (maxDischargeDepth := 200) +contextual +decide only [p0, hk, within_put, within_mk, within_ite, within_foldl, true_or, or_true, implies_true]; done)
    | dsimp only
    | split

theorem State.setWit_within (s : State) (w : Nat) (v : WitSlot) (p0 : Part.wits ∈ ps) (hk : r0.Within os ps s) :
    r0.Within os ps (State.setWit s w v) := by
  unfold State.setWit
  repeat' first
    | (simp (maxDischargeDepth := 200) +contextual +decide only [p0, hk, within_put, within_mk, within_ite, within_foldl, true_or, or_true, implies_true]; done)
    | dsimp only
    | split

theorem State.setLane'_within (s : State) (l : Nat) (st : Int) (h0 : (.LANE_STATE, l) ∈ os) (h1 : (.RX_ADAPT_STATE, l) ∈ os) (p0 : Part.serLanes ∈ ps) (hk : r0.Within os ps s) :
    r0.Within os ps (State.setLane' s l st) := by
  unfold State.setLane'
  repeat' first
    | (simp (maxDischargeDepth := 200) +contextual +decide only [h0, h1, p0, hk, within_put, within_mk, within_ite, within_foldl, true_or, or_true, implies_true, State.setSerLane_within]; done)
    | dsimp only
    | split

theorem State.sendControl_within (s : State) (p : Nat) (word : Nat) (p0 : Part.serLanes ∈ ps) (hk : r0.Within os ps s) :
    r0.Within os ps (State.sendControl s p word) := by
  unfold State.sendControl
  repeat' first
    | (simp (maxDischargeDepth := 200) +contextual +decide only [p0, hk, within_put, within_mk, within_ite, within_foldl, true_or, or_true, implies_true, State.setSerLane_within]; done)
    | dsimp only
    | split

theorem State.inject_within (s : State) (l : Nat) (kind : Nat) (n : Nat) (p0 : Part.serLanes ∈ ps) (hk : r0.Within os ps s) :
    r0.Within os ps (State.inject s l kind n).2 := by
  unfold State.inject
  repeat' first
    | (simp (maxDischargeDepth := 200) +contextual +decide only [p0, hk, within_put, within_mk, within_ite, within_foldl, true_or, or_true, implies_true, State.setSerLane_within]; done)
    | dsimp only
    | split

theorem State.disarm_within (s : State) (h0 : (.ARMED_INDEX, 0) ∈ os) (h1 : (.ARMED_DIGEST, 0) ∈ os) (p0 : Part.engine ∈ ps) (hk : r0.Within os ps s) :
    r0.Within os ps (State.disarm s) := by
  unfold State.disarm
  repeat' first
    | (simp (maxDischargeDepth := 200) +contextual +decide only [h0, h1, p0, hk, within_put, within_mk, within_ite, within_foldl, true_or, or_true, implies_true]; done)
    | dsimp only
    | split

theorem State.clearStaging_within (s : State) (h0 : (.STAGED_DEFAULTS, 0) ∈ os) (p0 : Part.engine ∈ ps) (hk : r0.Within os ps s) :
    r0.Within os ps (State.clearStaging s) := by
  unfold State.clearStaging
  repeat' first
    | (simp (maxDischargeDepth := 200) +contextual +decide only [h0, p0, hk, within_put, within_mk, within_ite, within_foldl, true_or, or_true, implies_true]; done)
    | dsimp only
    | split

theorem State.tableWritten_within (s : State) (h0 : (.FRAME_END_STEP, 0) ∈ os) (h1 : (.FRAME_STATE, 0) ∈ os) (h2 : (.FRAME_BAD_STEP, 0) ∈ os) (p0 : Part.power ∈ ps) (hk : r0.Within os ps s) :
    r0.Within os ps (State.tableWritten s) := by
  unfold State.tableWritten
  repeat' first
    | (simp (maxDischargeDepth := 200) +contextual +decide only [h0, h1, h2, p0, hk, within_put, within_mk, within_ite, within_foldl, true_or, or_true, implies_true]; done)
    | dsimp only
    | split

theorem State.refuseCommit_within (s : State) (e : Err) (h0 : (.COMMIT_REFUSALS, 0) ∈ os) (hk : r0.Within os ps s) :
    r0.Within os ps (State.refuseCommit s e).2 := by
  unfold State.refuseCommit
  repeat' first
    | (simp (maxDischargeDepth := 200) +contextual +decide only [h0, hk, within_put, within_mk, within_ite, within_foldl, true_or, or_true, implies_true, State.bump_within]; done)
    | dsimp only
    | split

theorem State.cutReplay_within (s : State) (h0 : (.REPLAY_STATE, 0) ∈ os) (hk : r0.Within os ps s) :
    r0.Within os ps (State.cutReplay s) := by
  unfold State.cutReplay
  repeat' first
    | (simp (maxDischargeDepth := 200) +contextual +decide only [h0, hk, within_put, within_mk, within_ite, within_foldl, true_or, or_true, implies_true]; done)
    | dsimp only
    | split

theorem State.queueCause_within (s : State) (q : Nat) (b : Nat) (h0 : (.QC_CAUSE, 0) ∈ os) (h1 : (.FENCE_SUPPRESSED, 5) ∈ os) (hk : r0.Within os ps s) :
    r0.Within os ps (State.queueCause s q b) := by
  unfold State.queueCause
  repeat' first
    | (simp (maxDischargeDepth := 200) +contextual +decide only [h0, h1, hk, within_put, within_mk, within_ite, within_foldl, true_or, or_true, implies_true, State.causeIn_within]; done)
    | dsimp only
    | split

theorem State.flushQueue_within (s : State) (q : Nat) (h0 : (.FLUSHED_PACKETS, q) ∈ os) (h1 : (.QC_CAUSE, 0) ∈ os) (h2 : (.FENCE_SUPPRESSED, 5) ∈ os) (p0 : Part.queues ∈ ps) (hk : r0.Within os ps s) :
    r0.Within os ps (State.flushQueue s q) := by
  unfold State.flushQueue
  repeat' first
    | (simp (maxDischargeDepth := 200) +contextual +decide only [h0, h1, h2, p0, hk, within_put, within_mk, within_ite, within_foldl, true_or, or_true, implies_true, State.add32_within, State.setQueue_within, State.queueCause_within]; done)
    | dsimp only
    | split

theorem State.ackSegments_within (s : State) (p0 : Part.cave ∈ ps) (hk : r0.Within os ps s) :
    r0.Within os ps (State.ackSegments s) := by
  unfold State.ackSegments
  repeat' first
    | (simp (maxDischargeDepth := 200) +contextual +decide only [p0, hk, within_put, within_mk, within_ite, within_foldl, true_or, or_true, implies_true]; done)
    | dsimp only
    | split

theorem State.portCause_within (s : State) (p : Nat) (o : Obj) (b : Nat) (h0 : (o, 0) ∈ os) (h1 : (.FENCE_SUPPRESSED, 7) ∈ os) (h2 : (.FENCE_SUPPRESSED, 8) ∈ os) (hk : r0.Within os ps s) :
    r0.Within os ps (State.portCause s p o b) := by
  unfold State.portCause
  repeat' first
    | (simp (maxDischargeDepth := 200) +contextual +decide only [h0, h1, h2, hk, within_put, within_mk, within_ite, within_foldl, true_or, or_true, implies_true, State.causeIn_within]; done)
    | dsimp only
    | split

theorem State.lnCause_within (s : State) (p : Nat) (b : Nat) (h0 : (.LN_CAUSE, 0) ∈ os) (h1 : (.FENCE_SUPPRESSED, 7) ∈ os) (h2 : (.FENCE_SUPPRESSED, 8) ∈ os) (hk : r0.Within os ps s) :
    r0.Within os ps (State.lnCause s p b) := by
  unfold State.lnCause
  repeat' first
    | (simp (maxDischargeDepth := 200) +contextual +decide only [h0, h1, h2, hk, within_put, within_mk, within_ite, within_foldl, true_or, or_true, implies_true, State.portCause_within]; done)
    | dsimp only
    | split

theorem State.rlCause_within (s : State) (p : Nat) (b : Nat) (h0 : (.RL_CAUSE, 0) ∈ os) (h1 : (.FENCE_SUPPRESSED, 7) ∈ os) (h2 : (.FENCE_SUPPRESSED, 8) ∈ os) (hk : r0.Within os ps s) :
    r0.Within os ps (State.rlCause s p b) := by
  unfold State.rlCause
  repeat' first
    | (simp (maxDischargeDepth := 200) +contextual +decide only [h0, h1, h2, hk, within_put, within_mk, within_ite, within_foldl, true_or, or_true, implies_true, State.portCause_within]; done)
    | dsimp only
    | split

theorem State.setLinkState_within (s : State) (p : Nat) (st : Int) (h0 : (.LINK_STATE, p) ∈ os) (h1 : (.LINK_CHANGED, p) ∈ os) (hk : r0.Within os ps s) :
    r0.Within os ps (State.setLinkState s p st) := by
  unfold State.setLinkState
  repeat' first
    | (simp (maxDischargeDepth := 200) +contextual +decide only [h0, h1, hk, within_put, within_mk, within_ite, within_foldl, true_or, or_true, implies_true]; done)
    | dsimp only
    | split

theorem State.markSent_within (s : State) (seg : Nat) (place : Nat) (p0 : Part.cave ∈ ps) (hk : r0.Within os ps s) :
    r0.Within os ps (State.markSent s seg place) := by
  unfold State.markSent
  repeat' first
    | (simp (maxDischargeDepth := 200) +contextual +decide only [p0, hk, within_put, within_mk, within_ite, within_foldl, true_or, or_true, implies_true]; done)
    | dsimp only
    | split

theorem within_ite_snd {α : Type} {c : Prop} [Decidable c] {a b : α × State} (ha : r0.Within os ps a.2)
    (hb : r0.Within os ps b.2) : r0.Within os ps (if c then a else b).2 := by
  split
  · exact ha
  · exact hb

theorem State.applyAck_within (s : State) (q seq : Nat) (h0 : (.ACKED_SEQ, q) ∈ os) (h1 : (.QC_CAUSE, 0) ∈ os)
    (h2 : (.FENCE_SUPPRESSED, 5) ∈ os) (p0 : Part.cave ∈ ps) (hk : r0.Within os ps s) :
    r0.Within os ps (State.applyAck s q seq).2 := by
  unfold State.applyAck
  simp (maxDischargeDepth := 200) +decide only [h0, h1, h2, p0, hk, within_put, within_ite_snd, true_or,
    State.ackSegments_within, State.queueCause_within]

theorem State.setTimePort_within (s : State) (p : Nat) (v : TimePort) (p0 : Part.ringTime ∈ ps) (hk : r0.Within os ps s) :
    r0.Within os ps (State.setTimePort s p v) := by
  unfold State.setTimePort
  repeat' first
    | (simp (maxDischargeDepth := 200) +contextual +decide only [p0, hk, within_put, within_mk, within_ite, within_foldl, true_or, or_true, implies_true]; done)
    | dsimp only
    | split

theorem State.sendTime_within (s : State) (p : Nat) (payload : List Byte) (hk : r0.Within os ps s) :
    r0.Within os ps (State.sendTime s p payload) := by
  unfold State.sendTime
  repeat' first
    | (simp (maxDischargeDepth := 200) +contextual +decide only [hk, within_put, within_mk, within_ite, within_foldl, true_or, or_true, implies_true, State.sendFrame_within, State.newFrame_within]; done)
    | dsimp only
    | split

theorem State.relaySync_within (s : State) (p : Nat) (b : List Byte) (y : Sync) (t : Int) (hk : r0.Within os ps s) :
    r0.Within os ps (State.relaySync s p b y t) := by
  unfold State.relaySync
  repeat' first
    | (simp (maxDischargeDepth := 200) +contextual +decide only [hk, within_put, within_mk, within_ite, within_foldl, true_or, or_true, implies_true, State.sendTime_within]; done)
    | dsimp only
    | split

theorem State.onPause_within (s : State) (p : Nat) (f : Frame) (h0 : (.PAUSES_RECEIVED, p) ∈ os) (h1 : (.PAUSED, p) ∈ os) (hk : r0.Within os ps s) :
    r0.Within os ps (State.onPause s p f) := by
  unfold State.onPause
  repeat' first
    | (simp (maxDischargeDepth := 200) +contextual +decide only [h0, h1, hk, within_put, within_mk, within_ite, within_foldl, true_or, or_true, implies_true, State.bump_within, State.setLink_within]; done)
    | dsimp only
    | split

theorem State.sendTwin_within (s : State) (rank : Nat) (payload : List Byte) (hk : r0.Within os ps s) :
    r0.Within os ps (State.sendTwin s rank payload) := by
  unfold State.sendTwin
  repeat' first
    | (simp (maxDischargeDepth := 200) +contextual +decide only [hk, within_put, within_mk, within_ite, within_foldl, true_or, or_true, implies_true, State.sendFrame_within, State.newFrame_within]; done)
    | dsimp only
    | split

theorem State.sendWreq_within (s : State) (op : Nat) (hk : r0.Within os ps s) :
    r0.Within os ps (State.sendWreq s op) := by
  unfold State.sendWreq
  repeat' first
    | (simp (maxDischargeDepth := 200) +contextual +decide only [hk, within_put, within_mk, within_ite, within_foldl, true_or, or_true, implies_true, State.sendFrame_within, State.newFrame_within]; done)
    | dsimp only
    | split

theorem State.logActing_within (s : State) (at_ : Int) (on : Bool) (hk : r0.Within os ps s) :
    r0.Within os ps (State.logActing s at_ on) := by
  unfold State.logActing
  repeat' first
    | (simp (maxDischargeDepth := 200) +contextual +decide only [hk, within_put, within_mk, within_ite, within_foldl, true_or, or_true, implies_true]; done)
    | dsimp only
    | split

theorem State.twinCause_within (s : State) (b : Nat) (h0 : (.TWIN_CAUSE, 0) ∈ os) (hk : r0.Within os ps s) :
    r0.Within os ps (State.twinCause s b) := by
  unfold State.twinCause
  repeat' first
    | (simp (maxDischargeDepth := 200) +contextual +decide only [h0, hk, within_put, within_mk, within_ite, within_foldl, true_or, or_true, implies_true, State.cause_within]; done)
    | dsimp only
    | split

theorem State.startHandover_within (s : State) (hk : r0.Within os ps s) :
    r0.Within os ps (State.startHandover s) := by
  unfold State.startHandover
  repeat' first
    | (simp (maxDischargeDepth := 200) +contextual +decide only [hk, within_put, within_mk, within_ite, within_foldl, true_or, or_true, implies_true]; done)
    | dsimp only
    | split

theorem State.twinUnlock_within (s : State) (h0 : (.LOCK_n, 0) ∈ os) (hk : r0.Within os ps s) :
    r0.Within os ps (State.twinUnlock s) := by
  unfold State.twinUnlock
  repeat' first
    | (simp (maxDischargeDepth := 200) +contextual +decide only [h0, hk, within_put, within_mk, within_ite, within_foldl, true_or, or_true, implies_true]; done)
    | dsimp only
    | split

theorem State.freeWit_within (s : State) (w : Nat) (h0 : (.WIT_TWIN, w) ∈ os) (h1 : (.WIT_HOLDER, w) ∈ os) (h2 : (.WIT_GRANT_END, w) ∈ os) (p0 : Part.wits ∈ ps) (hk : r0.Within os ps s) :
    r0.Within os ps (State.freeWit s w) := by
  unfold State.freeWit
  repeat' first
    | (simp (maxDischargeDepth := 200) +contextual +decide only [h0, h1, h2, p0, hk, within_put, within_mk, within_ite, within_foldl, true_or, or_true, implies_true, State.setWit_within]; done)
    | dsimp only
    | split

theorem State.useBox_within (s : State) (p0 : Part.test ∈ ps) (hk : r0.Within os ps s) :
    r0.Within os ps (State.useBox s) := by
  unfold State.useBox
  repeat' first
    | (simp (maxDischargeDepth := 200) +contextual +decide only [p0, hk, within_put, within_mk, within_ite, within_foldl, true_or, or_true, implies_true, State.abortItems_within]; done)
    | dsimp only
    | split

theorem State.crossTest_within (s : State) (k : Nat) (h0 : (.MBX_STATE, k) ∈ os) (h1 : (.MBX_CROSSINGS, k) ∈ os) (hk : r0.Within os ps s) :
    r0.Within os ps (State.crossTest s k) := by
  unfold State.crossTest
  repeat' first
    | (simp (maxDischargeDepth := 200) +contextual +decide only [h0, h1, hk, within_put, within_mk, within_ite, within_foldl, true_or, or_true, implies_true, State.bump_within, State.setBox_within, State.cause_within]; done)
    | dsimp only
    | split

theorem State.emptyTest_within (s : State) (k : Nat) (hk : r0.Within os ps s) :
    r0.Within os ps (State.emptyTest s k) := by
  unfold State.emptyTest
  repeat' first
    | (simp (maxDischargeDepth := 200) +contextual +decide only [hk, within_put, within_mk, within_ite, within_foldl, true_or, or_true, implies_true, State.setBox_within, State.cause_within]; done)
    | dsimp only
    | split

theorem State.closeBox_within (s : State) (k : Nat) (h0 : (.MBX_STATE, k) ∈ os) (h1 : (.MBX_OWNER, k) ∈ os) (h2 : (.MBX_SERVICE, k) ∈ os) (h3 : (.MBX_ACK_TX, k) ∈ os) (hk : r0.Within os ps s) :
    r0.Within os ps (State.closeBox s k) := by
  unfold State.closeBox
  repeat' first
    | (simp (maxDischargeDepth := 200) +contextual +decide only [h0, h1, h2, h3, hk, within_put, within_mk, within_ite, within_foldl, true_or, or_true, implies_true, State.setEvDelivery_within, State.setBox_within]; done)
    | dsimp only
    | split

theorem State.renewLock_within (s : State) (n : Nat) (p0 : Part.locks ∈ ps) (hk : r0.Within os ps s) :
    r0.Within os ps (State.renewLock s n) := by
  unfold State.renewLock
  repeat' first
    | (simp (maxDischargeDepth := 200) +contextual +decide only [p0, hk, within_put, within_mk, within_ite, within_foldl, true_or, or_true, implies_true]; done)
    | dsimp only
    | split

theorem State.readLock_within (s : State) (own : Int) (n : Nat) (h0 : (.LOCK_n, n) ∈ os) (h1 : (.LOCK_CONTESTED, 0) ∈ os) (p0 : Part.locks ∈ ps) (hk : r0.Within os ps s) :
    r0.Within os ps (State.readLock s own n).2 := by
  unfold State.readLock
  repeat' first
    | (simp (maxDischargeDepth := 200) +contextual +decide only [h0, h1, p0, hk, within_put, within_mk, within_ite, within_foldl, true_or, or_true, implies_true, State.bump_within, State.renewLock_within]; done)
    | dsimp only
    | split

theorem State.makeTrial_within (s : State) (h0 : (.BOOT_NEXT, 0) ∈ os) (p0 : Part.sec ∈ ps) (hk : r0.Within os ps s) :
    r0.Within os ps (State.makeTrial s) := by
  unfold State.makeTrial
  repeat' first
    | (simp (maxDischargeDepth := 200) +contextual +decide only [h0, p0, hk, within_put, within_mk, within_ite, within_foldl, true_or, or_true, implies_true]; done)
    | dsimp only
    | split

theorem State.showVersions_within (s : State) (h0 : (.FW_VERSION_A, 0) ∈ os) (h1 : (.FW_VERSION_B, 0) ∈ os) (hk : r0.Within os ps s) :
    r0.Within os ps (State.showVersions s) := by
  unfold State.showVersions
  repeat' first
    | (simp (maxDischargeDepth := 200) +contextual +decide only [h0, h1, hk, within_put, within_mk, within_ite, within_foldl, true_or, or_true, implies_true]; done)
    | dsimp only
    | split

theorem State.setFenceTick_within (s : State) (cls : Nat) (i : Nat) (f : FenceTick) (p0 : Part.fences ∈ ps) (hk : r0.Within os ps s) :
    r0.Within os ps (State.setFenceTick s cls i f) := by
  unfold State.setFenceTick
  repeat' first
    | (simp (maxDischargeDepth := 200) +contextual +decide only [p0, hk, within_put, within_mk, within_ite, within_foldl, true_or, or_true, implies_true]; done)
    | dsimp only
    | split

theorem State.leaveFence_within (s : State) (cls : Nat) (i : Nat) (h0 : (.FENCED, cls) ∈ os) (h1 : (.FI_CAUSE, 0) ∈ os) (hk : r0.Within os ps s) :
    r0.Within os ps (State.leaveFence s cls i) := by
  unfold State.leaveFence
  repeat' first
    | (simp (maxDischargeDepth := 200) +contextual +decide only [h0, h1, hk, within_put, within_mk, within_ite, within_foldl, true_or, or_true, implies_true, State.cause_within]; done)
    | dsimp only
    | split

theorem State.powerRefused_within (s : State) (h0 : (.PW_CAUSE, 0) ∈ os) (hk : r0.Within os ps s) :
    r0.Within os ps (State.powerRefused s).2 := by
  unfold State.powerRefused
  repeat' first
    | (simp (maxDischargeDepth := 200) +contextual +decide only [h0, hk, within_put, within_mk, within_ite, within_foldl, true_or, or_true, implies_true, State.cause_within]; done)
    | dsimp only
    | split

theorem State.wakeUp_within (s : State) (cause : Nat) (p0 : Part.power ∈ ps) (p1 : Part.test ∈ ps) (hk : r0.Within os ps s) :
    r0.Within os ps (State.wakeUp s cause) := by
  unfold State.wakeUp
  repeat' first
    | (simp (maxDischargeDepth := 200) +contextual +decide only [p0, p1, hk, within_put, within_mk, within_ite, within_foldl, true_or, or_true, implies_true, State.cause_within]; done)
    | dsimp only
    | split

theorem State.wakeSource_within (s : State) (cause : Nat) (p0 : Part.power ∈ ps) (p1 : Part.test ∈ ps) (hk : r0.Within os ps s) :
    r0.Within os ps (State.wakeSource s cause) := by
  unfold State.wakeSource
  repeat' first
    | (simp (maxDischargeDepth := 200) +contextual +decide only [p0, p1, hk, within_put, within_mk, within_ite, within_foldl, true_or, or_true, implies_true, State.cause_within, State.wakeUp_within]; done)
    | dsimp only
    | split

theorem State.beginBoot_within (s : State) (h0 : (.RESET_CAUSE, 0) ∈ os) (h1 : (.START_STATE, 0) ∈ os) (hk : r0.Within os ps s) :
    r0.Within os ps (State.beginBoot s) := by
  unfold State.beginBoot
  repeat' first
    | (simp (maxDischargeDepth := 200) +contextual +decide only [h0, h1, hk, within_put, within_mk, within_ite, within_foldl, true_or, or_true, implies_true, State.cause_within]; done)
    | dsimp only
    | split

theorem State.sendMember_within (s : State) (p0 : Part.vat ∈ ps) (hk : r0.Within os ps s) :
    r0.Within os ps (State.sendMember s) := by
  unfold State.sendMember
  repeat' first
    | (simp (maxDischargeDepth := 200) +contextual +decide only [p0, hk, within_put, within_mk, within_ite, within_foldl, true_or, or_true, implies_true, State.sendFrame_within, State.newFrame_within]; done)
    | dsimp only
    | split

theorem State.setVatState_within (s : State) (v : Int) (h0 : (.VAT_STATE, 0) ∈ os) (h1 : (.VAT_STATE_CHANGED, 0) ∈ os) (hk : r0.Within os ps s) :
    r0.Within os ps (State.setVatState s v) := by
  unfold State.setVatState
  repeat' first
    | (simp (maxDischargeDepth := 200) +contextual +decide only [h0, h1, hk, within_put, within_mk, within_ite, within_foldl, true_or, or_true, implies_true, State.recover_within, State.cause_within]; done)
    | dsimp only
    | split

theorem State.withdrawCandidate_within (s : State) (p0 : Part.ringTime ∈ ps) (hk : r0.Within os ps s) :
    r0.Within os ps (State.withdrawCandidate s) := by
  unfold State.withdrawCandidate
  repeat' first
    | (simp (maxDischargeDepth := 200) +contextual +decide only [p0, hk, within_put, within_mk, within_ite, within_foldl, true_or, or_true, implies_true, State.sendTime_within]; done)
    | dsimp only
    | split

theorem State.ethFrame_within (s : State) (h0 : (.ETH_LINK, 0) ∈ os) (hk : r0.Within os ps s) :
    r0.Within os ps (State.ethFrame s) := by
  unfold State.ethFrame
  repeat' first
    | (simp (maxDischargeDepth := 200) +contextual +decide only [h0, hk, within_put, within_mk, within_ite, within_foldl, true_or, or_true, implies_true]; done)
    | dsimp only
    | split

end Sys2Proof.Machine
end

