-- ==== Sys2Proof/Laws/Raise.lean ====
section
/-! SUPPORT. What raising an event does to its counter, its stamp and its pending flag (R506). -/

namespace Sys2Proof.Machine

open Sys2Proof

set_option linter.unusedSimpArgs false

/-- The objects of the event controller that a raise sets. -/
def Obj.ofRaise (o : Obj) : Bool :=
  match o with
  | .EV_COUNT | .EV_LAST | .EV_PENDING => true
  | _ => false

/-- Delivery of an event leaves what its raise has set; a notice placed may raise EV 0xC0. -/
def SameEv (s t : State) : Prop := ∀ (o : Obj) (i : Nat), o.ofRaise = true → i ≠ 0xC0 → t.get o i = s.get o i

variable {r0 s : State}

theorem ev_put (h : SameEv r0 s) {o : Obj} {i : Nat} {v : Int} (ho : o.ofRaise = false ∨ i = 0xC0) :
    SameEv r0 (s.put o i v) := by
  intro p j hp hj
  rw [State.get_put]
  split
  · rename_i e
    obtain ⟨rfl, rfl⟩ := e
    rcases ho with ho | ho
    · rw [hp] at ho
      contradiction
    · exact absurd ho hj
  · exact h p j hp hj

theorem ev_mk (h : SameEv r0 s) {blob time ptp frame chans banks scans triers lanes events fences causes engine mail locks
    journal serLanes links ringTime twin wits ring excCal curdBad queues cave units regions bcasts press trierOut sec power
    test boot vat draws out answer pending} :
    SameEv r0 (State.mk s.obj blob time ptp frame chans banks scans triers lanes events fences causes engine mail locks
      journal serLanes links ringTime twin wits ring excCal curdBad queues cave units regions bcasts press trierOut sec power
      test boot vat draws out answer pending) := h

theorem ev_foldl {α : Type} {g : State → α → State} (hg : ∀ s x, SameEv r0 s → SameEv r0 (g s x)) (l : List α)
    (h : SameEv r0 s) : SameEv r0 (l.foldl g s) := by
  induction l generalizing s with
  | nil => exact h
  | cons a t ih => exact ih (hg _ _ h)

theorem State.bump_ev (s : State) (o : Obj) (i : Nat) (ho : o.ofRaise = false ∨ i = 0xC0) (hk : SameEv r0 s) : SameEv r0 (State.bump s o i) := by
  unfold State.bump
  repeat' first
    | (simp (maxDischargeDepth := 200) +contextual +decide only [ho, hk, true_or, or_true, ev_put, ev_mk, ev_foldl, implies_true]; done)
    | dsimp only
    | split

theorem State.add64_ev (s : State) (o : Obj) (i : Nat) (n : Int) (ho : o.ofRaise = false ∨ i = 0xC0) (hk : SameEv r0 s) : SameEv r0 (State.add64 s o i n) := by
  unfold State.add64
  repeat' first
    | (simp (maxDischargeDepth := 200) +contextual +decide only [ho, hk, true_or, or_true, ev_put, ev_mk, ev_foldl, implies_true]; done)
    | dsimp only
    | split

theorem State.setEvDelivery_ev (s : State) (n : Nat) (v : EvDelivery) (hk : SameEv r0 s) : SameEv r0 (State.setEvDelivery s n v) := by
  unfold State.setEvDelivery
  repeat' first
    | (simp (maxDischargeDepth := 200) +contextual +decide only [hk, true_or, or_true, ev_put, ev_mk, ev_foldl, implies_true]; done)
    | dsimp only
    | split

theorem State.setBox_ev (s : State) (k : Nat) (v : Mailbox) (hk : SameEv r0 s) : SameEv r0 (State.setBox s k v) := by
  unfold State.setBox
  repeat' first
    | (simp (maxDischargeDepth := 200) +contextual +decide only [hk, true_or, or_true, ev_put, ev_mk, ev_foldl, implies_true]; done)
    | dsimp only
    | split

theorem State.setLink_ev (s : State) (p : Nat) (v : Link) (hk : SameEv r0 s) : SameEv r0 (State.setLink s p v) := by
  unfold State.setLink
  repeat' first
    | (simp (maxDischargeDepth := 200) +contextual +decide only [hk, true_or, or_true, ev_put, ev_mk, ev_foldl, implies_true]; done)
    | dsimp only
    | split

theorem State.queueFrame_ev (s : State) (p : Nat) (rank : Nat) (f : Frame) (hk : SameEv r0 s) : SameEv r0 (State.queueFrame s p rank f) := by
  unfold State.queueFrame
  repeat' first
    | (simp (maxDischargeDepth := 200) +contextual +decide only [hk, true_or, or_true, ev_put, ev_mk, ev_foldl, implies_true, State.setLink_ev]; done)
    | dsimp only
    | split

theorem State.sendFrame_ev (s : State) (p : Nat) (rank : Nat) (f : Frame) (hk : SameEv r0 s) : SameEv r0 (State.sendFrame s p rank f) := by
  unfold State.sendFrame
  repeat' first
    | (simp (maxDischargeDepth := 200) +contextual +decide only [hk, true_or, or_true, ev_put, ev_mk, ev_foldl, implies_true, State.bump_ev, State.add64_ev, State.queueFrame_ev]; done)
    | dsimp only
    | split

theorem State.newFrame_ev (s : State) (cls : Nat) (bothways : Bool) (link : Bool) (dstKind : Nat) (dstPos : Nat) (dstAddr : Nat) (payload : List Byte) (hk : SameEv r0 s) : SameEv r0 (State.newFrame s cls bothways link dstKind dstPos dstAddr payload).2 := by
  unfold State.newFrame
  repeat' first
    | (simp (maxDischargeDepth := 200) +contextual +decide only [hk, true_or, or_true, ev_put, ev_mk, ev_foldl, implies_true]; done)
    | dsimp only
    | split

theorem State.sendReport_ev (s : State) (n : Nat) (hk : SameEv r0 s) : SameEv r0 (State.sendReport s n) := by
  unfold State.sendReport
  repeat' first
    | (simp (maxDischargeDepth := 200) +contextual +decide only [hk, true_or, or_true, ev_put, ev_mk, ev_foldl, implies_true, State.setEvDelivery_ev, State.sendFrame_ev, State.newFrame_ev]; done)
    | dsimp only
    | split

theorem State.deliverRing_ev (s : State) (n : Nat) (hk : SameEv r0 s) : SameEv r0 (State.deliverRing s n) := by
  unfold State.deliverRing
  repeat' first
    | (simp (maxDischargeDepth := 200) +contextual +decide only [hk, true_or, or_true, ev_put, ev_mk, ev_foldl, implies_true, State.bump_ev, State.setEvDelivery_ev, State.sendReport_ev]; done)
    | dsimp only
    | split

theorem State.orCause_ev (s : State) (o : Obj) (i : Nat) (b : Nat) (ho : o.ofRaise = false ∨ i = 0xC0) (hk : SameEv r0 s) : SameEv r0 (State.orCause s o i b) := by
  unfold State.orCause
  repeat' first
    | (simp (maxDischargeDepth := 200) +contextual +decide only [ho, hk, true_or, or_true, ev_put, ev_mk, ev_foldl, implies_true]; done)
    | dsimp only
    | split

theorem State.countRaise_ev (s : State) (n : Nat) (ho : n = 0xC0) (hk : SameEv r0 s) : SameEv r0 (State.countRaise s n) := by
  unfold State.countRaise
  repeat' first
    | (simp (maxDischargeDepth := 200) +contextual +decide only [ho, hk, true_or, or_true, ev_put, ev_mk, ev_foldl, implies_true, State.setEvDelivery_ev]; done)
    | dsimp only
    | split

theorem State.noticePlaced_ev (s : State) (hk : SameEv r0 s) : SameEv r0 (State.noticePlaced s) := by
  unfold State.noticePlaced
  repeat' first
    | (simp (maxDischargeDepth := 200) +contextual +decide only [hk, true_or, or_true, ev_put, ev_mk, ev_foldl, implies_true, State.deliverRing_ev, State.orCause_ev, State.countRaise_ev]; done)
    | dsimp only
    | split

theorem State.placeNotice_ev (s : State) (k : Nat) (mk : Nat → Notice) (hk : SameEv r0 s) : SameEv r0 (State.placeNotice s k mk) := by
  unfold State.placeNotice
  repeat' first
    | (simp (maxDischargeDepth := 200) +contextual +decide only [hk, true_or, or_true, ev_put, ev_mk, ev_foldl, implies_true, State.setBox_ev, State.noticePlaced_ev]; done)
    | dsimp only
    | split

theorem State.postEvent_ev (s : State) (n : Nat) (hk : SameEv r0 s) : SameEv r0 (State.postEvent s n) := by
  unfold State.postEvent
  repeat' first
    | (simp (maxDischargeDepth := 200) +contextual +decide only [hk, true_or, or_true, ev_put, ev_mk, ev_foldl, implies_true, State.setEvDelivery_ev, State.placeNotice_ev]; done)
    | dsimp only
    | split

theorem State.countNotice_ev (s : State) (n : Nat) (hk : SameEv r0 s) : SameEv r0 (State.countNotice s n) := by
  unfold State.countNotice
  repeat' first
    | (simp (maxDischargeDepth := 200) +contextual +decide only [hk, true_or, or_true, ev_put, ev_mk, ev_foldl, implies_true, State.setBox_ev]; done)
    | dsimp only
    | split

theorem State.deliverMbx_ev (s : State) (n : Nat) (hk : SameEv r0 s) : SameEv r0 (State.deliverMbx s n) := by
  unfold State.deliverMbx
  repeat' first
    | (simp (maxDischargeDepth := 200) +contextual +decide only [hk, true_or, or_true, ev_put, ev_mk, ev_foldl, implies_true, State.bump_ev, State.setEvDelivery_ev, State.postEvent_ev, State.countNotice_ev]; done)
    | dsimp only
    | split

theorem State.recover_ev (s : State) (hk : SameEv r0 s) : SameEv r0 (State.recover s) := by
  unfold State.recover
  repeat' first
    | (simp (maxDischargeDepth := 200) +contextual +decide only [hk, true_or, or_true, ev_put, ev_mk, ev_foldl, implies_true]; done)
    | dsimp only
    | split

/-- A raise counts its event, saturating (R506); one that has a notice placed may count EV 0xC0 beside it. -/
@[simp] theorem get_raise_count (s : State) (n i : Nat) (hi : i ≠ 0xC0) :
    (s.raise n).get .EV_COUNT i = if n = i then min (s.get .EV_COUNT i + 1) 4294967295 else s.get .EV_COUNT i := by
  unfold State.raise
  dsimp only
  have hr : SameEv s (if n = 0xA1 then s.recover else s) := by
    split
    · exact State.recover_ev s (fun _ _ _ _ => rfl)
    · exact fun _ _ _ _ => rfl
  generalize (if n = 0xA1 then s.recover else s) = u at hr
  rw [State.deliverMbx_ev _ _ (State.deliverRing_ev _ _ (fun _ _ _ _ => rfl)) _ _ rfl hi, ← hr .EV_COUNT i rfl hi]
  unfold State.countRaise
  dsimp only
  split <;> simp [State.setEvDelivery] <;> split <;> simp_all

/-- A raise of an event with an interrupt bit leaves it pending (R506). -/
theorem get_raise_pending (s : State) (n : Nat) (hi : n ≠ 0xC0) (h : field (s.get .EV_ROUTE n) 3 0 ≠ 0) :
    (s.raise n).get .EV_PENDING n = 1 := by
  unfold State.raise
  dsimp only
  have hr : (if n = 0xA1 then s.recover else s).get .EV_ROUTE n = s.get .EV_ROUTE n := by
    split
    · exact (State.recover_within s (.refl s)).get (os := []) (ps := []) List.not_mem_nil rfl
    · rfl
  generalize (if n = 0xA1 then s.recover else s) = u at hr
  rw [State.deliverMbx_ev _ _ (State.deliverRing_ev _ _ (fun _ _ _ _ => rfl)) _ _ rfl hi]
  unfold State.countRaise
  dsimp only
  split
  · simp
  · rename_i q
    simp [State.setEvDelivery, hr, h] at q

/-! ### The causes of the tick -/

/-- Journalling and reporting note no cause but those of MJ_CAUSE. -/
def SameCause (s t : State) : Prop := ∀ (o : Obj) (i : Nat), o ≠ .MJ_CAUSE → t.causeTick o i = s.causeTick o i

theorem ct_put (h : SameCause r0 s) {o : Obj} {i : Nat} {v : Int} : SameCause r0 (s.put o i v) := h

theorem ct_mk (h : SameCause r0 s) {obj blob time ptp frame chans banks scans triers lanes events fences engine mail locks
    journal serLanes links ringTime twin wits ring excCal curdBad queues cave units regions bcasts press trierOut sec power
    test boot vat draws out answer pending} :
    SameCause r0 (State.mk obj blob time ptp frame chans banks scans triers lanes events fences s.causes engine mail locks
      journal serLanes links ringTime twin wits ring excCal curdBad queues cave units regions bcasts press trierOut sec power
      test boot vat draws out answer pending) := h

theorem ct_foldl {α : Type} {g : State → α → State} (hg : ∀ s x, SameCause r0 s → SameCause r0 (g s x)) (l : List α)
    (h : SameCause r0 s) : SameCause r0 (l.foldl g s) := by
  induction l generalizing s with
  | nil => exact h
  | cons a t ih => exact ih (hg _ _ h)

theorem State.bump_ct (s : State) (o : Obj) (i : Nat) (hk : SameCause r0 s) : SameCause r0 (State.bump s o i) := by
  unfold State.bump
  repeat' first
    | (simp (maxDischargeDepth := 200) +contextual +decide only [hk, ct_put, ct_mk, ct_foldl, implies_true]; done)
    | dsimp only
    | split

theorem State.add64_ct (s : State) (o : Obj) (i : Nat) (n : Int) (hk : SameCause r0 s) : SameCause r0 (State.add64 s o i n) := by
  unfold State.add64
  repeat' first
    | (simp (maxDischargeDepth := 200) +contextual +decide only [hk, ct_put, ct_mk, ct_foldl, implies_true]; done)
    | dsimp only
    | split

theorem State.setEvDelivery_ct (s : State) (n : Nat) (v : EvDelivery) (hk : SameCause r0 s) : SameCause r0 (State.setEvDelivery s n v) := by
  unfold State.setEvDelivery
  repeat' first
    | (simp (maxDischargeDepth := 200) +contextual +decide only [hk, ct_put, ct_mk, ct_foldl, implies_true]; done)
    | dsimp only
    | split

theorem State.setBox_ct (s : State) (k : Nat) (v : Mailbox) (hk : SameCause r0 s) : SameCause r0 (State.setBox s k v) := by
  unfold State.setBox
  repeat' first
    | (simp (maxDischargeDepth := 200) +contextual +decide only [hk, ct_put, ct_mk, ct_foldl, implies_true]; done)
    | dsimp only
    | split

theorem State.setLink_ct (s : State) (p : Nat) (v : Link) (hk : SameCause r0 s) : SameCause r0 (State.setLink s p v) := by
  unfold State.setLink
  repeat' first
    | (simp (maxDischargeDepth := 200) +contextual +decide only [hk, ct_put, ct_mk, ct_foldl, implies_true]; done)
    | dsimp only
    | split

theorem State.queueFrame_ct (s : State) (p : Nat) (rank : Nat) (f : Frame) (hk : SameCause r0 s) : SameCause r0 (State.queueFrame s p rank f) := by
  unfold State.queueFrame
  repeat' first
    | (simp (maxDischargeDepth := 200) +contextual +decide only [hk, ct_put, ct_mk, ct_foldl, implies_true, State.setLink_ct]; done)
    | dsimp only
    | split

theorem State.sendFrame_ct (s : State) (p : Nat) (rank : Nat) (f : Frame) (hk : SameCause r0 s) : SameCause r0 (State.sendFrame s p rank f) := by
  unfold State.sendFrame
  repeat' first
    | (simp (maxDischargeDepth := 200) +contextual +decide only [hk, ct_put, ct_mk, ct_foldl, implies_true, State.bump_ct, State.add64_ct, State.queueFrame_ct]; done)
    | dsimp only
    | split

theorem State.newFrame_ct (s : State) (cls : Nat) (bothways : Bool) (link : Bool) (dstKind : Nat) (dstPos : Nat) (dstAddr : Nat) (payload : List Byte) (hk : SameCause r0 s) : SameCause r0 (State.newFrame s cls bothways link dstKind dstPos dstAddr payload).2 := by
  unfold State.newFrame
  repeat' first
    | (simp (maxDischargeDepth := 200) +contextual +decide only [hk, ct_put, ct_mk, ct_foldl, implies_true]; done)
    | dsimp only
    | split

theorem State.sendReport_ct (s : State) (n : Nat) (hk : SameCause r0 s) : SameCause r0 (State.sendReport s n) := by
  unfold State.sendReport
  repeat' first
    | (simp (maxDischargeDepth := 200) +contextual +decide only [hk, ct_put, ct_mk, ct_foldl, implies_true, State.setEvDelivery_ct, State.sendFrame_ct, State.newFrame_ct]; done)
    | dsimp only
    | split

theorem State.deliverRing_ct (s : State) (n : Nat) (hk : SameCause r0 s) : SameCause r0 (State.deliverRing s n) := by
  unfold State.deliverRing
  repeat' first
    | (simp (maxDischargeDepth := 200) +contextual +decide only [hk, ct_put, ct_mk, ct_foldl, implies_true, State.bump_ct, State.setEvDelivery_ct, State.sendReport_ct]; done)
    | dsimp only
    | split

theorem State.orCause_ct (s : State) (o : Obj) (i : Nat) (b : Nat) (hk : SameCause r0 s) : SameCause r0 (State.orCause s o i b) := by
  unfold State.orCause
  repeat' first
    | (simp (maxDischargeDepth := 200) +contextual +decide only [hk, ct_put, ct_mk, ct_foldl, implies_true]; done)
    | dsimp only
    | split

theorem State.countRaise_ct (s : State) (n : Nat) (hk : SameCause r0 s) : SameCause r0 (State.countRaise s n) := by
  unfold State.countRaise
  repeat' first
    | (simp (maxDischargeDepth := 200) +contextual +decide only [hk, ct_put, ct_mk, ct_foldl, implies_true, State.setEvDelivery_ct]; done)
    | dsimp only
    | split

theorem State.noticePlaced_ct (s : State) (hk : SameCause r0 s) : SameCause r0 (State.noticePlaced s) := by
  unfold State.noticePlaced
  repeat' first
    | (simp (maxDischargeDepth := 200) +contextual +decide only [hk, ct_put, ct_mk, ct_foldl, implies_true, State.deliverRing_ct, State.orCause_ct, State.countRaise_ct]; done)
    | dsimp only
    | split

theorem State.placeNotice_ct (s : State) (k : Nat) (mk : Nat → Notice) (hk : SameCause r0 s) : SameCause r0 (State.placeNotice s k mk) := by
  unfold State.placeNotice
  repeat' first
    | (simp (maxDischargeDepth := 200) +contextual +decide only [hk, ct_put, ct_mk, ct_foldl, implies_true, State.setBox_ct, State.noticePlaced_ct]; done)
    | dsimp only
    | split

theorem State.postEvent_ct (s : State) (n : Nat) (hk : SameCause r0 s) : SameCause r0 (State.postEvent s n) := by
  unfold State.postEvent
  repeat' first
    | (simp (maxDischargeDepth := 200) +contextual +decide only [hk, ct_put, ct_mk, ct_foldl, implies_true, State.setEvDelivery_ct, State.placeNotice_ct]; done)
    | dsimp only
    | split

theorem State.countNotice_ct (s : State) (n : Nat) (hk : SameCause r0 s) : SameCause r0 (State.countNotice s n) := by
  unfold State.countNotice
  repeat' first
    | (simp (maxDischargeDepth := 200) +contextual +decide only [hk, ct_put, ct_mk, ct_foldl, implies_true, State.setBox_ct]; done)
    | dsimp only
    | split

theorem State.deliverMbx_ct (s : State) (n : Nat) (hk : SameCause r0 s) : SameCause r0 (State.deliverMbx s n) := by
  unfold State.deliverMbx
  repeat' first
    | (simp (maxDischargeDepth := 200) +contextual +decide only [hk, ct_put, ct_mk, ct_foldl, implies_true, State.bump_ct, State.setEvDelivery_ct, State.postEvent_ct, State.countNotice_ct]; done)
    | dsimp only
    | split

theorem State.recover_ct (s : State) (hk : SameCause r0 s) : SameCause r0 (State.recover s) := by
  unfold State.recover
  repeat' first
    | (simp (maxDischargeDepth := 200) +contextual +decide only [hk, ct_put, ct_mk, ct_foldl, implies_true]; done)
    | dsimp only
    | split

theorem State.raise_ct (s : State) (n : Nat) (hk : SameCause r0 s) : SameCause r0 (State.raise s n) := by
  unfold State.raise
  repeat' first
    | (simp (maxDischargeDepth := 200) +contextual +decide only [hk, ct_put, ct_mk, ct_foldl, implies_true, State.deliverRing_ct, State.countRaise_ct, State.deliverMbx_ct, State.recover_ct]; done)
    | dsimp only
    | split

theorem State.noteCause_ct (s : State) (o : Obj) (i : Nat) (b : Nat) (raised : Bool) (ho : o = .MJ_CAUSE) (hk : SameCause r0 s) : SameCause r0 (State.noteCause s o i b raised) := by
  subst ho
  intro p j hp
  rw [← hk p j hp]
  unfold State.noteCause State.causeTick
  dsimp only
  split
  · rfl
  · dsimp only
    rw [Sparse.get_put, if_neg]
    intro e
    cases e
    exact hp rfl

theorem State.raiseOf_ct (s : State) (o : Obj) (i : Nat) (b : Nat) (hk : SameCause r0 s) : SameCause r0 (State.raiseOf s o i b) := by
  unfold State.raiseOf
  repeat' first
    | (simp (maxDischargeDepth := 200) +contextual +decide only [hk, ct_put, ct_mk, ct_foldl, implies_true, State.raise_ct]; done)
    | dsimp only
    | split

theorem State.cause_ct (s : State) (o : Obj) (i : Nat) (b : Nat) (ho : o = .MJ_CAUSE) (hk : SameCause r0 s) : SameCause r0 (State.cause s o i b) := by
  unfold State.cause
  repeat' first
    | (simp (maxDischargeDepth := 200) +contextual +decide only [ho, hk, ct_put, ct_mk, ct_foldl, implies_true, State.orCause_ct, State.noteCause_ct, State.raiseOf_ct]; done)
    | dsimp only
    | split

theorem State.jrnStore_ct (s : State) (entry : List Byte) (hk : SameCause r0 s) : SameCause r0 (State.jrnStore s entry) := by
  unfold State.jrnStore
  repeat' first
    | (simp (maxDischargeDepth := 200) +contextual +decide only [hk, ct_put, ct_mk, ct_foldl, implies_true, State.bump_ct, State.cause_ct]; done)
    | dsimp only
    | split

theorem State.jrnAnchor_ct (s : State) (hk : SameCause r0 s) : SameCause r0 (State.jrnAnchor s) := by
  unfold State.jrnAnchor
  repeat' first
    | (simp (maxDischargeDepth := 200) +contextual +decide only [hk, ct_put, ct_mk, ct_foldl, implies_true, State.jrnStore_ct]; done)
    | dsimp only
    | split

theorem State.jrnWrite_ct (s : State) (kind : Nat) (source : Nat) (index : Nat) (sub : Nat) (staged : Bool) (part : Bool) (old : List Byte) (new : List Byte) (hk : SameCause r0 s) : SameCause r0 (State.jrnWrite s kind source index sub staged part old new) := by
  unfold State.jrnWrite
  repeat' first
    | (simp (maxDischargeDepth := 200) +contextual +decide only [hk, ct_put, ct_mk, ct_foldl, implies_true, State.jrnStore_ct, State.jrnAnchor_ct]; done)
    | dsimp only
    | split

theorem State.jrnCommand_ct (s : State) (w : Who) (o : Obj) (i : Nat) (new : Val) (hk : SameCause r0 s) : SameCause r0 (State.jrnCommand s w o i new) := by
  unfold State.jrnCommand
  repeat' first
    | (simp (maxDischargeDepth := 200) +contextual +decide only [hk, ct_put, ct_mk, ct_foldl, implies_true, State.jrnWrite_ct]; done)
    | dsimp only
    | split

theorem State.jrnWriteObj_ct (s : State) (w : Who) (o : Obj) (i : Nat) (staged : Bool) (old : Val) (new : Val) (hk : SameCause r0 s) : SameCause r0 (State.jrnWriteObj s w o i staged old new) := by
  unfold State.jrnWriteObj
  repeat' first
    | (simp (maxDischargeDepth := 200) +contextual +decide only [hk, ct_put, ct_mk, ct_foldl, implies_true, State.jrnWrite_ct]; done)
    | dsimp only
    | split

theorem State.mirrorEntry_ct (s : State) (index : Nat) (sub : Nat) (value : List Byte) (hk : SameCause r0 s) : SameCause r0 (State.mirrorEntry s index sub value) := by
  unfold State.mirrorEntry
  repeat' first
    | (simp (maxDischargeDepth := 200) +contextual +decide only [hk, ct_put, ct_mk, ct_foldl, implies_true, State.sendFrame_ct, State.newFrame_ct]; done)
    | dsimp only
    | split

theorem State.mirrorWrite_ct (s : State) (o : Obj) (i : Nat) (v : Val) (hk : SameCause r0 s) : SameCause r0 (State.mirrorWrite s o i v) := by
  unfold State.mirrorWrite
  repeat' first
    | (simp (maxDischargeDepth := 200) +contextual +decide only [hk, ct_put, ct_mk, ct_foldl, implies_true, State.mirrorEntry_ct]; done)
    | dsimp only
    | split

theorem State.reply_ct (s : State) (e : Err) (v : Val) (hk : SameCause r0 s) : SameCause r0 (State.reply s e v) := by
  unfold State.reply
  repeat' first
    | (simp (maxDischargeDepth := 200) +contextual +decide only [hk, ct_put, ct_mk, ct_foldl, implies_true]; done)
    | dsimp only
    | split

/-- What a clear command leaves of a cause register (R108 and its like): the written bits are cleared, but for causes of the
present cycle of the register. -/
theorem get_clearCause (s : State) (o : Obj) (i m : Nat) (h : s.causedNow o i &&& m = 0) :
    (s.clearCause o i m).get o i = withoutBits (s.get o i) m := by
  unfold State.causedNow at h
  unfold State.clearCause
  dsimp only at *
  have hh : (if s.causeCycle o = some (s.causeTick o i).tick then (s.causeTick o i).mask &&& (m : Int).toNat else 0) = 0 := by
    split
    · rename_i e
      rw [if_pos e] at h
      simpa using h
    · rfl
  rw [hh]
  have hz : 0 - (0 &&& (s.causeTick o i).raised) = 0 := by simp
  rw [hz]
  have hl : ∀ (l : List Nat) (u : State), l.foldl (fun s b => if (0 : Nat).testBit b then s.raiseOf o i b else s) u = u := by
    intro l
    induction l with
    | nil => exact fun _ => rfl
    | cons a t ih => exact fun u => by simpa using ih u
  rw [hl]
  simp


end Sys2Proof.Machine
end

