-- ==== Sys2Proof/Laws/Ops.lean ====
section
/-! SUPPORT. What the operations that meanings share come to: instances written and read back, causes, and the settling of a
tick. -/

namespace Sys2Proof.Machine

open Sys2Proof

variable {s : State} {w : Who} {n i j k m : Nat} {v : Val} {x : Int} {o p : Obj} {b : Bool} {old : Val} {e : Err}

/-! ### Instances -/

@[simp] theorem chan_setChan {y : Chan} : (s.setChan i y).chan j = if i = j then y else s.chan j := by
  unfold State.setChan State.chan
  exact Sparse.get_put _ _ _ _ _ _

@[simp] theorem get_setChan {y : Chan} : (s.setChan i y).get p j = s.get p j := rfl

@[simp] theorem setChan_time {y : Chan} : (s.setChan i y).time = s.time := rfl
@[simp] theorem setChan_frame {y : Chan} : (s.setChan i y).frame = s.frame := rfl
@[simp] theorem setChan_banks {y : Chan} : (s.setChan i y).banks = s.banks := rfl
@[simp] theorem setChan_engine {y : Chan} : (s.setChan i y).engine = s.engine := rfl
@[simp] theorem setChan_mail {y : Chan} : (s.setChan i y).mail = s.mail := rfl
@[simp] theorem setChan_locks {y : Chan} : (s.setChan i y).locks = s.locks := rfl
@[simp] theorem setChan_twin {y : Chan} : (s.setChan i y).twin = s.twin := rfl
@[simp] theorem setChan_queues {y : Chan} : (s.setChan i y).queues = s.queues := rfl
@[simp] theorem setChan_cave {y : Chan} : (s.setChan i y).cave = s.cave := rfl
@[simp] theorem setChan_sec {y : Chan} : (s.setChan i y).sec = s.sec := rfl
@[simp] theorem setChan_power {y : Chan} : (s.setChan i y).power = s.power := rfl
@[simp] theorem setChan_test {y : Chan} : (s.setChan i y).test = s.test := rfl
@[simp] theorem setChan_boot {y : Chan} : (s.setChan i y).boot = s.boot := rfl
@[simp] theorem setChan_vat {y : Chan} : (s.setChan i y).vat = s.vat := rfl
@[simp] theorem setChan_out {y : Chan} : (s.setChan i y).out = s.out := rfl
@[simp] theorem setChan_answer {y : Chan} : (s.setChan i y).answer = s.answer := rfl

@[simp] theorem chan_put : (s.put o i x).chan j = s.chan j := rfl
@[simp] theorem chan_reply : (s.reply e v).chan j = s.chan j := rfl
@[simp] theorem chan_jrnCommand : (s.jrnCommand w o i v).chan j = s.chan j := by simp [State.chan]
@[simp] theorem chan_jrnWriteObj : (s.jrnWriteObj w o i b old v).chan j = s.chan j := by simp [State.chan]
@[simp] theorem chan_mirrorWrite : (s.mirrorWrite o i v).chan j = s.chan j := by simp [State.chan]
@[simp] theorem chan_raise : (s.raise n).chan j = s.chan j := by simp [State.chan]

@[simp] theorem bank_setBank {y : Bank} : (s.setBank i y).bank j = if i = j then y else s.bank j := by
  unfold State.setBank State.bank
  exact Sparse.get_put _ _ _ _ _ _

@[simp] theorem get_setBank {y : Bank} : (s.setBank i y).get p j = s.get p j := rfl

@[simp] theorem setBank_time {y : Bank} : (s.setBank i y).time = s.time := rfl
@[simp] theorem setBank_frame {y : Bank} : (s.setBank i y).frame = s.frame := rfl
@[simp] theorem setBank_engine {y : Bank} : (s.setBank i y).engine = s.engine := rfl
@[simp] theorem setBank_mail {y : Bank} : (s.setBank i y).mail = s.mail := rfl
@[simp] theorem setBank_locks {y : Bank} : (s.setBank i y).locks = s.locks := rfl
@[simp] theorem setBank_twin {y : Bank} : (s.setBank i y).twin = s.twin := rfl
@[simp] theorem setBank_queues {y : Bank} : (s.setBank i y).queues = s.queues := rfl
@[simp] theorem setBank_cave {y : Bank} : (s.setBank i y).cave = s.cave := rfl
@[simp] theorem setBank_sec {y : Bank} : (s.setBank i y).sec = s.sec := rfl
@[simp] theorem setBank_power {y : Bank} : (s.setBank i y).power = s.power := rfl
@[simp] theorem setBank_test {y : Bank} : (s.setBank i y).test = s.test := rfl
@[simp] theorem setBank_boot {y : Bank} : (s.setBank i y).boot = s.boot := rfl
@[simp] theorem setBank_vat {y : Bank} : (s.setBank i y).vat = s.vat := rfl
@[simp] theorem setBank_out {y : Bank} : (s.setBank i y).out = s.out := rfl
@[simp] theorem setBank_answer {y : Bank} : (s.setBank i y).answer = s.answer := rfl

@[simp] theorem bank_put : (s.put o i x).bank j = s.bank j := rfl
@[simp] theorem bank_reply : (s.reply e v).bank j = s.bank j := rfl
@[simp] theorem bank_jrnCommand : (s.jrnCommand w o i v).bank j = s.bank j := by simp [State.bank]
@[simp] theorem bank_jrnWriteObj : (s.jrnWriteObj w o i b old v).bank j = s.bank j := by simp [State.bank]
@[simp] theorem bank_mirrorWrite : (s.mirrorWrite o i v).bank j = s.bank j := by simp [State.bank]
@[simp] theorem bank_raise : (s.raise n).bank j = s.bank j := by simp [State.bank]

@[simp] theorem scan_setScan {y : Scan} : (s.setScan i y).scan j = if i = j then y else s.scan j := by
  unfold State.setScan State.scan
  exact Sparse.get_put _ _ _ _ _ _

@[simp] theorem get_setScan {y : Scan} : (s.setScan i y).get p j = s.get p j := rfl

@[simp] theorem setScan_time {y : Scan} : (s.setScan i y).time = s.time := rfl
@[simp] theorem setScan_frame {y : Scan} : (s.setScan i y).frame = s.frame := rfl
@[simp] theorem setScan_banks {y : Scan} : (s.setScan i y).banks = s.banks := rfl
@[simp] theorem setScan_engine {y : Scan} : (s.setScan i y).engine = s.engine := rfl
@[simp] theorem setScan_mail {y : Scan} : (s.setScan i y).mail = s.mail := rfl
@[simp] theorem setScan_locks {y : Scan} : (s.setScan i y).locks = s.locks := rfl
@[simp] theorem setScan_twin {y : Scan} : (s.setScan i y).twin = s.twin := rfl
@[simp] theorem setScan_queues {y : Scan} : (s.setScan i y).queues = s.queues := rfl
@[simp] theorem setScan_cave {y : Scan} : (s.setScan i y).cave = s.cave := rfl
@[simp] theorem setScan_sec {y : Scan} : (s.setScan i y).sec = s.sec := rfl
@[simp] theorem setScan_power {y : Scan} : (s.setScan i y).power = s.power := rfl
@[simp] theorem setScan_test {y : Scan} : (s.setScan i y).test = s.test := rfl
@[simp] theorem setScan_boot {y : Scan} : (s.setScan i y).boot = s.boot := rfl
@[simp] theorem setScan_vat {y : Scan} : (s.setScan i y).vat = s.vat := rfl
@[simp] theorem setScan_out {y : Scan} : (s.setScan i y).out = s.out := rfl
@[simp] theorem setScan_answer {y : Scan} : (s.setScan i y).answer = s.answer := rfl

@[simp] theorem scan_put : (s.put o i x).scan j = s.scan j := rfl
@[simp] theorem scan_reply : (s.reply e v).scan j = s.scan j := rfl
@[simp] theorem scan_jrnCommand : (s.jrnCommand w o i v).scan j = s.scan j := by simp [State.scan]
@[simp] theorem scan_jrnWriteObj : (s.jrnWriteObj w o i b old v).scan j = s.scan j := by simp [State.scan]
@[simp] theorem scan_mirrorWrite : (s.mirrorWrite o i v).scan j = s.scan j := by simp [State.scan]
@[simp] theorem scan_raise : (s.raise n).scan j = s.scan j := by simp [State.scan]

@[simp] theorem trier_setTrier {y : Trier} : (s.setTrier i y).trier j = if i = j then y else s.trier j := by
  unfold State.setTrier State.trier
  exact Sparse.get_put _ _ _ _ _ _

@[simp] theorem get_setTrier {y : Trier} : (s.setTrier i y).get p j = s.get p j := rfl

@[simp] theorem setTrier_time {y : Trier} : (s.setTrier i y).time = s.time := rfl
@[simp] theorem setTrier_frame {y : Trier} : (s.setTrier i y).frame = s.frame := rfl
@[simp] theorem setTrier_banks {y : Trier} : (s.setTrier i y).banks = s.banks := rfl
@[simp] theorem setTrier_engine {y : Trier} : (s.setTrier i y).engine = s.engine := rfl
@[simp] theorem setTrier_mail {y : Trier} : (s.setTrier i y).mail = s.mail := rfl
@[simp] theorem setTrier_locks {y : Trier} : (s.setTrier i y).locks = s.locks := rfl
@[simp] theorem setTrier_twin {y : Trier} : (s.setTrier i y).twin = s.twin := rfl
@[simp] theorem setTrier_queues {y : Trier} : (s.setTrier i y).queues = s.queues := rfl
@[simp] theorem setTrier_cave {y : Trier} : (s.setTrier i y).cave = s.cave := rfl
@[simp] theorem setTrier_sec {y : Trier} : (s.setTrier i y).sec = s.sec := rfl
@[simp] theorem setTrier_power {y : Trier} : (s.setTrier i y).power = s.power := rfl
@[simp] theorem setTrier_test {y : Trier} : (s.setTrier i y).test = s.test := rfl
@[simp] theorem setTrier_boot {y : Trier} : (s.setTrier i y).boot = s.boot := rfl
@[simp] theorem setTrier_vat {y : Trier} : (s.setTrier i y).vat = s.vat := rfl
@[simp] theorem setTrier_out {y : Trier} : (s.setTrier i y).out = s.out := rfl
@[simp] theorem setTrier_answer {y : Trier} : (s.setTrier i y).answer = s.answer := rfl

@[simp] theorem trier_put : (s.put o i x).trier j = s.trier j := rfl
@[simp] theorem trier_reply : (s.reply e v).trier j = s.trier j := rfl
@[simp] theorem trier_jrnCommand : (s.jrnCommand w o i v).trier j = s.trier j := by simp [State.trier]
@[simp] theorem trier_jrnWriteObj : (s.jrnWriteObj w o i b old v).trier j = s.trier j := by simp [State.trier]
@[simp] theorem trier_mirrorWrite : (s.mirrorWrite o i v).trier j = s.trier j := by simp [State.trier]
@[simp] theorem trier_raise : (s.raise n).trier j = s.trier j := by simp [State.trier]

@[simp] theorem lane_setLane {y : Lane} : (s.setLane i y).lane j = if i = j then y else s.lane j := by
  unfold State.setLane State.lane
  exact Sparse.get_put _ _ _ _ _ _

@[simp] theorem get_setLane {y : Lane} : (s.setLane i y).get p j = s.get p j := rfl

@[simp] theorem setLane_time {y : Lane} : (s.setLane i y).time = s.time := rfl
@[simp] theorem setLane_frame {y : Lane} : (s.setLane i y).frame = s.frame := rfl
@[simp] theorem setLane_banks {y : Lane} : (s.setLane i y).banks = s.banks := rfl
@[simp] theorem setLane_engine {y : Lane} : (s.setLane i y).engine = s.engine := rfl
@[simp] theorem setLane_mail {y : Lane} : (s.setLane i y).mail = s.mail := rfl
@[simp] theorem setLane_locks {y : Lane} : (s.setLane i y).locks = s.locks := rfl
@[simp] theorem setLane_twin {y : Lane} : (s.setLane i y).twin = s.twin := rfl
@[simp] theorem setLane_queues {y : Lane} : (s.setLane i y).queues = s.queues := rfl
@[simp] theorem setLane_cave {y : Lane} : (s.setLane i y).cave = s.cave := rfl
@[simp] theorem setLane_sec {y : Lane} : (s.setLane i y).sec = s.sec := rfl
@[simp] theorem setLane_power {y : Lane} : (s.setLane i y).power = s.power := rfl
@[simp] theorem setLane_test {y : Lane} : (s.setLane i y).test = s.test := rfl
@[simp] theorem setLane_boot {y : Lane} : (s.setLane i y).boot = s.boot := rfl
@[simp] theorem setLane_vat {y : Lane} : (s.setLane i y).vat = s.vat := rfl
@[simp] theorem setLane_out {y : Lane} : (s.setLane i y).out = s.out := rfl
@[simp] theorem setLane_answer {y : Lane} : (s.setLane i y).answer = s.answer := rfl

@[simp] theorem lane_put : (s.put o i x).lane j = s.lane j := rfl
@[simp] theorem lane_reply : (s.reply e v).lane j = s.lane j := rfl
@[simp] theorem lane_jrnCommand : (s.jrnCommand w o i v).lane j = s.lane j := by simp [State.lane]
@[simp] theorem lane_jrnWriteObj : (s.jrnWriteObj w o i b old v).lane j = s.lane j := by simp [State.lane]
@[simp] theorem lane_mirrorWrite : (s.mirrorWrite o i v).lane j = s.lane j := by simp [State.lane]
@[simp] theorem lane_raise : (s.raise n).lane j = s.lane j := by simp [State.lane]

@[simp] theorem serLane_setSerLane {y : SerLane} : (s.setSerLane i y).serLane j = if i = j then y else s.serLane j := by
  unfold State.setSerLane State.serLane
  exact Sparse.get_put _ _ _ _ _ _

@[simp] theorem get_setSerLane {y : SerLane} : (s.setSerLane i y).get p j = s.get p j := rfl

@[simp] theorem setSerLane_time {y : SerLane} : (s.setSerLane i y).time = s.time := rfl
@[simp] theorem setSerLane_frame {y : SerLane} : (s.setSerLane i y).frame = s.frame := rfl
@[simp] theorem setSerLane_banks {y : SerLane} : (s.setSerLane i y).banks = s.banks := rfl
@[simp] theorem setSerLane_engine {y : SerLane} : (s.setSerLane i y).engine = s.engine := rfl
@[simp] theorem setSerLane_mail {y : SerLane} : (s.setSerLane i y).mail = s.mail := rfl
@[simp] theorem setSerLane_locks {y : SerLane} : (s.setSerLane i y).locks = s.locks := rfl
@[simp] theorem setSerLane_twin {y : SerLane} : (s.setSerLane i y).twin = s.twin := rfl
@[simp] theorem setSerLane_queues {y : SerLane} : (s.setSerLane i y).queues = s.queues := rfl
@[simp] theorem setSerLane_cave {y : SerLane} : (s.setSerLane i y).cave = s.cave := rfl
@[simp] theorem setSerLane_sec {y : SerLane} : (s.setSerLane i y).sec = s.sec := rfl
@[simp] theorem setSerLane_power {y : SerLane} : (s.setSerLane i y).power = s.power := rfl
@[simp] theorem setSerLane_test {y : SerLane} : (s.setSerLane i y).test = s.test := rfl
@[simp] theorem setSerLane_boot {y : SerLane} : (s.setSerLane i y).boot = s.boot := rfl
@[simp] theorem setSerLane_vat {y : SerLane} : (s.setSerLane i y).vat = s.vat := rfl
@[simp] theorem setSerLane_out {y : SerLane} : (s.setSerLane i y).out = s.out := rfl
@[simp] theorem setSerLane_answer {y : SerLane} : (s.setSerLane i y).answer = s.answer := rfl

@[simp] theorem serLane_put : (s.put o i x).serLane j = s.serLane j := rfl
@[simp] theorem serLane_reply : (s.reply e v).serLane j = s.serLane j := rfl
@[simp] theorem serLane_jrnCommand : (s.jrnCommand w o i v).serLane j = s.serLane j := by simp [State.serLane]
@[simp] theorem serLane_jrnWriteObj : (s.jrnWriteObj w o i b old v).serLane j = s.serLane j := by simp [State.serLane]
@[simp] theorem serLane_mirrorWrite : (s.mirrorWrite o i v).serLane j = s.serLane j := by simp [State.serLane]
@[simp] theorem serLane_raise : (s.raise n).serLane j = s.serLane j := by simp [State.serLane]

@[simp] theorem queue_setQueue {y : Queue} : (s.setQueue i y).queue j = if i = j then y else s.queue j := by
  unfold State.setQueue State.queue
  exact Sparse.get_put _ _ _ _ _ _

@[simp] theorem get_setQueue {y : Queue} : (s.setQueue i y).get p j = s.get p j := rfl

@[simp] theorem setQueue_time {y : Queue} : (s.setQueue i y).time = s.time := rfl
@[simp] theorem setQueue_frame {y : Queue} : (s.setQueue i y).frame = s.frame := rfl
@[simp] theorem setQueue_banks {y : Queue} : (s.setQueue i y).banks = s.banks := rfl
@[simp] theorem setQueue_engine {y : Queue} : (s.setQueue i y).engine = s.engine := rfl
@[simp] theorem setQueue_mail {y : Queue} : (s.setQueue i y).mail = s.mail := rfl
@[simp] theorem setQueue_locks {y : Queue} : (s.setQueue i y).locks = s.locks := rfl
@[simp] theorem setQueue_twin {y : Queue} : (s.setQueue i y).twin = s.twin := rfl
@[simp] theorem setQueue_cave {y : Queue} : (s.setQueue i y).cave = s.cave := rfl
@[simp] theorem setQueue_sec {y : Queue} : (s.setQueue i y).sec = s.sec := rfl
@[simp] theorem setQueue_power {y : Queue} : (s.setQueue i y).power = s.power := rfl
@[simp] theorem setQueue_test {y : Queue} : (s.setQueue i y).test = s.test := rfl
@[simp] theorem setQueue_boot {y : Queue} : (s.setQueue i y).boot = s.boot := rfl
@[simp] theorem setQueue_vat {y : Queue} : (s.setQueue i y).vat = s.vat := rfl
@[simp] theorem setQueue_out {y : Queue} : (s.setQueue i y).out = s.out := rfl
@[simp] theorem setQueue_answer {y : Queue} : (s.setQueue i y).answer = s.answer := rfl

@[simp] theorem queue_put : (s.put o i x).queue j = s.queue j := rfl
@[simp] theorem queue_reply : (s.reply e v).queue j = s.queue j := rfl
@[simp] theorem queue_jrnCommand : (s.jrnCommand w o i v).queue j = s.queue j := by simp [State.queue]
@[simp] theorem queue_jrnWriteObj : (s.jrnWriteObj w o i b old v).queue j = s.queue j := by simp [State.queue]
@[simp] theorem queue_mirrorWrite : (s.mirrorWrite o i v).queue j = s.queue j := by simp [State.queue]
@[simp] theorem queue_raise : (s.raise n).queue j = s.queue j := by simp [State.queue]

@[simp] theorem unit_setUnit {y : TrigUnit} : (s.setUnit i y).unit j = if i = j then y else s.unit j := by
  unfold State.setUnit State.unit
  exact Sparse.get_put _ _ _ _ _ _

@[simp] theorem get_setUnit {y : TrigUnit} : (s.setUnit i y).get p j = s.get p j := rfl

@[simp] theorem setUnit_time {y : TrigUnit} : (s.setUnit i y).time = s.time := rfl
@[simp] theorem setUnit_frame {y : TrigUnit} : (s.setUnit i y).frame = s.frame := rfl
@[simp] theorem setUnit_banks {y : TrigUnit} : (s.setUnit i y).banks = s.banks := rfl
@[simp] theorem setUnit_engine {y : TrigUnit} : (s.setUnit i y).engine = s.engine := rfl
@[simp] theorem setUnit_mail {y : TrigUnit} : (s.setUnit i y).mail = s.mail := rfl
@[simp] theorem setUnit_locks {y : TrigUnit} : (s.setUnit i y).locks = s.locks := rfl
@[simp] theorem setUnit_twin {y : TrigUnit} : (s.setUnit i y).twin = s.twin := rfl
@[simp] theorem setUnit_queues {y : TrigUnit} : (s.setUnit i y).queues = s.queues := rfl
@[simp] theorem setUnit_cave {y : TrigUnit} : (s.setUnit i y).cave = s.cave := rfl
@[simp] theorem setUnit_sec {y : TrigUnit} : (s.setUnit i y).sec = s.sec := rfl
@[simp] theorem setUnit_power {y : TrigUnit} : (s.setUnit i y).power = s.power := rfl
@[simp] theorem setUnit_test {y : TrigUnit} : (s.setUnit i y).test = s.test := rfl
@[simp] theorem setUnit_boot {y : TrigUnit} : (s.setUnit i y).boot = s.boot := rfl
@[simp] theorem setUnit_vat {y : TrigUnit} : (s.setUnit i y).vat = s.vat := rfl
@[simp] theorem setUnit_out {y : TrigUnit} : (s.setUnit i y).out = s.out := rfl
@[simp] theorem setUnit_answer {y : TrigUnit} : (s.setUnit i y).answer = s.answer := rfl

@[simp] theorem unit_put : (s.put o i x).unit j = s.unit j := rfl
@[simp] theorem unit_reply : (s.reply e v).unit j = s.unit j := rfl
@[simp] theorem unit_jrnCommand : (s.jrnCommand w o i v).unit j = s.unit j := by simp [State.unit]
@[simp] theorem unit_jrnWriteObj : (s.jrnWriteObj w o i b old v).unit j = s.unit j := by simp [State.unit]
@[simp] theorem unit_mirrorWrite : (s.mirrorWrite o i v).unit j = s.unit j := by simp [State.unit]
@[simp] theorem unit_raise : (s.raise n).unit j = s.unit j := by simp [State.unit]

@[simp] theorem region_setRegion {y : Region} : (s.setRegion i y).region j = if i = j then y else s.region j := by
  unfold State.setRegion State.region
  exact Sparse.get_put _ _ _ _ _ _

@[simp] theorem get_setRegion {y : Region} : (s.setRegion i y).get p j = s.get p j := rfl

@[simp] theorem setRegion_time {y : Region} : (s.setRegion i y).time = s.time := rfl
@[simp] theorem setRegion_frame {y : Region} : (s.setRegion i y).frame = s.frame := rfl
@[simp] theorem setRegion_banks {y : Region} : (s.setRegion i y).banks = s.banks := rfl
@[simp] theorem setRegion_engine {y : Region} : (s.setRegion i y).engine = s.engine := rfl
@[simp] theorem setRegion_mail {y : Region} : (s.setRegion i y).mail = s.mail := rfl
@[simp] theorem setRegion_locks {y : Region} : (s.setRegion i y).locks = s.locks := rfl
@[simp] theorem setRegion_twin {y : Region} : (s.setRegion i y).twin = s.twin := rfl
@[simp] theorem setRegion_queues {y : Region} : (s.setRegion i y).queues = s.queues := rfl
@[simp] theorem setRegion_cave {y : Region} : (s.setRegion i y).cave = s.cave := rfl
@[simp] theorem setRegion_sec {y : Region} : (s.setRegion i y).sec = s.sec := rfl
@[simp] theorem setRegion_power {y : Region} : (s.setRegion i y).power = s.power := rfl
@[simp] theorem setRegion_test {y : Region} : (s.setRegion i y).test = s.test := rfl
@[simp] theorem setRegion_boot {y : Region} : (s.setRegion i y).boot = s.boot := rfl
@[simp] theorem setRegion_vat {y : Region} : (s.setRegion i y).vat = s.vat := rfl
@[simp] theorem setRegion_out {y : Region} : (s.setRegion i y).out = s.out := rfl
@[simp] theorem setRegion_answer {y : Region} : (s.setRegion i y).answer = s.answer := rfl

@[simp] theorem region_put : (s.put o i x).region j = s.region j := rfl
@[simp] theorem region_reply : (s.reply e v).region j = s.region j := rfl
@[simp] theorem region_jrnCommand : (s.jrnCommand w o i v).region j = s.region j := by simp [State.region]
@[simp] theorem region_jrnWriteObj : (s.jrnWriteObj w o i b old v).region j = s.region j := by simp [State.region]
@[simp] theorem region_mirrorWrite : (s.mirrorWrite o i v).region j = s.region j := by simp [State.region]
@[simp] theorem region_raise : (s.raise n).region j = s.region j := by simp [State.region]

@[simp] theorem wit_setWit {y : WitSlot} : (s.setWit i y).wit j = if i = j then y else s.wit j := by
  unfold State.setWit State.wit
  exact Sparse.get_put _ _ _ _ _ _

@[simp] theorem get_setWit {y : WitSlot} : (s.setWit i y).get p j = s.get p j := rfl

@[simp] theorem setWit_time {y : WitSlot} : (s.setWit i y).time = s.time := rfl
@[simp] theorem setWit_frame {y : WitSlot} : (s.setWit i y).frame = s.frame := rfl
@[simp] theorem setWit_banks {y : WitSlot} : (s.setWit i y).banks = s.banks := rfl
@[simp] theorem setWit_engine {y : WitSlot} : (s.setWit i y).engine = s.engine := rfl
@[simp] theorem setWit_mail {y : WitSlot} : (s.setWit i y).mail = s.mail := rfl
@[simp] theorem setWit_locks {y : WitSlot} : (s.setWit i y).locks = s.locks := rfl
@[simp] theorem setWit_twin {y : WitSlot} : (s.setWit i y).twin = s.twin := rfl
@[simp] theorem setWit_queues {y : WitSlot} : (s.setWit i y).queues = s.queues := rfl
@[simp] theorem setWit_cave {y : WitSlot} : (s.setWit i y).cave = s.cave := rfl
@[simp] theorem setWit_sec {y : WitSlot} : (s.setWit i y).sec = s.sec := rfl
@[simp] theorem setWit_power {y : WitSlot} : (s.setWit i y).power = s.power := rfl
@[simp] theorem setWit_test {y : WitSlot} : (s.setWit i y).test = s.test := rfl
@[simp] theorem setWit_boot {y : WitSlot} : (s.setWit i y).boot = s.boot := rfl
@[simp] theorem setWit_vat {y : WitSlot} : (s.setWit i y).vat = s.vat := rfl
@[simp] theorem setWit_out {y : WitSlot} : (s.setWit i y).out = s.out := rfl
@[simp] theorem setWit_answer {y : WitSlot} : (s.setWit i y).answer = s.answer := rfl

@[simp] theorem wit_put : (s.put o i x).wit j = s.wit j := rfl
@[simp] theorem wit_reply : (s.reply e v).wit j = s.wit j := rfl
@[simp] theorem wit_jrnCommand : (s.jrnCommand w o i v).wit j = s.wit j := by simp [State.wit]
@[simp] theorem wit_jrnWriteObj : (s.jrnWriteObj w o i b old v).wit j = s.wit j := by simp [State.wit]
@[simp] theorem wit_mirrorWrite : (s.mirrorWrite o i v).wit j = s.wit j := by simp [State.wit]
@[simp] theorem wit_raise : (s.raise n).wit j = s.wit j := by simp [State.wit]

@[simp] theorem box_setBox {y : Mailbox} : (s.setBox i y).box j = if i = j then y else s.box j := by
  unfold State.setBox State.box
  exact Sparse.get_put _ _ _ _ _ _

@[simp] theorem get_setBox {y : Mailbox} : (s.setBox i y).get p j = s.get p j := rfl

@[simp] theorem setBox_time {y : Mailbox} : (s.setBox i y).time = s.time := rfl
@[simp] theorem setBox_frame {y : Mailbox} : (s.setBox i y).frame = s.frame := rfl
@[simp] theorem setBox_banks {y : Mailbox} : (s.setBox i y).banks = s.banks := rfl
@[simp] theorem setBox_engine {y : Mailbox} : (s.setBox i y).engine = s.engine := rfl
@[simp] theorem setBox_locks {y : Mailbox} : (s.setBox i y).locks = s.locks := rfl
@[simp] theorem setBox_twin {y : Mailbox} : (s.setBox i y).twin = s.twin := rfl
@[simp] theorem setBox_queues {y : Mailbox} : (s.setBox i y).queues = s.queues := rfl
@[simp] theorem setBox_cave {y : Mailbox} : (s.setBox i y).cave = s.cave := rfl
@[simp] theorem setBox_sec {y : Mailbox} : (s.setBox i y).sec = s.sec := rfl
@[simp] theorem setBox_power {y : Mailbox} : (s.setBox i y).power = s.power := rfl
@[simp] theorem setBox_test {y : Mailbox} : (s.setBox i y).test = s.test := rfl
@[simp] theorem setBox_boot {y : Mailbox} : (s.setBox i y).boot = s.boot := rfl
@[simp] theorem setBox_vat {y : Mailbox} : (s.setBox i y).vat = s.vat := rfl
@[simp] theorem setBox_out {y : Mailbox} : (s.setBox i y).out = s.out := rfl
@[simp] theorem setBox_answer {y : Mailbox} : (s.setBox i y).answer = s.answer := rfl

@[simp] theorem box_put : (s.put o i x).box j = s.box j := rfl
@[simp] theorem box_reply : (s.reply e v).box j = s.box j := rfl

@[simp] theorem link_setLink {y : Link} : (s.setLink i y).link j = if i = j then y else s.link j := by
  unfold State.setLink State.link
  exact Sparse.get_put _ _ _ _ _ _

@[simp] theorem get_setLink {y : Link} : (s.setLink i y).get p j = s.get p j := rfl

@[simp] theorem setLink_time {y : Link} : (s.setLink i y).time = s.time := rfl
@[simp] theorem setLink_frame {y : Link} : (s.setLink i y).frame = s.frame := rfl
@[simp] theorem setLink_banks {y : Link} : (s.setLink i y).banks = s.banks := rfl
@[simp] theorem setLink_engine {y : Link} : (s.setLink i y).engine = s.engine := rfl
@[simp] theorem setLink_mail {y : Link} : (s.setLink i y).mail = s.mail := rfl
@[simp] theorem setLink_locks {y : Link} : (s.setLink i y).locks = s.locks := rfl
@[simp] theorem setLink_twin {y : Link} : (s.setLink i y).twin = s.twin := rfl
@[simp] theorem setLink_queues {y : Link} : (s.setLink i y).queues = s.queues := rfl
@[simp] theorem setLink_cave {y : Link} : (s.setLink i y).cave = s.cave := rfl
@[simp] theorem setLink_sec {y : Link} : (s.setLink i y).sec = s.sec := rfl
@[simp] theorem setLink_power {y : Link} : (s.setLink i y).power = s.power := rfl
@[simp] theorem setLink_test {y : Link} : (s.setLink i y).test = s.test := rfl
@[simp] theorem setLink_boot {y : Link} : (s.setLink i y).boot = s.boot := rfl
@[simp] theorem setLink_vat {y : Link} : (s.setLink i y).vat = s.vat := rfl
@[simp] theorem setLink_out {y : Link} : (s.setLink i y).out = s.out := rfl
@[simp] theorem setLink_answer {y : Link} : (s.setLink i y).answer = s.answer := rfl

@[simp] theorem link_put : (s.put o i x).link j = s.link j := rfl
@[simp] theorem link_reply : (s.reply e v).link j = s.link j := rfl

/-! ### The causes of the tick -/

@[simp] theorem tickKey_jrnCommand : (s.jrnCommand w o i v).tickKey = s.tickKey := by
  unfold State.tickKey State.curTick State.gridIndex State.gridIndexOf
  rw [running_jrnCommand, jrnCommand_frame, jrnCommand_time, get_jrnCommand rfl]

@[simp] theorem curTick_jrnCommand : (s.jrnCommand w o i v).curTick = s.curTick := by
  unfold State.curTick State.gridIndex State.gridIndexOf
  rw [running_jrnCommand, jrnCommand_frame, jrnCommand_time, get_jrnCommand rfl]

@[simp] theorem tickKey_raise : (s.raise n).tickKey = s.tickKey := by
  unfold State.tickKey State.curTick State.gridIndex State.gridIndexOf State.running
  rw [raise_frame, raise_time, get_raise rfl, get_raise rfl]

@[simp] theorem causeCycle_jrnCommand : (s.jrnCommand w o i v).causeCycle p = s.causeCycle p := by
  unfold State.causeCycle
  rw [curTick_jrnCommand, jrnCommand_time]

@[simp] theorem causedNow_jrnCommand (h : p ≠ .MJ_CAUSE) : (s.jrnCommand w o i v).causedNow p j = s.causedNow p j := by
  unfold State.causedNow
  rw [State.jrnCommand_ct (r0 := s) s w o i v (fun _ _ _ => rfl) p j h]
  rw [causeCycle_jrnCommand]

/-! ### The settling of a tick -/

theorem settle_changes (s : State) : s.Within [(.START_QUALIFIED, 0), (.START_DONE_INDEX, 0)] [.engine] s.settle :=
  State.settle_within s (by simp) (by simp) (by simp) (.refl s)

@[simp] theorem get_settle (h : p.reporting = false) (h1 : p ≠ .START_QUALIFIED) (h2 : p ≠ .START_DONE_INDEX) :
    s.settle.get p j = s.get p j :=
  (settle_changes s).get (by simp [h1, h2]) h

@[simp] theorem get_settle_count : s.settle.get .EV_COUNT j = s.get .EV_COUNT j := by
  unfold State.settle State.judgeStartUp State.startDone State.noteQualified State.takeSnap
  dsimp only
  repeat' first
    | rfl
    | (simp; done)
    | split

@[simp] theorem settle_blob : s.settle.blob = s.blob := (settle_changes s).parts .blob (by simp) rfl
@[simp] theorem settle_time : s.settle.time = s.time := (settle_changes s).parts .time (by simp) rfl
@[simp] theorem settle_ptp : s.settle.ptp = s.ptp := (settle_changes s).parts .ptp (by simp) rfl
@[simp] theorem settle_frame : s.settle.frame = s.frame := (settle_changes s).parts .frame (by simp) rfl
@[simp] theorem settle_chans : s.settle.chans = s.chans := (settle_changes s).parts .chans (by simp) rfl
@[simp] theorem settle_banks : s.settle.banks = s.banks := (settle_changes s).parts .banks (by simp) rfl
@[simp] theorem settle_scans : s.settle.scans = s.scans := (settle_changes s).parts .scans (by simp) rfl
@[simp] theorem settle_triers : s.settle.triers = s.triers := (settle_changes s).parts .triers (by simp) rfl
@[simp] theorem settle_lanes : s.settle.lanes = s.lanes := (settle_changes s).parts .lanes (by simp) rfl
@[simp] theorem settle_fences : s.settle.fences = s.fences := (settle_changes s).parts .fences (by simp) rfl
@[simp] theorem settle_locks : s.settle.locks = s.locks := (settle_changes s).parts .locks (by simp) rfl
@[simp] theorem settle_serLanes : s.settle.serLanes = s.serLanes := (settle_changes s).parts .serLanes (by simp) rfl
@[simp] theorem settle_ringTime : s.settle.ringTime = s.ringTime := (settle_changes s).parts .ringTime (by simp) rfl
@[simp] theorem settle_wits : s.settle.wits = s.wits := (settle_changes s).parts .wits (by simp) rfl
@[simp] theorem settle_excCal : s.settle.excCal = s.excCal := (settle_changes s).parts .excCal (by simp) rfl
@[simp] theorem settle_curdBad : s.settle.curdBad = s.curdBad := (settle_changes s).parts .curdBad (by simp) rfl
@[simp] theorem settle_queues : s.settle.queues = s.queues := (settle_changes s).parts .queues (by simp) rfl
@[simp] theorem settle_cave : s.settle.cave = s.cave := (settle_changes s).parts .cave (by simp) rfl
@[simp] theorem settle_units : s.settle.units = s.units := (settle_changes s).parts .units (by simp) rfl
@[simp] theorem settle_regions : s.settle.regions = s.regions := (settle_changes s).parts .regions (by simp) rfl
@[simp] theorem settle_bcasts : s.settle.bcasts = s.bcasts := (settle_changes s).parts .bcasts (by simp) rfl
@[simp] theorem settle_press : s.settle.press = s.press := (settle_changes s).parts .press (by simp) rfl
@[simp] theorem settle_trierOut : s.settle.trierOut = s.trierOut := (settle_changes s).parts .trierOut (by simp) rfl
@[simp] theorem settle_sec : s.settle.sec = s.sec := (settle_changes s).parts .sec (by simp) rfl
@[simp] theorem settle_power : s.settle.power = s.power := (settle_changes s).parts .power (by simp) rfl
@[simp] theorem settle_test : s.settle.test = s.test := (settle_changes s).parts .test (by simp) rfl
@[simp] theorem settle_vat : s.settle.vat = s.vat := (settle_changes s).parts .vat (by simp) rfl
@[simp] theorem settle_draws : s.settle.draws = s.draws := (settle_changes s).parts .draws (by simp) rfl
@[simp] theorem settle_out : s.settle.out = s.out := (settle_changes s).parts .out (by simp) rfl
@[simp] theorem settle_pending : s.settle.pending = s.pending := (settle_changes s).parts .pending (by simp) rfl

@[simp] theorem chan_settle : s.settle.chan j = s.chan j := by simp [State.chan]
@[simp] theorem bank_settle : s.settle.bank j = s.bank j := by simp [State.bank]
@[simp] theorem scan_settle : s.settle.scan j = s.scan j := by simp [State.scan]
@[simp] theorem trier_settle : s.settle.trier j = s.trier j := by simp [State.trier]
@[simp] theorem lane_settle : s.settle.lane j = s.lane j := by simp [State.lane]
@[simp] theorem serLane_settle : s.settle.serLane j = s.serLane j := by simp [State.serLane]
@[simp] theorem queue_settle : s.settle.queue j = s.queue j := by simp [State.queue]
@[simp] theorem unit_settle : s.settle.unit j = s.unit j := by simp [State.unit]
@[simp] theorem region_settle : s.settle.region j = s.region j := by simp [State.region]
@[simp] theorem wit_settle : s.settle.wit j = s.wit j := by simp [State.wit]

@[simp] theorem chan_cause : (s.cause o i n).chan j = s.chan j := by simp [State.chan]
@[simp] theorem bank_cause : (s.cause o i n).bank j = s.bank j := by simp [State.bank]
@[simp] theorem scan_cause : (s.cause o i n).scan j = s.scan j := by simp [State.scan]
@[simp] theorem trier_cause : (s.cause o i n).trier j = s.trier j := by simp [State.trier]
@[simp] theorem lane_cause : (s.cause o i n).lane j = s.lane j := by simp [State.lane]
@[simp] theorem serLane_cause : (s.cause o i n).serLane j = s.serLane j := by simp [State.serLane]
@[simp] theorem queue_cause : (s.cause o i n).queue j = s.queue j := by simp [State.queue]
@[simp] theorem unit_cause : (s.cause o i n).unit j = s.unit j := by simp [State.unit]
@[simp] theorem region_cause : (s.cause o i n).region j = s.region j := by simp [State.region]
@[simp] theorem wit_cause : (s.cause o i n).wit j = s.wit j := by simp [State.wit]

/-! ### Bits -/

@[simp] theorem bit_withBit (y : Int) (m : Nat) : bit (withBit y m) m = true := by
  unfold bit withBit
  rw [Int.toNat_natCast, Nat.testBit_or, Nat.testBit_two_pow_self, Bool.or_true]

@[simp] theorem get_cause (h : p.reporting = false) (h1 : p ≠ o) : (s.cause o i n).get p j = s.get p j :=
  (State.cause_within (os := [(o, i)]) (ps := []) s o i n (.inl (List.mem_singleton.2 rfl)) (.refl s)).get (by simp [h1]) h

@[simp] theorem get_causeIn (h : p.reporting = false) (h1 : p ≠ o) (h2 : p ≠ .FENCE_SUPPRESSED) :
    (s.causeIn k n o i j).get p m = s.get p m :=
  (State.causeIn_within (os := [(o, i), (.FENCE_SUPPRESSED, k)]) (ps := []) s k n o i j (by simp) (by simp) (.refl s)).get
    (by simp [h1, h2]) h

/-- The note of a cause of the tick leaves every object as it is. -/
@[simp] theorem get_noteCause {r : Bool} : (s.noteCause o i n r).get p j = s.get p j := by
  unfold State.noteCause
  split <;> rfl

theorem bit_orCause : bit ((s.orCause o i n).get o i) n = true := by
  unfold State.orCause
  rw [State.get_put, if_pos ⟨rfl, rfl⟩]
  exact bit_withBit _ _

/-- A cause raised is set. -/
theorem bit_cause (h : o.reporting = false) : bit ((s.cause o i n).get o i) n = true := by
  unfold State.cause
  split
  · rw [get_noteCause]
    assumption
  · rw [State.raiseOf]
    split
    · rw [get_raise h, get_noteCause]
      exact bit_orCause
    · rw [get_noteCause]
      exact bit_orCause

/-- The same for an instance that may be fenced. -/
theorem bit_causeIn (h : o.reporting = false) (h1 : o ≠ .PRESS_CAUSE) (h2 : o ≠ .QC_CAUSE) (h3 : o ≠ .RL_CAUSE)
    (h4 : o ≠ .LN_CAUSE) (h5 : o ≠ .FENCE_SUPPRESSED) : bit ((s.causeIn k m o i n).get o i) n = true := by
  unfold State.causeIn
  split
  · have e : (decide (o = .PRESS_CAUSE) || decide (o = .QC_CAUSE) || decide (o = .RL_CAUSE) || decide (o = .LN_CAUSE)) = false := by
      simp [h1, h2, h3, h4]
    simp only [e, Bool.false_eq_true, if_false]
    have k : bit (((s.orCause o i n).noteCause o i n true).get o i) n = true := by
      rw [get_noteCause]
      exact bit_orCause
    split
    · exact k
    · unfold State.bump
      rw [State.get_put, if_neg (fun q => h5 q.1.symm)]
      exact k
  · exact bit_cause h

end Sys2Proof.Machine
end

