-- ==== Sys2Proof/WellFormed.lean ====
section
/-! DEFINITION. Well-formed commands: every operand lies in the width that the manual gives the object, message or frame
field that carries it, and a list names only instances that exist. -/

namespace Sys2Proof

open Sys2Proof.Machine

/-- A number fits a U32 object (R439). -/
def inU32 (v : Int) : Bool := decide (0 ≤ v) && decide (v < 4294967296)

/-- A number fits an I32 object (R439). -/
def inI32 (v : Int) : Bool := decide (-2147483648 ≤ v) && decide (v < 2147483648)

/-- A number fits an I64 object (R439). -/
def inI64 (v : Int) : Bool := decide (-9223372036854775808 ≤ v) && decide (v < 9223372036854775808)

/-- A time fits VT80, in 2^-16 ns: 48 bits of seconds (R9, R439). -/
def inVt80 (v : Int) : Bool := decide (0 ≤ v) && decide (v < 281474976710656 * 65536000000000)

/-- A frame that the header of R355 can carry: every field in its width, the payload in whole words. -/
def Machine.Frame.wf (f : Frame) : Bool :=
  decide (f.cls < 16) && decide (f.srcKind < 4) && decide (f.srcPos < 32) && decide (f.srcAddr < 512) &&
  decide (f.dstKind < 4) && decide (f.dstPos < 32) && decide (f.dstAddr < 512) && decide (f.hops < 128) &&
  decide (f.fseq < 65536) && decide (f.payload.length % 4 = 0) && decide (f.payload.length + 16 < 65536)

/-- A notice whose fields fit their widths (R474). -/
def Machine.Notice.wf (x : Notice) : Bool :=
  decide (x.nseq < 65536) && decide (x.code < 256) && decide (x.nflags < 256) && decide (x.offset < 2 ^ 32) &&
  decide (x.length < 2 ^ 32) && decide (x.param < 2 ^ 32)

/-- A PTP message whose data fit their widths (R68). -/
def Machine.PtpMsg.wf (m : PtpMsg) : Bool :=
  match m with
  | .announce gm p1 cc p2 => decide (gm < 2 ^ 64) && decide (p1 < 256) && decide (cc < 256) && decide (p2 < 256)
  | .delayReq seq _ | .pdelayReq seq _ => decide (seq < 65536)
  | .sync .. | .followUp .. | .delayResp .. | .pdelayResp .. | .pdelayFollowUp .. | .management => true

/-- What a grid tick brings names only channels, banks and modulators that exist. -/
def Machine.TickIn.wf (t : TickIn) : Bool :=
  t.compliance.all (fun c => decide (c < 512)) && t.overPos.all (fun c => decide (c < 512)) &&
  t.overAny.all (fun c => decide (c < 512)) && t.loops.all (fun x => decide (x.chan < 512)) &&
  t.bias.all (fun x => decide (x.1 < 32) && decide (x.2 < 17)) &&
  t.bits.all (fun x => decide (x.bank < 32) && decide (x.mod < 17) && decide (x.bits < 2 ^ 128)) &&
  t.parity.all (fun c => decide (c < 512)) && t.badBlocks.all (fun c => decide (c < 512))

/-- A command is well formed. -/
def Instr.wellFormed : Instr → Bool
  | .gridTick tin => tin.wf
  | .frameTableWrite _ n v => decide (v < (if n.isSome then 2 ^ 32 else 2 ^ 8))
  | .commitArm _ g digest => decide (g < 2 ^ 64) && decide (digest < 2 ^ 32)
  | .commitCancel _ g => decide (g < 2 ^ 64)
  | .commitNow _ digest => decide (digest < 2 ^ 32)
  | .vtIncrementWrite _ v => inU32 v
  | .vtSlew _ v => inI64 v
  | .ptSlew _ v => inI64 v
  | .vtLoad _ v => inVt80 v
  | .servoOwnerWrite _ v => decide (0 ≤ v) && decide (v < 256)
  | .vatEpochWrite _ v => inVt80 v
  | .clkRefSelWrite _ v => decide (0 ≤ v) && decide (v < 256)
  | .clk10Lost ratio => decide (0 < ratio)
  | .ptpMessageRx domain m => decide (domain < 2 ^ 8) && m.wf
  | .arbitrateVerdict _ live spare => decide (live.length = 3) && decide (spare.length = 3)
  | .calibrationDone _ offset gain => inI32 offset && decide (gain < 2 ^ 32)
  | .bankDelayCalDone _ live spare =>
    decide (live.length = 16) && live.all inI32 && decide (spare.length = 16) && spare.all inI32
  | .bankCauseClear _ _ mask => decide (mask < 2 ^ 32)
  | .trierConversionDone _ raw => decide (-32768 ≤ raw) && decide (raw ≤ 32767)
  | .injRequest _ _ word => decide (word < 2 ^ 32)
  | .trierCalStepDone _ offset gain => inI32 offset && decide (gain < 2 ^ 32)
  | .trierCauseClear _ _ mask => decide (mask < 2 ^ 32)
  | .excCal _ b => decide (b < 2 ^ 8)
  | .coefSwap _ _ k => decide (k < 2 ^ 8)
  | .coefParityFail _ _ paths => paths.all (fun p => decide (p < 17))
  | .dcbFreezeWrite _ _ v => decide (v < 2 ^ 16)
  | .laneCauseClear _ _ mask => decide (mask < 2 ^ 32)
  | .vatTriggerRx _ f => f.wf
  | .unitCauseClear _ _ mask => decide (mask < 2 ^ 32)
  | .compressedBlockClose b bad => bad.all (fun c => decide (c < 512) && decide (c / 16 = b.val))
  | .pressCauseClear _ mask => decide (mask < 2 ^ 32)
  | .queueRead _ _ room => decide (room < 2 ^ 16)
  | .streamAck _ _ seq => decide (seq < 2 ^ 32)
  | .caveScrubPass _ bad hurt => decide (hurt.length ≤ bad)
  | .markSet _ _ m => decide (m < 2 ^ 64)
  | .qcCauseClear _ mask => decide (mask < 2 ^ 32)
  | .blockReceived _ header payload _ _ errs => decide (header < 2 ^ 16) && decide (payload < 2 ^ 256) && decide (errs < 2 ^ 272)
  | .alignmentFound _ _ bsn w0 w1 w2 =>
    decide (bsn < 2 ^ 32) && decide (w0 < 2 ^ 32) && decide (w1 < 2 ^ 32) && decide (w2 < 2 ^ 32)
  | .adaptationDone _ ctle dfe => decide (ctle < 2 ^ 8) && decide (dfe.length = 5)
  | .laneActive _ skew => decide (skew < 2 ^ 16)
  | .laneAddRx _ _ bsnAt => decide (bsnAt < 2 ^ 32)
  | .laneAddAckRx _ _ bsnAt => decide (bsnAt < 2 ^ 32)
  | .injectLineBit _ _ n => decide (n < 2 ^ 8)
  | .injectHeaderBit _ _ n => decide (n < 2 ^ 8)
  | .injectStuff _ _ n => decide (n < 2 ^ 8)
  | .injectPayloadBit _ _ n => decide (n < 2 ^ 8)
  | .lnCauseClear _ mask => decide (mask < 2 ^ 32)
  | .frameReceived _ bytes stamp _ _ =>
    decide (16 ≤ bytes.length) && decide (bytes.length % 4 = 0) && decide (bytes.length < 65536) && decide (0 ≤ stamp)
  | .beaconRx _ f => f.wf
  | .linkNoticeRx _ f => f.wf
  | .linkKillRx _ f => f.wf
  | .pauseRx _ f => f.wf
  | .ackRx _ f => f.wf
  | .resendRx _ f => f.wf
  | .dictReqRx _ f => f.wf
  | .rlCauseClear _ mask => decide (mask < 2 ^ 32)
  | .dreqRx _ f t => f.wf && decide (0 ≤ t)
  | .drespRx _ f t4 => f.wf && decide (0 ≤ t4)
  | .syncRx _ f t => f.wf && decide (0 ≤ t)
  | .announceRx _ f => f.wf
  | .checkRx f t => f.wf && decide (0 ≤ t)
  | .asymCorrWrite _ _ v => inI64 v
  | .rtFaultClear _ v => decide (v < 2 ^ 8)
  | .heartbeatRx f => f.wf
  | .wreqRx _ f also => f.wf && also.all Frame.wf
  | .wgrantRx _ f => f.wf
  | .mirrorRx f => f.wf
  | .dictMirrorRx f exc => f.wf && exc.all (fun e => decide (e.1 < 512))
  | .caveCopyRx f => f.wf
  | .twinSwitch _ v => decide (v < 2 ^ 8)
  | .twinCauseClear _ mask => decide (mask < 2 ^ 32)
  | .udpDatagramRx sip sport dip dport _ data =>
    decide (sip < 2 ^ 32) && decide (sport < 2 ^ 16) && decide (dip < 2 ^ 32) && decide (dport < 2 ^ 16) && decide (data.length ≤ 65507)
  | .arpRequest sip tip => decide (sip < 2 ^ 32) && decide (tip < 2 ^ 32)
  | .icmpEcho sip dip data => decide (sip < 2 ^ 32) && decide (dip < 2 ^ 32) && decide (data.length ≤ 65507)
  | .spiQueueRead q _ => decide (q < 2 ^ 8)
  | .dictWrite _ index sub type value =>
    decide (index < 2 ^ 16) && decide (sub < 2 ^ 8) && decide (type < 2 ^ 8) && decide (value.length < 65536)
  | .mbxOpen _ _ service => decide (service < 2 ^ 8)
  | .mbxPost _ _ notice => notice.wf
  | .mbxAckRx _ _ nseq => decide (nseq < 2 ^ 16)
  | .mbxTxData _ _ offset data => decide (offset < 2 ^ 32) && decide (data.length < 65536)
  | .mbxServicePost _ notice data => notice.wf && decide (data.length ≤ 32768)
  | .mbxServiceAck _ nseq => decide (nseq < 2 ^ 16)
  | .jrnPageRead _ _ bad => bad.all (fun i => decide (i < 64))
  | .jrnHostMarkWrite _ seq => decide (seq < 2 ^ 32)
  | .mjCauseClear _ mask => decide (mask < 2 ^ 32)
  | .evAckMap _ map => decide (map.length = 32)
  | .fenceSet _ _ i => decide (i < 2 ^ 8)
  | .fenceLift _ _ i => decide (i < 2 ^ 8)
  | .fiCauseClear _ mask => decide (mask < 2 ^ 32)
  | .secRevoke _ v => decide (v < 2 ^ 32)
  | .reopenPassword _ pw => decide (pw.length < 65536)
  | .reopenResponse _ r => decide (r.length < 65536)
  | .passwordSet _ pw => decide (pw.length < 65536)
  | .fwKeyRevoke _ k => decide (k < 2 ^ 8)
  | .fwStage _ data => decide (data.length < 65536)
  | .debugSet _ v => decide (v < 2 ^ 8)
  | .secCauseClear _ mask => decide (mask < 2 ^ 32)
  | .dieTempSample temp => decide (-32768 ≤ temp) && decide (temp ≤ 32767)
  | .pwCauseClear _ mask => decide (mask < 2 ^ 32)
  | .testStepEnd compare _ => decide (compare < 2 ^ 64)
  | .repairClear _ n => decide (n < 2 ^ 8)
  | .repairFuse _ n => decide (n < 2 ^ 8)
  | .stCauseClear _ mask => decide (mask < 2 ^ 32)
  | .initComplete x => decide (x.mapBad ≤ 2)
  | .caveTrainingDone x => decide (x.fitted < 2 ^ 32)
  | .memberRecordRx _ f => f.wf
  | .eventHoldoffEnd .. | .acqStart .. | .autoStart .. | .acqStop .. | .scheduledCommitDue .. | .stageDiscard ..
  | .restoreDefaults .. | .cfgSave .. | .servoCycle .. | .ptServoCycle .. | .timeSourceLost .. | .holdoverLimitReached ..
  | .timeSlewDone .. | .modclkLocked .. | .modclkUnlock .. | .ppsInEdge .. | .ppsInMissing .. | .ppsOutPulse ..
  | .keeperClockFail .. | .compResponseRx .. | .compSyncTimeout .. | .channelAbsent .. | .channelRequalify ..
  | .channelReleased .. | .modulatorFailed .. | .spareSettled .. | .shadowVerdict .. | .spareFadeDone .. | .chCalibrate ..
  | .bankDelayCal .. | .scanExecutionBoundary .. | .scanTestVerdict .. | .leadExecutionDone .. | .scanHold ..
  | .scanRelease .. | .trierPassArmedStart .. | .trierStart .. | .trierCalStart .. | .trierPowered .. | .cjcStale ..
  | .residueMismatch .. | .swapRequestJudged .. | .primingEnd .. | .coefFadeEnd .. | .trigTimeoutMatures .. | .trigForce ..
  | .captureClose .. | .capturePushDone .. | .capRelease .. | .broadcastDelivery .. | .averagingIntervalClose ..
  | .statsWindowClose .. | .histWindowClose .. | .histClose .. | .pmapReadout .. | .pmapReadoutDone .. | .pmapClear ..
  | .ripenRequestRx .. | .ripenSegmentDone .. | .caveWritePacket .. | .queueReadWaitExpiry .. | .queueFlush ..
  | .queueDropRest .. | .caveDiscard .. | .markClear .. | .replayStart .. | .replayStop .. | .replayDone ..
  | .regionDataRead .. | .ringSendPacket .. | .ringclkLost .. | .ringclkRestored .. | .transmitBlock .. | .laneLost ..
  | .signalDetected .. | .cdrLocked .. | .cdrLockTimeout .. | .bringupLimitExpiry .. | .portWaitExpiry ..
  | .portFaultRetry .. | .portHushRequest .. | .portRestRequest .. | .portActiveRequest .. | .hushAckTimeout ..
  | .hushReqRx .. | .hushAckRx .. | .restReqRx .. | .restAckRx .. | .laneDropRx .. | .laneAddSend .. | .laneTestEnter ..
  | .laneTestLeave .. | .beaconTimeout .. | .rejoinHoldExpiry .. | .pauseQuantaExpiry .. | .pauseRepeat .. | .dreqSend ..
  | .drespTimeout .. | .syncSend .. | .announceSend .. | .gmEntryExpiry .. | .becomeGrandmaster .. | .checkSend ..
  | .heartbeatSend .. | .heartbeatTimeout .. | .leaseExpiry .. | .claimAtReached .. | .witnessRenewTimer ..
  | .witnessSlotExpiry .. | .syncCopyComplete .. | .handoverCancel .. | .handoverAtH .. | .twinSeenCheck .. | .spiStatus ..
  | .spiMsgWrite .. | .spiMsgRead .. | .open .. | .prove .. | .close .. | .read .. | .write .. | .segRead .. | .segWrite ..
  | .describe .. | .keep .. | .sessionIdleExpiry .. | .mbxClose .. | .mbxTake .. | .mbxEmptyArm .. | .mbxServiceTake ..
  | .mbxAckTimeout .. | .mbxCrossTimeout .. | .lockRead .. | .lockRelease .. | .lockForce .. | .lockTimeoutExpiry ..
  | .jrnMirrorWrite .. | .jrnMirrorCopyDone .. | .evAck .. | .excSupplyOvercurrent .. | .coreWatchdogExpiry ..
  | .curdScrubPass .. | .secClose .. | .secReclose .. | .reopenChallenge .. | .reopenExpired .. | .fwVerify ..
  | .fwActivateNextStart .. | .fwActivateNow .. | .fwConfirm .. | .fwTrialExpiry .. | .tapInstruction .. | .debugHalt ..
  | .pwrRequestRun .. | .pwrRequestDim .. | .pwrRequestVigil .. | .pwrRequestOff .. | .pwrRequestOffDataLoss ..
  | .sealingComplete .. | .wakeNWake .. | .pwrWakeAtAlarm .. | .pwrAutoDelayExpiry .. | .supplyTrip .. | .thermalTrip ..
  | .corePllUnlock .. | .caveDimWake .. | .caveDimHoldExpiry .. | .stRunQuick .. | .stRunFull .. | .stStop ..
  | .regionRestoreDone .. | .repairAccept .. | .fuseBlowDone .. | .mramPatrol .. | .lifeRecordUpdate .. | .keeperPor ..
  | .rstNAssert .. | .rstNRelease .. | .bootComplete .. | .startLimitExpiry .. | .recoveryTicksExpiry ..
  | .servicePhaseNormal .. | .servicePhaseTest .. | .memberRecordSend .. | .memberRecordExpiry .. | .vatLeave ..
  | .vatRejoin .. | .clk10Present .. | .vddCoreSettled .. | .ptpAnnounceTimeout .. | .ptpMessageTx .. | .txPllLocked ..
  | .debugResume .. | .excCalDone .. => true

end Sys2Proof
end

