-- ==== Sys2Proof/Tests/Slice0.lean ====
section
/-! SUPPORT. Tests: ill-formed commands that the checks refuse, states and operands that meet the hypotheses of the
statements, and single steps whose results the manual gives. -/

namespace Sys2Proof.Machine

open Sys2Proof

set_option maxRecDepth 100000
set_option linter.unusedVariables false

/-! ### States the tests start from -/

def host : Who := ⟨.spi, .service, 1⟩
def ready : State := (State.reset.put .START_STATE 0 6).put .SEC_STATE 0 0
def vtRun (v : Int) : State := ((ready.put .VT_STATE 0 v).put .SERVO_OWNER 0 1)
def run0 : State := ((State.reset.put .START_STATE 0 7).put .FRAME_STATE 0 1).put .SEC_STATE 0 0
def State.updMs (s : State) : State := { s with time := { s.time with servoMs := 7, ptMs := 7 } }
def State.slewing (s : State) : State := { s with time := { s.time with vtSlewing := true, ptSlewing := true } }
def State.withOffset (s : State) (off : Int) : State :=
  { s with time := { s.time with offset := some off, servoMs := 7, qualify := 10 ^ 6 } }
def State.phased (s : State) : State := { s with time := { s.time with phaseGood := 64, phaseBad := true } }
def State.atSecond (s : State) : State := { s with time := { s.time with vt := second24, cycle := 10 ^ 12 } }
def State.cycled (s : State) : State := { s with time := { s.time with cycle := 10 ^ 11 } }
def cmd1 : CompCmd := { opc := 2, seq := 1, reg := 0x11, data := 0 }
def goodResp : BitVec 48 := BitVec.ofNat 48 ((2 * 2 ^ 36 + 2 ^ 32 + 256 * 256 + 256) * 256 + crc8Bits (natBits 40 (2
  * 2 ^ 36 + 2 ^ 32 + 256 * 256 + 256)))
def cmd0 : CompCmd := { opc := 0, seq := 1, reg := 0, data := 0 }
def cmd1v : CompCmd := { opc := 2, seq := 1, reg := 0x10, data := 0 }
def withCrc (w : Nat) : BitVec 48 := BitVec.ofNat 48 (w * 256 + crc8Bits (natBits 40 w))
def pollResp : BitVec 48 := withCrc (2 ^ 32 + 2 ^ 30)
def linkedUp : State := (ready.put .COMP_LINK_STATE 2 2).setBank 2 { sent := some cmd0 }
def linkedGood : State := (ready.put .COMP_LINK_STATE 2 1).setBank 2 { sent := some cmd1v, goodRun := 7 }
def linked : State := (ready.put .COMP_LINK_STATE 2 1).setBank 2 { sent := some cmd1 }
def onBank : State := run0.put .BANK_ENABLE 2 1
def monitored : State := onBank.setBank 2 { monRuns := [(3, 2), (16, 2)] }
def scanning : State := onBank.put .SCAN_STATE 2 2
def hitExec : Exec :=
  { kind := 5, mask := 8, stop := -10 ^ 6, start := -4000000, stats := [(3, { polls := 3, hits := 1 })] }
def openRun : TestRun := { kind := 5, closed := true, left := [3], execs := [hitExec] }
def passRun : TestRun :=
  { kind := 5, closed := true, left := [3], execs := [{ hitExec with stats := [(3, { polls := 3 })] }] }
def leadExec : Exec := { kind := 2, mask := 8, stop := -10 ^ 6, stats := [(3, { sumA := 1000, numA := 2 })] }
def leadRun : TestRun := { kind := 2, closed := true, left := [3], execs := [leadExec] }
def ticking : State := run0
def earlyEpoch : State := ready.put .VAT_EPOCH 0 (10 ^ 30)
def excSums : List Int := (List.replicate 16 [240000, 0, -240000]).flatten
def upc : Exec := ((scanning.setScan 2 { current := some { stop := -3 } }).upcoming 2).getD {}
def seg1 : CoefSeg := { s := 0, old := 0, new := 1, n := 4 }
def goodEntry : Nat := 0
def calibrating : State := ready
def rec1 : Rec := { chan := 3, preset := 2, index := 7, value := 5, flags := 0 }
def capturing : State :=
  { (run0.put .CAP_REGION 3 2).setRegion 2 { state := 3, post := 0 } with frame := { closes := [3 * 64 + 3] } }
def closing : State := { run0 with frame := { closes := [2 * 64 + 2] } }
def block1 : Block :=
  { preset := 2, first := 0, stop := 1024, recs := (List.range 64).map (fun (k : Nat) => ({ rec1 with index := 16 * (k : Int), value := 5 } : Rec)) }
def histogram : State := (((({ run0 with frame := { closes := [2 * 64 + 33] } } : State).put .HIST_STATE 1 1).put
  .HIST_SOURCE 1 35).setHist 1 { live := { from_ := some (-10 ^ 7), stop := some (-10 ^ 6) } })
def ripening : State := { ready with cave := { request := some 5 } }
def gseg : Segment := { id := 5, state := .ripening }
def ripened : State :=
  { (ready.put .RIPEN_STATE 0 1).put .RIPEN_SEGMENT 0 5 with cave := { ring := [gseg], total := 8 } }
def gfull : State := { ripened with cave := { ring := [gseg] } }
def tickReady : State := { run0 with time := { run0.time with vt := 10 * second24 } }
def heldEvent : State := ({ ready with time := { ready.time with cycle := 100 } } : State).setEvDelivery 8
  { until_ := some 5, mbxUntil := some 6 }
def armed0 : State := { ready with engine := { armed := some (100, 7) } }
def startable : State :=
  { ((((ready.put .VT_STATE 0 2).put .CAVE_STATE 0 3).put .STREAM_SEGMENTS 0 16).put .CAVE_FITTED 0 1024).put .FRAME_SOURCE 0 1 with cave := { total := 8 } }
def noTick : TickIn := ⟨0, [], [], [], [], [], [], [], [], []⟩
def pkt0 : Packet :=
  { queue := 3, pflags := 0, seq := 1, grid := 5, hub := 0, ptype := 1, payload := [], pcrc := 0, e2e := none }
def pkt1 : Packet := { pkt0 with pcrc := crc32c pkt0.covered }
def words1 : List Word := (List.range 6).map (fun i => BitVec.ofNat 32 (leNat (slice pkt1.bytes (4 * i) 4)))
def slots4 : List Slot := words1.map (fun x => { word := some x })
def headSlot : Slot := { word := some (BitVec.ofNat 32 words1.length) }
def slots4b : List Slot := words1.map (fun x => { word := some x, bad := true })
def writing : State :=
  { (ready.put .CAVE_STATE 0 2).setQueue 3 { depth := 64, slots := headSlot :: slots4 } with cave := { total := 8, ring := [{ id := 0, state := .writing }] } }
def writingBad : State := writing.setQueue 3 { depth := 64, slots := headSlot :: slots4b }
def reading : State := ready.setQueue 3 { depth := 64, drain := 2, slots := headSlot :: slots4 }
def stored1 : Stored := { tick := 5, pkt := pkt1 }
def seg3 : Segment := { id := 0, state := .held, pkts := [stored1], bytes := 24, lo := 5, hi := 5 }
def stored : State := { ready with cave := { total := 8, ring := [seg3], lastSeq := [(3, 5)] } }
def sending : State := { (ready.put .CAVE_STATE 0 2).put .DATA_DIR 0 0 with cave := { total := 8 } }
def sendingOne : State := { sending with cave := { total := 8, ring := [seg3] } }
def resend1 : Resend := { queue := 3, first := 1, count := 1, tag := 0 }
def resend0 : Resend := { queue := 3, first := 0, count := 1, tag := 0 }
def resendOne : Resend := { queue := 3, first := 1, count := 1, tag := 0 }
def resending : State :=
  { (sendingOne.put .LINK_STATE 0 1).put .RING_POSITION 0 3 |>.put .FRAME_STATE 0 1 with ring := { resends := [resendOne] } }
def late : State := { ready with time := { ready.time with cycle := 10 ^ 12 } }
def spared : State := ((ready.put .PORT_STATE 1 3).put .LANE_STATE 3 5).setLink 1 { traffic := 1 }
def portUp : State := ready.put .PORT_STATE 1 3
def linkUp : State := (ready.put .LINK_STATE 1 1).put .PORT_STATE 1 2
def control (op : Nat) : Frame :=
  { cls := 3, resent := false, bothways := false, link := true, srcKind := 0, srcPos := 0, srcAddr := 0, dstKind := 3, dstPos := 0, dstAddr := 0, hops := 0, wrapped := false, fseq := 0, payload := leBytes 1 op ++ [0, 0, 0, 5, 0, 0, 0, 0, 0, 0, 0] }
def pauseBytes : List Byte := (control 4).bytes
def stompedBytes : List Byte := ({ control 4 with stomped := true } : Frame).bytes
def manyFrames : Link :=
  { pausing := true, tx := List.replicate 400 (0, { control 1 with hops := 1, payload := List.replicate 330 0 }) }
def timeFrame (kind : Nat) : Frame :=
  { control kind with cls := 1, payload := leBytes 1 kind ++ List.replicate 27 0 }
def exchanging : State := linkUp.setTimePort 1 { open_ := some (0, some (0, 0)) }
def twinned : State := ((ready.put .LINK_STATE 2 1).put .PORT_STATE 2 3).put .TWIN_ENABLE 0 1
def hbLost : State :=
  { ready with twin := { hbAt := some 0, lost := false }, time := { ready.time with kt := 10 ^ 9 } }
def twinFrame (kind : Nat) (rest : List Byte) : Frame :=
  { control kind with cls := 5, payload := leBytes 1 kind ++ rest ++ List.replicate 24 0 }
def handing : State := { (ready.put .TWIN_STATE 0 5).put .PARTNER_STATE 0 3 with twin := { lost := false } }
def boxed : State := (ready.put .MBX_STATE 3 1).setBox 3 { session := 1 }
def note1 : Notice := { code := 1, nflags := 0, nseq := 1, offset := 0, length := 0, param := 0 }
def crossedBox : State := (hbLost.put .MBX_STATE 3 2).setBox 3
  { session := 1, inbox := [note1, note1, note1, note1], outbox := [note1, note1, note1, note1], held := [note1], emptyArmed := true }
def keyed : State := ready.putBytes .ROLE_KEY_r 2 (List.replicate 64 5)
def closed : State := ready.put .SEC_STATE 0 1
def debugged : State := { ready.put .DEBUG_EFFECTIVE 0 2 with sec := { tap := .debugPort } }
def vigil : State := ready.put .PWR_STATE 0 2
def booting : State := State.reset.put .START_STATE 0 1
def loaded : State := ((booting.put .START_STATE 0 3).loadConfig false).loadRepairs ⟨false, 0, [], [], []⟩
def initialised : State := if bit loaded.boot.sec 0 then loaded.openJournal.bootCauses.jrnWrite 1 0 0x1500 0x03 false
  false [] [] else loaded.openJournal.bootCauses
def placed3 : State := { linkUp.put .RING_POSITION 0 3 with vat := { sentAt := none } }
def msg (op : Nat) : Msg :=
  { magic := 0x5951, version := 1, op := op, flags := 0, status := 0, session := 3, mseq := 1, body := [], tag := [] }
def asking (op : Nat) : State := { ready with engine := { spiIn := [msg op] } }
def msg0 : Msg := { msg 9 with tag := List.replicate 16 0 }
def msgBytes : List Byte := msg0.bytes
def etherUp : State := ((ready.put .IP_ADDRESS 0 9).put .ACCESS_PORT 0 8).put .ETH_MODE 0 1
def spi : State := ready.put .SPI_ENABLE 0 1
def reportDue : State :=
  ({ (ready.put .DATA_DIR 0 0).put .EV_ROUTE 8 0x4000 with time := { ready.time with cycle := 100 } } :
  State).setEvDelivery 8 { until_ := some 5, count := 2 }
def raisedNow : State := (ready.put .EV_PENDING 8 1).setEvDelivery 8 { raisedAt := some ready.time.cycle }
def staged1 : State := { ready with engine := { staged := [(⟨.LOOP_SETTLE, 2⟩, .num 70)] } }
def portDegraded : State := (((ready.put .PORT_STATE 1 3).put .PORT_LANES 1 1).put .LANE_STATE 3 5).setLink 1
  { traffic := 2 }
def portFull : State := ((((ready.put .PORT_STATE 1 2).put .PORT_LANES 1 2).put .LANE_STATE 2 5).put .LANE_STATE 3
  5).setLink 1 { traffic := 3 }
def noticeFrame : Frame := { control 2 with payload := [2, 0, 0, 0, 1, 5, 0, 0] }
def ackFrame : Frame := { control 5 with payload := [5, 0, 0, 0, 3, 0, 0, 0, 5, 0, 0, 0] }
def acking : State := { linkUp.put .ACKED_SEQ 3 2 with cave := { total := 8, ring := [seg3], lastSeq := [(3, 5)] } }
def dictFrame : Frame :=
  { control 8 with payload := [8, 1, 0, 0] ++ ({ msg 1 with tag := List.replicate 16 0 } : Msg).bytes }
def slotsTaken : State := (List.range 8).foldl (fun (s : State) w => s.put .WIT_TWIN w (100 + w)) (linkUp.put
  .WITNESS_ENABLE 0 1)
def mapFull : State := (List.range 64).foldl (fun (s : State) n => s.put .REPAIR_ENTRY_n n 7) (ready.put
  .REPAIR_PROPOSED 0 5)
def sess : Session := { open_ := true, admitted := true, binding := { path := .spi }, role := .service }
def talking (op : Nat) : State := (asking op).setSession 3 sess
def opening : Msg := { msg 1 with tag := List.replicate 16 0 }

/-! ### Witnesses of the statements' hypotheses -/

/-- States and operands that meet the hypotheses of each clause of TimeWrites. -/
theorem test_witness_time_writes :
    (∃ (w : Who) (v : Int) (s : State), s.Open w .engineer .PT_SLEW ∧ ((s.time.ptSlew + v * 256).natAbs : Int) ≤
      s.threshold24) ∧
    (∃ (w : Who) (v : Int) (s : State), s.Open w .engineer .SERVO_OWNER ∧ s.notActingFor w = false ∧ (v = 0 ∨ v = 1)) ∧
    (∃ (w : Who) (v : Int) (s : State), s.Open w .engineer .VAT_EPOCH ∧ s.notActingFor w = false ∧ s.running = false
      ∧ 0 ≤ v ∧ v % (1000000000 * 65536) = 0) ∧
    (∃ (w : Who) (v : Int) (s : State), s.Open w .engineer .CLK_REF_SEL ∧ s.notActingFor w = false ∧ s.running =
      false ∧ (v = 0 ∨ v = 1) ∧ (v = 1 → s.get .CLK10_PRESENT 0 = 1)) :=
  ⟨⟨host, (-5), ((vtRun 1)), ⟨by decide, by decide, by decide⟩, by first | decide | rfl | simp +decide [State.isCandidate]⟩,
   ⟨host, 1, ready, ⟨by decide, by decide, by decide⟩, by first | decide | rfl | simp +decide [State.isCandidate], by first | decide | rfl | simp +decide [State.isCandidate]⟩,
   ⟨host, 65536000000000, ready, ⟨by decide, by decide, by decide⟩, by first | decide | rfl | simp +decide [State.isCandidate], by first | decide | rfl | simp +decide [State.isCandidate], by first | decide | rfl | simp +decide [State.isCandidate], by first | decide | rfl | simp +decide [State.isCandidate]⟩,
   ⟨host, 1, ((ready.put .CLK10_PRESENT 0 1)), ⟨by decide, by decide, by decide⟩, by first | decide | rfl | simp +decide [State.isCandidate], by first | decide | rfl | simp +decide [State.isCandidate], by first | decide | rfl | simp +decide [State.isCandidate], by first | decide | rfl | simp +decide [State.isCandidate]⟩⟩

/-- States and operands that meet the hypotheses of each clause of TimeEvents. -/
theorem test_witness_time_events :
    (∃ (s : State), s.time.vt / (1000000 * ns24) ≠ s.time.servoMs ∧ s.engine.late = none ∧ s.power.leaving = false) ∧
    (∃ (s : State), s.time.vt / (1000000 * ns24) ≠ s.time.servoMs ∧ s.engine.late = none ∧ s.power.leaving = false ∧
      s.get .VT_SOURCE 0 = 0 ∧ (s.timePort 0).syncs = [] ∧ (s.timePort 1).syncs = [] ∧ s.get .VT_STATE 0 = 3) ∧
    (∃ (off : Int) (s : State), s.time.vt / (1000000 * ns24) ≠ s.time.servoMs ∧ s.engine.late = none ∧
      s.power.leaving = false ∧ s.get .VT_SOURCE 0 = 2 ∧ s.isCandidate = false ∧ s.followsRing = false ∧
      s.ringTime.cands = [] ∧ s.get .RT_GM 0 = 0x1FF ∧ s.time.offset = some off ∧ ((off * 256).natAbs : Int) ≤
      s.threshold24 ∧ s.get .VT_STATE 0 = 1 ∧ (off.natAbs : Int) ≤ s.get .LOCK_WINDOW 0 * 65536 ∧ s.get
      .QUALIFY_COUNT 0 ≤ ((s.time.qualify + 1 : Nat) : Int)) ∧
    (∃ (s : State), s.time.pt / (1000000 * ns24) ≠ s.time.ptMs ∧ s.get .PTP_PORT_STATE 0 ≠ 9 ∧ s.running = false) ∧
    (∃ (lim : Int) (s : State), s.sourceTimeout = some lim ∧ lim ≤ s.time.lostRun ∧ s.time.lostRaised = false ∧ s.get
      .VT_STATE 0 = 2) ∧
    (∃ (s : State), s.get .VT_STATE 0 = 3 ∧ s.get .HOLDOVER_LIMIT 0 ≤ s.get .HOLDOVER_TIME 0) ∧
    (∃ (s : State), s.time.vtSlewing = true ∧ s.time.vtSlew = 0) ∧
    (∃ (s : State), s.time.ptSlewing = true ∧ s.time.ptSlew = 0) ∧
    (∃ (ratio : Nat) (s : State), s.get .CLK_REF_ACTIVE 0 = 1) ∧
    (∃ (s : State), (s.get .CLK_REF_SEL 0 = 0 ∨ s.time.clkLost = true ∨ s.running = true)) ∧
    (∃ (s : State), s.get .CLK_REF_SEL 0 = 1 ∧ s.time.clkLost = false ∧ s.running = false) ∧
    (∃ (s : State), s.get .KT_CLOCK 0 = 0) :=
  ⟨⟨((ready.loadVt 0).updMs), by first | decide | rfl | simp +decide [State.isCandidate], by first | decide | rfl | simp +decide [State.isCandidate], by first | decide | rfl | simp +decide [State.isCandidate]⟩,
   ⟨((((ready.loadVt 0).updMs).put .VT_SOURCE 0 0).put .VT_STATE 0 3), by first | decide | rfl | simp +decide [State.isCandidate], by first | decide | rfl | simp +decide [State.isCandidate], by first | decide | rfl | simp +decide [State.isCandidate], by first | decide | rfl | simp +decide [State.isCandidate], by first | decide | rfl | simp +decide [State.isCandidate], by first | decide | rfl | simp +decide [State.isCandidate], by first | decide | rfl | simp +decide [State.isCandidate]⟩,
   ⟨5, (((((ready.loadVt 0).withOffset 5).put .VT_SOURCE 0 2).put .VT_STATE 0 1).put .VAT_STATE 0 5), by first | decide | rfl | simp +decide [State.isCandidate], by first | decide | rfl | simp +decide [State.isCandidate], by first | decide | rfl | simp +decide [State.isCandidate], by first | decide | rfl | simp +decide [State.isCandidate], by first | decide | rfl | simp +decide [State.isCandidate], by first | decide | rfl | simp +decide [State.isCandidate], by first | decide | rfl | simp +decide [State.isCandidate], by first | decide | rfl | simp +decide [State.isCandidate], by first | decide | rfl | simp +decide [State.isCandidate], by first | decide | rfl | simp +decide [State.isCandidate], by first | decide | rfl | simp +decide [State.isCandidate], by first | decide | rfl | simp +decide [State.isCandidate], by first | decide | rfl | simp +decide [State.isCandidate]⟩,
   ⟨ready.updMs, by first | decide | rfl | simp +decide [State.isCandidate], by first | decide | rfl | simp +decide [State.isCandidate], by first | decide | rfl | simp +decide [State.isCandidate]⟩,
   ⟨0, ((((ready.put .VT_STATE 0 2).put .VT_SOURCE 0 1).put .TIMEOUT_PT 0 0)), by first | decide | rfl | simp +decide [State.isCandidate], by first | decide | rfl | simp +decide [State.isCandidate], by first | decide | rfl | simp +decide [State.isCandidate], by first | decide | rfl | simp +decide [State.isCandidate]⟩,
   ⟨(((ready.put .VT_STATE 0 3).put .HOLDOVER_TIME 0 4294967295)), by first | decide | rfl | simp +decide [State.isCandidate], by first | decide | rfl | simp +decide [State.isCandidate]⟩,
   ⟨ready.slewing, by first | decide | rfl | simp +decide [State.isCandidate], by first | decide | rfl | simp +decide [State.isCandidate]⟩,
   ⟨ready.slewing, by first | decide | rfl | simp +decide [State.isCandidate], by first | decide | rfl | simp +decide [State.isCandidate]⟩,
   ⟨4294967296, ((ready.put .CLK_REF_ACTIVE 0 1)), by first | decide | rfl | simp +decide [State.isCandidate]⟩,
   ⟨ready, by first | decide | rfl | simp +decide [State.isCandidate]⟩,
   ⟨(ready.put .CLK_REF_SEL 0 1), by first | decide | rfl | simp +decide [State.isCandidate], by first | decide | rfl | simp +decide [State.isCandidate], by first | decide | rfl | simp +decide [State.isCandidate]⟩,
   ⟨ready, by first | decide | rfl | simp +decide [State.isCandidate]⟩⟩

/-- States and operands that meet the hypotheses of each clause of TimePins. -/
theorem test_witness_time_pins :
    (∃ (s : State), s.get .MODCLK_STATE 0 = 1 ∧ 64 ≤ s.time.phaseGood) ∧
    (∃ (s : State), s.get .MODCLK_STATE 0 = 2 ∧ s.time.phaseBad = true) ∧
    (∃ (rising : Bool) (s : State), s.get .PPS_IN_ENABLE 0 = 1 ∧ rising = (s.get .PPS_IN_EDGE 0 == 0) ∧ ((fromSecond
      (s.time.vt - s.get .PPS_IN_DELAY 0 * ns24)).natAbs : Int) ≤ s.threshold24) ∧
    (∃ (s : State), s.get .PPS_IN_ENABLE 0 = 1 ∧ s.time.ppsRaised = false ∧ msCycles (s.get .TIMEOUT_PPS 0).toNat <
      s.time.cycle - s.time.ppsSince) ∧
    (∃ (s : State), s.get .PPS_OUT_MODE 0 = 1 ∧ s.time.ppsOutSecond < (s.time.vt + s.get .PPS_OUT_DELAY 0 * ns24) /
      second24) ∧
    (∃ (d : Nat) (tx : Int) (rx : Int) (s : State), s.get .PTP_MODE 0 ≠ 0 ∧ (d : Int) = s.get .PTP_DOMAIN 0 ∧ s.get
      .PTP_PORT_STATE 0 = 8 ∧ tx ≠ 0) ∧
    (∃ (d : Nat) (rx : Int) (s : State), s.get .PTP_MODE 0 ≠ 0 ∧ (d : Int) = s.get .PTP_DOMAIN 0 ∧ s.get
      .PTP_DELAY_MECH 0 = 0) ∧
    (∃ (s : State), s.get .PTP_MODE 0 = 1 ∧ s.get .PTP_PORT_STATE 0 = 8 ∧ (s.get .PTP_ANNOUNCE_TIMEOUT 0).toNat *
      logCycles (s.get .PTP_LOG_ANNOUNCE 0) < s.time.cycle - s.ptp.announceAt) ∧
    (∃ (s : State), s.get .PTP_MODE 0 ≠ 0 ∧ s.get .PTP_PORT_STATE 0 = 9 ∧ s.get .PTP_DELAY_MECH 0 = 0 ∧ logCycles
      (s.get .PTP_LOG_DELAY_REQ 0) ≤ s.time.cycle - s.ptp.delayAt) :=
  ⟨⟨((ready.put .MODCLK_STATE 0 1).phased), by first | decide | rfl | simp +decide [State.isCandidate], by first | decide | rfl | simp +decide [State.isCandidate]⟩,
   ⟨((ready.put .MODCLK_STATE 0 2).phased), by first | decide | rfl | simp +decide [State.isCandidate], by first | decide | rfl | simp +decide [State.isCandidate]⟩,
   ⟨true, ((ready.put .PPS_IN_ENABLE 0 1)), by first | decide | rfl | simp +decide [State.isCandidate], by first | decide | rfl | simp +decide [State.isCandidate], by first | decide | rfl | simp +decide [State.isCandidate]⟩,
   ⟨(((ready.put .PPS_IN_ENABLE 0 1).put .TIMEOUT_PPS 0 0).cycled), by first | decide | rfl | simp +decide [State.isCandidate], by first | decide | rfl | simp +decide [State.isCandidate], by first | decide | rfl | simp +decide [State.isCandidate]⟩,
   ⟨((ready.put .PPS_OUT_MODE 0 1).atSecond), by first | decide | rfl | simp +decide [State.isCandidate], by first | decide | rfl | simp +decide [State.isCandidate]⟩,
   ⟨0, 5, 9, ((((ready.put .PTP_MODE 0 1).put .PTP_PORT_STATE 0 8).put .PTP_DOMAIN 0 0)), by first | decide | rfl | simp +decide [State.isCandidate], by first | decide | rfl | simp +decide [State.isCandidate], by first | decide | rfl | simp +decide [State.isCandidate], by first | decide | rfl | simp +decide [State.isCandidate]⟩,
   ⟨0, 9, (((ready.put .PTP_MODE 0 1).put .PTP_DOMAIN 0 0)), by first | decide | rfl | simp +decide [State.isCandidate], by first | decide | rfl | simp +decide [State.isCandidate], by first | decide | rfl | simp +decide [State.isCandidate]⟩,
   ⟨((((ready.put .PTP_MODE 0 1).put .PTP_PORT_STATE 0 8).put .PTP_ANNOUNCE_TIMEOUT 0 0).cycled), by first | decide | rfl | simp +decide [State.isCandidate], by first | decide | rfl | simp +decide [State.isCandidate], by first | decide | rfl | simp +decide [State.isCandidate]⟩,
   ⟨((((ready.put .PTP_MODE 0 1).put .PTP_PORT_STATE 0 9).put .PTP_DELAY_MECH 0 0).cycled), by first | decide | rfl | simp +decide [State.isCandidate], by first | decide | rfl | simp +decide [State.isCandidate], by first | decide | rfl | simp +decide [State.isCandidate], by first | decide | rfl | simp +decide [State.isCandidate]⟩⟩

/-- States and operands that meet the hypotheses of each clause of CauseClears. -/
theorem test_witness_cause_clears :
    (∃ (w : Who) (b : Fin 32) (m : Nat) (s : State), s.Open w .operator .BANK_CAUSE_CLEAR ∧ s.causedNow .BANK_CAUSE b
      &&& m = 0) ∧
    (∃ (w : Who) (b : Fin 4) (m : Nat) (s : State), s.Open w .operator .TRIER_CAUSE_CLEAR ∧ s.causedNow .TRIER_CAUSE
      b &&& m = 0) ∧
    (∃ (w : Who) (b : Fin 32) (m : Nat) (s : State), s.Open w .operator .LANE_CAUSE_CLEAR ∧ s.causedNow .LANE_CAUSE b
      &&& m = 0) ∧
    (∃ (w : Who) (b : Fin 16) (m : Nat) (s : State), s.Open w .operator .UNIT_CAUSE_CLEAR ∧ s.causedNow .UNIT_CAUSE b
      &&& m = 0) ∧
    (∃ (w : Who) (m : Nat) (s : State), s.Open w .operator .PRESS_CAUSE_CLEAR ∧ s.causedNow .PRESS_CAUSE 0 &&& m = 0) ∧
    (∃ (w : Who) (m : Nat) (s : State), s.Open w .operator .QC_CAUSE_CLEAR ∧ s.causedNow .QC_CAUSE 0 &&& m = 0) ∧
    (∃ (w : Who) (m : Nat) (s : State), s.Open w .operator .LN_CAUSE_CLEAR ∧ s.causedNow .LN_CAUSE 0 &&& m = 0) ∧
    (∃ (w : Who) (m : Nat) (s : State), s.Open w .operator .RL_CAUSE_CLEAR ∧ s.causedNow .RL_CAUSE 0 &&& m = 0) ∧
    (∃ (w : Who) (m : Nat) (s : State), s.Open w .operator .TWIN_CAUSE_CLEAR ∧ s.causedNow .TWIN_CAUSE 0 &&& m = 0) ∧
    (∃ (w : Who) (m : Nat) (s : State), s.Open w .operator .FI_CAUSE_CLEAR ∧ s.causedNow .FI_CAUSE 0 &&& m = 0) ∧
    (∃ (w : Who) (m : Nat) (s : State), s.Open w .operator .SEC_CAUSE_CLEAR ∧ s.causedNow .SEC_CAUSE 0 &&& m = 0) ∧
    (∃ (w : Who) (m : Nat) (s : State), s.Open w .operator .PW_CAUSE_CLEAR ∧ s.causedNow .PW_CAUSE 0 &&& m = 0) ∧
    (∃ (w : Who) (m : Nat) (s : State), s.Open w .operator .ST_CAUSE_CLEAR ∧ s.causedNow .ST_CAUSE 0 &&& m = 0) ∧
    (∃ (w : Who) (m : Nat) (s : State), s.Open w .operator .MJ_CAUSE_CLEAR ∧ (s.jrnCommand w .MJ_CAUSE_CLEAR 0 (.num
      m)).causedNow .MJ_CAUSE 0 &&& m = 0) :=
  ⟨⟨host, 3, 5, ((ready.put .BANK_CAUSE 3 7)), ⟨by decide, by decide, by decide⟩, by first | decide | rfl | simp +decide [State.isCandidate]⟩,
   ⟨host, 3, 5, ((ready.put .TRIER_CAUSE 3 7)), ⟨by decide, by decide, by decide⟩, by first | decide | rfl | simp +decide [State.isCandidate]⟩,
   ⟨host, 3, 5, ((ready.put .LANE_CAUSE 3 7)), ⟨by decide, by decide, by decide⟩, by first | decide | rfl | simp +decide [State.isCandidate]⟩,
   ⟨host, 3, 5, ((ready.put .UNIT_CAUSE 3 7)), ⟨by decide, by decide, by decide⟩, by first | decide | rfl | simp +decide [State.isCandidate]⟩,
   ⟨host, 5, ((ready.put .PRESS_CAUSE 0 7)), ⟨by decide, by decide, by decide⟩, by first | decide | rfl | simp +decide [State.isCandidate]⟩,
   ⟨host, 5, ((ready.put .QC_CAUSE 0 7)), ⟨by decide, by decide, by decide⟩, by first | decide | rfl | simp +decide [State.isCandidate]⟩,
   ⟨host, 5, ((ready.put .LN_CAUSE 0 7)), ⟨by decide, by decide, by decide⟩, by first | decide | rfl | simp +decide [State.isCandidate]⟩,
   ⟨host, 5, ((ready.put .RL_CAUSE 0 7)), ⟨by decide, by decide, by decide⟩, by first | decide | rfl | simp +decide [State.isCandidate]⟩,
   ⟨host, 5, ((ready.put .TWIN_CAUSE 0 7)), ⟨by decide, by decide, by decide⟩, by first | decide | rfl | simp +decide [State.isCandidate]⟩,
   ⟨host, 5, ((ready.put .FI_CAUSE 0 7)), ⟨by decide, by decide, by decide⟩, by first | decide | rfl | simp +decide [State.isCandidate]⟩,
   ⟨host, 5, ((ready.put .SEC_CAUSE 0 7)), ⟨by decide, by decide, by decide⟩, by first | decide | rfl | simp +decide [State.isCandidate]⟩,
   ⟨host, 5, ((ready.put .PW_CAUSE 0 7)), ⟨by decide, by decide, by decide⟩, by first | decide | rfl | simp +decide [State.isCandidate]⟩,
   ⟨host, 5, ((ready.put .ST_CAUSE 0 7)), ⟨by decide, by decide, by decide⟩, by first | decide | rfl | simp +decide [State.isCandidate]⟩,
   ⟨host, 4, ((ready.put .MJ_CAUSE 0 7)), ⟨by decide, by decide, by decide⟩, by first | decide | rfl | simp +decide [State.isCandidate]⟩⟩

/-- States and operands that meet the hypotheses of each clause of Companions. -/
theorem test_witness_companions :
    (∃ (b : Fin 32) (resp : BitVec 48) (c : CompCmd) (s : State), (s.bank b).sent = some c ∧ (s.get .COMP_LINK_STATE
      b = 1 ∨ s.get .COMP_LINK_STATE b = 3) ∧ (CompResp.ofWord resp.toNat).good c = true ∧ c.opc = 2 ∧ c.reg = 0x10 ∧
      (CompResp.ofWord resp.toNat).data / 256 = 1 ∧ 7 ≤ (s.bank b).goodRun) ∧
    (∃ (b : Fin 32) (resp : BitVec 48) (c : CompCmd) (s : State), (s.bank b).sent = some c ∧ s.get .COMP_LINK_STATE b
      = 2 ∧ (CompResp.ofWord resp.toNat).good c = true ∧ c.opc = 0) ∧
    (∃ (b : Fin 32) (resp : BitVec 48) (c : CompCmd) (s : State), (s.bank b).sent = some c ∧ s.get .COMP_LINK_STATE b
      = 2 ∧ (CompResp.ofWord resp.toNat).good c = false ∧ (s.bank b).badRun < 3) ∧
    (∃ (b : Fin 32) (s : State), s.get .COMP_LINK_STATE b = 1 ∧ 256 ≤ (s.bank b).syncTicks) ∧
    (∃ (c : Fin 512) (n : Int) (s : State), (s.chan c).verdict = some (n, true) ∧ s.hasRecords c = true ∧ s.get
      .CH_PRESENCE c = 1 ∧ 2 ≤ (s.chan c).failRun ∧ s.bankOn (bankOf c) = true ∧ s.fenced 0 (bankOf c) = false) ∧
    (∃ (c : Fin 512) (s : State), (s.chan c).verdict = none ∧ s.get .CH_PRESENCE c = 1 ∧ 3 ≤ (s.chan c).failRun ∧
      s.bankOn (bankOf c) = true ∧ s.fenced 0 (bankOf c) = false) ∧
    (∃ (c : Fin 512) (s : State), (s.chan c).verdict = none ∧ s.get .CH_PRESENCE c = 2 ∧ s.get .REQUAL_TICKS (bankOf
      c) ≤ ((s.chan c).passRun : Int) ∧ s.bankOn (bankOf c) = true ∧ s.fenced 0 (bankOf c) = false) ∧
    (∃ (c : Fin 512) (s : State), (s.chan c).verdict = none ∧ s.get .CH_PRESENCE c = 3 ∧ (s.chan c).release ≤
      s.tickKey ∧ s.bankOn (bankOf c) = true ∧ s.fenced 0 (bankOf c) = false ∧ s.hasSpare (bankOf c) = false) :=
  ⟨⟨2, goodResp, cmd1v, linkedGood, by first | decide | rfl | simp +decide [State.isCandidate], by first | decide | rfl | simp +decide [State.isCandidate], by first | decide | rfl | simp +decide [State.isCandidate], by first | decide | rfl | simp +decide [State.isCandidate], by first | decide | rfl | simp +decide [State.isCandidate], by first | decide | rfl | simp +decide [State.isCandidate], by first | decide | rfl | simp +decide [State.isCandidate]⟩,
   ⟨2, pollResp, cmd0, linkedUp, by first | decide | rfl | simp +decide [State.isCandidate], by first | decide | rfl | simp +decide [State.isCandidate], by first | decide | rfl | simp +decide [State.isCandidate], by first | decide | rfl | simp +decide [State.isCandidate]⟩,
   ⟨2, 0, cmd1, ((linked.put .COMP_LINK_STATE 2 2)), by first | decide | rfl | simp +decide [State.isCandidate], by first | decide | rfl | simp +decide [State.isCandidate], by first | decide | rfl | simp +decide [State.isCandidate], by first | decide | rfl | simp +decide [State.isCandidate]⟩,
   ⟨2, ((linked.setBank 2 { syncTicks := 256 })), by first | decide | rfl | simp +decide [State.isCandidate], by first | decide | rfl | simp +decide [State.isCandidate]⟩,
   ⟨35, 9, (((onBank.put .CH_MODE 35 1).put .CH_PRESENCE 35 1).setChan 35 { failRun := 2, verdict := some (9, true) }), by first | decide | rfl | simp +decide [State.isCandidate], by first | decide | rfl | simp +decide [State.isCandidate], by first | decide | rfl | simp +decide [State.isCandidate], by first | decide | rfl | simp +decide [State.isCandidate], by first | decide | rfl | simp +decide [State.isCandidate], by first | decide | rfl | simp +decide [State.isCandidate]⟩,
   ⟨35, ((onBank.put .CH_PRESENCE 35 1).setChan 35 { failRun := 3 }), by first | decide | rfl | simp +decide [State.isCandidate], by first | decide | rfl | simp +decide [State.isCandidate], by first | decide | rfl | simp +decide [State.isCandidate], by first | decide | rfl | simp +decide [State.isCandidate], by first | decide | rfl | simp +decide [State.isCandidate]⟩,
   ⟨35, ((onBank.put .CH_PRESENCE 35 2).setChan 35 { passRun := 10 ^ 7 }), by first | decide | rfl | simp +decide [State.isCandidate], by first | decide | rfl | simp +decide [State.isCandidate], by first | decide | rfl | simp +decide [State.isCandidate], by first | decide | rfl | simp +decide [State.isCandidate], by first | decide | rfl | simp +decide [State.isCandidate]⟩,
   ⟨35, (((onBank.put .CH_PRESENCE 35 3).put .SPARE_STATE 2 7).setChan 35 { release := -5 }), by first | decide | rfl | simp +decide [State.isCandidate], by first | decide | rfl | simp +decide [State.isCandidate], by first | decide | rfl | simp +decide [State.isCandidate], by first | decide | rfl | simp +decide [State.isCandidate], by first | decide | rfl | simp +decide [State.isCandidate], by first | decide | rfl | simp +decide [State.isCandidate]⟩⟩

/-- States and operands that meet the hypotheses of each clause of SpareModulators. -/
theorem test_witness_spare_modulators :
    (∃ (b : Fin 32) (m : Fin 16) (s : State), s.bankOn b = true ∧ (s.bank b).monRuns = [(m.val, 2)] ∧ (s.bank
      b).failed = [] ∧ s.running = true ∧ s.get .SPARE_STATE b = 0) ∧
    (∃ (b : Fin 32) (m : Fin 16) (s : State), s.bankOn b = true ∧ (s.bank b).monRuns = [(m.val, 2)] ∧ (s.bank
      b).failed.contains m.val = false ∧ s.get .SPARE_STATE b = 8) ∧
    (∃ (b : Fin 32) (s : State), s.bankOn b = true ∧ 2 ≤ s.monRun b 16 ∧ (s.bank b).failed.contains 16 = false ∧
      s.get .SPARE_STATE b = 0) ∧
    (∃ (b : Fin 32) (s : State), s.get .SPARE_STATE b = 1 ∧ (s.bank b).spare.spanEnd < s.tickKey ∧ s.bankOn b = true
      ∧ (s.bank b).spare.visit ≠ .calibrate) ∧
    (∃ (b : Fin 32) (s : State), s.get .SPARE_STATE b = 2 ∧ (s.bank b).spare.upto + presetLatency (s.preset (16 *
      b.val + s.spareInput b)) ≤ s.tickKey ∧ s.bankOn b = true ∧ (s.bank b).monRuns = [] ∧ (s.bank b).spare.spoiled =
      false ∧ 16 ≤ (s.bank b).spare.pairs ∧ ((s.bank b).spare.diffSum.natAbs : Int) ≤ s.get .SHADOW_MEAN_LIMIT b *
      256 * (s.bank b).spare.pairs ∧ ((s.bank b).spare.diffSq : Int) ≤ s.get .SHADOW_RMS_LIMIT b * s.get
      .SHADOW_RMS_LIMIT b * 65536 * (s.bank b).spare.pairs) ∧
    (∃ (b : Fin 32) (s : State), s.get .SPARE_STATE b = 2 ∧ (s.bank b).spare.upto + presetLatency (s.preset (16 *
      b.val + s.spareInput b)) ≤ s.tickKey ∧ s.bankOn b = true ∧ (s.bank b).monRuns = [] ∧ ((s.bank b).spare.spoiled
      = true ∨ (s.bank b).spare.pairs < 16)) ∧
    (∃ (b : Fin 32) (s : State), s.get .SPARE_STATE b = 2 ∧ (s.bank b).spare.upto + presetLatency (s.preset (16 *
      b.val + s.spareInput b)) ≤ s.tickKey ∧ s.bankOn b = true ∧ (s.bank b).monRuns = [] ∧ (s.bank b).spare.spoiled =
      false ∧ 16 ≤ (s.bank b).spare.pairs ∧ s.get .SHADOW_MEAN_LIMIT b * 256 * (s.bank b).spare.pairs < ((s.bank
      b).spare.diffSum.natAbs : Int)) ∧
    (∃ (b : Fin 32) (s : State), s.bankOn b = true ∧ (s.bank b).monRuns = [] ∧ (s.bank b).spare.stageEnd ≤ s.tickKey
      ∧ s.get .SPARE_STATE b = 3 ∧ (s.bank b).spare.visit = .calibrate) ∧
    (∃ (b : Fin 32) (live : List Int) (spare : List Int) (s : State), s.get .SPARE_STATE b = 4 ∧ s.bankOn b = true ∧
      (s.bank b).monRuns = [] ∧ (s.bank b).spare.stageEnd ≤ s.tickKey ∧ arbPasses (s.get .ARB_LIMIT b) live = false ∧
      arbPasses (s.get .ARB_LIMIT b) spare = true) ∧
    (∃ (w : Who) (c : Fin 512) (s : State), s.Open w .service .CH_CALIBRATE ∧ s.running = false ∧ (s.bank (bankOf
      c)).calNow = none) ∧
    (∃ (b : Fin 32) (offset : Int) (gain : Nat) (i : Nat) (at_ : Nat) (s : State), s.running = false ∧ (s.bank
      b).calNow = some (i, at_) ∧ at_ ≤ s.time.cycle ∧ (s.bank b).calQueue = []) ∧
    (∃ (w : Who) (c : Fin 512) (s : State), s.Open w .service .CH_CALIBRATE ∧ s.running = true ∧ (s.hasSpare (bankOf
      c) = false ∨ s.hasRecords c = false)) ∧
    (∃ (w : Who) (c : Fin 512) (s : State), s.Open w .service .CH_CALIBRATE ∧ s.running = true ∧ s.hasSpare (bankOf
      c) = true ∧ s.hasRecords c = true ∧ 3 ≤ s.get .SPARE_STATE (bankOf c)) ∧
    (∃ (w : Who) (b : Fin 32) (s : State), s.Open w .service .BANK_DELAY_CAL ∧ s.running = false) ∧
    (∃ (b : Fin 32) (at_ : Nat) (live : List Int) (spare : List Int) (s : State), (s.bank b).delayCal = some at_ ∧
      at_ ≤ s.time.cycle ∧ live.length = 16 ∧ spare.length = 16 ∧ live.all (delayAllowed (s.get .LANE_TRIM b)) = true
      ∧ spare.all (delayAllowed (s.get .LANE_TRIM b)) = true) :=
  ⟨⟨2, 3, (onBank.setBank 2 { monRuns := [(3, 2)] }), by first | decide | rfl | simp +decide [State.isCandidate], by first | decide | rfl | simp +decide [State.isCandidate], by first | decide | rfl | simp +decide [State.isCandidate], by first | decide | rfl | simp +decide [State.isCandidate], by first | decide | rfl | simp +decide [State.isCandidate]⟩,
   ⟨2, 3, ((onBank.put .SPARE_STATE 2 8).setBank 2 { monRuns := [(3, 2)] }), by first | decide | rfl | simp +decide [State.isCandidate], by first | decide | rfl | simp +decide [State.isCandidate], by first | decide | rfl | simp +decide [State.isCandidate], by first | decide | rfl | simp +decide [State.isCandidate]⟩,
   ⟨2, monitored, by first | decide | rfl | simp +decide [State.isCandidate], by first | decide | rfl | simp +decide [State.isCandidate], by first | decide | rfl | simp +decide [State.isCandidate], by first | decide | rfl | simp +decide [State.isCandidate]⟩,
   ⟨2, ((onBank.put .SPARE_STATE 2 1).setBank 2 { spare := { spanEnd := -9 } }), by first | decide | rfl | simp +decide [State.isCandidate], by first | decide | rfl | simp +decide [State.isCandidate], by first | decide | rfl | simp +decide [State.isCandidate], by first | decide | rfl | simp +decide [State.isCandidate]⟩,
   ⟨2, ((onBank.put .SPARE_STATE 2 2).setBank 2 { spare := { upto := -10 ^ 6, pairs := 16 } }), by first | decide | rfl | simp +decide [State.isCandidate], by first | decide | rfl | simp +decide [State.isCandidate], by first | decide | rfl | simp +decide [State.isCandidate], by first | decide | rfl | simp +decide [State.isCandidate], by first | decide | rfl | simp +decide [State.isCandidate], by first | decide | rfl | simp +decide [State.isCandidate], by first | decide | rfl | simp +decide [State.isCandidate], by first | decide | rfl | simp +decide [State.isCandidate]⟩,
   ⟨2, ((onBank.put .SPARE_STATE 2 2).setBank 2 { spare := { upto := -10 ^ 6 } }), by first | decide | rfl | simp +decide [State.isCandidate], by first | decide | rfl | simp +decide [State.isCandidate], by first | decide | rfl | simp +decide [State.isCandidate], by first | decide | rfl | simp +decide [State.isCandidate], by first | decide | rfl | simp +decide [State.isCandidate]⟩,
   ⟨2, ((onBank.put .SPARE_STATE 2 2).setBank 2 { spare := { upto := -10 ^ 6, pairs := 16, diffSum := 10 ^ 20 } }), by first | decide | rfl | simp +decide [State.isCandidate], by first | decide | rfl | simp +decide [State.isCandidate], by first | decide | rfl | simp +decide [State.isCandidate], by first | decide | rfl | simp +decide [State.isCandidate], by first | decide | rfl | simp +decide [State.isCandidate], by first | decide | rfl | simp +decide [State.isCandidate], by first | decide | rfl | simp +decide [State.isCandidate]⟩,
   ⟨2, ((onBank.put .SPARE_STATE 2 3).setBank 2 { spare := { stageEnd := -10 ^ 6, visit := .calibrate } }), by first | decide | rfl | simp +decide [State.isCandidate], by first | decide | rfl | simp +decide [State.isCandidate], by first | decide | rfl | simp +decide [State.isCandidate], by first | decide | rfl | simp +decide [State.isCandidate], by first | decide | rfl | simp +decide [State.isCandidate]⟩,
   ⟨2, ([10 ^ 9]), ([0, 0, 0]), ((onBank.put .SPARE_STATE 2 4).setBank 2 { spare := { stageEnd := -10 ^ 6 } }), by first | decide | rfl | simp +decide [State.isCandidate], by first | decide | rfl | simp +decide [State.isCandidate], by first | decide | rfl | simp +decide [State.isCandidate], by first | decide | rfl | simp +decide [State.isCandidate], by first | decide | rfl | simp +decide [State.isCandidate], by first | decide | rfl | simp +decide [State.isCandidate]⟩,
   ⟨host, 35, ready, ⟨by decide, by decide, by decide⟩, by first | decide | rfl | simp +decide [State.isCandidate], by first | decide | rfl | simp +decide [State.isCandidate]⟩,
   ⟨2, 7, 9, 3, 0, (ready.setBank 2 { calNow := some (3, 0) }), by first | decide | rfl | simp +decide [State.isCandidate], by first | decide | rfl | simp +decide [State.isCandidate], by first | decide | rfl | simp +decide [State.isCandidate], by first | decide | rfl | simp +decide [State.isCandidate]⟩,
   ⟨host, 35, run0, ⟨by decide, by decide, by decide⟩, by first | decide | rfl | simp +decide [State.isCandidate], by first | decide | rfl | simp +decide [State.isCandidate]⟩,
   ⟨host, 35, ((run0.put .CH_MODE 35 1).put .SPARE_STATE 2 5), ⟨by decide, by decide, by decide⟩, by first | decide | rfl | simp +decide [State.isCandidate], by first | decide | rfl | simp +decide [State.isCandidate], by first | decide | rfl | simp +decide [State.isCandidate], by first | decide | rfl | simp +decide [State.isCandidate]⟩,
   ⟨host, 2, ready, ⟨by decide, by decide, by decide⟩, by first | decide | rfl | simp +decide [State.isCandidate]⟩,
   ⟨2, 0, ((List.replicate 16 5)), ((List.replicate 16 7)), (ready.setBank 2 { delayCal := some 0 }), by first | decide | rfl | simp +decide [State.isCandidate], by first | decide | rfl | simp +decide [State.isCandidate], by first | decide | rfl | simp +decide [State.isCandidate], by first | decide | rfl | simp +decide [State.isCandidate], by first | decide | rfl | simp +decide [State.isCandidate], by first | decide | rfl | simp +decide [State.isCandidate]⟩⟩

/-- States and operands that meet the hypotheses of each clause of ScanTables. -/
theorem test_witness_scan_tables :
    (∃ (b : Fin 32) (e : Exec) (s : State), s.bankOn b = true ∧ s.get .SCAN_STATE b = 2 ∧ (s.scan b).current = some e
      ∧ e.stop ≤ s.tickKey + 1 ∧ (s.scan b).holdWait = true) ∧
    (∃ (b : Fin 32) (e : Exec) (s : State), s.bankOn b = true ∧ s.get .SCAN_STATE b = 2 ∧ (s.scan b).current = some e
      ∧ e.stop ≤ s.tickKey + 1 ∧ (s.scan b).holdWait = false ∧ e.number < (s.scanEntry b e.entry).rep) ∧
    (∃ (b : Fin 32) (e : Exec) (s : State), s.bankOn b = true ∧ s.get .SCAN_STATE b = 2 ∧ (s.scan b).current = some e
      ∧ e.stop ≤ s.tickKey + 1 ∧ (s.scan b).holdWait = false ∧ (s.scanEntry b e.entry).rep ≤ e.number ∧ (e.entry + 1
      : Int) < s.get .SCAN_LENGTH b) ∧
    (∃ (b : Fin 32) (e : Exec) (s : State), s.bankOn b = true ∧ s.get .SCAN_STATE b = 2 ∧ (s.scan b).current = some e
      ∧ e.stop ≤ s.tickKey + 1 ∧ (s.scan b).holdWait = false ∧ (s.scanEntry b e.entry).rep ≤ e.number ∧ s.get
      .SCAN_LENGTH b ≤ (e.entry + 1 : Int)) ∧
    (∃ (b : Fin 32) (r : TestRun) (i : Fin 16) (code : Int) (s : State), (s.scan b).runs = [r] ∧ r.closed = true ∧ 3
      ≤ r.kind ∧ r.left = [i.val] ∧ r.fenced = false ∧ s.acting = true ∧ s.runReady b r i s.tickKey = true ∧
      s.runVerdict b r i = some code ∧ code ≠ 0 ∧ s.fenced 0 b = false ∧ s.get .CH_PRESENCE (16 * b.val + i.val) = 1) ∧
    (∃ (b : Fin 32) (r : TestRun) (i : Fin 16) (s : State), (s.scan b).runs = [r] ∧ r.closed = true ∧ 3 ≤ r.kind ∧
      r.left = [i.val] ∧ r.fenced = false ∧ s.acting = true ∧ s.runReady b r i s.tickKey = true ∧ s.runVerdict b r i
      = some 0 ∧ s.fenced 0 b = false ∧ s.get .CH_PRESENCE (16 * b.val + i.val) = 4 ∧ (s.chan (16 * b.val +
      i.val)).faultKind = r.kind) ∧
    (∃ (b : Fin 32) (r : TestRun) (i : Fin 16) (s : State), (s.scan b).runs = [r] ∧ r.closed = true ∧ 3 ≤ r.kind ∧
      r.left = [i.val] ∧ r.fenced = false ∧ s.acting = true ∧ s.runReady b r i s.tickKey = true ∧ s.runVerdict b r i
      = none) ∧
    (∃ (b : Fin 32) (r : TestRun) (e : Exec) (i : Fin 16) (s : State), (s.scan b).runs = [r] ∧ r.closed = true ∧
      r.kind = 2 ∧ r.left = [i.val] ∧ r.execs = [e] ∧ s.acting = true ∧ s.runReady b r i s.tickKey = true ∧ (e.stat
      i).numA ≠ 0 ∧ (s.cfgAt (16 * b.val + i.val) e.start).exc ≠ 0) ∧
    (∃ (b : Fin 32) (r : TestRun) (e : Exec) (i : Fin 16) (s : State), (s.scan b).runs = [r] ∧ r.closed = true ∧
      r.kind = 2 ∧ r.left = [i.val] ∧ r.execs = [e] ∧ s.runReady b r i s.tickKey = true ∧ (e.stat i).numA = 0) ∧
    (∃ (w : Who) (b : Fin 32) (e : Exec) (s : State), s.Open w .operator .SCAN_HOLD ∧ s.get .SCAN_STATE b = 2 ∧
      (s.scan b).holdWait = false ∧ (s.scan b).current = some e) ∧
    (∃ (w : Who) (b : Fin 32) (s : State), s.Open w .operator .SCAN_HOLD ∧ s.get .SCAN_STATE b = 2 ∧ (s.scan
      b).holdWait = false ∧ (s.scan b).current = none) ∧
    (∃ (w : Who) (b : Fin 32) (s : State), s.Open w .operator .SCAN_HOLD ∧ s.get .SCAN_STATE b = 3) ∧
    (∃ (w : Who) (b : Fin 32) (s : State), s.Open w .operator .SCAN_HOLD ∧ s.get .SCAN_STATE b = 2 ∧ (s.scan
      b).holdWait = true) :=
  ⟨⟨2, ({ stop := -3 }), ((scanning.setScan 2 { current := some { stop := -3 }, holdWait := true })), by first | decide | rfl | simp +decide [State.isCandidate], by first | decide | rfl | simp +decide [State.isCandidate], by first | decide | rfl | simp +decide [State.isCandidate], by first | decide | rfl | simp +decide [State.isCandidate], by first | decide | rfl | simp +decide [State.isCandidate]⟩,
   ⟨2, ({ stop := -3 }), (((scanning.put .SCAN_ENTRY_n 64 0xFFFFFFFFFFFF).setScan 2 { current := some { stop := -3 } })), by first | decide | rfl | simp +decide [State.isCandidate], by first | decide | rfl | simp +decide [State.isCandidate], by first | decide | rfl | simp +decide [State.isCandidate], by first | decide | rfl | simp +decide [State.isCandidate], by first | decide | rfl | simp +decide [State.isCandidate], by first | decide | rfl | simp +decide [State.isCandidate]⟩,
   ⟨2, ({ stop := -3, number := 10 ^ 6 }), (((scanning.put .SCAN_LENGTH 2 2).setScan 2 { current := some { stop := -3, number := 10 ^ 6 } })), by first | decide | rfl | simp +decide [State.isCandidate], by first | decide | rfl | simp +decide [State.isCandidate], by first | decide | rfl | simp +decide [State.isCandidate], by first | decide | rfl | simp +decide [State.isCandidate], by first | decide | rfl | simp +decide [State.isCandidate], by first | decide | rfl | simp +decide [State.isCandidate], by first | decide | rfl | simp +decide [State.isCandidate]⟩,
   ⟨2, ({ stop := -3, number := 10 ^ 6 }), (((scanning.put .SCAN_LENGTH 2 1).setScan 2 { current := some { stop := -3, number := 10 ^ 6 } })), by first | decide | rfl | simp +decide [State.isCandidate], by first | decide | rfl | simp +decide [State.isCandidate], by first | decide | rfl | simp +decide [State.isCandidate], by first | decide | rfl | simp +decide [State.isCandidate], by first | decide | rfl | simp +decide [State.isCandidate], by first | decide | rfl | simp +decide [State.isCandidate], by first | decide | rfl | simp +decide [State.isCandidate]⟩,
   ⟨2, openRun, 3, 4, ((scanning.put .CH_PRESENCE 35 1).setScan 2 { runs := [openRun] }), by first | decide | rfl | simp +decide [State.isCandidate], by first | decide | rfl | simp +decide [State.isCandidate], by first | decide | rfl | simp +decide [State.isCandidate], by first | decide | rfl | simp +decide [State.isCandidate], by first | decide | rfl | simp +decide [State.isCandidate], by first | decide | rfl | simp +decide [State.isCandidate], by first | decide | rfl | simp +decide [State.isCandidate], by first | decide | rfl | simp +decide [State.isCandidate], by first | decide | rfl | simp +decide [State.isCandidate], by first | decide | rfl | simp +decide [State.isCandidate], by first | decide | rfl | simp +decide [State.isCandidate]⟩,
   ⟨2, passRun, 3, (((scanning.put .CH_PRESENCE 35 4).setChan 35 { faultKind := 5 }).setScan 2 { runs := [passRun] }), by first | decide | rfl | simp +decide [State.isCandidate], by first | decide | rfl | simp +decide [State.isCandidate], by first | decide | rfl | simp +decide [State.isCandidate], by first | decide | rfl | simp +decide [State.isCandidate], by first | decide | rfl | simp +decide [State.isCandidate], by first | decide | rfl | simp +decide [State.isCandidate], by first | decide | rfl | simp +decide [State.isCandidate], by first | decide | rfl | simp +decide [State.isCandidate], by first | decide | rfl | simp +decide [State.isCandidate], by first | decide | rfl | simp +decide [State.isCandidate], by first | decide | rfl | simp +decide [State.isCandidate]⟩,
   ⟨2, ({ kind := 3, closed := true, left := [3] }), 3, (scanning.setScan 2 { runs := [{ kind := 3, closed := true, left := [3] }] }), by first | decide | rfl | simp +decide [State.isCandidate], by first | decide | rfl | simp +decide [State.isCandidate], by first | decide | rfl | simp +decide [State.isCandidate], by first | decide | rfl | simp +decide [State.isCandidate], by first | decide | rfl | simp +decide [State.isCandidate], by first | decide | rfl | simp +decide [State.isCandidate], by first | decide | rfl | simp +decide [State.isCandidate], by first | decide | rfl | simp +decide [State.isCandidate]⟩,
   ⟨2, leadRun, leadExec, 3, ((scanning.put .CH_EXC 35 5).setScan 2 { runs := [leadRun] }), by first | decide | rfl | simp +decide [State.isCandidate], by first | decide | rfl | simp +decide [State.isCandidate], by first | decide | rfl | simp +decide [State.isCandidate], by first | decide | rfl | simp +decide [State.isCandidate], by first | decide | rfl | simp +decide [State.isCandidate], by first | decide | rfl | simp +decide [State.isCandidate], by first | decide | rfl | simp +decide [State.isCandidate], by first | decide | rfl | simp +decide [State.isCandidate], by first | decide | rfl | simp +decide [State.isCandidate]⟩,
   ⟨2, ({ leadRun with execs := [{ stop := -10 ^ 6 }] }), ({ stop := -10 ^ 6 }), 3, (scanning.setScan 2 { runs := [{ leadRun with execs := [{ stop := -10 ^ 6 }] }] }), by first | decide | rfl | simp +decide [State.isCandidate], by first | decide | rfl | simp +decide [State.isCandidate], by first | decide | rfl | simp +decide [State.isCandidate], by first | decide | rfl | simp +decide [State.isCandidate], by first | decide | rfl | simp +decide [State.isCandidate], by first | decide | rfl | simp +decide [State.isCandidate], by first | decide | rfl | simp +decide [State.isCandidate]⟩,
   ⟨host, 2, ({ stop := -3 }), ((scanning.setScan 2 { current := some { stop := -3 } })), ⟨by decide, by decide, by decide⟩, by first | decide | rfl | simp +decide [State.isCandidate], by first | decide | rfl | simp +decide [State.isCandidate], by first | decide | rfl | simp +decide [State.isCandidate]⟩,
   ⟨host, 2, scanning, ⟨by decide, by decide, by decide⟩, by first | decide | rfl | simp +decide [State.isCandidate], by first | decide | rfl | simp +decide [State.isCandidate], by first | decide | rfl | simp +decide [State.isCandidate]⟩,
   ⟨host, 2, ((scanning.put .SCAN_STATE 2 3)), ⟨by decide, by decide, by decide⟩, by first | decide | rfl | simp +decide [State.isCandidate]⟩,
   ⟨host, 2, ((scanning.setScan 2 { holdWait := true })), ⟨by decide, by decide, by decide⟩, by first | decide | rfl | simp +decide [State.isCandidate], by first | decide | rfl | simp +decide [State.isCandidate]⟩⟩

/-- States and operands that meet the hypotheses of each clause of HarpLanes. -/
theorem test_witness_harp_lanes :
    (∃ (w : Who) (b : Fin 32) (k : Nat) (n : Int) (s : State), s.Open w .operator .COEF_SWAP ∧ k ≤ 1 ∧ s.curTick =
      some n) ∧
    (∃ (w : Who) (b : Fin 32) (k : Nat) (s : State), s.Open w .operator .COEF_SWAP ∧ k ≤ 1 ∧ s.curTick = none) ∧
    (∃ (b : Fin 32) (k : Nat) (at_ : Int) (s : State), s.running = true ∧ s.commitDue = false ∧ (s.lane b).requests =
      [(k, at_, false)] ∧ at_ ≤ s.tickKey + 1 ∧ s.get .COEF_IN_USE b ≠ k ∧ s.get .COEF_STATE b = 0) ∧
    (∃ (b : Fin 32) (s : State), s.commitDue = false ∧ s.get .COEF_STATE b = 1 ∧ s.get .PRIME_END b - 1 ≤ s.tickKey ∧
      s.get .COEF_PENDING b = 0xFF) ∧
    (∃ (b : Fin 32) (s : State), s.commitDue = false ∧ s.get .COEF_STATE b = 2 ∧ (s.lane b).fadeEnd - 1 ≤ s.tickKey ∧
      (s.lane b).former = [] ∧ s.get .COEF_PENDING b = 0xFF) ∧
    (∃ (b : Fin 32) (path : Fin 17) (s : State), ((s.lane b).residues.filter (fun n => decide (s.tickKey + 1 - 64000
      < n))).length < s.get .RESIDUE_LIMIT 0) ∧
    (∃ (w : Who) (b : Fin 32) (v : Nat) (s : State), s.Open w .operator .DCB_FREEZE ∧ s.notActingFor w = false ∧ v <
      65536) :=
  ⟨⟨host, 2, 1, (-1), ticking, ⟨by decide, by decide, by decide⟩, by first | decide | rfl | simp +decide [State.isCandidate], by first | decide | rfl | simp +decide [State.isCandidate]⟩,
   ⟨host, 2, 1, earlyEpoch, ⟨by decide, by decide, by decide⟩, by first | decide | rfl | simp +decide [State.isCandidate], by first | decide | rfl | simp +decide [State.isCandidate]⟩,
   ⟨2, 1, 0, ((run0.setLane 2 { requests := [(1, 0, false)] })), by first | decide | rfl | simp +decide [State.isCandidate], by first | decide | rfl | simp +decide [State.isCandidate], by first | decide | rfl | simp +decide [State.isCandidate], by first | decide | rfl | simp +decide [State.isCandidate], by first | decide | rfl | simp +decide [State.isCandidate], by first | decide | rfl | simp +decide [State.isCandidate]⟩,
   ⟨2, (((run0.put .COEF_STATE 2 1).put .PRIME_END 2 (-7)).put .COEF_PENDING 2 0xFF), by first | decide | rfl | simp +decide [State.isCandidate], by first | decide | rfl | simp +decide [State.isCandidate], by first | decide | rfl | simp +decide [State.isCandidate], by first | decide | rfl | simp +decide [State.isCandidate]⟩,
   ⟨2, (((run0.put .COEF_STATE 2 2).put .COEF_PENDING 2 0xFF).setLane 2 { fadeEnd := -9, fadeTo := 1 }), by first | decide | rfl | simp +decide [State.isCandidate], by first | decide | rfl | simp +decide [State.isCandidate], by first | decide | rfl | simp +decide [State.isCandidate], by first | decide | rfl | simp +decide [State.isCandidate], by first | decide | rfl | simp +decide [State.isCandidate]⟩,
   ⟨2, 3, ((run0.put .RESIDUE_LIMIT 0 9)), by first | decide | rfl | simp +decide [State.isCandidate]⟩,
   ⟨host, 2, 9, run0, ⟨by decide, by decide, by decide⟩, by first | decide | rfl | simp +decide [State.isCandidate], by first | decide | rfl | simp +decide [State.isCandidate]⟩⟩

/-- States and operands that meet the hypotheses of each clause of Triers. -/
theorem test_witness_triers :
    (∃ (t0 : Fin 4) (raw : Int) (e : Nat) (s : State), s.workOver (s.trier t0) = true ∧ (s.trier t0).work = .sequence
      e) ∧
    (∃ (w : Who) (t0 : Fin 4) (s : State), s.Open w .operator .START ∧ s.get .TRIER_MODE t0 = 1 ∧ ((s.trier
      t0).pass.isSome || (s.trier t0).startDue) = true) ∧
    (∃ (w : Who) (t0 : Fin 4) (s : State), s.Open w .operator .START ∧ s.get .TRIER_MODE t0 = 1 ∧ (s.trier t0).pass =
      none ∧ (s.trier t0).startDue = false ∧ s.takenNow t0 = false ∧ (s.trier t0).work ≠ .none) ∧
    (∃ (t0 : Fin 4) (raw : Int) (w : Nat) (s : State), s.workOver (s.trier t0) = true ∧ (s.trier t0).work = .injected
      w) ∧
    (∃ (w : Who) (t0 : Fin 4) (s : State), s.Open w .operator .START ∧ s.get .TRIER_MODE t0 = 1 ∧ s.get .TRIER_STATE
      t0 = 1 ∧ s.trierGroup t0 = [t0.val] ∧ s.groupIdle [t0.val] = true ∧ (s.trier t0).startDue = false ∧ s.takenNow
      t0 = false ∧ (s.trier t0).offDue = false ∧ (s.trier t0).cutDue = false ∧ (s.trier t0).readyAt = none ∧ (s.trier
      t0).calPending = false ∧ 0 < s.get .SEQ_LENGTH t0 ∧ s.entrySkipped t0 0 = false) ∧
    (∃ (t0 : Fin 4) (m : Int) (l : List Int) (s : State), (s.trier t0).armed = m :: l ∧ m * 625 + s.get .TRIG_DELAY
      t0 ≤ s.trierClock ∧ s.trierGroup t0 = [t0.val] ∧ s.groupIdle [t0.val] = true ∧ (s.trier t0).readyAt = none ∧
      s.takenNow t0 = false ∧ 0 < s.get .SEQ_LENGTH t0 ∧ s.entrySkipped t0 0 = false) ∧
    (∃ (t0 : Fin 4) (m : Int) (l : List Int) (s : State), (s.trier t0).armed = m :: l ∧ m * 625 + s.get .TRIG_DELAY
      t0 ≤ s.trierClock ∧ s.trierGroup t0 = [t0.val] ∧ s.groupIdle [t0.val] = false) ∧
    (∃ (w : Who) (t0 : Fin 4) (word : Nat) (k : Nat) (s : State), s.Open w .engineer .INJ_REQUEST ∧ s.get
      .TRIER_STATE t0 ≠ 0 ∧ (s.trier t0).slot = none ∧ entryGood word = true ∧ s.trierGroup t0 = [t0.val] ∧ (s.trier
      t0).startAt ≠ some s.trierClock ∧ (s.trier t0).work = .injected k) ∧
    (∃ (w : Who) (t0 : Fin 4) (s : State), s.Open w .engineer .CAL_START ∧ s.get .TRIER_STATE t0 ≠ 0 ∧ s.fenced 4 t0
      = false ∧ s.trierGroup t0 = [t0.val] ∧ (s.trier t0).calPending = false ∧ (s.trier t0).calNext = none ∧ (s.trier
      t0).startAt ≠ some s.trierClock ∧ (s.trier t0).work ≠ .none) ∧
    (∃ (t0 : Fin 4) (offset : Int) (gain : Nat) (k : Nat) (s : State), (s.trier t0).work = .calibrate k ∧ k < 63 ∧
      s.workOver (s.trier t0) = true ∧ s.get .TRIER_STATE t0 ≠ 0 ∧ (s.trier t0).offDue = false ∧ (s.trier t0).slot =
      none ∧ (s.trier t0).readyAt = none) ∧
    (∃ (t0 : Fin 4) (offset : Int) (gain : Nat) (s : State), (s.trier t0).work = .calibrate 63 ∧ (s.trier
      t0).calPending = false ∧ s.workOver (s.trier t0) = true ∧ (offset.natAbs : Nat) ≤ 16384 ∧ ((gain : Int) -
      1073741824).natAbs * 100 ≤ 1073741824) ∧
    (∃ (t0 : Fin 4) (r : Int) (s : State), (s.trier t0).readyAt = some r ∧ r ≤ s.trierClock) ∧
    (∃ (t0 : Fin 4) (r : Int) (s : State), (s.trier t0).readyAt = some r ∧ r ≤ s.trierClock ∧ s.get .TRIER_MODE t0 =
      2 ∧ s.get .TRIER_STATE t0 ≠ 0 ∧ s.trierGroup t0 = [t0.val] ∧ s.groupIdle [t0.val] = true ∧ (s.trier t0).offDue
      = false ∧ (s.trier t0).cutDue = false ∧ (s.trier t0).calPending = false ∧ 0 < s.get .SEQ_LENGTH t0 ∧
      s.entrySkipped t0 0 = false) ∧
    (∃ (b : Fin 32) (s : State), (s.bank b).cjc = []) ∧
    (∃ (w : Who) (b : Nat) (s : State), s.Open w .service .EXC_CAL ∧ b < 32 ∧ s.get .FRAME_STATE 0 = 0 ∧ s.get
      .TRIER_STATE (s.get .EXC_CAL_TRIER 0).toNat ≠ 0 ∧ s.excCal.bank = none) ∧
    (∃ (b : Fin 32) (cut : Bool) (s : State), s.excCal.bank = some b.val ∧ s.excCal.sums.length = 48 ∧ (excFound
      s.excCal.sums).all (fun m => decide (m.1.natAbs ≤ 10000) && decide (m.2.1.natAbs ≤ 2000) && decide
      (m.2.2.natAbs ≤ 2000)) = true) :=
  ⟨⟨2, 77, 3, ((run0.setTrier 2 { work := .sequence 3, ends := -10 ^ 6 })), by first | decide | rfl | simp +decide [State.isCandidate], by first | decide | rfl | simp +decide [State.isCandidate]⟩,
   ⟨host, 2, (((run0.put .TRIER_MODE 2 1).setTrier 2 { startDue := true })), ⟨by decide, by decide, by decide⟩, by first | decide | rfl | simp +decide [State.isCandidate], by first | decide | rfl | simp +decide [State.isCandidate]⟩,
   ⟨host, 2, (((run0.put .TRIER_MODE 2 1).setTrier 2 { work := .sequence 3 })), ⟨by decide, by decide, by decide⟩, by first | decide | rfl | simp +decide [State.isCandidate], by first | decide | rfl | simp +decide [State.isCandidate], by first | decide | rfl | simp +decide [State.isCandidate], by first | decide | rfl | simp +decide [State.isCandidate], by first | decide | rfl | simp +decide [State.isCandidate]⟩,
   ⟨2, 77, 3, ((run0.setTrier 2 { work := .injected 3, ends := -10 ^ 6 })), by first | decide | rfl | simp +decide [State.isCandidate], by first | decide | rfl | simp +decide [State.isCandidate]⟩,
   ⟨host, 2, ((((run0.put .TRIER_MODE 2 1).put .TRIER_STATE 2 1).put .SEQ_LENGTH 2 2)), ⟨by decide, by decide, by decide⟩, by first | decide | rfl | simp +decide [State.isCandidate], by first | decide | rfl | simp +decide [State.isCandidate], by first | decide | rfl | simp +decide [State.isCandidate], by first | decide | rfl | simp +decide [State.isCandidate], by first | decide | rfl | simp +decide [State.isCandidate], by first | decide | rfl | simp +decide [State.isCandidate], by first | decide | rfl | simp +decide [State.isCandidate], by first | decide | rfl | simp +decide [State.isCandidate], by first | decide | rfl | simp +decide [State.isCandidate], by first | decide | rfl | simp +decide [State.isCandidate], by first | decide | rfl | simp +decide [State.isCandidate], by first | decide | rfl | simp +decide [State.isCandidate]⟩,
   ⟨2, (-5), ([]), (((run0.put .SEQ_LENGTH 2 2).put .VAT_EPOCH 0 0).setTrier 2 { armed := [-5] }), by first | decide | rfl | simp +decide [State.isCandidate], by first | decide | rfl | simp +decide [State.isCandidate], by first | decide | rfl | simp +decide [State.isCandidate], by first | decide | rfl | simp +decide [State.isCandidate], by first | decide | rfl | simp +decide [State.isCandidate], by first | decide | rfl | simp +decide [State.isCandidate], by first | decide | rfl | simp +decide [State.isCandidate], by first | decide | rfl | simp +decide [State.isCandidate]⟩,
   ⟨2, (-5), ([]), (((run0.put .SEQ_LENGTH 2 2).put .VAT_EPOCH 0 0).setTrier 2 { armed := [-5], pass := some 1 }), by first | decide | rfl | simp +decide [State.isCandidate], by first | decide | rfl | simp +decide [State.isCandidate], by first | decide | rfl | simp +decide [State.isCandidate], by first | decide | rfl | simp +decide [State.isCandidate]⟩,
   ⟨host, 2, goodEntry, 0, (((run0.put .TRIER_STATE 2 3).setTrier 2 { work := .injected 0 })), ⟨by decide, by decide, by decide⟩, by first | decide | rfl | simp +decide [State.isCandidate], by first | decide | rfl | simp +decide [State.isCandidate], by first | decide | rfl | simp +decide [State.isCandidate], by first | decide | rfl | simp +decide [State.isCandidate], by first | decide | rfl | simp +decide [State.isCandidate], by first | decide | rfl | simp +decide [State.isCandidate]⟩,
   ⟨host, 2, (((run0.put .TRIER_STATE 2 2).setTrier 2 { work := .sequence 1 })), ⟨by decide, by decide, by decide⟩, by first | decide | rfl | simp +decide [State.isCandidate], by first | decide | rfl | simp +decide [State.isCandidate], by first | decide | rfl | simp +decide [State.isCandidate], by first | decide | rfl | simp +decide [State.isCandidate], by first | decide | rfl | simp +decide [State.isCandidate], by first | decide | rfl | simp +decide [State.isCandidate], by first | decide | rfl | simp +decide [State.isCandidate]⟩,
   ⟨2, 0, 0, 3, (((run0.put .TRIER_STATE 2 4).setTrier 2 { work := .calibrate 3, calNext := some 3, ends := -10 ^ 6 })), by first | decide | rfl | simp +decide [State.isCandidate], by first | decide | rfl | simp +decide [State.isCandidate], by first | decide | rfl | simp +decide [State.isCandidate], by first | decide | rfl | simp +decide [State.isCandidate], by first | decide | rfl | simp +decide [State.isCandidate], by first | decide | rfl | simp +decide [State.isCandidate], by first | decide | rfl | simp +decide [State.isCandidate]⟩,
   ⟨2, 5, 1073741824, ((run0.setTrier 2 { work := .calibrate 63, ends := -10 ^ 6 })), by first | decide | rfl | simp +decide [State.isCandidate], by first | decide | rfl | simp +decide [State.isCandidate], by first | decide | rfl | simp +decide [State.isCandidate], by first | decide | rfl | simp +decide [State.isCandidate], by first | decide | rfl | simp +decide [State.isCandidate]⟩,
   ⟨2, (-10 ^ 6), ((run0.setTrier 2 { readyAt := some (-10 ^ 6) })), by first | decide | rfl | simp +decide [State.isCandidate], by first | decide | rfl | simp +decide [State.isCandidate]⟩,
   ⟨2, (-10 ^ 6), ((((run0.put .TRIER_MODE 2 2).put .TRIER_STATE 2 1).put .SEQ_LENGTH 2 2).setTrier 2 { readyAt := some (-10 ^ 6) }), by first | decide | rfl | simp +decide [State.isCandidate], by first | decide | rfl | simp +decide [State.isCandidate], by first | decide | rfl | simp +decide [State.isCandidate], by first | decide | rfl | simp +decide [State.isCandidate], by first | decide | rfl | simp +decide [State.isCandidate], by first | decide | rfl | simp +decide [State.isCandidate], by first | decide | rfl | simp +decide [State.isCandidate], by first | decide | rfl | simp +decide [State.isCandidate], by first | decide | rfl | simp +decide [State.isCandidate], by first | decide | rfl | simp +decide [State.isCandidate], by first | decide | rfl | simp +decide [State.isCandidate]⟩,
   ⟨2, run0, by first | decide | rfl | simp +decide [State.isCandidate]⟩,
   ⟨host, 3, (((ready.put .EXC_CAL_TRIER 0 0).put .TRIER_STATE 0 1)), ⟨by decide, by decide, by decide⟩, by first | decide | rfl | simp +decide [State.isCandidate], by first | decide | rfl | simp +decide [State.isCandidate], by first | decide | rfl | simp +decide [State.isCandidate], by first | decide | rfl | simp +decide [State.isCandidate]⟩,
   ⟨3, false, ({ ready with excCal := { bank := some 3, sums := excSums } }), by first | decide | rfl | simp +decide [State.isCandidate], by first | decide | rfl | simp +decide [State.isCandidate], by first | decide | rfl | simp +decide [State.isCandidate]⟩⟩

/-- States and operands that meet the hypotheses of each clause of TriggerUnits. -/
theorem test_witness_trigger_units :
    (∃ (u : Fin 16) (r : Rec) (s : State), (s.unit u).matured = some r ∧ s.fenced 3 u = true) ∧
    (∃ (u : Fin 16) (r : Rec) (s : State), (s.unit u).matured = some r ∧ s.fenced 3 u = false ∧ s.get .CAP_REGION u =
      255 ∧ s.unitOn u = true ∧ s.get .REARM_SAMPLES u = 0 ∧ (s.unit u).armFrom = none) ∧
    (∃ (u : Fin 16) (q : Fin 16) (r : Rec) (s : State), (s.unit u).matured = some r ∧ s.fenced 3 u = false ∧ s.get
      .CAP_REGION u = q ∧ (s.region q).state = 4) ∧
    (∃ (w : Who) (u : Fin 16) (s : State), s.Open w .operator .TRIG_FORCE) ∧
    (∃ (s : State), s.running = true ∧ (∀ u < 16, (s.unit u).matured = none)) ∧
    (∃ (u : Fin 16) (x : Bcast) (s : State), s.running = true ∧ (∀ v < 16, (s.unit v).matured = none) ∧ s.bcasts =
      [x] ∧ x.tick < s.tickKey ∧ (∀ v < 16, bit (s.get .BCAST_IN v) x.line = decide (v = u.val)) ∧ s.unitOn u = true
      ∧ s.fenced 3 u = false ∧ s.get .CAP_REGION u = 255 ∧ s.get .REARM_SAMPLES u = 0 ∧ (s.unit u).armFrom = none) ∧
    (∃ (r : Fin 16) (s : State), s.captureDue r = true ∧ (∀ u < 16, (s.unit u).matured = none) ∧ s.bcasts = [] ∧ 16 ≤
      (s.region r).hist ∧ 4 ≤ (s.region r).pmap ∧ s.fenced 6 r = false) ∧
    (∃ (r : Fin 16) (s : State), (s.region r).state = 4 ∧ (s.region r).pushing = true ∧ (s.region r).parts = [] ∧
      (s.queue (s.region r).queue).incoming = none ∧ s.running = true) ∧
    (∃ (r : Fin 16) (s : State), (s.region r).state = 4 ∧ (s.region r).pushing = true ∧ (s.region r).parts = [] ∧
      (s.queue (s.region r).queue).incoming = none ∧ s.running = false) ∧
    (∃ (w : Who) (u : Fin 16) (r : Fin 16) (s : State), s.Open w .operator .CAP_RELEASE ∧ s.get .CAP_REGION u = r ∧
      (s.region r).state = 4 ∧ (s.region r).pushing = false ∧ s.running = true) ∧
    (∃ (w : Who) (u : Fin 16) (r : Fin 16) (s : State), s.Open w .operator .CAP_RELEASE ∧ s.get .CAP_REGION u = r ∧
      (s.region r).state = 4 ∧ (s.region r).pushing = false ∧ s.running = false) ∧
    (∃ (w : Who) (u : Fin 16) (s : State), s.Open w .operator .CAP_RELEASE ∧ ((s.region (s.get .CAP_REGION
      u).toNat).state ≠ 4 ∨ (s.region (s.get .CAP_REGION u).toNat).pushing = true)) ∧
    (∃ (w : Who) (r : Fin 16) (bad : Bool) (s : State), s.served = true ∧ Role.observer.rank ≤ w.role.rank ∧ s.barred
      w .REGION_DATA false = none) :=
  ⟨⟨3, rec1, (((run0.setUnit 3 { matured := some rec1 }).put .FENCED 3 8)), by first | decide | rfl | simp +decide [State.isCandidate], by first | decide | rfl | simp +decide [State.isCandidate]⟩,
   ⟨3, rec1, ((((run0.setUnit 3 { matured := some rec1 }).put .CAP_REGION 3 255).put .TRIG_COND 3 7).put .REARM_SAMPLES 3 0), by first | decide | rfl | simp +decide [State.isCandidate], by first | decide | rfl | simp +decide [State.isCandidate], by first | decide | rfl | simp +decide [State.isCandidate], by first | decide | rfl | simp +decide [State.isCandidate], by first | decide | rfl | simp +decide [State.isCandidate], by first | decide | rfl | simp +decide [State.isCandidate]⟩,
   ⟨3, 2, rec1, (((run0.setUnit 3 { matured := some rec1 }).put .CAP_REGION 3 2).setRegion 2 { state := 4 }), by first | decide | rfl | simp +decide [State.isCandidate], by first | decide | rfl | simp +decide [State.isCandidate], by first | decide | rfl | simp +decide [State.isCandidate], by first | decide | rfl | simp +decide [State.isCandidate]⟩,
   ⟨host, 3, run0, ⟨by decide, by decide, by decide⟩⟩,
   ⟨run0, by first | decide | rfl | simp +decide [State.isCandidate], by first | decide | rfl | simp +decide [State.isCandidate]⟩,
   ⟨3, ({ line := 1, hub := 0, unit := 5, t := 7, tick := -9 }), ({ (((run0.put .BCAST_IN 3 2).put .CAP_REGION 3 255).put .TRIG_COND 3 7).put .REARM_SAMPLES 3 0 with bcasts := [{ line := 1, hub := 0, unit := 5, t := 7, tick := -9 }] }), by first | decide | rfl | simp +decide [State.isCandidate], by first | decide | rfl | simp +decide [State.isCandidate], by first | decide | rfl | simp +decide [State.isCandidate], by first | decide | rfl | simp +decide [State.isCandidate], by first | decide | rfl | simp +decide [State.isCandidate], by first | decide | rfl | simp +decide [State.isCandidate], by first | decide | rfl | simp +decide [State.isCandidate], by first | decide | rfl | simp +decide [State.isCandidate], by first | decide | rfl | simp +decide [State.isCandidate], by first | decide | rfl | simp +decide [State.isCandidate]⟩,
   ⟨2, capturing, by first | decide | rfl | simp +decide [State.isCandidate], by first | decide | rfl | simp +decide [State.isCandidate], by first | decide | rfl | simp +decide [State.isCandidate], by first | decide | rfl | simp +decide [State.isCandidate], by first | decide | rfl | simp +decide [State.isCandidate], by first | decide | rfl | simp +decide [State.isCandidate]⟩,
   ⟨2, ((run0.setRegion 2 { state := 4, pushing := true })), by first | decide | rfl | simp +decide [State.isCandidate], by first | decide | rfl | simp +decide [State.isCandidate], by first | decide | rfl | simp +decide [State.isCandidate], by first | decide | rfl | simp +decide [State.isCandidate], by first | decide | rfl | simp +decide [State.isCandidate]⟩,
   ⟨2, ((ready.setRegion 2 { state := 4, pushing := true })), by first | decide | rfl | simp +decide [State.isCandidate], by first | decide | rfl | simp +decide [State.isCandidate], by first | decide | rfl | simp +decide [State.isCandidate], by first | decide | rfl | simp +decide [State.isCandidate], by first | decide | rfl | simp +decide [State.isCandidate]⟩,
   ⟨host, 3, 2, (((run0.put .CAP_REGION 3 2).setRegion 2 { state := 4 })), ⟨by decide, by decide, by decide⟩, by first | decide | rfl | simp +decide [State.isCandidate], by first | decide | rfl | simp +decide [State.isCandidate], by first | decide | rfl | simp +decide [State.isCandidate], by first | decide | rfl | simp +decide [State.isCandidate]⟩,
   ⟨host, 3, 2, (((ready.put .CAP_REGION 3 2).setRegion 2 { state := 4 })), ⟨by decide, by decide, by decide⟩, by first | decide | rfl | simp +decide [State.isCandidate], by first | decide | rfl | simp +decide [State.isCandidate], by first | decide | rfl | simp +decide [State.isCandidate], by first | decide | rfl | simp +decide [State.isCandidate]⟩,
   ⟨host, 3, ready, ⟨by decide, by decide, by decide⟩, by first | decide | rfl | simp +decide [State.isCandidate]⟩,
   ⟨host, 2, false, ready, by first | decide | rfl | simp +decide [State.isCandidate], by first | decide | rfl | simp +decide [State.isCandidate], by first | decide | rfl | simp +decide [State.isCandidate]⟩⟩

/-- States and operands that meet the hypotheses of each clause of PressWindows. -/
theorem test_witness_press_windows :
    (∃ (b : Fin 32) (bad : List Nat) (s : State), s.running = true ∧ s.closeNamed 2 b = true) ∧
    (∃ (b : Fin 32) (bad : List Nat) (c : Nat) (x : Block) (s : State), s.running = true ∧ s.closeNamed 2 b = true ∧
      c < 512 ∧ (s.strm b).blocks = [(c, x)] ∧ x.complete = true ∧ x.recs ≠ [] ∧ s.fenced 2 b = false ∧ bad = []) ∧
    (∃ (b : Fin 32) (bad : List Nat) (c : Nat) (x : Block) (s : State), s.running = true ∧ s.closeNamed 2 b = true ∧
      c < 512 ∧ (s.strm b).blocks = [(c, x)] ∧ x.complete = true ∧ x.recs ≠ [] ∧ s.fenced 2 b = false ∧ bad.contains
      c = true ∧ (encodeBlock false x.recs).2 = false ∧ ((s.strm b).fails.length : Int) < s.get .VERIFY_LIMIT 0) ∧
    (∃ (b : Fin 32) (s : State), s.running = true ∧ s.closeNamed 2 b = true) ∧
    (∃ (b : Fin 32) (c : Nat) (x : Win) (s : State), s.running = true ∧ s.closeNamed 2 b = true ∧ c < 512 ∧ (s.strm
      b).avgs = [(c, x)] ∧ s.allLeft c x.stop = true ∧ s.fenced 2 b = false ∧ x.used < (s.pressCfg b (alignUp x.stop
      (presetPeriod x.preset) - presetPeriod x.preset)).avgMin) ∧
    (∃ (b : Fin 32) (s : State), s.running = true ∧ s.closeNamed 2 b = true) ∧
    (∃ (h : Fin 16) (fr : Int) (s : State), s.running = true ∧ s.closeNamed 2 (32 + h.val) = true ∧ s.histDue h =
      true ∧ (s.hist h).done = [] ∧ (s.hist h).live.from_ = some fr ∧ s.fenced 2 (32 + h.val) = false) ∧
    (∃ (w : Who) (h : Fin 16) (fr : Int) (s : State), s.Open w .operator .HIST_CLOSE ∧ s.running = true ∧ s.get
      .HIST_STATE h = 1 ∧ (s.hist h).closedAt ≠ some s.tickKey ∧ s.closeNamed 2 (32 + h.val) = true ∧ (s.hist h).done
      = [] ∧ (s.hist h).live.from_ = some fr ∧ s.fenced 2 (32 + h.val) = false) ∧
    (∃ (w : Who) (h : Fin 16) (s : State), s.Open w .operator .HIST_CLOSE ∧ s.get .HIST_STATE h = 1 ∧ (s.hist
      h).closedAt ≠ some s.tickKey ∧ (s.running = false ∨ s.closeNamed 2 (32 + h.val) = false)) ∧
    (∃ (w : Who) (h : Fin 16) (s : State), s.Open w .operator .HIST_CLOSE ∧ s.get .HIST_STATE h ≠ 1) ∧
    (∃ (w : Who) (m : Fin 4) (s : State), s.Open w .operator .PMAP_READOUT ∧ s.get .PMAP_STATE m ≠ 2 ∧ bit (s.get
      .PMAP_PENDING m) 1 = false ∧ s.mapInPost m = false) ∧
    (∃ (w : Who) (m : Fin 4) (s : State), s.Open w .operator .PMAP_READOUT ∧ s.get .PMAP_STATE m ≠ 2 ∧ bit (s.get
      .PMAP_PENDING m) 1 = false ∧ s.mapInPost m = true) ∧
    (∃ (w : Who) (m : Fin 4) (s : State), s.Open w .operator .PMAP_CLEAR ∧ s.get .PMAP_STATE m ≠ 2 ∧ bit (s.get
      .PMAP_PENDING m) 1 = false ∧ s.mapInPost m = false ∧ s.fenced 2 (48 + m.val) = false) ∧
    (∃ (m : Fin 4) (s : State), (s.pmap m).next = some 32 ∧ s.get .PMAP_PENDING m = 0) :=
  ⟨⟨2, ([]), closing, by first | decide | rfl | simp +decide [State.isCandidate], by first | decide | rfl | simp +decide [State.isCandidate]⟩,
   ⟨2, ([]), 35, block1, (closing.setStrm 2 { blocks := [(35, block1)] }), by first | decide | rfl | simp +decide [State.isCandidate], by first | decide | rfl | simp +decide [State.isCandidate], by first | decide | rfl | simp +decide [State.isCandidate], by first | decide | rfl | simp +decide [State.isCandidate], by first | decide | rfl | simp +decide [State.isCandidate], by first | decide | rfl | simp +decide [State.isCandidate], by first | decide | rfl | simp +decide [State.isCandidate], by first | decide | rfl | simp +decide [State.isCandidate]⟩,
   ⟨2, ([35]), 35, block1, ((closing.put .VERIFY_LIMIT 0 3).setStrm 2 { blocks := [(35, block1)] }), by first | decide | rfl | simp +decide [State.isCandidate], by first | decide | rfl | simp +decide [State.isCandidate], by first | decide | rfl | simp +decide [State.isCandidate], by first | decide | rfl | simp +decide [State.isCandidate], by first | decide | rfl | simp +decide [State.isCandidate], by first | decide | rfl | simp +decide [State.isCandidate], by first | decide | rfl | simp +decide [State.isCandidate], by first | decide | rfl | simp +decide [State.isCandidate], by first | decide | rfl | simp +decide [State.isCandidate], by first | decide | rfl | simp +decide [State.isCandidate]⟩,
   ⟨2, closing, by first | decide | rfl | simp +decide [State.isCandidate], by first | decide | rfl | simp +decide [State.isCandidate]⟩,
   ⟨2, 35, ({ preset := 2, first := -3200, stop := -1600 }), ((closing.put .AVG_MIN_USED 2 1).setStrm 2 { avgs := [(35, { preset := 2, first := -3200, stop := -1600 })] }), by first | decide | rfl | simp +decide [State.isCandidate], by first | decide | rfl | simp +decide [State.isCandidate], by first | decide | rfl | simp +decide [State.isCandidate], by first | decide | rfl | simp +decide [State.isCandidate], by first | decide | rfl | simp +decide [State.isCandidate], by first | decide | rfl | simp +decide [State.isCandidate], by first | decide | rfl | simp +decide [State.isCandidate]⟩,
   ⟨2, (closing.setStrm 2 { stats := [(35, { preset := 2, first := -3200, stop := -1600 })] }), by first | decide | rfl | simp +decide [State.isCandidate], by first | decide | rfl | simp +decide [State.isCandidate]⟩,
   ⟨1, (-10 ^ 7), histogram, by first | decide | rfl | simp +decide [State.isCandidate], by first | decide | rfl | simp +decide [State.isCandidate], by first | decide | rfl | simp +decide [State.isCandidate], by first | decide | rfl | simp +decide [State.isCandidate], by first | decide | rfl | simp +decide [State.isCandidate], by first | decide | rfl | simp +decide [State.isCandidate]⟩,
   ⟨host, 1, (-10 ^ 7), histogram, ⟨by decide, by decide, by decide⟩, by first | decide | rfl | simp +decide [State.isCandidate], by first | decide | rfl | simp +decide [State.isCandidate], by first | decide | rfl | simp +decide [State.isCandidate], by first | decide | rfl | simp +decide [State.isCandidate], by first | decide | rfl | simp +decide [State.isCandidate], by first | decide | rfl | simp +decide [State.isCandidate], by first | decide | rfl | simp +decide [State.isCandidate]⟩,
   ⟨host, 2, (histogram.put .HIST_STATE 2 1), ⟨by decide, by decide, by decide⟩, by first | decide | rfl | simp +decide [State.isCandidate], by first | decide | rfl | simp +decide [State.isCandidate], by first | decide | rfl | simp +decide [State.isCandidate]⟩,
   ⟨host, 2, run0, ⟨by decide, by decide, by decide⟩, by first | decide | rfl | simp +decide [State.isCandidate]⟩,
   ⟨host, 2, ready, ⟨by decide, by decide, by decide⟩, by first | decide | rfl | simp +decide [State.isCandidate], by first | decide | rfl | simp +decide [State.isCandidate], by first | decide | rfl | simp +decide [State.isCandidate]⟩,
   ⟨host, 2, ((ready.setRegion 1 { pmap := 2, state := 3 })), ⟨by decide, by decide, by decide⟩, by first | decide | rfl | simp +decide [State.isCandidate], by first | decide | rfl | simp +decide [State.isCandidate], by first | decide | rfl | simp +decide [State.isCandidate]⟩,
   ⟨host, 2, ((ready.put .PMAP_MAX 2 5)), ⟨by decide, by decide, by decide⟩, by first | decide | rfl | simp +decide [State.isCandidate], by first | decide | rfl | simp +decide [State.isCandidate], by first | decide | rfl | simp +decide [State.isCandidate], by first | decide | rfl | simp +decide [State.isCandidate]⟩,
   ⟨2, ((ready.setPmap 2 { next := some 32 })), by first | decide | rfl | simp +decide [State.isCandidate], by first | decide | rfl | simp +decide [State.isCandidate]⟩⟩

/-- States and operands that meet the hypotheses of each clause of Ripening. -/
theorem test_witness_ripening :
    (∃ (id : Nat) (s : State), s.cave.request = some id ∧ s.fenced 2 52 = false ∧ s.get .RIPEN_STATE 0 = 0) ∧
    (∃ (id : Nat) (s : State), s.cave.request = some id ∧ s.fenced 2 52 = false ∧ s.get .RIPEN_STATE 0 ≠ 0 ∧ s.get
      .RIPEN_PENDING 0 = 0xFFFFFFFF) ∧
    (∃ (g : Segment) (s : State), s.get .RIPEN_STATE 0 = 1 ∧ s.cave.ring.find? (fun (g : Segment) => g.id == (s.get
      .RIPEN_SEGMENT 0).toNat && g.state == .ripening) = some g ∧ (s.placeRipe g (s.ripenSegment g).1).isSome = true
      ∧ s.get .RIPEN_PENDING 0 = 0xFFFFFFFF ∧ s.fenced 2 52 = false) ∧
    (∃ (g : Segment) (s : State), s.get .RIPEN_STATE 0 = 1 ∧ s.cave.ring.find? (fun (g : Segment) => g.id == (s.get
      .RIPEN_SEGMENT 0).toNat && g.state == .ripening) = some g ∧ (s.placeRipe g (s.ripenSegment g).1).isSome = true
      ∧ s.get .RIPEN_PENDING 0 ≠ 0xFFFFFFFF ∧ s.fenced 2 52 = false) ∧
    (∃ (g : Segment) (s : State), s.get .RIPEN_STATE 0 = 1 ∧ s.cave.ring.find? (fun (g : Segment) => g.id == (s.get
      .RIPEN_SEGMENT 0).toNat && g.state == .ripening) = some g ∧ s.placeRipe g (s.ripenSegment g).1 = none ∧ s.get
      .RIPEN_PENDING 0 = 0xFFFFFFFF) :=
  ⟨⟨5, ripening, by first | decide | rfl | simp +decide [State.isCandidate], by first | decide | rfl | simp +decide [State.isCandidate], by first | decide | rfl | simp +decide [State.isCandidate]⟩,
   ⟨5, (((ripening.put .RIPEN_STATE 0 1).put .RIPEN_PENDING 0 0xFFFFFFFF)), by first | decide | rfl | simp +decide [State.isCandidate], by first | decide | rfl | simp +decide [State.isCandidate], by first | decide | rfl | simp +decide [State.isCandidate], by first | decide | rfl | simp +decide [State.isCandidate]⟩,
   ⟨gseg, (ripened.put .RIPEN_PENDING 0 0xFFFFFFFF), by first | decide | rfl | simp +decide [State.isCandidate], by first | decide | rfl | simp +decide [State.isCandidate], by first | decide | rfl | simp +decide [State.isCandidate], by first | decide | rfl | simp +decide [State.isCandidate], by first | decide | rfl | simp +decide [State.isCandidate]⟩,
   ⟨gseg, (ripened.put .RIPEN_PENDING 0 7), by first | decide | rfl | simp +decide [State.isCandidate], by first | decide | rfl | simp +decide [State.isCandidate], by first | decide | rfl | simp +decide [State.isCandidate], by first | decide | rfl | simp +decide [State.isCandidate], by first | decide | rfl | simp +decide [State.isCandidate]⟩,
   ⟨gseg, (gfull.put .RIPEN_PENDING 0 0xFFFFFFFF), by first | decide | rfl | simp +decide [State.isCandidate], by first | decide | rfl | simp +decide [State.isCandidate], by first | decide | rfl | simp +decide [State.isCandidate], by first | decide | rfl | simp +decide [State.isCandidate]⟩⟩

/-- States and operands that meet the hypotheses of each clause of EventsAndTicks. -/
theorem test_witness_events_and_ticks :
    (∃ (tin : TickIn) (s : State), s.tickDue = true ∧ s.engine.late = none ∧ s.frame.immediate = false) ∧
    (∃ (tin : TickIn) (s : State), s.tickDue = false) ∧
    (∃ (n : Fin 256) (a : Nat) (b : Nat) (s : State), (s.evDelivery n).until_ = some a ∧ a ≤ s.time.cycle ∧
      (s.evDelivery n).count = 0 ∧ (s.evDelivery n).mbxUntil = some b ∧ b ≤ s.time.cycle ∧ (s.evDelivery n).mbxCount
      = 0) ∧
    (∃ (n : Fin 256) (a : Nat) (s : State), (s.evDelivery n).until_ = some a ∧ a ≤ s.time.cycle ∧ 0 < (s.evDelivery
      n).count ∧ (s.evDelivery n).held = false ∧ s.acting = true ∧ s.get .DATA_DIR 0 ≠ 0xFF ∧ 0 < s.holdoff n ∧
      (s.evDelivery n).mbxUntil = none) ∧
    (∃ (n : Fin 256) (a : Nat) (s : State), (s.evDelivery n).until_ = some a ∧ a ≤ s.time.cycle ∧ 0 < (s.evDelivery
      n).count ∧ (s.evDelivery n).held = false ∧ s.acting = true ∧ s.get .DATA_DIR 0 = 0xFF ∧ (s.evDelivery
      n).mbxUntil = none) ∧
    (∃ (n : Fin 256) (s : State), ((∀ a : Nat, (s.evDelivery n).until_ = some a → s.time.cycle < a)) ∧ ((∀ a : Nat,
      (s.evDelivery n).mbxUntil = some a → s.time.cycle < a))) ∧
    (∃ (w : Who) (n : Fin 256) (s : State), s.Open w .operator .EV_ACK ∧ ((s.jrnCommand w .EV_ACK n .unit).evDelivery
      n).raisedAt ≠ some s.time.cycle) ∧
    (∃ (w : Who) (n : Fin 256) (s : State), s.Open w .operator .EV_ACK ∧ (s.evDelivery n).raisedAt = some
      s.time.cycle ∧ s.get .EV_PENDING n = 1) ∧
    (∃ (w : Who) (map : List Byte) (s : State), s.Open w .operator .EV_ACK_MAP ∧ map.length = 32) ∧
    (∃ (w : Who) (v : Nat) (s : State), s.Open w .engineer .FRAME_SOURCE ∧ s.notActingFor w = false ∧ s.running =
      false ∧ v ≤ 1) ∧
    (∃ (w : Who) (n : Fin 256) (v : Nat) (s : State), s.Open w .engineer .FRAME_STEP_n ∧ s.notActingFor w = false ∧
      s.running = false ∧ v < 4294967296) :=
  ⟨⟨noTick, tickReady, by first | decide | rfl | simp +decide [State.isCandidate], by first | decide | rfl | simp +decide [State.isCandidate], by first | decide | rfl | simp +decide [State.isCandidate]⟩,
   ⟨noTick, ready, by first | decide | rfl | simp +decide [State.isCandidate]⟩,
   ⟨8, 5, 6, heldEvent, by first | decide | rfl | simp +decide [State.isCandidate], by first | decide | rfl | simp +decide [State.isCandidate], by first | decide | rfl | simp +decide [State.isCandidate], by first | decide | rfl | simp +decide [State.isCandidate], by first | decide | rfl | simp +decide [State.isCandidate], by first | decide | rfl | simp +decide [State.isCandidate]⟩,
   ⟨8, 5, reportDue, by first | decide | rfl | simp +decide [State.isCandidate], by first | decide | rfl | simp +decide [State.isCandidate], by first | decide | rfl | simp +decide [State.isCandidate], by first | decide | rfl | simp +decide [State.isCandidate], by first | decide | rfl | simp +decide [State.isCandidate], by first | decide | rfl | simp +decide [State.isCandidate], by first | decide | rfl | simp +decide [State.isCandidate], by first | decide | rfl | simp +decide [State.isCandidate]⟩,
   ⟨8, 5, (reportDue.put .DATA_DIR 0 0xFF), by first | decide | rfl | simp +decide [State.isCandidate], by first | decide | rfl | simp +decide [State.isCandidate], by first | decide | rfl | simp +decide [State.isCandidate], by first | decide | rfl | simp +decide [State.isCandidate], by first | decide | rfl | simp +decide [State.isCandidate], by first | decide | rfl | simp +decide [State.isCandidate], by first | decide | rfl | simp +decide [State.isCandidate]⟩,
   ⟨8, ready, by first | decide | rfl | simp +decide [State.isCandidate], by first | decide | rfl | simp +decide [State.isCandidate]⟩,
   ⟨host, 8, (ready.put .EV_PENDING 8 1), ⟨by decide, by decide, by decide⟩, by first | decide | rfl | simp +decide [State.isCandidate]⟩,
   ⟨host, 8, raisedNow, ⟨by decide, by decide, by decide⟩, by first | decide | rfl | simp +decide [State.isCandidate], by first | decide | rfl | simp +decide [State.isCandidate]⟩,
   ⟨host, (List.replicate 32 1), ready, ⟨by decide, by decide, by decide⟩, by first | decide | rfl | simp +decide [State.isCandidate]⟩,
   ⟨host, 1, ready, ⟨by decide, by decide, by decide⟩, by first | decide | rfl | simp +decide [State.isCandidate], by first | decide | rfl | simp +decide [State.isCandidate], by first | decide | rfl | simp +decide [State.isCandidate]⟩,
   ⟨host, 200, 4294967295, ready, ⟨by decide, by decide, by decide⟩, by first | decide | rfl | simp +decide [State.isCandidate], by first | decide | rfl | simp +decide [State.isCandidate], by first | decide | rfl | simp +decide [State.isCandidate]⟩⟩

/-- States and operands that meet the hypotheses of each clause of CommitCommands. -/
theorem test_witness_commit_commands :
    (∃ (w : Who) (g : Nat) (d : Nat) (s : State), s.Open w .engineer .COMMIT_CANCEL ∧ s.engine.armed = some (g, d)) ∧
    (∃ (w : Who) (d : Nat) (s : State), s.Open w .engineer .COMMIT_NOW ∧ s.engine.armed = none ∧ d = s.stagedDigest ∧
      s.running = false) ∧
    (∃ (w : Who) (d : Nat) (v : Int) (s : State), s.Open w .engineer .COMMIT_NOW ∧ s.engine.armed = none ∧ d =
      s.stagedDigest ∧ s.running = false ∧ s.engine.staged = [(⟨.LOOP_SETTLE, 2⟩, .num v)] ∧ s.get .STAGED_DEFAULTS 0
      = 0 ∧ 64 ≤ v ∧ v ≤ 65535) ∧
    (∃ (w : Who) (d : Nat) (s : State), s.Open w .engineer .COMMIT_NOW ∧ s.engine.armed = none ∧ d = s.stagedDigest ∧
      s.running = true) ∧
    (∃ (g : Nat) (d : Nat) (s : State), s.engine.armed = some (g, d) ∧ s.running = true ∧ (g : Int) - 1 ≤ s.tickKey ∧
      s.frame.commitRan = true) ∧
    (∃ (w : Who) (s : State), s.Open w .engineer .STAGE_DISCARD ∧ s.engine.armed = none) ∧
    (∃ (w : Who) (s : State), s.Open w .engineer .RESTORE_DEFAULTS ∧ s.engine.armed = none) ∧
    (∃ (w : Who) (s : State), s.Open w .engineer .CFG_SAVE) :=
  ⟨⟨host, 100, 7, armed0, ⟨by decide, by decide, by decide⟩, by first | decide | rfl | simp +decide [State.isCandidate]⟩,
   ⟨host, ready.stagedDigest, ready, ⟨by decide, by decide, by decide⟩, by first | decide | rfl | simp +decide [State.isCandidate], by first | decide | rfl | simp +decide [State.isCandidate], by first | decide | rfl | simp +decide [State.isCandidate]⟩,
   ⟨host, staged1.stagedDigest, 70, staged1, ⟨by decide, by decide, by decide⟩, by first | decide | rfl | simp +decide [State.isCandidate], by first | decide | rfl | simp +decide [State.isCandidate], by first | decide | rfl | simp +decide [State.isCandidate], by first | decide | rfl | simp +decide [State.isCandidate], by first | decide | rfl | simp +decide [State.isCandidate], by first | decide | rfl | simp +decide [State.isCandidate], by first | decide | rfl | simp +decide [State.isCandidate]⟩,
   ⟨host, run0.stagedDigest, run0, ⟨by decide, by decide, by decide⟩, by first | decide | rfl | simp +decide [State.isCandidate], by first | decide | rfl | simp +decide [State.isCandidate], by first | decide | rfl | simp +decide [State.isCandidate]⟩,
   ⟨1, 7, ({ run0 with engine := { armed := some (1, 7) }, frame := { commitRan := true, next := 1 } }), by first | decide | rfl | simp +decide [State.isCandidate], by first | decide | rfl | simp +decide [State.isCandidate], by first | decide | rfl | simp +decide [State.isCandidate], by first | decide | rfl | simp +decide [State.isCandidate]⟩,
   ⟨host, (ready.put .STAGED_DEFAULTS 0 1), ⟨by decide, by decide, by decide⟩, by first | decide | rfl | simp +decide [State.isCandidate]⟩,
   ⟨host, ready, ⟨by decide, by decide, by decide⟩, by first | decide | rfl | simp +decide [State.isCandidate]⟩,
   ⟨host, ready, ⟨by decide, by decide, by decide⟩⟩⟩

/-- States and operands that meet the hypotheses of each clause of AcquisitionCommands. -/
theorem test_witness_acquisition_commands :
    (∃ (w : Who) (s : State), s.Open w .operator .ACQ_START ∧ s.judgeStart.1 = none ∧ s.get .ST_STATE 0 = 0) ∧
    (∃ (w : Who) (s : State), s.Open w .operator .ACQ_START ∧ s.judgeStart.1 = none ∧ s.get .ST_STATE 0 ≠ 0) ∧
    (∃ (w : Who) (code : Nat) (s : State), s.Open w .operator .ACQ_START ∧ s.judgeStart.1 = some code) ∧
    (∃ (s : State), s.get .AUTO_START 0 = 1 ∧ s.get .START_STATE 0 = 6 ∧ s.boot.autoDone = false ∧ s.get .VAT_STATE 0
      = 2 ∧ s.judgeStart.1 = none ∧ s.get .ST_STATE 0 = 0) ∧
    (∃ (s : State), (s.boot.autoDone = true ∨ s.get .AUTO_START 0 ≠ 1)) ∧
    (∃ (w : Who) (s : State), s.Open w .operator .ACQ_STOP ∧ s.running = true ∧ s.engine.armed = none ∧
      s.frame.immediate = false ∧ s.get .ST_STATE 0 = 0) ∧
    (∃ (w : Who) (s : State), s.Open w .operator .ACQ_STOP ∧ s.running = false) :=
  ⟨⟨host, startable, ⟨by decide, by decide, by decide⟩, by first | decide | rfl | simp +decide [State.isCandidate], by first | decide | rfl | simp +decide [State.isCandidate]⟩,
   ⟨host, (startable.put .ST_STATE 0 1), ⟨by decide, by decide, by decide⟩, by first | decide | rfl | simp +decide [State.isCandidate], by first | decide | rfl | simp +decide [State.isCandidate]⟩,
   ⟨host, 1, run0, ⟨by decide, by decide, by decide⟩, by first | decide | rfl | simp +decide [State.isCandidate]⟩,
   ⟨((startable.put .AUTO_START 0 1).put .VAT_STATE 0 2), by first | decide | rfl | simp +decide [State.isCandidate], by first | decide | rfl | simp +decide [State.isCandidate], by first | decide | rfl | simp +decide [State.isCandidate], by first | decide | rfl | simp +decide [State.isCandidate], by first | decide | rfl | simp +decide [State.isCandidate], by first | decide | rfl | simp +decide [State.isCandidate]⟩,
   ⟨startable, by first | decide | rfl | simp +decide [State.isCandidate]⟩,
   ⟨host, run0, ⟨by decide, by decide, by decide⟩, by first | decide | rfl | simp +decide [State.isCandidate], by first | decide | rfl | simp +decide [State.isCandidate], by first | decide | rfl | simp +decide [State.isCandidate], by first | decide | rfl | simp +decide [State.isCandidate]⟩,
   ⟨host, ready, ⟨by decide, by decide, by decide⟩, by first | decide | rfl | simp +decide [State.isCandidate]⟩⟩

/-- States and operands that meet the hypotheses of each clause of QueueCommands. -/
theorem test_witness_queue_commands :
    (∃ (q : Fin 16) (n : Nat) (xs : List Slot) (p : Packet) (g : Segment) (s : State), (s.queue q).drain = 0 ∧ s.get
      .CAVE_STATE 0 = 2 ∧ 0 < s.cave.total ∧ s.fenced 5 q = false ∧ (s.queue q).reading = none ∧ (s.queue
      q).wholeHead = some n ∧ (s.queue q).incoming = none ∧ xs = (if (s.queue q).framing = 0 then ((s.queue
      q).slots.take n).drop 1 else (s.queue q).slots.take n) ∧ xs.all (fun x => !x.bad) = true ∧ p = packetOf
      (wordsBytes (xs.filterMap (fun x => x.word))) ∧ s.cave.ring = [g] ∧ g.state = .writing ∧ g.bytes + p.length ≤
      segmentBytes ∧ s.running = true) ∧
    (∃ (q : Fin 16) (n : Nat) (xs : List Slot) (p : Packet) (s : State), (s.queue q).drain = 0 ∧ s.get .CAVE_STATE 0
      = 2 ∧ 0 < s.cave.total ∧ s.fenced 5 q = false ∧ (s.queue q).reading = none ∧ (s.queue q).wholeHead = some n ∧
      (s.queue q).incoming = none ∧ xs = (if (s.queue q).framing = 0 then ((s.queue q).slots.take n).drop 1 else
      (s.queue q).slots.take n) ∧ xs.any (fun x => x.bad) = true ∧ p = packetOf (wordsBytes (xs.filterMap (fun x =>
      x.word))) ∧ p.isStream = true ∧ s.running = true) ∧
    (∃ (q : Fin 16) (s : State), ((s.queue q).drain ≠ 0 ∨ s.get .CAVE_STATE 0 ≠ 2 ∨ s.fenced 5 q = true)) ∧
    (∃ (w : Who) (q : Fin 16) (room : Nat) (n : Nat) (xs : List Slot) (s : State), s.served = true ∧
      Obj.QUEUE_READ.info.role.rank ≤ w.role.rank ∧ s.barred w .QUEUE_READ false = none ∧ s.get .ST_STATE 0 ≠ 1 ∧
      (s.queue q).drain = 2 ∧ s.fenced 5 q = false ∧ (s.queue q).reading = none ∧ (s.queue q).wholeHead = some n ∧
      (s.queue q).incoming = none ∧ xs = (if (s.queue q).framing = 0 then ((s.queue q).slots.take n).drop 1 else
      (s.queue q).slots.take n) ∧ xs.all (fun x => !x.bad) = true ∧ 4 * (if (s.queue q).framing = 0 then n - 1 else
      n) ≤ room) ∧
    (∃ (w : Who) (q : Fin 16) (room : Nat) (n : Nat) (s : State), s.served = true ∧ Obj.QUEUE_READ.info.role.rank ≤
      w.role.rank ∧ s.barred w .QUEUE_READ false = none ∧ s.get .ST_STATE 0 ≠ 1 ∧ (s.queue q).drain = 2 ∧ s.headBytes
      q = some n ∧ room < n) ∧
    (∃ (w : Who) (q : Fin 16) (room : Nat) (s : State), s.served = true ∧ Obj.QUEUE_READ.info.role.rank ≤ w.role.rank
      ∧ s.barred w .QUEUE_READ false = none ∧ s.get .ST_STATE 0 ≠ 1 ∧ (s.queue q).drain = 2 ∧ s.headBytes q = none ∧
      s.fenced 5 q = false ∧ s.get .QUEUE_READ_WAIT q ≠ 0) ∧
    (∃ (w : Who) (q : Fin 16) (room : Nat) (s : State), s.served = true ∧ Obj.QUEUE_READ.info.role.rank ≤ w.role.rank
      ∧ s.barred w .QUEUE_READ false = none ∧ s.get .ST_STATE 0 ≠ 1 ∧ (s.queue q).drain = 2 ∧ s.headBytes q = none ∧
      (s.fenced 5 q = true ∨ s.get .QUEUE_READ_WAIT q = 0)) ∧
    (∃ (w : Who) (q : Fin 16) (room : Nat) (s : State), s.served = true ∧ Obj.QUEUE_READ.info.role.rank ≤ w.role.rank
      ∧ s.barred w .QUEUE_READ false = none ∧ (s.queue q).drain ≠ 2) ∧
    (∃ (q : Fin 16) (room : Nat) (a : Nat) (s : State), (s.queue q).waiting = [(a, room)] ∧ a < s.time.cycle ∧
      s.headBytes q = none ∧ (s.queue q).drain = 2 ∧ s.engine.sessions = []) ∧
    (∃ (q : Fin 16) (room : Nat) (a : Nat) (s : State), (s.queue q).waiting = [(a, room)] ∧ s.time.cycle ≤ a ∧
      s.headBytes q = none ∧ s.fenced 5 q = false ∧ s.engine.sessions = []) ∧
    (∃ (q : Fin 16) (room : Nat) (a : Nat) (n : Nat) (xs : List Slot) (s : State), (s.queue q).waiting = [(a, room)]
      ∧ (s.queue q).drain = 2 ∧ s.fenced 5 q = false ∧ (s.queue q).reading = none ∧ (s.queue q).wholeHead = some n ∧
      (s.queue q).incoming = none ∧ xs = (if (s.queue q).framing = 0 then ((s.queue q).slots.take n).drop 1 else
      (s.queue q).slots.take n) ∧ xs.all (fun x => !x.bad) = true ∧ 4 * (if (s.queue q).framing = 0 then n - 1 else
      n) ≤ room ∧ s.engine.sessions = []) ∧
    (∃ (w : Who) (q : Fin 16) (s : State), s.Open w .engineer .QUEUE_CONTROL) ∧
    (∃ (w : Who) (q : Fin 16) (k : Nat) (s : State), s.Open w .engineer .QUEUE_CONTROL ∧ (s.queue q).drain ≠ 0 ∧
      (s.queue q).reading = some k ∧ (s.queue q).framing = 0 ∧ (s.queue q).incoming = none) ∧
    (∃ (w : Who) (q : Fin 16) (j : Nat) (s : State), s.Open w .engineer .QUEUE_CONTROL ∧ (s.queue q).drain ≠ 0 ∧
      (s.queue q).reading = some 0 ∧ (s.queue q).framing ≠ 0 ∧ (s.queue q).slots.findIdx? (fun x => x.mark) = some j
      ∧ (s.queue q).incoming = none) ∧
    (∃ (w : Who) (q : Fin 16) (s : State), s.Open w .engineer .QUEUE_CONTROL ∧ (s.queue q).drain ≠ 0 ∧ (s.queue
      q).reading = none) ∧
    (∃ (w : Who) (q : Fin 16) (s : State), s.Open w .engineer .QUEUE_CONTROL ∧ (s.queue q).drain = 0) ∧
    (∃ (w : Who) (q : Fin 16) (seq : Nat) (now : Nat) (s : State), s.Open w .operator .STREAM_ACK ∧ seq < 4294967296
      ∧ s.get .ACKED_SEQ q = now ∧ now < 4294967296 ∧ 0 < (seq + 4294967296 - now) % 4294967296 ∧ (seq + 4294967296 -
      now) % 4294967296 < 2147483648 ∧ (seq + 4294967296 - now) % 4294967296 ≤ (Sparse.get (fun _ => 4294967295)
      s.cave.lastSeq q.val + 4294967296 - now) % 4294967296 ∧ (Sparse.get (fun _ => 4294967295) s.cave.lastSeq q.val
      + 4294967296 - now) % 4294967296 < 2147483648) ∧
    (∃ (w : Who) (q : Fin 16) (seq : Nat) (now : Nat) (s : State), s.Open w .operator .STREAM_ACK ∧ seq < 4294967296
      ∧ s.get .ACKED_SEQ q = now ∧ now < 4294967296 ∧ (2147483648 ≤ (seq + 4294967296 - now) % 4294967296 ∨ seq =
      now)) ∧
    (∃ (w : Who) (q : Fin 16) (seq : Nat) (now : Nat) (s : State), s.Open w .operator .STREAM_ACK ∧ seq < 4294967296
      ∧ s.get .ACKED_SEQ q = now ∧ now < 4294967296 ∧ 0 < (seq + 4294967296 - now) % 4294967296 ∧ (seq + 4294967296 -
      now) % 4294967296 < 2147483648 ∧ ((Sparse.get (fun _ => 4294967295) s.cave.lastSeq q.val + 4294967296 - now) %
      4294967296 < (seq + 4294967296 - now) % 4294967296 ∨ 2147483648 ≤ (Sparse.get (fun _ => 4294967295)
      s.cave.lastSeq q.val + 4294967296 - now) % 4294967296)) ∧
    (∃ (d : Nat) (s : State), s.get .DATA_DIR 0 = d ∧ d < 2 ∧ s.acting = true ∧ s.caveServes = true ∧ (s.link
      d).dataWaits = false ∧ s.portFenced d = false ∧ s.ring.resends = [] ∧ s.ringPackets.find? (fun x =>
      !x.2.2.sent) = none ∧ s.get .REPLAY_STATE 0 ≠ 1 ∧ s.running = true) ∧
    (∃ (d : Nat) (g : Segment) (k : Nat) (x : Stored) (s : State), s.get .DATA_DIR 0 = d ∧ d < 2 ∧ s.acting = true ∧
      s.caveServes = true ∧ (s.link d).dataWaits = false ∧ s.portFenced d = false ∧ s.ring.resends = [] ∧
      s.ringPackets.find? (fun x => !x.2.2.sent) = some (g, k, x) ∧ s.get .ST_STATE 0 ≠ 1 ∧ x.damage = .none ∧
      x.pkt.checks = true ∧ s.get .LINK_STATE d = 1 ∧ s.placed = true) ∧
    (∃ (d : Nat) (r : Resend) (s : State), s.get .DATA_DIR 0 = d ∧ d < 2 ∧ s.acting = true ∧ s.caveServes = true ∧
      (s.link d).dataWaits = false ∧ s.portFenced d = false ∧ s.ring.resends = [r] ∧ s.gone r = [] ∧ (s.queuePackets
      r.queue).find? (fun x => r.seqs.any (fun q => x.standsFor q)) = none ∧ s.running = true) ∧
    (∃ (d : Nat) (r : Resend) (a : Nat) (l : List Nat) (s : State), s.get .DATA_DIR 0 = d ∧ d < 2 ∧ s.acting = true ∧
      s.caveServes = true ∧ (s.link d).dataWaits = false ∧ s.portFenced d = false ∧ s.ring.resends = [r] ∧ r.begun =
      false ∧ s.gone r = a :: l ∧ (s.queuePackets r.queue).find? (fun x => r.seqs.any (fun q => x.standsFor q)) =
      none ∧ s.running = true) ∧
    (∃ (d : Nat) (r : Resend) (rs : List Resend) (x : RingPacket) (s : State), s.get .DATA_DIR 0 = d ∧ d < 2 ∧
      s.acting = true ∧ s.caveServes = true ∧ (s.link d).dataWaits = false ∧ s.portFenced d = false ∧ s.ring.resends
      = r :: rs ∧ s.gone r = [] ∧ (s.queuePackets r.queue).find? (fun x => r.seqs.any (fun q => x.standsFor q)) =
      some x ∧ x.item.damage = .none ∧ x.item.pkt.checks = true ∧ s.get .ST_STATE 0 ≠ 1 ∧ s.get .LINK_STATE d = 1 ∧
      s.placed = true ∧ s.running = true) :=
  ⟨⟨3, 7, slots4, pkt1, ({ id := 0, state := .writing }), ({ writing.put .FRAME_STATE 0 1 with cave := { total := 8, ring := [{ id := 0, state := .writing }] } }), by first | decide | rfl | simp +decide [State.isCandidate], by first | decide | rfl | simp +decide [State.isCandidate], by first | decide | rfl | simp +decide [State.isCandidate], by first | decide | rfl | simp +decide [State.isCandidate], by first | decide | rfl | simp +decide [State.isCandidate], by first | decide | rfl | simp +decide [State.isCandidate], by first | decide | rfl | simp +decide [State.isCandidate], by first | decide | rfl | simp +decide [State.isCandidate], by first | decide | rfl | simp +decide [State.isCandidate], by first | decide | rfl | simp +decide [State.isCandidate], by first | decide | rfl | simp +decide [State.isCandidate], by first | decide | rfl | simp +decide [State.isCandidate], by first | decide | rfl | simp +decide [State.isCandidate], by first | decide | rfl | simp +decide [State.isCandidate]⟩,
   ⟨3, 7, slots4b, pkt1, (writingBad.put .FRAME_STATE 0 1), by first | decide | rfl | simp +decide [State.isCandidate], by first | decide | rfl | simp +decide [State.isCandidate], by first | decide | rfl | simp +decide [State.isCandidate], by first | decide | rfl | simp +decide [State.isCandidate], by first | decide | rfl | simp +decide [State.isCandidate], by first | decide | rfl | simp +decide [State.isCandidate], by first | decide | rfl | simp +decide [State.isCandidate], by first | decide | rfl | simp +decide [State.isCandidate], by first | decide | rfl | simp +decide [State.isCandidate], by first | decide | rfl | simp +decide [State.isCandidate], by first | decide | rfl | simp +decide [State.isCandidate], by first | decide | rfl | simp +decide [State.isCandidate]⟩,
   ⟨3, ready, by first | decide | rfl | simp +decide [State.isCandidate]⟩,
   ⟨host, 3, 200, 7, slots4, reading, by first | decide | rfl | simp +decide [State.isCandidate], by first | decide | rfl | simp +decide [State.isCandidate], by first | decide | rfl | simp +decide [State.isCandidate], by first | decide | rfl | simp +decide [State.isCandidate], by first | decide | rfl | simp +decide [State.isCandidate], by first | decide | rfl | simp +decide [State.isCandidate], by first | decide | rfl | simp +decide [State.isCandidate], by first | decide | rfl | simp +decide [State.isCandidate], by first | decide | rfl | simp +decide [State.isCandidate], by first | decide | rfl | simp +decide [State.isCandidate], by first | decide | rfl | simp +decide [State.isCandidate], by first | decide | rfl | simp +decide [State.isCandidate]⟩,
   ⟨host, 3, 8, 24, reading, by first | decide | rfl | simp +decide [State.isCandidate], by first | decide | rfl | simp +decide [State.isCandidate], by first | decide | rfl | simp +decide [State.isCandidate], by first | decide | rfl | simp +decide [State.isCandidate], by first | decide | rfl | simp +decide [State.isCandidate], by first | decide | rfl | simp +decide [State.isCandidate], by first | decide | rfl | simp +decide [State.isCandidate]⟩,
   ⟨host, 3, 8, ((ready.setQueue 3 { drain := 2 }).put .QUEUE_READ_WAIT 3 5), by first | decide | rfl | simp +decide [State.isCandidate], by first | decide | rfl | simp +decide [State.isCandidate], by first | decide | rfl | simp +decide [State.isCandidate], by first | decide | rfl | simp +decide [State.isCandidate], by first | decide | rfl | simp +decide [State.isCandidate], by first | decide | rfl | simp +decide [State.isCandidate], by first | decide | rfl | simp +decide [State.isCandidate], by first | decide | rfl | simp +decide [State.isCandidate]⟩,
   ⟨host, 3, 8, ((ready.setQueue 3 { drain := 2 }).put .QUEUE_READ_WAIT 3 0), by first | decide | rfl | simp +decide [State.isCandidate], by first | decide | rfl | simp +decide [State.isCandidate], by first | decide | rfl | simp +decide [State.isCandidate], by first | decide | rfl | simp +decide [State.isCandidate], by first | decide | rfl | simp +decide [State.isCandidate], by first | decide | rfl | simp +decide [State.isCandidate], by first | decide | rfl | simp +decide [State.isCandidate]⟩,
   ⟨host, 3, 200, writing, by first | decide | rfl | simp +decide [State.isCandidate], by first | decide | rfl | simp +decide [State.isCandidate], by first | decide | rfl | simp +decide [State.isCandidate], by first | decide | rfl | simp +decide [State.isCandidate]⟩,
   ⟨3, 100, 0, (late.setQueue 3 { waiting := [(0, 100)], drain := 2 }), by first | decide | rfl | simp +decide [State.isCandidate], by first | decide | rfl | simp +decide [State.isCandidate], by first | decide | rfl | simp +decide [State.isCandidate], by first | decide | rfl | simp +decide [State.isCandidate], by first | decide | rfl | simp +decide [State.isCandidate]⟩,
   ⟨3, 100, (10 ^ 12), (ready.setQueue 3 { waiting := [(10 ^ 12, 100)], drain := 2 }), by first | decide | rfl | simp +decide [State.isCandidate], by first | decide | rfl | simp +decide [State.isCandidate], by first | decide | rfl | simp +decide [State.isCandidate], by first | decide | rfl | simp +decide [State.isCandidate], by first | decide | rfl | simp +decide [State.isCandidate]⟩,
   ⟨3, 200, (10 ^ 12), 7, slots4, (reading.setQueue 3 { reading.queue 3 with waiting := [(10 ^ 12, 200)] }), by first | decide | rfl | simp +decide [State.isCandidate], by first | decide | rfl | simp +decide [State.isCandidate], by first | decide | rfl | simp +decide [State.isCandidate], by first | decide | rfl | simp +decide [State.isCandidate], by first | decide | rfl | simp +decide [State.isCandidate], by first | decide | rfl | simp +decide [State.isCandidate], by first | decide | rfl | simp +decide [State.isCandidate], by first | decide | rfl | simp +decide [State.isCandidate], by first | decide | rfl | simp +decide [State.isCandidate], by first | decide | rfl | simp +decide [State.isCandidate]⟩,
   ⟨host, 3, reading, ⟨by decide, by decide, by decide⟩⟩,
   ⟨host, 3, 2, ((reading.setQueue 3 { reading.queue 3 with reading := some 2 })), ⟨by decide, by decide, by decide⟩, by first | decide | rfl | simp +decide [State.isCandidate], by first | decide | rfl | simp +decide [State.isCandidate], by first | decide | rfl | simp +decide [State.isCandidate], by first | decide | rfl | simp +decide [State.isCandidate]⟩,
   ⟨host, 3, 1, (ready.setQueue 3 { drain := 2, framing := 1, reading := some 0, slots := [{ word := some 0 }, { word := some 1, mark := true }, { word := some 2 }] }), ⟨by decide, by decide, by decide⟩, by first | decide | rfl | simp +decide [State.isCandidate], by first | decide | rfl | simp +decide [State.isCandidate], by first | decide | rfl | simp +decide [State.isCandidate], by first | decide | rfl | simp +decide [State.isCandidate], by first | decide | rfl | simp +decide [State.isCandidate]⟩,
   ⟨host, 3, reading, ⟨by decide, by decide, by decide⟩, by first | decide | rfl | simp +decide [State.isCandidate], by first | decide | rfl | simp +decide [State.isCandidate]⟩,
   ⟨host, 3, writing, ⟨by decide, by decide, by decide⟩, by first | decide | rfl | simp +decide [State.isCandidate]⟩,
   ⟨host, 3, 5, 4294967295, stored, ⟨by decide, by decide, by decide⟩, by first | decide | rfl | simp +decide [State.isCandidate], by first | decide | rfl | simp +decide [State.isCandidate], by first | decide | rfl | simp +decide [State.isCandidate], by first | decide | rfl | simp +decide [State.isCandidate], by first | decide | rfl | simp +decide [State.isCandidate], by first | decide | rfl | simp +decide [State.isCandidate], by first | decide | rfl | simp +decide [State.isCandidate]⟩,
   ⟨host, 3, 4294967295, 4294967295, stored, ⟨by decide, by decide, by decide⟩, by first | decide | rfl | simp +decide [State.isCandidate], by first | decide | rfl | simp +decide [State.isCandidate], by first | decide | rfl | simp +decide [State.isCandidate], by first | decide | rfl | simp +decide [State.isCandidate]⟩,
   ⟨host, 3, 9, 4294967295, stored, ⟨by decide, by decide, by decide⟩, by first | decide | rfl | simp +decide [State.isCandidate], by first | decide | rfl | simp +decide [State.isCandidate], by first | decide | rfl | simp +decide [State.isCandidate], by first | decide | rfl | simp +decide [State.isCandidate], by first | decide | rfl | simp +decide [State.isCandidate], by first | decide | rfl | simp +decide [State.isCandidate]⟩,
   ⟨0, (sending.put .FRAME_STATE 0 1), by first | decide | rfl | simp +decide [State.isCandidate], by first | decide | rfl | simp +decide [State.isCandidate], by first | decide | rfl | simp +decide [State.isCandidate], by first | decide | rfl | simp +decide [State.isCandidate], by first | decide | rfl | simp +decide [State.isCandidate], by first | decide | rfl | simp +decide [State.isCandidate], by first | decide | rfl | simp +decide [State.isCandidate], by first | decide | rfl | simp +decide [State.isCandidate], by first | decide | rfl | simp +decide [State.isCandidate], by first | decide | rfl | simp +decide [State.isCandidate]⟩,
   ⟨0, seg3, 0, stored1, ((sendingOne.put .LINK_STATE 0 1).put .RING_POSITION 0 3), by first | decide | rfl | simp +decide [State.isCandidate], by first | decide | rfl | simp +decide [State.isCandidate], by first | decide | rfl | simp +decide [State.isCandidate], by first | decide | rfl | simp +decide [State.isCandidate], by first | decide | rfl | simp +decide [State.isCandidate], by first | decide | rfl | simp +decide [State.isCandidate], by first | decide | rfl | simp +decide [State.isCandidate], by first | decide | rfl | simp +decide [State.isCandidate], by first | decide | rfl | simp +decide [State.isCandidate], by first | decide | rfl | simp +decide [State.isCandidate], by first | decide | rfl | simp +decide [State.isCandidate], by first | decide | rfl | simp +decide [State.isCandidate], by first | decide | rfl | simp +decide [State.isCandidate]⟩,
   ⟨0, resend0, ({ sending.put .FRAME_STATE 0 1 with ring := { resends := [resend0] } }), by first | decide | rfl | simp +decide [State.isCandidate], by first | decide | rfl | simp +decide [State.isCandidate], by first | decide | rfl | simp +decide [State.isCandidate], by first | decide | rfl | simp +decide [State.isCandidate], by first | decide | rfl | simp +decide [State.isCandidate], by first | decide | rfl | simp +decide [State.isCandidate], by first | decide | rfl | simp +decide [State.isCandidate], by first | decide | rfl | simp +decide [State.isCandidate], by first | decide | rfl | simp +decide [State.isCandidate], by first | decide | rfl | simp +decide [State.isCandidate]⟩,
   ⟨0, resend1, 1, ([]), ({ sending.put .FRAME_STATE 0 1 with ring := { resends := [resend1] }, cave := { sending.cave with lastSeq := [(3, 5)] } }), by first | decide | rfl | simp +decide [State.isCandidate], by first | decide | rfl | simp +decide [State.isCandidate], by first | decide | rfl | simp +decide [State.isCandidate], by first | decide | rfl | simp +decide [State.isCandidate], by first | decide | rfl | simp +decide [State.isCandidate], by first | decide | rfl | simp +decide [State.isCandidate], by first | decide | rfl | simp +decide [State.isCandidate], by first | decide | rfl | simp +decide [State.isCandidate], by first | decide | rfl | simp +decide [State.isCandidate], by first | decide | rfl | simp +decide [State.isCandidate], by first | decide | rfl | simp +decide [State.isCandidate]⟩,
   ⟨0, resendOne, ([]), (⟨seg3, 0, stored1, 0⟩), resending, by first | decide | rfl | simp +decide [State.isCandidate], by first | decide | rfl | simp +decide [State.isCandidate], by first | decide | rfl | simp +decide [State.isCandidate], by first | decide | rfl | simp +decide [State.isCandidate], by first | decide | rfl | simp +decide [State.isCandidate], by first | decide | rfl | simp +decide [State.isCandidate], by first | decide | rfl | simp +decide [State.isCandidate], by first | decide | rfl | simp +decide [State.isCandidate], by first | decide | rfl | simp +decide [State.isCandidate], by first | decide | rfl | simp +decide [State.isCandidate], by first | decide | rfl | simp +decide [State.isCandidate], by first | decide | rfl | simp +decide [State.isCandidate], by first | decide | rfl | simp +decide [State.isCandidate], by first | decide | rfl | simp +decide [State.isCandidate], by first | decide | rfl | simp +decide [State.isCandidate]⟩⟩

/-- States and operands that meet the hypotheses of each clause of CaveCommands. -/
theorem test_witness_cave_commands :
    (∃ (w : Who) (s : State), s.Open w .service .CAVE_DISCARD ∧ s.running = true) ∧
    (∃ (w : Who) (g : Segment) (x : Stored) (s : State), s.Open w .service .CAVE_DISCARD ∧ s.running = true ∧
      s.cave.ring = [g] ∧ g.pkts = [x] ∧ x.pkt.isStream = true ∧ s.acked x.pkt = false) ∧
    (∃ (c : Nat) (b : Nat) (hurt : List (Nat × Nat × Damage)) (s : State), s.get .CAVE_STATE 0 = 2 ∧ s.cave.scrubAt +
      hourCycles (s.get .SCRUB_HOURS 0).toNat ≤ s.time.cycle ∧ 0 < c ∧ 0 < b) ∧
    (∃ (c : Nat) (b : Nat) (hurt : List (Nat × Nat × Damage)) (s : State), (s.get .CAVE_STATE 0 ≠ 2 ∨ s.time.cycle <
      s.cave.scrubAt + hourCycles (s.get .SCRUB_HOURS 0).toNat)) ∧
    (∃ (w : Who) (n : Fin 16) (m : Nat) (cur : Int) (s : State), s.Open w .operator .MARK_SET ∧ s.curTick = some cur
      ∧ (m : Int) ≤ cur ∧ m ≠ 0xFFFFFFFFFFFFFFFF ∧ s.get .OLDEST_INDEX 0 ≤ m) ∧
    (∃ (w : Who) (n : Fin 16) (m : Nat) (cur : Int) (s : State), s.Open w .operator .MARK_SET ∧ s.curTick = some cur
      ∧ cur < (m : Int) ∧ m ≠ 0xFFFFFFFFFFFFFFFF) ∧
    (∃ (w : Who) (n : Fin 16) (s : State), s.Open w .operator .MARK_CLEAR) ∧
    (∃ (w : Who) (cur : Int) (s : State), s.Open w .operator .REPLAY_START ∧ s.get .REPLAY_MARK 0 = 0xFF ∧ s.curTick
      = some cur ∧ s.get .REPLAY_STATE 0 ≠ 1 ∧ s.get .REPLAY_FROM 0 ≤ cur ∧ s.get .OLDEST_INDEX 0 ≤ s.get
      .REPLAY_FROM 0 ∧ s.replayDestOk = true) ∧
    (∃ (w : Who) (s : State), s.Open w .operator .REPLAY_STOP ∧ s.get .REPLAY_STATE 0 = 1) ∧
    (∃ (s : State), s.get .REPLAY_STATE 0 = 1 ∧ s.replayLeft = [] ∧ s.running = false) :=
  ⟨⟨host, run0, ⟨by decide, by decide, by decide⟩, by first | decide | rfl | simp +decide [State.isCandidate]⟩,
   ⟨host, seg3, stored1, (stored.put .FRAME_STATE 0 1), ⟨by decide, by decide, by decide⟩, by first | decide | rfl | simp +decide [State.isCandidate], by first | decide | rfl | simp +decide [State.isCandidate], by first | decide | rfl | simp +decide [State.isCandidate], by first | decide | rfl | simp +decide [State.isCandidate], by first | decide | rfl | simp +decide [State.isCandidate]⟩,
   ⟨2, 1, ([]), ({ stored.put .CAVE_STATE 0 2 with time := { stored.time with cycle := 10 ^ 15 } }), by first | decide | rfl | simp +decide [State.isCandidate], by first | decide | rfl | simp +decide [State.isCandidate], by first | decide | rfl | simp +decide [State.isCandidate], by first | decide | rfl | simp +decide [State.isCandidate]⟩,
   ⟨2, 1, ([]), (ready.put .CAVE_STATE 0 3), by first | decide | rfl | simp +decide [State.isCandidate]⟩,
   ⟨host, 5, 2, 9, ({ run0 with frame := { next := 10 } }), ⟨by decide, by decide, by decide⟩, by first | decide | rfl | simp +decide [State.isCandidate], by first | decide | rfl | simp +decide [State.isCandidate], by first | decide | rfl | simp +decide [State.isCandidate], by first | decide | rfl | simp +decide [State.isCandidate]⟩,
   ⟨host, 5, 20, 9, ({ run0 with frame := { next := 10 } }), ⟨by decide, by decide, by decide⟩, by first | decide | rfl | simp +decide [State.isCandidate], by first | decide | rfl | simp +decide [State.isCandidate], by first | decide | rfl | simp +decide [State.isCandidate]⟩,
   ⟨host, 5, (ready.put .MARK_STATE 5 1), ⟨by decide, by decide, by decide⟩⟩,
   ⟨host, 9, (({ run0 with frame := { next := 10 } } : State).put .REPLAY_MARK 0 255), ⟨by decide, by decide, by decide⟩, by first | decide | rfl | simp +decide [State.isCandidate], by first | decide | rfl | simp +decide [State.isCandidate], by first | decide | rfl | simp +decide [State.isCandidate], by first | decide | rfl | simp +decide [State.isCandidate], by first | decide | rfl | simp +decide [State.isCandidate], by first | decide | rfl | simp +decide [State.isCandidate]⟩,
   ⟨host, (ready.put .REPLAY_STATE 0 1), ⟨by decide, by decide, by decide⟩, by first | decide | rfl | simp +decide [State.isCandidate]⟩,
   ⟨(ready.put .REPLAY_STATE 0 1), by first | decide | rfl | simp +decide [State.isCandidate], by first | decide | rfl | simp +decide [State.isCandidate], by first | decide | rfl | simp +decide [State.isCandidate]⟩⟩

/-- States and operands that meet the hypotheses of each clause of LaneBringUp. -/
theorem test_witness_lane_bring_up :
    (∃ (s : State), s.get .REFCLK_PRESENT 0 = 1) ∧
    (∃ (s : State), s.get .REFCLK_PRESENT 0 = 0) ∧
    (∃ (ppm : Int) (s : State), s.get .REFCLK_PRESENT 0 = 0) ∧
    (∃ (l : Fin 5) (s : State), s.laneState l ≠ 0) ∧
    (∃ (l : Fin 5) (s : State), s.laneState l = 1 ∧ s.get .PORT_STATE (portOf l) ≠ 0) ∧
    (∃ (l : Fin 5) (s : State), s.laneState l = 1 ∧ s.get .PORT_STATE (portOf l) = 0) ∧
    (∃ (l : Fin 5) (s : State), s.laneState l = 7 ∧ s.get .PORT_STATE (portOf l) = 5 ∧ s.portFenced (portOf l) =
      false) ∧
    (∃ (l : Fin 5) (s : State), s.laneState l = 2) ∧
    (∃ (l : Fin 5) (s : State), s.laneState l = 2 ∧ blocksOut (usCycles 100) (s.serLane l).stateAt s.time.cycle =
      true) ∧
    (∃ (l : Fin 5) (s : State), s.laneState l = 2 ∧ blocksOut (usCycles 100) (s.serLane l).stateAt s.time.cycle =
      false) ∧
    (∃ (l : Fin 5) (inv : Bool) (bsn : Nat) (w0 : Nat) (w1 : Nat) (w2 : Nat) (s : State), s.laneState l = 3 ∧ portOf
      l < 2 ∧ w0 / 4194304 % 4 ≠ 2) ∧
    (∃ (l : Fin 5) (ctle : Nat) (dfe : List Byte) (s : State), s.laneState l = 4 ∧ blockOf (s.serLane l).stateAt +
      adaptBlocks (s.serLane l).warm ≤ blockOf s.time.cycle) ∧
    (∃ (l : Fin 5) (skew : Nat) (s : State), s.laneState l = 4 ∧ (s.serLane l).adaptDone = true ∧ 8 ≤ (s.serLane
      l).readyRun ∧ s.get .PORT_STATE (portOf l) ≠ 7) ∧
    (∃ (l : Fin 5) (s : State), (s.laneState l = 3 ∨ s.laneState l = 4) ∧ s.get .PORT_STATE (portOf l) ≠ 7 ∧
      blocksOut (usCycles (s.get .BRINGUP_LIMIT (portOf l)).toNat) (s.serLane l).leftAt s.time.cycle = true ∧
      s.portFenced (portOf l) = false) ∧
    (∃ (l : Fin 5) (analogue : Bool) (s : State), s.laneState l = 5 ∧ (analogue = true ∨ 4 ≤ (s.serLane l).badRun) ∧
      (s.link (portOf l)).traffic.testBit (l.val % 2) = false ∧ s.portFenced (portOf l) = false) ∧
    (∃ (l : Fin 5) (analogue : Bool) (s : State), s.laneState l = 5 ∧ (analogue = true ∨ 4 ≤ (s.serLane l).badRun) ∧
      (s.link (portOf l)).traffic = 2 ^ (l.val % 2) ∧ s.portFenced (portOf l) = false) ∧
    (∃ (l : Fin 5) (analogue : Bool) (s : State), s.laneState l = 5 ∧ (analogue = true ∨ 4 ≤ (s.serLane l).badRun) ∧
      l.val < 4 ∧ (s.link (portOf l)).traffic = 3 ∧ (s.serLane (4 * portOf l + 1 - l)).badRun < 4 ∧ s.portFenced
      (portOf l) = false) :=
  ⟨⟨(ready.put .REFCLK_PRESENT 0 1), by first | decide | rfl | simp +decide [State.isCandidate]⟩,
   ⟨(ready.put .REFCLK_PRESENT 0 0), by first | decide | rfl | simp +decide [State.isCandidate]⟩,
   ⟨(-512), (ready.put .REFCLK_PRESENT 0 0), by first | decide | rfl | simp +decide [State.isCandidate]⟩,
   ⟨3, (ready.put .LANE_STATE 3 1), by first | decide | rfl | simp +decide [State.isCandidate]⟩,
   ⟨3, ((ready.put .LANE_STATE 3 1).put .PORT_STATE 1 1), by first | decide | rfl | simp +decide [State.isCandidate], by first | decide | rfl | simp +decide [State.isCandidate]⟩,
   ⟨3, (ready.put .LANE_STATE 3 1), by first | decide | rfl | simp +decide [State.isCandidate], by first | decide | rfl | simp +decide [State.isCandidate]⟩,
   ⟨3, ((ready.put .LANE_STATE 3 7).put .PORT_STATE 1 5), by first | decide | rfl | simp +decide [State.isCandidate], by first | decide | rfl | simp +decide [State.isCandidate], by first | decide | rfl | simp +decide [State.isCandidate]⟩,
   ⟨3, (ready.put .LANE_STATE 3 2), by first | decide | rfl | simp +decide [State.isCandidate]⟩,
   ⟨3, (late.put .LANE_STATE 3 2), by first | decide | rfl | simp +decide [State.isCandidate], by first | decide | rfl | simp +decide [State.isCandidate]⟩,
   ⟨3, (ready.put .LANE_STATE 3 2), by first | decide | rfl | simp +decide [State.isCandidate], by first | decide | rfl | simp +decide [State.isCandidate]⟩,
   ⟨3, true, 1030, 2097152, 0, 65536, (ready.put .LANE_STATE 3 3), by first | decide | rfl | simp +decide [State.isCandidate], by first | decide | rfl | simp +decide [State.isCandidate], by first | decide | rfl | simp +decide [State.isCandidate]⟩,
   ⟨3, 300, ([1, 2, 3, 4, 5]), (late.put .LANE_STATE 3 4), by first | decide | rfl | simp +decide [State.isCandidate], by first | decide | rfl | simp +decide [State.isCandidate]⟩,
   ⟨3, 8, ((ready.put .LANE_STATE 3 4).setSerLane 3 { adaptDone := true, readyRun := 8 }), by first | decide | rfl | simp +decide [State.isCandidate], by first | decide | rfl | simp +decide [State.isCandidate], by first | decide | rfl | simp +decide [State.isCandidate], by first | decide | rfl | simp +decide [State.isCandidate]⟩,
   ⟨3, (late.put .LANE_STATE 3 3), by first | decide | rfl | simp +decide [State.isCandidate], by first | decide | rfl | simp +decide [State.isCandidate], by first | decide | rfl | simp +decide [State.isCandidate], by first | decide | rfl | simp +decide [State.isCandidate]⟩,
   ⟨3, true, (ready.put .LANE_STATE 3 5), by first | decide | rfl | simp +decide [State.isCandidate], by first | decide | rfl | simp +decide [State.isCandidate], by first | decide | rfl | simp +decide [State.isCandidate], by first | decide | rfl | simp +decide [State.isCandidate]⟩,
   ⟨3, true, portDegraded, by first | decide | rfl | simp +decide [State.isCandidate], by first | decide | rfl | simp +decide [State.isCandidate], by first | decide | rfl | simp +decide [State.isCandidate], by first | decide | rfl | simp +decide [State.isCandidate]⟩,
   ⟨3, true, portFull, by first | decide | rfl | simp +decide [State.isCandidate], by first | decide | rfl | simp +decide [State.isCandidate], by first | decide | rfl | simp +decide [State.isCandidate], by first | decide | rfl | simp +decide [State.isCandidate], by first | decide | rfl | simp +decide [State.isCandidate], by first | decide | rfl | simp +decide [State.isCandidate]⟩⟩

/-- States and operands that meet the hypotheses of each clause of LaneDropAndAdd. -/
theorem test_witness_lane_drop_and_add :
    (∃ (p : Fin 2) (lane : Fin 2) (s : State), s.get .PORT_STATE p = 2 ∧ s.portFenced p = false) ∧
    (∃ (p : Fin 2) (lane : Fin 2) (s : State), s.get .PORT_STATE p ≠ 2) ∧
    (∃ (p : Fin 2) (l : Nat) (s : State), s.spareLane p = some l) ∧
    (∃ (p : Fin 2) (lane : Fin 2) (at_ : Nat) (l : Nat) (s : State), s.spareLane p = some l ∧ l % 2 = lane.val ∧
      (s.link p).adding = none ∧ 64 ≤ (at_ % 1024 + 1024 - (s.serLane (4 * p.val + 1 - l)).lastBsn.getD (s.link
      p).bsn) % 1024 ∧ s.portFenced p = false) ∧
    (∃ (p : Fin 2) (lane : Fin 2) (at_ : Nat) (l : Nat) (b : Nat) (s : State), s.spareLane p = some l ∧ (s.link
      p).adding = some (lane.val, b) ∧ l % 2 = lane.val ∧ s.portFenced p = false) ∧
    (∃ (l : Fin 5) (header : Nat) (payload : Nat) (stuffs : Nat) (viols : Nat) (errs : Nat) (s : State), s.laneState
      l ≠ 0 ∧ s.laneState l < 4) ∧
    (∃ (l : Fin 5) (header : Nat) (payload : Nat) (stuffs : Nat) (viols : Nat) (errs : Nat) (s : State), 4 ≤
      s.laneState l ∧ s.laneState l ≠ 7 ∧ s.laneState l ≠ 8 ∧ header / 8192 % 8 ≠ 6) ∧
    (∃ (l : Fin 5) (header : Nat) (payload : Nat) (stuffs : Nat) (viols : Nat) (errs : Nat) (b : Nat) (s : State),
      s.laneState l = 5 ∧ header / 8192 % 8 = 6 ∧ (natBits 16 header).countP (fun b => b) % 2 = 1 ∧ (s.serLane
      l).lastBsn = some b ∧ header / 2 % 1024 = (b + 1) % 1024 ∧ header / 2048 % 4 = 1 ∧ l.val < 4 ∧ s.get
      .LINK_STATE (portOf l) ≠ 2) ∧
    (∃ (l : Fin 5) (header : Nat) (payload : Nat) (stuffs : Nat) (viols : Nat) (errs : Nat) (s : State), (s.laneState
      l = 0 ∨ s.laneState l = 7)) :=
  ⟨⟨1, 0, portFull, by first | decide | rfl | simp +decide [State.isCandidate], by first | decide | rfl | simp +decide [State.isCandidate]⟩,
   ⟨1, 0, portUp, by first | decide | rfl | simp +decide [State.isCandidate]⟩,
   ⟨1, 3, spared, by first | decide | rfl | simp +decide [State.isCandidate]⟩,
   ⟨1, 1, 128, 3, spared, by first | decide | rfl | simp +decide [State.isCandidate], by first | decide | rfl | simp +decide [State.isCandidate], by first | decide | rfl | simp +decide [State.isCandidate], by first | decide | rfl | simp +decide [State.isCandidate], by first | decide | rfl | simp +decide [State.isCandidate]⟩,
   ⟨1, 1, 128, 3, 128, (spared.setLink 1 { spared.link 1 with adding := some (1, 128) }), by first | decide | rfl | simp +decide [State.isCandidate], by first | decide | rfl | simp +decide [State.isCandidate], by first | decide | rfl | simp +decide [State.isCandidate], by first | decide | rfl | simp +decide [State.isCandidate]⟩,
   ⟨3, 0, 0, 5, 1, 0, (ready.put .LANE_STATE 3 2), by first | decide | rfl | simp +decide [State.isCandidate], by first | decide | rfl | simp +decide [State.isCandidate]⟩,
   ⟨3, 0, 0, 5, 1, 0, (ready.put .LANE_STATE 3 5), by first | decide | rfl | simp +decide [State.isCandidate], by first | decide | rfl | simp +decide [State.isCandidate], by first | decide | rfl | simp +decide [State.isCandidate], by first | decide | rfl | simp +decide [State.isCandidate]⟩,
   ⟨3, (6 * 8192 + 2048 + 2 * 8 + 1), 0, 5, 1, 0, 7, ((ready.put .LANE_STATE 3 5).setSerLane 3 { lastBsn := some 7, badRun := 2 }), by first | decide | rfl | simp +decide [State.isCandidate], by first | decide | rfl | simp +decide [State.isCandidate], by first | decide | rfl | simp +decide [State.isCandidate], by first | decide | rfl | simp +decide [State.isCandidate], by first | decide | rfl | simp +decide [State.isCandidate], by first | decide | rfl | simp +decide [State.isCandidate], by first | decide | rfl | simp +decide [State.isCandidate], by first | decide | rfl | simp +decide [State.isCandidate]⟩,
   ⟨3, 0, 0, 5, 1, 0, (ready.put .LANE_STATE 3 0), by first | decide | rfl | simp +decide [State.isCandidate]⟩⟩

/-- States and operands that meet the hypotheses of each clause of LaneTests. -/
theorem test_witness_lane_tests :
    (∃ (w : Who) (l : Fin 5) (s : State), s.Open w .service .LANE_TEST ∧ s.laneState l ≠ 0) ∧
    (∃ (w : Who) (l : Fin 5) (s : State), s.Open w .service .LANE_TEST ∧ s.laneState l = 8) ∧
    (∃ (w : Who) (l : Fin 5) (n : Nat) (s : State), s.Open w .service .INJECT ∧ n % 256 ≠ 0) ∧
    (∃ (w : Who) (l : Fin 5) (n : Nat) (s : State), s.Open w .service .INJECT ∧ n % 256 ≠ 0 ∧ s.laneState l = 5) ∧
    (∃ (w : Who) (l : Fin 5) (n : Nat) (s : State), s.Open w .service .INJECT ∧ n % 256 ≠ 0 ∧ (s.laneState l = 5 ∨
      s.laneState l = 8)) ∧
    (∃ (w : Who) (l : Fin 5) (n : Nat) (s : State), s.Open w .service .INJECT ∧ n % 256 ≠ 0 ∧ s.laneState l = 5) :=
  ⟨⟨host, 3, (ready.put .LANE_STATE 3 5), ⟨by decide, by decide, by decide⟩, by first | decide | rfl | simp +decide [State.isCandidate]⟩,
   ⟨host, 3, (ready.put .LANE_STATE 3 8), ⟨by decide, by decide, by decide⟩, by first | decide | rfl | simp +decide [State.isCandidate]⟩,
   ⟨host, 3, 7, ready, ⟨by decide, by decide, by decide⟩, by first | decide | rfl | simp +decide [State.isCandidate]⟩,
   ⟨host, 3, 7, (ready.put .LANE_STATE 3 5), ⟨by decide, by decide, by decide⟩, by first | decide | rfl | simp +decide [State.isCandidate], by first | decide | rfl | simp +decide [State.isCandidate]⟩,
   ⟨host, 3, 7, (ready.put .LANE_STATE 3 8), ⟨by decide, by decide, by decide⟩, by first | decide | rfl | simp +decide [State.isCandidate], by first | decide | rfl | simp +decide [State.isCandidate]⟩,
   ⟨host, 3, 7, (ready.put .LANE_STATE 3 5), ⟨by decide, by decide, by decide⟩, by first | decide | rfl | simp +decide [State.isCandidate], by first | decide | rfl | simp +decide [State.isCandidate]⟩⟩

/-- States and operands that meet the hypotheses of each clause of PortHappenings. -/
theorem test_witness_port_happenings :
    (∃ (p : Fin 2) (a : Nat) (l : Nat) (s : State), (s.link p).waitFrom = some a ∧ s.get .PORT_STATE p = 1 ∧
      blocksOut (usCycles (s.get .PORT_WAIT p).toNat) a s.time.cycle = true ∧ (portLanes p).find? (fun l =>
      s.laneState l == 5) = some l ∧ s.portFenced p = false) ∧
    (∃ (p : Fin 2) (a : Nat) (s : State), (s.link p).waitFrom = some a ∧ blocksOut (usCycles (s.get .PORT_WAIT
      p).toNat) a s.time.cycle = false) ∧
    (∃ (p : Fin 3) (s : State), s.get .PORT_STATE p = 7 ∧ blocksOut (msCycles 10) (s.link p).faultAt s.time.cycle =
      true) ∧
    (∃ (w : Who) (p : Fin 3) (s : State), s.Open w .engineer .PORT_POWER ∧ s.notActingFor w = false) ∧
    (∃ (w : Who) (p : Fin 3) (s : State), s.Open w .engineer .PORT_POWER ∧ s.notActingFor w = false) ∧
    (∃ (w : Who) (p : Fin 3) (s : State), s.Open w .engineer .PORT_POWER ∧ s.notActingFor w = false) ∧
    (∃ (p : Fin 3) (s : State), (s.link p).request ≠ 0 ∧ 64 < (s.link p).reqBlocks ∧ s.portFenced p = false) ∧
    (∃ (p : Fin 3) (s : State), ((s.link p).request = 0 ∨ (s.link p).reqBlocks ≤ 64)) ∧
    (∃ (p : Fin 3) (s : State), s.portUp p = true ∧ s.refusesQuiet p = false ∧ s.portFenced p = false) ∧
    (∃ (p : Fin 3) (s : State), (s.link p).request ≠ 1 ∧ s.refusesQuiet p = true) ∧
    (∃ (p : Fin 3) (s : State), s.portUp p = true ∧ s.refusesQuiet p = false ∧ s.portFenced p = false) ∧
    (∃ (p : Fin 3) (s : State), (s.link p).request ≠ 2 ∧ s.refusesQuiet p = true) ∧
    (∃ (p : Fin 3) (s : State), s.portUp p = true ∧ (s.link p).request = 1 ∧ s.portFenced p = false) ∧
    (∃ (p : Fin 3) (s : State), (s.link p).request ≠ 1) ∧
    (∃ (p : Fin 3) (s : State), s.portUp p = true ∧ (s.link p).request = 2 ∧ s.portFenced p = false) ∧
    (∃ (p : Fin 3) (s : State), (s.link p).request ≠ 2) :=
  ⟨⟨1, 0, 2, (((late.put .PORT_STATE 1 1).put .LANE_STATE 2 5).setLink 1 { waitFrom := some 0 }), by first | decide | rfl | simp +decide [State.isCandidate], by first | decide | rfl | simp +decide [State.isCandidate], by first | decide | rfl | simp +decide [State.isCandidate], by first | decide | rfl | simp +decide [State.isCandidate], by first | decide | rfl | simp +decide [State.isCandidate]⟩,
   ⟨1, 0, (ready.setLink 1 { waitFrom := some 0 }), by first | decide | rfl | simp +decide [State.isCandidate], by first | decide | rfl | simp +decide [State.isCandidate]⟩,
   ⟨1, (late.put .PORT_STATE 1 7), by first | decide | rfl | simp +decide [State.isCandidate], by first | decide | rfl | simp +decide [State.isCandidate]⟩,
   ⟨host, 1, (portUp.put .PORT_POWER 1 1), ⟨by decide, by decide, by decide⟩, by first | decide | rfl | simp +decide [State.isCandidate]⟩,
   ⟨host, 1, (portUp.put .PORT_POWER 1 1), ⟨by decide, by decide, by decide⟩, by first | decide | rfl | simp +decide [State.isCandidate]⟩,
   ⟨host, 1, (portUp.setLink 1 { request := 1 }), ⟨by decide, by decide, by decide⟩, by first | decide | rfl | simp +decide [State.isCandidate]⟩,
   ⟨1, (portUp.setLink 1 { request := 1, reqBlocks := 65 }), by first | decide | rfl | simp +decide [State.isCandidate], by first | decide | rfl | simp +decide [State.isCandidate], by first | decide | rfl | simp +decide [State.isCandidate]⟩,
   ⟨1, portUp, by first | decide | rfl | simp +decide [State.isCandidate]⟩,
   ⟨1, (portUp.put .PORT_POWER 1 1), by first | decide | rfl | simp +decide [State.isCandidate], by first | decide | rfl | simp +decide [State.isCandidate], by first | decide | rfl | simp +decide [State.isCandidate]⟩,
   ⟨1, (portUp.put .PORT_POWER 1 0), by first | decide | rfl | simp +decide [State.isCandidate], by first | decide | rfl | simp +decide [State.isCandidate]⟩,
   ⟨1, (portUp.put .PORT_POWER 1 1), by first | decide | rfl | simp +decide [State.isCandidate], by first | decide | rfl | simp +decide [State.isCandidate], by first | decide | rfl | simp +decide [State.isCandidate]⟩,
   ⟨1, (portUp.put .PORT_POWER 1 0), by first | decide | rfl | simp +decide [State.isCandidate], by first | decide | rfl | simp +decide [State.isCandidate]⟩,
   ⟨1, (portUp.setLink 1 { request := 1 }), by first | decide | rfl | simp +decide [State.isCandidate], by first | decide | rfl | simp +decide [State.isCandidate], by first | decide | rfl | simp +decide [State.isCandidate]⟩,
   ⟨1, portUp, by first | decide | rfl | simp +decide [State.isCandidate]⟩,
   ⟨1, (portUp.setLink 1 { request := 2 }), by first | decide | rfl | simp +decide [State.isCandidate], by first | decide | rfl | simp +decide [State.isCandidate], by first | decide | rfl | simp +decide [State.isCandidate]⟩,
   ⟨1, portUp, by first | decide | rfl | simp +decide [State.isCandidate]⟩⟩

/-- States and operands that meet the hypotheses of each clause of FramesReceived. -/
theorem test_witness_frames_received :
    (∃ (p : Fin 3) (bytes : List Byte) (stamp : Int) (corrected : Nat) (s : State), s.portReceives p = true ∧
      corrected = 0 ∧ (s.link p).arrived = [] ∧ checkFrame bytes = .bad) ∧
    (∃ (p : Fin 3) (bytes : List Byte) (stamp : Int) (corrected : Nat) (s : State), s.portReceives p = true ∧ 0 <
      corrected ∧ (s.link p).arrived = [] ∧ checkFrame bytes = .stomped) ∧
    (∃ (p : Fin 3) (bytes : List Byte) (stamp : Int) (corrected : Nat) (s : State), s.portReceives p = true ∧
      corrected = 0 ∧ (s.link p).arrived = []) ∧
    (∃ (p : Fin 2) (bytes : List Byte) (stamp : Int) (corrected : Nat) (s : State), s.portReceives p = true ∧
      corrected = 0 ∧ (s.link p).arrived = [] ∧ checkFrame bytes = .good ∧ (frameOf bytes).cls = 3 ∧ (frameOf
      bytes).op = 4) :=
  ⟨⟨1, (List.replicate 16 0), 0, 0, linkUp, by first | decide | rfl | simp +decide [State.isCandidate], by first | decide | rfl | simp +decide [State.isCandidate], by first | decide | rfl | simp +decide [State.isCandidate], by first | decide | rfl | simp +decide [State.isCandidate]⟩,
   ⟨1, stompedBytes, 0, 3, linkUp, by first | decide | rfl | simp +decide [State.isCandidate], by first | decide | rfl | simp +decide [State.isCandidate], by first | decide | rfl | simp +decide [State.isCandidate], by first | decide | rfl | simp +decide [State.isCandidate]⟩,
   ⟨1, stompedBytes, 0, 0, linkUp, by first | decide | rfl | simp +decide [State.isCandidate], by first | decide | rfl | simp +decide [State.isCandidate], by first | decide | rfl | simp +decide [State.isCandidate]⟩,
   ⟨1, pauseBytes, 0, 0, linkUp, by first | decide | rfl | simp +decide [State.isCandidate], by first | decide | rfl | simp +decide [State.isCandidate], by first | decide | rfl | simp +decide [State.isCandidate], by first | decide | rfl | simp +decide [State.isCandidate], by first | decide | rfl | simp +decide [State.isCandidate], by first | decide | rfl | simp +decide [State.isCandidate]⟩⟩

/-- States and operands that meet the hypotheses of each clause of LinkTimers. -/
theorem test_witness_link_timers :
    (∃ (p : Fin 2) (s : State), s.get .LINK_STATE p = 3 ∧ blocksOut (msCycles (s.get .REJOIN_HOLD p).toNat) (s.link
      p).holdAt s.time.cycle = true ∧ s.noCause p = false) ∧
    (∃ (p : Fin 2) (s : State), s.get .LINK_STATE p = 3 ∧ blocksOut (msCycles (s.get .REJOIN_HOLD p).toNat) (s.link
      p).holdAt s.time.cycle = true ∧ s.noCause p = true) ∧
    (∃ (p : Fin 2) (s : State), (s.link p).sideBroken = false ∧ blocksOut (msCycles (s.get .BEACON_TIMEOUT 0).toNat)
      (s.link p).beaconAt s.time.cycle = true ∧ s.portFenced p = false) ∧
    (∃ (p : Fin 2) (s : State), ((s.link p).sideBroken = true ∨ blocksOut (msCycles (s.get .BEACON_TIMEOUT 0).toNat)
      (s.link p).beaconAt s.time.cycle = false)) ∧
    (∃ (p : Fin 2) (s : State), s.get .PAUSED p = 1 ∧ (s.link p).pauseEnd < blockOf s.time.cycle) ∧
    (∃ (p : Fin 2) (s : State), (s.link p).pausing = true ∧ 131072 < (s.link p).fill ∧ (s.link p).pauseSentAt +
      usCycles 50 ≤ s.time.cycle) ∧
    (∃ (p : Fin 2) (s : State), (s.link p).pausing = false) :=
  ⟨⟨1, (late.put .LINK_STATE 1 3), by first | decide | rfl | simp +decide [State.isCandidate], by first | decide | rfl | simp +decide [State.isCandidate], by first | decide | rfl | simp +decide [State.isCandidate]⟩,
   ⟨1, ((late.put .LINK_STATE 1 3).put .PORT_STATE 1 2), by first | decide | rfl | simp +decide [State.isCandidate], by first | decide | rfl | simp +decide [State.isCandidate], by first | decide | rfl | simp +decide [State.isCandidate]⟩,
   ⟨1, late, by first | decide | rfl | simp +decide [State.isCandidate], by first | decide | rfl | simp +decide [State.isCandidate], by first | decide | rfl | simp +decide [State.isCandidate]⟩,
   ⟨1, ready, by first | decide | rfl | simp +decide [State.isCandidate]⟩,
   ⟨1, (late.put .PAUSED 1 1), by first | decide | rfl | simp +decide [State.isCandidate], by first | decide | rfl | simp +decide [State.isCandidate]⟩,
   ⟨1, (late.setLink 1 manyFrames), by first | decide | rfl | simp +decide [State.isCandidate], by first | decide | rfl | simp +decide [State.isCandidate], by first | decide | rfl | simp +decide [State.isCandidate]⟩,
   ⟨1, late, by first | decide | rfl | simp +decide [State.isCandidate]⟩⟩

/-- States and operands that meet the hypotheses of each clause of ControlFrames. -/
theorem test_witness_control_frames :
    (∃ (p : Fin 2) (f : Frame) (b : List Byte) (s : State), b = f.payload.drop 4 ∧ f.cls = 3 ∧ f.op = 1 ∧ f.link =
      true ∧ s.takesFrame p f = true ∧ (s.get .ENDPOINT_ID 0 = 0 ∨ s.get .ENDPOINT_ID 0 = (leNat (slice b 0 4) :
      Int))) ∧
    (∃ (p : Fin 2) (f : Frame) (s : State), f.cls = 3 ∧ f.op = 1 ∧ f.link = true ∧ s.takesFrame p f = true ∧ s.get
      .ENDPOINT_ID 0 = 9 ∧ leNat (slice (f.payload.drop 4) 0 4) ≠ 9 ∧ (s.beaconFresh 0 = true ∨ s.beaconFresh 1 =
      true)) ∧
    (∃ (p : Fin 2) (f : Frame) (code : Nat) (a : Nat) (s : State), f.cls = 3 ∧ f.op = 2 ∧ (s.receive p f).1 = true ∧
      code = leNat (slice (f.payload.drop 4) 0 1) ∧ a = leNat (slice (f.payload.drop 4) 1 1) ∧ (code = 1 ∨ code = 2)
      ∧ a < 64 ∧ s.ownFailing a = false) ∧
    (∃ (p : Fin 2) (f : Frame) (s : State), f.cls = 3 ∧ f.op = 2 ∧ f.link = true ∧ s.takesFrame p f = true ∧ 2 <
      leNat (slice (f.payload.drop 4) 0 1)) ∧
    (∃ (p : Fin 2) (f : Frame) (s : State), f.cls = 3 ∧ f.op = 3 ∧ f.link = true ∧ s.takesFrame p f = true) ∧
    (∃ (p : Fin 2) (f : Frame) (s : State), f.cls = 3 ∧ f.op = 4 ∧ f.link = true ∧ s.takesFrame p f = true) ∧
    (∃ (p : Fin 2) (f : Frame) (q : Nat) (seq : Nat) (d : Nat) (s : State), f.cls = 3 ∧ f.op = 5 ∧ (s.receive p f).1
      = true ∧ q = leNat (slice (f.payload.drop 4) 0 1) ∧ seq = leNat (slice (f.payload.drop 4) 4 4) ∧ q < 16 ∧ d =
      (seq + 4294967296 - (s.get .ACKED_SEQ q).toNat) % 4294967296 ∧ 0 < d ∧ d ≤ (Sparse.get (fun _ => 4294967295)
      s.cave.lastSeq q + 4294967296 - (s.get .ACKED_SEQ q).toNat) % 4294967296 ∧ (Sparse.get (fun _ => 4294967295)
      s.cave.lastSeq q + 4294967296 - (s.get .ACKED_SEQ q).toNat) % 4294967296 < 2147483648) ∧
    (∃ (p : Fin 2) (f : Frame) (q : Nat) (seq : Nat) (d : Nat) (s : State), f.cls = 3 ∧ f.op = 5 ∧ f.link = true ∧
      s.takesFrame p f = true ∧ q = leNat (slice (f.payload.drop 4) 0 1) ∧ seq = leNat (slice (f.payload.drop 4) 4 4)
      ∧ q < 16 ∧ d = (seq + 4294967296 - (s.get .ACKED_SEQ q).toNat) % 4294967296 ∧ (d = 0 ∨ 2147483648 ≤ d)) ∧
    (∃ (p : Fin 2) (f : Frame) (b : List Byte) (s : State), f.cls = 3 ∧ f.op = 6 ∧ (s.receive p f).1 = true ∧ b =
      f.payload.drop 4 ∧ 0 < leNat (slice b 2 2) ∧ leNat (slice b 2 2) ≤ 1024 ∧ s.ring.resends.length < 16) ∧
    (∃ (p : Fin 2) (f : Frame) (b : List Byte) (s : State), f.cls = 3 ∧ f.op = 6 ∧ (s.receive p f).1 = true ∧ b =
      f.payload.drop 4 ∧ (leNat (slice b 2 2) = 0 ∨ 1024 < leNat (slice b 2 2) ∨ 16 ≤ s.ring.resends.length)) ∧
    (∃ (p : Fin 2) (f : Frame) (m : Msg) (s : State), f.cls = 3 ∧ f.op = 8 ∧ (s.receive p f).1 = true ∧ msgOf
      ((f.payload.drop 4).take (leNat (slice (f.payload.drop 4) 6 2) + 32)) = some m ∧ s.served = true ∧ bit (s.get
      .ACCESS_PATHS 0) 2 = true ∧ m.flags % 2 = 0 ∧ m.op < 3 ∧ 0 < m.op ∧ m.version = 1 ∧ s.engine.ringIn.length < 4) ∧
    (∃ (p : Fin 2) (f : Frame) (s : State), f.cls = 3 ∧ f.op = 8 ∧ f.link = true ∧ s.takesFrame p f = true ∧ msgOf
      ((f.payload.drop 4).take (leNat (slice (f.payload.drop 4) 6 2) + 32)) = none) ∧
    (∃ (p : Fin 2) (f : Frame) (s : State), f.cls = 4 ∧ f.kind = 2 ∧ (s.receive p f).1 = true ∧ s.running = true) ∧
    (∃ (p : Fin 2) (f : Frame) (s : State), f.cls = 4 ∧ f.kind = 2 ∧ (s.receive p f).1 = true ∧ s.running = false) :=
  ⟨⟨1, (control 1), ((control 1).payload.drop 4), linkUp, by first | decide | rfl | simp +decide [State.isCandidate], by first | decide | rfl | simp +decide [State.isCandidate], by first | decide | rfl | simp +decide [State.isCandidate], by first | decide | rfl | simp +decide [State.isCandidate], by first | decide | rfl | simp +decide [State.isCandidate], by first | decide | rfl | simp +decide [State.isCandidate]⟩,
   ⟨1, (control 1), (linkUp.put .ENDPOINT_ID 0 9), by first | decide | rfl | simp +decide [State.isCandidate], by first | decide | rfl | simp +decide [State.isCandidate], by first | decide | rfl | simp +decide [State.isCandidate], by first | decide | rfl | simp +decide [State.isCandidate], by first | decide | rfl | simp +decide [State.isCandidate], by first | decide | rfl | simp +decide [State.isCandidate], by first | decide | rfl | simp +decide [State.isCandidate]⟩,
   ⟨1, noticeFrame, 1, 5, linkUp, by first | decide | rfl | simp +decide [State.isCandidate], by first | decide | rfl | simp +decide [State.isCandidate], by first | decide | rfl | simp +decide [State.isCandidate], by first | decide | rfl | simp +decide [State.isCandidate], by first | decide | rfl | simp +decide [State.isCandidate], by first | decide | rfl | simp +decide [State.isCandidate], by first | decide | rfl | simp +decide [State.isCandidate], by first | decide | rfl | simp +decide [State.isCandidate]⟩,
   ⟨1, ({ noticeFrame with payload := [2, 0, 0, 0, 3, 5, 0, 0] }), linkUp, by first | decide | rfl | simp +decide [State.isCandidate], by first | decide | rfl | simp +decide [State.isCandidate], by first | decide | rfl | simp +decide [State.isCandidate], by first | decide | rfl | simp +decide [State.isCandidate], by first | decide | rfl | simp +decide [State.isCandidate]⟩,
   ⟨1, (control 3), linkUp, by first | decide | rfl | simp +decide [State.isCandidate], by first | decide | rfl | simp +decide [State.isCandidate], by first | decide | rfl | simp +decide [State.isCandidate], by first | decide | rfl | simp +decide [State.isCandidate]⟩,
   ⟨1, (control 4), linkUp, by first | decide | rfl | simp +decide [State.isCandidate], by first | decide | rfl | simp +decide [State.isCandidate], by first | decide | rfl | simp +decide [State.isCandidate], by first | decide | rfl | simp +decide [State.isCandidate]⟩,
   ⟨1, ackFrame, 3, 5, 3, acking, by first | decide | rfl | simp +decide [State.isCandidate], by first | decide | rfl | simp +decide [State.isCandidate], by first | decide | rfl | simp +decide [State.isCandidate], by first | decide | rfl | simp +decide [State.isCandidate], by first | decide | rfl | simp +decide [State.isCandidate], by first | decide | rfl | simp +decide [State.isCandidate], by first | decide | rfl | simp +decide [State.isCandidate], by first | decide | rfl | simp +decide [State.isCandidate], by first | decide | rfl | simp +decide [State.isCandidate], by first | decide | rfl | simp +decide [State.isCandidate]⟩,
   ⟨1, ackFrame, 3, 5, 0, (acking.put .ACKED_SEQ 3 5), by first | decide | rfl | simp +decide [State.isCandidate], by first | decide | rfl | simp +decide [State.isCandidate], by first | decide | rfl | simp +decide [State.isCandidate], by first | decide | rfl | simp +decide [State.isCandidate], by first | decide | rfl | simp +decide [State.isCandidate], by first | decide | rfl | simp +decide [State.isCandidate], by first | decide | rfl | simp +decide [State.isCandidate], by first | decide | rfl | simp +decide [State.isCandidate], by first | decide | rfl | simp +decide [State.isCandidate]⟩,
   ⟨1, ({ control 6 with payload := [6, 7, 0, 0, 3, 0, 2, 0, 9, 0, 0, 0] }), ([3, 0, 2, 0, 9, 0, 0, 0]), linkUp, by first | decide | rfl | simp +decide [State.isCandidate], by first | decide | rfl | simp +decide [State.isCandidate], by first | decide | rfl | simp +decide [State.isCandidate], by first | decide | rfl | simp +decide [State.isCandidate], by first | decide | rfl | simp +decide [State.isCandidate], by first | decide | rfl | simp +decide [State.isCandidate], by first | decide | rfl | simp +decide [State.isCandidate]⟩,
   ⟨1, (control 6), ((control 6).payload.drop 4), linkUp, by first | decide | rfl | simp +decide [State.isCandidate], by first | decide | rfl | simp +decide [State.isCandidate], by first | decide | rfl | simp +decide [State.isCandidate], by first | decide | rfl | simp +decide [State.isCandidate], by first | decide | rfl | simp +decide [State.isCandidate]⟩,
   ⟨1, dictFrame, (msg 1 |> fun m => { m with tag := List.replicate 16 0 }), linkUp, by first | decide | rfl | simp +decide [State.isCandidate], by first | decide | rfl | simp +decide [State.isCandidate], by first | decide | rfl | simp +decide [State.isCandidate], by first | decide | rfl | simp +decide [State.isCandidate], by first | decide | rfl | simp +decide [State.isCandidate], by first | decide | rfl | simp +decide [State.isCandidate], by first | decide | rfl | simp +decide [State.isCandidate], by first | decide | rfl | simp +decide [State.isCandidate], by first | decide | rfl | simp +decide [State.isCandidate], by first | decide | rfl | simp +decide [State.isCandidate], by first | decide | rfl | simp +decide [State.isCandidate]⟩,
   ⟨1, (control 8), linkUp, by first | decide | rfl | simp +decide [State.isCandidate], by first | decide | rfl | simp +decide [State.isCandidate], by first | decide | rfl | simp +decide [State.isCandidate], by first | decide | rfl | simp +decide [State.isCandidate], by first | decide | rfl | simp +decide [State.isCandidate]⟩,
   ⟨1, ({ control 2 with cls := 4 }), (run0.put .LINK_STATE 1 1), by first | decide | rfl | simp +decide [State.isCandidate], by first | decide | rfl | simp +decide [State.isCandidate], by first | decide | rfl | simp +decide [State.isCandidate], by first | decide | rfl | simp +decide [State.isCandidate]⟩,
   ⟨1, ({ control 2 with cls := 4 }), linkUp, by first | decide | rfl | simp +decide [State.isCandidate], by first | decide | rfl | simp +decide [State.isCandidate], by first | decide | rfl | simp +decide [State.isCandidate], by first | decide | rfl | simp +decide [State.isCandidate]⟩⟩

/-- States and operands that meet the hypotheses of each clause of LinkDelays. -/
theorem test_witness_link_delays :
    (∃ (p : Fin 3) (s : State), s.canSend p = true ∧ s.elapsed (s.timePort p).dreqAt cycles125 = true ∧ (p.val < 2 ∨
      s.get .TWIN_ENABLE 0 = 1) ∧ s.dreqMissed (s.timePort p) = false) ∧
    (∃ (p : Fin 3) (s : State), s.canSend p = true ∧ s.elapsed (s.timePort p).dreqAt cycles125 = true ∧ (p.val < 2 ∨
      s.get .TWIN_ENABLE 0 = 1) ∧ s.dreqMissed (s.timePort p) = true) ∧
    (∃ (p : Fin 3) (f : Frame) (r : Int) (s : State), f.cls = 1 ∧ f.kind = 2 ∧ f.link = true ∧ s.takesFrame p f =
      true) ∧
    (∃ (p : Fin 3) (f : Frame) (t4 : Int) (t1 : Int) (d : Nat) (c : Nat) (m : Int) (s : State), f.cls = 1 ∧ f.kind =
      3 ∧ f.link = true ∧ s.takesFrame p f = true ∧ (s.timePort p).open_ = some (d, some (t1, c)) ∧ leNat (slice
      f.payload 2 2) = d ∧ m = roundAt .mean ((t4 - t1) - (vt80Of (slice f.payload 16 12) - vt80Of (slice f.payload 4
      12))) 2 ∧ vt80Of (slice f.payload 16 12) - vt80Of (slice f.payload 4 12) ≤ 10000 * 65536 ∧ 0 ≤ m ∧ m ≤ 100000 *
      65536 ∧ blocksOut (usCycles 100) c s.time.cycle = false) ∧
    (∃ (p : Fin 3) (f : Frame) (t4 : Int) (t1 : Int) (d : Nat) (c : Nat) (s : State), f.cls = 1 ∧ f.kind = 3 ∧ f.link
      = true ∧ s.takesFrame p f = true ∧ (s.timePort p).open_ = some (d, some (t1, c)) ∧ leNat (slice f.payload 2 2)
      = d ∧ (roundAt .mean ((t4 - t1) - (vt80Of (slice f.payload 16 12) - vt80Of (slice f.payload 4 12))) 2 < 0 ∨
      blocksOut (usCycles 100) c s.time.cycle = true)) ∧
    (∃ (p : Fin 3) (f : Frame) (t4 : Int) (t1 : Int) (d : Nat) (c : Nat) (m : Int) (s : State), f.cls = 1 ∧ f.kind =
      3 ∧ f.link = true ∧ s.takesFrame p f = true ∧ (s.timePort p).open_ = some (d, some (t1, c)) ∧ leNat (slice
      f.payload 2 2) = d ∧ m = roundAt .mean ((t4 - t1) - (vt80Of (slice f.payload 16 12) - vt80Of (slice f.payload 4
      12))) 2 ∧ vt80Of (slice f.payload 16 12) - vt80Of (slice f.payload 4 12) ≤ 10000 * 65536 ∧ 0 ≤ m ∧ m ≤ 100000 *
      65536 ∧ blocksOut (usCycles 100) c s.time.cycle = false ∧ s.get .DELAY_STATE p = 1 ∧ (s.timePort p).raws.length
      = 15) ∧
    (∃ (p : Fin 3) (d : Nat) (c : Nat) (t1 : Int) (s : State), (s.timePort p).open_ = some (d, some (t1, c)) ∧
      blocksOut (usCycles 100) c s.time.cycle = true) :=
  ⟨⟨1, linkUp, by first | decide | rfl | simp +decide [State.isCandidate], by first | decide | rfl | simp +decide [State.isCandidate], by first | decide | rfl | simp +decide [State.isCandidate], by first | decide | rfl | simp +decide [State.isCandidate]⟩,
   ⟨1, ({ exchanging with time := late.time }), by first | decide | rfl | simp +decide [State.isCandidate], by first | decide | rfl | simp +decide [State.isCandidate], by first | decide | rfl | simp +decide [State.isCandidate], by first | decide | rfl | simp +decide [State.isCandidate]⟩,
   ⟨1, (timeFrame 2), 500, linkUp, by first | decide | rfl | simp +decide [State.isCandidate], by first | decide | rfl | simp +decide [State.isCandidate], by first | decide | rfl | simp +decide [State.isCandidate], by first | decide | rfl | simp +decide [State.isCandidate]⟩,
   ⟨1, (timeFrame 3), 1000, 0, 0, 0, 500, exchanging, by first | decide | rfl | simp +decide [State.isCandidate], by first | decide | rfl | simp +decide [State.isCandidate], by first | decide | rfl | simp +decide [State.isCandidate], by first | decide | rfl | simp +decide [State.isCandidate], by first | decide | rfl | simp +decide [State.isCandidate], by first | decide | rfl | simp +decide [State.isCandidate], by first | decide | rfl | simp +decide [State.isCandidate], by first | decide | rfl | simp +decide [State.isCandidate], by first | decide | rfl | simp +decide [State.isCandidate], by first | decide | rfl | simp +decide [State.isCandidate], by first | decide | rfl | simp +decide [State.isCandidate]⟩,
   ⟨1, (timeFrame 3), (-10), 0, 0, 0, exchanging, by first | decide | rfl | simp +decide [State.isCandidate], by first | decide | rfl | simp +decide [State.isCandidate], by first | decide | rfl | simp +decide [State.isCandidate], by first | decide | rfl | simp +decide [State.isCandidate], by first | decide | rfl | simp +decide [State.isCandidate], by first | decide | rfl | simp +decide [State.isCandidate], by first | decide | rfl | simp +decide [State.isCandidate]⟩,
   ⟨1, (timeFrame 3), 1000, 0, 0, 0, 500, ((exchanging.put .DELAY_STATE 1 1).setTimePort 1 { open_ := some (0, some (0, 0)), raws := List.replicate 15 500 }), by first | decide | rfl | simp +decide [State.isCandidate], by first | decide | rfl | simp +decide [State.isCandidate], by first | decide | rfl | simp +decide [State.isCandidate], by first | decide | rfl | simp +decide [State.isCandidate], by first | decide | rfl | simp +decide [State.isCandidate], by first | decide | rfl | simp +decide [State.isCandidate], by first | decide | rfl | simp +decide [State.isCandidate], by first | decide | rfl | simp +decide [State.isCandidate], by first | decide | rfl | simp +decide [State.isCandidate], by first | decide | rfl | simp +decide [State.isCandidate], by first | decide | rfl | simp +decide [State.isCandidate], by first | decide | rfl | simp +decide [State.isCandidate], by first | decide | rfl | simp +decide [State.isCandidate]⟩,
   ⟨1, 0, 0, 0, ({ exchanging with time := late.time }), by first | decide | rfl | simp +decide [State.isCandidate], by first | decide | rfl | simp +decide [State.isCandidate]⟩⟩

/-- States and operands that meet the hypotheses of each clause of RingTimeHappenings. -/
theorem test_witness_ring_time_happenings :
    (∃ (s : State), s.ringTime.sending = true ∧ s.ringTime.syncFor ≠ s.syncSlot) ∧
    (∃ (p : Fin 2) (f : Frame) (r : Int) (s : State), f.cls = 1 ∧ f.kind = 1 ∧ f.link = true ∧ s.takesFrame p f =
      true ∧ s.ringTime.sending = false ∧ (syncOf f.payload).suspect = true) ∧
    (∃ (p : Fin 2) (f : Frame) (r : Int) (s : State), f.cls = 1 ∧ f.kind = 1 ∧ f.link = true ∧ s.takesFrame p f =
      true ∧ s.ringTime.sending = false ∧ (syncOf f.payload).suspect = false ∧ s.get .RT_GM 0 = (syncOf f.payload).gm
      ∧ s.get .DELAY_STATE p = 2 ∧ s.linkGood p = true ∧ s.get .RT_FAULT 0 = 0) ∧
    (∃ (s : State), s.elapsed s.ringTime.announceAt (msCycles 16) = true) ∧
    (∃ (a : Nat) (s : State), s.ringTime.announceAt = some a ∧ s.time.cycle < a + msCycles 16) ∧
    (∃ (p : Fin 2) (f : Frame) (addr : Nat) (s : State), f.cls = 1 ∧ f.kind = 4 ∧ f.link = true ∧ s.takesFrame p f =
      true ∧ addr = leNat (slice f.payload 4 2) ∧ s.ringTime.cands.find? (fun c => c.addr == addr) = none) ∧
    (∃ (p : Fin 2) (f : Frame) (addr : Nat) (c : Candidate) (s : State), f.cls = 1 ∧ f.kind = 4 ∧ f.link = true ∧
      s.takesFrame p f = true ∧ addr = leNat (slice f.payload 4 2) ∧ s.ringTime.cands.find? (fun c => c.addr == addr)
      = some c ∧ precedes 16 c.aseq (leNat (slice f.payload 2 2)) = false) ∧
    (∃ (s : State), s.ringTime.cands.all (fun c => decide (s.time.servoAt ≤ c.at_ + msCycles (s.get .GM_TIMEOUT
      0).toNat)) = false) ∧
    (∃ (s : State), s.ringTime.cands.all (fun c => decide (s.time.servoAt ≤ c.at_ + msCycles (s.get .GM_TIMEOUT
      0).toNat)) = true) ∧
    (∃ (s : State), s.get .RT_ROLE 0 = 3 ∧ s.ringTime.sending = false ∧ s.ringTime.bestAt + msCycles 1 ≤
      s.time.cycle) ∧
    (∃ (s : State), s.get .TWIN_ENABLE 0 = 1 ∧ s.canSend 2 = true ∧ s.elapsed (s.timePort 2).checkAt cycles125 =
      true) ∧
    (∃ (f : Frame) (r : Int) (s : State), f.cls = 1 ∧ f.kind = 5 ∧ f.link = true ∧ s.takesFrame 2 f = true) ∧
    (∃ (w : Who) (p : Fin 3) (v : Int) (s : State), s.Open w .engineer .ASYM_CORR ∧ -655360000 ≤ v ∧ v ≤ 655360000) ∧
    (∃ (w : Who) (p : Fin 3) (v : Int) (s : State), s.Open w .engineer .ASYM_CORR ∧ 655360000 < v) ∧
    (∃ (w : Who) (v : Nat) (s : State), s.Open w .engineer .RT_FAULT_CLEAR) :=
  ⟨⟨({ ready with ringTime := { sending := true } }), by first | decide | rfl | simp +decide [State.isCandidate], by first | decide | rfl | simp +decide [State.isCandidate]⟩,
   ⟨1, ({ timeFrame 1 with payload := [1, 1] ++ List.replicate 58 0 }), 700, linkUp, by first | decide | rfl | simp +decide [State.isCandidate], by first | decide | rfl | simp +decide [State.isCandidate], by first | decide | rfl | simp +decide [State.isCandidate], by first | decide | rfl | simp +decide [State.isCandidate], by first | decide | rfl | simp +decide [State.isCandidate], by first | decide | rfl | simp +decide [State.isCandidate]⟩,
   ⟨1, ({ timeFrame 1 with payload := [1, 6, 9, 0, 7, 0] ++ List.replicate 54 1 }), 700, ((linkUp.put .DELAY_STATE 1 2).put .RT_GM 0 7), by first | decide | rfl | simp +decide [State.isCandidate], by first | decide | rfl | simp +decide [State.isCandidate], by first | decide | rfl | simp +decide [State.isCandidate], by first | decide | rfl | simp +decide [State.isCandidate], by first | decide | rfl | simp +decide [State.isCandidate], by first | decide | rfl | simp +decide [State.isCandidate], by first | decide | rfl | simp +decide [State.isCandidate], by first | decide | rfl | simp +decide [State.isCandidate], by first | decide | rfl | simp +decide [State.isCandidate], by first | decide | rfl | simp +decide [State.isCandidate]⟩,
   ⟨ready, by first | decide | rfl | simp +decide [State.isCandidate]⟩,
   ⟨0, ({ ready with ringTime := { announceAt := some 0 } }), by first | decide | rfl | simp +decide [State.isCandidate], by first | decide | rfl | simp +decide [State.isCandidate]⟩,
   ⟨1, (timeFrame 4), 0, linkUp, by first | decide | rfl | simp +decide [State.isCandidate], by first | decide | rfl | simp +decide [State.isCandidate], by first | decide | rfl | simp +decide [State.isCandidate], by first | decide | rfl | simp +decide [State.isCandidate], by first | decide | rfl | simp +decide [State.isCandidate], by first | decide | rfl | simp +decide [State.isCandidate]⟩,
   ⟨1, (timeFrame 4), 0, (⟨0, 0, 1, true, 0⟩), ({ linkUp with ringTime := { cands := [⟨0, 0, 1, true, 0⟩] } }), by first | decide | rfl | simp +decide [State.isCandidate], by first | decide | rfl | simp +decide [State.isCandidate], by first | decide | rfl | simp +decide [State.isCandidate], by first | decide | rfl | simp +decide [State.isCandidate], by first | decide | rfl | simp +decide [State.isCandidate], by first | decide | rfl | simp +decide [State.isCandidate], by first | decide | rfl | simp +decide [State.isCandidate]⟩,
   ⟨({ late with time := { late.time with servoAt := 10 ^ 12 }, ringTime := { cands := [⟨3, 0, 1, true, 0⟩] } }), by first | decide | rfl | simp +decide [State.isCandidate]⟩,
   ⟨ready, by first | decide | rfl | simp +decide [State.isCandidate]⟩,
   ⟨(late.put .RT_ROLE 0 3), by first | decide | rfl | simp +decide [State.isCandidate], by first | decide | rfl | simp +decide [State.isCandidate], by first | decide | rfl | simp +decide [State.isCandidate]⟩,
   ⟨twinned, by first | decide | rfl | simp +decide [State.isCandidate], by first | decide | rfl | simp +decide [State.isCandidate], by first | decide | rfl | simp +decide [State.isCandidate]⟩,
   ⟨(timeFrame 5), 900, twinned, by first | decide | rfl | simp +decide [State.isCandidate], by first | decide | rfl | simp +decide [State.isCandidate], by first | decide | rfl | simp +decide [State.isCandidate], by first | decide | rfl | simp +decide [State.isCandidate]⟩,
   ⟨host, 1, (-655360000), ready, ⟨by decide, by decide, by decide⟩, by first | decide | rfl | simp +decide [State.isCandidate], by first | decide | rfl | simp +decide [State.isCandidate]⟩,
   ⟨host, 1, 655360001, ready, ⟨by decide, by decide, by decide⟩, by first | decide | rfl | simp +decide [State.isCandidate]⟩,
   ⟨host, 1, (ready.put .RT_FAULT 0 2), ⟨by decide, by decide, by decide⟩⟩⟩

/-- States and operands that meet the hypotheses of each clause of TwinLeases. -/
theorem test_witness_twin_leases :
    (∃ (s : State), s.get .TWIN_STATE 0 ≠ 0 ∧ s.twin.sentAt = none ∧ s.fenced 8 0 = false ∧ s.twin.aligning = false) ∧
    (∃ (n : Nat) (s : State), s.get .TWIN_STATE 0 = 5 ∧ s.twin.sentAt = none ∧ s.fenced 8 0 = false ∧ s.twin.aligning
      = true ∧ s.twin.firstSeq = some n ∧ s.twin.copied = false) ∧
    (∃ (s : State), s.get .TWIN_STATE 0 = 0) ∧
    (∃ (k : Nat) (s : State), s.get .TWIN_STATE 0 = 1 ∧ s.twin.hbAt = some k ∧ s.twin.lost = false ∧ k + (s.get
      .HB_TIMEOUT 0).toNat < s.time.kt) ∧
    (∃ (k : Nat) (s : State), s.get .TWIN_STATE 0 = 5 ∧ s.twin.hbAt = some k ∧ s.twin.lost = false ∧ k + (s.get
      .HB_TIMEOUT 0).toNat < s.time.kt) ∧
    (∃ (s : State), s.get .TWIN_STATE 0 = 5 ∧ 0 ≤ s.get .LEASE_EXPIRY 0 ∧ s.get .LEASE_EXPIRY 0 < s.time.kt) ∧
    (∃ (s : State), (s.get .TWIN_STATE 0 ≠ 5 ∨ (s.time.kt : Int) ≤ s.get .LEASE_EXPIRY 0)) ∧
    (∃ (s : State), s.get .TWIN_STATE 0 = 4 ∧ s.get .CLAIM_AT 0 ≤ s.time.kt ∧ s.twin.wreqAt = none) ∧
    (∃ (k : Nat) (s : State), s.twin.wreqAt = some k ∧ s.get .WITNESS_RENEW 0 ≤ (s.time.kt : Int) - k ∧ s.get
      .TWIN_STATE 0 = 5 ∧ s.twin.renews = true) ∧
    (∃ (p : Fin 2) (f : Frame) (w : Nat) (s : State), f.link = true ∧ s.takesFrame p f = true ∧ s.get .WITNESS_ENABLE
      0 = 1 ∧ f.cls = 5 ∧ leNat (slice f.payload 0 1) = 5 ∧ ((wreqOf f).op = 1 ∨ (wreqOf f).op = 2) ∧ s.witSlotFor
      (wreqOf f).addr = some w ∧ (s.get .WIT_TWIN w = 0x1FF ∨ s.witOpen w (wreqOf f).side = true)) ∧
    (∃ (p : Fin 2) (f : Frame) (w : Nat) (s : State), f.link = true ∧ s.takesFrame p f = true ∧ s.get .WITNESS_ENABLE
      0 = 1 ∧ f.cls = 5 ∧ leNat (slice f.payload 0 1) = 5 ∧ ((wreqOf f).op = 1 ∨ (wreqOf f).op = 2) ∧ s.witSlotFor
      (wreqOf f).addr = some w ∧ s.get .WIT_TWIN w = ((wreqOf f).addr : Int) ∧ s.get .WIT_TWIN w ≠ 0x1FF ∧ s.witOpen
      w (wreqOf f).side = false) ∧
    (∃ (p : Fin 2) (f : Frame) (w : Nat) (s : State), f.link = true ∧ s.takesFrame p f = true ∧ s.get .WITNESS_ENABLE
      0 = 1 ∧ f.cls = 5 ∧ leNat (slice f.payload 0 1) = 5 ∧ (wreqOf f).op = 4 ∧ s.witSlotFor (wreqOf f).addr = some w
      ∧ s.get .WIT_TWIN w = ((wreqOf f).addr : Int) ∧ s.get .WIT_TWIN w ≠ 0x1FF ∧ s.get .WIT_HOLDER w = ((wreqOf
      f).side : Int)) ∧
    (∃ (p : Fin 2) (f : Frame) (s : State), f.link = true ∧ s.takesFrame p f = true ∧ s.get .WITNESS_ENABLE 0 = 1 ∧
      f.cls = 5 ∧ leNat (slice f.payload 0 1) = 5 ∧ s.witSlotFor (wreqOf f).addr = none) ∧
    (∃ (w : Fin 8) (s : State), s.get .WIT_TWIN w ≠ 0x1FF ∧ (s.wit w).at_ + 4 * (s.wit w).term < s.time.kt) :=
  ⟨⟨({ ready with twin := { sentAt := none } }.put .TWIN_STATE 0 3), by first | decide | rfl | simp +decide [State.isCandidate], by first | decide | rfl | simp +decide [State.isCandidate], by first | decide | rfl | simp +decide [State.isCandidate], by first | decide | rfl | simp +decide [State.isCandidate]⟩,
   ⟨3, ({ ready with twin := { aligning := true, firstSeq := some 3 } }.put .TWIN_STATE 0 5), by first | decide | rfl | simp +decide [State.isCandidate], by first | decide | rfl | simp +decide [State.isCandidate], by first | decide | rfl | simp +decide [State.isCandidate], by first | decide | rfl | simp +decide [State.isCandidate], by first | decide | rfl | simp +decide [State.isCandidate], by first | decide | rfl | simp +decide [State.isCandidate]⟩,
   ⟨ready, by first | decide | rfl | simp +decide [State.isCandidate]⟩,
   ⟨0, (hbLost.put .TWIN_STATE 0 1), by first | decide | rfl | simp +decide [State.isCandidate], by first | decide | rfl | simp +decide [State.isCandidate], by first | decide | rfl | simp +decide [State.isCandidate], by first | decide | rfl | simp +decide [State.isCandidate]⟩,
   ⟨0, (hbLost.put .TWIN_STATE 0 5), by first | decide | rfl | simp +decide [State.isCandidate], by first | decide | rfl | simp +decide [State.isCandidate], by first | decide | rfl | simp +decide [State.isCandidate], by first | decide | rfl | simp +decide [State.isCandidate]⟩,
   ⟨({ ready with time := { ready.time with kt := 9 } }.put .TWIN_STATE 0 5), by first | decide | rfl | simp +decide [State.isCandidate], by first | decide | rfl | simp +decide [State.isCandidate], by first | decide | rfl | simp +decide [State.isCandidate]⟩,
   ⟨ready, by first | decide | rfl | simp +decide [State.isCandidate]⟩,
   ⟨(ready.put .TWIN_STATE 0 4), by first | decide | rfl | simp +decide [State.isCandidate], by first | decide | rfl | simp +decide [State.isCandidate], by first | decide | rfl | simp +decide [State.isCandidate]⟩,
   ⟨0, ({ late with twin := { wreqAt := some 0, renews := true } , time := hbLost.time }.put .TWIN_STATE 0 5), by first | decide | rfl | simp +decide [State.isCandidate], by first | decide | rfl | simp +decide [State.isCandidate], by first | decide | rfl | simp +decide [State.isCandidate], by first | decide | rfl | simp +decide [State.isCandidate]⟩,
   ⟨1, (twinFrame 5 [1, 2]), 0, (linkUp.put .WITNESS_ENABLE 0 1), by first | decide | rfl | simp +decide [State.isCandidate], by first | decide | rfl | simp +decide [State.isCandidate], by first | decide | rfl | simp +decide [State.isCandidate], by first | decide | rfl | simp +decide [State.isCandidate], by first | decide | rfl | simp +decide [State.isCandidate], by first | decide | rfl | simp +decide [State.isCandidate], by first | decide | rfl | simp +decide [State.isCandidate], by first | decide | rfl | simp +decide [State.isCandidate]⟩,
   ⟨1, (twinFrame 5 [1, 2]), 0, (((linkUp.put .WITNESS_ENABLE 0 1).put .WIT_TWIN 0 0).put .WIT_HOLDER 0 0 |>.put .WIT_GRANT_END 0 (10 ^ 9)), by first | decide | rfl | simp +decide [State.isCandidate], by first | decide | rfl | simp +decide [State.isCandidate], by first | decide | rfl | simp +decide [State.isCandidate], by first | decide | rfl | simp +decide [State.isCandidate], by first | decide | rfl | simp +decide [State.isCandidate], by first | decide | rfl | simp +decide [State.isCandidate], by first | decide | rfl | simp +decide [State.isCandidate], by first | decide | rfl | simp +decide [State.isCandidate], by first | decide | rfl | simp +decide [State.isCandidate], by first | decide | rfl | simp +decide [State.isCandidate]⟩,
   ⟨1, (twinFrame 5 [1, 4]), 0, (((linkUp.put .WITNESS_ENABLE 0 1).put .WIT_TWIN 0 0).put .WIT_HOLDER 0 1), by first | decide | rfl | simp +decide [State.isCandidate], by first | decide | rfl | simp +decide [State.isCandidate], by first | decide | rfl | simp +decide [State.isCandidate], by first | decide | rfl | simp +decide [State.isCandidate], by first | decide | rfl | simp +decide [State.isCandidate], by first | decide | rfl | simp +decide [State.isCandidate], by first | decide | rfl | simp +decide [State.isCandidate], by first | decide | rfl | simp +decide [State.isCandidate], by first | decide | rfl | simp +decide [State.isCandidate], by first | decide | rfl | simp +decide [State.isCandidate]⟩,
   ⟨1, (twinFrame 5 [1, 2]), slotsTaken, by first | decide | rfl | simp +decide [State.isCandidate], by first | decide | rfl | simp +decide [State.isCandidate], by first | decide | rfl | simp +decide [State.isCandidate], by first | decide | rfl | simp +decide [State.isCandidate], by first | decide | rfl | simp +decide [State.isCandidate], by first | decide | rfl | simp +decide [State.isCandidate]⟩,
   ⟨3, ({ ready with time := { ready.time with kt := 9 } }.put .WIT_TWIN 3 7), by first | decide | rfl | simp +decide [State.isCandidate], by first | decide | rfl | simp +decide [State.isCandidate]⟩⟩

/-- States and operands that meet the hypotheses of each clause of TwinFrames. -/
theorem test_witness_twin_frames :
    (∃ (p : Fin 2) (f : Frame) (r : Nat) (s : State), f.link = true ∧ s.takesFrame p f = true ∧ f.cls = 5 ∧ leNat
      (slice f.payload 0 1) = 6 ∧ (leNat (slice f.payload 1 1) : Int) = s.get .TWIN_SIDE 0 ∧ leNat (slice f.payload 2
      1) = 0 ∧ r = leNat (slice f.payload 4 8) ∧ s.get .TWIN_STATE 0 = 5) ∧
    (∃ (p : Fin 2) (f : Frame) (r : Nat) (s : State), f.link = true ∧ s.takesFrame p f = true ∧ f.cls = 5 ∧ leNat
      (slice f.payload 0 1) = 6 ∧ (leNat (slice f.payload 1 1) : Int) = s.get .TWIN_SIDE 0 ∧ leNat (slice f.payload 2
      1) = 0 ∧ r = leNat (slice f.payload 4 8) ∧ s.get .TWIN_STATE 0 = 4 ∧ (s.time.kt : Int) < (r + s.holdTerm : Nat)
      ∧ s.get .CLAIM_AT 0 ≤ s.time.kt) ∧
    (∃ (p : Fin 2) (f : Frame) (r : Nat) (s : State), f.link = true ∧ s.takesFrame p f = true ∧ f.cls = 5 ∧ leNat
      (slice f.payload 0 1) = 6 ∧ leNat (slice f.payload 2 1) = 0 ∧ r = leNat (slice f.payload 4 8) ∧ s.get
      .TWIN_STATE 0 = 4 ∧ s.time.kt < s.get .CLAIM_AT 0) ∧
    (∃ (p : Fin 2) (f : Frame) (s : State), f.link = true ∧ s.takesFrame p f = true ∧ f.cls = 5 ∧ leNat (slice
      f.payload 0 1) = 6 ∧ (leNat (slice f.payload 1 1) : Int) = s.get .TWIN_SIDE 0 ∧ (leNat (slice f.payload 2 1) =
      1 ∨ leNat (slice f.payload 2 1) = 2)) ∧
    (∃ (f : Frame) (s : State), f.cls = 5 ∧ f.kind = 1 ∧ f.link = true ∧ s.takesFrame 2 f = true ∧ s.get .TWIN_STATE
      0 = 0 ∧ s.twin.adopting = false) ∧
    (∃ (f : Frame) (s : State), f.cls = 5 ∧ f.kind = 1 ∧ f.link = true ∧ s.takesFrame 2 f = true ∧ s.get .TWIN_STATE
      0 = 5 ∧ leNat (slice f.payload 2 1) = 5 ∧ s.twin.adopting = false) ∧
    (∃ (f : Frame) (s : State), f.cls = 5 ∧ f.kind = 1 ∧ f.link = true ∧ s.takesFrame 2 f = true ∧ s.get .TWIN_STATE
      0 ≠ 0 ∧ ((s.add64 .FRAMES_RX 2 1).onHeartbeat f).2 = false ∧ s.twin.adopting = false) ∧
    (∃ (f : Frame) (s : State), f.link = true ∧ s.takesFrame 2 f = true ∧ f.cls = 5 ∧ leNat (slice f.payload 0 1) = 2
      ∧ s.acting = false ∧ s.running = false) ∧
    (∃ (f : Frame) (exc : List (Nat × Int × Int × Int)) (s : State), f.cls = 5 ∧ f.kind = 3 ∧ f.link = true ∧
      s.takesFrame 2 f = true ∧ s.get .TWIN_ENABLE 0 = 1 ∧ s.served = true ∧ s.acting = false) ∧
    (∃ (f : Frame) (exc : List (Nat × Int × Int × Int)) (s : State), f.cls = 5 ∧ f.kind = 3 ∧ f.link = true ∧
      s.takesFrame 2 f = true ∧ (s.get .TWIN_ENABLE 0 ≠ 1 ∨ s.served = false)) ∧
    (∃ (f : Frame) (s : State), f.link = true ∧ s.takesFrame 2 f = true ∧ f.cls = 5 ∧ leNat (slice f.payload 0 1) = 4
      ∧ s.get .TWIN_STATE 0 = 2 ∧ leNat (slice f.payload 8 2) = 0 ∧ s.twin.copy = none ∧ 1 < leNat (slice f.payload
      10 2)) ∧
    (∃ (s : State), s.get .TWIN_STATE 0 = 2 ∧ s.twin.adopting = false) :=
  ⟨⟨1, (twinFrame 6 []), 0, (linkUp.put .TWIN_STATE 0 5), by first | decide | rfl | simp +decide [State.isCandidate], by first | decide | rfl | simp +decide [State.isCandidate], by first | decide | rfl | simp +decide [State.isCandidate], by first | decide | rfl | simp +decide [State.isCandidate], by first | decide | rfl | simp +decide [State.isCandidate], by first | decide | rfl | simp +decide [State.isCandidate], by first | decide | rfl | simp +decide [State.isCandidate], by first | decide | rfl | simp +decide [State.isCandidate]⟩,
   ⟨1, (twinFrame 6 [0, 0, 0, 255, 255, 255, 255, 0, 0, 0, 0]), 4294967295, (linkUp.put .TWIN_STATE 0 4), by first | decide | rfl | simp +decide [State.isCandidate], by first | decide | rfl | simp +decide [State.isCandidate], by first | decide | rfl | simp +decide [State.isCandidate], by first | decide | rfl | simp +decide [State.isCandidate], by first | decide | rfl | simp +decide [State.isCandidate], by first | decide | rfl | simp +decide [State.isCandidate], by first | decide | rfl | simp +decide [State.isCandidate], by first | decide | rfl | simp +decide [State.isCandidate], by first | decide | rfl | simp +decide [State.isCandidate], by first | decide | rfl | simp +decide [State.isCandidate]⟩,
   ⟨1, (twinFrame 6 [0, 0, 0, 255, 255, 255, 255, 0, 0, 0, 0]), 4294967295, ((linkUp.put .TWIN_STATE 0 4).put .CLAIM_AT 0 1000), by first | decide | rfl | simp +decide [State.isCandidate], by first | decide | rfl | simp +decide [State.isCandidate], by first | decide | rfl | simp +decide [State.isCandidate], by first | decide | rfl | simp +decide [State.isCandidate], by first | decide | rfl | simp +decide [State.isCandidate], by first | decide | rfl | simp +decide [State.isCandidate], by first | decide | rfl | simp +decide [State.isCandidate], by first | decide | rfl | simp +decide [State.isCandidate]⟩,
   ⟨1, (twinFrame 6 [0, 1]), linkUp, by first | decide | rfl | simp +decide [State.isCandidate], by first | decide | rfl | simp +decide [State.isCandidate], by first | decide | rfl | simp +decide [State.isCandidate], by first | decide | rfl | simp +decide [State.isCandidate], by first | decide | rfl | simp +decide [State.isCandidate], by first | decide | rfl | simp +decide [State.isCandidate]⟩,
   ⟨(twinFrame 1 []), (twinned.put .TWIN_STATE 0 0), by first | decide | rfl | simp +decide [State.isCandidate], by first | decide | rfl | simp +decide [State.isCandidate], by first | decide | rfl | simp +decide [State.isCandidate], by first | decide | rfl | simp +decide [State.isCandidate], by first | decide | rfl | simp +decide [State.isCandidate], by first | decide | rfl | simp +decide [State.isCandidate]⟩,
   ⟨(twinFrame 1 [0, 5]), (twinned.put .TWIN_STATE 0 5), by first | decide | rfl | simp +decide [State.isCandidate], by first | decide | rfl | simp +decide [State.isCandidate], by first | decide | rfl | simp +decide [State.isCandidate], by first | decide | rfl | simp +decide [State.isCandidate], by first | decide | rfl | simp +decide [State.isCandidate], by first | decide | rfl | simp +decide [State.isCandidate], by first | decide | rfl | simp +decide [State.isCandidate]⟩,
   ⟨(twinFrame 1 [0, 3]), (twinned.put .TWIN_STATE 0 5), by first | decide | rfl | simp +decide [State.isCandidate], by first | decide | rfl | simp +decide [State.isCandidate], by first | decide | rfl | simp +decide [State.isCandidate], by first | decide | rfl | simp +decide [State.isCandidate], by first | decide | rfl | simp +decide [State.isCandidate], by first | decide | rfl | simp +decide [State.isCandidate], by first | decide | rfl | simp +decide [State.isCandidate]⟩,
   ⟨(twinFrame 2 (List.replicate 79 3)), twinned, by first | decide | rfl | simp +decide [State.isCandidate], by first | decide | rfl | simp +decide [State.isCandidate], by first | decide | rfl | simp +decide [State.isCandidate], by first | decide | rfl | simp +decide [State.isCandidate], by first | decide | rfl | simp +decide [State.isCandidate], by first | decide | rfl | simp +decide [State.isCandidate]⟩,
   ⟨(twinFrame 3 []), ([]), twinned, by first | decide | rfl | simp +decide [State.isCandidate], by first | decide | rfl | simp +decide [State.isCandidate], by first | decide | rfl | simp +decide [State.isCandidate], by first | decide | rfl | simp +decide [State.isCandidate], by first | decide | rfl | simp +decide [State.isCandidate], by first | decide | rfl | simp +decide [State.isCandidate], by first | decide | rfl | simp +decide [State.isCandidate]⟩,
   ⟨(twinFrame 3 []), ([]), (twinned.put .TWIN_ENABLE 0 0), by first | decide | rfl | simp +decide [State.isCandidate], by first | decide | rfl | simp +decide [State.isCandidate], by first | decide | rfl | simp +decide [State.isCandidate], by first | decide | rfl | simp +decide [State.isCandidate], by first | decide | rfl | simp +decide [State.isCandidate]⟩,
   ⟨(twinFrame 4 ([0, 8, 0, 1, 0, 0, 0, 0, 0, 3, 0, 0, 0, 0, 0] ++ List.replicate 8 9)), (twinned.put .TWIN_STATE 0 2), by first | decide | rfl | simp +decide [State.isCandidate], by first | decide | rfl | simp +decide [State.isCandidate], by first | decide | rfl | simp +decide [State.isCandidate], by first | decide | rfl | simp +decide [State.isCandidate], by first | decide | rfl | simp +decide [State.isCandidate], by first | decide | rfl | simp +decide [State.isCandidate], by first | decide | rfl | simp +decide [State.isCandidate], by first | decide | rfl | simp +decide [State.isCandidate]⟩,
   ⟨(ready.put .TWIN_STATE 0 2), by first | decide | rfl | simp +decide [State.isCandidate], by first | decide | rfl | simp +decide [State.isCandidate]⟩⟩

/-- States and operands that meet the hypotheses of each clause of TwinHandover. -/
theorem test_witness_twin_handover :
    (∃ (w : Who) (v : Nat) (s : State), s.Open w .operator .TWIN_SWITCH ∧ s.mayHandOver = true ∧ s.twin.giving =
      none) ∧
    (∃ (w : Who) (v : Nat) (s : State), s.Open w .operator .TWIN_SWITCH ∧ s.mayHandOver = false) ∧
    (∃ (h : Int) (g : Int) (s : State), s.twin.giving = some h ∧ s.gridIndex = some g ∧ h - 64 ≤ g ∧ s.twin.granted =
      false ∧ s.get .TWIN_STATE 0 = 5) ∧
    (∃ (h : Int) (s : State), s.twin.giving = some h ∧ s.get .TWIN_STATE 0 = 5 ∧ s.twin.granted = true ∧ s.instant h
      ≤ s.time.vt) ∧
    (∃ (h : Int) (s : State), s.twin.giving = none ∧ s.twin.taking = some h ∧ s.get .TWIN_STATE 0 = 3 ∧ s.twin.holds
      = true ∧ s.instant h + 4000 * 16777216 ≤ s.time.vt) ∧
    (∃ (s : State), s.twin.giving = none ∧ s.twin.taking = none) ∧
    (∃ (k : Int) (n : Nat) (s : State), s.twin.seenFrom = some k ∧ s.get .TWIN_STATE 0 = 5 ∧ k + 4 ≤ s.tickKey ∧ n =
      (List.range 32).countP (fun b => s.get .BANK_ENABLE b == 1 && !bit (s.get .COMP_STATUS b) 5) ∧ 0 < n) :=
  ⟨⟨host, 1, handing, ⟨by decide, by decide, by decide⟩, by first | decide | rfl | simp +decide [State.isCandidate], by first | decide | rfl | simp +decide [State.isCandidate]⟩,
   ⟨host, 1, ready, ⟨by decide, by decide, by decide⟩, by first | decide | rfl | simp +decide [State.isCandidate]⟩,
   ⟨50, 0, ({ handing with twin := { handing.twin with giving := some 50 } }), by first | decide | rfl | simp +decide [State.isCandidate], by first | decide | rfl | simp +decide [State.isCandidate], by first | decide | rfl | simp +decide [State.isCandidate], by first | decide | rfl | simp +decide [State.isCandidate], by first | decide | rfl | simp +decide [State.isCandidate]⟩,
   ⟨0, ({ handing with twin := { handing.twin with giving := some 0, granted := true } }), by first | decide | rfl | simp +decide [State.isCandidate], by first | decide | rfl | simp +decide [State.isCandidate], by first | decide | rfl | simp +decide [State.isCandidate], by first | decide | rfl | simp +decide [State.isCandidate]⟩,
   ⟨0, ({ handing with twin := { taking := some 0, holds := true }, time := { handing.time with vt := second24 } }.put .TWIN_STATE 0 3), by first | decide | rfl | simp +decide [State.isCandidate], by first | decide | rfl | simp +decide [State.isCandidate], by first | decide | rfl | simp +decide [State.isCandidate], by first | decide | rfl | simp +decide [State.isCandidate], by first | decide | rfl | simp +decide [State.isCandidate]⟩,
   ⟨ready, by first | decide | rfl | simp +decide [State.isCandidate], by first | decide | rfl | simp +decide [State.isCandidate]⟩,
   ⟨(-9), 1, ({ handing.put .BANK_ENABLE 2 1 with twin := { seenFrom := some (-9) } }), by first | decide | rfl | simp +decide [State.isCandidate], by first | decide | rfl | simp +decide [State.isCandidate], by first | decide | rfl | simp +decide [State.isCandidate], by first | decide | rfl | simp +decide [State.isCandidate], by first | decide | rfl | simp +decide [State.isCandidate]⟩⟩

/-- States and operands that meet the hypotheses of each clause of MailboxCommands. -/
theorem test_witness_mailbox_commands :
    (∃ (w : Who) (k : Fin 8) (v : Nat) (s : State), s.Open w .operator .MBX_OPEN ∧ w.session ≠ 0 ∧ s.get .MBX_STATE k
      = 0) ∧
    (∃ (w : Who) (k : Fin 8) (v : Nat) (s : State), s.Open w .operator .MBX_OPEN ∧ w.session ≠ 0 ∧ s.get .MBX_STATE k
      ≠ 0) ∧
    (∃ (w : Who) (k : Fin 8) (s : State), s.Open w .operator .MBX_CLOSE ∧ s.boundTo w k = true) ∧
    (∃ (w : Who) (k : Fin 8) (n : Notice) (s : State), s.Open w .operator .MBX_POST ∧ s.boundTo w k = true ∧ n.formed
      = true ∧ (s.box k).inbox.length < 4 ∧ n.nseq = ((s.box k).inSeq + 1) % 65536) ∧
    (∃ (w : Who) (k : Fin 8) (n : Notice) (s : State), s.Open w .operator .MBX_POST ∧ s.boundTo w k = true ∧ n.formed
      = true ∧ 4 ≤ (s.box k).inbox.length) ∧
    (∃ (w : Who) (k : Fin 8) (x : Notice) (l : List Notice) (s : State), s.served = true ∧
      Obj.MBX_TAKE.info.role.rank ≤ w.role.rank ∧ s.barred w .MBX_TAKE false = none ∧ s.boundTo w k = true ∧ (s.box
      k).outbox = x :: l ∧ (s.box k).held = []) ∧
    (∃ (w : Who) (k : Fin 8) (s : State), s.served = true ∧ Obj.MBX_TAKE.info.role.rank ≤ w.role.rank ∧ s.barred w
      .MBX_TAKE false = none ∧ s.boundTo w k = true ∧ (s.box k).outbox = []) ∧
    (∃ (w : Who) (k : Fin 8) (s : State), s.served = true ∧ Obj.MBX_TAKE.info.role.rank ≤ w.role.rank ∧ s.barred w
      .MBX_TAKE false = none ∧ s.boundTo w k = false) ∧
    (∃ (w : Who) (k : Fin 8) (n : Nat) (s : State), s.Open w .operator .MBX_ACK_RX ∧ s.boundTo w k = true ∧ precedes
      16 (s.box k).ackRx n = true ∧ precedes 16 (s.box k).taken n = false) ∧
    (∃ (w : Who) (k : Fin 8) (n : Nat) (s : State), s.Open w .operator .MBX_ACK_RX ∧ s.boundTo w k = true ∧ precedes
      16 (s.box k).ackRx n = true ∧ precedes 16 (s.box k).taken n = true) ∧
    (∃ (w : Who) (k : Fin 8) (offset : Nat) (d : List Byte) (s : State), s.Open w .operator .MBX_TX_DATA ∧ s.boundTo
      w k = true ∧ offset % 4 = 0 ∧ offset + d.length ≤ 32768) ∧
    (∃ (k : Fin 8) (n : Notice) (d : List Byte) (s : State), s.get .MBX_STATE k ≠ 0 ∧ n.formed = true ∧ d.length =
      n.length ∧ (s.box k).held = [] ∧ (s.box k).outbox.length < 4) ∧
    (∃ (k : Fin 8) (n : Notice) (d : List Byte) (s : State), s.get .MBX_STATE k ≠ 0 ∧ n.formed = true ∧ d.length =
      n.length ∧ 4 ≤ (s.box k).outbox.length) ∧
    (∃ (k : Fin 8) (n : Notice) (d : List Byte) (s : State), (s.get .MBX_STATE k = 0 ∨ n.formed = false ∨ d.length ≠
      n.length)) ∧
    (∃ (k : Fin 8) (s : State), s.get .MBX_STATE k ≠ 0 ∧ (s.box k).held = []) ∧
    (∃ (k : Fin 8) (n : Nat) (s : State), s.get .MBX_STATE k ≠ 0 ∧ (s.box k).inWanted.contains n = true ∧ (s.box
      k).inbox.any (fun x => x.nseq == n) = false) ∧
    (∃ (k : Fin 8) (n : Nat) (s : State), n = (s.box k).unacked.countP (fun x => !x.2.2 && decide ((x.2.1 : Int) +
      s.get .MBX_ACK_TIMEOUT 0 < s.time.kt)) ∧ 0 < n) ∧
    (∃ (k : Fin 8) (s : State), s.get .MBX_STATE k = 2 ∧ (s.box k).crossed = true ∧ ((s.box k).crossedAt : Int) +
      s.get .MBX_CROSS_TIMEOUT 0 < s.time.kt) :=
  ⟨⟨host, 3, 1, ready, ⟨by decide, by decide, by decide⟩, by first | decide | rfl | simp +decide [State.isCandidate], by first | decide | rfl | simp +decide [State.isCandidate]⟩,
   ⟨host, 3, 1, boxed, ⟨by decide, by decide, by decide⟩, by first | decide | rfl | simp +decide [State.isCandidate], by first | decide | rfl | simp +decide [State.isCandidate]⟩,
   ⟨host, 3, boxed, ⟨by decide, by decide, by decide⟩, by first | decide | rfl | simp +decide [State.isCandidate]⟩,
   ⟨host, 3, note1, boxed, ⟨by decide, by decide, by decide⟩, by first | decide | rfl | simp +decide [State.isCandidate], by first | decide | rfl | simp +decide [State.isCandidate], by first | decide | rfl | simp +decide [State.isCandidate], by first | decide | rfl | simp +decide [State.isCandidate]⟩,
   ⟨host, 3, note1, (boxed.setBox 3 { session := 1, inbox := [note1, note1, note1, note1] }), ⟨by decide, by decide, by decide⟩, by first | decide | rfl | simp +decide [State.isCandidate], by first | decide | rfl | simp +decide [State.isCandidate], by first | decide | rfl | simp +decide [State.isCandidate]⟩,
   ⟨host, 3, note1, ([]), (boxed.setBox 3 { session := 1, outbox := [note1] }), by first | decide | rfl | simp +decide [State.isCandidate], by first | decide | rfl | simp +decide [State.isCandidate], by first | decide | rfl | simp +decide [State.isCandidate], by first | decide | rfl | simp +decide [State.isCandidate], by first | decide | rfl | simp +decide [State.isCandidate], by first | decide | rfl | simp +decide [State.isCandidate]⟩,
   ⟨host, 3, boxed, by first | decide | rfl | simp +decide [State.isCandidate], by first | decide | rfl | simp +decide [State.isCandidate], by first | decide | rfl | simp +decide [State.isCandidate], by first | decide | rfl | simp +decide [State.isCandidate], by first | decide | rfl | simp +decide [State.isCandidate]⟩,
   ⟨host, 3, ready, by first | decide | rfl | simp +decide [State.isCandidate], by first | decide | rfl | simp +decide [State.isCandidate], by first | decide | rfl | simp +decide [State.isCandidate], by first | decide | rfl | simp +decide [State.isCandidate]⟩,
   ⟨host, 3, 1, (boxed.setBox 3 { session := 1, taken := 2 }), ⟨by decide, by decide, by decide⟩, by first | decide | rfl | simp +decide [State.isCandidate], by first | decide | rfl | simp +decide [State.isCandidate], by first | decide | rfl | simp +decide [State.isCandidate]⟩,
   ⟨host, 3, 5, (boxed.setBox 3 { session := 1, taken := 2 }), ⟨by decide, by decide, by decide⟩, by first | decide | rfl | simp +decide [State.isCandidate], by first | decide | rfl | simp +decide [State.isCandidate], by first | decide | rfl | simp +decide [State.isCandidate]⟩,
   ⟨host, 3, 32764, ([1, 2, 3, 4]), boxed, ⟨by decide, by decide, by decide⟩, by first | decide | rfl | simp +decide [State.isCandidate], by first | decide | rfl | simp +decide [State.isCandidate], by first | decide | rfl | simp +decide [State.isCandidate]⟩,
   ⟨3, note1, ([]), boxed, by first | decide | rfl | simp +decide [State.isCandidate], by first | decide | rfl | simp +decide [State.isCandidate], by first | decide | rfl | simp +decide [State.isCandidate], by first | decide | rfl | simp +decide [State.isCandidate], by first | decide | rfl | simp +decide [State.isCandidate]⟩,
   ⟨3, note1, ([]), (boxed.setBox 3 { session := 1, outbox := [note1, note1, note1, note1] }), by first | decide | rfl | simp +decide [State.isCandidate], by first | decide | rfl | simp +decide [State.isCandidate], by first | decide | rfl | simp +decide [State.isCandidate], by first | decide | rfl | simp +decide [State.isCandidate]⟩,
   ⟨3, note1, ([1]), boxed, by first | decide | rfl | simp +decide [State.isCandidate]⟩,
   ⟨3, (boxed.setBox 3 { session := 1, inbox := [note1] }), by first | decide | rfl | simp +decide [State.isCandidate], by first | decide | rfl | simp +decide [State.isCandidate]⟩,
   ⟨3, 5, (boxed.setBox 3 { session := 1, inWanted := [5, 6] }), by first | decide | rfl | simp +decide [State.isCandidate], by first | decide | rfl | simp +decide [State.isCandidate], by first | decide | rfl | simp +decide [State.isCandidate]⟩,
   ⟨3, 1, (hbLost.setBox 3 { unacked := [(4, 0, false)] }), by first | decide | rfl | simp +decide [State.isCandidate], by first | decide | rfl | simp +decide [State.isCandidate]⟩,
   ⟨3, crossedBox, by first | decide | rfl | simp +decide [State.isCandidate], by first | decide | rfl | simp +decide [State.isCandidate], by first | decide | rfl | simp +decide [State.isCandidate]⟩⟩

/-- States and operands that meet the hypotheses of each clause of LocksAndJournal. -/
theorem test_witness_locks_and_journal :
    (∃ (w : Who) (n : Fin 32) (s : State), s.served = true ∧ Obj.LOCK_n.info.role.rank ≤ w.role.rank ∧ s.barred w
      .LOCK_n false = none ∧ w.owner ≠ 0 ∧ s.get .LOCK_n n = 0) ∧
    (∃ (w : Who) (n : Fin 32) (s : State), s.served = true ∧ Obj.LOCK_n.info.role.rank ≤ w.role.rank ∧ s.barred w
      .LOCK_n false = none ∧ w.owner ≠ 0 ∧ s.get .LOCK_n n ≠ 0 ∧ s.get .LOCK_n n ≠ w.owner) ∧
    (∃ (w : Who) (n : Fin 32) (s : State), s.Open w .operator .LOCK_RELEASE ∧ s.get .LOCK_n n = w.owner ∧ w.owner ≠
      0) ∧
    (∃ (w : Who) (n : Fin 32) (s : State), s.Open w .operator .LOCK_RELEASE ∧ s.get .LOCK_n n ≠ w.owner) ∧
    (∃ (w : Who) (n : Fin 32) (s : State), s.Open w .service .LOCK_FORCE) ∧
    (∃ (n : Fin 32) (s : State), s.get .LOCK_n n ≠ 0 ∧ (s.lockTime n : Int) + s.get .LOCK_TIMEOUT 0 < s.time.kt) ∧
    (∃ (w : Who) (p : Fin 1024) (bad : List Nat) (s : State), s.served = true ∧ Obj.JRN_PAGE_p.info.role.rank ≤
      w.role.rank ∧ s.barred w .JRN_PAGE_p false = none ∧ bad = [] ∧ ((∀ i < 64, s.journal.badSlots.contains (64 *
      p.val + i) = false ∧ entryOk (Sparse.get (fun _ => List.replicate 32 (0 : Byte)) s.journal.slots (64 * p.val +
      i)) = true))) ∧
    (∃ (w : Who) (p : Fin 1024) (bad : List Nat) (s : State), s.served = true ∧ Obj.JRN_PAGE_p.info.role.rank ≤
      w.role.rank ∧ s.barred w .JRN_PAGE_p false = none ∧ bad = List.range 64 ∧ s.get .JRN_MIRROR_STATE 0 ≠ 2) ∧
    (∃ (slot : Nat) (e : List Byte) (m : List (Nat × List Byte)) (s : State), s.journal.mirrorDue = (slot, e) :: m ∧
      s.get .JRN_MIRROR 0 = 1 ∧ s.get .CAVE_STATE 0 = 2) ∧
    (∃ (slot : Nat) (e : List Byte) (m : List (Nat × List Byte)) (s : State), s.journal.mirrorDue = (slot, e) :: m ∧
      s.get .JRN_MIRROR 0 = 1 ∧ s.get .CAVE_STATE 0 = 2) ∧
    (∃ (s : State), s.get .JRN_MIRROR_STATE 0 = 1 ∧ s.get .CAVE_STATE 0 = 2) ∧
    (∃ (w : Who) (q : Nat) (s : State), s.Open w .operator .JRN_HOST_MARK ∧ s.notActingFor w = false) :=
  ⟨⟨host, 5, ready, by first | decide | rfl | simp +decide [State.isCandidate], by first | decide | rfl | simp +decide [State.isCandidate], by first | decide | rfl | simp +decide [State.isCandidate], by first | decide | rfl | simp +decide [State.isCandidate], by first | decide | rfl | simp +decide [State.isCandidate]⟩,
   ⟨host, 5, (ready.put .LOCK_n 5 99), by first | decide | rfl | simp +decide [State.isCandidate], by first | decide | rfl | simp +decide [State.isCandidate], by first | decide | rfl | simp +decide [State.isCandidate], by first | decide | rfl | simp +decide [State.isCandidate], by first | decide | rfl | simp +decide [State.isCandidate], by first | decide | rfl | simp +decide [State.isCandidate]⟩,
   ⟨host, 5, (ready.put .LOCK_n 5 host.owner), ⟨by decide, by decide, by decide⟩, by first | decide | rfl | simp +decide [State.isCandidate], by first | decide | rfl | simp +decide [State.isCandidate]⟩,
   ⟨host, 5, ready, ⟨by decide, by decide, by decide⟩, by first | decide | rfl | simp +decide [State.isCandidate]⟩,
   ⟨host, 5, (ready.put .LOCK_n 5 99), ⟨by decide, by decide, by decide⟩⟩,
   ⟨5, (hbLost.put .LOCK_n 5 99), by first | decide | rfl | simp +decide [State.isCandidate], by first | decide | rfl | simp +decide [State.isCandidate]⟩,
   ⟨host, 1023, ([]), ready, by first | decide | rfl | simp +decide [State.isCandidate], by first | decide | rfl | simp +decide [State.isCandidate], by first | decide | rfl | simp +decide [State.isCandidate], by first | decide | rfl | simp +decide [State.isCandidate], by first | decide | rfl | simp +decide [State.isCandidate]⟩,
   ⟨host, 1023, (List.range 64), ready, by first | decide | rfl | simp +decide [State.isCandidate], by first | decide | rfl | simp +decide [State.isCandidate], by first | decide | rfl | simp +decide [State.isCandidate], by first | decide | rfl | simp +decide [State.isCandidate], by first | decide | rfl | simp +decide [State.isCandidate]⟩,
   ⟨4, ([7]), ([]), ({ (ready.put .CAVE_STATE 0 2).put .JRN_MIRROR 0 1 with journal := { mirrorDue := [(4, [7])] } }), by first | decide | rfl | simp +decide [State.isCandidate], by first | decide | rfl | simp +decide [State.isCandidate], by first | decide | rfl | simp +decide [State.isCandidate]⟩,
   ⟨4, ([7]), ([]), ({ (ready.put .CAVE_STATE 0 2).put .JRN_MIRROR 0 1 with journal := { mirrorDue := [(4, [7])] } }), by first | decide | rfl | simp +decide [State.isCandidate], by first | decide | rfl | simp +decide [State.isCandidate], by first | decide | rfl | simp +decide [State.isCandidate]⟩,
   ⟨((ready.put .JRN_MIRROR_STATE 0 1).put .CAVE_STATE 0 2), by first | decide | rfl | simp +decide [State.isCandidate], by first | decide | rfl | simp +decide [State.isCandidate]⟩,
   ⟨host, 5, ready, ⟨by decide, by decide, by decide⟩, by first | decide | rfl | simp +decide [State.isCandidate]⟩⟩

/-- States and operands that meet the hypotheses of each clause of FenceCommands. -/
theorem test_witness_fence_commands :
    (∃ (w : Who) (cls : Fin 10) (n : Nat) (s : State), s.Open w .service .FENCE_SET ∧ n < fenceInstances cls ∧
      s.fenced cls n = false ∧ (s.fenceTick cls n).lifted = false ∧ (cls.val ≠ 9 ∨ s.otherCore n = true)) ∧
    (∃ (w : Who) (cls : Fin 10) (n : Nat) (s : State), s.Open w .service .FENCE_SET ∧ n < fenceInstances cls ∧
      s.fenced cls n = false ∧ (s.fenceTick cls n).lifted = false ∧ cls.val = 9 ∧ s.otherCore n = false) ∧
    (∃ (w : Who) (cls : Fin 10) (n : Nat) (s : State), s.Open w .service .FENCE_SET ∧ n < fenceInstances cls ∧
      s.fenced cls n = true) ∧
    (∃ (w : Who) (cls : Fin 10) (n : Nat) (s : State), s.Open w .service .FENCE_SET ∧ fenceInstances cls ≤ n) ∧
    (∃ (w : Who) (cls : Fin 10) (n : Nat) (s : State), s.Open w .service .FENCE_LIFT ∧ n < fenceInstances cls ∧
      s.fenced cls n = true ∧ (s.fenceTick cls n).auto = false) ∧
    (∃ (w : Who) (cls : Fin 10) (n : Nat) (s : State), s.Open w .service .FENCE_LIFT ∧ n < fenceInstances cls ∧
      s.fenced cls n = true ∧ (s.fenceTick cls n).auto = true) ∧
    (∃ (b : Fin 32) (s : State), s.mayFence 0 = true ∧ s.fenced 0 b = false) ∧
    (∃ (b : Fin 32) (s : State), s.mayFence 0 = false) ∧
    (∃ (core : Fin 2) (s : State), s.served = true ∧ s.fenced 9 core = false ∧ bit (s.get .DEBUG_HALTED 0) core =
      false ∧ s.otherCore core = true ∧ s.mayFence 9 = true) ∧
    (∃ (core : Fin 2) (s : State), s.served = true ∧ s.fenced 9 core = false ∧ bit (s.get .DEBUG_HALTED 0) core =
      false ∧ s.otherCore core = false ∧ s.boot.rstLow = false) ∧
    (∃ (core : Fin 2) (s : State), (s.fenced 9 core = true ∨ bit (s.get .DEBUG_HALTED 0) core = true ∨ s.served =
      false)) ∧
    (∃ (c : Nat) (bad : List CurdFault) (s : State), 0 < c ∧ bad = []) ∧
    (∃ (c : Nat) (bad : List CurdFault) (s : State), c = 0 ∧ bad = [.other]) ∧
    (∃ (c : Nat) (bad : List CurdFault) (q : Fin 16) (k : Nat) (x : Slot) (s : State), c = 0 ∧ bad = [.queueSlot q k]
      ∧ (s.queue q).slots[k]? = some x) ∧
    (∃ (c : Nat) (bad : List CurdFault) (s : State), c = 0 ∧ bad = []) :=
  ⟨⟨host, 5, 3, ready, ⟨by decide, by decide, by decide⟩, by first | decide | rfl | simp +decide [State.isCandidate], by first | decide | rfl | simp +decide [State.isCandidate], by first | decide | rfl | simp +decide [State.isCandidate], by first | decide | rfl | simp +decide [State.isCandidate]⟩,
   ⟨host, 9, 1, (ready.put .FENCED 9 1), ⟨by decide, by decide, by decide⟩, by first | decide | rfl | simp +decide [State.isCandidate], by first | decide | rfl | simp +decide [State.isCandidate], by first | decide | rfl | simp +decide [State.isCandidate], by first | decide | rfl | simp +decide [State.isCandidate], by first | decide | rfl | simp +decide [State.isCandidate]⟩,
   ⟨host, 5, 3, (ready.put .FENCED 5 8), ⟨by decide, by decide, by decide⟩, by first | decide | rfl | simp +decide [State.isCandidate], by first | decide | rfl | simp +decide [State.isCandidate]⟩,
   ⟨host, 5, 16, ready, ⟨by decide, by decide, by decide⟩, by first | decide | rfl | simp +decide [State.isCandidate]⟩,
   ⟨host, 5, 3, (ready.put .FENCED 5 8), ⟨by decide, by decide, by decide⟩, by first | decide | rfl | simp +decide [State.isCandidate], by first | decide | rfl | simp +decide [State.isCandidate], by first | decide | rfl | simp +decide [State.isCandidate]⟩,
   ⟨host, 5, 3, ((ready.put .FENCED 5 8).setFenceTick 5 3 { auto := true }), ⟨by decide, by decide, by decide⟩, by first | decide | rfl | simp +decide [State.isCandidate], by first | decide | rfl | simp +decide [State.isCandidate], by first | decide | rfl | simp +decide [State.isCandidate]⟩,
   ⟨31, (run0.put .FENCE_AUTO 0 1), by first | decide | rfl | simp +decide [State.isCandidate], by first | decide | rfl | simp +decide [State.isCandidate]⟩,
   ⟨31, (run0.put .FENCE_AUTO 0 0), by first | decide | rfl | simp +decide [State.isCandidate]⟩,
   ⟨1, (ready.put .FENCE_AUTO 9 1), by first | decide | rfl | simp +decide [State.isCandidate], by first | decide | rfl | simp +decide [State.isCandidate], by first | decide | rfl | simp +decide [State.isCandidate], by first | decide | rfl | simp +decide [State.isCandidate], by first | decide | rfl | simp +decide [State.isCandidate]⟩,
   ⟨1, ({ ready.put .FENCED 9 1 with boot := { rstLow := false } }), by first | decide | rfl | simp +decide [State.isCandidate], by first | decide | rfl | simp +decide [State.isCandidate], by first | decide | rfl | simp +decide [State.isCandidate], by first | decide | rfl | simp +decide [State.isCandidate], by first | decide | rfl | simp +decide [State.isCandidate]⟩,
   ⟨1, (ready.put .FENCED 9 2), by first | decide | rfl | simp +decide [State.isCandidate]⟩,
   ⟨2, ([]), ready, by first | decide | rfl | simp +decide [State.isCandidate], by first | decide | rfl | simp +decide [State.isCandidate]⟩,
   ⟨0, ([.other]), ready, by first | decide | rfl | simp +decide [State.isCandidate], by first | decide | rfl | simp +decide [State.isCandidate]⟩,
   ⟨0, ([.queueSlot 3 0]), 3, 0, headSlot, (ready.setQueue 3 { depth := 64, slots := [headSlot] }), by first | decide | rfl | simp +decide [State.isCandidate], by first | decide | rfl | simp +decide [State.isCandidate], by first | decide | rfl | simp +decide [State.isCandidate]⟩,
   ⟨0, ([]), ready, by first | decide | rfl | simp +decide [State.isCandidate], by first | decide | rfl | simp +decide [State.isCandidate]⟩⟩

/-- States and operands that meet the hypotheses of each clause of SecurityCommands. -/
theorem test_witness_security_commands :
    (∃ (w : Who) (s : State), s.Open w .service .SEC_CLOSE ∧ s.get .SEC_STATE 0 = 0 ∧ noKey (s.getBytes .ROLE_KEY_r
      2) = false) ∧
    (∃ (w : Who) (s : State), s.Open w .service .SEC_CLOSE ∧ s.get .SEC_STATE 0 = 0 ∧ noKey (s.getBytes .ROLE_KEY_r
      2) = true) ∧
    (∃ (w : Who) (s : State), s.Open w .service .SEC_CLOSE ∧ s.get .SEC_STATE 0 ≠ 0) ∧
    (∃ (w : Who) (s : State), s.Open w .engineer .SEC_RECLOSE ∧ s.reopened = true) ∧
    (∃ (w : Who) (s : State), s.Open w .engineer .SEC_RECLOSE ∧ s.reopened = false) ∧
    (∃ (w : Who) (v : Nat) (s : State), s.Open w .service .SEC_REVOKE ∧ v = 0xA5A50F0F) ∧
    (∃ (w : Who) (v : Nat) (s : State), s.Open w .service .SEC_REVOKE ∧ v ≠ 0xA5A50F0F) ∧
    (∃ (w : Who) (k : Nat) (s : State), s.Open w .service .FW_KEY_REVOKE ∧ k < 4 ∧ imageKeySlot (s.image (s.get
      .FW_RUNNING 0).toNat) ≠ k ∧ (List.range 4).filter (fun j => !bit (s.get .FW_KEY_REVOKED 0) j) ≠ [k]) ∧
    (∃ (w : Who) (pw : List Byte) (s : State), s.Open w .engineer .REOPEN_PASSWORD ∧ s.reopenable = true ∧ 8 ≤
      pw.length ∧ pw.length ≤ 32 ∧ s.get .PASSWORD_LOCKED_UNTIL 0 ≤ s.time.kt ∧ s.get .PASSWORD_FAILS 0 < 4) ∧
    (∃ (w : Who) (pw : List Byte) (s : State), s.Open w .engineer .REOPEN_PASSWORD ∧ s.reopenable = true ∧ 8 ≤
      pw.length ∧ pw.length ≤ 32 ∧ s.get .PASSWORD_LOCKED_UNTIL 0 ≤ s.time.kt ∧ 4 ≤ s.get .PASSWORD_FAILS 0 ∧ s.get
      .PASSWORD_FAILS 0 < 4294967295 ∧ s.passwordMatches pw = false) ∧
    (∃ (w : Who) (pw : List Byte) (s : State), s.Open w .engineer .REOPEN_PASSWORD ∧ s.reopenable = true ∧ 8 ≤
      pw.length ∧ pw.length ≤ 32 ∧ s.time.kt < s.get .PASSWORD_LOCKED_UNTIL 0) ∧
    (∃ (w : Who) (pw : List Byte) (s : State), s.Open w .engineer .REOPEN_PASSWORD ∧ s.reopenable = true ∧ (pw.length
      < 8 ∨ 32 < pw.length)) ∧
    (∃ (w : Who) (c : List Byte) (s : State), s.served = true ∧ Obj.REOPEN_CHALLENGE.info.role.rank ≤ w.role.rank ∧
      s.barred w .REOPEN_CHALLENGE false = none ∧ s.reopenable = true ∧ c = (Config.freeBytes s.draws 32 ++
      List.replicate 32 0).take 32 ++ (Config.sha256 (s.getBytes .DEVICE_PUB 0)).take 16) ∧
    (∃ (w : Who) (r : List Byte) (s : State), s.Open w .observer .REOPEN_RESPONSE ∧ s.reopenable = true ∧ r.length =
      65) ∧
    (∃ (w : Who) (r : List Byte) (s : State), s.Open w .observer .REOPEN_RESPONSE ∧ s.reopenable = true ∧ r.length ≠
      65) ∧
    (∃ (s : State), s.reopened = true ∧ s.sec.reopenEnd < s.time.kt) ∧
    (∃ (s : State), (s.reopened = false ∨ s.time.kt ≤ s.sec.reopenEnd)) ∧
    (∃ (w : Who) (pw : List Byte) (s : State), s.Open w .service .PASSWORD_SET ∧ s.get .SEC_STATE 0 = 0 ∧ 8 ≤
      pw.length ∧ pw.length ≤ 32) :=
  ⟨⟨host, keyed, ⟨by decide, by decide, by decide⟩, by first | decide | rfl | simp +decide [State.isCandidate], by first | decide | rfl | simp +decide [State.isCandidate]⟩,
   ⟨host, ready, ⟨by decide, by decide, by decide⟩, by first | decide | rfl | simp +decide [State.isCandidate], by first | decide | rfl | simp +decide [State.isCandidate]⟩,
   ⟨host, closed, ⟨by decide, by decide, by decide⟩, by first | decide | rfl | simp +decide [State.isCandidate]⟩,
   ⟨host, (ready.put .SEC_STATE 0 2), ⟨by decide, by decide, by decide⟩, by first | decide | rfl | simp +decide [State.isCandidate]⟩,
   ⟨host, closed, ⟨by decide, by decide, by decide⟩, by first | decide | rfl | simp +decide [State.isCandidate]⟩,
   ⟨host, 0xA5A50F0F, keyed, ⟨by decide, by decide, by decide⟩, by first | decide | rfl | simp +decide [State.isCandidate]⟩,
   ⟨host, 1, keyed, ⟨by decide, by decide, by decide⟩, by first | decide | rfl | simp +decide [State.isCandidate]⟩,
   ⟨host, 3, ({ ready.put .FW_RUNNING 0 0 with sec := { images := [(0, List.replicate 64 0)] } }), ⟨by decide, by decide, by decide⟩, by first | decide | rfl | simp +decide [State.isCandidate], by first | decide | rfl | simp +decide [State.isCandidate], by first | decide | rfl | simp +decide [State.isCandidate]⟩,
   ⟨host, (List.replicate 8 7), closed, ⟨by decide, by decide, by decide⟩, by first | decide | rfl | simp +decide [State.isCandidate], by first | decide | rfl | simp +decide [State.isCandidate], by first | decide | rfl | simp +decide [State.isCandidate], by first | decide | rfl | simp +decide [State.isCandidate], by first | decide | rfl | simp +decide [State.isCandidate]⟩,
   ⟨host, (List.replicate 8 7), (closed.put .PASSWORD_FAILS 0 6), ⟨by decide, by decide, by decide⟩, by first | decide | rfl | simp +decide [State.isCandidate], by first | decide | rfl | simp +decide [State.isCandidate], by first | decide | rfl | simp +decide [State.isCandidate], by first | decide | rfl | simp +decide [State.isCandidate], by first | decide | rfl | simp +decide [State.isCandidate], by first | decide | rfl | simp +decide [State.isCandidate], by first | decide | rfl | simp +decide [State.isCandidate]⟩,
   ⟨host, (List.replicate 8 7), (closed.put .PASSWORD_LOCKED_UNTIL 0 9), ⟨by decide, by decide, by decide⟩, by first | decide | rfl | simp +decide [State.isCandidate], by first | decide | rfl | simp +decide [State.isCandidate], by first | decide | rfl | simp +decide [State.isCandidate], by first | decide | rfl | simp +decide [State.isCandidate]⟩,
   ⟨host, (List.replicate 7 7), closed, ⟨by decide, by decide, by decide⟩, by first | decide | rfl | simp +decide [State.isCandidate], by first | decide | rfl | simp +decide [State.isCandidate]⟩,
   ⟨host, ((Config.freeBytes closed.draws 32 ++ List.replicate 32 0).take 32 ++ (Config.sha256 (closed.getBytes .DEVICE_PUB 0)).take 16), closed, by first | decide | rfl | simp +decide [State.isCandidate], by first | decide | rfl | simp +decide [State.isCandidate], by first | decide | rfl | simp +decide [State.isCandidate], by first | decide | rfl | simp +decide [State.isCandidate], by first | decide | rfl | simp +decide [State.isCandidate]⟩,
   ⟨host, (List.replicate 65 1), closed, ⟨by decide, by decide, by decide⟩, by first | decide | rfl | simp +decide [State.isCandidate], by first | decide | rfl | simp +decide [State.isCandidate]⟩,
   ⟨host, (List.replicate 64 1), closed, ⟨by decide, by decide, by decide⟩, by first | decide | rfl | simp +decide [State.isCandidate], by first | decide | rfl | simp +decide [State.isCandidate]⟩,
   ⟨({ ready with time := { ready.time with kt := 9 } }.put .SEC_STATE 0 2), by first | decide | rfl | simp +decide [State.isCandidate], by first | decide | rfl | simp +decide [State.isCandidate]⟩,
   ⟨ready, by first | decide | rfl | simp +decide [State.isCandidate]⟩,
   ⟨host, (List.replicate 32 7), ready, ⟨by decide, by decide, by decide⟩, by first | decide | rfl | simp +decide [State.isCandidate], by first | decide | rfl | simp +decide [State.isCandidate], by first | decide | rfl | simp +decide [State.isCandidate]⟩⟩

/-- States and operands that meet the hypotheses of each clause of FirmwareAndDebug. -/
theorem test_witness_firmware_and_debug :
    (∃ (w : Who) (d : List Byte) (s : State), s.Open w .engineer .FW_STAGE ∧ 4 ≤ d.length ∧ (d.drop 4).length ≤ 61440
      ∧ leNat (d.take 4) + (d.drop 4).length ≤ 2097152 ∧ s.updateRefused = false) ∧
    (∃ (w : Who) (s : State), s.Open w .engineer .FW_VERIFY ∧ s.updateRefused = false) ∧
    (∃ (w : Who) (s : State), s.Open w .engineer .FW_ACTIVATE ∧ s.updateRefused = false ∧ s.get .FW_STATE 0 = 2) ∧
    (∃ (w : Who) (s : State), s.Open w .engineer .FW_ACTIVATE ∧ s.updateRefused = false ∧ s.get .FW_STATE 0 = 2 ∧
      s.running = false ∧ s.get .TWIN_STATE 0 ≠ 5 ∧ s.boot.rstLow = false) ∧
    (∃ (w : Who) (s : State), s.Open w .engineer .FW_ACTIVATE ∧ (s.running = true ∨ s.get .TWIN_STATE 0 = 5 ∨ s.get
      .FW_STATE 0 ≠ 2)) ∧
    (∃ (w : Who) (s : State), s.Open w .engineer .FW_CONFIRM ∧ s.get .FW_STATE 0 = 4) ∧
    (∃ (s : State), s.get .FW_STATE 0 = 4 ∧ (s.sec.trialAt : Int) + s.get .FW_TRIAL_TIME 0 < s.time.kt ∧
      s.boot.rstLow = false) ∧
    (∃ (s : State), (s.get .FW_STATE 0 ≠ 4 ∨ (s.time.kt : Int) ≤ (s.sec.trialAt : Int) + s.get .FW_TRIAL_TIME 0)) ∧
    (∃ (w : Who) (v : Nat) (s : State), s.Open w .service .DEBUG_SET ∧ v ≤ 2) ∧
    (∃ (w : Who) (v : Nat) (s : State), s.Open w .service .DEBUG_SET ∧ 2 < v) ∧
    (∃ (i : Tap) (s : State), s.power.off = false ∧ i ≠ .reset ∧ s.tapAllows i = true) ∧
    (∃ (i : Tap) (s : State), s.power.off = false ∧ i ≠ .reset ∧ s.tapAllows i = false ∧ s.sec.tapRefused = false) ∧
    (∃ (core : Fin 2) (s : State), s.debugHas = true ∧ s.get .DEBUG_HALTED 0 = 0 ∧ s.get .PWR_STATE 0 ≠ 1) ∧
    (∃ (core : Fin 2) (s : State), (s.debugHas = false ∨ bit (s.get .DEBUG_HALTED 0) core = true)) ∧
    (∃ (core : Fin 2) (s : State), s.debugHas = true) :=
  ⟨⟨host, ([0, 0, 0, 0, 5]), ready, ⟨by decide, by decide, by decide⟩, by first | decide | rfl | simp +decide [State.isCandidate], by first | decide | rfl | simp +decide [State.isCandidate], by first | decide | rfl | simp +decide [State.isCandidate], by first | decide | rfl | simp +decide [State.isCandidate]⟩,
   ⟨host, ready, ⟨by decide, by decide, by decide⟩, by first | decide | rfl | simp +decide [State.isCandidate]⟩,
   ⟨host, (ready.put .FW_STATE 0 2), ⟨by decide, by decide, by decide⟩, by first | decide | rfl | simp +decide [State.isCandidate], by first | decide | rfl | simp +decide [State.isCandidate]⟩,
   ⟨host, ({ ready.put .FW_STATE 0 2 with boot := { rstLow := false } }), ⟨by decide, by decide, by decide⟩, by first | decide | rfl | simp +decide [State.isCandidate], by first | decide | rfl | simp +decide [State.isCandidate], by first | decide | rfl | simp +decide [State.isCandidate], by first | decide | rfl | simp +decide [State.isCandidate], by first | decide | rfl | simp +decide [State.isCandidate]⟩,
   ⟨host, ready, ⟨by decide, by decide, by decide⟩, by first | decide | rfl | simp +decide [State.isCandidate]⟩,
   ⟨host, (ready.put .FW_STATE 0 4), ⟨by decide, by decide, by decide⟩, by first | decide | rfl | simp +decide [State.isCandidate]⟩,
   ⟨({ hbLost.put .FW_STATE 0 4 with boot := { rstLow := false } }), by first | decide | rfl | simp +decide [State.isCandidate], by first | decide | rfl | simp +decide [State.isCandidate], by first | decide | rfl | simp +decide [State.isCandidate]⟩,
   ⟨ready, by first | decide | rfl | simp +decide [State.isCandidate]⟩,
   ⟨host, 2, ready, ⟨by decide, by decide, by decide⟩, by first | decide | rfl | simp +decide [State.isCandidate]⟩,
   ⟨host, 3, ready, ⟨by decide, by decide, by decide⟩, by first | decide | rfl | simp +decide [State.isCandidate]⟩,
   ⟨.bypass, ready, by first | decide | rfl | simp +decide [State.isCandidate], by first | decide | rfl | simp +decide [State.isCandidate], by first | decide | rfl | simp +decide [State.isCandidate]⟩,
   ⟨.other, ready, by first | decide | rfl | simp +decide [State.isCandidate], by first | decide | rfl | simp +decide [State.isCandidate], by first | decide | rfl | simp +decide [State.isCandidate], by first | decide | rfl | simp +decide [State.isCandidate]⟩,
   ⟨1, debugged, by first | decide | rfl | simp +decide [State.isCandidate], by first | decide | rfl | simp +decide [State.isCandidate], by first | decide | rfl | simp +decide [State.isCandidate]⟩,
   ⟨1, ready, by first | decide | rfl | simp +decide [State.isCandidate]⟩,
   ⟨1, (debugged.put .DEBUG_HALTED 0 3), by first | decide | rfl | simp +decide [State.isCandidate]⟩⟩

/-- States and operands that meet the hypotheses of each clause of PowerRequests. -/
theorem test_witness_power_requests :
    (∃ (w : Who) (s : State), s.Open w .engineer .PWR_REQUEST ∧ (s.get .PWR_STATE 0 = 1 ∨ s.get .PWR_STATE 0 = 2)) ∧
    (∃ (w : Who) (s : State), s.Open w .engineer .PWR_REQUEST ∧ (s.get .PWR_STATE 0 = 0 ∨ s.get .PWR_STATE 0 = 3)) ∧
    (∃ (w : Who) (s : State), s.Open w .engineer .PWR_REQUEST ∧ s.get .PWR_STATE 0 = 0 ∧ s.get .PWR_DIM_ENABLE 0 = 1
      ∧ s.running = true ∧ s.get .DEBUG_HALTED 0 = 0) ∧
    (∃ (w : Who) (s : State), s.Open w .engineer .PWR_REQUEST ∧ s.get .PWR_STATE 0 ≠ 1 ∧ s.running = false) ∧
    (∃ (w : Who) (s : State), s.Open w .engineer .PWR_REQUEST ∧ s.get .PWR_STATE 0 = 0 ∧ s.get .FRAME_STATE 0 = 0 ∧
      s.wokeNow = false) ∧
    (∃ (w : Who) (s : State), s.Open w .engineer .PWR_REQUEST ∧ s.get .PWR_STATE 0 ≠ 2 ∧ (s.get .PWR_STATE 0 ≠ 0 ∨
      s.get .FRAME_STATE 0 ≠ 0 ∨ s.wokeNow = true)) ∧
    (∃ (w : Who) (s : State), s.Open w .engineer .PWR_REQUEST ∧ s.unackedBytes = 0 ∧ s.wokeNow = false ∧ s.get
      .TWIN_ENABLE 0 = 0) ∧
    (∃ (w : Who) (s : State), s.Open w .engineer .PWR_REQUEST ∧ s.unackedBytes = 0 ∧ s.wokeNow = false ∧ s.get
      .TWIN_ENABLE 0 = 1 ∧ s.get .TWIN_STATE 0 = 5 ∧ s.mayHandOver = true) ∧
    (∃ (w : Who) (s : State), s.Open w .engineer .PWR_REQUEST ∧ s.unackedBytes ≠ 0) ∧
    (∃ (w : Who) (s : State), s.Open w .engineer .PWR_REQUEST ∧ w.role = .service ∧ s.wokeNow = false ∧ s.get
      .TWIN_ENABLE 0 = 0) ∧
    (∃ (w : Who) (s : State), s.Open w .engineer .PWR_REQUEST ∧ w.role = .engineer) :=
  ⟨⟨host, vigil, ⟨by decide, by decide, by decide⟩, by first | decide | rfl | simp +decide [State.isCandidate]⟩,
   ⟨host, ready, ⟨by decide, by decide, by decide⟩, by first | decide | rfl | simp +decide [State.isCandidate]⟩,
   ⟨host, ((run0.put .PWR_DIM_ENABLE 0 1).put .CAVE_STATE 0 2), ⟨by decide, by decide, by decide⟩, by first | decide | rfl | simp +decide [State.isCandidate], by first | decide | rfl | simp +decide [State.isCandidate], by first | decide | rfl | simp +decide [State.isCandidate], by first | decide | rfl | simp +decide [State.isCandidate]⟩,
   ⟨host, ready, ⟨by decide, by decide, by decide⟩, by first | decide | rfl | simp +decide [State.isCandidate], by first | decide | rfl | simp +decide [State.isCandidate]⟩,
   ⟨host, ready, ⟨by decide, by decide, by decide⟩, by first | decide | rfl | simp +decide [State.isCandidate], by first | decide | rfl | simp +decide [State.isCandidate], by first | decide | rfl | simp +decide [State.isCandidate]⟩,
   ⟨host, run0, ⟨by decide, by decide, by decide⟩, by first | decide | rfl | simp +decide [State.isCandidate], by first | decide | rfl | simp +decide [State.isCandidate]⟩,
   ⟨host, ready, ⟨by decide, by decide, by decide⟩, by first | decide | rfl | simp +decide [State.isCandidate], by first | decide | rfl | simp +decide [State.isCandidate], by first | decide | rfl | simp +decide [State.isCandidate]⟩,
   ⟨host, (handing.put .TWIN_ENABLE 0 1), ⟨by decide, by decide, by decide⟩, by first | decide | rfl | simp +decide [State.isCandidate], by first | decide | rfl | simp +decide [State.isCandidate], by first | decide | rfl | simp +decide [State.isCandidate], by first | decide | rfl | simp +decide [State.isCandidate], by first | decide | rfl | simp +decide [State.isCandidate]⟩,
   ⟨host, stored, ⟨by decide, by decide, by decide⟩, by first | decide | rfl | simp +decide [State.isCandidate]⟩,
   ⟨host, stored, ⟨by decide, by decide, by decide⟩, by first | decide | rfl | simp +decide [State.isCandidate], by first | decide | rfl | simp +decide [State.isCandidate], by first | decide | rfl | simp +decide [State.isCandidate]⟩,
   ⟨({ host with role := .engineer }), stored, ⟨by decide, by decide, by decide⟩, by first | decide | rfl | simp +decide [State.isCandidate]⟩⟩

/-- States and operands that meet the hypotheses of each clause of PowerHappenings. -/
theorem test_witness_power_happenings :
    (∃ (s : State), s.get .PWR_AUTO_VIGIL 0 = 1 ∧ s.get .PWR_STATE 0 = 0 ∧ s.get .FRAME_STATE 0 = 0 ∧ s.get
      .START_STATE 0 = 6 ∧ s.power.stoppedAt + msCycles (1000 * (s.get .PWR_AUTO_DELAY 0).toNat) < s.keeperSince) ∧
    (∃ (s : State), (s.get .PWR_AUTO_VIGIL 0 = 0 ∨ s.get .FRAME_STATE 0 ≠ 0)) ∧
    (∃ (s : State), s.get .PWR_STATE 0 = 3 ∧ s.get .ST_STATE 0 = 0 ∧ s.power.wake = none) ∧
    (∃ (c : Nat) (s : State), s.get .PWR_STATE 0 = 3 ∧ s.get .ST_STATE 0 = 0 ∧ s.power.wake = some c) ∧
    (∃ (s : State), (s.get .PWR_STATE 0 ≠ 3 ∨ s.get .ST_STATE 0 ≠ 0)) ∧
    (∃ (s : State), s.power.off = true ∧ bit (s.get .PWR_WAKE_MASK 0) 0 = true) ∧
    (∃ (s : State), s.power.off = false ∧ s.get .PWR_STATE 0 = 2) ∧
    (∃ (s : State), s.get .PWR_WAKE_AT 0 ≠ 0 ∧ (s.time.kt : Int) = s.get .PWR_WAKE_AT 0 ∧ bit (s.get .PWR_WAKE_MASK
      0) 1 = true ∧ s.power.off = true) ∧
    (∃ (s : State), s.power.off = false ∧ s.power.settling = false) ∧
    (∃ (s : State), (s.power.off = true ∨ s.power.settling = true)) ∧
    (∃ (s : State), s.power.off = false ∧ s.power.settling = false) ∧
    (∃ (s : State), (s.power.off = true ∨ s.power.settling = true)) ∧
    (∃ (x : Int) (s : State), s.served = true ∧ x ≤ s.get .PWR_HOT_LIMIT 0) ∧
    (∃ (x : Int) (s : State), s.served = true ∧ s.get .PWR_HOT_LIMIT 0 < x ∧ s.get .PWR_HOT_ACTION 0 = 1 ∧ s.get
      .PWR_STATE 0 = 0) ∧
    (∃ (s : State), s.served = true) ∧
    (∃ (s : State), s.get .PWR_STATE 0 = 1 ∧ s.get .CAVE_STATE 0 = 3 ∧ s.caveNeeded = true) ∧
    (∃ (k : Int) (s : State), s.power.caveIdleAt = some k ∧ s.get .PWR_STATE 0 = 1 ∧ s.get .CAVE_STATE 0 = 2 ∧
      s.caveBusy = false ∧ k + s.get .PWR_DIM_CAVE_HOLD 0 ≤ s.tickKey) ∧
    (∃ (s : State), s.power.settling = true ∧ s.boot.rstLow = false) :=
  ⟨⟨(late.put .PWR_AUTO_VIGIL 0 1), by first | decide | rfl | simp +decide [State.isCandidate], by first | decide | rfl | simp +decide [State.isCandidate], by first | decide | rfl | simp +decide [State.isCandidate], by first | decide | rfl | simp +decide [State.isCandidate], by first | decide | rfl | simp +decide [State.isCandidate]⟩,
   ⟨ready, by first | decide | rfl | simp +decide [State.isCandidate]⟩,
   ⟨(ready.put .PWR_STATE 0 3), by first | decide | rfl | simp +decide [State.isCandidate], by first | decide | rfl | simp +decide [State.isCandidate], by first | decide | rfl | simp +decide [State.isCandidate]⟩,
   ⟨3, ({ ready.put .PWR_STATE 0 3 with power := { wake := some 3 } }), by first | decide | rfl | simp +decide [State.isCandidate], by first | decide | rfl | simp +decide [State.isCandidate], by first | decide | rfl | simp +decide [State.isCandidate]⟩,
   ⟨ready, by first | decide | rfl | simp +decide [State.isCandidate]⟩,
   ⟨({ (ready.put .PWR_WAKE_MASK 0 1) with power := { off := true } }), by first | decide | rfl | simp +decide [State.isCandidate], by first | decide | rfl | simp +decide [State.isCandidate]⟩,
   ⟨vigil, by first | decide | rfl | simp +decide [State.isCandidate], by first | decide | rfl | simp +decide [State.isCandidate]⟩,
   ⟨({ ((ready.put .PWR_WAKE_MASK 0 2).put .PWR_WAKE_AT 0 (10 ^ 9)) with power := { off := true }, time := hbLost.time }), by first | decide | rfl | simp +decide [State.isCandidate], by first | decide | rfl | simp +decide [State.isCandidate], by first | decide | rfl | simp +decide [State.isCandidate], by first | decide | rfl | simp +decide [State.isCandidate]⟩,
   ⟨run0, by first | decide | rfl | simp +decide [State.isCandidate], by first | decide | rfl | simp +decide [State.isCandidate]⟩,
   ⟨({ ready with power := { off := true } }), by first | decide | rfl | simp +decide [State.isCandidate]⟩,
   ⟨run0, by first | decide | rfl | simp +decide [State.isCandidate], by first | decide | rfl | simp +decide [State.isCandidate]⟩,
   ⟨({ ready with power := { off := true } }), by first | decide | rfl | simp +decide [State.isCandidate]⟩,
   ⟨(-4000), ready, by first | decide | rfl | simp +decide [State.isCandidate], by first | decide | rfl | simp +decide [State.isCandidate]⟩,
   ⟨20000, (run0.put .PWR_HOT_ACTION 0 1), by first | decide | rfl | simp +decide [State.isCandidate], by first | decide | rfl | simp +decide [State.isCandidate], by first | decide | rfl | simp +decide [State.isCandidate], by first | decide | rfl | simp +decide [State.isCandidate]⟩,
   ⟨ready, by first | decide | rfl | simp +decide [State.isCandidate]⟩,
   ⟨(((run0.put .PWR_STATE 0 1).put .CAVE_STATE 0 3).put .REPLAY_STATE 0 1), by first | decide | rfl | simp +decide [State.isCandidate], by first | decide | rfl | simp +decide [State.isCandidate], by first | decide | rfl | simp +decide [State.isCandidate]⟩,
   ⟨(-1000000), ({ (run0.put .PWR_STATE 0 1).put .CAVE_STATE 0 2 with power := { caveIdleAt := some (-1000000) } }), by first | decide | rfl | simp +decide [State.isCandidate], by first | decide | rfl | simp +decide [State.isCandidate], by first | decide | rfl | simp +decide [State.isCandidate], by first | decide | rfl | simp +decide [State.isCandidate], by first | decide | rfl | simp +decide [State.isCandidate]⟩,
   ⟨({ ready with power := { settling := true }, boot := { rstLow := false } }), by first | decide | rfl | simp +decide [State.isCandidate], by first | decide | rfl | simp +decide [State.isCandidate]⟩⟩

/-- States and operands that meet the hypotheses of each clause of SelfTestRuns. -/
theorem test_witness_self_test_runs :
    (∃ (w : Who) (s : State), s.Open w .engineer .ST_RUN ∧ s.get .FRAME_STATE 0 = 0 ∧ (s.get .PWR_STATE 0 = 0 ∨ s.get
      .PWR_STATE 0 = 2) ∧ s.get .ST_STATE 0 = 0) ∧
    (∃ (w : Who) (s : State), s.Open w .engineer .ST_RUN ∧ s.get .FRAME_STATE 0 = 0 ∧ (s.get .PWR_STATE 0 = 0 ∨ s.get
      .PWR_STATE 0 = 2) ∧ s.get .ST_STATE 0 = 0) ∧
    (∃ (w : Who) (s : State), s.Open w .engineer .ST_RUN ∧ (s.get .FRAME_STATE 0 ≠ 0 ∨ s.get .ST_STATE 0 ≠ 0)) ∧
    (∃ (w : Who) (s : State), s.Open w .engineer .ST_STOP ∧ s.get .ST_STATE 0 ≠ 0) ∧
    (∃ (c : Nat) (failed : List TestFail) (i : Nat) (s : State), s.get .ST_STATE 0 ≠ 0 ∧ s.get .ST_ITEM 0 = i ∧ i < 7
      ∧ s.test.cut = false ∧ failed = [] ∧ s.test.step + 1 ≠ s.terminal i ∧ s.test.stop = false ∧ s.test.abort =
      false) ∧
    (∃ (c : Nat) (failed : List TestFail) (i : Nat) (s : State), s.get .ST_STATE 0 ≠ 0 ∧ s.get .ST_ITEM 0 = i ∧ i < 5
      ∧ s.test.cut = false ∧ failed = [] ∧ s.test.step + 1 = s.terminal i ∧ s.test.stop = false) ∧
    (∃ (c : Nat) (failed : List TestFail) (i : Nat) (s : State), s.get .ST_STATE 0 ≠ 0 ∧ s.get .ST_ITEM 0 = i ∧ i < 7
      ∧ s.test.cut = false ∧ failed = [] ∧ s.test.step + 1 ≠ s.terminal i ∧ s.test.stop = true ∧ s.get
      .ST_SAVE_PENDING 0 = 65535) ∧
    (∃ (c : Nat) (failed : List TestFail) (s : State), (s.get .ST_STATE 0 = 0 ∨ s.get .ST_ITEM 0 = 255 ∨ s.test.cut =
      true)) ∧
    (∃ (s : State), s.get .ST_STATE 0 = 2 ∧ s.test.cut = true ∧ s.test.stop = true) ∧
    (∃ (s : State), s.get .ST_STATE 0 = 2 ∧ s.test.cut = false ∧ s.boot.trained = true ∧ s.get .PWR_WAKE_STATE 0 ≠ 2) ∧
    (∃ (s : State), s.get .ST_STATE 0 ≠ 2) :=
  ⟨⟨host, ready, ⟨by decide, by decide, by decide⟩, by first | decide | rfl | simp +decide [State.isCandidate], by first | decide | rfl | simp +decide [State.isCandidate], by first | decide | rfl | simp +decide [State.isCandidate]⟩,
   ⟨host, ready, ⟨by decide, by decide, by decide⟩, by first | decide | rfl | simp +decide [State.isCandidate], by first | decide | rfl | simp +decide [State.isCandidate], by first | decide | rfl | simp +decide [State.isCandidate]⟩,
   ⟨host, run0, ⟨by decide, by decide, by decide⟩, by first | decide | rfl | simp +decide [State.isCandidate]⟩,
   ⟨host, (ready.put .ST_STATE 0 1), ⟨by decide, by decide, by decide⟩, by first | decide | rfl | simp +decide [State.isCandidate]⟩,
   ⟨5, ([]), 2, (ready.put .ST_STATE 0 1 |>.put .ST_ITEM 0 2), by first | decide | rfl | simp +decide [State.isCandidate], by first | decide | rfl | simp +decide [State.isCandidate], by first | decide | rfl | simp +decide [State.isCandidate], by first | decide | rfl | simp +decide [State.isCandidate], by first | decide | rfl | simp +decide [State.isCandidate], by first | decide | rfl | simp +decide [State.isCandidate], by first | decide | rfl | simp +decide [State.isCandidate], by first | decide | rfl | simp +decide [State.isCandidate]⟩,
   ⟨5, ([]), 2, ({ ready.put .ST_STATE 0 1 |>.put .ST_ITEM 0 2 with test := { step := 7 } }), by first | decide | rfl | simp +decide [State.isCandidate], by first | decide | rfl | simp +decide [State.isCandidate], by first | decide | rfl | simp +decide [State.isCandidate], by first | decide | rfl | simp +decide [State.isCandidate], by first | decide | rfl | simp +decide [State.isCandidate], by first | decide | rfl | simp +decide [State.isCandidate], by first | decide | rfl | simp +decide [State.isCandidate]⟩,
   ⟨5, ([]), 2, ({ ready.put .ST_STATE 0 1 |>.put .ST_ITEM 0 2 |>.put .ST_SAVE_PENDING 0 65535 with test := { stop := true } }), by first | decide | rfl | simp +decide [State.isCandidate], by first | decide | rfl | simp +decide [State.isCandidate], by first | decide | rfl | simp +decide [State.isCandidate], by first | decide | rfl | simp +decide [State.isCandidate], by first | decide | rfl | simp +decide [State.isCandidate], by first | decide | rfl | simp +decide [State.isCandidate], by first | decide | rfl | simp +decide [State.isCandidate], by first | decide | rfl | simp +decide [State.isCandidate]⟩,
   ⟨5, ([]), ready, by first | decide | rfl | simp +decide [State.isCandidate]⟩,
   ⟨({ ready.put .ST_STATE 0 2 with test := { cut := true, stop := true } }), by first | decide | rfl | simp +decide [State.isCandidate], by first | decide | rfl | simp +decide [State.isCandidate], by first | decide | rfl | simp +decide [State.isCandidate]⟩,
   ⟨({ ready.put .ST_STATE 0 2 with boot := { trained := true } }.put .PWR_WAKE_STATE 0 0), by first | decide | rfl | simp +decide [State.isCandidate], by first | decide | rfl | simp +decide [State.isCandidate], by first | decide | rfl | simp +decide [State.isCandidate], by first | decide | rfl | simp +decide [State.isCandidate]⟩,
   ⟨ready, by first | decide | rfl | simp +decide [State.isCandidate]⟩⟩

/-- States and operands that meet the hypotheses of each clause of RepairsAndLife. -/
theorem test_witness_repairs_and_life :
    (∃ (w : Who) (n : Nat) (s : State), s.Open w .service .REPAIR_ACCEPT ∧ s.get .REPAIR_PROPOSED 0 > 0 ∧ s.mapFree =
      some n) ∧
    (∃ (w : Who) (s : State), s.Open w .service .REPAIR_ACCEPT ∧ s.get .REPAIR_PROPOSED 0 > 0 ∧ s.mapFree = none) ∧
    (∃ (w : Who) (s : State), s.Open w .service .REPAIR_ACCEPT ∧ s.get .REPAIR_PROPOSED 0 = 0) ∧
    (∃ (w : Who) (n : Nat) (s : State), s.Open w .service .REPAIR_CLEAR ∧ n < 64 ∧ s.mapEntry n ≠ 0 ∧ repairFused
      (s.mapEntry n) = false) ∧
    (∃ (w : Who) (n : Nat) (s : State), s.Open w .service .REPAIR_CLEAR ∧ 64 ≤ n) ∧
    (∃ (w : Who) (n : Nat) (k : Nat) (s : State), s.Open w .service .REPAIR_FUSE ∧ n < 64 ∧ (List.range 48).find?
      s.fuseFree = some k ∧ s.get .FRAME_STATE 0 = 0 ∧ s.get .PWR_STATE 0 = 2 ∧ s.mapEntry n ≠ 0 ∧ repairFused
      (s.mapEntry n) = false ∧ s.test.fuse = none) ∧
    (∃ (n : Nat) (k : Nat) (a : Nat) (s : State), s.test.fuse = some (n, k, a) ∧ a ≤ s.time.cycle) ∧
    (∃ (n : Nat) (k : Nat) (a : Nat) (s : State), s.test.fuse = some (n, k, a) ∧ a ≤ s.time.cycle) ∧
    (∃ (c : Nat) (b : Nat) (s : State), s.served = true ∧ s.get .PWR_STATE 0 ≠ 3 ∧ 0 < c ∧ 0 < b) ∧
    (∃ (s : State), s.served = true ∧ s.test.lifeAt + hourKt ≤ s.time.kt) :=
  ⟨⟨host, 0, (ready.put .REPAIR_PROPOSED 0 5), ⟨by decide, by decide, by decide⟩, by first | decide | rfl | simp +decide [State.isCandidate], by first | decide | rfl | simp +decide [State.isCandidate]⟩,
   ⟨host, mapFull, ⟨by decide, by decide, by decide⟩, by first | decide | rfl | simp +decide [State.isCandidate], by first | decide | rfl | simp +decide [State.isCandidate]⟩,
   ⟨host, ready, ⟨by decide, by decide, by decide⟩, by first | decide | rfl | simp +decide [State.isCandidate]⟩,
   ⟨host, 63, (ready.put .REPAIR_ENTRY_n 63 5), ⟨by decide, by decide, by decide⟩, by first | decide | rfl | simp +decide [State.isCandidate], by first | decide | rfl | simp +decide [State.isCandidate], by first | decide | rfl | simp +decide [State.isCandidate]⟩,
   ⟨host, 64, ready, ⟨by decide, by decide, by decide⟩, by first | decide | rfl | simp +decide [State.isCandidate]⟩,
   ⟨host, 63, 0, (vigil.put .REPAIR_ENTRY_n 63 5), ⟨by decide, by decide, by decide⟩, by first | decide | rfl | simp +decide [State.isCandidate], by first | decide | rfl | simp +decide [State.isCandidate], by first | decide | rfl | simp +decide [State.isCandidate], by first | decide | rfl | simp +decide [State.isCandidate], by first | decide | rfl | simp +decide [State.isCandidate], by first | decide | rfl | simp +decide [State.isCandidate], by first | decide | rfl | simp +decide [State.isCandidate]⟩,
   ⟨63, 0, 0, ({ vigil.put .REPAIR_ENTRY_n 63 5 with test := { fuse := some (63, 0, 0) } }), by first | decide | rfl | simp +decide [State.isCandidate], by first | decide | rfl | simp +decide [State.isCandidate]⟩,
   ⟨63, 0, 0, ({ vigil.put .REPAIR_ENTRY_n 63 5 with test := { fuse := some (63, 0, 0) } }), by first | decide | rfl | simp +decide [State.isCandidate], by first | decide | rfl | simp +decide [State.isCandidate]⟩,
   ⟨3, 4294967295, ready, by first | decide | rfl | simp +decide [State.isCandidate], by first | decide | rfl | simp +decide [State.isCandidate], by first | decide | rfl | simp +decide [State.isCandidate], by first | decide | rfl | simp +decide [State.isCandidate]⟩,
   ⟨({ ready with time := { ready.time with kt := 10 ^ 11 } }), by first | decide | rfl | simp +decide [State.isCandidate], by first | decide | rfl | simp +decide [State.isCandidate]⟩⟩

/-- States and operands that meet the hypotheses of each clause of StartupHappenings. -/
theorem test_witness_startup_happenings :
    (∃ (held : Nat) (s : State), held < 1000) ∧
    (∃ (held : Nat) (s : State), 1000 ≤ held ∧ held < 10000 ∧ s.power.off = true) ∧
    (∃ (s : State), s.boot.rstLow = true ∧ s.power.off = false ∧ s.power.settling = false) ∧
    (∃ (bad : List (Fin 2)) (k : Nat) (s : State), s.get .START_STATE 0 = 1 ∧ k = (s.get .BOOT_NEXT 0).toNat % 2 ∧
      bad.any (fun x => x.val == k) = false) ∧
    (∃ (bad : List (Fin 2)) (s : State), s.get .START_STATE 0 = 1 ∧ 0 ∈ bad ∧ 1 ∈ bad) ∧
    (∃ (x : BootFound) (u : State) (s : State), s.get .START_STATE 0 = 3 ∧ u = (s.loadConfig x.cfgBad).loadRepairs x
      ∧ u.get .ST_SEALED 0 = 0) ∧
    (∃ (x : BootFound) (k : Key) (v : Int) (s : State), s.get .START_STATE 0 = 3 ∧ x = ⟨false, 0, [], [], []⟩ ∧
      s.engine.saved = some [(⟨.LOOP_SETTLE, 2⟩, .num v)]) ∧
    (∃ (x : BootFound) (s : State), s.get .START_STATE 0 ≠ 3) ∧
    (∃ (x : CaveFound) (s : State), s.get .START_STATE 0 = 5 ∧ s.get .CAVE_STATE 0 = 1 ∧ x.fitted = 0 ∧ s.get
      .PWR_WAKE_STATE 0 ≠ 2) ∧
    (∃ (x : CaveFound) (s : State), s.get .START_STATE 0 = 5 ∧ s.get .CAVE_STATE 0 = 1 ∧ x.fitted ≠ 0 ∧ x.trained =
      false ∧ s.get .PWR_WAKE_STATE 0 ≠ 2) ∧
    (∃ (x : CaveFound) (s : State), s.get .START_STATE 0 = 5 ∧ s.get .CAVE_STATE 0 = 1 ∧ x.fitted ≠ 0 ∧ x.trained =
      true ∧ s.get .ST_SAVE_PENDING 0 = 65535 ∧ s.get .PWR_WAKE_STATE 0 ≠ 2) ∧
    (∃ (x : CaveFound) (s : State), s.get .START_STATE 0 = 5 ∧ s.get .CAVE_STATE 0 = 1 ∧ x.fitted ≠ 0 ∧ x.trained =
      true ∧ s.get .ST_SAVE_PENDING 0 ≠ 65535 ∧ s.boot.caveKept = false) :=
  ⟨⟨999, run0, by first | decide | rfl | simp +decide [State.isCandidate]⟩,
   ⟨1000, ({ ready with power := { off := true } }), by first | decide | rfl | simp +decide [State.isCandidate], by first | decide | rfl | simp +decide [State.isCandidate], by first | decide | rfl | simp +decide [State.isCandidate]⟩,
   ⟨State.reset, by first | decide | rfl | simp +decide [State.isCandidate], by first | decide | rfl | simp +decide [State.isCandidate], by first | decide | rfl | simp +decide [State.isCandidate]⟩,
   ⟨([]), 0, booting, by first | decide | rfl | simp +decide [State.isCandidate], by first | decide | rfl | simp +decide [State.isCandidate], by first | decide | rfl | simp +decide [State.isCandidate]⟩,
   ⟨([1, 0]), booting, by first | decide | rfl | simp +decide [State.isCandidate], by first | decide | rfl | simp +decide [State.isCandidate], by first | decide | rfl | simp +decide [State.isCandidate]⟩,
   ⟨(⟨false, 0, [], [], []⟩), loaded, (booting.put .START_STATE 0 3), by first | decide | rfl | simp +decide [State.isCandidate], by first | decide | rfl | simp +decide [State.isCandidate], by first | decide | rfl | simp +decide [State.isCandidate]⟩,
   ⟨(⟨false, 0, [], [], []⟩), (⟨.LOOP_SETTLE, 2⟩), 70, ({ booting.put .START_STATE 0 3 with engine := { saved := some [(⟨.LOOP_SETTLE, 2⟩, .num 70)] } }), by first | decide | rfl | simp +decide [State.isCandidate], by first | decide | rfl | simp +decide [State.isCandidate], by first | decide | rfl | simp +decide [State.isCandidate]⟩,
   ⟨(⟨false, 0, [], [], []⟩), ready, by first | decide | rfl | simp +decide [State.isCandidate]⟩,
   ⟨(⟨0, false, false, false⟩), (((booting.put .START_STATE 0 5).put .CAVE_STATE 0 1).put .PWR_WAKE_STATE 0 0), by first | decide | rfl | simp +decide [State.isCandidate], by first | decide | rfl | simp +decide [State.isCandidate], by first | decide | rfl | simp +decide [State.isCandidate], by first | decide | rfl | simp +decide [State.isCandidate]⟩,
   ⟨(⟨1024, false, false, false⟩), (((booting.put .START_STATE 0 5).put .CAVE_STATE 0 1).put .PWR_WAKE_STATE 0 0), by first | decide | rfl | simp +decide [State.isCandidate], by first | decide | rfl | simp +decide [State.isCandidate], by first | decide | rfl | simp +decide [State.isCandidate], by first | decide | rfl | simp +decide [State.isCandidate], by first | decide | rfl | simp +decide [State.isCandidate]⟩,
   ⟨(⟨1024, true, false, false⟩), ((((booting.put .START_STATE 0 5).put .CAVE_STATE 0 1).put .ST_SAVE_PENDING 0 65535).put .PWR_WAKE_STATE 0 0), by first | decide | rfl | simp +decide [State.isCandidate], by first | decide | rfl | simp +decide [State.isCandidate], by first | decide | rfl | simp +decide [State.isCandidate], by first | decide | rfl | simp +decide [State.isCandidate], by first | decide | rfl | simp +decide [State.isCandidate], by first | decide | rfl | simp +decide [State.isCandidate]⟩,
   ⟨(⟨1024, true, false, false⟩), ((booting.put .START_STATE 0 5).put .CAVE_STATE 0 1 |>.put .ST_SAVE_PENDING 0 3), by first | decide | rfl | simp +decide [State.isCandidate], by first | decide | rfl | simp +decide [State.isCandidate], by first | decide | rfl | simp +decide [State.isCandidate], by first | decide | rfl | simp +decide [State.isCandidate], by first | decide | rfl | simp +decide [State.isCandidate], by first | decide | rfl | simp +decide [State.isCandidate]⟩⟩

/-- States and operands that meet the hypotheses of each clause of ServicePhaseAndVat. -/
theorem test_witness_service_phase_and_vat :
    (∃ (s : State), s.get .SERVICE_PHASE 0 = 0 ∧ s.running = true ∧ s.boot.startedAt + msCycles (s.get .START_LIMIT
      0).toNat ≤ s.time.cycle) ∧
    (∃ (s : State), s.get .SERVICE_PHASE 0 = 3 ∧ s.boot.recoveryAt + s.get .RECOVERY_TICKS 0 ≤ s.tickKey) ∧
    (∃ (w : Who) (s : State), s.Open w .operator .SERVICE_PHASE_SET ∧ s.get .SERVICE_PHASE 0 ≠ 0) ∧
    (∃ (w : Who) (s : State), s.Open w .operator .SERVICE_PHASE_SET ∧ s.get .SERVICE_PHASE 0 = 0) ∧
    (∃ (w : Who) (s : State), s.Open w .operator .SERVICE_PHASE_SET) ∧
    (∃ (s : State), s.placed = true ∧ s.vat.sentAt = none) ∧
    (∃ (p : Fin 2) (f : Frame) (s : State), f.cls = 4 ∧ f.kind = 3 ∧ (s.receive p f).1 = true ∧ s.get .RT_ROLE 0 ≠ 3) ∧
    (∃ (p : Fin 2) (f : Frame) (s : State), f.cls = 4 ∧ f.kind = 3 ∧ (s.receive p f).1 = true ∧ s.get .RT_ROLE 0 = 3
      ∧ leNat (slice f.payload 1 1) = 1) ∧
    (∃ (w : Who) (s : State), s.Open w .engineer .VAT_LEAVE ∧ s.get .FRAME_STATE 0 = 0) ∧
    (∃ (w : Who) (s : State), s.Open w .engineer .VAT_LEAVE ∧ s.get .FRAME_STATE 0 ≠ 0) ∧
    (∃ (w : Who) (s : State), s.Open w .engineer .VAT_REJOIN ∧ s.vat.left = true) ∧
    (∃ (w : Who) (s : State), s.Open w .engineer .VAT_REJOIN ∧ s.vat.left = false) :=
  ⟨⟨({ run0 with time := late.time }), by first | decide | rfl | simp +decide [State.isCandidate], by first | decide | rfl | simp +decide [State.isCandidate], by first | decide | rfl | simp +decide [State.isCandidate]⟩,
   ⟨({ run0.put .SERVICE_PHASE 0 3 with frame := { next := 10 ^ 9 } }), by first | decide | rfl | simp +decide [State.isCandidate], by first | decide | rfl | simp +decide [State.isCandidate]⟩,
   ⟨host, (ready.put .SERVICE_PHASE 0 2), ⟨by decide, by decide, by decide⟩, by first | decide | rfl | simp +decide [State.isCandidate]⟩,
   ⟨host, ready, ⟨by decide, by decide, by decide⟩, by first | decide | rfl | simp +decide [State.isCandidate]⟩,
   ⟨host, ready, ⟨by decide, by decide, by decide⟩⟩,
   ⟨placed3, by first | decide | rfl | simp +decide [State.isCandidate], by first | decide | rfl | simp +decide [State.isCandidate]⟩,
   ⟨1, ({ control 3 with cls := 4 }), linkUp, by first | decide | rfl | simp +decide [State.isCandidate], by first | decide | rfl | simp +decide [State.isCandidate], by first | decide | rfl | simp +decide [State.isCandidate], by first | decide | rfl | simp +decide [State.isCandidate]⟩,
   ⟨1, ({ control 3 with cls := 4, payload := [3, 1] }), (linkUp.put .RT_ROLE 0 3), by first | decide | rfl | simp +decide [State.isCandidate], by first | decide | rfl | simp +decide [State.isCandidate], by first | decide | rfl | simp +decide [State.isCandidate], by first | decide | rfl | simp +decide [State.isCandidate], by first | decide | rfl | simp +decide [State.isCandidate]⟩,
   ⟨host, ready, ⟨by decide, by decide, by decide⟩, by first | decide | rfl | simp +decide [State.isCandidate]⟩,
   ⟨host, run0, ⟨by decide, by decide, by decide⟩, by first | decide | rfl | simp +decide [State.isCandidate]⟩,
   ⟨host, ({ ready.put .VAT_STATE 0 6 with vat := { left := true } }), ⟨by decide, by decide, by decide⟩, by first | decide | rfl | simp +decide [State.isCandidate]⟩,
   ⟨host, ready, ⟨by decide, by decide, by decide⟩, by first | decide | rfl | simp +decide [State.isCandidate]⟩⟩

/-- States and operands that meet the hypotheses of each clause of DictionaryMessages. -/
theorem test_witness_dictionary_messages :
    (∃ (m : Msg) (l : List Msg) (n : Nat) (s : State), s.served = true ∧ s.engine.late = none ∧ s.engine.spiIn = m ::
      l ∧ m.op = 1 ∧ (s.session m.session).parked = none ∧ m.body.length = 84 ∧ s.admits (leNat (slice m.body 0 1)) =
      true ∧ (List.range 16).countP (fun n => (s.session n).open_) < 8 ∧ (List.range 16).find? (fun n => 1 ≤ n &&
      !(s.session n).open_) = some n) ∧
    (∃ (m : Msg) (l : List Msg) (s : State), s.served = true ∧ s.engine.late = none ∧ s.engine.spiIn = m :: l ∧ m.op
      = 1 ∧ (s.session m.session).parked = none ∧ m.body.length ≠ 84) ∧
    (∃ (m : Msg) (l : List Msg) (s : State), s.served = true ∧ s.engine.late = none ∧ s.engine.spiIn = m :: l ∧ m.op
      ≠ 1 ∧ (s.session m.session).parked = none) ∧
    (∃ (m : Msg) (l : List Msg) (x : Session) (s : State), s.served = true ∧ s.engine.late = none ∧ s.engine.spiIn =
      m :: l ∧ m.op = 2 ∧ x = s.session m.session ∧ x.parked = none ∧ x.open_ = true ∧ x.binding = { path := .spi } ∧
      x.kept.find? (fun k => k.1 == m.mseq && k.2.op == 2) = none ∧ x.admitted = false ∧ m.body.length = 64) ∧
    (∃ (m : Msg) (l : List Msg) (s : State), s.served = true ∧ s.engine.late = none ∧ s.engine.spiIn = m :: l ∧ m.op
      = 2 ∧ (s.session m.session).parked = none ∧ (s.session m.session).open_ = false) ∧
    (∃ (m : Msg) (l : List Msg) (x : Session) (b : List Byte) (s : State), s.served = true ∧ s.engine.late = none ∧
      s.engine.spiIn = m :: l ∧ m.op = 3 ∧ x = s.session m.session ∧ x.open_ = true ∧ x.binding = { path := .spi } ∧
      x.admitted = true ∧ x.parked = none ∧ m.body.length ≤ 2016 ∧ x.kept.find? (fun k => k.1 == m.mseq && k.2.op !=
      2) = none ∧ x.stale m.mseq = false ∧ b = m.crypt x.keyIn 0) ∧
    (∃ (m : Msg) (l : List Msg) (s : State), s.served = true ∧ s.engine.late = none ∧ s.engine.spiIn = m :: l ∧ m.op
      = 3 ∧ (s.session m.session).open_ = false ∧ (s.session m.session).parked = none) ∧
    (∃ (m : Msg) (l : List Msg) (x : Session) (b : List Byte) (bad : List Nat) (hurt : Bool) (s : State), s.served =
      true ∧ s.engine.late = none ∧ s.engine.spiIn = m :: l ∧ m.op = 4 ∧ x = s.session m.session ∧ x.open_ = true ∧
      x.binding = { path := .spi } ∧ x.admitted = true ∧ x.parked = none ∧ m.body.length ≤ 2016 ∧ x.kept.find? (fun k
      => k.1 == m.mseq && k.2.op != 2) = none ∧ x.stale m.mseq = false ∧ b = m.crypt x.keyIn 0) ∧
    (∃ (m : Msg) (l : List Msg) (bad : List Nat) (hurt : Bool) (s : State), s.served = true ∧ s.engine.late = none ∧
      s.engine.spiIn = m :: l ∧ m.op = 4 ∧ (s.session m.session).open_ = false ∧ (s.session m.session).parked = none) ∧
    (∃ (m : Msg) (l : List Msg) (x : Session) (b : List Byte) (s : State), s.served = true ∧ s.engine.late = none ∧
      s.engine.spiIn = m :: l ∧ m.op = 5 ∧ x = s.session m.session ∧ x.open_ = true ∧ x.binding = { path := .spi } ∧
      x.admitted = true ∧ x.parked = none ∧ m.body.length ≤ 2016 ∧ x.kept.find? (fun k => k.1 == m.mseq && k.2.op !=
      2) = none ∧ x.stale m.mseq = false ∧ b = m.crypt x.keyIn 0) ∧
    (∃ (m : Msg) (l : List Msg) (s : State), s.served = true ∧ s.engine.late = none ∧ s.engine.spiIn = m :: l ∧ m.op
      = 5 ∧ (s.session m.session).open_ = false ∧ (s.session m.session).parked = none) ∧
    (∃ (m : Msg) (l : List Msg) (x : Session) (b : List Byte) (bad : List Nat) (hurt : Bool) (s : State), s.served =
      true ∧ s.engine.late = none ∧ s.engine.spiIn = m :: l ∧ m.op = 6 ∧ x = s.session m.session ∧ x.open_ = true ∧
      x.binding = { path := .spi } ∧ x.admitted = true ∧ x.parked = none ∧ m.body.length ≤ 2016 ∧ x.kept.find? (fun k
      => k.1 == m.mseq && k.2.op != 2) = none ∧ x.stale m.mseq = false ∧ b = m.crypt x.keyIn 0) ∧
    (∃ (m : Msg) (l : List Msg) (bad : List Nat) (hurt : Bool) (s : State), s.served = true ∧ s.engine.late = none ∧
      s.engine.spiIn = m :: l ∧ m.op = 6 ∧ (s.session m.session).open_ = false ∧ (s.session m.session).parked = none) ∧
    (∃ (m : Msg) (l : List Msg) (x : Session) (b : List Byte) (s : State), s.served = true ∧ s.engine.late = none ∧
      s.engine.spiIn = m :: l ∧ m.op = 7 ∧ x = s.session m.session ∧ x.open_ = true ∧ x.binding = { path := .spi } ∧
      x.admitted = true ∧ x.parked = none ∧ m.body.length ≤ 2016 ∧ x.kept.find? (fun k => k.1 == m.mseq && k.2.op !=
      2) = none ∧ x.stale m.mseq = false ∧ b = m.crypt x.keyIn 0) ∧
    (∃ (m : Msg) (l : List Msg) (s : State), s.served = true ∧ s.engine.late = none ∧ s.engine.spiIn = m :: l ∧ m.op
      = 7 ∧ (s.session m.session).open_ = false ∧ (s.session m.session).parked = none) ∧
    (∃ (m : Msg) (l : List Msg) (x : Session) (b : List Byte) (s : State), s.served = true ∧ s.engine.late = none ∧
      s.engine.spiIn = m :: l ∧ m.op = 8 ∧ x = s.session m.session ∧ x.open_ = true ∧ x.binding = { path := .spi } ∧
      x.admitted = true ∧ x.parked = none ∧ m.body.length ≤ 2016 ∧ x.kept.find? (fun k => k.1 == m.mseq && k.2.op !=
      2) = none ∧ x.stale m.mseq = false ∧ b = m.crypt x.keyIn 0) ∧
    (∃ (m : Msg) (l : List Msg) (s : State), s.served = true ∧ s.engine.late = none ∧ s.engine.spiIn = m :: l ∧ m.op
      = 8 ∧ (s.session m.session).open_ = false ∧ (s.session m.session).parked = none) ∧
    (∃ (m : Msg) (l : List Msg) (x : Session) (b : List Byte) (s : State), s.served = true ∧ s.engine.late = none ∧
      s.engine.spiIn = m :: l ∧ m.op = 9 ∧ x = s.session m.session ∧ x.open_ = true ∧ x.binding = { path := .spi } ∧
      x.admitted = true ∧ x.parked = none ∧ m.body.length ≤ 2016 ∧ x.kept.find? (fun k => k.1 == m.mseq && k.2.op !=
      2) = none ∧ x.stale m.mseq = false ∧ b = m.crypt x.keyIn 0) ∧
    (∃ (m : Msg) (l : List Msg) (s : State), s.served = true ∧ s.engine.late = none ∧ s.engine.spiIn = m :: l ∧ m.op
      = 9 ∧ (s.session m.session).open_ = false ∧ (s.session m.session).parked = none) ∧
    (∃ (w : Who) (index : Nat) (sub : Nat) (type : Nat) (value : List Byte) (v : Byte) (s : State), s.served = true ∧
      2 ≤ w.role.rank ∧ s.barred w .AUTO_START true = none ∧ s.notActingFor w = false ∧ index = 0x7800 ∧ sub = 5 ∧
      type = ObjType.u8.code ∧ value = [v] ∧ v.toNat ≤ 1) ∧
    (∃ (w : Who) (index : Nat) (sub : Nat) (type : Nat) (value : List Byte) (b : Fin 32) (s : State), s.served = true
      ∧ 2 ≤ w.role.rank ∧ s.barred w .LOOP_SETTLE true = none ∧ s.notActingFor w = false ∧ s.engine.armed = none ∧
      s.engine.staged = [] ∧ index = 0x2100 + b.val ∧ sub = 9 ∧ type = ObjType.u16.code ∧ value = leBytes 2 70) ∧
    (∃ (w : Who) (index : Nat) (sub : Nat) (type : Nat) (value : List Byte) (e : Err) (s : State), s.served = true ∧
      s.checkWrite w ⟨index, sub, type, value⟩ = .error e) :=
  ⟨⟨({ msg 1 with body := List.replicate 84 0 }), ([]), 1, ({ asking 1 with engine := { spiIn := [{ msg 1 with body := List.replicate 84 0 }] } }), by first | decide | rfl | simp +decide [State.isCandidate], by first | decide | rfl | simp +decide [State.isCandidate], by first | decide | rfl | simp +decide [State.isCandidate], by first | decide | rfl | simp +decide [State.isCandidate], by first | decide | rfl | simp +decide [State.isCandidate], by first | decide | rfl | simp +decide [State.isCandidate], by first | decide | rfl | simp +decide [State.isCandidate], by first | decide | rfl | simp +decide [State.isCandidate], by first | decide | rfl | simp +decide [State.isCandidate]⟩,
   ⟨(msg 1), ([]), (asking 1), by first | decide | rfl | simp +decide [State.isCandidate], by first | decide | rfl | simp +decide [State.isCandidate], by first | decide | rfl | simp +decide [State.isCandidate], by first | decide | rfl | simp +decide [State.isCandidate], by first | decide | rfl | simp +decide [State.isCandidate], by first | decide | rfl | simp +decide [State.isCandidate]⟩,
   ⟨(msg 2), ([]), (asking 2), by first | decide | rfl | simp +decide [State.isCandidate], by first | decide | rfl | simp +decide [State.isCandidate], by first | decide | rfl | simp +decide [State.isCandidate], by first | decide | rfl | simp +decide [State.isCandidate], by first | decide | rfl | simp +decide [State.isCandidate]⟩,
   ⟨({ msg 2 with body := List.replicate 64 0 }), ([]), ({ sess with admitted := false }), (({ asking 2 with engine := { spiIn := [{ msg 2 with body := List.replicate 64 0 }] } } : State).setSession 3 { sess with admitted := false }), by first | decide | rfl | simp +decide [State.isCandidate], by first | decide | rfl | simp +decide [State.isCandidate], by first | decide | rfl | simp +decide [State.isCandidate], by first | decide | rfl | simp +decide [State.isCandidate], by first | decide | rfl | simp +decide [State.isCandidate], by first | decide | rfl | simp +decide [State.isCandidate], by first | decide | rfl | simp +decide [State.isCandidate], by first | decide | rfl | simp +decide [State.isCandidate], by first | decide | rfl | simp +decide [State.isCandidate], by first | decide | rfl | simp +decide [State.isCandidate], by first | decide | rfl | simp +decide [State.isCandidate]⟩,
   ⟨(msg 2), ([]), (asking 2), by first | decide | rfl | simp +decide [State.isCandidate], by first | decide | rfl | simp +decide [State.isCandidate], by first | decide | rfl | simp +decide [State.isCandidate], by first | decide | rfl | simp +decide [State.isCandidate], by first | decide | rfl | simp +decide [State.isCandidate], by first | decide | rfl | simp +decide [State.isCandidate]⟩,
   ⟨(msg 3), ([]), sess, ((msg 3).crypt [] 0), (talking 3), by first | decide | rfl | simp +decide [State.isCandidate], by first | decide | rfl | simp +decide [State.isCandidate], by first | decide | rfl | simp +decide [State.isCandidate], by first | decide | rfl | simp +decide [State.isCandidate], by first | decide | rfl | simp +decide [State.isCandidate], by first | decide | rfl | simp +decide [State.isCandidate], by first | decide | rfl | simp +decide [State.isCandidate], by first | decide | rfl | simp +decide [State.isCandidate], by first | decide | rfl | simp +decide [State.isCandidate], by first | decide | rfl | simp +decide [State.isCandidate], by first | decide | rfl | simp +decide [State.isCandidate], by first | decide | rfl | simp +decide [State.isCandidate], by first | decide | rfl | simp +decide [State.isCandidate]⟩,
   ⟨(msg 3), ([]), (asking 3), by first | decide | rfl | simp +decide [State.isCandidate], by first | decide | rfl | simp +decide [State.isCandidate], by first | decide | rfl | simp +decide [State.isCandidate], by first | decide | rfl | simp +decide [State.isCandidate], by first | decide | rfl | simp +decide [State.isCandidate], by first | decide | rfl | simp +decide [State.isCandidate]⟩,
   ⟨(msg 4), ([]), sess, ((msg 4).crypt [] 0), ([]), false, (talking 4), by first | decide | rfl | simp +decide [State.isCandidate], by first | decide | rfl | simp +decide [State.isCandidate], by first | decide | rfl | simp +decide [State.isCandidate], by first | decide | rfl | simp +decide [State.isCandidate], by first | decide | rfl | simp +decide [State.isCandidate], by first | decide | rfl | simp +decide [State.isCandidate], by first | decide | rfl | simp +decide [State.isCandidate], by first | decide | rfl | simp +decide [State.isCandidate], by first | decide | rfl | simp +decide [State.isCandidate], by first | decide | rfl | simp +decide [State.isCandidate], by first | decide | rfl | simp +decide [State.isCandidate], by first | decide | rfl | simp +decide [State.isCandidate], by first | decide | rfl | simp +decide [State.isCandidate]⟩,
   ⟨(msg 4), ([]), ([]), false, (asking 4), by first | decide | rfl | simp +decide [State.isCandidate], by first | decide | rfl | simp +decide [State.isCandidate], by first | decide | rfl | simp +decide [State.isCandidate], by first | decide | rfl | simp +decide [State.isCandidate], by first | decide | rfl | simp +decide [State.isCandidate], by first | decide | rfl | simp +decide [State.isCandidate]⟩,
   ⟨(msg 5), ([]), sess, ((msg 5).crypt [] 0), (talking 5), by first | decide | rfl | simp +decide [State.isCandidate], by first | decide | rfl | simp +decide [State.isCandidate], by first | decide | rfl | simp +decide [State.isCandidate], by first | decide | rfl | simp +decide [State.isCandidate], by first | decide | rfl | simp +decide [State.isCandidate], by first | decide | rfl | simp +decide [State.isCandidate], by first | decide | rfl | simp +decide [State.isCandidate], by first | decide | rfl | simp +decide [State.isCandidate], by first | decide | rfl | simp +decide [State.isCandidate], by first | decide | rfl | simp +decide [State.isCandidate], by first | decide | rfl | simp +decide [State.isCandidate], by first | decide | rfl | simp +decide [State.isCandidate], by first | decide | rfl | simp +decide [State.isCandidate]⟩,
   ⟨(msg 5), ([]), (asking 5), by first | decide | rfl | simp +decide [State.isCandidate], by first | decide | rfl | simp +decide [State.isCandidate], by first | decide | rfl | simp +decide [State.isCandidate], by first | decide | rfl | simp +decide [State.isCandidate], by first | decide | rfl | simp +decide [State.isCandidate], by first | decide | rfl | simp +decide [State.isCandidate]⟩,
   ⟨(msg 6), ([]), sess, ((msg 6).crypt [] 0), ([]), false, (talking 6), by first | decide | rfl | simp +decide [State.isCandidate], by first | decide | rfl | simp +decide [State.isCandidate], by first | decide | rfl | simp +decide [State.isCandidate], by first | decide | rfl | simp +decide [State.isCandidate], by first | decide | rfl | simp +decide [State.isCandidate], by first | decide | rfl | simp +decide [State.isCandidate], by first | decide | rfl | simp +decide [State.isCandidate], by first | decide | rfl | simp +decide [State.isCandidate], by first | decide | rfl | simp +decide [State.isCandidate], by first | decide | rfl | simp +decide [State.isCandidate], by first | decide | rfl | simp +decide [State.isCandidate], by first | decide | rfl | simp +decide [State.isCandidate], by first | decide | rfl | simp +decide [State.isCandidate]⟩,
   ⟨(msg 6), ([]), ([]), false, (asking 6), by first | decide | rfl | simp +decide [State.isCandidate], by first | decide | rfl | simp +decide [State.isCandidate], by first | decide | rfl | simp +decide [State.isCandidate], by first | decide | rfl | simp +decide [State.isCandidate], by first | decide | rfl | simp +decide [State.isCandidate], by first | decide | rfl | simp +decide [State.isCandidate]⟩,
   ⟨(msg 7), ([]), sess, ((msg 7).crypt [] 0), (talking 7), by first | decide | rfl | simp +decide [State.isCandidate], by first | decide | rfl | simp +decide [State.isCandidate], by first | decide | rfl | simp +decide [State.isCandidate], by first | decide | rfl | simp +decide [State.isCandidate], by first | decide | rfl | simp +decide [State.isCandidate], by first | decide | rfl | simp +decide [State.isCandidate], by first | decide | rfl | simp +decide [State.isCandidate], by first | decide | rfl | simp +decide [State.isCandidate], by first | decide | rfl | simp +decide [State.isCandidate], by first | decide | rfl | simp +decide [State.isCandidate], by first | decide | rfl | simp +decide [State.isCandidate], by first | decide | rfl | simp +decide [State.isCandidate], by first | decide | rfl | simp +decide [State.isCandidate]⟩,
   ⟨(msg 7), ([]), (asking 7), by first | decide | rfl | simp +decide [State.isCandidate], by first | decide | rfl | simp +decide [State.isCandidate], by first | decide | rfl | simp +decide [State.isCandidate], by first | decide | rfl | simp +decide [State.isCandidate], by first | decide | rfl | simp +decide [State.isCandidate], by first | decide | rfl | simp +decide [State.isCandidate]⟩,
   ⟨(msg 8), ([]), sess, ((msg 8).crypt [] 0), (talking 8), by first | decide | rfl | simp +decide [State.isCandidate], by first | decide | rfl | simp +decide [State.isCandidate], by first | decide | rfl | simp +decide [State.isCandidate], by first | decide | rfl | simp +decide [State.isCandidate], by first | decide | rfl | simp +decide [State.isCandidate], by first | decide | rfl | simp +decide [State.isCandidate], by first | decide | rfl | simp +decide [State.isCandidate], by first | decide | rfl | simp +decide [State.isCandidate], by first | decide | rfl | simp +decide [State.isCandidate], by first | decide | rfl | simp +decide [State.isCandidate], by first | decide | rfl | simp +decide [State.isCandidate], by first | decide | rfl | simp +decide [State.isCandidate], by first | decide | rfl | simp +decide [State.isCandidate]⟩,
   ⟨(msg 8), ([]), (asking 8), by first | decide | rfl | simp +decide [State.isCandidate], by first | decide | rfl | simp +decide [State.isCandidate], by first | decide | rfl | simp +decide [State.isCandidate], by first | decide | rfl | simp +decide [State.isCandidate], by first | decide | rfl | simp +decide [State.isCandidate], by first | decide | rfl | simp +decide [State.isCandidate]⟩,
   ⟨(msg 9), ([]), sess, ((msg 9).crypt [] 0), (talking 9), by first | decide | rfl | simp +decide [State.isCandidate], by first | decide | rfl | simp +decide [State.isCandidate], by first | decide | rfl | simp +decide [State.isCandidate], by first | decide | rfl | simp +decide [State.isCandidate], by first | decide | rfl | simp +decide [State.isCandidate], by first | decide | rfl | simp +decide [State.isCandidate], by first | decide | rfl | simp +decide [State.isCandidate], by first | decide | rfl | simp +decide [State.isCandidate], by first | decide | rfl | simp +decide [State.isCandidate], by first | decide | rfl | simp +decide [State.isCandidate], by first | decide | rfl | simp +decide [State.isCandidate], by first | decide | rfl | simp +decide [State.isCandidate], by first | decide | rfl | simp +decide [State.isCandidate]⟩,
   ⟨(msg 9), ([]), (asking 9), by first | decide | rfl | simp +decide [State.isCandidate], by first | decide | rfl | simp +decide [State.isCandidate], by first | decide | rfl | simp +decide [State.isCandidate], by first | decide | rfl | simp +decide [State.isCandidate], by first | decide | rfl | simp +decide [State.isCandidate], by first | decide | rfl | simp +decide [State.isCandidate]⟩,
   ⟨host, 0x7800, 5, ObjType.u8.code, ([1]), 1, ready, by first | decide | rfl | simp +decide [State.isCandidate], by first | decide | rfl | simp +decide [State.isCandidate], by first | decide | rfl | simp +decide [State.isCandidate], by first | decide | rfl | simp +decide [State.isCandidate], by first | decide | rfl | simp +decide [State.isCandidate], by first | decide | rfl | simp +decide [State.isCandidate], by first | decide | rfl | simp +decide [State.isCandidate], by first | decide | rfl | simp +decide [State.isCandidate], by first | decide | rfl | simp +decide [State.isCandidate]⟩,
   ⟨host, 0x2102, 9, ObjType.u16.code, (leBytes 2 70), 2, ready, by first | decide | rfl | simp +decide [State.isCandidate], by first | decide | rfl | simp +decide [State.isCandidate], by first | decide | rfl | simp +decide [State.isCandidate], by first | decide | rfl | simp +decide [State.isCandidate], by first | decide | rfl | simp +decide [State.isCandidate], by first | decide | rfl | simp +decide [State.isCandidate], by first | decide | rfl | simp +decide [State.isCandidate], by first | decide | rfl | simp +decide [State.isCandidate], by first | decide | rfl | simp +decide [State.isCandidate], by first | decide | rfl | simp +decide [State.isCandidate]⟩,
   ⟨host, 0xFFFF, 0, 1, ([1]), .noObject, ready, by first | decide | rfl | simp +decide [State.isCandidate], by first | decide | rfl | simp +decide [State.isCandidate]⟩⟩

/-- States and operands that meet the hypotheses of each clause of Transports. -/
theorem test_witness_transports :
    (∃ (sip : Nat) (sport : Nat) (dip : Nat) (dport : Nat) (fr : Bool) (data : List Byte) (m : Msg) (s : State),
      s.ethOn = true ∧ fr = false ∧ (dip : Int) = s.get .IP_ADDRESS 0 ∧ (dport : Int) = s.get .ACCESS_PORT 0 ∧ msgOf
      data = some m ∧ s.served = true ∧ bit (s.get .ACCESS_PATHS 0) 1 = true ∧ m.flags % 2 = 0 ∧ m.op < 3 ∧ 0 < m.op
      ∧ m.version = 1 ∧ s.engine.udpIn.length < 4) ∧
    (∃ (sip : Nat) (sport : Nat) (dip : Nat) (dport : Nat) (fr : Bool) (data : List Byte) (s : State), s.ethOn = true
      ∧ (fr = true ∨ (dip : Int) ≠ s.get .IP_ADDRESS 0 ∨ (dport : Int) ≠ s.get .ACCESS_PORT 0 ∨ msgOf data = none)) ∧
    (∃ (sip : Nat) (tip : Nat) (s : State), s.ethOn = true ∧ (tip : Int) = s.get .IP_ADDRESS 0) ∧
    (∃ (sip : Nat) (dip : Nat) (data : List Byte) (s : State), s.ethOn = true ∧ (dip : Int) = s.get .IP_ADDRESS 0) ∧
    (∃ (c : Byte) (s : State), s.spiOn = true ∧ c = 1 ∧ s.engine.spiOut = []) ∧
    (∃ (c : Byte) (s : State), s.spiOn = true ∧ c ≠ 1 ∧ c ≠ 2 ∧ c ≠ 3 ∧ c ≠ 0x0B) ∧
    (∃ (data : List Byte) (m : Msg) (s : State), s.spiOn = true ∧ s.engine.spiIn.length < 4 ∧ msgOf data = some m ∧
      s.served = true ∧ bit (s.get .ACCESS_PATHS 0) 0 = true ∧ m.flags % 2 = 0 ∧ m.op < 3 ∧ 0 < m.op ∧ m.version = 1) ∧
    (∃ (data : List Byte) (s : State), s.spiOn = true ∧ s.engine.spiIn.length < 4 ∧ msgOf data = none) ∧
    (∃ (data : List Byte) (s : State), s.spiOn = true ∧ 4 ≤ s.engine.spiIn.length) ∧
    (∃ (n : Nat) (m : Msg) (l : List Msg) (s : State), s.spiOn = true ∧ s.engine.spiOut = m :: l ∧ m.bytes.length ≤
      n) ∧
    (∃ (n : Nat) (m : Msg) (l : List Msg) (s : State), s.spiOn = true ∧ s.engine.spiOut = m :: l ∧ n <
      m.bytes.length) ∧
    (∃ (q : Nat) (words : Nat) (x : Slot) (y : Slot) (v : Word) (w : Word) (l : List Slot) (s : State), s.spiOn =
      true ∧ q < 16 ∧ (s.queue q).drain = 1 ∧ s.get .ST_STATE 0 ≠ 1 ∧ s.fenced 5 q = false ∧ (s.queue q).framing = 0
      ∧ (s.queue q).incoming = none ∧ (s.queue q).slots = x :: y :: l ∧ x.word = some v ∧ y.word = some w ∧ x.bad =
      false ∧ y.bad = false ∧ words = 2) ∧
    (∃ (q : Nat) (words : Nat) (s : State), s.spiOn = true ∧ q < 16 ∧ (s.queue q).drain = 1 ∧ s.get .ST_STATE 0 ≠ 1 ∧
      s.fenced 5 q = true) ∧
    (∃ (q : Nat) (words : Nat) (s : State), s.spiOn = true ∧ (16 ≤ q ∨ (s.queue q).drain ≠ 1) ∧ s.get .ST_STATE 0 ≠
      1) :=
  ⟨⟨1, 2, 9, 8, false, opening.bytes, opening, etherUp, by first | decide | rfl | simp +decide [State.isCandidate], by first | decide | rfl | simp +decide [State.isCandidate], by first | decide | rfl | simp +decide [State.isCandidate], by first | decide | rfl | simp +decide [State.isCandidate], by first | decide | rfl | simp +decide [State.isCandidate], by first | decide | rfl | simp +decide [State.isCandidate], by first | decide | rfl | simp +decide [State.isCandidate], by first | decide | rfl | simp +decide [State.isCandidate], by first | decide | rfl | simp +decide [State.isCandidate], by first | decide | rfl | simp +decide [State.isCandidate], by first | decide | rfl | simp +decide [State.isCandidate], by first | decide | rfl | simp +decide [State.isCandidate]⟩,
   ⟨1, 2, 7, 8, false, ([]), etherUp, by first | decide | rfl | simp +decide [State.isCandidate], by first | decide | rfl | simp +decide [State.isCandidate]⟩,
   ⟨1, 9, etherUp, by first | decide | rfl | simp +decide [State.isCandidate], by first | decide | rfl | simp +decide [State.isCandidate]⟩,
   ⟨1, 9, ([1, 2]), etherUp, by first | decide | rfl | simp +decide [State.isCandidate], by first | decide | rfl | simp +decide [State.isCandidate]⟩,
   ⟨1, spi, by first | decide | rfl | simp +decide [State.isCandidate], by first | decide | rfl | simp +decide [State.isCandidate], by first | decide | rfl | simp +decide [State.isCandidate]⟩,
   ⟨4, spi, by first | decide | rfl | simp +decide [State.isCandidate], by first | decide | rfl | simp +decide [State.isCandidate], by first | decide | rfl | simp +decide [State.isCandidate], by first | decide | rfl | simp +decide [State.isCandidate], by first | decide | rfl | simp +decide [State.isCandidate]⟩,
   ⟨opening.bytes, opening, spi, by first | decide | rfl | simp +decide [State.isCandidate], by first | decide | rfl | simp +decide [State.isCandidate], by first | decide | rfl | simp +decide [State.isCandidate], by first | decide | rfl | simp +decide [State.isCandidate], by first | decide | rfl | simp +decide [State.isCandidate], by first | decide | rfl | simp +decide [State.isCandidate], by first | decide | rfl | simp +decide [State.isCandidate], by first | decide | rfl | simp +decide [State.isCandidate], by first | decide | rfl | simp +decide [State.isCandidate]⟩,
   ⟨([1, 2]), spi, by first | decide | rfl | simp +decide [State.isCandidate], by first | decide | rfl | simp +decide [State.isCandidate], by first | decide | rfl | simp +decide [State.isCandidate]⟩,
   ⟨msgBytes, ({ spi with engine := { spiIn := [msg0, msg0, msg0, msg0] } }), by first | decide | rfl | simp +decide [State.isCandidate], by first | decide | rfl | simp +decide [State.isCandidate]⟩,
   ⟨40, msg0, ([]), ({ spi with engine := { spiOut := [msg0] } }), by first | decide | rfl | simp +decide [State.isCandidate], by first | decide | rfl | simp +decide [State.isCandidate], by first | decide | rfl | simp +decide [State.isCandidate]⟩,
   ⟨4, msg0, ([]), ({ spi with engine := { spiOut := [msg0] } }), by first | decide | rfl | simp +decide [State.isCandidate], by first | decide | rfl | simp +decide [State.isCandidate], by first | decide | rfl | simp +decide [State.isCandidate]⟩,
   ⟨3, 2, headSlot, (slots4.getD 0 default), (headSlot.word.getD 0), ((slots4.getD 0 default).word.getD 0), (slots4.drop 1), (spi.setQueue 3 { depth := 64, drain := 1, slots := headSlot :: slots4 }), by first | decide | rfl | simp +decide [State.isCandidate], by first | decide | rfl | simp +decide [State.isCandidate], by first | decide | rfl | simp +decide [State.isCandidate], by first | decide | rfl | simp +decide [State.isCandidate], by first | decide | rfl | simp +decide [State.isCandidate], by first | decide | rfl | simp +decide [State.isCandidate], by first | decide | rfl | simp +decide [State.isCandidate], by first | decide | rfl | simp +decide [State.isCandidate], by first | decide | rfl | simp +decide [State.isCandidate], by first | decide | rfl | simp +decide [State.isCandidate], by first | decide | rfl | simp +decide [State.isCandidate], by first | decide | rfl | simp +decide [State.isCandidate], by first | decide | rfl | simp +decide [State.isCandidate]⟩,
   ⟨3, 2, ((spi.setQueue 3 { depth := 64, drain := 1, slots := headSlot :: slots4 }).put .FENCED 5 8), by first | decide | rfl | simp +decide [State.isCandidate], by first | decide | rfl | simp +decide [State.isCandidate], by first | decide | rfl | simp +decide [State.isCandidate], by first | decide | rfl | simp +decide [State.isCandidate], by first | decide | rfl | simp +decide [State.isCandidate]⟩,
   ⟨3, 2, spi, by first | decide | rfl | simp +decide [State.isCandidate], by first | decide | rfl | simp +decide [State.isCandidate], by first | decide | rfl | simp +decide [State.isCandidate]⟩⟩

/-- States and operands that meet the hypotheses of each clause of TimeWritesJudged. -/
theorem test_witness_time_writes_judged :
    (∃ (w : Who) (v : Int) (s : State), s.Open w .engineer .VT_INCREMENT ∧ s.notActingFor w = false ∧ s.ownsServo w =
      true ∧ s.vtHeld = false ∧ 0x01FFBE77 ≤ v ∧ v ≤ 0x02004189) ∧
    (∃ (w : Who) (v : Int) (s : State), s.Open w .engineer .VT_INCREMENT ∧ s.notActingFor w = false ∧ s.ownsServo w =
      true ∧ s.vtHeld = false ∧ (v < 0x01FFBE77 ∨ 0x02004189 < v)) ∧
    (∃ (w : Who) (v : Int) (s : State), s.Open w .engineer .VT_SLEW ∧ s.ownsServo w = true ∧ s.vtHeld = false ∧
      ((s.time.vtSlew + v * 256).natAbs : Int) ≤ s.get .STEP_THRESHOLD 0 * 2 ^ 24) ∧
    (∃ (w : Who) (v : Int) (s : State), s.Open w .engineer .VT_SLEW ∧ s.ownsServo w = true ∧ s.vtHeld = false ∧ s.get
      .STEP_THRESHOLD 0 * 2 ^ 24 < ((s.time.vtSlew + v * 256).natAbs : Int)) ∧
    (∃ (w : Who) (v : Int) (s : State), s.Open w .engineer .VT_LOAD ∧ 0 ≤ v ∧ s.get .FRAME_STATE 0 = 0) ∧
    (∃ (w : Who) (v : Int) (s : State), s.Open w .engineer .VT_LOAD ∧ 0 ≤ v ∧ s.get .FRAME_STATE 0 ≠ 0) :=
  ⟨⟨host, 0x01FFBE77, ((vtRun 1)), ⟨by decide, by decide, by decide⟩, by first | decide | rfl | simp +decide [State.isCandidate], by first | decide | rfl | simp +decide [State.isCandidate], by first | decide | rfl | simp +decide [State.isCandidate], by first | decide | rfl | simp +decide [State.isCandidate], by first | decide | rfl | simp +decide [State.isCandidate]⟩,
   ⟨host, 0x0200418A, ((vtRun 1)), ⟨by decide, by decide, by decide⟩, by first | decide | rfl | simp +decide [State.isCandidate], by first | decide | rfl | simp +decide [State.isCandidate], by first | decide | rfl | simp +decide [State.isCandidate], by first | decide | rfl | simp +decide [State.isCandidate]⟩,
   ⟨host, 5, ((vtRun 1)), ⟨by decide, by decide, by decide⟩, by first | decide | rfl | simp +decide [State.isCandidate], by first | decide | rfl | simp +decide [State.isCandidate], by first | decide | rfl | simp +decide [State.isCandidate]⟩,
   ⟨host, (-10 ^ 15), ((vtRun 1)), ⟨by decide, by decide, by decide⟩, by first | decide | rfl | simp +decide [State.isCandidate], by first | decide | rfl | simp +decide [State.isCandidate], by first | decide | rfl | simp +decide [State.isCandidate]⟩,
   ⟨host, 0, ready, ⟨by decide, by decide, by decide⟩, by first | decide | rfl | simp +decide [State.isCandidate], by first | decide | rfl | simp +decide [State.isCandidate]⟩,
   ⟨host, 0, run0, ⟨by decide, by decide, by decide⟩, by first | decide | rfl | simp +decide [State.isCandidate], by first | decide | rfl | simp +decide [State.isCandidate]⟩⟩

/-- States and operands that meet the hypotheses of each clause of ArmingOrder. -/
theorem test_witness_arming_order :
    (∃ (w : Who) (g : Nat) (d : Nat) (s : State), s.Open w .engineer .COMMIT_ARM) :=
  ⟨host, 100, 7, armed0, ⟨by decide, by decide, by decide⟩⟩

/-- States and operands that meet the hypotheses of each clause of EmptyInterrupt. -/
theorem test_witness_empty_interrupt :
    (∃ (w : Who) (k : Fin 8) (s : State), s.Open w .operator .MBX_EMPTY_ARM ∧ s.boundTo w k = true ∧ (s.box k).inbox
      ≠ []) ∧
    (∃ (w : Who) (k : Fin 8) (s : State), s.Open w .operator .MBX_EMPTY_ARM ∧ s.boundTo w k = true ∧ (s.box k).inbox
      = []) ∧
    (∃ (k : Fin 8) (x : Notice) (s : State), s.get .MBX_STATE k ≠ 0 ∧ (s.box k).held = [] ∧ (s.box k).inbox = [x] ∧
      (s.box k).emptyArmed = true) :=
  ⟨⟨host, 3, (boxed.setBox 3 { session := 1, inbox := [note1] }), ⟨by decide, by decide, by decide⟩, by first | decide | rfl | simp +decide [State.isCandidate], by first | decide | rfl | simp +decide [State.isCandidate]⟩,
   ⟨host, 3, boxed, ⟨by decide, by decide, by decide⟩, by first | decide | rfl | simp +decide [State.isCandidate], by first | decide | rfl | simp +decide [State.isCandidate]⟩,
   ⟨3, note1, (boxed.setBox 3 { session := 1, inbox := [note1], emptyArmed := true }), by first | decide | rfl | simp +decide [State.isCandidate], by first | decide | rfl | simp +decide [State.isCandidate], by first | decide | rfl | simp +decide [State.isCandidate], by first | decide | rfl | simp +decide [State.isCandidate]⟩⟩

/-- States and operands that meet the hypotheses of each clause of FencesWithoutEffect. -/
theorem test_witness_fences_without_effect :
    (∃ (w : Who) (cls : Fin 10) (n : Nat) (s : State), s.Open w .service .FENCE_SET ∧ cls.val = 9 ∧ n < 2 ∧ s.fenced
      9 n = false ∧ (s.fenceTick 9 n).lifted = false ∧ s.fenced 9 (1 - n) = true) ∧
    (∃ (w : Who) (cls : Fin 10) (n : Nat) (s : State), s.Open w .service .FENCE_SET ∧ n < fenceInstances cls ∧
      s.fenced cls n = true) ∧
    (∃ (w : Who) (cls : Fin 10) (n : Nat) (s : State), s.Open w .service .FENCE_LIFT ∧ n < fenceInstances cls ∧
      s.fenced cls n = false) :=
  ⟨⟨host, 9, 1, (ready.put .FENCED 9 1), ⟨by decide, by decide, by decide⟩, by first | decide | rfl | simp +decide [State.isCandidate], by first | decide | rfl | simp +decide [State.isCandidate], by first | decide | rfl | simp +decide [State.isCandidate], by first | decide | rfl | simp +decide [State.isCandidate], by first | decide | rfl | simp +decide [State.isCandidate]⟩,
   ⟨host, 5, 3, (ready.put .FENCED 5 8), ⟨by decide, by decide, by decide⟩, by first | decide | rfl | simp +decide [State.isCandidate], by first | decide | rfl | simp +decide [State.isCandidate]⟩,
   ⟨host, 0, 31, ready, ⟨by decide, by decide, by decide⟩, by first | decide | rfl | simp +decide [State.isCandidate], by first | decide | rfl | simp +decide [State.isCandidate]⟩⟩

/-- States and operands that meet the hypotheses of each clause of InjectedRequests. -/
theorem test_witness_injected_requests :
    (∃ (w : Who) (t0 : Fin 4) (word : Nat) (s : State), s.Open w .engineer .INJ_REQUEST ∧ (s.get .TRIER_STATE t0 = 0
      ∨ (s.trier t0).slot ≠ none ∨ entryGood word = false)) ∧
    (∃ (t0 : Fin 4) (raw : Int) (k : Nat) (s : State), s.workOver (s.trier t0) = true ∧ (s.trier t0).work = .injected
      k ∧ s.fenced 4 t0 = false) :=
  ⟨⟨host, 2, 1, ready, ⟨by decide, by decide, by decide⟩, by first | decide | rfl | simp +decide [State.isCandidate]⟩,
   ⟨3, 77, 0, ((run0.setTrier 3 { work := .injected 0, ends := -10 ^ 6 })), by first | decide | rfl | simp +decide [State.isCandidate], by first | decide | rfl | simp +decide [State.isCandidate], by first | decide | rfl | simp +decide [State.isCandidate]⟩⟩

/-- States and operands that meet the hypotheses of each clause of CalibrationFault. -/
theorem test_witness_calibration_fault :
    (∃ (t0 : Fin 4) (offset : Int) (gain : Nat) (s : State), (s.trier t0).work = .calibrate 63 ∧ s.workOver (s.trier
      t0) = true ∧ (64 * 256 < offset.natAbs ∨ 2 ^ 30 < ((gain : Int) - 2 ^ 30).natAbs * 100)) :=
  ⟨2, 16385, (2 ^ 30), ((run0.setTrier 2 { work := .calibrate 63, ends := -10 ^ 6 })), by first | decide | rfl | simp +decide [State.isCandidate], by first | decide | rfl | simp +decide [State.isCandidate], by first | decide | rfl | simp +decide [State.isCandidate]⟩

/-- A state with a command waiting and one with none, of StepTakesTheFront. -/
theorem test_witness_step : (∃ (c : Instr) (rest : List Instr) (s : State), s.pending = c :: rest) ∧ ∃ s : State, s.pending = [] :=
  ⟨⟨.servoCycle, [.acqStop host], { ready with pending := [.servoCycle, .acqStop host] }, rfl⟩, State.reset, rfl⟩

/-- The premises of StepKeepsSound are met right after reset: every mode register that is not listed is at its default. -/
theorem test_witness_sound : State.reset.canonical = true ∧ (∃ t, step State.reset = .next t) ∧
    ∀ o ∈ [Obj.FRAME_STATE, .START_STATE, .TWIN_STATE, .VAT_STATE], o.legal (State.reset.get o 0) = true :=
  ⟨by decide, ⟨State.reset.clockCycle, rfl⟩, by decide⟩

/-- States that meet each premise of RequestersAreJudged, at the lowest role that suffices and the highest that does not. -/
theorem test_witness_judged :
    (∃ (c : Instr) (j : Judged) (s : State), judgedBy c = some j ∧ s.served = false) ∧
    (∃ (c : Instr) (j : Judged) (s : State), judgedBy c = some j ∧ s.served = true ∧ j.who.role.rank < j.role.rank) ∧
    (∃ (c : Instr) (j : Judged) (s : State), judgedBy c = some j ∧ s.served = true ∧ j.role.rank ≤ j.who.role.rank ∧
      j.write = true ∧ j.who.origin ≠ .hub ∧ s.get .SEC_STATE 0 = 4) ∧
    (∃ (c : Instr) (j : Judged) (s : State), judgedBy c = some j ∧ s.served = true ∧ j.role.rank ≤ j.who.role.rank ∧
      j.write = true ∧ j.who.origin ≠ .hub ∧ s.get .SEC_STATE 0 ≠ 4 ∧ s.get .START_STATE 0 = 2 ∧ j.obj ≠ .FW_STAGE ∧
      j.obj ≠ .FW_VERIFY ∧ j.obj ≠ .FW_ACTIVATE) ∧
    (∃ (c : Instr) (j : Judged) (s : State), judgedBy c = some j ∧ s.served = true ∧ j.role.rank ≤ j.who.role.rank ∧
      j.write = true ∧ j.who.origin ≠ .hub ∧ s.get .SEC_STATE 0 ≠ 4 ∧ s.get .START_STATE 0 ≠ 2 ∧ s.get .PWR_STATE 0 = 3) :=
  ⟨⟨.acqStop host, ⟨host, .operator, .ACQ_STOP, true⟩, State.reset, by decide⟩,
   ⟨.acqStop ⟨.spi, .observer, 1⟩, ⟨⟨.spi, .observer, 1⟩, .operator, .ACQ_STOP, true⟩, ready, by decide⟩,
   ⟨.acqStop ⟨.spi, .operator, 1⟩, ⟨⟨.spi, .operator, 1⟩, .operator, .ACQ_STOP, true⟩, ready.put .SEC_STATE 0 4, by decide⟩,
   ⟨.acqStop host, ⟨host, .operator, .ACQ_STOP, true⟩, ready.put .START_STATE 0 2, by decide⟩,
   ⟨.acqStop host, ⟨host, .operator, .ACQ_STOP, true⟩, ready.put .PWR_STATE 0 3, by decide⟩⟩

/-- Objects and states that meet each premise of WritesWithoutEffect: FRAME_STATE is read-only, FRAME_SOURCE is writable while
stopped, VT_INCREMENT is the Engineer's. -/
theorem test_witness_without_effect :
    (∃ (r : ObjInfo) (i : Nat), entryAt 0x1680 1 = .ok (r, i) ∧ r.access = .ro) ∧
    (∃ (r : ObjInfo) (i : Nat), entryAt 0x1680 4 = .ok (r, i) ∧ r.access = .rws ∧ run0.running = true) ∧
    (∃ (r : ObjInfo) (i : Nat), entryAt 0x6800 4 = .ok (r, i) ∧ (⟨.spi, .operator, 1⟩ : Who).role.rank < r.role.rank) :=
  ⟨⟨Obj.info .FRAME_STATE, 0, by first | decide | rfl, by decide⟩,
   ⟨Obj.info .FRAME_SOURCE, 0, by first | decide | rfl, by decide, by decide⟩,
   ⟨Obj.info .VT_INCREMENT, 0, by first | decide | rfl, by decide⟩⟩

/-- A state whose routes meet RaiseCountsAnEvent, for the last event. -/
theorem test_witness_raise : ∃ (n : Nat) (s : State), s.routes n 4 = false ∧ s.routes n 5 = false ∧ n ≠ 0xA1 :=
  ⟨255, ready.put .EV_ROUTE 255 1, by decide⟩

/-- The least and the greatest value and flags that PressBlocksRoundTrip admits. -/
theorem test_witness_press_blocks :
    ∃ rs : List Rec, 0 < rs.length ∧ rs.length ≤ 64 ∧ ∀ r ∈ rs, -8388608 ≤ r.value ∧ r.value ≤ 8388607 ∧ r.flags < 256 :=
  ⟨[⟨0, 0, 0, -8388608, 0, 0⟩, ⟨0, 0, 0, 8388607, 255, 0⟩], by decide⟩

/-- A frame of the control class that meets the premises of FramesRoundTrip, at the bounds of its fields. -/
theorem test_witness_frames :
    ∃ f : Frame, f.cls < 16 ∧ f.srcKind < 4 ∧ f.srcPos < 32 ∧ f.srcAddr < 512 ∧ f.dstKind < 4 ∧ f.dstPos < 32 ∧
      f.dstAddr < 512 ∧ f.hops < 128 ∧ f.fseq < 65536 ∧ f.flen % 4 = 0 ∧ f.flen ≤ largestFlen f.cls :=
  ⟨{ control 4 with srcKind := 3, srcPos := 31, srcAddr := 511, hops := 127, fseq := 65535 }, by decide⟩

/-- A message and packets, with and without the end-to-end check, that meet the premises of MessagesAndPacketsRoundTrip. -/
theorem test_witness_messages :
    (msg0.magic = 0x5951 ∧ msg0.version < 256 ∧ msg0.op < 256 ∧ msg0.body.length ≤ 2016 ∧ msg0.tag.length = 16) ∧
    (pkt0.pflags % 2 = 1 ↔ pkt0.e2e.isSome = true) ∧
    (({ pkt0 with pflags := 1, e2e := some 4294967295 } : Packet).pflags % 2 = 1 ↔
      ({ pkt0 with pflags := 1, e2e := some 4294967295 } : Packet).e2e.isSome = true) := by decide

/-! ### Ill-formed commands: one for each check of WellFormed -/

theorem test_ill_formed_numbers :
    ([.vtIncrementWrite host (-1), .vtIncrementWrite host (2 ^ 32), .vtSlew host (2 ^ 63), .ptSlew host (-2 ^ 63 - 1),
      .vtLoad host (-1), .vatEpochWrite host (2 ^ 48 * 65536000000000), .servoOwnerWrite host 256, .clkRefSelWrite host (-1),
      .clk10Lost 0, .frameTableWrite host none 256, .frameTableWrite host (some 3) (2 ^ 32), .commitArm host (2 ^ 64) 0,
      .commitArm host 0 (2 ^ 32), .commitCancel host (2 ^ 64), .commitNow host (2 ^ 32), .trierConversionDone 0 32768,
      .injRequest host 0 (2 ^ 32), .trierCalStepDone 0 (2 ^ 31) 0, .trierCalStepDone 0 0 (2 ^ 32), .calibrationDone 0 (-2 ^ 31 - 1) 0,
      .calibrationDone 0 0 (2 ^ 32), .excCal host 256, .coefSwap host 0 256, .dcbFreezeWrite host 0 65536, .queueRead host 0 65536,
      .streamAck host 0 (2 ^ 32), .markSet host 0 (2 ^ 64), .asymCorrWrite host 0 (2 ^ 63), .rtFaultClear host 256,
      .twinSwitch host 256] : List Instr).all (fun c => !c.wellFormed) = true := by decide

theorem test_ill_formed_masks :
    ([.bankCauseClear host 0 (2 ^ 32), .trierCauseClear host 0 (2 ^ 32), .laneCauseClear host 0 (2 ^ 32),
      .unitCauseClear host 0 (2 ^ 32), .pressCauseClear host (2 ^ 32), .qcCauseClear host (2 ^ 32), .lnCauseClear host (2 ^ 32),
      .rlCauseClear host (2 ^ 32), .twinCauseClear host (2 ^ 32), .mjCauseClear host (2 ^ 32), .fiCauseClear host (2 ^ 32),
      .secCauseClear host (2 ^ 32), .pwCauseClear host (2 ^ 32), .stCauseClear host (2 ^ 32)] : List Instr).all
      (fun c => !c.wellFormed) = true := by decide

theorem test_ill_formed_lengths :
    ([.arbitrateVerdict 0 [] [0, 0, 0], .bankDelayCalDone 0 [] [], .evAckMap host [], .adaptationDone 0 256 [],
      .adaptationDone 0 0 [], .caveScrubPass 0 0 [(0, 0, default)], .frameReceived 0 [] 0 0 false,
      .frameReceived 0 (List.replicate 17 0) 0 0 false, .frameReceived 0 (List.replicate 16 0) (-1) 0 false] : List Instr).all
      (fun c => !c.wellFormed) = true := by decide

theorem test_ill_formed_lanes :
    ([.coefParityFail 0 0 [17], .compressedBlockClose 0 [16], .compressedBlockClose 0 [512],
      .alignmentFound 0 false (2 ^ 32) 0 0 0, .alignmentFound 0 false 0 (2 ^ 32) 0 0, .alignmentFound 0 false 0 0 (2 ^ 32) 0,
      .alignmentFound 0 false 0 0 0 (2 ^ 32), .laneActive 0 65536, .laneAddRx 0 0 (2 ^ 32), .laneAddAckRx 0 0 (2 ^ 32),
      .injectLineBit host 0 256, .injectHeaderBit host 0 256, .injectStuff host 0 256, .injectPayloadBit host 0 256,
      .blockReceived 0 (2 ^ 16) 0 0 0 0, .blockReceived 0 0 (2 ^ 256) 0 0 0, .blockReceived 0 0 0 0 0 (2 ^ 272)] : List Instr).all
      (fun c => !c.wellFormed) = true := by decide

theorem test_ill_formed_frames :
    ([.vatTriggerRx 0 { control 1 with cls := 16 }, .beaconRx 0 { control 1 with srcKind := 4 },
      .linkNoticeRx 0 { control 1 with srcPos := 32 }, .linkKillRx 0 { control 1 with srcAddr := 512 },
      .pauseRx 0 { control 1 with dstKind := 4 }, .ackRx 0 { control 1 with dstPos := 32 }, .resendRx 0 { control 1 with dstAddr := 512 },
      .dictReqRx 0 { control 1 with hops := 128 }, .announceRx 0 { control 1 with fseq := 65536 },
      .memberRecordRx 0 { control 1 with payload := [0] }, .dreqRx 0 (control 1) (-1), .drespRx 0 (control 1) (-1),
      .syncRx 0 (control 1) (-1), .checkRx (control 1) (-1), .heartbeatRx { control 1 with cls := 16 },
      .wreqRx 0 (control 1) (some { control 1 with cls := 16 }), .wgrantRx 0 { control 1 with cls := 16 },
      .mirrorRx { control 1 with cls := 16 }, .dictMirrorRx (control 1) [(512, 0, 0, 0)], .caveCopyRx { control 1 with cls := 16 },
      .ptpMessageRx 256 .management, .ptpMessageRx 0 (.announce (2 ^ 64) 0 0 0)] : List Instr).all
      (fun c => !c.wellFormed) = true := by decide

theorem test_ill_formed_tick :
    ([.gridTick { noTick with compliance := [512] }, .gridTick { noTick with overPos := [512] },
      .gridTick { noTick with overAny := [512] }, .gridTick { noTick with bias := [(32, 0)] },
      .gridTick { noTick with bias := [(0, 17)] },
      .gridTick { noTick with bits := [⟨0, 0, 2 ^ 128⟩] }, .gridTick { noTick with badBlocks := [512] }, .gridTick { noTick with parity := [512] }] : List Instr).all
      (fun c => !c.wellFormed) = true := by decide

theorem test_ill_formed_access :
    ([.udpDatagramRx (2 ^ 32) 0 0 0 false [], .udpDatagramRx 0 65536 0 0 false [], .udpDatagramRx 0 0 (2 ^ 32) 0 false [],
      .udpDatagramRx 0 0 0 65536 false [], .arpRequest (2 ^ 32) 0, .arpRequest 0 (2 ^ 32), .icmpEcho (2 ^ 32) 0 [],
      .spiQueueRead 256 0, .dictWrite host 65536 0 0 [], .dictWrite host 0 256 0 [], .dictWrite host 0 0 256 [],
      .mbxOpen host 0 256, .mbxPost host 0 { note1 with nseq := 65536 }, .mbxAckRx host 0 65536, .mbxTxData host 0 (2 ^ 32) [],
      .mbxServicePost 0 { note1 with code := 256 } [], .mbxServiceAck 0 65536, .jrnPageRead host 0 [64],
      .jrnHostMarkWrite host (2 ^ 32)] : List Instr).all (fun c => !c.wellFormed) = true := by decide

theorem test_ill_formed_management :
    ([.fenceSet host 0 256, .fenceLift host 0 256, .secRevoke host (2 ^ 32), .fwKeyRevoke host 256, .debugSet host 256,
      .dieTempSample 32768, .testStepEnd (2 ^ 64) [], .repairClear host 256, .repairFuse host 256,
      .initComplete ⟨false, 3, [], [], []⟩] : List Instr).all (fun c => !c.wellFormed) = true := by decide

/-! ### Single steps, with results from the manual -/

/-- R635: the cases of an arming command that are judged before the digest, at the bounds of R32: 64 ticks and 2^26 ticks. -/
theorem test_arming_order :
    ([(armed0, 100, 7), (armed0.put .VAT_STATE 0 3, 100, 8), (armed0, 100, 8), (ready, 63, 7), (ready, 67108865, 7)].map
      (fun x : State × Nat × Nat => match exec (.commitArm host x.2.1 x.2.2) x.1 with | .next t => t.answer.err | _ => .busy)) =
      [.ok, .discordant, .commitArmed, .commitLate, .commitLate] := by decide

/-- R592: the release of RST_N takes the hub from RESET (0) to BOOT (1). -/
theorem test_release_boots :
    (match step (State.reset.push .rstNRelease) with | .next t => t.get .START_STATE 0 | _ => -1) = 1 := by rfl

/-- R9: 1 s, 2 ns and 3 units of the fraction as VT80. -/
theorem test_vt80 : vt80Bytes ((1000000002 : Int) * 65536 + 3) = [3, 0, 2, 0, 0, 0, 1, 0, 0, 0, 0, 0] := by decide

/-- R506: EV_COUNT saturates at 0xFFFF_FFFF. -/
theorem test_event_count_saturates :
    ((ready.put .EV_COUNT 9 4294967295).raise 9).get .EV_COUNT 9 = 4294967295 := by decide

/-- R41: a slew of exactly STEP_THRESHOLD is accepted, and one unit more is refused. -/
theorem test_slew_threshold :
    (match exec (.vtSlew host (1000 * 65536)) (vtRun 1) with | .next t => t.answer.err | _ => .busy) = .ok ∧
    (match exec (.vtSlew host (1000 * 65536 + 1)) (vtRun 1) with | .next t => t.answer.err | _ => .busy) = .refused := by decide

end Sys2Proof.Machine
end

section
/-! SUPPORT. A report leaves every cause bit of MJ_CAUSE that is set (R476, R511): the one cause it may note there is that of a
notice placed, bit 0. -/

namespace Sys2Proof.Machine

open Sys2Proof

variable {r s : State} {m : Nat}

theorem bit_withBit_of_bit {y : Int} (k : Nat) (h : bit y m = true) : bit (withBit y k) m = true := by
  unfold bit withBit at *
  rw [Int.toNat_natCast, Nat.testBit_or, h, Bool.true_or]

/-- Every bit of MJ_CAUSE that is set in the first state is set in the second. -/
def State.KeepsMj (r s : State) : Prop := ∀ m, bit (r.get .MJ_CAUSE 0) m = true → bit (s.get .MJ_CAUSE 0) m = true

theorem State.KeepsMj.of_get_eq (h : s.get .MJ_CAUSE 0 = r.get .MJ_CAUSE 0) : r.KeepsMj s :=
  fun _ hm => h ▸ hm

theorem State.KeepsMj.trans {t : State} (h : r.KeepsMj s) (k : s.KeepsMj t) : r.KeepsMj t :=
  fun m hm => k m (h m hm)

theorem mjCause_sendFrame (s : State) (p rank : Nat) (f : Frame) :
    (s.sendFrame p rank f).get .MJ_CAUSE 0 = s.get .MJ_CAUSE 0 := by
  have hq (u : State) (q : Nat) (x : Frame) : (u.queueFrame q rank x).get .MJ_CAUSE 0 = u.get .MJ_CAUSE 0 := by
    unfold State.queueFrame
    split <;> rfl
  unfold State.sendFrame
  dsimp only
  repeat' split
  all_goals simp [hq, State.bump, State.add64]

theorem mjCause_sendReport (s : State) (n : Nat) : (s.sendReport n).get .MJ_CAUSE 0 = s.get .MJ_CAUSE 0 := by
  unfold State.sendReport
  dsimp only
  split
  · rfl
  · split
    · rfl
    · exact mjCause_sendFrame _ _ _ _

theorem mjCause_deliverRing (s : State) (n : Nat) : (s.deliverRing n).get .MJ_CAUSE 0 = s.get .MJ_CAUSE 0 := by
  have hd (v : EvDelivery) : (s.setEvDelivery n v).get .MJ_CAUSE 0 = s.get .MJ_CAUSE 0 := rfl
  unfold State.deliverRing
  dsimp only
  repeat' split
  all_goals simp [hd, mjCause_sendReport, State.bump]

theorem mjCause_countRaise (s : State) (n : Nat) : (s.countRaise n).get .MJ_CAUSE 0 = s.get .MJ_CAUSE 0 := by
  unfold State.countRaise
  dsimp only
  split <;> simp [State.setEvDelivery]

theorem mjCause_recover (s : State) : s.recover.get .MJ_CAUSE 0 = s.get .MJ_CAUSE 0 := by
  unfold State.recover
  dsimp only
  split
  · simp
  · rfl

theorem keepsMj_orCause (s : State) (b : Nat) : s.KeepsMj (s.orCause .MJ_CAUSE 0 b) := by
  intro m hm
  unfold State.orCause
  rw [State.get_put, if_pos ⟨rfl, rfl⟩]
  exact bit_withBit_of_bit b hm

theorem keepsMj_setEvDelivery (s : State) (n : Nat) (v : EvDelivery) : s.KeepsMj (s.setEvDelivery n v) := .of_get_eq rfl

theorem keepsMj_setBox (s : State) (k : Nat) (v : Mailbox) : s.KeepsMj (s.setBox k v) := .of_get_eq rfl

theorem keepsMj_noticePlaced (s : State) : s.KeepsMj s.noticePlaced := by
  unfold State.noticePlaced
  split
  · exact .of_get_eq rfl
  · exact (keepsMj_orCause s 0).trans (.of_get_eq ((mjCause_deliverRing _ _).trans (mjCause_countRaise _ _)))

theorem keepsMj_placeNotice (s : State) (k : Nat) (mk : Nat → Notice) : s.KeepsMj (s.placeNotice k mk) := by
  unfold State.placeNotice
  dsimp only
  split
  · exact (keepsMj_setBox _ _ _).trans (keepsMj_noticePlaced _)
  · exact keepsMj_setBox _ _ _

theorem keepsMj_postEvent (s : State) (n : Nat) : s.KeepsMj (s.postEvent n) :=
  (keepsMj_setEvDelivery _ _ _).trans (keepsMj_placeNotice _ _ _)

theorem mjCause_countNotice (s : State) (n : Nat) : (s.countNotice n).get .MJ_CAUSE 0 = s.get .MJ_CAUSE 0 := by
  unfold State.countNotice
  dsimp only
  exact List.foldlRecOn (motive := fun u : State => u.get .MJ_CAUSE 0 = s.get .MJ_CAUSE 0) _ _ rfl (fun _ hu _ _ => hu)

theorem keepsMj_deliverMbx (s : State) (n : Nat) : s.KeepsMj (s.deliverMbx n) := by
  have hpost (v : EvDelivery) : s.KeepsMj ((s.setEvDelivery n v).postEvent n) :=
    (keepsMj_setEvDelivery s n v).trans (keepsMj_postEvent _ n)
  unfold State.deliverMbx
  dsimp only
  split
  · split
    · exact .of_get_eq (by simp [State.bump])
    · split
      · exact .of_get_eq (mjCause_countNotice s n)
      · split
        · split
          · exact .of_get_eq rfl
          · exact hpost _
        · exact hpost _
  · exact .of_get_eq rfl

theorem keepsMj_raise (s : State) (n : Nat) : s.KeepsMj (s.raise n) := by
  have hrec : s.KeepsMj (if n = 0xA1 then s.recover else s) := by
    split
    · exact .of_get_eq (mjCause_recover s)
    · exact .of_get_eq rfl
  unfold State.raise
  exact hrec.trans (.trans (.of_get_eq ((mjCause_deliverRing _ _).trans (mjCause_countRaise _ _))) (keepsMj_deliverMbx _ n))

/-- A cause of MJ_CAUSE is set, whatever its event brings with it. -/
theorem bit_cause_mj (s : State) (b : Nat) : bit ((s.cause .MJ_CAUSE 0 b).get .MJ_CAUSE 0) b = true := by
  unfold State.cause
  split
  · rwa [get_noteCause]
  · refine keepsMj_raise _ _ b ?_
    rw [get_noteCause]
    exact bit_orCause

/-- A cause bit of MJ_CAUSE that goes from 0 to 1 raises its event, 0xC0 and the bit's number, once (R501). -/
theorem count_cause_mj (s : State) {b : Nat} (hb : b ≠ 0) (h : bit (s.get .MJ_CAUSE 0) b = false) :
    (s.cause .MJ_CAUSE 0 b).get .EV_COUNT (0xC0 + b) = min (s.get .EV_COUNT (0xC0 + b) + 1) 4294967295 := by
  unfold State.cause
  rw [if_neg (by simp [h])]
  change (State.raise _ (0xC0 + b)).get _ _ = _
  rw [get_raise_count _ _ _ (by omega), if_pos rfl, get_noteCause]
  simp [State.orCause]

end Sys2Proof.Machine
end

section
/-! SUPPORT. The staged digest rests on no object that journalling and reporting may write (R449). -/

namespace Sys2Proof.Machine

open Sys2Proof

set_option maxRecDepth 100000 in
/-- What journalling and reporting may write is no RW or RWS object. -/
theorem cfgRows_not_reporting :
    objTable.all (fun r => !(r.access == .rw || r.access == .rws) || !r.obj.reporting) = true := by decide

theorem cfgEntry_not_reporting {e : Nat × ObjInfo × Nat} (h : e ∈ cfgEntries) : e.2.1.obj.reporting = false := by
  unfold cfgEntries at h
  obtain ⟨row, hrow, hplace⟩ := List.mem_flatMap.1 (List.mem_mergeSort.1 h)
  obtain ⟨hmem, haccess⟩ := List.mem_filter.1 hrow
  obtain ⟨_, _, rfl⟩ := List.mem_map.1 hplace
  simpa [haccess] using List.all_eq_true.1 cfgRows_not_reporting row hmem

/-- The staged value of an entry is the same in two states that differ by journalling and reporting. -/
theorem State.Within.stagedOf {s t : State} (h : s.Within [] [] t) {row : ObjInfo} (i : Nat)
    (hrow : row.obj.reporting = false) : t.stagedOf row i = s.stagedOf row i := by
  have hengine : t.engine = s.engine := h.parts .engine List.not_mem_nil rfl
  have hblob : t.blob = s.blob := h.parts .blob List.not_mem_nil rfl
  unfold State.stagedOf State.stagedValue State.valueOf State.getBytes
  rw [hengine, hblob, h.get List.not_mem_nil rfl, h.get List.not_mem_nil hrow]

theorem State.Within.stagedDigest {s t : State} (h : s.Within [] [] t) : t.stagedDigest = s.stagedDigest := by
  unfold State.stagedDigest digestOf
  rw [List.flatMap_def, List.flatMap_def,
    List.map_congr_left fun e he => congrArg (digestBytes e.2.1) (h.stagedOf e.2.2 (cfgEntry_not_reporting he))]

end Sys2Proof.Machine
end

section
/-! The cases of an arming command in the order of R635. -/

namespace Sys2Proof.Machine

open Sys2Proof

variable {w : Who} {g d : Nat} {s : State}

/-- The value of a COMMIT_ARM: its grid index in 8 bytes and its digest in 4. -/
def armValue (g d : Nat) : Val := .bytes (leBytes 8 g ++ leBytes 4 d)

/-- What R32 asks of the grid index of an arming: its instant is less than 64 ticks or more than 2^26 ticks ahead. -/
abbrev State.armLate (s : State) (g : Nat) : Prop :=
  s.instant g - s.time.vt < 64 * tick24 ∨ 67108864 * tick24 < s.instant g - s.time.vt

/-- The state with a commit armed: the engine holds it, and ARMED_INDEX and ARMED_DIGEST show it. -/
def State.armed (s : State) (g d : Nat) : State :=
  ({ s with engine := { s.engine with armed := some (g, d) } }.put .ARMED_INDEX 0 g).put .ARMED_DIGEST 0 d

/-- The judgement of an arming command, its first case that holds (R635), with the state that the case leaves. -/
def armJudge (w : Who) (g d : Nat) (s : State) : Err × State :=
  if s.engine.armed = some (g, d) then (.ok, s)
  else if s.discordant then s.refuseCommit .discordant
  else if s.engine.armed.isSome then s.refuseCommit .commitArmed
  else if s.armLate g then (s.cause .MJ_CAUSE 0 6).refuseCommit .commitLate
  else if d ≠ s.stagedDigest then (s.cause .MJ_CAUSE 0 7).refuseCommit .commitDigest
  else (.ok, if w.origin = .twin then s.armed g d else (s.armed g d).mirrorWrite .COMMIT_ARM 0 (armValue g d))

theorem exec_commitArm (w : Who) (g d : Nat) (s : State) :
    exec (.commitArm w g d) s = .next (asCommand w .engineer .COMMIT_ARM 0 (armValue g d) (armJudge w g d) s) := rfl

/-! ### The cases of the judgement -/

theorem discordant_iff : s.discordant = true ↔ 3 ≤ s.get .VAT_STATE 0 := decide_eq_true_iff

theorem armJudge_repeated (ha : s.engine.armed = some (g, d)) : armJudge w g d s = (.ok, s) := if_pos ha

theorem armJudge_discordant (ha : s.engine.armed ≠ some (g, d)) (hv : s.discordant = true) :
    armJudge w g d s = s.refuseCommit .discordant := by
  unfold armJudge
  rw [if_neg ha, if_pos hv]

theorem armJudge_other_armed (ha : s.engine.armed ≠ some (g, d)) (hv : ¬ s.discordant = true)
    (hn : s.engine.armed ≠ none) : armJudge w g d s = s.refuseCommit .commitArmed := by
  unfold armJudge
  rw [if_neg ha, if_neg hv, if_pos (Option.isSome_iff_ne_none.2 hn)]

/-- Past the cases that R635 puts first, R32 and R33 decide. -/
theorem armJudge_of_unarmed (hv : ¬ s.discordant = true) (hn : s.engine.armed = none) :
    armJudge w g d s =
      if s.armLate g then (s.cause .MJ_CAUSE 0 6).refuseCommit .commitLate
      else if d ≠ s.stagedDigest then (s.cause .MJ_CAUSE 0 7).refuseCommit .commitDigest
      else (.ok, if w.origin = .twin then s.armed g d else (s.armed g d).mirrorWrite .COMMIT_ARM 0 (armValue g d)) := by
  unfold armJudge
  rw [if_neg (by simp [hn]), if_neg hv, if_neg (by simp [hn])]

/-! ### What a refusal leaves -/

/-- A frame may be widened from what journalling and reporting alone change. -/
theorem State.Within.widen {os : List (Obj × Nat)} {ps : List Part} {t : State} (h : s.Within [] [] t) : s.Within os ps t :=
  ⟨fun _ _ _ hr => h.get List.not_mem_nil hr, fun p _ hr => h.parts p List.not_mem_nil hr⟩

/-- A refusal after reporting alone leaves the engine, counts once, and answers its error. -/
theorem refuseCommit_spec {u : State} (e : Err) (h : s.Within [] [] u) :
    let t := (u.refuseCommit e).2.reply e
    t.answer = ⟨e, .unit⟩ ∧ t.engine = s.engine ∧
    t.get .COMMIT_REFUSALS 0 = countNext 4294967295 (s.get .COMMIT_REFUSALS 0) ∧ s.Within [(.COMMIT_REFUSALS, 0)] [] t := by
  have hcount : u.get .COMMIT_REFUSALS 0 = s.get .COMMIT_REFUSALS 0 := h.get List.not_mem_nil rfl
  refine ⟨rfl, h.parts .engine List.not_mem_nil rfl, ?_, ?_⟩
  · simp [State.refuseCommit, State.bump, hcount]
  · exact State.reply_within _ _ _ (State.bump_within _ _ _ (.inl (List.mem_singleton.2 rfl)) h.widen)

/-- A refusal with a cause of MJ_CAUSE: beside the above, the bit is set and its event raised where the bit was 0. -/
theorem refuseCommit_cause_spec (s : State) (e : Err) {b : Nat} (hb : b ≠ 0) :
    let t := ((s.cause .MJ_CAUSE 0 b).refuseCommit e).2.reply e
    t.answer = ⟨e, .unit⟩ ∧ t.engine = s.engine ∧
    t.get .COMMIT_REFUSALS 0 = countNext 4294967295 (s.get .COMMIT_REFUSALS 0) ∧ bit (t.get .MJ_CAUSE 0) b = true ∧
    (bit (s.get .MJ_CAUSE 0) b = false →
      t.get .EV_COUNT (0xC0 + b) = min (s.get .EV_COUNT (0xC0 + b) + 1) 4294967295) ∧
    s.Within [(.COMMIT_REFUSALS, 0)] [] t := by
  obtain ⟨hanswer, hengine, hcount, hwithin⟩ :=
    refuseCommit_spec e (State.cause_within s .MJ_CAUSE 0 b (.inr rfl) (.refl s))
  refine ⟨hanswer, hengine, hcount, ?_, fun hbit => ?_, hwithin⟩
  · simpa [State.refuseCommit, State.bump] using bit_cause_mj s b
  · simpa [State.refuseCommit, State.bump] using count_cause_mj s hb hbit

theorem exec_commitArm_of_refuse {u : State} {e : Err} (h : s.Open w .engineer .COMMIT_ARM) (he : e ≠ .ok)
    (hj : armJudge w g d s = u.refuseCommit e) :
    exec (.commitArm w g d) s = .next ((u.refuseCommit e).2.reply e) := by
  rw [exec_commitArm, asCommand_of_refused h (by rw [hj]; exact he), hj]
  rfl

/-! ### What an acceptance leaves -/

theorem exec_commitArm_of_ok (h : s.Open w .engineer .COMMIT_ARM) (hj : (armJudge w g d s).1 = .ok) :
    exec (.commitArm w g d) s =
      .next ((armJudge w g d (s.jrnCommand w .COMMIT_ARM 0 (armValue g d))).2.reply .ok) := by
  rw [exec_commitArm, asCommand_of_open h hj]

theorem discordant_jrnCommand {o : Obj} {i : Nat} {v : Val} : (s.jrnCommand w o i v).discordant = s.discordant := by
  simp +decide [State.discordant]

theorem armLate_jrnCommand {o : Obj} {i : Nat} {v : Val} : (s.jrnCommand w o i v).armLate g ↔ s.armLate g := by
  simp +decide [State.armLate, State.instant]

theorem stagedDigest_jrnCommand {o : Obj} {i : Nat} {v : Val} :
    (s.jrnCommand w o i v).stagedDigest = s.stagedDigest :=
  (State.jrnCommand_within s w o i v (.refl s)).stagedDigest

/-- An arming that no case refuses arms the commit, and sends it to the partner where it is not the partner's own (R417). -/
theorem exec_commitArm_accepted (h : s.Open w .engineer .COMMIT_ARM) (hv : ¬ s.discordant = true)
    (hn : s.engine.armed = none) (hl : ¬ s.armLate g) (hd : d = s.stagedDigest) :
    let u := (s.jrnCommand w .COMMIT_ARM 0 (armValue g d)).armed g d
    exec (.commitArm w g d) s =
      .next ((if w.origin = .twin then u else u.mirrorWrite .COMMIT_ARM 0 (armValue g d)).reply .ok) := by
  have hjudge : (armJudge w g d s).1 = .ok := by rw [armJudge_of_unarmed hv hn, if_neg hl, if_neg (not_not_intro hd)]
  rw [exec_commitArm_of_ok h hjudge, armJudge_of_unarmed (by rwa [discordant_jrnCommand]) (by rwa [jrnCommand_engine]),
    if_neg (by rwa [armLate_jrnCommand]), if_neg (by rw [stagedDigest_jrnCommand]; exact not_not_intro hd)]

theorem armed_within {u : State} (h : s.Within [] [] u) :
    s.Within [(.ARMED_INDEX, 0), (.ARMED_DIGEST, 0)] [.engine] (u.armed g d) := by
  unfold State.armed
  refine within_put (within_put ?_ (.inl (by simp))) (.inl (by simp))
  refine ⟨(h.widen (ps := [])).objects, fun p hp hr => ?_⟩
  have hsame := h.parts p List.not_mem_nil hr
  cases p
  case engine => exact absurd (List.mem_singleton.2 rfl) hp
  all_goals exact hsame

/-- Settles O52: the cases of the judgement in the order of R635, each with what its refusal or acceptance leaves. -/
theorem armingOrder : Obligations.ArmingOrder := by
  unfold Obligations.ArmingOrder
  intro w g d s h
  have hjrn : s.Within [] [] (s.jrnCommand w .COMMIT_ARM 0 (armValue g d)) := State.jrnCommand_within _ _ _ _ _ (.refl s)
  split
  next hsame =>
    have hagain : (s.jrnCommand w .COMMIT_ARM 0 (armValue g d)).engine.armed = some (g, d) := by rwa [jrnCommand_engine]
    refine ⟨_, exec_commitArm_of_ok h (by rw [armJudge_repeated hsame]), ?_⟩
    rw [armJudge_repeated hagain]
    exact ⟨rfl, hjrn.parts .engine List.not_mem_nil rfl, hjrn.get List.not_mem_nil rfl, State.reply_within _ _ _ hjrn⟩
  next hsame =>
  split
  next hvat =>
    exact ⟨_, exec_commitArm_of_refuse h (by decide) (armJudge_discordant hsame (discordant_iff.2 hvat)),
      refuseCommit_spec _ (.refl s)⟩
  next hvat =>
  rw [← discordant_iff] at hvat
  split
  next hother =>
    exact ⟨_, exec_commitArm_of_refuse h (by decide) (armJudge_other_armed hsame hvat hother), refuseCommit_spec _ (.refl s)⟩
  next hother =>
  have hnone : s.engine.armed = none := Decidable.not_not.1 hother
  have hjudge := armJudge_of_unarmed (w := w) (g := g) (d := d) hvat hnone
  split
  next hlate =>
    exact ⟨_, exec_commitArm_of_refuse h (by decide) (hjudge.trans (if_pos hlate)),
      refuseCommit_cause_spec s _ (by decide)⟩
  next hlate =>
  rw [if_neg hlate] at hjudge
  split
  next hdigest =>
    exact ⟨_, exec_commitArm_of_refuse h (by decide) (hjudge.trans (if_pos hdigest)),
      refuseCommit_cause_spec s _ (by decide)⟩
  next hdigest =>
    refine ⟨_, exec_commitArm_accepted h hvat hnone hlate (Decidable.not_not.1 hdigest), rfl, ?_⟩
    have harmed := armed_within (g := g) (d := d) hjrn
    split
    next _ =>
      exact ⟨by simp [State.armed, State.reply], by simp [State.armed], by simp [State.armed],
        State.reply_within _ _ _ harmed⟩
    next _ =>
      exact ⟨by simp [State.armed, State.reply], by simp +decide [State.armed], by simp +decide [State.armed],
        State.reply_within _ _ _ (State.mirrorWrite_within _ _ _ _ harmed)⟩

end Sys2Proof.Machine
end

section
/-! SUPPORT. What the writes of time share: a refusal with its event, a frame about a change of the time unit, and what becoming
MASTER leaves of VT, its slew and VT_STATE. -/

namespace Sys2Proof.Machine

open Sys2Proof

variable {r s u : State} {w : Who} {os : List (Obj × Nat)} {ps : List Part}

/-- A change of the time unit alone, where the frame lists it. -/
theorem within_time {t : TimeUnit} (hp : Part.time ∈ ps) (h : r.Within os ps u) : r.Within os ps { u with time := t } := by
  refine ⟨h.objects, fun p hout hr => ?_⟩
  have hsame := h.parts p hout hr
  cases p
  case time => exact absurd hp hout
  all_goals exact hsame

/-- A write that nothing bars and that its body refuses: it is answered with the body's error, and not journalled. -/
theorem asWrite_of_refused {role : Role} {o : Obj} {i : Nat} {shared rws range : Bool} {old new : Val}
    {body : State → Err × State} (h : s.Open w role o) (ha : (shared && s.notActingFor w) = false)
    (hr : (rws && s.running) = false) (hv : range = true) (hb : (body s).1 ≠ .ok) :
    asWrite w role o i shared rws range old new body s = ((body s).2).reply (body s).1 := by
  unfold asWrite
  rw [if_neg (by simp [h.served]), if_neg (Nat.not_lt.2 h.role), h.free, if_neg (by simp), if_neg (by simp [ha]),
    if_neg (by simp [hr]), if_neg (by simp [hv])]
  dsimp only
  split
  next e =>
    rw [e] at hb
    exact absurd rfl hb
  next e => rw [e]

/-- A refused write of time is answered REFUSED, counts TIME_WRITE_REFUSED (EV 0x05) and changes nothing else. -/
theorem refuse_time_spec (s : State) :
    let t := (s.raise 0x05).reply .refused
    t.answer = ⟨.refused, .unit⟩ ∧ t.get .EV_COUNT 0x05 = min (s.get .EV_COUNT 0x05 + 1) 4294967295 ∧
    t.time = s.time ∧ s.Within [] [] t :=
  ⟨rfl, by simp, by simp [State.reply], State.reply_within _ _ _ (State.raise_within _ _ (.refl s))⟩

/-- The record of HOLD that a change of VT_STATE keeps (R56) is beside VT and its slew; so is that of R69. -/
theorem logHold_vt (s : State) (old v : Int) :
    (s.logHold old v).time.vt = s.time.vt ∧ (s.logHold old v).time.vtSlew = s.time.vtSlew := by
  unfold State.logHold
  split <;> exact ⟨rfl, rfl⟩

theorem noteHeldPps_vt (s : State) (old v : Int) :
    (s.noteHeldPps old v).time.vt = s.time.vt ∧ (s.noteHeldPps old v).time.vtSlew = s.time.vtSlew := by
  unfold State.noteHeldPps
  split <;> exact ⟨rfl, rfl⟩

/-- Where VT_STATE becomes MASTER (R52), its records of HOLD change, HOLDOVER_TIME is 0 and EV 0x00 is raised. -/
theorem setVtState_master (h : s.get .VT_STATE 0 ≠ 5) :
    s.setVtState 5 =
      (((((s.put .VT_STATE 0 5).logHold (s.get .VT_STATE 0) 5).noteHeldPps (s.get .VT_STATE 0) 5).put .HOLDOVER_TIME 0 0).raise
        0x00) := by
  unfold State.setVtState
  simp [h]

theorem setVtState_master_vt (s : State) :
    (s.setVtState 5).time.vt = s.time.vt ∧ (s.setVtState 5).time.vtSlew = s.time.vtSlew := by
  by_cases h : s.get .VT_STATE 0 = 5
  · simp [State.setVtState, h]
  · simp [setVtState_master h, noteHeldPps_vt, logHold_vt]

theorem get_setVtState_master (s : State) : (s.setVtState 5).get .VT_STATE 0 = 5 := by
  by_cases h : s.get .VT_STATE 0 = 5
  · simp [State.setVtState, h]
  · have hpps (u : State) (old : Int) : (u.noteHeldPps old 5).get .VT_STATE 0 = u.get .VT_STATE 0 :=
      (State.noteHeldPps_within (os := []) (ps := [.time]) u old 5 (List.mem_singleton.2 rfl) (.refl u)).get List.not_mem_nil rfl
    have hlog (u : State) (old : Int) : (u.logHold old 5).get .VT_STATE 0 = u.get .VT_STATE 0 :=
      (State.logHold_within (os := []) (ps := [.time]) u old 5 (List.mem_singleton.2 rfl) (.refl u)).get List.not_mem_nil rfl
    rw [setVtState_master h, get_raise rfl, get_put, if_neg (by decide), hpps, hlog, get_put, if_pos ⟨rfl, rfl⟩]

end Sys2Proof.Machine
end

section
/-! The writes that move VT (R39, R41, R43): what each accepts, what it refuses, and what it then leaves. -/

namespace Sys2Proof.Machine

open Sys2Proof

variable {s u : State} {w : Who} {v : Int}

/-! ### VT_INCREMENT (R39, R45, R55) -/

/-- The state with VT_INCREMENT written; the value before it is kept with the cycle of the write. -/
def State.writeIncrement (s : State) (v : Int) : State :=
  { s.put .VT_INCREMENT 0 v with time := { s.time with incWrite := some (s.time.cycle, s.get .VT_INCREMENT 0) } }

@[simp] theorem get_writeIncrement : (s.writeIncrement v).get .VT_INCREMENT 0 = v := by simp [State.writeIncrement]

@[simp] theorem writeIncrement_time : (s.writeIncrement v).time =
    { s.time with incWrite := some (s.time.cycle, s.get .VT_INCREMENT 0) } := rfl

/-- What a write of VT_INCREMENT is accepted by: its writer owns the servo, VT is not held, and the value is in range. -/
abbrev State.takesIncrement (s : State) (w : Who) (v : Int) : Prop :=
  s.ownsServo w = true ∧ s.vtHeld = false ∧ incLo ≤ v ∧ v ≤ incHi

/-- The judgement of a write of VT_INCREMENT, with the state it leaves. -/
def incrementJudge (w : Who) (v : Int) (s : State) : Err × State :=
  if s.takesIncrement w v then (.ok, s.writeIncrement v) else (.refused, s.raise 0x05)

theorem incrementJudge_of_takes (h : s.takesIncrement w v) : incrementJudge w v s = (.ok, s.writeIncrement v) := if_pos h

theorem incrementJudge_of_not (h : ¬ s.takesIncrement w v) : incrementJudge w v s = (.refused, s.raise 0x05) := if_neg h

theorem exec_vtIncrementWrite (w : Who) (v : Int) (s : State) :
    exec (.vtIncrementWrite w v) s =
      .next (asWrite w .engineer .VT_INCREMENT 0 true false true (.num (s.get .VT_INCREMENT 0)) (.num v)
        (incrementJudge w v) s) := by
  change execVtIncrementWrite w v s = _
  unfold execVtIncrementWrite
  congr 2
  funext u
  simp [incrementJudge, State.takesIncrement, State.writeIncrement, and_assoc]

/-- An accepted write is journalled, done, and sent to the partner where it is not the partner's own (R417). -/
theorem exec_vtIncrementWrite_accepted (h : s.Open w .engineer .VT_INCREMENT) (hact : s.notActingFor w = false)
    (htakes : s.takesIncrement w v) :
    let u := (s.jrnWriteObj w .VT_INCREMENT 0 false (.num (s.get .VT_INCREMENT 0)) (.num v)).writeIncrement v
    exec (.vtIncrementWrite w v) s =
      .next ((if w.origin != .twin then u.mirrorWrite .VT_INCREMENT 0 (.num v) else u).reply .ok) := by
  rw [exec_vtIncrementWrite, asWrite_of_open h (by simp [hact]) rfl rfl (by rw [incrementJudge_of_takes htakes]),
    incrementJudge_of_takes]
  · rfl
  · rwa [State.takesIncrement, ownsServo_jrnWriteObj, vtHeld_jrnWriteObj]

theorem exec_vtIncrementWrite_refused (h : s.Open w .engineer .VT_INCREMENT) (hact : s.notActingFor w = false)
    (hout : ¬ s.takesIncrement w v) : exec (.vtIncrementWrite w v) s = .next ((s.raise 0x05).reply .refused) := by
  have hjudge := incrementJudge_of_not hout
  rw [exec_vtIncrementWrite, asWrite_of_refused h (by simp [hact]) rfl rfl (by simp [hjudge]), hjudge]

theorem writeIncrement_within (h : s.Within [] [] u) : s.Within [(.VT_INCREMENT, 0)] [.time] (u.writeIncrement v) :=
  within_time (List.mem_singleton.2 rfl) (within_put h.widen (.inl (List.mem_singleton.2 rfl)))

/-! ### VT_SLEW (R41, R45, R55) -/

/-- The state with `d` added to the slew that remains; what remained before is kept with the cycle of the write. -/
def State.slewed (s : State) (d : Int) : State :=
  { s with time := { s.time with vtSlew := s.time.vtSlew + d, vtSlewing := s.time.vtSlewing || d != 0,
                                 slewWrite := some (s.time.cycle, s.time.vtSlew, s.time.vtSlewing) } }

@[simp] theorem slewed_time (s : State) (d : Int) : (s.slewed d).time =
    { s.time with vtSlew := s.time.vtSlew + d, vtSlewing := s.time.vtSlewing || d != 0,
                  slewWrite := some (s.time.cycle, s.time.vtSlew, s.time.vtSlewing) } := rfl

/-- What a VT_SLEW of `d` is accepted by: its writer owns the servo, VT is not held, and the slew that then remains is no more
than STEP_THRESHOLD. -/
abbrev State.takesSlew (s : State) (w : Who) (d : Int) : Prop :=
  (s.ownsServo w = true ∧ s.vtHeld = false) ∧ ((s.time.vtSlew + d).natAbs : Int) ≤ s.get .STEP_THRESHOLD 0 * 2 ^ 24

/-- The judgement of a VT_SLEW, with the state it leaves. -/
def slewJudge (w : Who) (v : Int) (s : State) : Err × State :=
  if s.takesSlew w (v * 256) then (.ok, s.slewed (v * 256)) else (.refused, s.raise 0x05)

theorem slewJudge_of_takes (h : s.takesSlew w (v * 256)) : slewJudge w v s = (.ok, s.slewed (v * 256)) := if_pos h

theorem slewJudge_of_not (h : ¬ s.takesSlew w (v * 256)) : slewJudge w v s = (.refused, s.raise 0x05) := if_neg h

theorem addVtSlew_of_le {d : Int} (h : ((s.time.vtSlew + d).natAbs : Int) ≤ s.get .STEP_THRESHOLD 0 * 2 ^ 24) :
    s.addVtSlew d = some
      { s with time := { s.time with vtSlew := s.time.vtSlew + d, vtSlewing := s.time.vtSlewing || d != 0 } } :=
  if_neg (Int.not_lt.2 h)

theorem addVtSlew_of_gt {d : Int} (h : s.get .STEP_THRESHOLD 0 * 2 ^ 24 < ((s.time.vtSlew + d).natAbs : Int)) :
    s.addVtSlew d = none := if_pos h

theorem exec_vtSlew (w : Who) (v : Int) (s : State) :
    exec (.vtSlew w v) s = .next (asCommand w .engineer .VT_SLEW 0 (.num v) (slewJudge w v) s) := by
  change execVtSlew w v s = _
  unfold execVtSlew
  congr 2
  funext u
  by_cases hown : u.ownsServo w = true ∧ u.vtHeld = false
  · rw [if_pos (by simpa using hown)]
    by_cases hle : ((u.time.vtSlew + v * 256).natAbs : Int) ≤ u.get .STEP_THRESHOLD 0 * 2 ^ 24
    · rw [addVtSlew_of_le hle, slewJudge_of_takes ⟨hown, hle⟩]
      rfl
    · rw [addVtSlew_of_gt (Int.not_le.1 hle), slewJudge_of_not fun htakes => hle htakes.2]
  · rw [if_neg (by simpa using hown), slewJudge_of_not fun htakes => hown htakes.1]

theorem exec_vtSlew_accepted (h : s.Open w .engineer .VT_SLEW) (htakes : s.takesSlew w (v * 256)) :
    exec (.vtSlew w v) s = .next (((s.jrnCommand w .VT_SLEW 0 (.num v)).slewed (v * 256)).reply .ok) := by
  rw [exec_vtSlew, asCommand_of_open h (by rw [slewJudge_of_takes htakes]), slewJudge_of_takes]
  rwa [State.takesSlew, ownsServo_jrnCommand, vtHeld_jrnCommand, jrnCommand_time, get_jrnCommand rfl]

theorem exec_vtSlew_refused (h : s.Open w .engineer .VT_SLEW) (hout : ¬ s.takesSlew w (v * 256)) :
    exec (.vtSlew w v) s = .next ((s.raise 0x05).reply .refused) := by
  have hjudge := slewJudge_of_not hout
  rw [exec_vtSlew, asCommand_of_refused h (by simp [hjudge]), hjudge]

/-! ### VT_LOAD (R43, R52) -/

/-- The state with VT loaded: the slew is cleared, and a hub whose VT_SOURCE is 3 becomes MASTER. -/
def State.loaded (s : State) (vt : Int) : State :=
  if s.get .VT_SOURCE 0 = 3 then (s.loadVt vt).setVtState 5 else s.loadVt vt

/-- The judgement of a VT_LOAD of a time not before 0, with the state it leaves. -/
def loadJudge (v : Int) (s : State) : Err × State :=
  if s.get .FRAME_STATE 0 = 0 then (.ok, s.loaded (v * 256)) else (.refused, s.raise 0x05)

theorem loadJudge_of_stopped (h : s.get .FRAME_STATE 0 = 0) : loadJudge v s = (.ok, s.loaded (v * 256)) := if_pos h

theorem loadJudge_of_not_stopped (h : s.get .FRAME_STATE 0 ≠ 0) : loadJudge v s = (.refused, s.raise 0x05) := if_neg h

theorem exec_vtLoad (w : Who) (s : State) (hv : 0 ≤ v) :
    exec (.vtLoad w v) s = .next (asCommand w .engineer .VT_LOAD 0 (.num v) (loadJudge v) s) := by
  change execVtLoad w v s = _
  unfold execVtLoad
  congr 2
  funext u
  rw [if_neg (Int.not_lt.2 hv)]
  rfl

theorem exec_vtLoad_accepted (h : s.Open w .engineer .VT_LOAD) (hv : 0 ≤ v) (hstopped : s.get .FRAME_STATE 0 = 0) :
    exec (.vtLoad w v) s = .next (((s.jrnCommand w .VT_LOAD 0 (.num v)).loaded (v * 256)).reply .ok) := by
  rw [exec_vtLoad w s hv, asCommand_of_open h (by rw [loadJudge_of_stopped hstopped]), loadJudge_of_stopped]
  rwa [get_jrnCommand rfl]

theorem exec_vtLoad_refused (h : s.Open w .engineer .VT_LOAD) (hv : 0 ≤ v) (hrunning : s.get .FRAME_STATE 0 ≠ 0) :
    exec (.vtLoad w v) s = .next ((s.raise 0x05).reply .refused) := by
  have hjudge := loadJudge_of_not_stopped (v := v) hrunning
  rw [exec_vtLoad w s hv, asCommand_of_refused h (by simp [hjudge]), hjudge]

/-- What a load of VT leaves of VT, its slew and VT_STATE. -/
theorem loaded_spec (u : State) (vt : Int) :
    (u.loaded vt).time.vt = vt ∧ (u.loaded vt).time.vtSlew = 0 ∧
    (u.get .VT_SOURCE 0 = 3 → (u.loaded vt).get .VT_STATE 0 = 5) ∧
    (u.get .VT_SOURCE 0 ≠ 3 → (u.loaded vt).get .VT_STATE 0 = u.get .VT_STATE 0) := by
  by_cases hsource : u.get .VT_SOURCE 0 = 3
  · obtain ⟨hvt, hslew⟩ := setVtState_master_vt (u.loadVt vt)
    rw [State.loaded, if_pos hsource]
    exact ⟨hvt, hslew, fun _ => get_setVtState_master _, fun hne => absurd hsource hne⟩
  · rw [State.loaded, if_neg hsource]
    exact ⟨rfl, rfl, fun he => absurd he hsource, fun _ => rfl⟩

theorem loaded_within (vt : Int) (h : s.Within [] [] u) :
    s.Within [(.VT_STATE, 0), (.HOLDOVER_TIME, 0)] [.time] (u.loaded vt) := by
  have hload := State.loadVt_within u vt (List.mem_singleton.2 rfl) (h.widen (os := [(.VT_STATE, 0), (.HOLDOVER_TIME, 0)]))
  exact within_ite (State.setVtState_within _ _ (by simp) (by simp) (List.mem_singleton.2 rfl) hload) hload

/-! ### The statement -/

/-- Settles O51: each write of time is accepted or refused by the condition its rule gives, and leaves what follows from the
one or the other. -/
theorem timeWritesJudged : Obligations.TimeWritesJudged := by
  unfold Obligations.TimeWritesJudged
  refine ⟨?increment, ?incrementOut, ?slew, ?slewOut, ?load, ?loadOut⟩
  case increment =>
    intro w v s h hact howns hheld hlo hhi
    have hjrn : s.Within [] [] (s.jrnWriteObj w .VT_INCREMENT 0 false (.num (s.get .VT_INCREMENT 0)) (.num v)) :=
      State.jrnWriteObj_within _ _ _ _ _ _ _ (.refl s)
    have hwritten := writeIncrement_within (v := v) hjrn
    refine ⟨_, exec_vtIncrementWrite_accepted h hact ⟨howns, hheld, hlo, hhi⟩, ?_, rfl, ?_, rfl, ?_⟩
    · split <;> simp +decide
    · split <;> simp +decide
    · exact State.reply_within _ _ _ (within_ite (State.mirrorWrite_within _ _ _ _ hwritten) hwritten)
  case incrementOut =>
    intro w v s h hact _ _ hout
    have hrefused : ¬ s.takesIncrement w v := fun ⟨_, _, hlo, hhi⟩ => hout.elim (Int.not_lt.2 hlo) (Int.not_lt.2 hhi)
    obtain ⟨hanswer, hcount, _, hwithin⟩ := refuse_time_spec s
    exact ⟨_, exec_vtIncrementWrite_refused h hact hrefused, hanswer, hcount, hwithin.get List.not_mem_nil rfl, hwithin⟩
  case slew =>
    intro w v s h howns hheld hle
    have hjrn : s.Within [] [] (s.jrnCommand w .VT_SLEW 0 (.num v)) := State.jrnCommand_within _ _ _ _ _ (.refl s)
    refine ⟨_, exec_vtSlew_accepted h ⟨⟨howns, hheld⟩, hle⟩, by simp, rfl, ?_⟩
    exact State.reply_within _ _ _ (within_time (List.mem_singleton.2 rfl) hjrn.widen)
  case slewOut =>
    intro w v s h _ _ hgt
    exact ⟨_, exec_vtSlew_refused h fun ⟨_, hle⟩ => Int.not_le.2 hgt hle, refuse_time_spec s⟩
  case load =>
    intro w v s h hv hstopped
    have hjrn : s.Within [] [] (s.jrnCommand w .VT_LOAD 0 (.num v)) := State.jrnCommand_within _ _ _ _ _ (.refl s)
    obtain ⟨hvt, hslew, hmaster, hother⟩ := loaded_spec (s.jrnCommand w .VT_LOAD 0 (.num v)) (v * 256)
    rw [get_jrnCommand rfl] at hmaster
    rw [get_jrnCommand rfl, get_jrnCommand rfl] at hother
    exact ⟨_, exec_vtLoad_accepted h hv hstopped, hvt, hslew, hmaster, hother, rfl,
      State.reply_within _ _ _ (loaded_within _ hjrn)⟩
  case loadOut =>
    intro w v s h hv hrunning
    exact ⟨_, exec_vtLoad_refused h hv hrunning, refuse_time_spec s⟩

end Sys2Proof.Machine
end

section
/-! SUPPORT. What a converter reports, and what the choice of its next work leaves as it is (R153, R160): beside the reporting of
passes that end and of requests that are refused, it writes no object but those of its own states and counters. -/

namespace Sys2Proof.Machine

open Sys2Proof

variable {s : State} {o p : Obj} {i j n t : Nat} {v clock : Int}

/-! ### Reads through the operations of a converter -/

@[simp] theorem get_updTrier {f : Trier → Trier} : (s.updTrier t f).get o i = s.get o i := rfl

@[simp] theorem get_beginWork {w : TrierWork} {word smp : Nat} {again : Bool} :
    (s.beginWork t w clock word smp again).get o i = s.get o i := rfl

theorem get_ite {c : Prop} {_ : Decidable c} {a b : State} (ha : a.get o i = v) (hb : b.get o i = v) :
    (if c then a else b).get o i = v := by
  split <;> assumption

theorem get_foldl {α : Type} {l : List α} {g : State → α → State} (hg : ∀ u, ∀ x ∈ l, (g u x).get o i = u.get o i) :
    (l.foldl g s).get o i = s.get o i :=
  List.foldlRecOn (motive := fun u : State => u.get o i = s.get o i) l g rfl fun u hu x hx => (hg u x hx).trans hu

@[simp] theorem get_noteCjc {b : Nat} : (s.noteCjc b v).get o i = s.get o i := by
  unfold State.noteCjc
  dsimp only
  split
  · split <;> rfl
  · rfl

@[simp] theorem get_noteTrierCjc : (s.noteTrierCjc t v).get o i = s.get o i :=
  get_foldl fun _ _ _ => get_ite get_noteCjc rfl

@[simp] theorem get_takeCut : (s.takeCut t).get o i = s.get o i :=
  get_ite rfl rfl

@[simp] theorem get_dropSkipped : (s.dropSkipped t).get o i = s.get o i := by
  unfold State.dropSkipped
  split
  · split <;> rfl
  · rfl

@[simp] theorem get_pushWord {x : Trier} {w : BitVec 64} : (s.pushWord t x w).get o i = s.get o i := by
  unfold State.pushWord
  split <;> rfl

@[simp] theorem get_excSample : (s.excSample t v).get o i = s.get o i := by
  unfold State.excSample
  dsimp only
  split
  · split <;> rfl
  · rfl

theorem trierEvent_of_not_fenced (h : s.fenced 4 t = false) : s.trierEvent t n = s.raise n := if_neg (by simp [h])

@[simp] theorem get_trierEvent (h : o.reporting = false) (hne : o ≠ .FENCE_SUPPRESSED) :
    (s.trierEvent t n).get o i = s.get o i :=
  (State.trierEvent_within (os := [(.FENCE_SUPPRESSED, 4)]) (ps := []) s t n (by simp) (.refl s)).get (by simp [hne]) h

/-- The members of a group are among the four converters. -/
theorem lt_four_of_mem_trierGroup {k : Nat} (ht : t < 4) (hk : k ∈ s.trierGroup t) : k < 4 := by
  unfold State.trierGroup at hk
  dsimp only at hk
  split at hk
  · exact List.mem_range.1 (List.mem_filter.1 hk).1
  · rwa [List.mem_singleton.1 hk]

/-! ### What taking up work writes -/

/-- The objects, beside those of reporting, that converters write as they take up work, end a pass or go OFF. -/
def workObjs : List Obj :=
  [.TRIER_STATE, .CAL_STATE, .PASS_COUNT, .PASS_GRID, .INJ_REFUSED, .TRIER_CAUSE, .FENCE_SUPPRESSED]

/-- The events that the same raises: the end of a pass of each converter, and a request refused (R160). -/
def workEvents : List Nat := [0x40, 0x41, 0x42, 0x43, 0x4D]

/-- An object and index that taking up work leaves as they are; of what reporting writes, the counts of other events. A notice
placed raises EV 0xC0 (R476). -/
structure SparedByWork (o : Obj) (i : Nat) : Prop where
  not_work : o ∉ workObjs
  report : o.reporting = false ∨ o = .EV_COUNT ∧ i ∉ 0xC0 :: workEvents

theorem passEvent_mem (ht : t < 4) : 0x40 + t ∈ workEvents := by
  unfold workEvents
  simp only [List.mem_cons]
  omega

section
variable (h : SparedByWork o i)
include h

theorem SparedByWork.get_put (hp : p ∈ workObjs) : (s.put p j v).get o i = s.get o i := by
  rw [State.get_put, if_neg]
  rintro ⟨rfl, -⟩
  exact h.not_work hp

theorem SparedByWork.get_bump (hp : p ∈ workObjs) : (s.bump p j).get o i = s.get o i := h.get_put hp

theorem SparedByWork.get_raise (hn : n ∈ workEvents) : (s.raise n).get o i = s.get o i := by
  obtain hquiet | ⟨rfl, hother⟩ := h.report
  · exact Machine.get_raise hquiet
  · have hnotice : i ≠ 0xC0 := fun e => hother (List.mem_cons.2 (.inl e))
    have hwork : i ∉ workEvents := fun hi => hother (List.mem_cons.2 (.inr hi))
    rw [get_raise_count _ _ _ hnotice, if_neg]
    rintro rfl
    exact hwork hn

theorem SparedByWork.get_trierEvent (hn : n ∈ workEvents) : (s.trierEvent t n).get o i = s.get o i := by
  unfold State.trierEvent
  split
  · exact h.get_bump (by decide)
  · exact h.get_raise hn

theorem SparedByWork.get_refuseInjected : (s.refuseInjected t).get o i = s.get o i :=
  calc (s.refuseInjected t).get o i
    _ = (((s.bump .INJ_REFUSED t).orCause .TRIER_CAUSE t 2).noteCause .TRIER_CAUSE t 2 true).get o i :=
      h.get_trierEvent (by decide)
    _ = ((s.bump .INJ_REFUSED t).orCause .TRIER_CAUSE t 2).get o i := get_noteCause
    _ = (s.bump .INJ_REFUSED t).get o i := h.get_put (by decide)
    _ = s.get o i := h.get_bump (by decide)

theorem SparedByWork.get_trierOff : (s.trierOff t).get o i = s.get o i := by
  unfold State.trierOff
  dsimp only
  rw [get_noteTrierCjc, h.get_put (by decide)]
  split <;> split <;>
    simp [h.get_put (show Obj.CAL_STATE ∈ workObjs by decide), h.get_refuseInjected]

theorem SparedByWork.get_passEnd (ht : t < 4) : (s.passEnd t).get o i = s.get o i := by
  unfold State.passEnd
  rw [h.get_trierEvent (passEvent_mem ht), get_updTrier, h.get_put (by decide), h.get_bump (by decide)]

theorem SparedByWork.get_beginEntry {g : List Nat} {e : Nat} (hg : ∀ k ∈ g, k < 4) :
    (s.beginEntry g e clock).get o i = s.get o i := by
  unfold State.beginEntry
  dsimp only
  split
  · refine get_foldl fun u k hk => ?_
    rw [h.get_put (by decide), h.get_passEnd (hg k (List.mem_filter.1 hk).1)]
  · exact get_foldl fun _ _ _ => get_ite (h.get_put (by decide)) (h.get_put (by decide))

theorem SparedByWork.get_beginPass {g : List Nat} (hg : ∀ k ∈ g, k < 4) : (s.beginPass g clock).get o i = s.get o i :=
  (h.get_beginEntry hg).trans (get_foldl fun _ _ _ => rfl)

theorem SparedByWork.get_beginInjected {w : Nat} : (s.beginInjected t w clock).get o i = s.get o i :=
  h.get_put (by decide)

theorem SparedByWork.get_beginCal {k : Nat} : (s.beginCal t k clock).get o i = s.get o i :=
  (h.get_put (by decide)).trans (h.get_put (by decide))

theorem SparedByWork.get_goOn {e : Nat} (ht : t < 4) : (s.goOn t e clock).get o i = s.get o i :=
  get_ite (h.get_beginEntry fun _ => lt_four_of_mem_trierGroup ht) (h.get_put (by decide))

theorem SparedByWork.get_idleWork (ht : t < 4) : (s.idleWork t clock).get o i = s.get o i :=
  get_ite (h.get_beginPass fun _ => lt_four_of_mem_trierGroup ht) (h.get_put (by decide))

theorem SparedByWork.get_nextWork (ht : t < 4) : (s.nextWork t clock).get o i = s.get o i := by
  have hready : ((s.takeCut t).dropSkipped t).get o i = s.get o i := get_dropSkipped.trans get_takeCut
  unfold State.nextWork
  refine get_ite rfl (get_ite h.get_trierOff (get_ite hready ?_))
  split
  · exact h.get_beginInjected.trans hready
  · exact h.get_beginCal.trans hready
  refine get_ite (h.get_beginCal.trans hready) ?_
  split
  · exact (h.get_goOn ht).trans hready
  · exact (h.get_idleWork ht).trans hready

/-- The choice of the next work of a group leaves what SparedByWork says (R153). -/
theorem SparedByWork.get_nextOfGroup (ht : t < 4) : (s.nextOfGroup t clock).get o i = s.get o i :=
  (get_foldl fun _ _ hk => h.get_nextWork (lt_four_of_mem_trierGroup ht hk)).trans (h.get_nextWork ht)

end

end Sys2Proof.Machine
end

section
/-! Injected requests that are refused, and injected conversions that end (R148). -/

namespace Sys2Proof.Machine

open Sys2Proof

variable {s : State} {w : Who} {t0 : Fin 4} {word k : Nat} {raw : Int}

/-! ### A request refused -/

/-- What R148 refuses a request for: the converter is OFF, the slot is occupied, or the word is reserved. -/
abbrev State.refusesInjected (s : State) (t word : Nat) : Prop :=
  s.get .TRIER_STATE t = 0 ∨ (s.trier t).slot.isSome ∨ !entryGood word

/-- The judgement of an injected request, with the state it leaves. -/
def injectedJudge (t word : Nat) (s : State) : Err × State :=
  if s.refusesInjected t word then (.refused, s.refuseInjected t) else (.ok, s.acceptInjected t word)

theorem injectedJudge_of_refuses (h : s.refusesInjected t0 word) :
    injectedJudge t0 word s = (.refused, s.refuseInjected t0) := if_pos h

theorem exec_injRequest (w : Who) (t0 : Fin 4) (word : Nat) (s : State) :
    exec (.injRequest w t0 word) s =
      .next (asCommand w .engineer .INJ_REQUEST t0 (.num word) (injectedJudge t0 word) s) := rfl

theorem exec_injRequest_refused (h : s.Open w .engineer .INJ_REQUEST) (hout : s.refusesInjected t0 word) :
    exec (.injRequest w t0 word) s = .next ((s.refuseInjected t0).reply .refused) := by
  have hjudge := injectedJudge_of_refuses hout
  rw [exec_injRequest, asCommand_of_refused h (by simp [hjudge]), hjudge]

/-- A refused request changes its counter, its cause and, where the converter is fenced, the count of what the fence suppressed. -/
theorem refuseInjected_within (s : State) (t : Nat) :
    s.Within [(.INJ_REFUSED, t), (.TRIER_CAUSE, t), (.FENCE_SUPPRESSED, 4)] [] (s.refuseInjected t) :=
  State.trierCause_within _ _ _ _ (by simp) (by simp) (State.bump_within _ _ _ (by simp) (.refl s))

theorem get_refuseInjected_count (s : State) (t : Nat) :
    (s.refuseInjected t).get .INJ_REFUSED t = countNext 4294967295 (s.get .INJ_REFUSED t) := by
  simp +decide [State.refuseInjected, State.trierCause, State.orCause, State.bump]

theorem bit_refuseInjected (s : State) (t : Nat) : bit ((s.refuseInjected t).get .TRIER_CAUSE t) 2 = true := by
  simp only [State.refuseInjected, State.trierCause]
  rw [get_trierEvent rfl (by decide), get_noteCause]
  exact bit_orCause

theorem get_refuseInjected_event {t : Nat} (h : s.fenced 4 t = false) :
    (s.refuseInjected t).get .EV_COUNT 0x4D = min (s.get .EV_COUNT 0x4D + 1) 4294967295 := by
  simp only [State.refuseInjected, State.trierCause]
  rw [trierEvent_of_not_fenced (by simpa [State.fenced, State.orCause, State.bump] using h)]
  simp [State.orCause, State.bump]

/-! ### An injected conversion done -/

/-- The state in which an injected conversion has ended and is reported, before the group takes up its next work. -/
def State.injectedDone (s : State) (t : Nat) (raw : Int) : State :=
  let x := s.trier t
  let w := s.resultWord t x raw 0 true
  (((((s.put .INJ_RESULT t w.toNat).pushWord t x w).excSample t (s.trierValue t x raw)).updTrier t
    (fun x => { x with work := .none, restarted := x.pass.isSome && decide (0 < x.aborts) })).trierEvent t (0x48 + t))

theorem exec_trierConversionDone_injected (hover : s.workOver (s.trier t0) = true) (hwork : (s.trier t0).work = .injected k) :
    exec (.trierConversionDone t0 raw) s = .next ((s.injectedDone t0 raw).nextOfGroup t0 (s.trier t0).ends) := by
  change execTrierConversionDone t0 raw s = _
  unfold execTrierConversionDone
  dsimp only
  rw [if_neg (by simp [hover]), hwork]
  rfl

theorem get_injectedDone_result (s : State) (t : Nat) (raw : Int) :
    (s.injectedDone t raw).get .INJ_RESULT t = ((s.resultWord t (s.trier t) raw 0 true).toNat : Int) := by
  simp +decide [State.injectedDone]

theorem get_injectedDone_event (hfence : s.fenced 4 t0 = false) :
    (s.injectedDone t0 raw).get .EV_COUNT (0x48 + t0.val) = min (s.get .EV_COUNT (0x48 + t0.val) + 1) 4294967295 := by
  unfold State.injectedDone
  dsimp only
  rw [trierEvent_of_not_fenced (by simpa [State.fenced] using hfence), get_raise_count _ _ _ (by omega), if_pos rfl]
  simp

theorem sparedByWork_injResult (t : Nat) : SparedByWork .INJ_RESULT t := ⟨by decide, .inl rfl⟩

theorem sparedByWork_injDoneEvent (t0 : Fin 4) : SparedByWork .EV_COUNT (0x48 + t0.val) := by
  refine ⟨by decide, .inr ⟨rfl, ?_⟩⟩
  revert t0
  decide

/-! ### The statement -/

/-- Settles O55: a refusal counts once and is reported, and the work that a group takes up after an injected conversion leaves
the conversion's result and the count of its event. -/
theorem injectedRequests : Obligations.InjectedRequests := by
  unfold Obligations.InjectedRequests
  refine ⟨?refused, ?done⟩
  case refused =>
    intro w t0 word s h hout
    have hrefuses : s.refusesInjected t0 word := by simpa [State.refusesInjected, Option.isSome_iff_ne_none] using hout
    exact ⟨_, exec_injRequest_refused h hrefuses, rfl, get_refuseInjected_count s t0, bit_refuseInjected s t0,
      get_refuseInjected_event, (refuseInjected_within s t0).parts .triers List.not_mem_nil rfl,
      State.reply_within _ _ _ (refuseInjected_within s t0)⟩
  case done =>
    intro t0 raw k s hover hwork hfence
    refine ⟨_, exec_trierConversionDone_injected hover hwork, ?_, ?_⟩
    · rw [(sparedByWork_injResult t0).get_nextOfGroup t0.isLt, get_injectedDone_result]
    · rw [(sparedByWork_injDoneEvent t0).get_nextOfGroup t0.isLt, get_injectedDone_event hfence]

end Sys2Proof.Machine
end

section
/-! SUPPORT. What a report leaves of the mailbox channels and of MJ_CAUSE (R476, R511): it sends notices outbound, so the inbound
side of a channel stays as it is, and it notes no cause and counts no cause event but those it is a report of. -/

namespace Sys2Proof.Machine

open Sys2Proof

variable {r s t : State} {bs cs : List Nat} {b k : Nat}

/-- The inbound side of a channel: its slots, whether the empty interrupt is armed, and the session that owns it. -/
def Mailbox.inbound (m : Mailbox) : List Notice × Bool × Nat := (m.inbox, m.emptyArmed, m.session)

/-- From `r` to `s` the inbound side of every channel, the bits of MJ_CAUSE and the counts of their events (0xC0 and the bit's
number) are the same, but for the bits `bs`. -/
structure State.ReportsOnly (bs : List Nat) (r s : State) : Prop where
  inbound : ∀ k, (s.box k).inbound = (r.box k).inbound
  bits : ∀ m ∉ bs, bit (s.get .MJ_CAUSE 0) m = bit (r.get .MJ_CAUSE 0) m
  counts : ∀ m ∉ bs, s.get .EV_COUNT (0xC0 + m) = r.get .EV_COUNT (0xC0 + m)

namespace State.ReportsOnly

theorem refl (s : State) : s.ReportsOnly bs s := ⟨fun _ => rfl, fun _ _ => rfl, fun _ _ => rfl⟩

theorem trans (h : r.ReportsOnly bs s) (k : s.ReportsOnly bs t) : r.ReportsOnly bs t :=
  ⟨fun i => (k.inbound i).trans (h.inbound i), fun m hm => (k.bits m hm).trans (h.bits m hm),
    fun m hm => (k.counts m hm).trans (h.counts m hm)⟩

theorem mono (h : r.ReportsOnly bs s) (hsub : bs ⊆ cs) : r.ReportsOnly cs s :=
  ⟨h.inbound, fun m hm => h.bits m fun hb => hm (hsub hb), fun m hm => h.counts m fun hb => hm (hsub hb)⟩

theorem of_singleton (h : r.ReportsOnly [b] s) (hb : b ∈ bs) : r.ReportsOnly bs s := h.mono (by simpa using hb)

/-- Where neither the channels nor the objects named change. -/
theorem of_eq (hmail : s.mail = r.mail) (hmj : s.get .MJ_CAUSE 0 = r.get .MJ_CAUSE 0)
    (hcount : ∀ m ∉ bs, s.get .EV_COUNT (0xC0 + m) = r.get .EV_COUNT (0xC0 + m)) : r.ReportsOnly bs s :=
  ⟨fun k => by unfold State.box; rw [hmail], fun _ _ => by rw [hmj], hcount⟩

theorem inbox_eq (h : r.ReportsOnly bs s) : (s.box k).inbox = (r.box k).inbox := congrArg Prod.fst (h.inbound k)

theorem emptyArmed_eq (h : r.ReportsOnly bs s) : (s.box k).emptyArmed = (r.box k).emptyArmed :=
  congrArg (fun x => x.2.1) (h.inbound k)

theorem session_eq (h : r.ReportsOnly bs s) : (s.box k).session = (r.box k).session :=
  congrArg (fun x => x.2.2) (h.inbound k)

end State.ReportsOnly

/-! ### The ring side of an event -/

theorem mail_sendFrame (s : State) (p rank : Nat) (f : Frame) : (s.sendFrame p rank f).mail = s.mail := by
  have hq (u : State) (q : Nat) (x : Frame) : (u.queueFrame q rank x).mail = u.mail := by
    unfold State.queueFrame
    split <;> rfl
  unfold State.sendFrame
  dsimp only
  repeat' split
  all_goals simp [hq, State.bump, State.add64]

theorem mail_sendReport (s : State) (n : Nat) : (s.sendReport n).mail = s.mail := by
  unfold State.sendReport
  dsimp only
  split
  · rfl
  · split
    · rfl
    · exact mail_sendFrame _ _ _ _

theorem mail_deliverRing (s : State) (n : Nat) : (s.deliverRing n).mail = s.mail := by
  have hd (v : EvDelivery) : (s.setEvDelivery n v).mail = s.mail := rfl
  unfold State.deliverRing
  dsimp only
  repeat' split
  all_goals simp [hd, mail_sendReport, State.bump]

theorem reportsOnly_deliverRing (s : State) (n : Nat) : s.ReportsOnly [0] (s.deliverRing n) :=
  .of_eq (mail_deliverRing s n) (mjCause_deliverRing s n) fun m hm =>
    State.deliverRing_ev (r0 := s) s n (fun _ _ _ _ => rfl) .EV_COUNT _ rfl (by simp at hm; omega)

/-! ### A raise -/

theorem mail_countRaise (s : State) (n : Nat) : (s.countRaise n).mail = s.mail := by
  unfold State.countRaise
  dsimp only
  split <;> rfl

theorem reportsOnly_countRaise (s : State) (b : Nat) : s.ReportsOnly [b] (s.countRaise (0xC0 + b)) := by
  refine .of_eq (mail_countRaise s _) (mjCause_countRaise s _) fun m hm => ?_
  have hne : b ≠ m := fun e => hm (List.mem_singleton.2 e.symm)
  unfold State.countRaise
  dsimp only
  split <;> simp [State.setEvDelivery, hne]

theorem bit_withBit_of_ne {y : Int} {m : Nat} (h : m ≠ b) : bit (withBit y b) m = bit y m := by
  unfold bit withBit
  rw [Int.toNat_natCast, Nat.testBit_or, Nat.testBit_two_pow_of_ne h.symm, Bool.or_false]

theorem reportsOnly_orCause (s : State) (b : Nat) : s.ReportsOnly [b] (s.orCause .MJ_CAUSE 0 b) := by
  refine ⟨fun _ => rfl, fun m hm => ?_, fun _ _ => by simp [State.orCause]⟩
  unfold State.orCause
  rw [State.get_put, if_pos ⟨rfl, rfl⟩, bit_withBit_of_ne fun e => hm (List.mem_singleton.2 e)]

theorem reportsOnly_noticePlaced (s : State) : s.ReportsOnly [0] s.noticePlaced := by
  unfold State.noticePlaced
  split
  · exact .refl s
  · exact ((reportsOnly_orCause s 0).trans (reportsOnly_countRaise _ 0)).trans (reportsOnly_deliverRing _ _)

/-- A channel whose inbound side is as before. -/
theorem reportsOnly_setBox {m : Mailbox} (h : m.inbound = (s.box k).inbound) : s.ReportsOnly bs (s.setBox k m) := by
  refine ⟨fun j => ?_, fun _ _ => rfl, fun _ _ => rfl⟩
  rw [box_setBox]
  split
  next e => rw [h, e]
  next => rfl

theorem reportsOnly_placeNotice (s : State) (k : Nat) (mk : Nat → Notice) : s.ReportsOnly [0] (s.placeNotice k mk) := by
  unfold State.placeNotice
  dsimp only
  split
  · exact (reportsOnly_setBox (by rfl)).trans (reportsOnly_noticePlaced _)
  · exact reportsOnly_setBox rfl

theorem reportsOnly_setEvDelivery (s : State) (n : Nat) (v : EvDelivery) : s.ReportsOnly bs (s.setEvDelivery n v) :=
  .of_eq rfl rfl fun _ _ => rfl

theorem reportsOnly_postEvent (s : State) (n : Nat) : s.ReportsOnly [0] (s.postEvent n) :=
  (reportsOnly_setEvDelivery _ _ _).trans (reportsOnly_placeNotice _ _ _)

theorem reportsOnly_countNotice (s : State) (n : Nat) : s.ReportsOnly bs (s.countNotice n) :=
  List.foldlRecOn (motive := s.ReportsOnly bs) _ _ (.refl s) fun _ hu _ _ => hu.trans (reportsOnly_setBox rfl)

theorem reportsOnly_deliverMbx (s : State) (n : Nat) : s.ReportsOnly [0] (s.deliverMbx n) := by
  have hpost (v : EvDelivery) : s.ReportsOnly [0] ((s.setEvDelivery n v).postEvent n) :=
    (reportsOnly_setEvDelivery s n v).trans (reportsOnly_postEvent _ n)
  unfold State.deliverMbx
  dsimp only
  split
  · split
    · exact .of_eq rfl (by simp [State.bump]) fun _ _ => by simp [State.bump]
    · split
      · exact reportsOnly_countNotice s n
      · split
        · split
          · exact reportsOnly_setEvDelivery s n _
          · exact hpost _
        · exact hpost _
  · exact .refl s

/-- The event of bit `b` of MJ_CAUSE, raised: beside its own count, that of a notice placed may rise. -/
theorem reportsOnly_raise (s : State) (hb : b ∈ bs) (h0 : 0 ∈ bs) :
    s.ReportsOnly bs (s.raise (0xC0 + b)) := by
  unfold State.raise
  rw [if_neg (by omega)]
  exact (((reportsOnly_countRaise s b).of_singleton hb).trans ((reportsOnly_deliverRing _ _).of_singleton h0)).trans
    ((reportsOnly_deliverMbx _ _).of_singleton h0)

/-! ### Causes of MJ_CAUSE and the journal -/

theorem reportsOnly_noteCause (s : State) (o : Obj) (i b : Nat) (raised : Bool) :
    s.ReportsOnly bs (s.noteCause o i b raised) := by
  refine .of_eq ?_ get_noteCause fun _ _ => get_noteCause
  unfold State.noteCause
  split <;> rfl

theorem reportsOnly_cause (s : State) (hb : b ∈ bs) (h0 : 0 ∈ bs) : s.ReportsOnly bs (s.cause .MJ_CAUSE 0 b) := by
  unfold State.cause
  split
  · exact reportsOnly_noteCause _ _ _ _ _
  · exact (((reportsOnly_orCause s b).of_singleton hb).trans (reportsOnly_noteCause _ _ _ _ _)).trans
      (reportsOnly_raise _ hb h0)

/-- The causes that an entry of the journal may report: a notice placed, the alert of R499 and a slot that fails (R497). -/
def journalCauses : List Nat := [0, 8, 10]

theorem reportsOnly_journal {j : Journal} : s.ReportsOnly bs { s with journal := j } := .of_eq rfl rfl fun _ _ => rfl

theorem reportsOnly_bump {o : Obj} {i : Nat} (hm : o ≠ .MJ_CAUSE) (he : o ≠ .EV_COUNT) : s.ReportsOnly bs (s.bump o i) :=
  .of_eq rfl (by simp [State.bump, hm]) fun _ _ => by simp [State.bump, he]

theorem reportsOnly_jrnStore (s : State) (entry : List Byte) : s.ReportsOnly journalCauses (s.jrnStore entry) := by
  unfold State.jrnStore
  dsimp only
  split
  · exact .refl s
  · have hstored (u : State) (c : Prop) [Decidable c] (h : s.ReportsOnly journalCauses u) :
        s.ReportsOnly journalCauses (if c then u.cause .MJ_CAUSE 0 8 else u) := by
      split
      · exact h.trans (reportsOnly_cause _ (by decide) (by decide))
      · exact h
    refine hstored _ _ ?_
    split
    · exact (reportsOnly_journal.trans (reportsOnly_bump (by decide) (by decide))).trans
        (reportsOnly_cause _ (by decide) (by decide))
    · exact reportsOnly_journal

theorem reportsOnly_jrnAnchor (s : State) : s.ReportsOnly journalCauses s.jrnAnchor :=
  (reportsOnly_jrnStore _ _).trans reportsOnly_journal

theorem reportsOnly_jrnWrite (s : State) (kind source index sub : Nat) (staged part : Bool) (old new : List Byte) :
    s.ReportsOnly journalCauses (s.jrnWrite kind source index sub staged part old new) := by
  have hanchor (u : State) (c : Prop) [Decidable c] : u.ReportsOnly journalCauses (if c then u.jrnAnchor else u) := by
    split
    · exact reportsOnly_jrnAnchor u
    · exact .refl u
  exact ((hanchor s _).trans (hanchor _ _)).trans (reportsOnly_jrnStore _ _)

theorem reportsOnly_jrnCommand (s : State) (w : Who) (o : Obj) (i : Nat) (v : Val) :
    s.ReportsOnly journalCauses (s.jrnCommand w o i v) := by
  unfold State.jrnCommand
  exact reportsOnly_jrnWrite _ _ _ _ _ _ _ _ _

/-! ### The operations of a channel -/

theorem boundTo_jrnCommand {w : Who} {o : Obj} {i : Nat} {v : Val} (hs : s.boundTo w k = true) :
    (s.jrnCommand w o i v).boundTo w k = true := by
  unfold State.boundTo at *
  rwa [get_jrnCommand rfl, (reportsOnly_jrnCommand s w o i v).session_eq]

/-- The crossing test reports, beside a notice placed, that the channel became CROSSED (R481). -/
theorem reportsOnly_crossTest (s : State) (k : Nat) : s.ReportsOnly [0, 3] (s.crossTest k) := by
  unfold State.crossTest
  dsimp only
  split
  · have hcrossed : s.ReportsOnly [0, 3] (s.put .MBX_STATE k 2) := .of_eq rfl (by simp) fun _ _ => by simp
    exact ((hcrossed.trans (reportsOnly_setBox (by rfl))).trans (reportsOnly_bump (by decide) (by decide))).trans
      (reportsOnly_cause _ (by decide) (by decide))
  · split
    · exact .of_eq rfl (by simp) fun _ _ => by simp
    · exact .refl s

theorem emptyTest_of_inbox (h : (s.box k).inbox ≠ []) : s.emptyTest k = s := by
  unfold State.emptyTest
  simp [h]

/-- The state in which the empty interrupt of a channel is disarmed. -/
def State.disarmBox (s : State) (k : Nat) : State := s.setBox k { s.box k with emptyArmed := false }

theorem box_disarmBox : (s.disarmBox k).box k = { s.box k with emptyArmed := false } := by simp [State.disarmBox]

theorem get_disarmBox {o : Obj} {i : Nat} : (s.disarmBox k).get o i = s.get o i := rfl

/-- The empty test of an armed channel whose inbound slots are empty disarms it and notes cause bit 1 (R479). -/
theorem emptyTest_of_empty (ha : (s.box k).emptyArmed = true) (hi : (s.box k).inbox = []) :
    s.emptyTest k = (s.disarmBox k).cause .MJ_CAUSE 0 1 := by
  unfold State.emptyTest
  simp [ha, hi, State.disarmBox]

end Sys2Proof.Machine
end

section
/-! The empty interrupt of a mailbox channel (R479). -/

namespace Sys2Proof.Machine

open Sys2Proof

variable {r s u : State} {w : Who} {k : Nat} {os : List (Obj × Nat)} {ps : List Part}

/-- What follows the writing of a channel: the empty test (R479), then the crossing test (R481). -/
def State.testBox (s : State) (k : Nat) : State := (s.emptyTest k).crossTest k

theorem State.testBox_within (h0 : (.MBX_STATE, k) ∈ os) (h1 : (.MBX_CROSSINGS, k) ∈ os) (h : r.Within os ps u) :
    r.Within os ps (u.testBox k) :=
  State.crossTest_within _ _ h0 h1 (State.emptyTest_within _ _ h)

/-- With a notice in an inbound slot the interrupt stays as it is. -/
theorem emptyArmed_testBox_of_inbox (h : (s.box k).inbox ≠ []) : ((s.testBox k).box k).emptyArmed = (s.box k).emptyArmed := by
  unfold State.testBox
  rw [(reportsOnly_crossTest _ k).emptyArmed_eq, emptyTest_of_inbox h]

/-- With all inbound slots empty an armed interrupt is raised and disarmed. -/
theorem testBox_of_empty (ha : (s.box k).emptyArmed = true) (hi : (s.box k).inbox = []) :
    ((s.testBox k).box k).inbox = [] ∧ ((s.testBox k).box k).emptyArmed = false ∧
    bit ((s.testBox k).get .MJ_CAUSE 0) 1 = true ∧
    (bit (s.get .MJ_CAUSE 0) 1 = false →
      (s.testBox k).get .EV_COUNT 0xC1 = min (s.get .EV_COUNT 0xC1 + 1) 4294967295) := by
  unfold State.testBox
  rw [emptyTest_of_empty ha hi]
  have hcause : (s.disarmBox k).ReportsOnly [0, 1] ((s.disarmBox k).cause .MJ_CAUSE 0 1) :=
    reportsOnly_cause _ (by decide) (by decide)
  have hcross := reportsOnly_crossTest ((s.disarmBox k).cause .MJ_CAUSE 0 1) k
  refine ⟨?_, ?_, ?_, fun hbit => ?_⟩
  · rw [hcross.inbox_eq, hcause.inbox_eq, box_disarmBox, hi]
  · rw [hcross.emptyArmed_eq, hcause.emptyArmed_eq, box_disarmBox]
  · rw [hcross.bits 1 (by decide)]
    exact bit_cause_mj _ _
  · rw [hcross.counts 1 (by decide), count_cause_mj _ (by decide) (by rwa [get_disarmBox]), get_disarmBox]

/-! ### The commands -/

/-- The state of a channel armed by its session, before the tests. -/
def State.armBox (s : State) (k : Nat) : State := s.useBox.setBox k { s.box k with emptyArmed := true }

@[simp] theorem get_useBox {o : Obj} {i : Nat} : s.useBox.get o i = s.get o i := by
  unfold State.useBox State.abortItems
  split <;> rfl

theorem get_armBox {o : Obj} {i : Nat} : (s.armBox k).get o i = s.get o i := get_useBox

theorem box_armBox : (s.armBox k).box k = { s.box k with emptyArmed := true } := by simp [State.armBox]

/-- An arming that nothing bars, by the session of the channel: it is journalled, carried out and answered OK. -/
theorem exec_mbxEmptyArm {k : Fin 8} (h : s.Open w .operator .MBX_EMPTY_ARM) (hk : s.boundTo w k = true) :
    exec (.mbxEmptyArm w k) s =
      .next ((((s.jrnCommand w .MBX_EMPTY_ARM k .unit).armBox k).testBox k).reply .ok) := by
  change Host.Outcome.next (asCommand _ _ _ _ _ _ _) = _
  rw [asCommand_of_open h (by rw [if_pos hk]), if_pos (boundTo_jrnCommand hk)]
  rfl

theorem armBox_within (h : r.Within os ps u) (ht : Part.test ∈ ps) : r.Within os ps (u.armBox k) :=
  State.setBox_within _ _ _ (State.useBox_within _ ht h)

theorem mbxEmptyArm_within (s : State) (w : Who) (k : Nat) :
    s.Within [(.MBX_STATE, k), (.MBX_CROSSINGS, k)] [.test]
      ((((s.jrnCommand w .MBX_EMPTY_ARM k .unit).armBox k).testBox k).reply .ok) :=
  State.reply_within _ _ _ (State.testBox_within (by simp) (by simp)
    (armBox_within (State.jrnCommand_within _ _ _ _ _ (.refl s)) (by simp)))

/-- The state in which the service has taken the oldest inbound notice of a channel, before the tests. -/
def State.takeInbound (s : State) (k : Nat) : State := s.setBox k { s.box k with inbox := (s.box k).inbox.drop 1 }

theorem box_takeInbound : (s.takeInbound k).box k = { s.box k with inbox := (s.box k).inbox.drop 1 } := by
  simp [State.takeInbound]

theorem get_takeInbound {o : Obj} {i : Nat} : (s.takeInbound k).get o i = s.get o i := rfl

theorem takeInbound_within (h : r.Within os ps u) : r.Within os ps (u.takeInbound k) := State.setBox_within _ _ _ h

/-- The service takes a notice of an open channel that holds none back. -/
theorem exec_mbxServiceTake {k : Fin 8} (hs : s.get .MBX_STATE k ≠ 0) (hh : (s.box k).held = []) :
    exec (.mbxServiceTake k) s = .next ((s.takeInbound k).testBox k) := by
  change execMbxServiceTake k s = _
  unfold execMbxServiceTake
  dsimp only
  rw [if_neg (by simp [hs, hh])]
  rfl

/-! ### The statement -/

/-- Settles O53: journalling the arming leaves the inbound side of the channel, bit 1 of MJ_CAUSE and the count of EV 0xC1, and
the tests after the write find the slots as the write left them. -/
theorem emptyInterrupt : Obligations.EmptyInterrupt := by
  unfold Obligations.EmptyInterrupt
  refine ⟨?waiting, ?empty, ?taken⟩
  case waiting =>
    intro w k s h hk hi
    have hjrn := reportsOnly_jrnCommand s w .MBX_EMPTY_ARM k .unit
    refine ⟨_, exec_mbxEmptyArm h hk, ?_, rfl, mbxEmptyArm_within s w k⟩
    rw [box_reply, emptyArmed_testBox_of_inbox (by rwa [box_armBox, hjrn.inbox_eq]), box_armBox]
  case empty =>
    intro w k s h hk hi
    have hjrn := reportsOnly_jrnCommand s w .MBX_EMPTY_ARM k .unit
    obtain ⟨-, hdisarmed, hbit, hcount⟩ :=
      testBox_of_empty (s := (s.jrnCommand w .MBX_EMPTY_ARM k .unit).armBox k) (k := k)
        (by rw [box_armBox]) (by rw [box_armBox, hjrn.inbox_eq, hi])
    rw [get_armBox, get_armBox, hjrn.bits 1 (by decide), hjrn.counts 1 (by decide)] at hcount
    exact ⟨_, exec_mbxEmptyArm h hk, by rwa [box_reply], by rwa [get_reply], by rwa [get_reply], rfl,
      mbxEmptyArm_within s w k⟩
  case taken =>
    intro k x s hs hh hi ha
    obtain ⟨hinbox, hdisarmed, hbit, hcount⟩ :=
      testBox_of_empty (s := s.takeInbound k) (k := k) (by rw [box_takeInbound, ha]) (by rw [box_takeInbound, hi]; rfl)
    exact ⟨_, exec_mbxServiceTake hs hh, hinbox, hdisarmed, hbit, hcount,
      State.testBox_within (by simp) (by simp) (takeInbound_within (.refl s))⟩

end Sys2Proof.Machine
end

section
/-! Fence commands without effect: the last core, an instance fenced already, and one not fenced (R518). -/

namespace Sys2Proof.Machine

open Sys2Proof

variable {s : State} {w : Who} {role : Role} {o : Obj} {i b n cls : Nat} {v : Val}

/-! ### Reads of a fence through the operations that report -/

@[simp] theorem fenced_jrnCommand : (s.jrnCommand w o i v).fenced cls n = s.fenced cls n := by
  unfold State.fenced
  rw [get_jrnCommand rfl]

theorem fenced_cause (ho : o ≠ .FENCED) : (s.cause o i b).fenced cls n = s.fenced cls n := by
  unfold State.fenced
  rw [get_cause rfl ho.symm]

/-- A cause bit that goes from 0 to 1 raises its event once (R108); the count of EV 0xC0 may rise by a notice placed too. -/
theorem count_cause (he : causeEvent o i b = some n) (hn : n ≠ 0xC0) (h : bit (s.get o i) b = false) :
    (s.cause o i b).get .EV_COUNT n = min (s.get .EV_COUNT n + 1) 4294967295 := by
  have ho : o ≠ .EV_COUNT := by
    rintro rfl
    cases he
  unfold State.cause State.raiseOf
  rw [if_neg (by simp [h]), he]
  dsimp only
  rw [get_raise_count _ _ _ hn, if_pos rfl, get_noteCause]
  simp [State.orCause, ho]

/-- A command that is accepted and leaves everything as it is, before its journal entry and after it, is answered OK and
changes nothing else. -/
theorem asCommand_unchanged {body : State → Err × State} (h : s.Open w role o) (hb : body s = (.ok, s))
    (hjrn : body (s.jrnCommand w o i v) = (.ok, s.jrnCommand w o i v)) :
    (asCommand w role o i v body s).answer = ⟨.ok, .unit⟩ ∧ s.Within [] [] (asCommand w role o i v body s) := by
  rw [asCommand_of_open h (by rw [hb]), hjrn]
  exact ⟨rfl, State.reply_within _ _ _ (State.jrnCommand_within _ _ _ _ _ (.refl s))⟩

/-! ### FENCE_SET (R513, R518, R521) -/

/-- The judgement of a FENCE_SET, with the state it leaves. -/
def fenceSetJudge (cls n : Nat) (s : State) : Err × State :=
  if fenceInstances cls ≤ n then (.outOfRange, s)
  else if s.fenced cls n || (s.fenceTick cls n).lifted then (.ok, s)
  else if cls = 9 && !s.otherCore n then (.refused, s.cause .FI_CAUSE 0 2)
  else (.ok, s.fenceBy cls n 1)

theorem exec_fenceSet (w : Who) (cls : Fin 10) (n : Nat) (s : State) :
    exec (.fenceSet w cls n) s =
      .next (asCommand w .service .FENCE_SET cls (.num n) (fenceSetJudge cls n) s) := rfl

theorem fenceSetJudge_of_fenced (hn : n < fenceInstances cls) (hf : s.fenced cls n = true) :
    fenceSetJudge cls n s = (.ok, s) := by
  unfold fenceSetJudge
  rw [if_neg (Nat.not_le.2 hn), if_pos (by simp [hf])]

theorem fenceSetJudge_last_core (hn : n < fenceInstances 9) (hf : s.fenced 9 n = false)
    (hl : (s.fenceTick 9 n).lifted = false) (hother : s.fenced 9 (1 - n) = true) :
    fenceSetJudge 9 n s = (.refused, s.cause .FI_CAUSE 0 2) := by
  unfold fenceSetJudge State.otherCore
  rw [if_neg (Nat.not_le.2 hn), if_neg (by simp [hf, hl]), if_pos (by simp [hother])]

/-! ### FENCE_LIFT (R518, R520, R521) -/

/-- The judgement of a FENCE_LIFT, with the state it leaves. -/
def fenceLiftJudge (cls n : Nat) (s : State) : Err × State :=
  if fenceInstances cls ≤ n then (.outOfRange, s)
  else if !s.fenced cls n then (.ok, s)
  else if (s.fenceTick cls n).auto then (.refused, s.cause .FI_CAUSE 0 2)
  else
    let s := s.setFenceTick cls n { s.fenceTick cls n with lifted := true }
    (.ok, ((s.leaveFence cls n).recover).liftEffect cls n)

theorem exec_fenceLift (w : Who) (cls : Fin 10) (n : Nat) (s : State) :
    exec (.fenceLift w cls n) s =
      .next (asCommand w .service .FENCE_LIFT cls (.num n) (fenceLiftJudge cls n) s) := rfl

theorem fenceLiftJudge_of_not_fenced (hn : n < fenceInstances cls) (hf : s.fenced cls n = false) :
    fenceLiftJudge cls n s = (.ok, s) := by
  unfold fenceLiftJudge
  rw [if_neg (Nat.not_le.2 hn), if_pos (by simp [hf])]

/-! ### The statement -/

/-- Settles O54: the last core is refused with FENCE_REFUSED, and each of the other two commands changes nothing before or
after its journal entry. -/
theorem fencesWithoutEffect : Obligations.FencesWithoutEffect := by
  unfold Obligations.FencesWithoutEffect
  refine ⟨?lastCore, ?fenced, ?notFenced⟩
  case lastCore =>
    intro w cls n s h hcls hn hf hl hother
    obtain rfl : cls = 9 := Fin.ext hcls
    have hjudge : fenceSetJudge (9 : Fin 10) n s = (.refused, s.cause .FI_CAUSE 0 2) :=
      fenceSetJudge_last_core hn hf hl hother
    refine ⟨(s.cause .FI_CAUSE 0 2).reply .refused, ?_, rfl, ?_, bit_cause rfl, count_cause rfl (by decide), ?_⟩
    · rw [exec_fenceSet, asCommand_of_refused h (by rw [hjudge]; exact Err.noConfusion), hjudge]
    · exact (fenced_cause (by decide)).trans hf
    · exact State.reply_within _ _ _ (State.cause_within _ _ _ _ (.inl (List.mem_singleton.2 rfl)) (.refl s))
  case fenced =>
    intro w cls n s h hn hf
    exact ⟨_, exec_fenceSet w cls n s, asCommand_unchanged h (fenceSetJudge_of_fenced hn hf)
      (fenceSetJudge_of_fenced hn (fenced_jrnCommand.trans hf))⟩
  case notFenced =>
    intro w cls n s h hn hf
    exact ⟨_, exec_fenceLift w cls n s, asCommand_unchanged h (fenceLiftJudge_of_not_fenced hn hf)
      (fenceLiftJudge_of_not_fenced hn (fenced_jrnCommand.trans hf))⟩

end Sys2Proof.Machine
end
